-- ==== Sys2Proof/Word.lean ====
section
/-!
DEFINITION. The word types of the block.
-/

namespace Sys2Proof

/-- A byte (R8). -/
abbrev Byte := BitVec 8

/-- A 32-bit register word (16_registers.md). -/
abbrev Word := BitVec 32

end Sys2Proof
end

