-- ==== Sys2Proof/Machine/Bits.lean ====
section
/-!
DEFINITION. Bit-field access, byte order and saturating counts, and the sparse table that every
array of the block is held in.
-/

namespace Sys2Proof

/-- `n` bits of `w` from bit `lo` up, as a number (R8: bit 0 is the least significant bit). -/
def bitsOf (w lo n : Nat) : Nat := (w >>> lo) % 2 ^ n

/-- Bit `i` of `w`. -/
def bitOf (w i : Nat) : Bool := w.testBit i

/-- `w` with its `n` bits from `lo` up replaced by `v` (R131: a write changes only what it names). -/
def putBits (w lo n v : Nat) : Nat :=
  w - (bitsOf w lo n) * 2 ^ lo + (v % 2 ^ n) * 2 ^ lo

/-- A flag as a bit. -/
def bit (b : Bool) : Nat := if b then 1 else 0

/-- A count that stops at `max` (the saturating counters of the register tables). -/
def satAdd (max a b : Nat) : Nat := if a + b ≤ max then a + b else max

/-- The little-endian number held by a list of bytes (R9). -/
def ofBytes : List Byte → Nat
  | [] => 0
  | b :: r => b.toNat + 256 * ofBytes r

/-- The `n` lowest bytes of a number, lowest first (R9). -/
def toBytes : Nat → Nat → List Byte
  | 0, _ => []
  | n + 1, w => BitVec.ofNat 8 w :: toBytes n (w / 256)

/-- The number of ones among the low `n` bits of `w`. -/
def ones : Nat → Nat → Nat
  | 0, _ => 0
  | n + 1, w => w % 2 + ones n (w / 2)

/-- A sparse array: entries sorted by index, an index that is not listed holding a default. -/
abbrev Tbl (α : Type) := List (Nat × α)

namespace Tbl

/-- The entry listed for an index. -/
def find? {α : Type} : Tbl α → Nat → Option α
  | [], _ => none
  | (j, a) :: r, k => if j = k then some a else find? r k

/-- The entry of an index, `d` where none is listed. -/
def get {α : Type} (t : Tbl α) (d : α) (k : Nat) : α := (find? t k).getD d

/-- Write one entry, keeping the list sorted. -/
def set {α : Type} : Tbl α → Nat → α → Tbl α
  | [], k, v => [(k, v)]
  | (j, a) :: r, k, v =>
    if k < j then (k, v) :: (j, a) :: r
    else if k = j then (k, v) :: r
    else (j, a) :: set r k v

/-- Remove the entry of an index. -/
def erase {α : Type} (t : Tbl α) (k : Nat) : Tbl α := t.filter (fun e => e.1 != k)

/-- Change one entry. -/
def modify {α : Type} (t : Tbl α) (d : α) (k : Nat) (f : α → α) : Tbl α := set t k (f (get t d k))

/-- The listed indices strictly rise: the one form a table has. -/
def sorted {α : Type} : Tbl α → Bool
  | [] => true
  | [_] => true
  | (j, _) :: (k, b) :: r => decide (j < k) && sorted ((k, b) :: r)

end Tbl

end Sys2Proof
end

