-- ==== Sys2Proof/Config.lean ====
section
/-!
DEFINITION. What an implementation fixes (the configuration of the chip) and the free values:
constants without a body, which stand for what the spec leaves open.
-/

namespace Sys2Proof

/-- The three configurations (R2). -/
inductive Model where
  | tm64 | tm128 | tm256
deriving DecidableEq, Repr

namespace Model

/-- Clusters (Table 0-1). -/
def clusters : Model → Nat
  | .tm64 => 2 | .tm128 => 4 | .tm256 => 8

/-- Engine ports (Table 0-1). -/
def engines : Model → Nat
  | .tm64 => 16 | .tm128 => 32 | .tm256 => 48

/-- Link ports (Table 0-1). -/
def links : Model → Nat
  | .tm64 => 2 | .tm128 => 4 | .tm256 => 8

/-- Data capacity in bytes: 32 MiB for each cluster (Table 0-1). -/
def capacity (m : Model) : Nat := m.clusters * 2 ^ 25

/-- An initiator number the configuration has (R19, Table 1-2). -/
def hasInitiator (m : Model) (p : Nat) : Bool :=
  decide (p < m.engines) || (decide (48 ≤ p) && decide (p < 56)) ||
    (decide (56 ≤ p) && decide (p < 56 + m.links)) || p == 64

/-- A global sub-port the configuration has (R23). -/
def hasSubport (m : Model) (s : Nat) : Bool := decide (s < 8 * m.clusters)

/-- A global bank the configuration has (R24). -/
def hasBank (m : Model) (g : Nat) : Bool := decide (g < 16 * m.clusters)

/-- The half that holds a cluster: false for H0, true for H1 (R21). -/
def halfOf (m : Model) (c : Nat) : Bool := decide (m.clusters / 2 ≤ c)

end Model

/-- The byte an array cell holds before anything has written it after the power-up `n` (R338:
undefined). Free. -/
opaque Config.powerUp (n addr : Nat) : BitVec 8

/-- What the lanes of a read beat hold that the request did not ask for (R105: undefined). Free. -/
opaque Config.freeBeat (n : Nat) : BitVec 1024

/-- The signature that the ROM holds for a lane of a test (R354: given by no table). Free. -/
opaque Config.bistLane (test lane : Nat) : BitVec 64

/-- The signature that the ROM holds for the LOGIC test (R354). Free. -/
opaque Config.bistLogic : BitVec 64

/-- Whether the WAKE_AIN comparator stands at its trip level, at time `t` after power-up `n` (R379: an
analogue input, its level no row of the table). Free. -/
opaque Config.ainLevel (n t : Nat) : Bool

/-- A byte of the FLASH device outside the areas of Table 15-1. Free. -/
opaque Config.flashRest (a : Nat) : BitVec 8

/-- The level of a serial output of the boundary at time `t` after power-up `n`: the manual gives the frames of FLASH, AVS,
SVC, MON and JTAG, not their bits in time (R447). Free. -/
opaque Config.lineLevel (line n t : Nat) : Bool

/-- A fresh free value: one for each count of `State.fresh`. -/
opaque Config.freeWord (n : Nat) : BitVec 64

end Sys2Proof
end

