-- ==== Sys2Proof/Machine/PartsControl.lean ====
section
/-!
DEFINITION. The state of the control path (02_control_path.md) and of the address tables
(03_regions_views.md): command sources, packets, records, rings, windows, the Drover's jobs,
regions and remote windows.
-/

namespace Sys2Proof.Machine

/-- Status codes (Table 2-4). -/
inductive Status where
  | ok | defer | wake | badOpcode | badParam | notReady | busy | perm | lifecycle | overcommit
  | decerr | spoil | safeHold | abandoned | timeout | underflow | saturated | remoteLost
  | stepRange | internal
deriving DecidableEq, Repr

/-- The number of a status code (Table 2-4). -/
def Status.code : Status → Nat
  | .ok => 0x00 | .defer => 0x01 | .wake => 0x02 | .badOpcode => 0x10 | .badParam => 0x11
  | .notReady => 0x12 | .busy => 0x13 | .perm => 0x14 | .lifecycle => 0x15 | .overcommit => 0x16
  | .decerr => 0x20 | .spoil => 0x21 | .safeHold => 0x22 | .abandoned => 0x30 | .timeout => 0x31
  | .underflow => 0x32 | .saturated => 0x33 | .remoteLost => 0x34 | .stepRange => 0x35
  | .internal => 0x3F

/-- Where a command packet enters the block (R42, Table 2-1). A mailbox packet comes with the
context and the tag of the CMD request that carries it (R66). -/
inductive Source where
  | sp
  | ctl
  | ring (n : Nat)
  | mbox (port ctx tag : Nat)
deriving DecidableEq, Repr

/-- A command packet with its source: 16 header bytes, then the parameters (R44), byte 0 in bits
[7:0] (R9). -/
structure Cmd where
  src : Source
  pkt : BitVec 2048
deriving DecidableEq, Repr

/-- How a command ended, or DEFER: what its status record holds beside the echo (R46). -/
structure Result where
  status : Status
  detail : Nat := 0
  result : Nat := 0
  /-- The address of a range for which DECERR or PERM is answered (R49, R87): no part of the record. -/
  refused : Option Nat := none
deriving DecidableEq, Repr

/-- What a deferred command holds until its final record (R53). -/
inductive Held where
  | region (i : Nat)
  | population (i : Nat)
  | bank (cluster bank : Nat)
  | slot (cluster slot : Nat)
  | cluster (c : Nat)
  | linkPort (n : Nat)
  | opPoint
  | image (slot : Nat)
deriving DecidableEq, Repr

/-- A deferred command whose final record is still to come (R47). `token` is its place in
acceptance order (R42). -/
structure Deferred where
  token : Nat
  cmd : Cmd
  holds : List Held
  /-- The ring in whose reply ring a slot is reserved for its final record (R63, R67). -/
  reply : Option Nat := none
  /-- The Shepherd that runs it, if one does (R51, R402). -/
  half : Option Bool := none
  /-- The XCK of its acceptance: what a DRAIN goes by (R133). -/
  since : Nat := 0
  /-- The status with which it ends at its next boundary, because Safe Hold began or its Shepherd
  stopped while it ran (R68, R402). -/
  cut : Option Status := Option.none
deriving DecidableEq, Repr

/-- Why an accepted command has not yet started, or, not being deferred, has not yet ended:
AFTER_PREV (R56), an earlier command of its source that has not started (R56), a cluster that it
wakes (R368), a reply slot (R63), a command not deferred that is under way on its object (R147,
R220), its own stall swap (R147), a full Drover queue (R51), an epoch that settles (R220), the granted pieces of the port
that it resets (R132), the read of its parameters in memory (R146, R164). -/
inductive WaitFor where
  | prev
  | turn
  | wake
  | replySlot
  | object
  | ownSwap
  | droverQueue
  | settle (view epoch : Nat)
  | portPieces (port : Nat)
  | reading (req : Nat)
deriving DecidableEq, Repr

/-- An accepted command that waits. -/
structure Waiting where
  token : Nat
  cmd : Cmd
  why : WaitFor
  /-- The Shepherd in whose queue it waits, if one has taken it (R51, R402). -/
  half : Option Bool := Option.none
  /-- A deferred opcode holds its objects from acceptance on (R53). -/
  holds : List Held := []
  /-- The XCK of its acceptance. -/
  since : Nat := 0
deriving DecidableEq, Repr

/-- RING_STATE.STATE (Table 2-7). -/
inductive RingState where
  | disabled | idle | active | waitReply | waitPrev | waitSafe | halted
deriving DecidableEq, Repr

/-- A record on its way to a reply ring: the command's place in acceptance order, its words with PHASE
still clear, whether writing it sets the ring's DONE bit (R62, R469), and the request of initiator 64 that
writes it, once there is one (R61). -/
structure OutRecord where
  ring : Nat
  token : Nat
  words : BitVec 128
  done : Bool
  req : Option Nat := Option.none
deriving DecidableEq, Repr

/-- What has become of a ring's next packet (R60, R61): nothing is being fetched; initiator 64 reads its first
unit, or the whole packet of `units` units, in request `req`; it has been read and waits to be accepted (R42). -/
inductive RingFetch where
  | none
  | head (req : Nat)
  | body (req units : Nat)
  | ready (c : Cmd)
deriving DecidableEq, Repr

/-- RING_STATE.HALT_CAUSE (Table 2-7). -/
inductive HaltCause where
  | none | fetchDecerr | fetchSpoil | doorbell | replyWrite | config
deriving DecidableEq, Repr

/-- One command ring with its reply ring (R59 to R64, Table 2-7). -/
structure Ring where
  base : BitVec 20 := 0
  en : Bool := false
  sizeLog2 : BitVec 5 := 0
  system : Bool := false
  ctxBase : BitVec 10 := 0
  ctxCount : BitVec 11 := 0
  prod : BitVec 17 := 0
  cons : BitVec 17 := 0
  replyBase : BitVec 20 := 0
  replyLog2 : BitVec 5 := 0
  replyWr : BitVec 17 := 0
  replyRd : BitVec 17 := 0
  halted : Bool := false
  haltCause : HaltCause := .none
  /-- Reply slots reserved for commands that run (R63). -/
  reserved : Nat := 0
  fetch : RingFetch := .none
deriving DecidableEq, Repr

/-- The CTL or the SP window (R65). -/
structure CmdWindow where
  buf : BitVec 2048 := 0
  busy : Bool := false
  done : Bool := false
  overrun : Bool := false
  reply : BitVec 128 := 0
  /-- The packet that CMDW_GO has submitted and that has not been accepted yet (R42, R65). -/
  given : Option (BitVec 2048) := none
deriving DecidableEq, Repr

/-- The four kinds of Drover job (R70). -/
inductive JobKind where
  | fill | copy | convert | evacuate
deriving DecidableEq, Repr

/-- A request of initiator 64 that the Drover waits for: it reads `n` source bytes, or it writes `m` destination
bytes that stand for `n` source bytes (R70). -/
inductive JobWait where
  | none
  | reading (req n : Nat)
  | writing (req n m : Nat)
deriving DecidableEq, Repr

/-- A number as conversion sees it: NaN, an infinity, or a sign with an exact magnitude. -/
inductive Num where
  | nan
  | inf (neg : Bool)
  | val (neg : Bool) (mag : Rat)
deriving DecidableEq, Repr

/-- What a crossbar job has read of the row under way: bytes, or elements as exact numbers (R219), each with its mark,
and the source bytes they stand for. -/
structure Load where
  bytes : List (Byte × Bool) := []
  nums : List (Num × Bool) := []
  src : Nat := 0
deriving DecidableEq, Repr

/-- A Drover job, queued or running (R70 to R74). -/
structure Job where
  id : Nat
  kind : JobKind
  /-- The command that waits for it; none for an evacuation of firmware's own (R357). -/
  who : Option (Nat × Cmd) := Option.none
  ctx : Nat := 0
  src : Nat := 0
  dst : Nat := 0
  len : Nat := 0
  srcView : Nat := 0xFFFE
  dstView : Nat := 0xFFFE
  pattern : Nat := 0
  /-- Source bytes done, and destination bytes written. -/
  done : Nat := 0
  dstDone : Nat := 0
  /-- A granule of the job was stored spoiled; how many the job copied, and the elements clipped. -/
  spoil : Bool := false
  spoiled : Nat := 0
  clipped : Nat := 0
  /-- Windows waited in the queue (R175). -/
  waited : Nat := 0
  cluster : Nat := 0
  bank : Nat := 0
  /-- For PEN_BANK and a rotation step: the test that follows the takeover (R353). -/
  test : Option Nat := Option.none
  wait : JobWait := .none
  load : Load := {}
  /-- The status with which it ends at its next row boundary, while a row is under way (R68, R74, R402). -/
  stop : Option Status := Option.none
deriving DecidableEq, Repr

/-- The command interface and the Drover's queue. -/
structure CmdIf where
  /-- Packets accepted so far: the acceptance order (R42). -/
  accepted : Nat := 0
  /-- One more than the number of the MCK in which a packet was last accepted; 0 before the first (R42). -/
  acceptMck : Nat := 0
  irqDone : BitVec 16 := 0
  irqHalt : BitVec 16 := 0
  irqEn : BitVec 32 := 0
  rings : Tbl Ring := []
  ctl : CmdWindow := {}
  sp : CmdWindow := {}
  deferred : List Deferred := []
  waiting : List Waiting := []
  /-- CMD requests that have reached the command interface, oldest first (R66). -/
  arrived : List Nat := []
  /-- Records on their way to reply rings, oldest first: they wait for a stopped cluster, and in Safe
  Hold for its end (R61, R68). -/
  records : List OutRecord := []
  jobs : List Job := []
  /-- The 16-bit job counter (R71). -/
  jobNext : BitVec 16 := 0
  /-- The active crossbar job and the active in-bank job (R70). -/
  xbarJob : Option Job := none
  bankJob : Option Job := none
deriving DecidableEq, Repr

/-- A valid region entry: its descriptor as REGION_SET wrote it (R78), with the two fields the
block keeps (R84, R85, R88). -/
structure Region where
  desc : BitVec 384
  init : Bool
  degraded : Bool
deriving DecidableEq, Repr

/-- The region table and the remote windows (R78, R90). -/
structure AddrTables where
  regions : Tbl Region := []
  windows : Tbl (BitVec 256) := []
deriving DecidableEq, Repr

end Sys2Proof.Machine
end

