-- ==== Sys2Proof/Machine/PartsConvert.lean ====
section
/-!
DEFINITION. The state of conversion (07_conversion.md): views with their epochs and statistics,
the scale caches.
-/

namespace Sys2Proof.Machine

/-- What one write epoch of a view has counted (R212, R214). -/
structure EpochRec where
  count : BitVec 32 := 0
  /-- Write pieces of the epoch not yet quantised or discarded. -/
  left : Nat := 0
  /-- The epoch has ended (its end point has passed). -/
  ended : Bool := false
  elems : Nat := 0
  nonzero : Nat := 0
  clipped : Nat := 0
  flushed : Nat := 0
  nan : Nat := 0
  amax : Rat := 0
  lo : Rat := 0
  hi : Rat := 0
deriving DecidableEq, Repr

/-- The epoch fields of the statistics record: the last settled epoch (Table 7-9). -/
structure Settled where
  elems : Nat := 0
  nonzero : Nat := 0
  clipped : Nat := 0
  flushed : Nat := 0
  nan : Nat := 0
  clipShare : Nat := 0
  flushShare : Nat := 0
  amax : Rat := 0
  lo : Rat := 0
  hi : Rat := 0
deriving DecidableEq, Repr

/-- A valid view: descriptor, owner, epoch state and statistics (R95, R96, R211 to R217). -/
structure View where
  desc : BitVec 512
  owner : Nat
  /-- Which VIEW_SET made it: pieces bound to an earlier one count nowhere (R96). -/
  gen : Nat := 0
  /-- The epoch in progress, then the ended epochs not yet settled, newest first. -/
  cur : EpochRec := {}
  ended : List EpochRec := []
  /-- The XCK of an end point that has been reached: requests of that XCK still belong to the epoch, which
  ends as the XCK passes (R212). -/
  endAt : Option Nat := none
  /-- The delayed scale in force, as a code of SCALE_FMT, once there is one (R213). -/
  dscale : Option Nat := none
  dzp : Int := 0
  forced : Bool := false
  /-- MODE 2: the boundary that the time base passes next, a multiple of N µs (R212, R380). -/
  boundary : BitVec 64 := 0
  /-- Stored bytes of the epoch's WR and WRM requests (R212, MODE 1). -/
  bytes : Nat := 0
  last : Settled := {}
  clipFired : Bool := false
  flushFired : Bool := false
  rdSat : Nat := 0
  actions : Nat := 0
  /-- For each element that a grouped view has quantised, the scale and the zero point it was stored under: what
  its group's entry shall still hold when it is read (R205). The model's own field. -/
  under : Tbl (Rat × Int) := []
  samples : Nat := 0
  sse : BitVec 64 := 0
  sigsq : BitVec 64 := 0
deriving DecidableEq, Repr

/-- A line of a scale cache: one granule found by its local address (R195). -/
structure CacheLine where
  addr : Nat
  data : BitVec 256
deriving DecidableEq, Repr

/-- A fill that is outstanding: the line, the context it reads under, and the request of initiator 64 that reads
it, once there is one (R196). -/
structure CacheFill where
  addr : Nat
  owner : Nat
  req : Option Nat := none
  /-- The granule was written by the block, or its line invalidated, after the read was asked for: what the read
  delivers is not installed, and the fill asks again (R198). -/
  stale : Bool := false
deriving DecidableEq, Repr

/-- The scale cache of one cluster and its statistics unit (R195, R196, R217, Table 7-11). -/
structure ScaleCache where
  /-- The lines, most recently used first. -/
  lines : List CacheLine := []
  fills : List CacheFill := []
  hit : BitVec 32 := 0
  miss : BitVec 32 := 0
  sampleLog2 : BitVec 4 := 6
  /-- The value before the last write, and the XCK that begins after that write completed, or 0: a piece quantised in
  the XCK of the write goes by the value before it (R221). -/
  sampleOld : BitVec 4 := 6
  sampleAt : Nat := 0
  /-- Pieces quantised since the last sampled one. -/
  sinceSample : Nat := 0
deriving DecidableEq, Repr

/-- Views, scale caches and the conversion registers (Table 7-11). -/
structure Conv where
  views : Tbl View := []
  /-- VIEW_SET commands so far. -/
  gens : Nat := 0
  caches : Tbl ScaleCache := []
  irq : BitVec 4 := 0
  irqEn : BitVec 4 := 0
  lastView : BitVec 12 := 0
  lastClip : Bool := false
  lastFlush : Bool := false
  /-- Per global bank: QNT_ROWS and QNT_CLIP. -/
  qntRows : Tbl (BitVec 32) := []
  qntClip : Tbl (BitVec 32) := []
deriving DecidableEq, Repr

end Sys2Proof.Machine
end

