-- ==== Sys2Proof/Machine/PartsCrossbar.lean ====
section
/-!
DEFINITION. The state of the ports, the crossbar, the sub-ports, the regulator and the governor
(04_crossbar.md, 05_stalls_arbitration.md, 06_regulation_budget.md).
-/

namespace Sys2Proof.Machine

/-- A request as it crosses the request channel: 128 bits and 4 parity bits (R103). -/
structure ReqWord where
  word : BitVec 128
  par : BitVec 4
deriving DecidableEq, Repr

/-- A write-data beat in a converter (R106), with the bytes that fail DPAR and whether CPAR fails
(R128). -/
structure WBeat where
  data : BitVec 1024
  strb : BitVec 128
  spoil : BitVec 4
  last : Bool
  badBytes : BitVec 128 := 0
  badCtl : Bool := false
deriving DecidableEq, Repr

/-- A response or WAKE message (R108, R111). -/
structure Resp where
  tag : Nat
  wake : Bool := false
  last : Bool := true
  spoil : BitVec 4 := 0
  status : Status
  beat : Nat := 0
  token : BitVec 32 := 0
  data : BitVec 1024 := 0
  /-- LH0 and LH1 of a response on a link interface (R288). -/
  link : BitVec 64 := 0
  /-- It takes a beat of read response space (R120). -/
  isRead : Bool := false
  /-- The request it answers: how initiator 64 finds the answers to its own. The model's own field. -/
  req : Nat := 0
  /-- What a request of the Drover learns beside: the lanes of a read beat that it fills, the elements it read as exact
  numbers with their marks, the granules stored spoiled and the elements clipped (R73, R219). -/
  lane : Nat := 0
  lanes : Nat := 0
  nums : List (Num × Bool) := []
  spoiled : Nat := 0
  clipped : Nat := 0
deriving DecidableEq, Repr

/-- A response as it crosses the response channel (Table 4-5): header, HPAR, data beat, DPAR (R129), and on a
link interface LH0 and LH1 with LPAR (R288). -/
structure RspWire where
  header : BitVec 64
  hpar : BitVec 2
  data : BitVec 1024
  dpar : BitVec 128
  link : BitVec 64
  lpar : BitVec 2
deriving DecidableEq, Repr

/-- Where a request goes, as the ingress decides it (R115). -/
inductive Dest where
  | ingress
  | clusters (cs : List Nat)
  | remote (window : Nat)
deriving DecidableEq, Repr

/-- The view a request is bound to: the descriptor of that moment (R55, R97). -/
structure BoundView where
  id : Nat
  gen : Nat
  desc : BitVec 512
  owner : Nat
  /-- BASE of the matched region. -/
  base : Nat
  /-- The epoch the request belongs to (R212). -/
  epoch : BitVec 32
deriving DecidableEq, Repr

/-- A scale chosen at the ingress for one group: its code, zero point, and whether the group is
spoiled (R200, R207). -/
structure GroupScale where
  group : Nat
  scale : Nat
  zp : Int
  bad : Bool := false
deriving DecidableEq, Repr

/-- What a piece does at its bank: RD, WR, WRM, ACC, an entry of a scale array (R204), a row of DRV_FILL (R70), a row
of an evacuation (R349), contributions of events to a row of records (R245), a row of a STEP (R251). -/
inductive PieceKind where
  | rd | wr | wrm | acc | entry | fill | evac | add | step
deriving DecidableEq, Repr

/-- One beat of a request on its way to a row (R105, R136). -/
structure Piece where
  req : Nat
  port : Nat
  kind : PieceKind
  cls : Nat
  beat : Nat := 0
  cluster : Nat
  bank : Nat
  row : Nat
  /-- First stored byte in the row, and the stored bytes. -/
  off : Nat
  len : Nat
  /-- Stored local address of the first byte. -/
  addr : Nat
  /-- First port lane, and the port bytes. -/
  lane : Nat
  lanes : Nat
  data : BitVec 1024 := 0
  strb : BitVec 128 := 0
  /-- Port granules that are known bad (R107, R128). -/
  bad : BitVec 4 := 0
  view : Option BoundView := none
  scales : List GroupScale := []
  /-- The region matched, and whether it is safety-critical. -/
  safety : Bool := false
  /-- XCK of acceptance into the queue and the place among all acceptances. -/
  queuedAt : Nat := 0
  seq : Nat := 0
  /-- Lines this piece has seen fail (R197). -/
  badLines : List Nat := []
  /-- Its lines have been looked up and counted (R195). -/
  looked : Bool := false
  /-- For a write of the Drover through a converting view: the elements as exact numbers, and whether
  each comes from a spoiled granule (R219). They stand in place of `data`. -/
  exact : List (Num × Bool) := []
  /-- A read of DRV_CONVERT, which takes exact numbers: by a view of the other side where the source has none
  of its own (R219). -/
  wants : Bool := false
  other : Option (BitVec 512) := none
  /-- The XCK of its arrival at the entry to its queue (R155). -/
  arrived : Nat := 0
  /-- The issue slot it has taken: an XCK (R137). -/
  slot : Nat := 0
  /-- The data and the marked granules of its row, read from the slot that its bank has left (R351). -/
  opened : Option (Nat × List Nat) := none
  /-- The population of a piece of the event engine (R245, R251). -/
  pop : Nat := 0
  /-- The contributions of events to the row, in order: the word and the addend; and whether each is an add of its own,
  as in the accumulator buffer, or those of a word are summed first (R245). -/
  parts : List (Nat × Int) := []
  oneByOne : Bool := false
  /-- The bank finds another row selected than the one it is for (R391); the granules of its row whose byte parity or
  residue fails inside the block (R392, R393). -/
  strayed : Bool := false
  forced : BitVec 4 := 0
deriving DecidableEq, Repr

/-- What marks a request that came over a link: the source entry with its chip and incarnation, the
sequence number, SPAN, CE and TCLASS (R289, R299). -/
structure LinkTag where
  src : Nat
  chip : Nat
  incarn : Nat
  seq : BitVec 16
  span : Nat
  ce : Bool
  tclass : Bool
  /-- The announced requests not yet received that are fold operations: a fact of the sender that no
  field of the header carries (R303; log entry 24). -/
  folds : List (BitVec 16) := []
deriving DecidableEq, Repr

/-- A request in the request FIFO of a converter (R124). -/
structure Queued where
  req : ReqWord
  link : Option LinkTag := none
deriving DecidableEq, Repr

/-- What a request does once it leaves the ingress (R115): it is answered from there, its pieces
go to their sub-ports, its operation goes to a fold unit (with the fold it was translated to), its
packet goes to the command interface, it waits as a FENCE, it goes to the link-port logic. -/
inductive Plan where
  | answer (st : Status)
  | pieces (ps : List Piece)
  | fold (k : Nat)
  | cmd
  | fence
  | remote (window : Nat)
deriving DecidableEq, Repr

/-- A request accepted at the ingress and still outstanding (R112, R123). -/
structure Outst where
  id : Nat
  port : Nat
  word : BitVec 128
  link : Option LinkTag := none
  /-- Write data of the request. -/
  wbeats : List WBeat := []
  /-- Beats of the request. -/
  beats : Nat := 1
  /-- The XCK of acceptance at the ingress. -/
  since : Nat
  plan : Plan
  dest : Dest
  /-- It has left the ingress. -/
  sent : Bool := false
  /-- Accepted at every destination (R115). -/
  accepted : Bool := false
  /-- Pieces and entry writes that have not completed, and how many there were. -/
  left : Nat := 0
  total : Nat := 0
  spoil : Bool := false
  sat : Bool := false
  lost : Bool := false
  /-- The next beat of a read to present, and the beats that wait for their turn (R109). -/
  next : Nat := 0
  ready : List Resp := []
  /-- The requests a FENCE waits for (R119). -/
  covers : List Nat := []
  /-- Granules stored spoiled and elements clipped: what a request of the Drover learns (R73, R219). -/
  badGranules : Nat := 0
  clipped : Nat := 0
  /-- The remote window as it stood when the request was accepted (R100). -/
  bound : Option (BitVec 256) := none
  /-- A CMD whose context lay outside its port's range at the ingress (R66, R114). -/
  barred : Bool := false
  /-- A row of the request was not written, because another was selected (R391). -/
  unwritten : Bool := false
deriving DecidableEq, Repr

/-- What R153 knows of an initiator: the inputs as they stood at the end of the last XCK (R154), the boosts as R161
binds them, whether it is at the floor, and whether the governor's level leaves it steps 2 to 4 (R174). -/
structure Seen where
  prio : BitVec 32 := 0x88888888
  step : Nat := 0
  boostRd : Nat := 0
  boostWr : Nat := 0
  floor : Bool := false
  free : Bool := true
deriving DecidableEq, Repr

/-- A data port or initiator 64: converter, context range, counters, regulation (Tables 4-12,
5-5, 6-10, and MBOX_CFG of Table 2-7). -/
structure Port where
  ctxBase : BitVec 10 := 0
  ctxCount : BitVec 11 := 1024
  parityHold : Bool := false
  reqPar : Nat := 0
  wdPar : Nat := 0
  ctxPerm : Nat := 0
  fifo : List Queued := []
  wd : List WBeat := []
  /-- Pieces on their way to the sub-port queues, in the order in which they were sent (R115). -/
  pieces : List Piece := []
  /-- Responses in the converter, oldest first. -/
  resp : List Resp := []
  /-- WAKE messages owed (R111). -/
  wakes : List Resp := []
  /-- The response that crossed last, and its bits on the channel (Table 4-5). -/
  out : Option Resp := none
  wire : Option RspWire := none
  prio : BitVec 32 := 0x88888888
  burstM1 : BitVec 6 := 15
  /-- BURST_M1 before the writes of the XCK `burstAt` (one more than its number), which bind from the XCK after
  (R141). -/
  burstOld : BitVec 6 := 15
  burstAt : Nat := 0
  mboxEn : Bool := true
  mboxSystem : Bool := false
  mboxReplyEn : Bool := false
  mboxReplyRing : BitVec 4 := 0
  qcap : Nat := 8
  wcap : Nat := 4
  tollShare : Nat := 4
  tgtRd : Nat := 0
  tgtWr : Nat := 0
  latK : Nat := 4
  b75 : Nat := 1
  b90 : Nat := 2
  b100 : Nat := 4
  /-- Averages in 1/256 XCK; `none` while unseeded (R161). -/
  ewmaRd : Option Nat := none
  ewmaWr : Option Nat := none
  /-- The averages one XCK earlier, which the boosts of the next XCK go by (R161). -/
  ewmaRdPrev : Option Nat := none
  ewmaWrPrev : Option Nat := none
  seen : Seen := {}
  /-- Byte budget in 128 B units, the one in force and the one for the next window (R163). -/
  budget : Nat := 0
  budgetNext : Nat := 0
  bytes : Nat := 0
  spend : Nat := 0
  tollSpent : Nat := 0
  /-- A write of the port through a remote window has ended REMOTE_LOST: every later FENCE of remote
  scope covers it (R119). -/
  remoteLost : Bool := false
  /-- A PORT_RESET under way waits for pieces that were granted (R132): the token of its command. -/
  resetting : Option Nat := none
  /-- The two copies of the ingress translation differ for the next request that is translated (R394). -/
  mistrans : Bool := false
deriving DecidableEq, Repr

/-- One copy of a stall table (R144). -/
structure StallCopy where
  entries : Tbl (BitVec 32) := []
  len : Nat := 2
deriving DecidableEq, Repr

/-- An open tenure (R141). -/
structure Tenure where
  holder : Nat
  beats : Nat
deriving DecidableEq, Repr

/-- One side of a sub-port: what its decisions leave behind (R140 to R143). -/
structure SideState where
  tenure : Option Tenure := none
  starve : Nat := 0
  /-- The round-robin pointer (R143). -/
  rr : Nat := 0
  /-- The last issue slot taken, as an XCK number, and the XCK of the last decision. -/
  taken : Nat := 0
  decided : Nat := 0
  unused : BitVec 16 := 0
  /-- The lockstep pair disagrees on the next decision, which is suppressed (R394). -/
  muted : Bool := false
deriving DecidableEq, Repr

/-- A sub-port (R136 to R148). -/
structure SubPort where
  queue : List Piece := []
  act : StallCopy := {}
  shd : StallCopy := {}
  guarded : Bool := false
  /-- The XCK at which the active copy applied its index 0 (R144). -/
  t0 : Nat := 1
  /-- The XCK at which a pending swap takes effect, and the command's token (R147). -/
  swapAt : Option (Nat × Nat) := none
  /-- The command whose swap is still to reach its completion point (R147): SWAP_PEND. -/
  swapping : Option Nat := none
  starveN : Nat := 8
  rd : SideState := {}
  wr : SideState := {}
  /-- The last granted initiator (R126). -/
  lastInit : Nat := 0
  parkInit : BitVec 7 := 0
  parkEn : Bool := false
  /-- Pieces accepted into the queue in the XCK `acceptXck` (R155: at most four). -/
  acceptXck : Nat := 0
  acceptNum : Nat := 0
  /-- Logic BIST marked the sub-port unusable (R347). -/
  unusable : Bool := false
deriving DecidableEq, Repr

/-- An entry of a bank's write buffer, with the four granules its merge read delivered (R29,
R139): for each, the data and whether it was spoiled. -/
structure WEntry where
  piece : Piece
  merge : Option (List (BitVec 256 × Bool)) := none
  /-- The BCK of the merge read: from it on the entry holds its row (R28). -/
  mergedAt : Nat := 0
deriving DecidableEq, Repr

/-- The write buffer and the reads in flight of one logical bank, and its use of its slots (R27, R28). -/
structure BankQueue where
  wbuf : List WEntry := []
  reads : List Piece := []
  /-- The granted row of an evacuation, which waits for its read slot (R349). -/
  copy : Option Piece := none
  /-- One more than the BCK in which the read slot, and the write slot, was last used; 0 before (R27). -/
  readBck : Nat := 0
  writeBck : Nat := 0
  /-- The read slots of the BCKs after `heldFrom` up to `heldTo` are withheld for reads that have waited for a held
  row (R28). -/
  heldFrom : Nat := 0
  heldTo : Nat := 0
deriving DecidableEq, Repr

/-- A step of the shedding order (R176). -/
inductive ShedStep where
  | shares | latency | stalls
deriving DecidableEq, Repr

/-- The governor's level (R174). -/
inductive GovLevel where
  | normal | lean | idle
deriving DecidableEq, Repr

/-- A temperature sensor (R173). `failed` is what self-test found. -/
structure Sensor where
  deg : Nat := 0
  valid : Bool := false
  failed : Bool := false
deriving DecidableEq, Repr

/-- The bellwether line of a stream port (R158, R159). -/
structure Bell where
  steps : BitVec 16 := 0x8420
  critIrq : Bool := false
  level : Nat := 0
  critCount : BitVec 8 := 0
deriving DecidableEq, Repr

/-- The power governor and admission (Table 6-10). -/
structure Gov where
  limit : Nat
  /-- A POWER_LIMIT_SET that takes effect at the next window (R178). -/
  limitNext : Option (Nat × Nat × Nat) := none
  tHi : Nat := 95
  guarTemp : Nat := 95
  tb : Nat := 0
  /-- Block spend of this window and of the previous one. -/
  spend : Nat := 0
  spent : Nat := 0
  clusterSpend : Tbl Nat := []
  clusterSpent : Tbl Nat := []
  qStall : Nat := 0
  qShare : Nat := 0
  level : GovLevel := .normal
  /-- The steps shed, last shed first. -/
  shed : List ShedStep := []
  tmax : Nat := 0
  qual : Nat := 0
  hint : BitVec 32
  irq : BitVec 11 := 0
  irqEn : BitVec 11 := 0
  drvForced : Nat := 0
  leakNom : Tbl Nat
  leakEco : Tbl Nat
  ctrl : Nat
  floor : Nat
  sensors : Tbl Sensor := []
  bells : Tbl Bell := []
  guarantees : List (BitVec 256) := []
  /-- The XCK at which the window in progress began, and the windows so far. -/
  windowAt : Nat := 0
  windows : Nat := 0
  /-- The derived clocks have restarted: the window in progress ends and a new one begins (R163). -/
  windowDue : Bool := false
  /-- The window of the last sensor reading, counted from 1; 0 before the first (R173). -/
  sensorWin : Nat := 0
deriving DecidableEq, Repr

/-- Ports, sub-ports, bank queues, and the crossbar registers (Table 4-12). -/
structure Xbar where
  ports : Tbl Port := []
  subs : Tbl SubPort := []
  /-- By global logical bank. -/
  banks : Tbl BankQueue := []
  outst : List Outst := []
  /-- Requests accepted so far, and pieces accepted into queues so far. -/
  nextReq : Nat := 0
  nextSeq : Nat := 0
  irq : BitVec 4 := 0
  irqEn : BitVec 4 := 0
  parSource : BitVec 7 := 0
  parKind : BitVec 2 := 0
deriving DecidableEq, Repr

end Sys2Proof.Machine
end

