-- ==== Sys2Proof/Machine/PartsEngine.lean ====
section
/-!
DEFINITION. The state of the event engine (08_accumulate_events.md) and of the folds
(09_folds.md).
-/

namespace Sys2Proof.Machine

/-- A valid population with its status (R240, R255). -/
structure Pop where
  desc : BitVec 512
  owner : Nat
  p : BitVec 32
  staged : Bool := false
  running : Bool := false
  tainted : Bool := false
  events : Nat := 0
  contrib : Nat := 0
  stepRange : Nat := 0
  sat : Nat := 0
  wraps : Nat := 0
  synBad : Nat := 0
  spikes : Nat := 0
  memSat : Nat := 0
  /-- The granules of the next row of records in the accumulator buffer whose residue fails (R393). -/
  forced : BitVec 4 := 0
deriving DecidableEq, Repr

/-- An entry of the event route table (R252). -/
structure Route where
  vport : BitVec 2 := 0
  en : Bool := false
  graded : Bool := false
  dest : BitVec 12 := 0
deriving DecidableEq, Repr

/-- An event with the V port it came in on (R235). -/
structure Event where
  word : BitVec 128
  port : Nat
deriving DecidableEq, Repr

/-- A STEP that runs (R250 to R252). -/
structure StepRun where
  pop : Nat
  token : Nat
  cmd : Cmd
  tag : BitVec 32
  /-- Rows issued so far, and those of them that have not been written. -/
  rows : Nat := 0
  left : Nat := 0
  /-- The first row whose events have not been emitted, and the events of later rows that have been written. -/
  next : Nat := 0
  made : Tbl (List (BitVec 128)) := []
  spikes : Nat := 0
  memSat : Nat := 0
  route : Route
  /-- Emitted events that have not crossed the channel yet. -/
  inFlight : Nat := 0
  /-- RUNNING has ended: the held events of the population are applied, and the final record follows (R251, R253). -/
  ended : Bool := false
  /-- The status of a STEP that was cut; one that completed takes it from TAINTED. -/
  cutSt : Option Status := none
deriving DecidableEq, Repr

/-- An emitted event, with the STEP that emitted it. -/
structure OutEvent where
  word : BitVec 128
  token : Nat
deriving DecidableEq, Repr

/-- How far a SPIKE has come that the dispatcher has taken (R243 to R245): it needs its directory entry read; the
read is under way; it needs its next synapses and weights read; they are under way; its contributions by record
address wait to be issued; they are under way. -/
inductive SpikeStage where
  | start
  | directory (req : Nat)
  | chunk
  | synapses (syn weights : Nat)
  | ready (adds : List (Nat × Int))
  | adding (req : Nat)
deriving DecidableEq, Repr

/-- A SPIKE that the dispatcher has taken and that has not been applied whole: the synapses from `next` to `stop` are
still to come. -/
structure SpikeRun where
  ev : Event
  pop : Nat
  stage : SpikeStage := .start
  next : Nat := 0
  stop : Nat := 0
  /-- Its scale lines have been looked up and counted, and those that it has seen fail (R195, R197). -/
  looked : Bool := false
  badLines : List Nat := []
  /-- It came out of the hold buffer (R248). -/
  held : Bool := false
deriving DecidableEq, Repr

/-- The event dispatcher of one cluster (R237, R238, R248, Table 8-9). -/
structure Dispatcher where
  /-- Path FIFOs, by V port. -/
  paths : Tbl (List Event) := []
  rr : Nat := 0
  /-- Egress FIFOs, by V port. -/
  egress : Tbl (List OutEvent) := []
  hold : List Event := []
  /-- SPIKEs under way, oldest first. -/
  runs : List SpikeRun := []
  /-- Emitted events that wait for room in the egress FIFO of a V port, in the order of emission (R252). -/
  out : List (Nat × OutEvent) := []
  dropBad : Nat := 0
  dropRange : Nat := 0
  applied : BitVec 32 := 0
deriving DecidableEq, Repr

/-- A staging or unstaging copy in progress (R232, R233). -/
structure Staging where
  pop : Nat
  token : Nat
  cmd : Cmd
  unstage : Bool
deriving DecidableEq, Repr

/-- An allocated accumulator-buffer row: the array row it stands for, the population, and whether
the bank serves the row from the buffer yet (R232). -/
structure BufRow where
  row : Nat
  buf : Nat
  pop : Nat
  live : Bool := false
deriving DecidableEq, Repr

/-- The event engine and the accumulate units. -/
structure EventUnit where
  pops : Tbl Pop := []
  routes : Tbl Route := []
  steps : List StepRun := []
  disp : Tbl Dispatcher := []
  stagings : List Staging := []
  /-- Allocated buffer rows, by physical slot. -/
  abuf : Tbl (List BufRow) := []
  /-- By V port. -/
  evIn : Tbl (BitVec 32) := []
  evOut : Tbl (BitVec 32) := []
  dropBad : Tbl Nat := []
  dropSafe : Tbl Nat := []
  /-- Round-robin pointer of each egress channel over the clusters (R238). -/
  outRr : Tbl Nat := []
  irq : BitVec 8 := 0
  irqEn : BitVec 8 := 0
  lastPop : BitVec 12 := 0
  lastCluster : BitVec 3 := 0
  lastCause : BitVec 4 := 0
  /-- By global bank: ACC_ROWS and the two fields of ACC_SAT. -/
  accRows : Tbl (BitVec 32) := []
  accSat : Tbl Nat := []
  accWrap : Tbl Nat := []
  /-- V ports that logic BIST marked unusable (R347). -/
  unusable : BitVec 4 := 0
deriving DecidableEq, Repr

/-- Fold states (Table 9-7). -/
inductive FoldState where
  | free | active | error | abandoned | dying
deriving DecidableEq, Repr

/-- A physical fold (R257, R280, Table 9-11). -/
structure Fold where
  state : FoldState := .free
  tally : Bool := false
  linkOk : Bool := false
  peerEn : Bool := false
  satHi : Bool := false
  satLo : Bool := false
  deficitSat : Bool := false
  corrected : Bool := false
  entry : Nat := 0
  owner : Nat := 0
  /-- GEN of a barrier fold, VALUE of a tally fold. -/
  value : BitVec 32 := 0
  count : Nat := 0
  arrived : Nat := 0
  deficit : Nat := 0
  timeout : Nat := 0
  homePort : Nat := 0x7F
  peer : Nat := 0
  ops : BitVec 32 := 0
deriving DecidableEq, Repr

/-- The map of one context (R259). -/
structure FoldMap where
  en : Bool := false
  base : BitVec 15 := 0
  limit : BitVec 15 := 0
deriving DecidableEq, Repr

/-- Who asked for a fold operation (R266): a data-port request, a FOLD_OP command, the SIGNAL flag of a command,
a MARK. -/
inductive FoldOrigin where
  | port (req : Nat)
  | cmd (token : Nat)
  | flag (token : Nat)
  | mark (cluster pop : Nat)
deriving DecidableEq, Repr

/-- An operation in a fold unit's queue, translated (R261, R265). -/
structure FoldOp where
  origin : FoldOrigin
  op : Nat
  value : Nat
  cluster : Nat
  index : Nat
  ctx : Nat
  /-- The XCK in which it entered the queue, and its place among those of that XCK (R266). -/
  xck : Nat := 0
  rank : Nat := 0
  /-- A SIGNAL that was held in Safe Hold: the records held with it wait for it (R277). -/
  held : Bool := false
deriving DecidableEq, Repr

/-- Who waits: a port, with its wake token, or a ring, with its wait slot (R272, R276). -/
inductive WaitWho where
  | port (p : Nat) (token : BitVec 32)
  | ring (n slot token : Nat)
deriving DecidableEq, Repr

/-- A waiter on a fold. `ended` is the status it is to end with, once that is known. -/
structure Waiter where
  order : Nat
  cluster : Nat
  index : Nat
  ctx : Nat
  who : WaitWho
  v : BitVec 32
  /-- The ACK edge of the deadline (R274). -/
  deadline : Option Nat
  ended : Option Status := none
  /-- The value of the fold when it was satisfied (R276). -/
  value : BitVec 32 := 0
deriving DecidableEq, Repr

/-- A FOLD_DUMP that runs (R286): the next record, and for SVC the CRC of what was sent so far. -/
structure Dump where
  token : Nat
  cmd : Cmd
  next : Nat := 0
  crc : Nat := 0xFFFFFFFF
deriving DecidableEq, Repr

/-- Fold units, translation, waiters, registers (Table 9-13). -/
structure FoldUnit where
  /-- Keyed by cluster × 2048 + index. -/
  folds : Tbl Fold := []
  /-- The translation table: entry to physical fold. -/
  entries : Tbl Nat := []
  maps : Tbl FoldMap := []
  /-- Operations by cluster; those past the first 64 wait at their source (R265). -/
  queues : Tbl (List FoldOp) := []
  cops : Tbl (BitVec 32) := []
  waiters : List Waiter := []
  nextWaiter : Nat := 0
  /-- Per port and per ring counts of DEFERs given (R272, R276), and wake slots in use. -/
  portCount : Tbl (BitVec 25) := []
  ringCount : Tbl (BitVec 26) := []
  slots : Tbl (List Nat) := []
  ringSlots : Tbl (List Nat) := []
  /-- The dumps that run, oldest first: at most one of them goes to SVC (R421). -/
  dumps : List Dump := []
  /-- SIGNALs held in Safe Hold (R277), in acceptance order: the command's place in it, context and virtual
  fold. -/
  heldSignals : List (Nat × Nat × Nat) := []
  irq : BitVec 8 := 0
  irqEn : BitVec 8 := 0
  lastFold : BitVec 14 := 0
  lastCause : BitVec 4 := 0
  refusedUnderflow : Nat := 0
  refusedBad : Nat := 0
deriving DecidableEq, Repr

end Sys2Proof.Machine
end

