-- ==== Sys2Proof/Machine/PartsRemote.lean ====
section
/-!
DEFINITION. The state of the link-port logic (10_remote.md).
-/

namespace Sys2Proof.Machine

/-- A link port (Table 10-7). The counters that saturate are numbers, those that wrap are words. -/
structure LinkPort where
  up : Bool := false
  /-- The token of a LINK_RESET in progress. -/
  resetting : Option (Nat × Cmd) := none
  limit : Nat := 4
  interval : Nat := 20
  tx : BitVec 32 := 0
  rx : BitVec 32 := 0
  resent : BitVec 32 := 0
  dropEpoch : Nat := 0
  dropMisroute : Nat := 0
  dropDup : Nat := 0
  dropPend : Nat := 0
  dropSrc : Nat := 0
  dropStale : Nat := 0
deriving DecidableEq, Repr

/-- A destination entry (R293, R296). -/
structure DestEntry where
  chip : Nat
  inj : Nat := 256
  nextSeq : BitVec 16 := 0
  floor : BitVec 16 := 0
  cut : BitVec 16 := 0
  credit : Nat := 0
deriving DecidableEq, Repr

/-- A request the link-port logic has taken. Until it is first sent `seq` is `none`. -/
structure OutReq where
  req : Nat
  window : Nat
  chip : Nat
  op : Nat
  addr : Nat
  len : Nat
  ctx : Nat
  view : Nat
  beats : List WBeat := []
  /-- Its request word on the outbound interface (Table 4-2): of the local one, with the remote address, context and
  view. -/
  word : BitVec 128
  mask : BitVec 8
  adaptive : Bool
  /-- Time base at acceptance, and at the last send. -/
  takenAt : Nat
  sentAt : Nat := 0
  seq : Option (BitVec 16) := none
  port : Nat := 0
  /-- The port chosen for a send that waits for that port's limits (R295). -/
  chosen : Option Nat := none
  limit : Nat := 0
  interval : Nat := 0
  resends : Nat := 0
  /-- The beats of a RD, and those of its response that have been received (R293, R297). -/
  total : Nat := 1
  got : List Nat := []
  /-- LINK_RESET marked it for another port (R309). -/
  marked : Bool := false
  /-- LH0 and LH1 as last sent, and the parity bits that went with them and with the request word (R103, R288,
  R289). -/
  header : BitVec 64 := 0
  lpar : BitVec 2 := 0
  par : BitVec 4 := 0
deriving DecidableEq, Repr

/-- The state of one sequence number of a source that is not EMPTY (Table 10-3). -/
structure SeqRec where
  done : Option Status := none
  op : Nat
  foldOp : Nat := 0
  ordered : Bool
  applied : Bool := false
  port : Nat
  order : Nat
  /-- The local fold a FOLD names, for the TOKEN of a repeated answer. -/
  fold : Option Nat := none
deriving DecidableEq, Repr

/-- A source entry (R300). -/
structure SrcEntry where
  chip : Nat
  incarn : Nat
  base : BitVec 16
  recs : Tbl SeqRec := []
  /-- Link port and SEQ of the ORDERED requests that have arrived and have not been applied, in the order in which they
  first arrived (R302, R305). -/
  unapplied : List (Nat × BitVec 16) := []
  last : Nat := 0
deriving DecidableEq, Repr

/-- A fold operation in a pending-signal buffer (R302 to R304, R308). -/
structure HeldOp where
  req : Nat
  port : Nat
  link : LinkTag
  /-- Its place among the inbound requests, and the time base at its arrival. -/
  order : Nat
  arrived : Nat
  op : FoldOp
deriving DecidableEq, Repr

/-- A request as it crosses the inbound interface of a link port: the request word, LH0 and LH1
with LPAR, and its write data (R288, Table 10-1). -/
structure LinkReq where
  req : ReqWord
  lh : BitVec 64
  lpar : BitVec 2
  beats : List WBeat := []
  /-- The announced requests that are fold operations (R303; log entry 24). -/
  folds : List (BitVec 16) := []
deriving DecidableEq, Repr

/-- A response as it crosses the outbound interface of a link port (R288, R290). -/
structure LinkRsp where
  lh : BitVec 64
  parityOk : Bool := true
  last : Bool := true
  spoil : BitVec 4 := 0
  status : Nat
  beat : Nat := 0
  token : BitVec 32 := 0
  data : BitVec 1024 := 0
  badBytes : BitVec 128 := 0
deriving DecidableEq, Repr

/-- What comes in at a link port: a request on its inbound interface, a response on its outbound one. -/
inductive LinkIn where
  | request (r : LinkReq)
  | response (r : LinkRsp)
deriving DecidableEq, Repr

/-- The link-port logic. -/
structure Links where
  chip : Nat := 0xFFF
  incarn : BitVec 4 := 0
  epoch : Bool := false
  acceptBoth : Bool := false
  ports : Tbl LinkPort := []
  /-- By index, as DEST_d and SRC_i show them. -/
  dests : Tbl DestEntry := []
  srcs : Tbl SrcEntry := []
  out : List OutReq := []
  held : List HeldOp := []
  /-- What the converters of the link ports took while the derived clocks stood, oldest first, by port (R40). -/
  waiting : List (Nat × LinkIn) := []
  arrivals : Nat := 0
  irq : BitVec 7 := 0
  irqEn : BitVec 7 := 0
  lastChip : BitVec 12 := 0
  lastCause : BitVec 4 := 0
  lastPort : BitVec 3 := 0
deriving DecidableEq, Repr

end Sys2Proof.Machine
end

