-- ==== Sys2Proof/Machine/PartsBank.lean ====
section
/-!
DEFINITION. The state of stored-data integrity (11_integrity.md) and of self-test and bank
rotation (12_self_test.md).
-/

namespace Sys2Proof.Machine

/-- A correction the scrubber has to write back (R335). -/
structure WriteBack where
  row : Nat
  granule : Nat
  data : BitVec 256
  /-- The last BCK of its cluster in which it may be written. -/
  deadline : Nat
deriving DecidableEq, Repr

/-- The registers of one logical bank (Table 11-12). -/
structure BankInteg where
  ret0 : Option Nat := none
  ret1 : Option Nat := none
  evacReq : Bool := false
  ce : Nat := 0
  ue : Nat := 0
  address : Nat := 0
  mergeSpoil : Nat := 0
  spoiled : Nat := 0
  ueRow : BitVec 14 := 0
  ueGranule : BitVec 2 := 0
  ueAddress : Bool := false
  ueScrub : Bool := false
  laneCe : Tbl Nat := []
  scrubEn : Bool := false
  interval : BitVec 24 := 1024
  scrubRow : BitVec 14 := 0
  lapPartial : Bool := true
  lastPartial : Bool := false
  lapBck : Nat := 0
  lapNs : Nat := 0
  laps : BitVec 32 := 0
  fixed : Nat := 0
  dropped : Nat := 0
  /-- The first BCK in which the next scrub read may be taken (R334). -/
  nextScrub : Nat := 0
  /-- Where the counts of R336 stood as the lap began: XCK of the cluster in RUN, and ns outside
  STOP. -/
  lapXck0 : Nat := 0
  lapNs0 : Nat := 0
  pending : List WriteBack := []
  /-- What firmware knows from the correction log (R332): the places (64 × row + lane) corrected in the lap under way,
  in how many laps in a row each has been, and the corrections of each lane in the lap under way and in the last one.
  The model's own fields. -/
  lapSeen : List Nat := []
  streak : Tbl Nat := []
  laneLap : Tbl Nat := []
  laneLast : Tbl Nat := []
deriving DecidableEq, Repr

/-- Slot states (Table 12-1). -/
inductive SlotState where
  | inService | spare | penned | testing | retired | unusable | copying
deriving DecidableEq, Repr

/-- What belongs to a physical slot (R345, Table 12-12). -/
structure Slot where
  logical : Nat
  state : SlotState
  failLane : Nat := 0
  failV : Bool := false
  tested : Bool := false
  rotations : Nat := 0
  patches : Tbl (BitVec 32) := []
  spareBad : BitVec 64 := 0
  /-- The slot was filled with zeros under valid check bytes, with the tags of this global logical
  bank: what its array rows hold where nothing has been written since (R355, R414). -/
  zeroFor : Option Nat := none
  /-- The accumulator-buffer rows of the slot were filled with zero data (R414). -/
  bufZero : Bool := false
deriving DecidableEq, Repr

/-- LBANK_b (Table 12-12). -/
structure LBank where
  slot : Nat
  out : Bool := false
  /-- What SCRUB_STATE.EMPTY and ABUF_STATE.USED read once the bank is out of service: their last values (R445). -/
  lastEmpty : Bool := false
  lastUsed : Nat := 0
deriving DecidableEq, Repr

/-- A test that runs, with the command that waits for it, if one does (R353). -/
structure TestRun where
  slot : Nat
  test : Nat
  /-- The test that follows LOGIC (R353). -/
  next : Option Nat := none
  who : Option (Nat × Cmd)
  /-- The BCK in which it began. -/
  began : Nat := 0
deriving DecidableEq, Repr

/-- An evacuation that runs: the logical bank, the spare, the copy pointer (R349, R350). -/
structure EvacRun where
  bank : Nat
  spare : Nat
  copied : Nat := 0
deriving DecidableEq, Repr

/-- The self-test and integrity registers of one cluster. -/
structure ClusterTest where
  test : BitVec 3 := 0
  slot : BitVec 5 := 0
  lsel : BitVec 3 := 0
  verdict : BitVec 4 := 0
  run : Option TestRun := none
  evac : Option EvacRun := none
  evacBank : BitVec 4 := 0
  evacCount : BitVec 15 := 0
  sig : BitVec 64 := 0
  exp : BitVec 64 := 0
  laneFail : BitVec 36 := 0
  laneSig : Tbl (BitVec 64) := []
  /-- The next logical bank of the rotation, and the time in MCK running at which its last step was made (R357). -/
  rotateNext : Nat := 0
  rotateAt : Nat := 0
  /-- The start-up test of its spare has been begun (R348). -/
  startTested : Bool := false
  flipMask : BitVec 288 := 0
  flipBank : BitVec 4 := 0
  flipRow : BitVec 14 := 0
  flipGranule : BitVec 2 := 0
  flipHit : Bool := false
  /-- The correction log, oldest first (R331, Table 11-8). -/
  clog : List (BitVec 32) := []
  clogOverflow : Nat := 0
  /-- A unit of the cluster failed logic BIST: no fold, no population (R347). -/
  lost : Bool := false
deriving DecidableEq, Repr

/-- Integrity and self-test. Banks by global logical number, slots by 17 × cluster + slot. -/
structure Integ where
  banks : Tbl BankInteg := []
  slots : Tbl Slot := []
  lbanks : Tbl LBank := []
  clusters : Tbl ClusterTest := []
  irq : BitVec 9 := 0
  irqEn : BitVec 9 := 0
  lastBank : BitVec 7 := 0
  lastCause : BitVec 4 := 0
  bistIrq : BitVec 5 := 0
  bistIrqEn : BitVec 5 := 0
  bistCluster : BitVec 3 := 0
  bistSlot : BitVec 5 := 0
  bistCause : BitVec 4 := 0
  postDone : Bool := false
  repairBad : Bool := false
  safeStart : Bool := false
  badClusters : BitVec 8 := 0
  postUnit : BitVec 32 := 0
  ana : BitVec 13 := 0
  /-- The time in MCK running of the last analogue check; none before the first one of the running firmware (R359). -/
  anaAt : Option Nat := none
  /-- Ports whose converter failed logic BIST (R347). -/
  badPorts : List Nat := []
  /-- The cluster whose turn the rotation is at (R357). -/
  rotateCluster : Nat := 0
deriving DecidableEq, Repr

/-- The factory repair record of one physical slot (R346). -/
structure Repair where
  slot : Nat
  patches : Tbl (BitVec 32) := []
  spareBad : BitVec 64 := 0
  bad : Bool := false
deriving DecidableEq, Repr

/-- What logic BIST found to fail at power-up (Table 12-3). -/
structure Post where
  /-- Physical slots, by 17 × cluster + slot. -/
  slots : List Nat := []
  subs : List Nat := []
  clusters : List Nat := []
  /-- Initiators whose port converter failed. -/
  ports : List Nat := []
  events : List Nat := []
  shepA : Bool := false
  shepB : Bool := false
  other : Bool := false
  sensors : List Nat := []
deriving DecidableEq, Repr

/-- What a memory BIST found (R354): by how much the signature of each lane, and that of LOGIC, differs from the value
held in ROM, and the spare rows that failed. -/
structure BistFound where
  logicDiff : BitVec 64 := 0
  laneDiff : Tbl (BitVec 64) := []
  spares : BitVec 64 := 0
deriving DecidableEq, Repr

/-- An action of the repair policy (R332). -/
inductive RepairAct where
  | patch (bank row lane : Nat)
  | retire (bank lane : Nat)
deriving DecidableEq, Repr

end Sys2Proof.Machine
end

