-- ==== Sys2Proof/Machine/PartsSystem.lean ====
section
/-!
DEFINITION. The state of clocks, power and time (13_power_time.md), of the safety partition
(14_safety.md), of firmware, service port and monitor (15_firmware_monitor.md), of register access
(16_registers.md) and of the boundary (17_boundary.md).
-/

namespace Sys2Proof.Machine

/-- Power states of a cluster and of the block (R363, Table 13-11). -/
inductive PowerMode where
  | run | entering | stop | exiting
deriving DecidableEq, Repr

/-- The number of a power state (Table 13-11). -/
def PowerMode.code : PowerMode → Nat
  | .run => 0 | .entering => 1 | .stop => 2 | .exiting => 3

/-- The six refuser counters with the last mask and the attempts (Tables 13-1, 13-11). -/
structure Refusals where
  foldWait : Nat := 0
  remote : Nat := 0
  drover : Nat := 0
  guarantee : Nat := 0
  bist : Nat := 0
  activation : Nat := 0
  mask : BitVec 6 := 0
  attempts : BitVec 16 := 0
deriving DecidableEq, Repr

/-- ABORT: abandons at A1 to A3, entries completed (Table 13-11). -/
structure Aborts where
  a1 : Nat := 0
  a2 : Nat := 0
  a3 : Nat := 0
  stops : BitVec 8 := 0
deriving DecidableEq, Repr

/-- A timer wake (R382). -/
structure TimerWake where
  target : BitVec 64 := 0
  en : Bool := false
  /-- The ACK edges counted at the completion point: it fires on a later one (R382). -/
  setAt : Nat := 0
deriving DecidableEq, Repr

/-- The power control of one cluster (R363 to R370). -/
structure ClusterPower where
  mode : PowerMode := .run
  stopReq : Bool := false
  lastWake : Nat := 0
  timer : TimerWake := {}
  ticks : Nat := 0
  /-- ACK edges counted by the idle timer. -/
  count : Nat := 0
  refusals : Refusals := {}
  aborts : Aborts := {}
  /-- Elapsed time in STOP of the stays that have ended (CSTOP_TIME). -/
  stopSum : Nat := 0
  /-- The wake indication present: its cause and the XCK in which it came (R368). -/
  wake : Option (Nat × Nat) := none
  /-- An attempt that no refuser refused, with A1 still to come: its XCK 0 (Table 13-2). -/
  attempt : Option Nat := none
  /-- XCK 0 of the entry under way. -/
  entryAt : Nat := 0
  /-- The switches have acknowledged in this XCK: A3 (Table 13-2). -/
  acked : Bool := false
  /-- Elapsed time at which the switches were last asked for, and at which STOP began. -/
  since : Nat := 0
  stopAt : Nat := 0
  /-- XCK outside RUN and ns in STOP of the stays that have ended (R336), and where the stay under
  way began. -/
  offXck : Nat := 0
  stopNs : Nat := 0
  offAt : Nat := 0
  stopNsAt : Nat := 0
  /-- The XCK at which a refusal of a STOP request was last counted (R370). -/
  refusedAt : Option Nat := none
deriving DecidableEq, Repr

/-- The steps of the power controller that wait for an acknowledgement (PWR_LAST.STEP). -/
inductive PowerStep where
  | logLower | arrLower | arrRaise | logRaise | rckFack
deriving DecidableEq, Repr

/-- The number of a step (PWR_LAST.STEP). -/
def PowerStep.code : PowerStep → Nat
  | .logLower => 1 | .arrLower => 2 | .arrRaise => 3 | .logRaise => 4 | .rckFack => 5

/-- What the block power controller is doing: entering block STOP, abandoning an entry, leaving
block STOP, changing the operating point (R372, R373, R378). -/
inductive PowerWork where
  | none | entry | abandon | exit | opPoint
deriving DecidableEq, Repr

/-- WAKE_AIN_CFG and WAKE_AIN_DEB with the comparator's state (R379). -/
structure WakeAin where
  en : Bool := false
  pol : Bool := false
  irq : Bool := false
  thresh : Nat := 0
  hyst : Nat := 0
  clusters : BitVec 8 := 0
  debounce : Nat := 1
  disabled : Bool := false
  crossings : BitVec 16 := 0
  armed : Bool := true
  /-- The XCK in which the indication of a crossing is present at the clusters (Table 13-3). -/
  due : Option Nat := none
  /-- A crossing has come that sets PWR_IRQ_STATUS.WAKE_AIN once the block is in RUN (R442). -/
  flagDue : Bool := false
deriving DecidableEq, Repr

/-- Power control of the block (Table 13-11). -/
structure Power where
  block : PowerMode := .run
  /-- Frequency in force: true for ECONOMY. -/
  eco : Bool := false
  /-- The OPPOINT_SET in progress: its token and command. -/
  opp : Option (Nat × Cmd) := none
  voltUnconf : Bool := false
  rckIdle : Bool := false
  rckFsel : Bool := false
  blkStopReq : Bool := false
  irq : BitVec 9 := 0
  irqEn : BitVec 9 := 0
  lastCause : BitVec 4 := 0
  lastCluster : BitVec 4 := 0
  lastStep : BitVec 4 := 0
  ticks : Nat := 0
  count : Nat := 0
  refusals : Refusals := {}
  aborts : Aborts := {}
  timer : TimerWake := {}
  railLog : BitVec 4 := 0
  railArr : BitVec 4 := 1
  avsVersion : BitVec 8 := 0
  logMv : BitVec 16 := 0
  arrMv : BitVec 16 := 0
  avsTimeouts : Nat := 0
  avsCrc : Nat := 0
  avsRefused : Nat := 0
  oppStep : Nat := 0
  oppTarget : Bool := false
  ain : WakeAin := {}
  sckHz : BitVec 25 := 0
  sckBad : Bool := false
  clusters : Tbl ClusterPower := []
  /-- The steps still to do, the one that waits for its acknowledgement first. -/
  work : PowerWork := .none
  steps : List PowerStep := []
  /-- An attempt that no refuser refused, with A1 still to come (Table 13-4). -/
  attempt : Bool := false
  /-- A2 of an entry is still to come (Table 13-4). -/
  beforeA2 : Bool := false
  /-- Elapsed time from which the step in front is timed. -/
  since : Nat := 0
  /-- The derived clocks stop on the next ACK edge (R40, R372). -/
  stopDue : Bool := false
  /-- What the last Voltage write of each rail asked for, in mV (Table 13-5). -/
  logSet : Nat := 750
  arrSet : Nat := 800
  /-- The ACK edges, and one, at which the last attempt under BLK_STOP_REQ was refused (R371). -/
  triedAt : Nat := 0
  /-- SCK edges for which RCK_FACK has been 1 in the exit from block STOP (R373). -/
  fackEdges : Nat := 0
  /-- The time in MCK running of the last check of SCK; none before the first (R381). -/
  sckAt : Option Nat := none
  /-- RCK_FACK has been seen at 0 since RCK_FSEL changed (R376). -/
  fackLow : Bool := false
  /-- A wake of the block is present. -/
  wake : Bool := false
  /-- Timeouts of the run of each step (R377), by PWR_LAST.STEP. -/
  runs : Tbl Nat := []
deriving DecidableEq, Repr

/-- Clocks: XCK and ACK edges since power-up, elapsed time in 1/24 ns, the SCK count while the derived
clocks stand, and the elapsed time they have stood in all (R35, R40, R381). -/
structure Clock where
  running : Bool := false
  xck : Nat := 0
  acks : Nat := 0
  elapsed : Nat := 0
  sck : Nat := 0
  stood : Nat := 0
deriving DecidableEq, Repr

/-- The time base and TSYNC (R380 to R386). -/
structure TimeBase where
  /-- TIME and TIME_FRAC as one number of 2^-32 ns. -/
  now : BitVec 96 := 0
  latchHi : BitVec 32 := 0
  latchFrac : BitVec 32 := 0
  extrapolated : Bool := false
  lost : Bool := false
  unset : Bool := true
  unc : Nat := 0
  mode : Nat := 0
  stepEn : Bool := false
  delay : Nat := 0
  period : Nat := 1000
  slewMax : Nat := 1000
  lockNs : Nat := 100
  locked : Bool := false
  tsLost : Bool := false
  outOfRange : Bool := false
  good : Nat := 0
  pulses : BitVec 16 := 0
  offset : Int := 0
  /-- The change still to be made by slew, in 2^-32 ns (R386). -/
  slew : Int := 0
  /-- Increments for which the time base is still held. -/
  hold : Nat := 0
  /-- The advance of the time base that durations count (R384), in 2^-32 ns. -/
  advance : Int := 0
  /-- `advance` at the last pulse (R386). -/
  lastPulse : Int := 0
  /-- TIME and TIME_FRAC on the last ACK edge and on the one before it (R385). -/
  edge : BitVec 96 := 0
  edgeBefore : BitVec 96 := 0
  /-- ACK periods for which TSYNC_OUT stays high. -/
  outHigh : Nat := 0
deriving DecidableEq, Repr

/-- A ledger entry (Table 14-4), its CHECK left to be computed. -/
structure LedgerEntry where
  seq : BitVec 32
  time : BitVec 64
  code : Nat
  reaction : Nat
  inHold : Bool
  rept : Nat := 0
  cluster : Nat := 0xF
  bank : Nat := 0x1F
  port : Nat := 0x7F
  detail : BitVec 32 := 0
  lastTime : BitVec 32
  /-- Its storage is uncorrectable (R413). -/
  bad : Bool := false
deriving DecidableEq, Repr

/-- The result of the analogue checks of Table 12-7: the units that failed, and the wired inputs of
the check. -/
structure AnalogFound where
  wakeAin : Bool := false
  sensors : BitVec 9 := 0
  vmonLog : Bool := false
  vmonArr : Bool := false
  avsRx : Bool := false
  /-- The comparator is at its trip level when the check ends. -/
  trip : Bool := false
deriving DecidableEq, Repr

/-- A HALF_RESET under way (R409): its token and command. -/
structure HalfReset where
  token : Nat
  cmd : Cmd
deriving DecidableEq, Repr

/-- A frame as it comes over SVC: its bytes on MOSI, and whether FLASH does what the frame asks of it (R420). -/
structure SvcFrame where
  mosi : List Byte
  flashOk : Bool := true
deriving DecidableEq, Repr

/-- An entry of a table that carries check bits (R395). -/
inductive TableEntry where
  | region (i : Nat)
  | view (i : Nat)
  | window (i : Nat)
  | stall (n i : Nat) (shadow : Bool)
  | fold (e : Nat)
  | population (i : Nat)
deriving DecidableEq, Repr

/-- What a fault strikes at its checker, as the mechanisms of Table 14-1 act on it (R390 to R395, R413): a fact of the
fault that no field of its ledger entry carries. -/
inductive FaultHit where
  /-- 0x16: the next write slot of a bank finds another row selected (R391). -/
  | row (bank : Nat)
  /-- 0x17, 0x19: granule `g` of the next write or the next read of a bank fails its parity or its residue (R392,
  R393). -/
  | granule (bank : Nat) (read : Bool) (g : Nat)
  /-- 0x19: granule `g` of the next row that the records of a staged population take fails its residue (R393). -/
  | records (pop g : Nat)
  /-- 0x18: the next response or WAKE message of a converter bears another initiator's number (R392). -/
  | response (p : Nat)
  /-- 0x20: the copies of the ingress translation differ on the next request of a port (R394). -/
  | request (p : Nat)
  /-- 0x21: the lockstep pair of a sub-port disagrees on the next decision of a side (R394). -/
  | grant (n : Nat) (read : Bool)
  /-- 0x22: the governor's second computation has another TB, level or number of steps shed (R394). -/
  | governor (tb : Nat) (level : GovLevel) (shed : Nat)
  /-- 0x23: a table entry is uncorrectable (R395). -/
  | entry (t : TableEntry)
  /-- The storage of a ledger entry, by index, is uncorrectable (R413): it is reported under no code, and 0xFF stands in
  the report's place. -/
  | ledger (i : Nat)
deriving DecidableEq, Repr

/-- A fault report (R399, Table 14-4): its code and what it concerns. A Shepherd is named by PORT. -/
structure FaultInfo where
  code : Nat
  cluster : Nat := 0xF
  bank : Nat := 0x1F
  port : Nat := 0x7F
  /-- Nothing where the manual states no DETAIL for the code: the entry then holds a free value. -/
  detail : Option (BitVec 32) := none
  /-- The occurrence reacts with HOLD whatever its code is set to: the fifth PWR_TIMEOUT of a run
  (R377). -/
  hold : Bool := false
  /-- What the fault strikes, where there is something. -/
  hit : Option FaultHit := none
deriving DecidableEq, Repr

/-- The safety partition (Table 14-8). -/
structure Safety where
  hold : Bool := false
  resetDone : Bool := false
  holdCode : Nat := 0
  halfA : Bool := false
  halfB : Bool := false
  copy0 : BitVec 2 := 1
  copy1 : BitVec 2 := 1
  copy2 : BitVec 2 := 1
  /-- When each Shepherd last claimed or its claim age restarted, in time for which MCK has run. -/
  claimA : Option Nat := none
  claimB : Option Nat := none
  /-- Claims not yet judged by the token check. -/
  claimedA : Bool := false
  claimedB : Bool := false
  /-- The holder has claimed since it last became holder (R408). -/
  heldClaim : Bool := false
  /-- When the token check begins to apply (R404, R416, R423), in time for which MCK has run; none while
  no firmware has run and while an image is switched. -/
  crookFrom : Option Nat := none
  /-- The token has been found without a valid majority and has had none since (R404). -/
  tokenLost : Bool := false
  irq : BitVec 5 := 0
  irqEn : BitVec 5 := 0x1F
  /-- By SEQ mod 1024. -/
  ledger : Tbl LedgerEntry := []
  head : BitVec 32 := 0
  ack : BitVec 32 := 0
  overrun : Nat := 0
  wdogMs : Nat := 10
  wdogEn : Bool := true
  /-- When each Shepherd last wrote its watchdog, in time for which MCK has run. -/
  wdogA : Nat := 0
  wdogB : Nat := 0
  /-- The output test in progress: when it began (R411). -/
  test : Option Nat := none
  pass : Bool := false
  lifecycle : Nat
  fails : Nat := 0
  /-- Reactions that differ from their defaults, by code. -/
  react : Tbl Nat := []
  resetA : Option HalfReset := none
  resetB : Option HalfReset := none
  /-- The sequencer pair disagreed: both outputs held until power-up (R396). -/
  seqBad : Bool := false
  /-- RCK stopped while RCK_IDLE was 0 (R396). -/
  rckLost : Bool := false
  /-- That loss stopped derived clocks that ran (R396). -/
  rckStood : Bool := false
  /-- Fault reports on their way to the collector, oldest first (R397). -/
  reports : List FaultInfo := []
  /-- Arbiter mismatches: by sub-port, the XCK of the last one and the length of the run (R394). -/
  mismatch : Tbl (Nat × Nat) := []
deriving DecidableEq, Repr

/-- FW_STATE.STATE (Table 2-7, R52). -/
inductive FwState where
  | off | booting | running | switching | failed
deriving DecidableEq, Repr

/-- The number of a firmware state. -/
def FwState.code : FwState → Nat
  | .off => 0 | .booting => 1 | .running => 2 | .switching => 3 | .failed => 4

/-- Image slot states (Table 15-10). -/
inductive ImageState where
  | empty | verified | confirmed
deriving DecidableEq, Repr

/-- The number of an image slot state. -/
def ImageState.code : ImageState → Nat
  | .empty => 0 | .verified => 1 | .confirmed => 2

/-- An image slot of FLASH: blocks of 4 KiB by index (R418). -/
structure ImageSlot where
  state : ImageState := .empty
  blocks : Tbl (BitVec 32768) := []
deriving DecidableEq, Repr

/-- What the boot record names (R417). -/
structure BootRecord where
  active : Nat := 0
  /-- The slot that was active before the trial in progress. -/
  trial : Option Nat := none
  /-- The slots marked confirmed. -/
  confA : Bool := false
  confB : Bool := false
deriving DecidableEq, Repr

/-- A slot is marked confirmed. -/
def BootRecord.confirmed (r : BootRecord) (k : Nat) : Bool := if k = 0 then r.confA else r.confB

/-- Mark a slot confirmed, or not. -/
def BootRecord.mark (r : BootRecord) (k : Nat) (b : Bool) : BootRecord :=
  if k = 0 then { r with confA := b } else { r with confB := b }

/-- The items of the settings that firmware itself goes by (Table 15-6). -/
structure Items where
  repairAuto : Bool := true
  patchRepeat : Nat := 2
  laneLapLimit : Nat := 256
  lanePatchLimit : Nat := 8
  rotateEn : Bool := true
  rotateTest : Nat := 2
  startTest : Nat := 2
  rotatePeriod : Nat := 600
  retHold : Nat := 64
  anaPeriod : Nat := 10
  bootCount : BitVec 16 := 0
  /-- Repair entries, 8 bytes each. -/
  repairs : List (BitVec 64) := []
deriving DecidableEq, Repr

/-- An ACTIVATE_AT or a fallback between its acceptance and the start of the image (R422 to R426). -/
structure Activation where
  slot : Nat
  target : BitVec 64
  /-- The command that waits; none for a fallback. -/
  cmd : Option (Nat × Cmd) := none
  /-- The edge, once it has passed, and the safe point, in time for which MCK has run. -/
  edge : Option Nat := none
  safe : Option Nat := none
deriving DecidableEq, Repr

/-- OTP (R414, R419, R440). -/
structure Otp where
  digests : Tbl (BitVec 384) := []
  revoked : BitVec 4 := 0
  counter : Nat := 0
  rmaCode : BitVec 32
  unique : BitVec 64
  maker : BitVec 11
  stepping : BitVec 8
deriving DecidableEq, Repr

/-- The service port (R420, R421). -/
structure Svc where
  busy : Bool := false
  vcheck : Nat := 0
  result : Nat := 0
  blocks : Nat := 0
  open_ : Option Nat := none
  /-- Indices of the open image programmed and read back. -/
  done : List Nat := []
  /-- Staged blocks: index and payload. -/
  staging : List (Nat × BitVec 32768) := []
  /-- The image under verification: slot and block count. -/
  closing : Option (Nat × Nat) := none
  /-- The outbound queue, oldest byte first. -/
  out : List Byte := []
  /-- The data of the last READ frame. -/
  lastAnswer : List Byte := []
deriving DecidableEq, Repr

/-- What the monitor puts out (R431, R432); the text form of a line is left to firmware. -/
inductive MonItem where
  | command (name : String)
  | register (addr : Nat) (value : BitVec 32)
  | byte (addr : Nat) (value : BitVec 8) (spoiled : Bool)
  | fold (record : BitVec 256)
  | ledger (record : BitVec 256)
  | note (text : String)
  | ok
  | err (status : Status)
  | prompt
deriving DecidableEq, Repr

/-- A monitor command with its arguments (Table 15-7), or a line that is none, with its status. -/
inductive MonCmd where
  | help
  | peekR (addr : BitVec 24) (n : Nat)
  | peekM (addr n : Nat)
  | pokeR (addr : BitVec 24) (v : BitVec 32)
  | pokeM (addr : Nat) (v : BitVec 32)
  | folds (k : Option Nat)
  | ledger (n : Nat)
  | stats (group : Nat)
  | baud (rate : Nat)
  | wrong (status : Status)
deriving DecidableEq, Repr

/-- MON (R431). -/
structure Mon where
  /-- The characters that the receiver holds, oldest first. -/
  fifo : List Byte := []
  /-- The characters of the line that the monitor program is taking. -/
  line : List Byte := []
  /-- Lines not yet answered, oldest first. -/
  lines : List MonCmd := []
  overrun : Nat := 0
  baud : Nat := 115200
  out : List MonItem := []
deriving DecidableEq, Repr

/-- Firmware, FLASH and OTP (Table 15-10). -/
structure Firmware where
  state : FwState := .off
  runA : Bool := false
  runB : Bool := false
  /-- FW_STATE fields that firmware reports beside (R52). -/
  slotA : ImageSlot := {}
  slotB : ImageSlot := {}
  /-- The two copies of the boot record as FLASH holds them; none where a copy is erased (R417). -/
  boot0 : Option (List Byte) := none
  boot1 : Option (List Byte) := none
  active : Nat := 0
  /-- Firmware has written ACTIVE since the reset (R15). -/
  activeKnown : Bool := false
  defaulted : Bool := false
  /-- Repair entries that firmware installs as soon as their rows are free (R28, R332). The model's own field. -/
  toInstall : List (BitVec 64) := []
  svn : Nat := 0
  schema : Nat := 1
  irq : BitVec 4 := 0
  irqEn : BitVec 4 := 0
  pendingAct : Option Activation := none
  /-- The trial in progress: where `advance` stood at its start (R424). -/
  trialAt : Option Int := none
  /-- A fallback is under way: the trial slot that is being left (R426). -/
  fallback : Option Nat := none
  window : Nat := 10
  settings0 : Option (List Byte) := none
  settings1 : Option (List Byte) := none
  items : Items := {}
  otp : Otp
  svc : Svc := {}
  mon : Mon := {}
deriving DecidableEq, Repr

/-- A register access as it crosses CTL or SP (R131). -/
structure RegAccess where
  sp : Bool
  write : Bool
  addr : BitVec 24
  data : BitVec 32 := 0
  strb : BitVec 4 := 0xF
  parityOk : Bool := true
deriving DecidableEq, Repr

/-- CTL_STATUS (R131). -/
inductive RegStatus where
  | ok | perm | parity
deriving DecidableEq, Repr

/-- The answer to a register access. -/
structure RegAnswer where
  sp : Bool
  write : Bool
  addr : BitVec 24
  data : BitVec 32
  /-- CTL_RPAR: odd parity of each byte of the read data (R131). -/
  par : BitVec 4
  status : RegStatus
deriving DecidableEq, Repr

/-- Block core registers and the two register interfaces (R436 to R443). -/
structure RegIf where
  scratch0 : BitVec 32 := 0
  scratch1 : BitVec 32 := 0
  scratch2 : BitVec 32 := 0
  scratch3 : BitVec 32 := 0
  route : BitVec 11 := 0
  hostEn : Bool := true
  auxEn : Bool := true
  forceHost : Bool := false
  forceAux : Bool := false
  /-- Accesses that wait for a cluster or for the block, oldest first (R436). -/
  waitCtl : List RegAccess := []
  waitSp : List RegAccess := []
  /-- The answers given on each interface, newest first. -/
  ansCtl : List RegAnswer := []
  ansSp : List RegAnswer := []
deriving DecidableEq, Repr

/-- Signals of the boundary that are not another unit's state (R447 to R458). -/
structure Pins where
  pwrOk : Bool := false
  rckFack : Bool := false
  /-- Width strap of each initiator that is not 128 B: 0 to 3 (R449, Table 16-3). -/
  widths : Tbl Nat := []
  /-- Ports whose group clock stands (R38). -/
  clockStopped : Tbl Bool := []
  /-- Events presented on the egress channels, newest first. -/
  eventsOut : List (Nat × BitVec 132) := []
  /-- Levels of INT_HOST, INT_AUX and INT_SAFE as the derived clocks last stopped (R442). -/
  heldHost : Bool := false
  heldAux : Bool := false
  heldSafe : Bool := false
deriving DecidableEq, Repr

/-- Instructions of the TAP (R360, Table 12-8): the four mandatory ones of IEEE 1149.1, and those of
MANUFACTURE and RMA. A raw access names a physical slot, a physical row and the 144 bytes of it; a
repair fuse belongs to the factory record of a slot. The OTP that the manual says is programmed in
MANUFACTURE is programmed here too (DESIGN CHOICE). -/
inductive TapOp where
  | bypass
  | idcode
  | samplePreload
  | extest
  | internalScan
  | rawRead (slot row : Nat)
  | rawWrite (slot row : Nat) (data : BitVec 1152)
  | repairFuse (r : Repair)
  | otpKey (slot : Nat) (digest : BitVec 384)
  | otpIdentity (unique : BitVec 64) (maker : BitVec 11) (rmaCode : BitVec 32)
deriving DecidableEq, Repr

/-- TAP (R360): the instruction in force, its data register, and the fuses programmed since the OTP was last
read: repair records, die identifier and maker. -/
structure Tap where
  ir : TapOp := .idcode
  dr : BitVec 1152 := 0
  fuses : List Repair := []
  unique : BitVec 64 := 0
  maker : BitVec 11 := 0
deriving DecidableEq, Repr

end Sys2Proof.Machine
end

