-- ==== Sys2Proof/Syntax.lean ====
section
/-!
DEFINITION. The commands of the block: one constructor for each row of spec/opcode_table.json, with
the row's operands. A command packet keeps its source beside its bytes; an event row carries what
comes from outside the block with it.
-/

namespace Sys2Proof

open Sys2Proof.Machine

/-- The commands and events of the block, in the order of the table. -/
inductive Instr where
  /-- NOP (R69) -/
  | nop (c : Cmd)
  /-- ECHO (R69) -/
  | echo (c : Cmd)
  /-- QUERY_STATE (R52) -/
  | queryState (c : Cmd)
  /-- CTX_RESET (R282) -/
  | ctxReset (c : Cmd)
  /-- PORT_RESET (R132) -/
  | portReset (c : Cmd)
  /-- DRAIN (R133) -/
  | drain (c : Cmd)
  /-- DRAIN_COMPLETE (R133) -/
  | drainComplete (token : Nat)
  /-- REGION_SET (R84) -/
  | regionSet (c : Cmd)
  /-- REGION_CLEAR (R84) -/
  | regionClear (c : Cmd)
  /-- REGION_QUERY (R99) -/
  | regionQuery (c : Cmd)
  /-- REGION_MARK_INIT (R85) -/
  | regionMarkInit (c : Cmd)
  /-- VIEW_SET (R96) -/
  | viewSet (c : Cmd)
  /-- VIEW_CLEAR (R96) -/
  | viewClear (c : Cmd)
  /-- VIEW_QUERY (R99) -/
  | viewQuery (c : Cmd)
  /-- VIEW_STATS (R220) -/
  | viewStats (c : Cmd)
  /-- STALL_LOAD (R146) -/
  | stallLoad (c : Cmd)
  /-- STALL_SWAP (R147) -/
  | stallSwap (c : Cmd)
  /-- STALL_SWAP_TAKE_EFFECT (R147) -/
  | stallSwapTakeEffect (s : Nat)
  /-- STALL_QUERY (R151) -/
  | stallQuery (c : Cmd)
  /-- PRIO_SET (R125) -/
  | prioSet (c : Cmd)
  /-- PARK_SET (R126) -/
  | parkSet (c : Cmd)
  /-- STARVE_SET (R142) -/
  | starveSet (c : Cmd)
  /-- SHARE_SET (R155) -/
  | shareSet (c : Cmd)
  /-- URGENCY_SET (R159) -/
  | urgencySet (c : Cmd)
  /-- LATENCY_SET (R162) -/
  | latencySet (c : Cmd)
  /-- BUDGET_SET (R163) -/
  | budgetSet (c : Cmd)
  /-- ADMIT (R165) -/
  | govAdmit (c : Cmd)
  /-- GUARANTEE_RELEASE (R169) -/
  | guaranteeRelease (c : Cmd)
  /-- POWER_LIMIT_SET (R172) -/
  | powerLimitSet (c : Cmd)
  /-- SHED_QUERY (R180) -/
  | shedQuery (c : Cmd)
  /-- FOLD_MAP (R259) -/
  | foldMap (c : Cmd)
  /-- FOLD_CREATE (R262) -/
  | foldCreate (c : Cmd)
  /-- FOLD_DESTROY (R283) -/
  | foldDestroy (c : Cmd)
  /-- FOLD_ARM (R284) -/
  | foldArm (c : Cmd)
  /-- FOLD_OP (R263) -/
  | foldOp (c : Cmd)
  /-- FOLD_QUERY (R285) -/
  | foldQuery (c : Cmd)
  /-- FOLD_DUMP (R286) -/
  | foldDump (c : Cmd)
  /-- FOLD_DUMP_RECORD (R421) -/
  | foldDumpRecord
  /-- POP_SET (R241) -/
  | popSet (c : Cmd)
  /-- POP_CLEAR (R241) -/
  | popClear (c : Cmd)
  /-- POP_QUERY (R255) -/
  | popQuery (c : Cmd)
  /-- POP_STAGE (R232) -/
  | popStage (c : Cmd)
  /-- POP_STAGE_DONE (R232) -/
  | popStageDone (pop : Nat)
  /-- POP_UNSTAGE (R233) -/
  | popUnstage (c : Cmd)
  /-- POP_UNSTAGE_DONE (R233) -/
  | popUnstageDone (pop : Nat)
  /-- STEP (R250) -/
  | step (c : Cmd)
  /-- STEP_ROW (R251) -/
  | stepRow (pop : Nat)
  /-- STEP_COMPLETE (R251) -/
  | stepComplete (pop : Nat)
  /-- POP_UNTAINT (R249) -/
  | popUntaint (c : Cmd)
  /-- EVROUTE_SET (R252) -/
  | evrouteSet (c : Cmd)
  /-- DRV_FILL (R72) -/
  | drvFill (c : Cmd)
  /-- DRV_COPY (R73) -/
  | drvCopy (c : Cmd)
  /-- DRV_CONVERT (R219) -/
  | drvConvert (c : Cmd)
  /-- DRV_EVACUATE (R349) -/
  | drvEvacuate (c : Cmd)
  /-- DRV_CANCEL (R74) -/
  | drvCancel (c : Cmd)
  /-- DRV_QUERY (R467) -/
  | drvQuery (c : Cmd)
  /-- DRV_JOB_START (R175) -/
  | drvJobStart (inBank : Bool)
  /-- DRV_ROW (R70) -/
  | drvRow (inBank : Bool)
  /-- DRV_JOB_COMPLETE (R73) -/
  | drvJobComplete (inBank : Bool)
  /-- WINDOW_SET (R90) -/
  | windowSet (c : Cmd)
  /-- WINDOW_CLEAR (R99) -/
  | windowClear (c : Cmd)
  /-- WINDOW_QUERY (R99) -/
  | windowQuery (c : Cmd)
  /-- CHIP_ID_SET (R291) -/
  | chipIdSet (c : Cmd)
  /-- EPOCH_SET (R292) -/
  | epochSet (c : Cmd)
  /-- LINK_RESET (R309) -/
  | linkReset (c : Cmd)
  /-- LINK_RESET_COMPLETE (R309) -/
  | linkResetComplete (n : Nat)
  /-- LINK_QUERY (R310) -/
  | linkQuery (c : Cmd)
  /-- RETRY_SET (R306) -/
  | retrySet (c : Cmd)
  /-- SCRUB_SET (R334) -/
  | scrubSet (c : Cmd)
  /-- PATCH_SET (R330) -/
  | patchSet (c : Cmd)
  /-- PATCH_QUERY (R341) -/
  | patchQuery (c : Cmd)
  /-- LANE_RETIRE (R320) -/
  | laneRetire (c : Cmd)
  /-- INTEG_QUERY (R342) -/
  | integQuery (c : Cmd)
  /-- BIST_RUN (R356) -/
  | bistRun (c : Cmd)
  /-- BIST_QUERY (R361) -/
  | bistQuery (c : Cmd)
  /-- PEN_BANK (R353) -/
  | penBank (c : Cmd)
  /-- FLIP_ARM (R340) -/
  | flipArm (c : Cmd)
  /-- PWR_STATE_SET (R370) -/
  | pwrStateSet (c : Cmd)
  /-- IDLE_TIMER_SET (R364) -/
  | idleTimerSet (c : Cmd)
  /-- OPPOINT_SET (R378) -/
  | oppointSet (c : Cmd)
  /-- PWR_QUERY (R387) -/
  | pwrQuery (c : Cmd)
  /-- TIME_SET (R383) -/
  | timeSet (c : Cmd)
  /-- TIME_QUERY (R387) -/
  | timeQuery (c : Cmd)
  /-- TSYNC_CFG (R385) -/
  | tsyncCfg (c : Cmd)
  /-- WAKE_AIN_CFG (R379) -/
  | wakeAinCfg (c : Cmd)
  /-- TIMER_WAKE_SET (R382) -/
  | timerWakeSet (c : Cmd)
  /-- FW_QUERY (R433) -/
  | fwQuery (c : Cmd)
  /-- ACTIVATE_AT (R422) -/
  | activateAt (c : Cmd)
  /-- HEALTH_OK (R425) -/
  | healthOk (c : Cmd)
  /-- CONFIRM_WINDOW_SET (R424) -/
  | confirmWindowSet (c : Cmd)
  /-- SETTINGS_READ (R430) -/
  | settingsRead (c : Cmd)
  /-- SETTINGS_WRITE (R430) -/
  | settingsWrite (c : Cmd)
  /-- SETTINGS_DEFAULT (R430) -/
  | settingsDefault (c : Cmd)
  /-- SAFE_HOLD_EXIT (R408) -/
  | safeHoldExit (c : Cmd)
  /-- HALF_RESET (R409) -/
  | halfReset (c : Cmd)
  /-- HALF_RESET_COMPLETE (R409) -/
  | halfResetComplete (half : Bool)
  /-- CROOK_ASSIGN (R405) -/
  | crookAssign (c : Cmd)
  /-- FLIP_MASK_SET (R340) -/
  | flipMaskSet (c : Cmd)
  /-- LEDGER_READ (R413) -/
  | ledgerRead (c : Cmd)
  /-- SAFETY_CFG (R401) -/
  | safetyCfg (c : Cmd)
  /-- LIFECYCLE_SET (R414) -/
  | lifecycleSet (c : Cmd)
  /-- COMMAND_START_AFTER_PREV (R56) -/
  | commandStartAfterPrev (token : Nat)
  /-- DOORBELL (R60) -/
  | doorbell (n : Nat) (v : BitVec 32)
  /-- RING_FETCH (R61) -/
  | ringFetch (n : Nat)
  /-- RING_ENABLE (R64) -/
  | ringEnable (n : Nat) (v : BitVec 32)
  /-- RING_DISABLE (R64) -/
  | ringDisable (n : Nat)
  /-- REPLY_RD_WRITE (R446) -/
  | replyRdWrite (n : Nat) (v : BitVec 32)
  /-- CMDW_GO (R65) -/
  | cmdwGo (sp : Bool)
  /-- CMD_REQUEST (R66) -/
  | cmdRequest (p : Nat) (r : ReqWord)
  /-- NOP_REQUEST (R110) -/
  | nopRequest (p : Nat) (r : ReqWord)
  /-- RD (R109) -/
  | rd (p : Nat) (r : ReqWord)
  /-- WR (R107) -/
  | wr (p : Nat) (r : ReqWord)
  /-- WRM (R107) -/
  | wrm (p : Nat) (r : ReqWord)
  /-- ACC (R224) -/
  | acc (p : Nat) (r : ReqWord)
  /-- FENCE (R119) -/
  | fence (p : Nat) (r : ReqWord)
  /-- FENCE_COMPLETE (R119) -/
  | fenceComplete (req : Nat)
  /-- FOLD_REQUEST (R264) -/
  | foldRequest (p : Nat) (r : ReqWord)
  /-- WRITE_DATA_BEAT (R106) -/
  | writeDataBeat (p : Nat) (b : WBeat)
  /-- PIECE_QUEUE_ACCEPT (R155) -/
  | pieceQueueAccept (p s : Nat)
  /-- SUBPORT_GRANT (R140) -/
  | subportGrant (s : Nat)
  /-- MERGE_READ (R139) -/
  | mergeRead (k b : Nat)
  /-- BANK_WRITE_SLOT (R33) -/
  | bankWriteSlot (k b : Nat)
  /-- READ_BEAT_COMPLETE (R109) -/
  | readBeatComplete (k b : Nat)
  /-- SCALE_CACHE_FILL (R197) -/
  | scaleCacheFill (k addr : Nat)
  /-- EPOCH_TIME_BOUNDARY (R212) -/
  | epochTimeBoundary (view : Nat)
  /-- EPOCH_SETTLE (R215) -/
  | epochSettle (view : Nat)
  /-- ARRIVE (R267) -/
  | arrive (k : Nat)
  /-- SIGNAL (R268) -/
  | signal (k : Nat)
  /-- CONSUME (R269) -/
  | consume (k : Nat)
  /-- WAIT (R272) -/
  | wait (k : Nat)
  /-- READ (R267) -/
  | read (k : Nat)
  /-- WAKE_SEQUENCER_END (R273) -/
  | wakeSequencerEnd (k : Nat)
  /-- WAITER_TIMEOUT (R274) -/
  | waiterTimeout (order : Nat)
  /-- FOLD_STATE_UE (R281) -/
  | foldStateUe (k i : Nat)
  /-- EVENT_INGRESS (R237) -/
  | eventIngress (v : Nat) (w : BitVec 132)
  /-- SPIKE (R245) -/
  | spike (k : Nat)
  /-- MARK (R239) -/
  | mark (k : Nat)
  /-- EVENT_EGRESS (R238) -/
  | eventEgress (v : Nat)
  /-- EVAC_ROW_COPY (R349) -/
  | evacRowCopy (k : Nat)
  /-- TAKEOVER (R351) -/
  | takeover (k : Nat)
  /-- BIST_TEST_END (R355) -/
  | bistTestEnd (k : Nat) (f : BistFound)
  /-- SCRUB_READ (R333) -/
  | scrubRead (k b : Nat)
  /-- SCRUB_WRITE_BACK (R335) -/
  | scrubWriteBack (k b : Nat)
  /-- REPAIR_POLICY_ACTION (R332) -/
  | repairPolicyAction (a : RepairAct)
  /-- ROTATION_STEP (R357) -/
  | rotationStep
  /-- CLOG_POP (R331) -/
  | clogPop (k : Nat)
  /-- GOV_WINDOW_START (R172) -/
  | govWindowStart
  /-- SENSOR_READ (R173) -/
  | sensorRead (readings : List (Nat × Int))
  /-- BELL_LEVEL_CHANGE (R158) -/
  | bellLevelChange (n : Nat) (lines : BitVec 2)
  /-- LINK_SEND (R293) -/
  | linkSend (chip : Nat)
  /-- LINK_RESEND (R306) -/
  | linkResend (req : Nat)
  /-- LINK_REMOTE_LOST (R307) -/
  | linkRemoteLost (req : Nat)
  /-- LINK_RESPONSE (R297) -/
  | linkResponse (n : Nat) (r : LinkRsp)
  /-- LINK_INBOUND_REQUEST (R299) -/
  | linkInboundRequest (n : Nat) (r : LinkReq)
  /-- PENDING_SIGNAL_RELEASE (R304) -/
  | pendingSignalRelease (order : Nat)
  /-- HELD_OP_STALE (R308) -/
  | heldOpStale (order : Nat)
  /-- SOURCE_ENTRY_RECLAIM (R300) -/
  | sourceEntryReclaim (i : Nat)
  /-- LINK_UP_CHANGE (R294) -/
  | linkUpChange (n : Nat) (up : Bool)
  /-- CLUSTER_IDLE_EXPIRE (R365) -/
  | clusterIdleExpire (k : Nat)
  /-- RETENTION_SWITCH_ACK (R366) -/
  | retentionSwitchAck (k : Nat)
  /-- CLUSTER_WAKE (R368) -/
  | clusterWake (k : Nat)
  /-- CLUSTER_EXIT_COMPLETE (R369) -/
  | clusterExitComplete (k : Nat)
  /-- BLOCK_IDLE_EXPIRE (R371) -/
  | blockIdleExpire
  /-- BLOCK_WAKE (R373) -/
  | blockWake
  /-- AVS_STATUS_POLL (R375) -/
  | avsStatusPoll (crcOk actionTaken : Bool)
  /-- AVS_VOLTAGE_ACK (R375) -/
  | avsVoltageAck (mv : BitVec 16)
  /-- PWR_TIMEOUT (R377) -/
  | pwrTimeout (step k : Nat)
  /-- RCK_FACK_CHANGE (R376) -/
  | rckFackChange (level : Bool)
  /-- TIMER_WAKE_FIRE (R382) -/
  | timerWakeFire (who : Nat)
  /-- WAKE_AIN_CROSSING (R379) -/
  | wakeAinCrossing
  /-- SCK_CHECK (R381) -/
  | sckCheck (hz : BitVec 25)
  /-- TSYNC_PULSE_OUT (R385) -/
  | tsyncPulseOut
  /-- TSYNC_PULSE_IN (R386) -/
  | tsyncPulseIn
  /-- TSYNC_PULSE_MISSING (R386) -/
  | tsyncPulseMissing
  /-- TIME_LO_READ (R380) -/
  | timeLoRead (sp : Bool)
  /-- ANALOG_CHECK (R359) -/
  | analogCheck (f : AnalogFound)
  /-- FAULT_REPORT (R399) -/
  | faultReport (f : FaultInfo)
  /-- CROOK_CLAIM (R403) -/
  | crookClaim (half : Bool)
  /-- CROOK_TOKEN_CHECK (R404) -/
  | crookTokenCheck (c0 c1 c2 : BitVec 2)
  /-- WATCHDOG_WRITE (R402) -/
  | watchdogWrite (half : Bool)
  /-- WATCHDOG_EXPIRE (R402) -/
  | watchdogExpire (half : Bool)
  /-- SEQUENCER_MISMATCH (R396) -/
  | sequencerMismatch
  /-- RCK_LOSS (R396) -/
  | rckLoss
  /-- OUTPUT_TEST (R411) -/
  | outputTest
  /-- OUTPUT_TEST_END (R411) -/
  | outputTestEnd (padsOk : Bool)
  /-- LEDGER_ACK (R413) -/
  | ledgerAck (seq : BitVec 32)
  /-- ACTIVATION_EDGE (R423) -/
  | activationEdge
  /-- ACTIVATION_SAFE_POINT (R423) -/
  | activationSafePoint
  /-- ACTIVATION_TIMEOUT (R423) -/
  | activationTimeout
  /-- IMAGE_RUNNING (R423) -/
  | imageRunning
  /-- CONFIRM_WINDOW_EXPIRE (R426) -/
  | confirmWindowExpire
  /-- FIRMWARE_BOOT (R427) -/
  | firmwareBoot (flashOk : Bool)
  /-- SVC_STATUS (R420) -/
  | svcStatus
  /-- IMG_OPEN (R421) -/
  | imgOpen (arg : BitVec 32) (flashOk : Bool)
  /-- IMG_BLOCK (R421) -/
  | imgBlock (arg : BitVec 32) (data : BitVec 32768)
  /-- IMG_BLOCK_PROGRAMMED (R421) -/
  | imgBlockProgrammed (flashOk : Bool)
  /-- IMG_CLOSE (R419) -/
  | imgClose (arg : BitVec 32)
  /-- SVC_READ (R421) -/
  | svcRead (len : Nat)
  /-- MON_CHAR_RX (R431) -/
  | monCharRx (ch : Byte)
  /-- HELP (R432) -/
  | help
  /-- PEEK_R (R432) -/
  | peekR (addr : BitVec 24) (n : Nat)
  /-- PEEK_M (R432) -/
  | peekM (addr n : Nat)
  /-- POKE_R (R432) -/
  | pokeR (addr : BitVec 24) (v : BitVec 32)
  /-- POKE_M (R432) -/
  | pokeM (addr : Nat) (v : BitVec 32)
  /-- FOLDS (R432) -/
  | folds (k : Option Nat)
  /-- LEDGER (R432) -/
  | ledger (n : Nat)
  /-- STATS (R432) -/
  | stats (group : Nat)
  /-- BAUD (R432) -/
  | baud (rate : Nat)
  /-- PWR_OK_RISE (R455) -/
  | pwrOkRise (widths : List (Nat × Nat)) (repair : List Repair) (repairBad : BitVec 8) (count : Nat)
  /-- HARDWARE_READY (R346) -/
  | hardwareReady (post : Post)
  /-- PWR_OK_FALL (R458) -/
  | pwrOkFall
  /-- PORT_CTX_WRITE (R114) -/
  | portCtxWrite (p : Nat) (v : BitVec 32)
  /-- BURST_WRITE (R141) -/
  | burstWrite (p : Nat) (v : BitVec 32)
  /-- MBOX_CFG_WRITE (R67) -/
  | mboxCfgWrite (p : Nat) (v : BitVec 32)
  /-- STAT_CFG_WRITE (R217) -/
  | statCfgWrite (k : Nat) (v : BitVec 32)
  /-- REGISTER_WRITE (R437) -/
  | registerWrite (a : RegAccess)
  /-- PORT_GROUP_CLOCK_CHANGE (R38) -/
  | portGroupClockChange (p : Nat) (runs : Bool)
  /-- RESPONSE_TRANSFER (R122) -/
  | responseTransfer (p : Nat)
  /-- RCK_RETURN (R396) -/
  | rckReturn
  /-- WAKE_AIN_REARM (R379) -/
  | wakeAinRearm
  /-- SVC_BAD_FRAME (R420) -/
  | svcBadFrame (f : SvcFrame)
  /-- IMG_CLOSE_END (R419) -/
  | imgCloseEnd
  /-- IMAGE_START_TIMEOUT (R426) -/
  | imageStartTimeout
  /-- REGISTER_READ (R436) -/
  | registerRead (a : RegAccess)
  /-- JTAG_INSTRUCTION (R360) -/
  | jtagInstruction (i : TapOp)
deriving DecidableEq, Repr

end Sys2Proof
end

