-- ==== Sys2Proof/Decode.lean ====
section
/-!
DEFINITION. The command that a word spells. No row of spec/opcode_table.json gives bits: a command
reaches the block as a packet, a request word or an event, never as a word of the table.
-/

namespace Sys2Proof

/-- The rows that give bits: the bits that are fixed, the values they have, and the command. -/
def tableRows : List (Nat × Nat × Nat × Instr) := []

/-- The row among `rows` that a word of `nbits` bits spells. -/
def matchRow (nbits w : Nat) : List (Nat × Nat × Nat × Instr) → Option Instr
  | [] => none
  | (n, mask, value, i) :: r =>
    if n = nbits ∧ w &&& mask = value then some i else matchRow nbits w r

/-- The command that a word spells by the table's bits. -/
def decodeTableWord (nbits w : Nat) : Option Instr := matchRow nbits w tableRows

end Sys2Proof
end

