-- ==== Sys2Proof/Machine/State.lean ====
section
/-!
DEFINITION. The whole state of the block, the reasons a step can stop, and the state at reset.
-/

namespace Sys2Proof.Machine

/-- Why a step faults. No meaning of this model raises one: the spec gives every command and event
an effect (safe). -/
inductive Fault where
  /-- Raised by no meaning; kept so that the type says what a stop would be (safe). -/
  | noEffect (row : String)
deriving DecidableEq, Repr

/-- Why a step refuses. -/
inductive Refusal where
  /-- A row of the table without a meaning: raised by `exec` alone (safe). -/
  | notModelled (mnemonic : String)
deriving DecidableEq, Repr

/-- The state of the block. -/
structure State where
  cfg : Model
  clock : Clock
  time : TimeBase
  power : Power
  safety : Safety
  fw : Firmware
  reg : RegIf
  pins : Pins
  tap : Tap
  cmd : CmdIf
  addr : AddrTables
  conv : Conv
  xbar : Xbar
  gov : Gov
  eng : EventUnit
  folds : FoldUnit
  links : Links
  integ : Integ
  /-- Array bytes, by physical address; an address not listed has not been written since power-up. -/
  mem : List Host.Cell
  /-- Power-ups so far: which unwritten contents the arrays show (R338). -/
  powerUps : Nat
  /-- Free values used so far. The model's own field. -/
  fresh : Nat
  /-- Commands and events that wait, first in first out. The model's own field. -/
  pending : List Instr
deriving DecidableEq, Repr

/-- The configuration's maximum power, mW (R172, Table 17-6). -/
def maxPower : Model → Nat
  | .tm64 => 15500 | .tm128 => 31000 | .tm256 => 62000

/-- Table 6-4: band, NOMINAL and ECONOMY, TM-256. -/
def leakTable : List (Nat × Nat) :=
  [(3000, 2100), (4000, 2800), (5000, 3500), (6500, 4550), (8000, 5600), (10000, 7000),
   (12000, 8400), (12000, 8400)]

/-- One column of Table 6-4 scaled by C ÷ 8 and rounded down (R172). -/
def scaledLeak (m : Model) (col : Nat × Nat → Nat) : Tbl Nat :=
  (List.range 8).map (fun i => (i, col (leakTable.getD i (0, 0)) * m.clusters / 8))

/-- BUDGET_HINT with 0xF for each present cluster (R455, Table 6-10). -/
def fullHint (m : Model) : BitVec 32 := BitVec.ofNat 32 (2 ^ (4 * m.clusters) - 1)

/-- The governor at reset (Table 6-10). -/
def govReset (m : Model) : Gov :=
  { limit := maxPower m
    hint := fullHint m
    leakNom := scaledLeak m Prod.fst
    leakEco := scaledLeak m Prod.snd
    ctrl := 2000 * m.clusters / 8
    floor := 2000 * m.clusters / 8 }

/-- The safety partition at reset, with the lifecycle state of the OTP (Table 14-8). -/
def safetyReset (lifecycle : Nat) : Safety := { lifecycle := lifecycle }

/-- The OTP of a chip as the model first shows it: nothing programmed (DESIGN CHOICE). -/
def otpReset : Otp := { rmaCode := 0, unique := 0, maker := 0, stepping := 0 }

/-- What a reset of the whole block leaves (R458): FLASH, OTP, the straps' last sample and the
pending commands stand, the rest takes its reset value. -/
def State.cleared (m : Model) (fw : Firmware) (lifecycle powerUps fresh : Nat) (fuses : List Repair)
    (pending : List Instr) : State :=
  { cfg := m, clock := {}, time := {}, power := {}, safety := safetyReset lifecycle, fw := fw
    reg := {}, pins := {}, tap := { fuses := fuses }, cmd := {}, addr := {}, conv := {}, xbar := {}
    gov := govReset m, eng := {}, folds := {}, links := {}, integ := {}, mem := []
    powerUps := powerUps, fresh := fresh, pending := pending }

/-- The machine right after reset: PWR_OK is 0 and the block is in reset (R458). TM-256, MANUFACTURE,
a blank FLASH and a blank OTP are the model's choice (DESIGN CHOICE, log entries 1 and 2). -/
def State.reset : State := State.cleared .tm256 { otp := otpReset } 0 0 0 [] []

end Sys2Proof.Machine
end

