-- ==== Sys2Proof/Machine/Ops.lean ====
section
/-!
DEFINITION. The named operations over the state that every meaning is built from: access to the
units of the block, free values, interrupt flags, fault reports and the ledger, memory cells.
-/

namespace Sys2Proof.Machine

/-! ### Access to the units -/

/-- Initiators whose mailbox starts enabled: E and D ports (Table 2-7). -/
def portReset (p : Nat) : Port := { mboxEn := decide (p < 56) }

/-- A data port or initiator 64. -/
def State.port (s : State) (p : Nat) : Port := s.xbar.ports.get (portReset p) p

/-- Change one port. -/
def State.onPort (s : State) (p : Nat) (f : Port → Port) : State :=
  { s with xbar := { s.xbar with ports := s.xbar.ports.set p (f (s.port p)) } }

/-- A sub-port. -/
def State.sub (s : State) (n : Nat) : SubPort := s.xbar.subs.get {} n

/-- Change one sub-port. -/
def State.onSub (s : State) (n : Nat) (f : SubPort → SubPort) : State :=
  { s with xbar := { s.xbar with subs := s.xbar.subs.set n (f (s.sub n)) } }

/-- The write buffer and reads of a global logical bank. -/
def State.bankq (s : State) (k : Nat) : BankQueue := s.xbar.banks.get {} k

/-- Change the write buffer and reads of a global logical bank. -/
def State.onBankq (s : State) (k : Nat) (f : BankQueue → BankQueue) : State :=
  { s with xbar := { s.xbar with banks := s.xbar.banks.set k (f (s.bankq k)) } }

/-- A physical slot at reset: slot b holds logical bank b, slot 16 is the spare (R24, R348). -/
def slotReset (k : Nat) : Slot :=
  if k % 17 = 16 then { logical := 0, state := .spare } else { logical := k % 17, state := .inService }

/-- A physical slot, by 17 × cluster + slot. -/
def State.slot (s : State) (k : Nat) : Slot := s.integ.slots.get (slotReset k) k

/-- Change one slot. -/
def State.onSlot (s : State) (k : Nat) (f : Slot → Slot) : State :=
  { s with integ := { s.integ with slots := s.integ.slots.set k (f (s.slot k)) } }

/-- The integrity registers of a global logical bank. -/
def State.bank (s : State) (g : Nat) : BankInteg := s.integ.banks.get {} g

/-- LBANK_b of a global logical bank (R24). -/
def State.lbank (s : State) (g : Nat) : LBank := s.integ.lbanks.get { slot := g % 16 } g

/-- Change the integrity registers of a bank: those of one out of service keep their values (R445). -/
def State.onBank (s : State) (g : Nat) (f : BankInteg → BankInteg) : State :=
  let b := if (s.lbank g).out then s.bank g else f (s.bank g)
  { s with integ := { s.integ with banks := s.integ.banks.set g b } }

/-- Change LBANK_b. -/
def State.onLbank (s : State) (g : Nat) (f : LBank → LBank) : State :=
  { s with integ := { s.integ with lbanks := s.integ.lbanks.set g (f (s.lbank g)) } }

/-- The self-test registers of a cluster. -/
def State.ctest (s : State) (c : Nat) : ClusterTest := s.integ.clusters.get {} c

/-- Change the self-test registers of a cluster. -/
def State.onCtest (s : State) (c : Nat) (f : ClusterTest → ClusterTest) : State :=
  { s with integ := { s.integ with clusters := s.integ.clusters.set c (f (s.ctest c)) } }

/-- The power control of a cluster. -/
def State.cpower (s : State) (c : Nat) : ClusterPower := s.power.clusters.get {} c

/-- Change the power control of a cluster. -/
def State.onCpower (s : State) (c : Nat) (f : ClusterPower → ClusterPower) : State :=
  { s with power := { s.power with clusters := s.power.clusters.set c (f (s.cpower c)) } }

/-- The event dispatcher of a cluster. -/
def State.disp (s : State) (c : Nat) : Dispatcher := s.eng.disp.get {} c

/-- Change the event dispatcher of a cluster. -/
def State.onDisp (s : State) (c : Nat) (f : Dispatcher → Dispatcher) : State :=
  { s with eng := { s.eng with disp := s.eng.disp.set c (f (s.disp c)) } }

/-- The scale cache of a cluster. -/
def State.cache (s : State) (c : Nat) : ScaleCache := s.conv.caches.get {} c

/-- Change the scale cache of a cluster. -/
def State.onCache (s : State) (c : Nat) (f : ScaleCache → ScaleCache) : State :=
  { s with conv := { s.conv with caches := s.conv.caches.set c (f (s.cache c)) } }

/-- A command ring. -/
def State.ring (s : State) (n : Nat) : Ring := s.cmd.rings.get {} n

/-- Change one ring. -/
def State.onRing (s : State) (n : Nat) (f : Ring → Ring) : State :=
  { s with cmd := { s.cmd with rings := s.cmd.rings.set n (f (s.ring n)) } }

/-- A valid view. -/
def State.view? (s : State) (v : Nat) : Option View := s.conv.views.find? v

/-- Change a valid view; nothing where the entry is not valid. -/
def State.onView (s : State) (v : Nat) (f : View → View) : State :=
  match s.view? v with
  | some w => { s with conv := { s.conv with views := s.conv.views.set v (f w) } }
  | none => s

/-- A valid region. -/
def State.region? (s : State) (i : Nat) : Option Region := s.addr.regions.find? i

/-- Change a valid region; nothing where the entry is not valid. -/
def State.onRegion (s : State) (i : Nat) (f : Region → Region) : State :=
  match s.region? i with
  | some r => { s with addr := { s.addr with regions := s.addr.regions.set i (f r) } }
  | none => s

/-- A valid population. -/
def State.pop? (s : State) (i : Nat) : Option Pop := s.eng.pops.find? i

/-- Change a valid population; nothing where the entry is not valid. -/
def State.onPop (s : State) (i : Nat) (f : Pop → Pop) : State :=
  match s.pop? i with
  | some p => { s with eng := { s.eng with pops := s.eng.pops.set i (f p) } }
  | none => s

/-- A physical fold, by 2048 × cluster + index. -/
def State.fold (s : State) (k : Nat) : Fold := s.folds.folds.get {} k

/-- Change a physical fold. -/
def State.onFold (s : State) (k : Nat) (f : Fold → Fold) : State :=
  { s with folds := { s.folds with folds := s.folds.folds.set k (f (s.fold k)) } }

/-- A link port. -/
def State.link (s : State) (n : Nat) : LinkPort := s.links.ports.get {} n

/-- Change a link port. -/
def State.onLink (s : State) (n : Nat) (f : LinkPort → LinkPort) : State :=
  { s with links := { s.links with ports := s.links.ports.set n (f (s.link n)) } }

/-- Change the safety partition. -/
def State.onSafety (s : State) (f : Safety → Safety) : State := { s with safety := f s.safety }

/-- Change the power registers of the block. -/
def State.onPower (s : State) (f : Power → Power) : State := { s with power := f s.power }

/-- Change the time base. -/
def State.onTime (s : State) (f : TimeBase → TimeBase) : State := { s with time := f s.time }

/-- Change the firmware block. -/
def State.onFw (s : State) (f : Firmware → Firmware) : State := { s with fw := f s.fw }

/-- Change the governor. -/
def State.onGov (s : State) (f : Gov → Gov) : State := { s with gov := f s.gov }

/-- Change the command interface. -/
def State.onCmd (s : State) (f : CmdIf → CmdIf) : State := { s with cmd := f s.cmd }

/-- Change the event engine. -/
def State.onEng (s : State) (f : EventUnit → EventUnit) : State := { s with eng := f s.eng }

/-- Change the fold units. -/
def State.onFolds (s : State) (f : FoldUnit → FoldUnit) : State := { s with folds := f s.folds }

/-- Change the link-port logic. -/
def State.onLinks (s : State) (f : Links → Links) : State := { s with links := f s.links }

/-- Change integrity and self-test. -/
def State.onInteg (s : State) (f : Integ → Integ) : State := { s with integ := f s.integ }

/-- Change the crossbar. -/
def State.onXbar (s : State) (f : Xbar → Xbar) : State := { s with xbar := f s.xbar }

/-- Change the conversion units. -/
def State.onConv (s : State) (f : Conv → Conv) : State := { s with conv := f s.conv }

/-! ### The condition of the block -/

/-- The hardware is ready and the derived clocks run (R346, R458). -/
def State.ready (s : State) : Bool := s.integ.postDone && s.clock.running

/-- A cluster that the configuration has. -/
def State.hasCluster (s : State) (c : Nat) : Bool := decide (c < s.cfg.clusters)

/-- Where a port is used: present in the configuration, not strapped 3, its converter sound (R1,
R347, R449). -/
def State.portPresent (s : State) (p : Nat) : Bool :=
  s.cfg.hasInitiator p && decide (s.pins.widths.get 1 p ≠ 3) && !s.integ.badPorts.contains p

/-- A cluster in RUN. -/
def State.inRun (s : State) (c : Nat) : Bool := decide ((s.cpower c).mode = .run)

/-- Two halves by Shepherd: false for A and H0, true for B and H1 (R21). -/
def State.runs (s : State) (half : Bool) : Bool := if half then s.fw.runB else s.fw.runA

/-- A HALF reaction against a Shepherd is in force (R402). -/
def State.half (s : State) (half : Bool) : Bool := if half then s.safety.halfB else s.safety.halfA

/-- A Shepherd in service: its FW_STATE bit is 1 and no HALF reaction is in force (R402). -/
def State.inService (s : State) (half : Bool) : Bool := s.runs half && !s.half half

/-- The code that at least two copies of the token hold, if it is a valid one (R403). -/
def majority (a b c : BitVec 2) : Option Bool :=
  let m : BitVec 2 := if a = b then a else if a = c then a else if b = c then b else 0
  if m = 1 then some false else if m = 2 then some true else none

/-- The Shepherd that the majority of the copies names (R403). -/
def State.named (s : State) : Option Bool := majority s.safety.copy0 s.safety.copy1 s.safety.copy2

/-- The holder of the crook token: named by a majority, and in service (R403). -/
def State.holder (s : State) : Option Bool :=
  match s.named with
  | some h => if s.inService h then some h else none
  | none => none

/-- One microsecond in the units of `elapsed` (1/24 ns). -/
def usec : Nat := 24000

/-- One millisecond in the units of `elapsed`. -/
def msec : Nat := 24000000

/-- Elapsed time for which the derived clocks have run: what the timers of the safety partition and of
firmware count. -/
def State.worked (s : State) : Nat := s.clock.elapsed - s.clock.stood

/-- The XCK of a window of 1 µs (R163, R172). -/
def State.windowXck (s : State) : Nat := if s.power.eco then 1200 else 1600

/-- TIME (R380). -/
def State.now (s : State) : BitVec 64 := BitVec.ofNat 64 (s.time.now.toNat / 2 ^ 32)

/-- The serial comparison of R258 on 32 bits: `a` is at or after `b`. -/
def serialGe32 (a b : BitVec 32) : Bool := decide ((a - b).toNat < 2 ^ 31)

/-- The serial comparison of R380 on 64 bits. -/
def serialGe64 (a b : BitVec 64) : Bool := decide ((a - b).toNat < 2 ^ 63)

/-! ### Free values -/

/-- A free value and the state after it is drawn. -/
def State.draw (s : State) : BitVec 64 × State :=
  (Config.freeWord s.fresh, { s with fresh := s.fresh + 1 })

/-! ### Fault reports and the ledger -/

/-- The default reaction of a code (Table 14-2): 0 LOG, 1 NOTIFY, 2 HALF, 3 HOLD. -/
def defaultReaction (code : Nat) : Nat :=
  if code ∈ [0x30, 0x31, 0x34, 0x35, 0x36] then 2
  else if code ∈ [0x23, 0x33, 0x40, 0x42, 0x44] then 3
  else if code ∈ [0x01, 0x02, 0x03, 0x04, 0x05, 0x10, 0x11, 0x12, 0x13, 0x14, 0x16, 0x17, 0x18, 0x19,
      0x1A, 0x20, 0x21, 0x22, 0x24, 0x25, 0x32, 0x41, 0x45, 0x46] then 1
  else 0

/-- The lowest level a code may be set to (Table 14-2). -/
def lowestReaction (code : Nat) : Nat :=
  if code ∈ [0x30, 0x31, 0x34, 0x35, 0x36] then 2
  else if code ∈ [0x23, 0x33, 0x44] then 3
  else if code ∈ [0x10, 0x16, 0x17, 0x18, 0x19, 0x20, 0x21, 0x22, 0x24, 0x25, 0x32, 0x40, 0x41, 0x42,
      0x46] then 1
  else 0

/-- The codes of Table 14-2 that SAFETY_CFG may set: every listed code below 0x60. -/
def configurable (code : Nat) : Bool :=
  code ∈ [0x01, 0x02, 0x03, 0x04, 0x05, 0x10, 0x11, 0x12, 0x13, 0x14, 0x15, 0x16, 0x17, 0x18, 0x19,
    0x1A, 0x20, 0x21, 0x22, 0x23, 0x24, 0x25, 0x30, 0x31, 0x32, 0x33, 0x34, 0x35, 0x36, 0x40, 0x41,
    0x42, 0x43, 0x44, 0x45, 0x46]

/-- The reaction of a code that is in force (R399, R401). -/
def State.reaction (s : State) (code : Nat) : Nat := s.safety.react.get (defaultReaction code) code

/-- Hand a fault to the safety partition (R396, R397). -/
def State.report (s : State) (f : FaultInfo) : State :=
  s.onSafety fun y => { y with reports := y.reports ++ [f] }

/-- The newest ledger entry. -/
def Safety.newest (y : Safety) : Option LedgerEntry :=
  if y.head = 0 then none else y.ledger.find? (y.head.toNat % 1024)

/-- An entry that LEDGER_ACK has acknowledged (R413): at or before its value under R258. -/
def Safety.acked (y : Safety) (e : LedgerEntry) : Bool := serialGe32 y.ack e.seq

/-- A step shed (0x60) or restored (0x61) is an occurrence of its own: DETAIL names the step, and Example 6-2 writes an
entry for each of the three steps of one window start (R177, R178). DEDUCED (log entry 71). -/
def FaultInfo.sameStep (f : FaultInfo) (e : LedgerEntry) : Bool :=
  if f.code = 0x60 ∨ f.code = 0x61 then f.detail.all (· == e.detail) else true

/-- Whether an occurrence coalesces into the newest entry (R413): the code and source fields agree,
it comes within 1 ms of LAST_TIME, and the entry is unacknowledged. -/
def Safety.coalesces (y : Safety) (time : BitVec 64) (f : FaultInfo) (e : LedgerEntry) : Bool :=
  decide (e.code = f.code ∧ e.cluster = f.cluster ∧ e.bank = f.bank ∧ e.port = f.port) && f.sameStep e && !e.bad &&
    decide ((time.setWidth 32 - e.lastTime).toNat ≤ 1000000) && !y.acked e

/-- DETAIL of an entry: what the report says, a free value where the manual states none (R412). -/
def State.entryDetail (s : State) (f : FaultInfo) : BitVec 32 × State :=
  match f.detail with
  | some d => (d, s)
  | none =>
    let (v, s) := s.draw
    (v.setWidth 32, s)

/-- Write a new ledger entry: it takes the place of entry SEQ − 1024 (R412, R413). -/
def State.newEntry (s : State) (f : FaultInfo) (level : Nat) : State :=
  let (detail, s) := s.entryDetail f
  s.onSafety fun y =>
    let seq := y.head + 1
    let i := seq.toNat % 1024
    let lost := match y.ledger.find? i with
      | some e => decide (1 ≤ e.reaction) && !y.acked e
      | none => false
    let e : LedgerEntry :=
      { seq := seq, time := s.now, code := f.code, reaction := level, inHold := y.hold,
        cluster := f.cluster, bank := f.bank, port := f.port, detail := detail,
        lastTime := s.now.setWidth 32 }
    { y with
      head := seq, ledger := y.ledger.set i e
      overrun := if lost then satAdd 0xFFFF y.overrun 1 else y.overrun
      irq := (if lost then y.irq ||| 8 else y.irq) ||| (if 1 ≤ level then 1 else 0) }

/-- Count an occurrence in the newest entry (R413). -/
def State.coalesce (s : State) (e : LedgerEntry) (level : Nat) : State :=
  s.onSafety fun y =>
    { y with
      ledger := y.ledger.set (y.head.toNat % 1024)
        { e with rept := satAdd 0xFFFF e.rept 1, lastTime := s.now.setWidth 32 }
      irq := y.irq ||| (if 1 ≤ level then 1 else 0) }

/-- Record an occurrence in the ledger: coalesced, or as a new entry (R413). -/
def State.record (s : State) (f : FaultInfo) (level : Nat) : State :=
  match s.safety.newest with
  | some e => if s.safety.coalesces s.now f e then s.coalesce e level else s.newEntry f level
  | none => s.newEntry f level

/-- An informational entry, which is always LOG (R400). -/
def State.log (s : State) (f : FaultInfo) : State := s.record f 0

/-! ### Interrupt flags -/

/-- Set bits of a status word. -/
def setBit {n : Nat} (w : BitVec n) (i : Nat) : BitVec n := w ||| BitVec.ofNat n (2 ^ i)

/-- An integrity event: status flag and INTEG_LAST (Table 11-12). -/
def State.integEvent (s : State) (i bank : Nat) : State :=
  s.onInteg fun n =>
    { n with irq := setBit n.irq i, lastBank := BitVec.ofNat 7 bank, lastCause := BitVec.ofNat 4 i }

/-- A power or time event: status flag and PWR_LAST (Table 13-11). -/
def State.powerEvent (s : State) (i cluster step : Nat) : State :=
  s.onPower fun p =>
    { p with irq := setBit p.irq i, lastCause := BitVec.ofNat 4 i
             lastCluster := BitVec.ofNat 4 cluster, lastStep := BitVec.ofNat 4 step }

/-- A governor flag (Table 6-10). -/
def State.govFlag (s : State) (i : Nat) : State := s.onGov fun g => { g with irq := setBit g.irq i }

/-- A firmware flag (Table 15-10). -/
def State.fwFlag (s : State) (i : Nat) : State := s.onFw fun w => { w with irq := setBit w.irq i }

/-- An event of the event engine: status flag and EV_LAST (Table 8-9). -/
def State.evEvent (s : State) (i pop cluster : Nat) : State :=
  s.onEng fun e =>
    { e with irq := setBit e.irq i, lastPop := BitVec.ofNat 12 pop
             lastCluster := BitVec.ofNat 3 cluster, lastCause := BitVec.ofNat 4 i }

/-- A fold event: status flag and FOLD_LAST (Table 9-13); the fold by 2048 × cluster + index. -/
def State.foldEvent (s : State) (i k : Nat) : State :=
  s.onFolds fun f =>
    { f with irq := setBit f.irq i, lastFold := BitVec.ofNat 14 k, lastCause := BitVec.ofNat 4 i }

/-- A link event: status flag and LINK_LAST (Table 10-7). -/
def State.linkEvent (s : State) (i chip port : Nat) : State :=
  s.onLinks fun l =>
    { l with irq := setBit l.irq i, lastChip := BitVec.ofNat 12 chip
             lastCause := BitVec.ofNat 4 i, lastPort := BitVec.ofNat 3 port }

/-! ### Cells of memory -/

namespace Memory

/-- The byte listed at an address. -/
def find? : List Host.Cell → Nat → Option Byte
  | [], _ => none
  | (j, b) :: r, a => if j = a then some b else find? r a

/-- List a byte at an address, keeping the addresses rising. -/
def insert : List Host.Cell → Nat → Byte → List Host.Cell
  | [], a, b => [(a, b)]
  | (j, c) :: r, a, b =>
    if a < j then (a, b) :: (j, c) :: r
    else if a = j then (a, b) :: r
    else (j, c) :: insert r a b

/-- Take an address off the list. -/
def erase : List Host.Cell → Nat → List Host.Cell
  | [], _ => []
  | (j, c) :: r, a => if j = a then r else (j, c) :: erase r a

/-- Write a byte; `d` is what the address reads as while it is not listed. -/
def write (m : List Host.Cell) (d : Option Byte) (a : Nat) (b : Byte) : List Host.Cell :=
  if d = some b then erase m a else insert m a b

/-- The addresses strictly rise. -/
def rising : List Host.Cell → Bool
  | [] => true
  | [_] => true
  | (j, _) :: (k, b) :: r => decide (j < k) && rising ((k, b) :: r)

/-- The canonical form: rising addresses, and no entry that says what an unlisted address says. -/
def wf (m : List Host.Cell) (d : Nat → Option Byte) : Bool :=
  rising m && m.all (fun c => decide (d c.1 ≠ some c.2))

end Memory

end Sys2Proof.Machine
end

