-- ==== Sys2Proof/Machine/Flags.lean ====
section
/-!
DEFINITION. Interrupt flags and lines (R438, R442, R443): the status and the enable register of each
group, what clears a bit, what drives INT_HOST, INT_AUX and INT_SAFE.
-/

namespace Sys2Proof.Machine

/-- The status register of an interrupt group (Table 16-5). -/
def State.irqStatus (s : State) (g : Nat) : Nat :=
  match g with
  | 0 => s.cmd.irqDone.toNat + s.cmd.irqHalt.toNat * 2 ^ 16
  | 1 => s.xbar.irq.toNat
  | 2 => s.gov.irq.toNat
  | 3 => s.conv.irq.toNat
  | 4 => s.eng.irq.toNat
  | 5 => s.folds.irq.toNat
  | 6 => s.integ.irq.toNat
  | 7 => s.integ.bistIrq.toNat
  | 8 => s.fw.irq.toNat
  | 9 => s.links.irq.toNat
  | 10 => s.power.irq.toNat
  | 11 => s.safety.irq.toNat
  | _ => 0

/-- The enable register of an interrupt group. -/
def State.irqEnable (s : State) (g : Nat) : Nat :=
  match g with
  | 0 => s.cmd.irqEn.toNat
  | 1 => s.xbar.irqEn.toNat
  | 2 => s.gov.irqEn.toNat
  | 3 => s.conv.irqEn.toNat
  | 4 => s.eng.irqEn.toNat
  | 5 => s.folds.irqEn.toNat
  | 6 => s.integ.irqEn.toNat
  | 7 => s.integ.bistIrqEn.toNat
  | 8 => s.fw.irqEn.toNat
  | 9 => s.links.irqEn.toNat
  | 10 => s.power.irqEn.toNat
  | 11 => s.safety.irqEn.toNat
  | _ => 0

/-- A W1C write to a status register: a bit written 1 is cleared (R438). -/
def State.irqClear (s : State) (g w : Nat) : State :=
  match g with
  | 0 => s.onCmd fun k =>
      { k with irqDone := k.irqDone &&& ~~~(BitVec.ofNat 16 w)
               irqHalt := k.irqHalt &&& ~~~(BitVec.ofNat 16 (w / 2 ^ 16)) }
  | 1 => s.onXbar fun k => { k with irq := k.irq &&& ~~~(BitVec.ofNat 4 w) }
  | 2 => s.onGov fun k => { k with irq := k.irq &&& ~~~(BitVec.ofNat 11 w) }
  | 3 => s.onConv fun k => { k with irq := k.irq &&& ~~~(BitVec.ofNat 4 w) }
  | 4 => s.onEng fun k => { k with irq := k.irq &&& ~~~(BitVec.ofNat 8 w) }
  | 5 => s.onFolds fun k => { k with irq := k.irq &&& ~~~(BitVec.ofNat 8 w) }
  | 6 => s.onInteg fun k => { k with irq := k.irq &&& ~~~(BitVec.ofNat 9 w) }
  | 7 => s.onInteg fun k => { k with bistIrq := k.bistIrq &&& ~~~(BitVec.ofNat 5 w) }
  | 8 => s.onFw fun k => { k with irq := k.irq &&& ~~~(BitVec.ofNat 4 w) }
  | 9 => s.onLinks fun k => { k with irq := k.irq &&& ~~~(BitVec.ofNat 7 w) }
  | 10 => s.onPower fun k => { k with irq := k.irq &&& ~~~(BitVec.ofNat 9 w) }
  | 11 => s.onSafety fun k => { k with irq := k.irq &&& ~~~(BitVec.ofNat 5 w) }
  | _ => s

/-- A write to an enable register (R443). -/
def State.irqSetEnable (s : State) (g w : Nat) : State :=
  match g with
  | 0 => s.onCmd fun k => { k with irqEn := BitVec.ofNat 32 w }
  | 1 => s.onXbar fun k => { k with irqEn := BitVec.ofNat 4 w }
  | 2 => s.onGov fun k => { k with irqEn := BitVec.ofNat 11 w }
  | 3 => s.onConv fun k => { k with irqEn := BitVec.ofNat 4 w }
  | 4 => s.onEng fun k => { k with irqEn := BitVec.ofNat 8 w }
  | 5 => s.onFolds fun k => { k with irqEn := BitVec.ofNat 8 w }
  | 6 => s.onInteg fun k => { k with irqEn := BitVec.ofNat 9 w }
  | 7 => s.onInteg fun k => { k with bistIrqEn := BitVec.ofNat 5 w }
  | 8 => s.onFw fun k => { k with irqEn := BitVec.ofNat 4 w }
  | 9 => s.onLinks fun k => { k with irqEn := BitVec.ofNat 7 w }
  | 10 => s.onPower fun k => { k with irqEn := BitVec.ofNat 9 w }
  | 11 => s.onSafety fun k => { k with irqEn := BitVec.ofNat 5 w }
  | _ => s

/-- A group is pending (R442). -/
def State.irqPending (s : State) (g : Nat) : Bool := s.irqStatus g &&& s.irqEnable g != 0

/-- IRQ_SUMMARY. -/
def State.irqSummary (s : State) : Nat := ((List.range 12).map (fun g => bit (s.irqPending g) * 2 ^ g)).sum

/-- INT_HOST, but for the hold while the derived clocks stand (R442). -/
def State.hostNow (s : State) : Bool :=
  s.reg.hostEn && (s.reg.forceHost ||
    (List.range 11).any (fun g => s.irqPending g && !bitOf s.reg.route.toNat g))

/-- INT_AUX, but for the hold. -/
def State.auxNow (s : State) : Bool :=
  s.reg.auxEn && (s.reg.forceAux ||
    (List.range 11).any (fun g => s.irqPending g && bitOf s.reg.route.toNat g))

/-- INT_HOST (R442, R458). -/
def State.intHost (s : State) : Bool :=
  s.integ.postDone && (if s.clock.running then s.hostNow else s.pins.heldHost)

/-- INT_AUX. -/
def State.intAux (s : State) : Bool :=
  s.integ.postDone && (if s.clock.running then s.auxNow else s.pins.heldAux)

/-- INT_SAFE. -/
def State.intSafe (s : State) : Bool :=
  s.integ.postDone && (if s.clock.running then s.irqPending 11 else s.pins.heldSafe)

/-- The derived clocks are about to stop: the lines keep their levels (R442). -/
def State.holdLines (s : State) : State :=
  { s with pins := { s.pins with heldHost := s.hostNow, heldAux := s.auxNow, heldSafe := s.irqPending 11 } }

end Sys2Proof.Machine
end

