-- ==== Sys2Proof/Machine/Codec.lean ====
section
/-!
DEFINITION. The code word of a granule: GF(2^8), encoder, decoder (R312 to R317, R324).
-/

namespace Sys2Proof.Machine

/-- Multiplication by α in GF(2^8), modulo 0x11D (R313). -/
def gfTwice (a : Nat) : Nat := if 128 ≤ a then ((a * 2) ^^^ 0x11D) % 256 else a * 2

/-- Multiplication in GF(2^8) (R314): shift and add, highest bit of `b` first. -/
def gfMul (a b : Nat) : Nat :=
  (List.range 8).foldr (fun i acc => (if b.testBit i then a else 0) ^^^ gfTwice acc) 0

/-- α^n for n below 255 (R316). -/
def gfExp : Nat → Nat
  | 0 => 1
  | n + 1 => gfTwice (gfExp n)

/-- gf_pow (R316). -/
def gfPow (n : Nat) : Nat := gfExp (n % 255)

/-- The first exponent from `n` on, of `k` tried, whose power is `y`; `a` is α^n. -/
def gfLogFrom (y a n : Nat) : Nat → Nat
  | 0 => 0
  | k + 1 => if a = y then n else gfLogFrom y (gfTwice a) (n + 1) k

/-- gf_log (R316), for y not 0. -/
def gfLog (y : Nat) : Nat := gfLogFrom y 1 0 255

/-- gf_div (R316), for b not 0. -/
def gfDiv (a b : Nat) : Nat := gfMul a (gfPow (255 - gfLog b))

/-- The location tag of a granule (R312). -/
def locTag (bank row g : Nat) : List Nat := [row % 256, g * 64 + row / 256 % 64, bank % 128]

/-- The tag of the spoiled pattern: t2 bit 7 is 1 (R324). -/
def spoilTag (bank row g : Nat) : List Nat := [row % 256, g * 64 + row / 256 % 64, bank % 128 + 128]

/-- The position of a lane in the code word (R313). -/
def lanePos (l : Nat) : Nat := if l < 32 then l + 4 else l - 32

/-- The lane of a position up to 35. -/
def posLane (p : Nat) : Nat := if p < 4 then p + 32 else p - 4

/-- The 32 data symbols of a granule, byte 0 first (R26). -/
def dataSymbols (d : BitVec 256) : List Nat := (toBytes 32 d.toNat).map BitVec.toNat

/-- One step of the division by g(x) (R314): the remainder, coefficient 0 first. -/
def encodeStep (rem : List Nat) (m : Nat) : List Nat :=
  match rem with
  | [r0, r1, r2, r3] =>
    let fb := m ^^^ r3
    [gfMul fb 0x40, r0 ^^^ gfMul fb 0x78, r1 ^^^ gfMul fb 0x36, r2 ^^^ gfMul fb 0x0F]
  | _ => rem

/-- The check bytes of 32 data symbols under a tag (R314). -/
def checkSymbols (d t : List Nat) : List Nat := (d ++ t).reverse.foldl encodeStep [0, 0, 0, 0]

/-- The 36 symbols of a granule, lane 0 first (R26, R314). -/
def encodeWord (d : BitVec 256) (t : List Nat) : List Nat :=
  let m := dataSymbols d
  m ++ checkSymbols m t

/-- What a granule is stored as: its code word, or the spoiled pattern of its location (R324). -/
def storedWord (bank row g : Nat) (d : BitVec 256) (bad : Bool) : List Nat :=
  if bad then encodeWord 0 (spoilTag bank row g) else encodeWord d (locTag bank row g)

/-- A polynomial at `x`, highest coefficient first. -/
def gfHorner (x : Nat) (cs : List Nat) : Nat := cs.foldl (fun a c => gfMul a x ^^^ c) 0

/-- The four syndromes of 36 symbols under a tag (R316), each the value of the code word polynomial
at α^k. -/
def syndromes (r t : List Nat) : List Nat :=
  let cs := (r.drop 32 ++ r.take 32 ++ t).reverse
  [gfHorner 1 cs, gfHorner 2 cs, gfHorner 4 cs, gfHorner 8 cs]

/-- What `solve` finds: the erasure values, and the unknown error with its position and value. -/
structure Solved where
  fills : List Nat
  err : Option (Nat × Nat)
deriving DecidableEq, Repr

/-- The error of a three- or four-term geometric run, where its position is below 39. -/
def errAt (y v : Nat) (fills : List Nat) : Option Solved :=
  if gfLog y ≤ 38 then some { fills := fills, err := some (gfLog y, v) } else none

/-- `solve` of R316: erasures at `X`, none where the syndromes do not fit. -/
def solve (S X : List Nat) : Option Solved :=
  match S, X with
  | [s0, s1, s2, s3], [] =>
    if s0 = 0 ∧ s1 = 0 ∧ s2 = 0 ∧ s3 = 0 then some { fills := [], err := none }
    else if s0 = 0 ∨ s1 = 0 then none
    else
      let y := gfDiv s1 s0
      if gfMul s1 y ≠ s2 ∨ gfMul s2 y ≠ s3 then none else errAt y s0 []
  | [s0, s1, s2, s3], [x] =>
    let t0 := s1 ^^^ gfMul x s0
    let t1 := s2 ^^^ gfMul x s1
    let t2 := s3 ^^^ gfMul x s2
    if t0 = 0 ∧ t1 = 0 ∧ t2 = 0 then some { fills := [s0], err := none }
    else if t0 = 0 ∨ t1 = 0 then none
    else
      let y := gfDiv t1 t0
      if gfMul t1 y ≠ t2 ∨ y = x then none
      else
        let v := gfDiv t0 (y ^^^ x)
        errAt y v [s0 ^^^ v]
  | [s0, s1, s2, s3], [x0, x1] =>
    let a := x0 ^^^ x1
    let b := gfMul x0 x1
    if s2 ^^^ gfMul a s1 ^^^ gfMul b s0 ≠ 0 then none
    else if s3 ^^^ gfMul a s2 ^^^ gfMul b s1 ≠ 0 then none
    else
      let f1 := gfDiv (s1 ^^^ gfMul x0 s0) a
      some { fills := [s0 ^^^ f1, f1], err := none }
  | _, _ => none

/-- Decoder outcomes (Table 11-1). -/
inductive Outcome where
  | clean | corrected | spoiled | address | uncorrectable
deriving DecidableEq, Repr

/-- A decoded granule: outcome, data, and the lane corrected. -/
structure Decoded where
  outcome : Outcome
  data : BitVec 256
  lane : Nat := 0
deriving DecidableEq, Repr

/-- The granule is delivered marked (R317). -/
def Decoded.marked (d : Decoded) : Bool :=
  match d.outcome with
  | .clean => false
  | .corrected => false
  | .spoiled => true
  | .address => true
  | .uncorrectable => true

/-- Write the erasure values into the retired lanes (R316, fill). -/
def fillLanes (r : List Nat) : List Nat → List Nat → List Nat
  | l :: ls, f :: fs => fillLanes (r.set l f) ls fs
  | _, _ => r

/-- The data of 36 symbols (R316, copy). -/
def wordData (r : List Nat) : BitVec 256 :=
  BitVec.ofNat 256 (ofBytes ((r.take 32).map (BitVec.ofNat 8)))

/-- Read the retired lanes as 0. -/
def zeroLanes (r ret : List Nat) : List Nat := ret.foldl (fun r l => r.set l 0) r

/-- `decode` of R316: 36 symbols, the tag of the location, the retired lanes. -/
def decodeWord (r t ret : List Nat) : Decoded :=
  let r := zeroLanes r ret
  let X := ret.map (fun l => gfPow (lanePos l))
  let S := syndromes r t
  let SP := (S.zipIdx).map (fun p => p.1 ^^^ gfMul 0x80 (gfPow (38 * p.2)))
  let bad (o : Outcome) : Decoded := { outcome := o, data := 0 }
  let patternFits := match solve SP X with
    | some { fills := _, err := none } => true
    | _ => false
  match solve S X with
  | some { fills := f, err := none } =>
    { outcome := .clean, data := wordData (fillLanes r ret f) }
  | some { fills := f, err := some (p, v) } =>
    if patternFits then bad .spoiled
    else if p ≤ 35 then
      let l := posLane p
      let w := fillLanes r ret f
      { outcome := .corrected, data := wordData (w.set l (w.getD l 0 ^^^ v)), lane := l }
    else bad .address
  | none => if patternFits then bad .spoiled else bad .uncorrectable

end Sys2Proof.Machine
end

