-- ==== Sys2Proof/Machine/Storage.lean ====
section
/-!
DEFINITION. Rows of the banks: where a granule lies, how it is read and decoded, how it is encoded
and written, what each decoder outcome counts (01_anatomy.md, 11_integrity.md).
-/

namespace Sys2Proof.Machine

/-- Array rows, then spare rows, then accumulator-buffer rows of a slot. -/
def slotRows : Nat := 16704

/-- The address of one symbol: physical slot, physical row, granule, lane (R26). -/
def cellAddr (k prow g lane : Nat) : Nat := ((k * slotRows + prow) * 4 + g) * 36 + lane

/-- What a symbol reads as while nothing is listed for it: in a slot that was filled with zeros
(R355, R414) a symbol of the zero code word of its row, a spare row's with the tag of row 0 to 63 (DESIGN CHOICE, log entry 57), and
a data symbol of a buffer row is 0; nothing definite elsewhere (R338). -/
def State.unlisted (s : State) (a : Nat) : Option Byte :=
  let l := s.slot (a / (slotRows * 144))
  let row := a / 144 % slotRows
  if 16448 ≤ row then if l.bufZero ∧ a % 36 < 32 then some 0 else none
  else
    match l.zeroFor with
    | some bank =>
      some (BitVec.ofNat 8 ((storedWord bank row (a / 36 % 4) 0 false).getD (a % 36) 0))
    | none => none

/-- The symbol at an address. A symbol never written is a free value (R338). -/
def State.symbol (s : State) (a : Nat) : Byte :=
  match Memory.find? s.mem a with
  | some b => b
  | none =>
    match s.unlisted a with
    | some b => b
    | none => Config.powerUp s.powerUps a

/-- Write the symbol at an address. -/
def State.setSymbol (s : State) (a : Nat) (b : Byte) : State :=
  { s with mem := Memory.write s.mem (s.unlisted a) a b }

/-- The physical slot of a global logical bank, by 17 × cluster + slot (R24). -/
def State.slotOf (s : State) (bank : Nat) : Nat := 17 * (bank / 16) + (s.lbank bank).slot

/-- ROW, LANE, SPARE, FACTORY and VALID of a patch entry (Table 11-5). -/
def patchRow (e : BitVec 32) : Nat := bitsOf e.toNat 0 14
/-- LANE of a patch entry. -/
def patchLane (e : BitVec 32) : Nat := bitsOf e.toNat 16 6
/-- SPARE of a patch entry. -/
def patchSpare (e : BitVec 32) : Nat := bitsOf e.toNat 24 6
/-- FACTORY of a patch entry. -/
def patchFactory (e : BitVec 32) : Bool := bitOf e.toNat 30
/-- VALID of a patch entry. -/
def patchValid (e : BitVec 32) : Bool := bitOf e.toNat 31

/-- A valid entry that sends this lane of this row elsewhere (R328). -/
def patchCovers (e : BitVec 32) (row lane : Nat) : Bool :=
  patchValid e && patchRow e == row && (patchLane e == 63 || patchLane e == lane)

/-- The physical row that holds one lane of an array row of a slot (R328). -/
def arrayRow (sl : Slot) (row lane : Nat) : Nat :=
  match List.find? (fun e : Nat × BitVec 32 => patchCovers e.2 row lane) sl.patches with
  | some e => 16384 + patchSpare e.2
  | none => row

/-- The buffer row that serves an array row of a slot, once the bank serves it (R232). -/
def State.stagedAt (s : State) (k row : Nat) : Option Nat :=
  match (s.eng.abuf.get [] k).find? (fun b => b.row == row && b.live) with
  | some b => some b.buf
  | none => none

/-- The physical row from which a lane of a logical row of slot `k` is served: its accumulator-buffer
row while it is staged, else the array row with its patches. -/
def State.servedRow (s : State) (k row lane : Nat) : Nat :=
  match s.stagedAt k row with
  | some b => 16448 + b
  | none => arrayRow (s.slot k) row lane

/-- The 36 symbols that slot `k` holds at the places `prow` gives by lane. -/
def State.symbolsAt (s : State) (k : Nat) (prow : Nat → Nat) (g : Nat) : List Nat :=
  (List.range 36).map (fun l => (s.symbol (cellAddr k (prow l) g l)).toNat)

/-- The retired lanes of a bank (R320). -/
def State.retired (s : State) (bank : Nat) : List Nat :=
  let b := s.bank bank
  (match b.ret0 with | some l => [l] | none => []) ++
    (match b.ret1 with | some l => [l] | none => [])

/-- Read and decode one granule of a logical row, without the counts (R315, R316). -/
def State.fetch (s : State) (bank row g : Nat) : Decoded :=
  let k := s.slotOf bank
  decodeWord (s.symbolsAt k (s.servedRow k row) g) (locTag bank row g) (s.retired bank)

/-- Read and decode one granule of the array row itself, past any staging: what a staging copy and
an evacuation of array rows read. -/
def State.fetchArray (s : State) (bank row g : Nat) : Decoded :=
  let k := s.slotOf bank
  decodeWord (s.symbolsAt k (arrayRow (s.slot k) row) g) (locTag bank row g) (s.retired bank)

/-- Read and decode one granule of a buffer row, with the tag of the row it stages (R312). -/
def State.fetchBuffer (s : State) (bank row buf g : Nat) : Decoded :=
  let k := s.slotOf bank
  decodeWord (s.symbolsAt k (fun _ => 16448 + buf) g) (locTag bank row g) (s.retired bank)

/-- An entry of the correction log (Table 11-8). -/
def clogEntry (bank row g lane : Nat) (scrub : Bool) : BitVec 32 :=
  BitVec.ofNat 32
    (bank % 16 + row * 2 ^ 4 + g * 2 ^ 18 + lane * 2 ^ 20 + bit scrub * 2 ^ 26 + 2 ^ 31)

/-- Firmware's count of a correction (R332). -/
def BankInteg.tally (b : BankInteg) (row lane : Nat) : BankInteg :=
  { b with lapSeen := if b.lapSeen.contains (64 * row + lane) then b.lapSeen else (64 * row + lane) :: b.lapSeen
           laneLap := b.laneLap.modify 0 lane (· + 1) }

/-- Add an entry to the correction log of a cluster (R331); what it does not hold firmware does not count. -/
def State.clogAdd (s : State) (c : Nat) (e : BitVec 32) : State :=
  if (s.ctest c).clog.length < 64 then
    (s.onCtest c fun t => { t with clog := t.clog ++ [e] }).onBank (16 * c + bitsOf e.toNat 0 4) fun b =>
      b.tally (bitsOf e.toNat 4 14) (bitsOf e.toNat 20 6)
  else
    (s.onCtest c fun t => { t with clogOverflow := satAdd 0xFFFF t.clogOverflow 1 }).integEvent 8
      (16 * c + bitsOf e.toNat 0 4)

/-- Row and granule of a data fault in a ledger entry. -/
def faultPlace (row g : Nat) : BitVec 32 := BitVec.ofNat 32 (row + g * 2 ^ 14)

/-- What a decoder outcome counts and raises (Table 11-1, R331, R337). -/
def State.noted (s : State) (bank row g : Nat) (scrub : Bool) (d : Decoded) : State :=
  let last (a : Bool) (b : BankInteg) : BankInteg :=
    { b with ueRow := BitVec.ofNat 14 row, ueGranule := BitVec.ofNat 2 g, ueAddress := a
             ueScrub := scrub }
  let scrubFlag (s : State) : State := if scrub then s.integEvent 2 bank else s
  match d.outcome with
  | .clean => s
  | .corrected =>
    (s.onBank bank fun b =>
      { b with ce := satAdd 0xFFFFFFFF b.ce 1
               laneCe := b.laneCe.modify 0 d.lane (satAdd 0xFFFFFFFF · 1) }).clogAdd (bank / 16)
      (clogEntry bank row g d.lane scrub)
  | .spoiled => s.onBank bank fun b => { b with spoiled := satAdd 0xFFFFFFFF b.spoiled 1 }
  | .address =>
    scrubFlag (((s.onBank bank fun b =>
      last true { b with address := satAdd 0xFFFF b.address 1 }).integEvent 1 bank).report
      { code := 0x10, cluster := bank / 16, bank := bank % 16, detail := some (faultPlace row g) })
  | .uncorrectable =>
    scrubFlag ((s.onBank bank fun b =>
      last false { b with ue := satAdd 0xFFFFFFFF b.ue 1 }).integEvent 0 bank)

/-- Read one granule of a logical row with the counts of its outcome (R315, R317). -/
def State.readGranule (s : State) (bank row g : Nat) : Decoded × State :=
  let d := s.fetch bank row g
  (d, s.noted bank row g false d)

/-- Read several granules of a row, in ascending order. -/
def State.readGranules (s : State) (bank row : Nat) : List Nat → List Decoded × State
  | [] => ([], s)
  | g :: gs =>
    let (d, s) := s.readGranule bank row g
    let (ds, s) := s.readGranules bank row gs
    (d :: ds, s)

/-- Write 36 symbols at the places `prow` gives by lane. -/
def State.putWord (s : State) (k : Nat) (prow : Nat → Nat) (g : Nat) (w : List Nat) : State :=
  (w.zipIdx).foldl
    (fun s p => s.setSymbol (cellAddr k (prow p.2) g p.2) (BitVec.ofNat 8 p.1)) s

/-- The places of a logical row in the spare of a running evacuation, once the copy has passed it
(R350): none while it has not, or while nothing is copied. -/
def State.mirror (s : State) (bank row : Nat) : Option (Nat × (Nat → Nat)) :=
  let c := bank / 16
  match (s.ctest c).evac with
  | some e =>
    if e.bank = bank % 16 then
      let used := s.eng.abuf.get [] (s.slotOf bank)
      let spare := 17 * c + e.spare
      match s.stagedAt (s.slotOf bank) row with
      | some b =>
        if (used.takeWhile (fun u => u.buf != b)).length < e.copied then
          some (spare, fun _ => 16448 + b)
        else none
      | none =>
        if used.length + row < e.copied then some (spare, arrayRow (s.slot spare) row) else none
    else none
  | none => none

/-- Buffer rows in use in the slot that holds a bank (ABUF_STATE.USED). -/
def State.bufUsed (s : State) (bank : Nat) : List BufRow := s.eng.abuf.get [] (s.slotOf bank)

/-- The copy of a bank has reached its end, and its write buffer counts as full (R351). -/
def State.closing (s : State) (bank : Nat) : Bool :=
  match (s.ctest (bank / 16)).evac with
  | some e => e.bank == bank % 16 && decide ((s.bufUsed bank).length + 16384 ≤ e.copied)
  | none => false

/-- Write one granule of a logical row: 36 symbols to where the row is served from, and to the spare
behind the copy pointer of an evacuation (R350). -/
def State.putGranule (s : State) (bank row g : Nat) (w : List Nat) : State :=
  let k := s.slotOf bank
  let m := s.mirror bank row
  let s := s.putWord k (s.servedRow k row) g w
  match m with
  | some (k', prow) => s.putWord k' prow g w
  | none => s

/-- Cancel the scrub write-back that waits for a granule (R335). -/
def State.cancelWriteBack (s : State) (bank row g : Nat) : State :=
  let waits (w : WriteBack) : Bool := w.row == row && w.granule == g
  if (s.bank bank).pending.any waits then
    s.onBank bank fun b =>
      { b with pending := b.pending.filter (fun w => !waits w)
               dropped := satAdd 0xFFFF b.dropped (b.pending.countP waits) }
  else s

/-- Encode and write one granule: data, or the spoiled pattern of its location (R314, R324). -/
def State.storeGranule (s : State) (bank row g : Nat) (d : BitVec 256) (bad : Bool) : State :=
  (s.putGranule bank row g (storedWord bank row g d bad)).cancelWriteBack bank row g

/-- Four granules as one beat. -/
def joinGranules (gs : List (BitVec 256)) : BitVec 1024 :=
  BitVec.ofNat 1024 (gs.foldr (fun g acc => g.toNat + acc * 2 ^ 256) 0)

/-- `n` bytes of a wide value from byte `i`. -/
def bytesAt {w : Nat} (d : BitVec w) (i n : Nat) : Nat := bitsOf d.toNat (8 * i) (8 * n)

/-- Put `n` bytes of `v` at byte `i` of a wide value. -/
def setBytes {w : Nat} (d : BitVec w) (i n v : Nat) : BitVec w :=
  BitVec.ofNat w (putBits d.toNat (8 * i) (8 * n) v)

/-- The bits of `new` that `mask` names, the others of `old`. -/
def mergeBits (old new mask : BitVec 256) : BitVec 256 := (old &&& ~~~mask) ||| (new &&& mask)

/-- Write some bits of a granule by read-modify-write (R323). Answers whether it was stored
spoiled. -/
def State.mergeGranule (s : State) (bank row g : Nat) (new mask : BitVec 256) :
    Bool × State :=
  let (d, s) := s.readGranule bank row g
  if d.marked then
    (true, (s.storeGranule bank row g 0 true).onBank bank fun b =>
      { b with mergeSpoil := satAdd 0xFFFF b.mergeSpoil 1 })
  else (false, s.storeGranule bank row g (mergeBits d.data new mask) false)

end Sys2Proof.Machine
end

