-- ==== Sys2Proof/Machine/Address.lean ====
section
/-!
DEFINITION. Regions, remote windows and views: their descriptors, interleave, permissions, binding,
and the accesses that the block itself makes to local memory (03_regions_views.md).
-/

namespace Sys2Proof.Machine

/-- Bits of one 32-bit word of a descriptor. -/
def word {w : Nat} (d : BitVec w) (i lo n : Nat) : Nat := bitsOf d.toNat (32 * i + lo) n

/-- One bit of one 32-bit word of a descriptor. -/
def wordBit {w : Nat} (d : BitVec w) (i lo : Nat) : Bool := bitOf d.toNat (32 * i + lo)

/-! ### Regions (Table 3-1) -/

/-- MODE: 0 STRIPE, 1 CLUSTER, 2 BANK. -/
def Region.mode (r : Region) : Nat := word r.desc 0 8 2
/-- CLUSTER. -/
def Region.cluster (r : Region) : Nat := word r.desc 0 10 3
/-- BANK. -/
def Region.bank (r : Region) : Nat := word r.desc 0 13 4
/-- SCRUB. -/
def Region.scrub (r : Region) : Bool := wordBit r.desc 0 21
/-- SAFETY. -/
def Region.safety (r : Region) : Bool := wordBit r.desc 0 22
/-- BASE. -/
def Region.base (r : Region) : Nat := word r.desc 1 0 28
/-- LIMIT. -/
def Region.limit (r : Region) : Nat := word r.desc 2 0 28
/-- ROW_BASE. -/
def Region.rowBase (r : Region) : Nat := word r.desc 3 0 14
/-- DEFAULT_VIEW. -/
def Region.defaultView (r : Region) : Nat := word r.desc 3 16 16
/-- OWNER. -/
def Region.owner (r : Region) : Nat := word r.desc 4 0 10
/-- OWNER_PERM. -/
def Region.ownerPerm (r : Region) : Nat := word r.desc 4 12 3
/-- OTHER_PERM. -/
def Region.otherPerm (r : Region) : Nat := word r.desc 4 16 3
/-- LINK_PERM. -/
def Region.linkPerm (r : Region) : Nat := word r.desc 4 20 3

/-- Bytes of a region (S of R82). -/
def Region.size (r : Region) : Nat := r.limit + 1 - r.base

/-- The banks of a stripe in the order in which positions visit them (R79). -/
def stripeBank (k : Nat) : Nat := 2 * (k % 8) + k / 8

/-- The global bank and the row of row index `n` of a region (R79, R80, R81). -/
def Region.place (r : Region) (m : Model) (n : Nat) : Nat × Nat :=
  let c := m.clusters
  if r.mode = 0 then (16 * (n % c) + stripeBank (n / c % 16), r.rowBase + n / (16 * c))
  else if r.mode = 1 then (16 * r.cluster + stripeBank (n % 16), r.rowBase + n / 16)
  else (16 * r.cluster + r.bank, r.rowBase + n)

/-- Rows of the footprint in each bank it touches (Table 3-2). -/
def Region.rows (r : Region) (m : Model) : Nat :=
  if r.mode = 0 then r.size / (2048 * m.clusters)
  else if r.mode = 1 then r.size / 2048
  else r.size / 128

/-- The footprint touches a global bank (Table 3-2). -/
def Region.touches (r : Region) (g : Nat) : Bool :=
  if r.mode = 0 then true
  else if r.mode = 1 then r.cluster == g / 16
  else 16 * r.cluster + r.bank == g

/-- The footprint holds a row of a global bank. -/
def Region.holds (r : Region) (m : Model) (g row : Nat) : Bool :=
  r.touches g && decide (r.rowBase ≤ row) && decide (row < r.rowBase + r.rows m)

/-- The scrubber reads the footprint (R87, R333). -/
def Region.scrubbed (r : Region) : Bool := r.init && (r.scrub || r.safety)

/-- The rows of a bank that the scrubber reads for a region: the first, and how many. -/
def scrubRows (m : Model) (r : Option Region) (g : Nat) : Option (Nat × Nat) :=
  match r with
  | some r => if r.scrubbed && r.touches g then some (r.rowBase, r.rows m) else none
  | none => none

/-- Two footprints share a row of a bank (R83). -/
def Region.clash (a b : Region) (m : Model) : Bool :=
  (List.range (16 * m.clusters)).any (fun g => a.touches g && b.touches g) &&
    decide (a.rowBase < b.rowBase + b.rows m) && decide (b.rowBase < a.rowBase + a.rows m)

/-- Two address ranges overlap (R83). -/
def Region.overlaps (a b : Region) : Bool :=
  decide (a.base ≤ b.limit) && decide (b.base ≤ a.limit)

/-- Entry 0 as it stands when the hardware is ready (R89). -/
def regionZero (m : Model) : Region :=
  { desc := BitVec.ofNat 384
      ((m.capacity - 1) * 2 ^ 64 + 0xFFFE * 2 ^ 112 + (0x777 * 2 ^ 12) * 2 ^ 128)
    init := false, degraded := false }

/-- The laps in progress of these banks are partial (R336). -/
def State.partialLaps (s : State) (p : Nat → Bool) : State :=
  ((List.range (16 * s.cfg.clusters)).filter (fun g => p g && !(s.bank g).lapPartial)).foldl
    (fun s g => s.onBank g fun b => { b with lapPartial := true }) s

/-- A region entry changes: the laps of the banks whose rows to scrub change are partial (R336). -/
def State.scrubChange (s : State) (old new : Option Region) : State :=
  s.partialLaps fun g => scrubRows s.cfg old g != scrubRows s.cfg new g

/-- A row of a bank lies in a footprint that the scrubber reads (R333). -/
def State.scrubRow (s : State) (g row : Nat) : Bool :=
  s.addr.regions.any (fun e => e.2.scrubbed && e.2.holds s.cfg g row)

/-- The valid region that holds an address. -/
def State.regionAt (s : State) (a : Nat) : Option (Nat × Region) :=
  List.find? (fun e : Nat × Region => decide (e.2.base ≤ a) && decide (a ≤ e.2.limit)) s.addr.regions

/-- The region in which all bytes of a request lie (R75, R76). -/
def State.matchRegion (s : State) (a len : Nat) : Option (Nat × Region) :=
  match s.regionAt a with
  | some e => if a + len ≤ e.2.limit + 1 then some e else none
  | none => none

/-- Who asks, for the permission set (R86). -/
inductive Asker where
  | ctx (c : Nat)
  | link
deriving DecidableEq, Repr

/-- The permission set that applies (R86). -/
def Region.permFor (r : Region) : Asker → Nat
  | .ctx c => if c = r.owner then r.ownerPerm else r.otherPerm
  | .link => r.linkPerm

/-- The permission bits: R, W, A (Table 3-1). -/
inductive Need where
  | r | w | a
deriving DecidableEq, Repr

/-- The bit of a permission set. -/
def Need.bit : Need → Nat
  | .r => 0 | .w => 1 | .a => 2

/-- The global bank, row and byte in the row of a local address (R25, R79). -/
def State.locate (s : State) (a : Nat) : Option (Nat × Nat × Nat) :=
  match s.regionAt a with
  | some (_, r) =>
    let o := a - r.base
    let p := r.place s.cfg (o / 128)
    some (p.1, p.2, o % 128)
  | none => none

/-- A byte of rows `n0` to `n1` of a region lies in a bank out of service (R88). -/
def State.rowsOut (s : State) (r : Region) (n0 n1 : Nat) : Bool :=
  r.degraded &&
    (List.range (min (n1 + 1 - n0) (16 * s.cfg.clusters))).any
      (fun i => (s.lbank (r.place s.cfg (n0 + i)).1).out)

/-- The clusters that hold rows `n0` to `n1` of a region. -/
def State.rowClusters (s : State) (r : Region) (n0 n1 : Nat) : List Nat :=
  ((List.range (min (n1 + 1 - n0) (16 * s.cfg.clusters))).map
    (fun i => (r.place s.cfg (n0 + i)).1 / 16)).eraseDups

/-! ### Remote windows (Table 3-3) -/

/-- CLASS: ADAPTIVE. -/
def winAdaptive (d : BitVec 256) : Bool := wordBit d 0 8
/-- OWNER_PERM. -/
def winOwnerPerm (d : BitVec 256) : Nat := word d 0 12 3
/-- OTHER_PERM. -/
def winOtherPerm (d : BitVec 256) : Nat := word d 0 16 3
/-- OWNER. -/
def winOwner (d : BitVec 256) : Nat := word d 0 20 10
/-- BASE as an address. -/
def winBase (d : BitVec 256) : Nat := word d 1 0 24 * 2 ^ 16
/-- LIMIT as an address. -/
def winLimit (d : BitVec 256) : Nat := word d 2 0 24 * 2 ^ 16 + 0xFFFF
/-- RBASE as an address. -/
def winRbase (d : BitVec 256) : Nat := word d 3 0 24 * 2 ^ 16
/-- DEST_CHIP. -/
def winChip (d : BitVec 256) : Nat := word d 4 0 12
/-- LINK_MASK. -/
def winMask (d : BitVec 256) : Nat := word d 4 16 8
/-- REMOTE_CTX. -/
def winCtx (d : BitVec 256) : Nat := word d 5 0 10
/-- REMOTE_VIEW. -/
def winView (d : BitVec 256) : Nat := word d 5 16 16

/-- The valid window that holds an address. -/
def State.windowAt (s : State) (a : Nat) : Option (Nat × BitVec 256) :=
  List.find? (fun e : Nat × BitVec 256 => decide (winBase e.2 ≤ a) && decide (a ≤ winLimit e.2))
    s.addr.windows

/-- The window in which all bytes of a request lie (R76, R90). -/
def State.matchWindow (s : State) (a len : Nat) : Option (Nat × BitVec 256) :=
  match s.windowAt a with
  | some e => if a + len ≤ winLimit e.2 + 1 then some e else none
  | none => none

/-- The permission set of a window (R92). -/
def winPerm (d : BitVec 256) (c : Nat) : Nat := if c = winOwner d then winOwnerPerm d else winOtherPerm d

/-! ### Views (Table 3-4) -/

/-- Fields of a view descriptor. -/
def viewRegion (d : BitVec 512) : Nat := word d 0 16 9
/-- SHARED. -/
def viewShared (d : BitVec 512) : Bool := wordBit d 0 31
/-- STORE_FMT. -/
def viewStore (d : BitVec 512) : Nat := word d 1 0 4
/-- PORT_FMT. -/
def viewPort (d : BitVec 512) : Nat := word d 1 4 3
/-- ROUND. -/
def viewRound (d : BitVec 512) : Nat := word d 1 8 2
/-- E5M2_INF. -/
def viewInf (d : BitVec 512) : Bool := wordBit d 1 10
/-- SCALE_SRC. -/
def viewSrc (d : BitVec 512) : Nat := word d 1 12 2
/-- SCALE_FMT. -/
def viewSfmt (d : BitVec 512) : Nat := word d 1 14 2
/-- GROUP. -/
def viewGroup (d : BitVec 512) : Nat := word d 1 16 2
/-- ZP_EN. -/
def viewZp (d : BitVec 512) : Bool := wordBit d 1 18
/-- ACC_MODE. -/
def viewAcc (d : BitVec 512) : Nat := word d 1 20 2
/-- STAT_EN. -/
def viewStat (d : BitVec 512) : Bool := wordBit d 1 22
/-- CLIP_ACTION. -/
def viewClipAct (d : BitVec 512) : Nat := word d 1 24 2
/-- FLUSH_ACTION. -/
def viewFlushAct (d : BitVec 512) : Nat := word d 1 26 2
/-- SCALE_BASE. -/
def viewScaleBase (d : BitVec 512) : Nat := word d 2 0 28
/-- ZP_BASE. -/
def viewZpBase (d : BitVec 512) : Nat := word d 3 0 28
/-- AXIS_STRIDE. -/
def viewStride (d : BitVec 512) : Nat := word d 4 0 24
/-- AXIS_LEN. -/
def viewLen (d : BitVec 512) : Nat := word d 5 0 24
/-- SEED. -/
def viewSeed (d : BitVec 512) : Nat := word d 6 0 32
/-- SEED_SCALE. -/
def viewSeedScale (d : BitVec 512) : Nat := word d 7 0 32
/-- STATIC_SCALE. -/
def viewStatic (d : BitVec 512) : Nat := word d 8 0 32
/-- BFX_EXP. -/
def viewBfx (d : BitVec 512) : Int := (BitVec.ofNat 8 (word d 9 0 8)).toInt
/-- EPOCH_CTL. -/
def viewEpoch (d : BitVec 512) : Nat := word d 9 8 24
/-- CLIP_LIMIT. -/
def viewClipLimit (d : BitVec 512) : Nat := word d 10 0 16
/-- FLUSH_LIMIT. -/
def viewFlushLimit (d : BitVec 512) : Nat := word d 10 16 16

/-- Requests that a view is bound for. -/
inductive Access where
  | rd | wr | wrm | acc
deriving DecidableEq, Repr

/-- The permission an access needs (R86). -/
def Access.need : Access → Need
  | .rd => .r | .wr => .w | .wrm => .w | .acc => .a

/-- What a view field binds to (R94, R97): pass-through, a view, or nothing that fits. -/
inductive Binding where
  | pass
  | view (id : Nat) (v : View)
  | bad
deriving DecidableEq, Repr

/-- The checks of a named view (R97). -/
def View.fits (v : View) (region ctx : Nat) (a : Access) : Bool :=
  (viewRegion v.desc == region || viewRegion v.desc == 0x100) &&
    (v.owner == ctx || viewShared v.desc) &&
    (decide (a ≠ .acc) || viewAcc v.desc != 0) && (decide (a ≠ .wrm) || viewSrc v.desc != 3)

/-- Bind a view field for an access to a matched region (R94, R97). -/
def State.bindView (s : State) (region : Nat) (r : Region) (field ctx : Nat) (a : Access) : Binding :=
  let f := if field = 0xFFFF then r.defaultView else field
  if f = 0xFFFE then (if a = .acc then .bad else .pass)
  else if f < 4096 then
    match s.view? f with
    | some v => if v.fits region ctx a then .view f v else .bad
    | none => .bad
  else .bad

/-! ### Ranges that commands name (R49) -/

/-- The status with which a range check ends, and the address at which it does: none where every byte is permitted.
A range may run on through several regions or windows; `fuel` bounds how many. -/
def State.checkRange (s : State) (ctx : Nat) (needs : List Need) (remote : Bool) :
    Nat → Nat → Nat → Option (Status × Nat)
  | 0, a, _ => some (.decerr, a)
  | fuel + 1, a, len =>
    if len = 0 then none
    else if a < 2 ^ 28 then
      match s.regionAt a with
      | some (_, r) =>
        let here := min len (r.limit + 1 - a)
        if needs.any (fun n => !bitOf (r.permFor (.ctx ctx)) n.bit) then some (.perm, a)
        else if s.rowsOut r ((a - r.base) / 128) ((a + here - 1 - r.base) / 128) then some (.decerr, a)
        else s.checkRange ctx needs remote fuel (a + here) (len - here)
      | none => some (.decerr, a)
    else if remote then
      match s.windowAt a with
      | some (_, d) =>
        let here := min len (winLimit d + 1 - a)
        if needs.any (fun n => !bitOf (winPerm d ctx) n.bit) then some (.perm, a)
        else s.checkRange ctx needs remote fuel (a + here) (len - here)
      | none => some (.decerr, a)
    else some (.decerr, a)

/-- The range check of a command (R49): 256 regions and 64 windows bound the pieces. It answers the status and the
address at which the range fails. -/
def State.rangeStops (s : State) (ctx : Nat) (needs : List Need) (remote : Bool) (a len : Nat) :
    Option (Status × Nat) :=
  s.checkRange ctx needs remote 400 a len

/-- The status with which the range check of a command ends (R49). -/
def State.rangeFails (s : State) (ctx : Nat) (needs : List Need) (remote : Bool) (a len : Nat) :
    Option Status :=
  (s.rangeStops ctx needs remote a len).map Prod.fst

/-- A range check that stops, as the refusal of a command. A PERM is one of region permission: DETAIL 5 (Table 2-5). -/
def rangeRefusal (o : Option (Status × Nat)) : Option Result :=
  o.map fun x => { status := x.1, detail := if x.1 = .perm then 5 else 0, refused := some x.2 }

/-- The regions that a local range touches (R53, R73). -/
def State.rangeRegions (s : State) (a len : Nat) : List Nat :=
  (s.addr.regions.filter
    (fun e => decide (e.2.base < a + len) && decide (a ≤ e.2.limit))).map Prod.fst

/-! ### Accesses of the block itself -/

/-- The parts of a range that lie in one granule each: address and byte count. -/
def granuleParts (a len : Nat) : List (Nat × Nat) :=
  (List.range ((a % 32 + len + 31) / 32)).map fun i =>
    let lo := max a ((a / 32 + i) * 32)
    (lo, min (a + len) ((a / 32 + i + 1) * 32) - lo)

/-- What the block read: the bytes, the offsets of the marked parts, and whether every byte was
found in a region and in a bank in service. -/
structure Got where
  bytes : List Byte := []
  marked : List Nat := []
  ok : Bool := true
deriving DecidableEq, Repr

/-- Read the parts of a range, pass-through, in order; marked granules read as zero (R325). -/
def State.readParts (s : State) (start : Nat) : List (Nat × Nat) → Got × State
  | [] => ({}, s)
  | (a, n) :: rest =>
    let one : Got × State :=
      match s.locate a with
      | some (g, row, off) =>
        if (s.lbank g).out then ({ ok := false, bytes := List.replicate n 0 }, s)
        else
          let (d, s) := s.readGranule g row (off / 32)
          ({ bytes := toBytes n (bytesAt d.data (off % 32) n)
             marked := if d.marked then [a - start] else [] }, s)
      | none => ({ ok := false, bytes := List.replicate n 0 }, s)
    let (more, s') := State.readParts one.2 start rest
    ({ bytes := one.1.bytes ++ more.bytes, marked := one.1.marked ++ more.marked
       ok := one.1.ok && more.ok }, s')

/-- Read a local range (R325). -/
def State.readRange (s : State) (a len : Nat) : Got × State := s.readParts a (granuleParts a len)

/-- The bit mask of `n` bytes of a granule from byte `i`. -/
def byteMask (i n : Nat) : BitVec 256 := BitVec.ofNat 256 ((2 ^ (8 * n) - 1) * 2 ^ (8 * i))

/-- Write part of one granule of a row: whole granules from their bytes alone, others merged (R323).
Answers whether it was stored spoiled. -/
def State.writeGranule (s : State) (bank row g : Nat) (new mask : BitVec 256) (bad : Bool) :
    Bool × State :=
  if bad then (true, s.storeGranule bank row g 0 true)
  else if mask = BitVec.allOnes 256 then (false, s.storeGranule bank row g new false)
  else s.mergeGranule bank row g new mask

/-- Write the parts of a range, pass-through, in order. Answers how many parts were stored spoiled
and whether every byte had a place. -/
def State.writeParts (s : State) (data : List Byte) : List (Nat × Nat) → Nat × Bool × State
  | [] => (0, true, s)
  | (a, n) :: rest =>
    let one : Nat × Bool × State :=
      match s.locate a with
      | some (g, row, off) =>
        if (s.lbank g).out then (0, false, s)
        else
          let new := BitVec.ofNat 256 (ofBytes (data.take n) * 2 ^ (8 * (off % 32)))
          let (bad, s) := s.writeGranule g row (off / 32) new (byteMask (off % 32) n) false
          (bit bad, true, s)
      | none => (0, false, s)
    let (k, ok, s') := State.writeParts one.2.2 (data.drop n) rest
    (one.1 + k, one.2.1 && ok, s')

/-- Write a local range. -/
def State.writeRange (s : State) (a : Nat) (data : List Byte) : Nat × Bool × State :=
  s.writeParts data (granuleParts a data.length)

end Sys2Proof.Machine
end

