-- ==== Sys2Proof/Machine/Number.lean ====
section
/-!
DEFINITION. Exact numbers and their formats: decoding, rounding and encoding of integer and
floating-point codes (07_conversion.md, R182 to R186, R201 to R203).
-/

namespace Sys2Proof.Machine

/-- An exact number with the sign of `q`. -/
def Num.ofRat (q : Rat) : Num := .val (decide (q < 0)) |q|

/-- The signed value of a finite number, 0 otherwise. -/
def Num.toRat : Num → Rat
  | .val neg m => if neg then -m else m
  | _ => 0

/-- Finite and not NaN. -/
def Num.finite : Num → Bool
  | .val _ _ => true
  | _ => false

/-- The number is ±0. -/
def Num.isZero : Num → Bool
  | .val _ m => m == 0
  | _ => false

/-- A floating-point format: exponent and fraction bits, and whether its top exponent holds
infinities and NaN as IEEE 754 gives, or NaN in one code only (Table 7-1). -/
structure Fmt where
  eb : Nat
  mb : Nat
  ieee : Bool := true
deriving DecidableEq, Repr

/-- FP8-E4M3. -/
def fmtE4M3 : Fmt := { eb := 4, mb := 3, ieee := false }
/-- FP8-E5M2. -/
def fmtE5M2 : Fmt := { eb := 5, mb := 2 }
/-- BF16. -/
def fmtBF16 : Fmt := { eb := 8, mb := 7 }
/-- FP16. -/
def fmtFP16 : Fmt := { eb := 5, mb := 10 }
/-- FP32. -/
def fmtFP32 : Fmt := { eb := 8, mb := 23 }
/-- binary64, for the sums of R217. -/
def fmtFP64 : Fmt := { eb := 11, mb := 52 }

/-- The exponent bias. -/
def Fmt.bias (f : Fmt) : Nat := 2 ^ (f.eb - 1) - 1
/-- The exponent of the smallest normal number. -/
def Fmt.emin (f : Fmt) : Int := 1 - f.bias
/-- The exponent of the largest finite number. -/
def Fmt.emax (f : Fmt) : Int :=
  if f.ieee then (2 ^ f.eb - 2 : Int) - f.bias else (2 ^ f.eb - 1 : Int) - f.bias
/-- 2^e. -/
def pow2 (e : Int) : Rat := if 0 ≤ e then (2 : Rat) ^ e.toNat else 1 / (2 : Rat) ^ (-e).toNat
/-- The largest finite magnitude (F.max). -/
def Fmt.fmax (f : Fmt) : Rat :=
  if f.ieee then (2 ^ (f.mb + 1) - 1 : Rat) * pow2 (f.emax - f.mb)
  else (2 ^ (f.mb + 1) - 2 : Rat) * pow2 (f.emax - f.mb)

/-- ⌊log2 q⌋ of a positive number. -/
def floorLog2 (q : Rat) : Int :=
  let e : Int := (q.num.natAbs.log2 : Int) - (q.den.log2 : Int)
  if pow2 e ≤ q then e else e - 1

/-- The number of a code. -/
def Fmt.decode (f : Fmt) (code : Nat) : Num :=
  let m := bitsOf code 0 f.mb
  let e := bitsOf code f.mb f.eb
  let neg := bitOf code (f.mb + f.eb)
  let top := e = 2 ^ f.eb - 1
  if f.ieee ∧ top then (if m = 0 then .inf neg else .nan)
  else if ¬ f.ieee ∧ top ∧ m = 2 ^ f.mb - 1 then .nan
  else if e = 0 then .val neg ((m : Rat) * pow2 (f.emin - f.mb))
  else .val neg ((2 ^ f.mb + m : Nat) * pow2 ((e : Int) - f.bias - f.mb))

/-- The canonical NaN (R183). -/
def Fmt.nan (f : Fmt) : Nat :=
  if f.ieee then (2 ^ f.eb - 1) * 2 ^ f.mb + 2 ^ (f.mb - 1) else 2 ^ (f.eb + f.mb) - 1

/-- The sign bit of a code. -/
def Fmt.signBit (f : Fmt) (neg : Bool) : Nat := bit neg * 2 ^ (f.eb + f.mb)

/-- An infinity. -/
def Fmt.infinity (f : Fmt) (neg : Bool) : Nat := f.signBit neg + (2 ^ f.eb - 1) * 2 ^ f.mb

/-- The code of a magnitude that the format holds exactly. -/
def Fmt.encode (f : Fmt) (neg : Bool) (m : Rat) : Nat :=
  if m = 0 then f.signBit neg
  else
    let e := floorLog2 m
    if e < f.emin then f.signBit neg + (m / pow2 (f.emin - f.mb)).floor.toNat
    else
      f.signBit neg + (e + f.bias).toNat * 2 ^ f.mb +
        ((m / pow2 (e - f.mb)).floor.toNat - 2 ^ f.mb)

/-- The largest finite number of a sign. -/
def Fmt.largest (f : Fmt) (neg : Bool) : Nat := f.encode neg f.fmax

/-- Rounding modes: half to even, toward zero, seeded stochastic with its 24-bit value, up (R201,
R202). -/
inductive RoundMode where
  | even
  | zero
  | seeded (rb : Nat)
  | up
deriving DecidableEq, Repr

/-- Round half to even. -/
def roundHalfEven (q : Rat) : Int :=
  let l := q.floor
  let d := q - l
  if d < 1 / 2 then l
  else if 1 / 2 < d then l + 1
  else if l % 2 = 0 then l else l + 1

/-- Round to an integer (R202). -/
def roundInt (q : Rat) : RoundMode → Int
  | .even => roundHalfEven q
  | .zero => if q < 0 then -((-q).floor) else q.floor
  | .seeded rb => (q + (rb : Rat) / 16777216).floor
  | .up => -((-q).floor)

/-- Round to a format's precision, subnormals kept, exponent unbounded (R202, round_to). -/
def Fmt.round (f : Fmt) (q : Rat) (mode : RoundMode) : Rat :=
  if q = 0 then 0
  else
    let e : Int := max (floorLog2 |q| - (f.mb : Int)) (f.emin - (f.mb : Int))
    (roundInt (q / pow2 e) mode : Rat) * pow2 e

/-- An exact product rounded half to even into a port format (R208): the code, and whether it
saturated. -/
def Fmt.port (f : Fmt) (x : Num) : Nat × Bool :=
  match x with
  | .nan => (f.nan, false)
  | .inf neg => (f.infinity neg, false)
  | .val neg m =>
    let r := f.round m .even
    if f.fmax < r then (f.largest neg, true) else (f.encode neg r, false)

/-- Sum of a binary64 accumulator and an exact term, each rounded half to even (R217). -/
def addBinary64 (acc : BitVec 64) (t : Rat) : BitVec 64 :=
  match fmtFP64.decode acc.toNat with
  | .inf _ => acc
  | a =>
    let term := ((fmtFP64.port (Num.ofRat t)).1)
    BitVec.ofNat 64 (fmtFP64.port (Num.ofRat (a.toRat + (fmtFP64.decode term).toRat))).1

/-- mix32 (R203). -/
def mix32 (h : BitVec 32) : BitVec 32 :=
  let h := (h ^^^ (h >>> 16)) * 0x7FEB352D
  let h := (h ^^^ (h >>> 15)) * 0x846CA68B
  h ^^^ (h >>> 16)

/-- rb_of (R203). -/
def rbOf (a2 seed epoch : BitVec 32) : Nat := (mix32 (mix32 (a2 ^^^ seed) + epoch) >>> 8).toNat

end Sys2Proof.Machine
end

