-- ==== Sys2Proof/Machine/Convert.lean ====
section
/-!
DEFINITION. What a view does to elements: geometry, scales, quantisation, dequantisation, valid
views (07_conversion.md).
-/

namespace Sys2Proof.Machine

/-! ### Formats of a view (Tables 7-1, 7-2, 7-4) -/

/-- Bits of a stored element. -/
def storeBits (fmt : Nat) : Nat :=
  if fmt = 0 ∨ fmt = 13 then 4
  else if fmt = 3 ∨ fmt = 7 ∨ fmt = 8 then 16
  else if fmt = 4 ∨ fmt = 9 then 32
  else 8

/-- Bytes of a port element (Table 7-2). -/
def portBytes (fmt : Nat) : Nat :=
  if fmt = 1 ∨ fmt = 5 then 4 else if fmt = 2 ∨ fmt = 3 then 2 else 1

/-- The floating-point format of a storage code, where it has one. -/
def storeFmt (fmt : Nat) : Option Fmt :=
  if fmt = 5 ∨ fmt = 11 then some fmtE4M3
  else if fmt = 6 ∨ fmt = 12 then some fmtE5M2
  else if fmt = 7 then some fmtBF16
  else if fmt = 8 then some fmtFP16
  else if fmt = 9 then some fmtFP32
  else none

/-- The floating-point format of a port code, where it has one. -/
def portFmt (fmt : Nat) : Option Fmt :=
  if fmt = 1 then some fmtFP32 else if fmt = 2 then some fmtBF16 else if fmt = 3 then some fmtFP16
  else none

/-- The smallest and largest code of an integer format (R182). -/
def qmin (fmt : Nat) : Int := if fmt = 2 then 0 else -(2 ^ (storeBits fmt - 1))
/-- The largest code of an integer format. -/
def qmax (fmt : Nat) : Int := if fmt = 2 then 255 else 2 ^ (storeBits fmt - 1) - 1

/-- MX formats. -/
def isMx (fmt : Nat) : Bool := fmt == 10 || fmt == 11 || fmt == 12
/-- Jordo grouped formats. -/
def isGrouped (fmt : Nat) : Bool := fmt == 13 || fmt == 14

/-- The signed value of an integer code. -/
def intCode (fmt code : Nat) : Int :=
  let n := storeBits fmt
  if fmt = 2 then code else if code < 2 ^ (n - 1) then code else (code : Int) - 2 ^ n

/-- The code bits of a signed value. -/
def codeBits (fmt : Nat) (v : Int) : Nat := (v % (2 ^ storeBits fmt)).toNat

/-- A converting view (07_conversion.md): its PORT_FMT is not pass-through. -/
def converting (d : BitVec 512) : Bool := viewPort d != 0

/-- The beat chunk in bytes (R189, Table 7-5). -/
def beatChunk (d : BitVec 512) : Nat := 128 * storeBits (viewStore d) / 8 / portBytes (viewPort d)

/-- The group size in elements; 1 where there is none. -/
def groupSize (d : BitVec 512) : Nat :=
  match viewGroup d with
  | 0 => 1
  | 1 => 32
  | 2 => 64
  | _ => 128

/-- group_of (R192). -/
def groupOf (d : BitVec 512) (e : Nat) : Nat :=
  if viewGroup d = 0 then 0
  else
    let S := viewStride d
    let K := viewLen d
    let G := groupSize d
    (e / (S * K) * (K / G) + e / S % K / G) * S + e % S

/-- The first element of group `g`, and its elements along the reduction axis (R192). -/
def groupElems (d : BitVec 512) (g : Nat) : List Nat :=
  let S := viewStride d
  let K := viewLen d
  let G := groupSize d
  let r := g % S
  let q := g / S
  let v := q / (K / G)
  let j := q % (K / G)
  (List.range G).map (fun i => v * (S * K) + (j * G + i) * S + r)

/-- The element index of a stored address in a region (R192). -/
def elemIndex (d : BitVec 512) (base a : Nat) : Nat := (a - base) * 8 / storeBits (viewStore d)

/-- Entry width of the scale array (R193). -/
def entryWidth (d : BitVec 512) : Nat :=
  if isGrouped (viewStore d) then 4 else if viewSfmt d = 2 then 1 else 2

/-- Zero points lie in an array of their own (R193). -/
def zpArray (d : BitVec 512) : Bool := viewZp d && !isGrouped (viewStore d)

/-- Address of the scale entry of a group (R193). -/
def scaleAddr (d : BitVec 512) (g : Nat) : Nat := viewScaleBase d + g * entryWidth d
/-- Address of the zero-point byte of a group (R193, Table 7-6). -/
def zpAddr (d : BitVec 512) (g : Nat) : Nat :=
  if isGrouped (viewStore d) then scaleAddr d g + 2 else viewZpBase d + g

/-- Entries of a view's scale array over a region of `bytes` (R194). -/
def viewEntries (d : BitVec 512) (bytes : Nat) : Nat :=
  let E := bytes * 8 / storeBits (viewStore d)
  let S := viewStride d
  let K := viewLen d
  ((E + S * K - 1) / (S * K)) * (K / groupSize d) * S

/-! ### Scales (R186, R201) -/

/-- The value of a scale code (Table 7-3): none where it is not usable. -/
def scaleValue (sfmt code : Nat) : Option Rat :=
  if sfmt = 2 then (if code = 255 then none else some (pow2 ((code : Int) - 127)))
  else
    match (if sfmt = 0 then fmtFP16 else fmtBF16).decode code with
    | .val false m => if m = 0 then none else some m
    | _ => none

/-- A usable FP32 scale (R186). -/
def fp32Scale (code : Nat) : Option Rat :=
  match fmtFP32.decode code with
  | .val false m => if m = 0 then none else some m
  | _ => none

/-- The scale code 1.0 (R201). -/
def scaleOne (sfmt : Nat) : Nat := if sfmt = 0 then 0x3C00 else if sfmt = 1 then 0x3F80 else 0x7F

/-- A positive quotient rounded toward +∞ into a scale format, at most its largest value (R201). -/
def scaleUp (sfmt : Nat) (q : Rat) : Nat :=
  if sfmt = 2 then
    let e := floorLog2 q
    let e := if pow2 e < q then e + 1 else e
    (max 0 (min 254 (e + 127))).toNat
  else
    let f := if sfmt = 0 then fmtFP16 else fmtBF16
    let r := f.round q .up
    if f.fmax < r then f.largest false else f.encode false r

/-- The largest element magnitude of an MX format as a power of two (R201). -/
def mxEmax (fmt : Nat) : Int := if fmt = 11 then 8 else if fmt = 12 then 15 else 0

/-- Qmax of R201. -/
def bigQ (fmt : Nat) : Rat :=
  match storeFmt fmt with
  | some f => f.fmax
  | none => (qmax fmt : Rat)

/-- derive (R201): the scale code and the zero point. -/
def derive (d : BitVec 512) (amax lo hi : Rat) : Nat × Int :=
  let fmt := viewStore d
  let sf := viewSfmt d
  if isMx fmt then
    if amax = 0 then (scaleOne sf, 0)
    else ((max 0 (min 254 (floorLog2 amax - mxEmax fmt + 127))).toNat, 0)
  else if viewZp d then
    if hi = lo then (scaleOne sf, 0)
    else
      let code := scaleUp sf ((hi - lo) / ((qmax fmt - qmin fmt : Int) : Rat))
      match scaleValue sf code with
      | some s =>
        let z := roundHalfEven ((qmin fmt : Rat) - lo / s)
        (code, max (qmin fmt) (min (qmax fmt) z))
      | none => (code, 0)
  else if amax = 0 then (scaleOne sf, 0)
  else (scaleUp sf (amax / bigQ fmt), 0)

/-- The zero point of a stored byte, clamped to the code range (R193). -/
def zpValue (fmt byte : Nat) : Int :=
  let v : Int := if fmt = 2 then byte else if byte < 128 then byte else (byte : Int) - 256
  max (qmin fmt) (min (qmax fmt) v)

/-- The byte of a zero point. -/
def zpByte (z : Int) : Nat := (z % 256).toNat

/-- The bytes of a group's entry in the scale array (R193, Table 7-6). -/
def entryBytes (d : BitVec 512) (scale : Nat) (zp : Int) : List Byte :=
  if isGrouped (viewStore d) then
    toBytes 4 (scale + (if viewZp d then zpByte zp else 0) * 2 ^ 16)
  else toBytes (entryWidth d) scale

/-! ### Elements -/

/-- The number that a port element stands for (Table 7-2). -/
def portNum (fmt code : Nat) : Num :=
  match portFmt fmt with
  | some f => f.decode code
  | none => .ofRat ((intCode (if fmt = 4 then 1 else 4) code : Int) : Rat)

/-- The scale and zero point in force for an element. -/
structure Factor where
  scale : Rat
  zp : Int := 0
  /-- An MX scale of 0xFF: reads give NaN (R185). -/
  mxNan : Bool := false
deriving DecidableEq, Repr

/-- What quantising one element counts (Table 7-7). -/
structure Quantised where
  code : Nat
  clip : Bool := false
  flush : Bool := false
  nan : Bool := false
deriving DecidableEq, Repr

/-- The divisor of a format: MXINT8 codes count in units of 2^-6 (Table 7-1). -/
def Factor.unit (f : Factor) (fmt : Nat) : Rat := if fmt = 10 then f.scale * pow2 (-6) else f.scale

/-- quant_int (R202). -/
def quantInt (fmt : Nat) (x : Num) (f : Factor) (mode : RoundMode) : Quantised :=
  match x with
  | .nan => { code := codeBits fmt f.zp, nan := true }
  | _ =>
    let r : Int :=
      match x with
      | .inf neg => if neg then -(2 ^ 40) else 2 ^ 40
      | _ => roundInt (x.toRat / f.unit fmt) mode
    let r := r + f.zp
    let c := max (qmin fmt) (min (qmax fmt) r)
    { code := codeBits fmt c, clip := decide (c ≠ r)
      flush := !x.isZero && decide (c = f.zp) }

/-- quant_fp (R202). -/
def quantFp (F : Fmt) (x : Num) (s : Rat) (mode : RoundMode) (infOk : Bool) : Quantised :=
  let sat (neg : Bool) : Quantised :=
    { code := if infOk then F.infinity neg else F.largest neg, clip := true }
  match x with
  | .nan => { code := F.nan, nan := true }
  | .inf neg => sat neg
  | .val neg m =>
    let q := (if neg then -m else m) / s
    let r := F.round q mode
    if F.fmax < |r| then sat neg
    else { code := F.encode neg |r|, flush := decide (m ≠ 0) && decide (r = 0) }

/-- Quantise one element under a view (R202). -/
def quantElem (d : BitVec 512) (x : Num) (f : Factor) (mode : RoundMode) : Quantised :=
  match storeFmt (viewStore d) with
  | some F => quantFp F x f.scale mode (viewInf d)
  | none => quantInt (viewStore d) x f mode

/-- The rounding mode of an element (R202, R203): its stored address and nibble seed mode 2. -/
def elemRound (d : BitVec 512) (a2 : Nat) (epoch : BitVec 32) : RoundMode :=
  match viewRound d with
  | 0 => .even
  | 1 => .zero
  | _ => .seeded (rbOf (BitVec.ofNat 32 a2) (BitVec.ofNat 32 (viewSeed d)) epoch)

/-- The exact value of a stored code (R208). -/
def dequant (d : BitVec 512) (code : Nat) (f : Factor) : Num :=
  let fmt := viewStore d
  if f.mxNan then .nan
  else
    match storeFmt fmt with
    | some F =>
      match F.decode code with
      | .val neg m => .val neg (m * f.scale)
      | n => n
    | none => .ofRat (((intCode fmt code - f.zp : Int) : Rat) * f.unit fmt)

/-- A stored code as a port element (R208): its bits, and whether it saturated. -/
def toPort (d : BitVec 512) (code : Nat) (f : Factor) : Nat × Bool :=
  match portFmt (viewPort d) with
  | some F => F.port (dequant d code f)
  | none => ((intCode (viewStore d) code % (2 ^ (8 * portBytes (viewPort d)))).toNat, false)

/-! ### Valid views (R187, R188, R211) -/

/-- Table 7-4: the port formats a storage format allows. -/
def portAllowed (store port : Nat) : Bool :=
  match store with
  | 0 => decide (1 ≤ port ∧ port ≤ 5)
  | 1 => decide (1 ≤ port ∧ port ≤ 5)
  | 2 => port == 1 || port == 2 || port == 3 || port == 5
  | 3 => port == 1 || port == 2 || port == 3 || port == 5
  | 4 => port == 1 || port == 5
  | 5 => decide (1 ≤ port ∧ port ≤ 3)
  | 6 => decide (1 ≤ port ∧ port ≤ 3)
  | 7 => decide (1 ≤ port ∧ port ≤ 3)
  | 8 => decide (1 ≤ port ∧ port ≤ 3)
  | 9 => port == 1
  | _ => decide (1 ≤ port ∧ port ≤ 3)

/-- Table 7-4, last column: scalable formats. -/
def scalable (store : Nat) : Bool :=
  store == 0 || store == 1 || store == 2 || store == 5 || store == 6 || decide (10 ≤ store)

/-- A combination of fields that Table 3-4, Table 7-4 or R188 refuses: DETAIL 4 (R95, R188). -/
def viewClash (d : BitVec 512) : Bool :=
  let st := viewStore d
  let po := viewPort d
  let src := viewSrc d
  let gr := viewGroup d
  let conv := converting d
  let ints := po == 4 || po == 5
  let c2 := conv && !portAllowed st po
  let c3 := !conv && (viewRound d != 0 || viewInf d || src != 0 || gr != 0 || viewZp d ||
    viewStat d || viewClipAct d != 0 || viewFlushAct d != 0)
  let c4 := ints && conv && (src != 0 || viewRound d != 0)
  let c5 := (src != 0 && !scalable st) || ((isMx st || isGrouped st) && src == 0)
  let c6 := (src == 0 && gr != 0) || (decide (2 ≤ src) && gr == 0) ||
    (isMx st && gr != 1) || (isGrouped st && gr == 0)
  let c7 := (isMx st && viewSfmt d != 2) || (isGrouped st && viewSfmt d == 2) ||
    (gr == 0 && viewSfmt d != 0)
  let c8 := (viewZp d && (!(st == 0 || st == 1 || st == 2 || isGrouped st) || gr == 0)) ||
    (viewZpBase d != 0) != zpArray d
  let c9 := viewInf d && st != 6
  let c10 := (viewStat d && !conv) || ((viewClipAct d != 0 || viewFlushAct d != 0) && !viewStat d) ||
    ((decide (2 ≤ viewClipAct d) || decide (2 ≤ viewFlushAct d)) && src != 2)
  let regionAny := viewRegion d == 0x100 && (src != 0 || gr != 0)
  let scaleBad := (viewScaleBase d != 0) != (gr != 0)
  let axisBad := if gr = 0 then viewStride d != 0 || viewLen d != 0
    else viewStride d == 0 || viewLen d == 0 || viewLen d % groupSize d != 0
  let seedBad := viewSeedScale d != 0 && src != 2
  let staticBad := viewStatic d != 0 && !(src == 1 && gr == 0)
  c2 || c3 || c4 || c5 || c6 || c7 || c8 || c9 || c10 || regionAny || scaleBad || axisBad || seedBad || staticBad

/-- What R188 and the format tables refuse in a descriptor: for each rule the byte offset for DETAIL, and
whether it is broken. A rule that names one field gives that field's word (R188). -/
def viewBad (d : BitVec 512) : List (Nat × Bool) :=
  let code := viewStore d == 15 || decide (5 < viewPort d) || viewRound d == 3 || viewSfmt d == 3
  let static := viewSrc d == 1 && viewGroup d == 0 && (fp32Scale (viewStatic d)).isNone
  let mode := bitsOf (viewEpoch d) 22 2
  let n := bitsOf (viewEpoch d) 0 22
  let epochBad := mode == 3 || (mode == 0 && n != 0) || ((mode == 1 || mode == 2) && n == 0)
  [(4, code || viewClash d), (8, viewScaleBase d % 32 != 0), (12, viewZpBase d % 32 != 0),
   (28, viewSeedScale d != 0 && (fp32Scale (viewSeedScale d)).isNone), (32, static), (36, epochBad)]

end Sys2Proof.Machine
end

