-- ==== Sys2Proof/Machine/Request.lean ====
section
/-!
DEFINITION. Requests: their words, the answers to them, what completes them (04_crossbar.md,
R103 to R123; the link side of a response, R289, R301).
-/

namespace Sys2Proof.Machine

/-! ### The request word (Table 4-2) -/

/-- OP. -/
def rqOp (w : BitVec 128) : Nat := bitsOf w.toNat 0 3
/-- CLASS. -/
def rqClass (w : BitVec 128) : Nat := bitsOf w.toNat 4 2
/-- Port bytes: LEN + 1. -/
def rqLen (w : BitVec 128) : Nat := bitsOf w.toNat 8 12 + 1
/-- CTX. -/
def rqCtx (w : BitVec 128) : Nat := bitsOf w.toNat 20 10
/-- ADDR. -/
def rqAddr (w : BitVec 128) : Nat := bitsOf w.toNat 32 40
/-- VIEW. -/
def rqView (w : BitVec 128) : Nat := bitsOf w.toNat 72 16
/-- TAG. -/
def rqTag (w : BitVec 128) : Nat := bitsOf w.toNat 96 10

/-- Odd parity of `n` bits with their parity bit (R103). -/
def oddParity (n w : Nat) (p : Bool) : Bool := (ones n w + bit p) % 2 == 1

/-- The odd-parity bits of `n` words of 32 bits (R103, R108, R288). -/
def wordParity (n w : Nat) : Nat :=
  ((List.range n).map (fun i => bit (ones 32 (bitsOf w (32 * i) 32) % 2 == 0) * 2 ^ i)).sum

/-- Every word of a request meets R103. -/
def ReqWord.good (r : ReqWord) : Bool :=
  (List.range 4).all (fun i => oddParity 32 (bitsOf r.word.toNat (32 * i) 32) (bitOf r.par.toNat i))

/-- A link port's initiator number (R19). -/
def isLink (p : Nat) : Bool := decide (56 ≤ p) && decide (p < 64)

/-- Opcodes that count as reads (Table 4-3). -/
def countsRead (op : Nat) : Bool := op == 0 || op == 1

/-- Opcodes with write data (Table 4-3). -/
def hasData (op : Nat) : Bool := op == 2 || op == 3 || op == 4 || op == 5 || op == 7

/-- The granules of a beat with a byte that fails DPAR (R128, R129). -/
def parityGranules (bad : BitVec 128) : BitVec 4 :=
  BitVec.ofNat 4 (((List.range 4).map (fun g =>
    if bitsOf bad.toNat (32 * g) 32 = 0 then 0 else 2 ^ g)).sum)

/-- Bits of a beat's SPOIL, and granules with a byte that fails DPAR, or all of them under a CPAR
failure (R107, R128). -/
def WBeat.badGranules (b : WBeat) : BitVec 4 :=
  if b.badCtl then 15 else b.spoil ||| parityGranules b.badBytes

/-- DPAR of a byte, or CPAR, fails (R128). -/
def WBeat.fails (b : WBeat) : Bool := b.badCtl || b.badBytes != 0

/-- The beats of a request as R105 counts them. -/
def beatsAligned (addr len : Nat) : Nat := (addr + len - 1) / 128 - addr / 128 + 1

/-! ### Outstanding requests -/

/-- An outstanding request. -/
def State.outst? (s : State) (id : Nat) : Option Outst := s.xbar.outst.find? (fun o => o.id == id)

/-- Change an outstanding request. -/
def State.onOutst (s : State) (id : Nat) (f : Outst → Outst) : State :=
  s.onXbar fun x => { x with outst := x.outst.map (fun o => if o.id = id then f o else o) }

/-- Forget a request that is no longer outstanding. -/
def State.dropOutst (s : State) (id : Nat) : State :=
  s.onXbar fun x => { x with outst := x.outst.filter (fun o => o.id != id) }

/-- The outstanding requests of a port, in issue order. -/
def State.outstOf (s : State) (p : Nat) : List Outst := s.xbar.outst.filter (fun o => o.port == p)

/-- OP of an outstanding request. -/
def Outst.op (o : Outst) : Nat := rqOp o.word
/-- CLASS of an outstanding request. -/
def Outst.cls (o : Outst) : Nat := rqClass o.word
/-- CTX of an outstanding request. -/
def Outst.ctx (o : Outst) : Nat := rqCtx o.word
/-- TAG of an outstanding request. -/
def Outst.tag (o : Outst) : Nat := rqTag o.word

/-- Reads outstanding at a port (R123). -/
def State.readsOut (s : State) (p : Nat) : Nat := ((s.outstOf p).filter (fun o => countsRead o.op)).length

/-- Mailbox slots of a port in use (R67). -/
def State.mailboxUsed (s : State) (p : Nat) : Nat :=
  ((s.outstOf p).filter (fun o => o.op == 7)).length

/-- The head of the request FIFO is a CMD that waits for a mailbox slot (R67, R120). -/
def State.cmdWaits (s : State) (p : Nat) : Bool :=
  match (s.port p).fifo with
  | h :: _ => h.req.good && rqOp h.req.word == 7 && !(s.port p).parityHold && decide (4 ≤ s.mailboxUsed p)
  | [] => false

/-- Writes that the ingress of a port has accepted and that are outstanding (R123); a held fold operation holds no
place (R304). -/
def State.writesIn (s : State) (p : Nat) : Nat :=
  ((s.outstOf p).filter
    (fun o => !countsRead o.op && !s.links.held.any (fun h => h.req == o.id))).length

/-- Writes outstanding at a port: a CMD that waits for a mailbox slot counts (R67). -/
def State.writesOut (s : State) (p : Nat) : Nat := s.writesIn p + bit (s.cmdWaits p)

/-! ### Time base and source entries -/

/-- Whole nanoseconds by which the time base has advanced since power-up (R384). -/
def State.ns (s : State) : Nat := (s.time.advance / 4294967296).toNat

/-- The source entry of a link request, if it is still the one that took it (R300). -/
def State.srcOf (s : State) (t : LinkTag) : Option SrcEntry :=
  match s.links.srcs.find? t.src with
  | some e => if e.chip = t.chip ∧ e.incarn = t.incarn then some e else none
  | none => none

/-- Change the state of a sequence number (Table 10-3). -/
def State.onSeq (s : State) (t : LinkTag) (f : SeqRec → SeqRec) : State :=
  match s.srcOf t with
  | some e =>
    match e.recs.find? t.seq.toNat with
    | some r =>
      s.onLinks fun l =>
        { l with srcs := l.srcs.set t.src { e with recs := e.recs.set t.seq.toNat (f r) } }
    | none => s
  | none => s

/-- An ORDERED request of a source has been applied (R302). -/
def State.seqApplied (s : State) (t : LinkTag) : State :=
  match s.srcOf t with
  | some e => s.onLinks fun l =>
      { l with srcs := l.srcs.set t.src { e with unapplied := e.unapplied.filter (fun q => q.2 != t.seq) } }
  | none => s

/-- LH0 and LH1 of a response to an inbound request (Table 10-1). -/
def State.linkHeader (s : State) (t : LinkTag) : BitVec 64 :=
  BitVec.ofNat 64
    (s.links.chip + t.chip * 2 ^ 12 + bit t.tclass * 2 ^ 24 + bit s.links.epoch * 2 ^ 25 +
      bit t.ce * 2 ^ 27 + t.seq.toNat * 2 ^ 32 + s.links.incarn.toNat * 2 ^ 58)

/-- A wake indication is present at A1: the attempt is abandoned with nothing changed (R367). -/
def ClusterPower.abandonA1 (p : ClusterPower) (cause : Nat) : ClusterPower :=
  { p with mode := .run, attempt := none, wake := none, lastWake := cause, stopReq := false, count := 0
           aborts := { p.aborts with a1 := satAdd 0xFF p.aborts.a1 1 } }

/-- A wake indication is present at a cluster's power control in XCK `t` (R367, R368): up to A1 it abandons the attempt,
later it is kept for A2, A3 or the exit; an earlier one stands. In RUN with no attempt under way it does nothing. -/
def ClusterPower.indicate (p : ClusterPower) (t cause : Nat) : ClusterPower :=
  match p.mode with
  | .run => if p.attempt.isSome then p.abandonA1 cause else p
  | _ =>
    if p.mode = .entering ∧ t ≤ p.entryAt + 1 then p.abandonA1 cause
    else { p with wake := match p.wake with | some w => some w | none => some (cause, t) }

/-- A wake indication of a cluster (Table 13-3). -/
def State.indicate (s : State) (c cause : Nat) : State := s.onCpower c fun p => p.indicate s.clock.xck cause

/-- Something reaches a cluster: one in RUN is not idle, and starts its idle timer again (R364); one that is not, or is
about to leave RUN, has a wake indication (R368). -/
def State.wakeCluster (s : State) (c cause : Nat) : State :=
  (if (s.cpower c).count = 0 then s else s.onCpower c fun p => { p with count := 0 }).indicate c cause

/-! ### Answers -/

/-- Put a response into the converter of a port (R109, R110). -/
def State.present (s : State) (o : Outst) (r : Resp) : State :=
  let r := match o.link with
    | some t => { r with link := s.linkHeader t, req := o.id }
    | none => { r with req := o.id }
  s.onPort o.port fun p => { p with resp := p.resp ++ [r] }

/-- The final answer to a request has been presented: it is no longer outstanding, and an inbound
request becomes DONE (R112, R301). -/
def State.ended (s : State) (o : Outst) (st : Status) : State :=
  let s := s.dropOutst o.id
  match o.link with
  | some t => (s.onSeq t fun r => { r with done := some st, applied := true }).seqApplied t
  | none => s

/-- One header of a request other than RD (R110). -/
def State.answer (s : State) (o : Outst) (st : Status) (token : BitVec 32) : State :=
  (s.present o
    { tag := o.tag, status := st, token := token, spoiled := o.badGranules, clipped := o.clipped }).ended o st

/-- A read refused over its full length (R109). -/
def State.refuseRead (s : State) (o : Outst) (st : Status) : State :=
  let s := (List.range o.beats).foldl
    (fun s i => s.present o
      { tag := o.tag, status := st, beat := i, last := i + 1 == o.beats, spoil := 15, isRead := true })
    s
  s.ended o st

/-- The refusal of any request. -/
def State.refuseReq (s : State) (o : Outst) (st : Status) : State :=
  if o.op = 1 then s.refuseRead o st else s.answer o st 0

/-- A latency sample (R161). -/
def ewmaSample (k : Nat) (avg : Option Nat) (lat : Nat) : Option Nat :=
  match avg with
  | none => some (lat * 256)
  | some e => some ((e : Int) + (((lat * 256 : Nat) : Int) - e) / 2 ^ k).toNat

/-- Sample the latency of a local request on one side (R160). -/
def State.sample (s : State) (p : Nat) (read : Bool) (lat : Nat) : State :=
  s.onPort p fun q =>
    if read then { q with ewmaRd := ewmaSample q.latK q.ewmaRd (lat % 65536) }
    else { q with ewmaWr := ewmaSample q.latK q.ewmaWr (lat % 65536) }

/-- Present the beats of a read that are next in BEAT order (R109). -/
def State.presentReady (s : State) (id : Nat) : Nat → State
  | 0 => s
  | fuel + 1 =>
    match s.outst? id with
    | none => s
    | some o =>
      match o.ready.find? (fun r => r.beat == o.next) with
      | none => s
      | some r =>
        let last := o.next + 1 == o.beats
        let s := s.present o { r with last := last }
        let s := match o.dest with
          | .remote _ => s
          | _ => s.sample o.port true (s.clock.xck - (o.since + r.beat))
        if last then s.ended o (if o.spoil then .spoil else .ok)
        else
          (s.onOutst id fun o =>
            { o with next := o.next + 1, ready := o.ready.filter (fun q => q.beat != r.beat) })
            |>.presentReady id fuel

/-- A beat of a read has its data (R109). -/
def State.readBeat (s : State) (id : Nat) (r : Resp) : State :=
  let s := s.onOutst id fun o =>
    { o with ready := o.ready ++ [{ r with tag := o.tag, isRead := true }], left := o.left - 1
             spoil := o.spoil || r.spoil != 0 }
  s.presentReady id 64

/-- The status with which a local write completes (R107, R225, R391). -/
def Outst.writeStatus (o : Outst) : Status :=
  if o.unwritten then .decerr else if o.spoil then .spoil else if o.sat then .saturated else .ok

/-- What a stored piece leaves: the granules stored spoiled, the clipped elements, whether an
accumulation saturated or wrapped, whether a data port's row was not written (R391). -/
structure Stored where
  spoiled : Nat
  clipped : Nat
  sat : Bool
  unwritten : Bool := false
deriving DecidableEq, Repr

/-- A write whose parts have all passed their write slots is answered, and sampled unless it is SATURATED
(R33, R160). -/
def State.writeOver (s : State) (o : Outst) : State :=
  (if o.writeStatus = .saturated then s
   else s.sample o.port false (s.clock.xck - (o.since + o.beats - 1))).answer o o.writeStatus 0

/-- One part of a write request has passed its write slot (R33, R204); the granules of a scale entry count in no
request's data. -/
def State.writePart (s : State) (id : Nat) (entry : Bool) (d : Stored) : State :=
  let s := s.onOutst id fun o =>
    { o with left := o.left - 1, spoil := o.spoil || decide (0 < d.spoiled), sat := o.sat || d.sat
             badGranules := o.badGranules + (if entry then 0 else d.spoiled)
             clipped := o.clipped + d.clipped, unwritten := o.unwritten || d.unwritten }
  match s.outst? id with
  | some o => if o.left = 0 ∧ o.accepted then s.writeOver o else s
  | none => s

end Sys2Proof.Machine
end

