-- ==== Sys2Proof/Machine/Ingress.lean ====
section
/-!
DEFINITION. The crossbar ingress: the checks of a request, its pieces, the scales of a converted
write, epochs (R98, R105, R189, R199 to R204, R212, R213, R264, R298).
-/

namespace Sys2Proof.Machine

/-! ### The checks of R98 -/

/-- What the ingress finds for RD, WR, WRM or ACC. -/
inductive Judged where
  | refused (st : Status)
  | here (i : Nat) (r : Region) (v : Option BoundView) (src : Nat)
  | away (w : Nat)
deriving DecidableEq, Repr

/-- The access of an opcode. -/
def accessOf (op : Nat) : Access :=
  if op = 1 then .rd else if op = 2 then .wr else if op = 3 then .wrm else .acc

/-- Accumulating view (R222). -/
def accumulates (d : BitVec 512) : Bool := viewAcc d != 0

/-- A view whose requests follow R189. -/
def chunked (d : BitVec 512) : Bool := converting d && !accumulates d

/-- Element size of an accumulating view (Table 8-1). -/
def accBytes (d : BitVec 512) : Nat := if viewAcc d = 2 then 8 else 4

/-- Elements of a request through a converting view (R189). -/
def elemCount (d : BitVec 512) (len : Nat) : Nat :=
  (len + portBytes (viewPort d) - 1) / portBytes (viewPort d)

/-- Stored bytes of `n` elements. -/
def storedBytes (d : BitVec 512) (n : Nat) : Nat := (n * storeBits (viewStore d) + 7) / 8

/-- The context range of a port (R114). -/
def Port.allows (p : Port) (ctx : Nat) : Bool :=
  decide (p.ctxBase.toNat ≤ ctx) && decide (ctx < p.ctxBase.toNat + p.ctxCount.toNat)

/-- The groups that elements `e` to `e + n - 1` of a view touch, in order of first touch. -/
def groupsTouched (d : BitVec 512) (e n : Nat) : List Nat :=
  ((List.range n).map (fun i => groupOf d (e + i))).eraseDups

/-- Elements `e` to `e + n - 1` hold the whole of a group (R191, R216). -/
def coversGroup (d : BitVec 512) (e n g : Nat) : Bool :=
  (groupElems d g).all (fun i => decide (e ≤ i) && decide (i < e + n))

/-- The element rules of a view, part of check 5 (R189, R191, R223). -/
def elemRules (d : BitVec 512) (op base addr len : Nat) : Bool :=
  if accumulates d then
    op == 3 || (addr % accBytes d == 0 && len % accBytes d == 0)
  else if converting d then
    len % portBytes (viewPort d) == 0 && addr % beatChunk d == 0 &&
      (!(op == 2 && viewSrc d == 3) ||
        (let e := elemIndex d base addr
         let n := elemCount d len
         (groupsTouched d e n).all (coversGroup d e n)))
  else true

/-- The view that decides how long a request is, before it is checked (R189). -/
def State.viewFor (s : State) (r : Region) (field : Nat) : Option (Nat × View) :=
  let f := if field = 0xFFFF then r.defaultView else field
  match s.view? f with
  | some v => if f < 4096 then some (f, v) else none
  | none => none

/-- The stored bytes of a request at a region (R76, R189). -/
def State.storedLen (s : State) (r : Region) (field len : Nat) : Nat :=
  match s.viewFor r field with
  | some (_, v) => if chunked v.desc then storedBytes v.desc (elemCount v.desc len) else len
  | none => len

/-- The checks of R98 after parity, for RD, WR, WRM and ACC. -/
def State.judge (s : State) (p : Nat) (w : BitVec 128) : Judged :=
  let op := rqOp w
  let addr := rqAddr w
  let len := rqLen w
  let ctx := rqCtx w
  let need := (accessOf op).need
  let ctxOk := (s.port p).allows ctx
  let held := s.safety.hold && (op != 1 || isLink p)
  if addr < 2 ^ 28 then
    match s.regionAt addr with
    | none => .refused .decerr
    | some (i, r) =>
      let n := s.storedLen r (rqView w) len
      if r.limit + 1 < addr + n then .refused .decerr
      else if !ctxOk || !bitOf (r.permFor (if isLink p then .link else .ctx ctx)) need.bit then
        .refused .perm
      else if held then .refused .safeHold
      else
        let n0 := (addr - r.base) / 128
        let n1 := (addr + n - 1 - r.base) / 128
        match s.bindView i r (rqView w) ctx (accessOf op) with
        | .bad => .refused .badParam
        | .pass => if s.rowsOut r n0 n1 then .refused .decerr else .here i r none n
        | .view id v =>
          if !elemRules v.desc op r.base addr len then .refused .badParam
          else if s.rowsOut r n0 n1 then .refused .decerr
          else
            .here i r (some { id := id, gen := v.gen, desc := v.desc, owner := v.owner
                              base := r.base, epoch := v.cur.count }) n
  else if isLink p then .refused .decerr
  else
    match s.matchWindow addr len with
    | none => .refused .decerr
    | some (i, d) =>
      if !ctxOk || !bitOf (winPerm d ctx) need.bit then .refused .perm
      else if held then .refused .safeHold
      else .away i

/-! ### Pieces (R105, R189) -/

/-- The kind of an opcode's pieces. -/
def pieceKind (op : Nat) : PieceKind :=
  if op = 1 then .rd else if op = 2 then .wr else if op = 3 then .wrm else .acc

/-- A piece for one beat: `a` its first stored byte, `n` its stored bytes. -/
def State.piece (s : State) (o : Outst) (r : Region) (v : Option BoundView)
    (i a n lane lanes : Nat) : Piece :=
  let at_ := r.place s.cfg ((a - r.base) / 128)
  let b : WBeat := o.wbeats.getD i { data := 0, strb := 0, spoil := 15, last := true }
  { req := o.id, port := o.port, kind := pieceKind o.op, cls := o.cls, beat := i
    cluster := at_.1 / 16, bank := at_.1, row := at_.2, off := (a - r.base) % 128, len := n, addr := a
    lane := lane, lanes := lanes, data := b.data
    strb := if b.badCtl then BitVec.allOnes 128 else b.strb
    bad := b.badGranules, view := v, safety := r.safety }

/-- The pieces of a request, one per beat. -/
def State.piecesOf (s : State) (o : Outst) (r : Region) (v : Option BoundView) : List Piece :=
  let addr := rqAddr o.word
  let len := rqLen o.word
  let plain : List Piece :=
    (List.range (beatsAligned addr len)).map fun i =>
      let lo := max addr ((addr / 128 + i) * 128)
      let hi := min (addr + len) ((addr / 128 + i + 1) * 128)
      s.piece o r v i lo (hi - lo) (lo % 128) (hi - lo)
  match v with
  | some b =>
    if chunked b.desc then
      let per := 128 / portBytes (viewPort b.desc)
      let n := elemCount b.desc len
      (List.range ((len + 127) / 128)).map fun i =>
        let k := min per (n - i * per)
        s.piece o r v i (addr + i * beatChunk b.desc) (storedBytes b.desc k) 0
          (k * portBytes (viewPort b.desc))
    else plain
  | none => plain

/-- Beats of a request (R105, R189). -/
def State.beatsOf (s : State) (w : BitVec 128) : Nat :=
  let addr := rqAddr w
  let len := rqLen w
  match (if addr < 2 ^ 28 then s.regionAt addr else none) with
  | some (_, r) =>
    match s.viewFor r (rqView w) with
    | some (_, v) => if chunked v.desc then (len + 127) / 128 else beatsAligned addr len
    | none => beatsAligned addr len
  | none => beatsAligned addr len

/-! ### Elements of a converted write -/

/-- One element as the ingress sees it (R199). -/
structure Elem where
  /-- Element index in the view's region. -/
  e : Nat
  num : Num
  /-- The request writes it (R190). -/
  written : Bool
  /-- It comes from a bad port granule (R207). -/
  bad : Bool
deriving DecidableEq, Repr

/-- The elements of a write piece through a converting view. -/
def Piece.elems (x : Piece) (b : BoundView) : List Elem :=
  let d := b.desc
  let pe := portBytes (viewPort d)
  let e0 := elemIndex d b.base x.addr
  if x.exact ≠ [] then
    x.exact.zipIdx.map (fun p => { e := e0 + p.2, num := p.1.1, written := true, bad := p.1.2 })
  else (List.range (x.lanes / pe)).map fun i =>
    let lane := x.lane + i * pe
    { e := e0 + i
      num := portNum (viewPort d) (bytesAt x.data lane pe)
      written := x.kind != .wrm || bitsOf x.strb.toNat lane pe == 2 ^ pe - 1
      bad := bitOf x.bad.toNat (lane / 32) }

/-- amax, lo and hi of a set of elements (R199). -/
structure Spread where
  amax : Rat := 0
  lo : Rat := 0
  hi : Rat := 0
deriving DecidableEq, Repr

/-- One element more. -/
def Spread.add (q : Spread) (x : Elem) : Spread :=
  if x.written && !x.bad && x.num.finite then
    let v := x.num.toRat
    { amax := max q.amax |v|, lo := min q.lo v, hi := max q.hi v }
  else q

/-- The spread of a list of elements. -/
def spreadOf (xs : List Elem) : Spread := xs.foldl Spread.add {}

/-- The choice of R200 for one group of a request: the view as it stands, the group, the elements
of the request, whether the request covers the group whole. None where no scale is chosen here. -/
def chooseScale (v : View) (g : Nat) (xs : List Elem) (whole : Bool) : Option GroupScale :=
  let d := v.desc
  let mine := xs.filter (fun x => x.written && groupOf d x.e == g)
  let own : GroupScale :=
    let q := spreadOf mine
    let c := derive d q.amax q.lo q.hi
    { group := g, scale := c.1, zp := c.2, bad := mine.any (fun x => x.bad) }
  if viewSrc d = 3 then some own
  else if viewSrc d = 2 then
    match v.dscale with
    | none => some own
    | some c => if v.forced && whole then some own else some { group := g, scale := c, zp := v.dzp }
  else none

/-- The groups of a request's elements with the scales chosen for them (R200). A group of which the request writes no
element, all its strobes being off, is not touched: no scale is chosen for it and no entry is written (DESIGN CHOICE, log
entry 65). -/
def chosenScales (v : View) (xs : List Elem) : List GroupScale :=
  match xs with
  | [] => []
  | x :: _ =>
    if viewSrc v.desc < 2 then []
    else
      (((xs.filter (fun y => y.written)).map (fun y => groupOf v.desc y.e)).eraseDups).filterMap
        (fun g => chooseScale v g xs
          (coversGroup v.desc x.e xs.length g &&
            (xs.filter (fun y => groupOf v.desc y.e == g)).all (fun y => y.written)))

/-! ### Entry writes (R204) -/

/-- The entry bytes of a group: address and byte. -/
def entryCells (d : BitVec 512) (g : GroupScale) : List (Nat × Byte) :=
  let bs := entryBytes d g.scale g.zp
  ((List.range bs.length).map (fun i => (scaleAddr d g.group + i, bs.getD i 0))) ++
    (if zpArray d then [(zpAddr d g.group, BitVec.ofNat 8 (zpByte g.zp))] else [])

/-- The status with which the write of an entry byte is refused, and its address: the owner's context is outside the
range of initiator 64 (R114), no region holds it, its region does not grant the owner R and W (R97), its bank is out of
service. That the owner needs R beside W for the block to write an entry is the model's (DESIGN CHOICE, log entry
43). -/
def State.entryRefused (s : State) (b : BoundView) (a : Nat) : Option (Status × Nat) :=
  if !(s.port 64).allows b.owner then some (.perm, a)
  else
    match s.regionAt a with
    | none => some (.decerr, a)
    | some (_, r) =>
      let pm := r.permFor (.ctx b.owner)
      if !(bitOf pm 0 && bitOf pm 1) then some (.perm, a)
      else if s.rowsOut r ((a - r.base) / 128) ((a - r.base) / 128) then some (.decerr, a)
      else none

/-- Why the entry of a group cannot be written: the first of its bytes that is refused. -/
def State.entryStops (s : State) (b : BoundView) (g : GroupScale) : Option (Status × Nat) :=
  (entryCells b.desc g).findSome? fun c => s.entryRefused b c.1

/-- Every entry byte of a group can be written. -/
def State.entriesReach (s : State) (b : BoundView) (g : GroupScale) : Bool := (s.entryStops b g).isNone

/-- The masked write pieces of a request's entries: one for each array granule. -/
def State.entryPieces (s : State) (o : Outst) (cells : List (Nat × Byte)) : List Piece :=
  ((cells.map (fun c => c.1 / 32)).eraseDups).filterMap fun gr =>
    match s.locate (gr * 32) with
    | some (bank, row, off) =>
      let mine := cells.filter (fun c => c.1 / 32 == gr)
      let data := mine.foldl (fun (d : BitVec 1024) c => setBytes d (off + c.1 % 32) 1 c.2.toNat) 0
      let strb := mine.foldl (fun (m : BitVec 128) c => setBit m (off + c.1 % 32)) 0
      some { req := o.id, port := 64, kind := .entry, cls := 0, cluster := bank / 16, bank := bank
             row := row, off := off, len := 32, addr := gr * 32, lane := off, lanes := 32
             data := data, strb := strb }
    | none => none

/-! ### Epochs (R211 to R213) -/

/-- An end point is reached in the XCK `x` (R212). -/
def View.reachEnd (v : View) (x : Nat) : View := { v with endAt := some x }

/-- The end point of an epoch: the delayed scale of the next is derived, the count rises (R212,
R213). -/
def View.endEpoch (v : View) : View :=
  let d := v.desc
  let c := derive d v.cur.amax v.cur.lo v.cur.hi
  let fresh := viewSrc d == 2 && decide (0 < v.cur.amax)
  { v with
    ended := { v.cur with ended := true } :: v.ended
    cur := { count := v.cur.count + 1 }
    dscale := if fresh then some c.1 else v.dscale
    dzp := if fresh then c.2 else v.dzp
    forced := false
    endAt := none
    bytes := 0 }

/-- The epochs whose end point lies in an XCK that has passed end. -/
def State.passEnds (s : State) : State :=
  if s.conv.views.any (fun e => e.2.endAt.isSome) then
    s.onConv fun k =>
      { k with views := k.views.map fun e => (e.1, match e.2.endAt with
          | some x => if x < s.clock.xck then e.2.endEpoch else e.2
          | none => e.2) }
  else s

/-- The epoch's MODE and N (R211). -/
def epochMode (d : BitVec 512) : Nat := bitsOf (viewEpoch d) 22 2
/-- N of EPOCH_CTL. -/
def epochN (d : BitVec 512) : Nat := bitsOf (viewEpoch d) 0 22

/-- A WR or WRM through a view joins its epoch in the XCK `x`: `n` pieces, their spread, `bytes` stored
bytes; in MODE 1 the end point is the XCK in which its bytes reach N × 4 KiB. -/
def View.join (v : View) (x n : Nat) (q : Spread) (bytes : Nat) : View :=
  let c := { v.cur with
    left := v.cur.left + n, amax := max v.cur.amax q.amax
    lo := min v.cur.lo q.lo, hi := max v.cur.hi q.hi }
  let v := { v with cur := c, bytes := v.bytes + bytes }
  if epochMode v.desc = 1 ∧ epochN v.desc * 4096 ≤ v.bytes then v.reachEnd x else v

/-! ### Plans -/

/-- Attach the chosen scales to the pieces that use them. -/
def withScales (b : BoundView) (gs : List GroupScale) (x : Piece) : Piece :=
  let mine := ((x.elems b).map (fun y => groupOf b.desc y.e)).eraseDups
  { x with scales := gs.filter (fun g => mine.contains g.group) }

/-- Pieces join those of initiator 64 at its ingress: scale lines and entries (class 0) go ahead of ring fetches and
records (class 1), and these ahead of the Drover (class 2) (R61, R196; the class numbers are the model's, log
entry 39). -/
def enter64 (ps xs : List Piece) (cls : Nat) : List Piece :=
  ps.filter (fun x => decide (x.cls ≤ cls)) ++ xs ++ ps.filter (fun x => decide (cls < x.cls))

/-- Entry pieces on their way to the arrays: the clusters that hold them wake (R204, R368). -/
def State.sendEntries (s : State) (es : List Piece) : State :=
  (es.foldl (fun s x => s.wakeCluster x.cluster 1) s).onPort 64 fun q => { q with pieces := enter64 q.pieces es 0 }

/-- A request whose context its port does not have is counted (R114). -/
def State.countPerm (s : State) (p : Nat) : State := s.onPort p fun q => { q with ctxPerm := satAdd 0xFFFF q.ctxPerm 1 }

/-- A DECERR or PERM answered for an address of a region with SAFETY = 1 (R87). The address is that of the request:
one that starts outside such a region and runs into it is not reported (DESIGN CHOICE, log entry 41). -/
def State.safetyRefusal (s : State) (p : Nat) (addr : Nat) (st : Status) : State :=
  if st = .decerr ∨ st = .perm then
    match (if addr < 2 ^ 28 then s.regionAt addr else none) with
    | some (_, r) =>
      if r.safety then
        s.report { code := 0x15, port := p }
      else s
    | none => s
  else s

/-- The entries that cannot be written: each refusal is counted and reported as that of a request (R87, R114). -/
def State.noteEntries (s : State) (b : BoundView) (gs : List GroupScale) : State :=
  ((gs.filter (fun g => !g.bad)).filterMap (s.entryStops b)).foldl (fun s x =>
    (if (s.port 64).allows b.owner then s else s.countPerm 64).safetyRefusal 64 x.2 x.1) s

/-- Plan local pieces (R199, R204, R212). -/
def State.planPieces (s : State) (o : Outst) (xs : List Piece) (v : Option BoundView) (stored : Nat) :
    Outst × State :=
  let dest := Dest.clusters ((xs.map (fun x => x.cluster)).eraseDups)
  let basic : Outst :=
    { o with plan := .pieces xs, dest := dest, left := xs.length, total := xs.length }
  match v with
  | some b =>
    if o.op = 2 ∨ o.op = 3 then
      match s.view? b.id with
      | some w =>
        let es := if chunked b.desc then xs.flatMap (fun x => x.elems b) else []
        let s := s.noteEntries b (chosenScales w es)
        let gs := (chosenScales w es).map fun g =>
          if s.entriesReach b g then g else { g with bad := true }
        let entries := s.entryPieces o
          ((gs.filter (fun g => !g.bad)).flatMap (entryCells b.desc))
        let xs := if viewSrc b.desc < 2 then xs else xs.map (withScales b gs)
        let n := xs.length + entries.length
        ({ basic with plan := .pieces xs, left := n, total := n },
          (s.onView b.id fun w => w.join s.clock.xck xs.length (spreadOf es) stored).sendEntries entries)
      | none => (basic, s)
    else if o.op = 4 then (basic, s.onView b.id fun w => w.join s.clock.xck xs.length {} 0)
    else (basic, s)
  | none => (basic, s)

/-- Plan a local RD, WR, WRM or ACC (R105). -/
def State.planLocal (s : State) (o : Outst) (r : Region) (v : Option BoundView) (stored : Nat) :
    Outst × State :=
  s.planPieces o (s.piecesOf o r v) v stored

/-- Plan RD, WR, WRM or ACC. -/
def State.planData (s : State) (o : Outst) : Outst × State :=
  match s.judge o.port o.word with
  | .refused st =>
    ({ o with plan := .answer st, dest := .ingress }, s.safetyRefusal o.port (rqAddr o.word) st)
  | .here _ r v n => s.planLocal o r v n
  | .away w => ({ o with plan := .remote w, dest := .remote w, bound := s.addr.windows.find? w }, s)

/-- The physical fold that a virtual fold of a context names (R259). -/
def State.translate (s : State) (ctx v : Nat) : Option Nat :=
  let m := s.folds.maps.get {} ctx
  if m.en ∧ m.base.toNat + v ≤ m.limit.toNat then s.folds.entries.find? (m.base.toNat + v) else none

/-- FOLD, OP and VALUE of a FOLD payload (Table 9-1). -/
def payFold (w : Nat) : Nat := bitsOf w 0 15
/-- OP of a FOLD payload. -/
def payOp (w : Nat) : Nat := bitsOf w 16 8
/-- VALUE of a FOLD payload. -/
def payValue (w : Nat) : Nat := bitsOf w 32 32

/-- The 16 bytes of a FOLD request. -/
def Outst.payload (o : Outst) : Nat :=
  match o.wbeats with
  | b :: _ => bytesAt b.data 0 16
  | [] => 0

/-- The beat of a FOLD payload is bad in granule 0 (R264, R468). -/
def Outst.payloadBad (o : Outst) : Bool :=
  match o.wbeats with
  | b :: _ => bitOf b.badGranules.toNat 0
  | [] => true

/-- A consumed spoil mark in a FOLD payload (R264). FOLD_LAST takes the cause; the fold that it names
is free, since the payload that names it is bad (Table 9-13). -/
def State.payloadFault (s : State) (p : Nat) : State :=
  let (v, s) := s.draw
  ((s.onFolds fun f =>
    { f with refusedBad := satAdd 0xFFFF f.refusedBad 1, irq := setBit f.irq 6
             lastFold := v.truncate 14, lastCause := 6 }).report
    { code := 0x12, port := p })

/-- Plan a FOLD (R264, R298; over a link, R260). -/
def State.planFold (s : State) (o : Outst) : Outst × State :=
  let no (st : Status) (s : State) : Outst × State :=
    ({ o with plan := .answer st, dest := .ingress }, s)
  let op := payOp o.payload
  if rqLen o.word ≠ 16 then no .badParam s
  else if !(s.port o.port).allows o.ctx then no .perm s
  else if o.payloadBad then no .badParam (s.payloadFault o.port)
  else if s.safety.hold ∧ (op ≠ 4 ∨ isLink o.port) then no .safeHold s
  else if 0xFC00 ≤ rqView o.word ∧ rqView o.word < 0xFC40 ∧ ¬ isLink o.port then
    let w := rqView o.word - 0xFC00
    if op = 3 ∨ 5 ≤ op then no .badParam s
    else
      match s.addr.windows.find? w with
      | none => no .badParam s
      | some d =>
        if bitOf (winPerm d o.ctx) (if op = 4 then 0 else 2) then
          ({ o with plan := .remote w, dest := .remote w, bound := some d }, s)
        else no .perm s
  else if 5 ≤ op then no .badParam s
  else
    match s.translate o.ctx (payFold o.payload) with
    | none => no .badParam s
    | some k =>
      if isLink o.port ∧ ¬ (s.fold k).linkOk then no .perm s
      else ({ o with plan := .fold k, dest := .clusters [k / 2048] }, s)

/-- Writes that a FENCE waits for (R119). -/
def State.covered (s : State) (o : Outst) : List Nat :=
  let scope := bitsOf o.word.toNat 32 2
  let cl := bitsOf o.word.toNat 34 3
  ((s.outstOf o.port).filter fun e =>
    decide (e.id < o.id) && decide (2 ≤ e.op) && decide (e.op ≤ 4) &&
      match e.dest with
      | .clusters cs => scope != 0 || cs.contains cl
      | .remote _ => scope == 2
      | .ingress => false).map (fun e => e.id)

/-- Plan a FENCE (R119). -/
def State.planFence (s : State) (o : Outst) : Outst × State :=
  let scope := bitsOf o.word.toNat 32 2
  let cl := bitsOf o.word.toNat 34 3
  if !(s.port o.port).allows o.ctx then ({ o with plan := .answer .perm }, s)
  else if s.safety.hold ∧ isLink o.port then ({ o with plan := .answer .safeHold }, s)
  else if scope = 3 ∨ (scope = 0 ∧ ¬ s.hasCluster cl) then ({ o with plan := .answer .badParam }, s)
  else
    ({ o with plan := .fence, covers := s.covered o, lost := scope == 2 && (s.port o.port).remoteLost }, s)

/-- Plan a NOP or a CMD: the context range, then Safe Hold for a link (R98, R110, R114, R309). A CMD
takes what the ingress finds of its context with it to the command interface, which writes the record (R66). -/
def State.planOther (s : State) (o : Outst) : Outst × State :=
  let within := (s.port o.port).allows o.ctx
  if !within && o.op != 7 then ({ o with plan := .answer .perm }, s)
  else if within ∧ s.safety.hold ∧ isLink o.port then ({ o with plan := .answer .safeHold }, s)
  else if o.op = 7 then
    if within then ({ o with plan := .cmd }, s) else ({ o with plan := .cmd, barred := true }, s.countPerm o.port)
  else ({ o with plan := .answer .ok }, s)

/-- Plan a request whose parity is good. A CMD that is answered here, under PARITY_HOLD or in Safe Hold on a link,
gets a header alone, with no status record in its data beat (DESIGN CHOICE, log entry 42). A request on which the two
copies of the translation differ is answered DECERR, with no effect (R394). -/
def State.plan (s : State) (o : Outst) : Outst × State :=
  let (o', s') :=
    if (s.port o.port).parityHold then ({ o with plan := .answer .decerr }, s)
    else if (s.port o.port).mistrans ∧ 1 ≤ o.op ∧ o.op ≤ 5 then
      ({ o with plan := .answer .decerr }, s.onPort o.port fun q => { q with mistrans := false })
    else if 1 ≤ o.op ∧ o.op ≤ 4 then s.planData o
    else if o.op = 5 then s.planFold o
    else if o.op = 6 then s.planFence o
    else s.planOther o
  if (s.port o.port).allows o.ctx ∨ o'.plan ≠ .answer .perm then (o', s')
  else (o', s'.countPerm o.port)

end Sys2Proof.Machine
end

