-- ==== Sys2Proof/Machine/Pump.lean ====
section
/-!
DEFINITION. Requests on their way through a port: from the request FIFO to acceptance at the
ingress, and from there, in the order of R115 and R119, to where they are served (04_crossbar.md).
-/

namespace Sys2Proof.Machine

/-! ### Limits (R120 to R124) -/

/-- Outstanding reads of a port (R123). -/
def readLimit (p : Nat) : Nat := if isLink p then 512 else 256
/-- Outstanding writes of a port (R123). -/
def writeLimit (p : Nat) : Nat := if isLink p then 256 else 128
/-- Request FIFO entries (Table 4-8). -/
def fifoSize (p : Nat) : Nat := if isLink p then 32 else 16
/-- Write-data beats (Table 4-8). -/
def wdSize (p : Nat) : Nat := if isLink p then 512 else 256
/-- Beats of read response space (Table 4-8). -/
def readSpace (p : Nat) : Nat := if isLink p then 1024 else 512

/-- Beats of read response space in use: reserved by reads that are outstanding, or filled (R120). -/
def State.readBeatsUsed (s : State) (p : Nat) : Nat :=
  (((s.outstOf p).filter (fun o => o.op == 1)).map (fun o => o.beats - o.next)).sum +
    ((s.port p).resp.filter (fun r => r.isRead)).length

/-- Write-data beats up to the one that LAST marks, and the rest (R106). -/
def takeBeats : List WBeat → Option (List WBeat × List WBeat)
  | [] => none
  | b :: r =>
    if b.last then some ([b], r)
    else
      match takeBeats r with
      | some (x, y) => some (b :: x, y)
      | none => none

/-! ### Leaving the ingress (R115, R119) -/

/-- An earlier request that does not hold a later one of its class (R115). -/
def notHeldBy (e o : Outst) : Bool :=
  e.op == 0 || e.accepted ||
    (e.sent &&
      match e.dest, o.dest with
      | .clusters es, .clusters os => es.all os.contains
      | _, _ => false)

/-- A request may leave the ingress: R115, R119, and room at its fold unit (R265). A NOP orders
nothing and waits for nothing (R110). -/
def State.sendable (s : State) (o : Outst) : Bool :=
  (o.op == 0 ||
    ((s.outstOf o.port).filter (fun e => decide (e.id < o.id) && e.cls == o.cls)).all
      (fun e => e.op != 6 && notHeldBy e o)) &&
    match o.plan with
    | .fold k => decide ((s.folds.queues.get [] (k / 2048)).length < 64)
    | _ => true

/-- A request word with the address, context and view that a window gives it; CLASS and TAG stay (R92). -/
def outWord (w : BitVec 128) (addr ctx view : Nat) : BitVec 128 :=
  BitVec.ofNat 128
    (bitsOf w.toNat 0 20 + ctx * 2 ^ 20 + bitsOf w.toNat 30 2 * 2 ^ 30 + addr % 2 ^ 40 * 2 ^ 32 + view * 2 ^ 72 +
      bitsOf w.toNat 88 40 * 2 ^ 88)

/-- A request as the link-port logic takes it (R92, R293, R298). -/
def outReqOf (o : Outst) (w : Nat) (d : BitVec 256) (now : Nat) : OutReq :=
  let addr := if o.op = 5 then 0 else rqAddr o.word - winBase d + winRbase d
  let view := if o.op = 5 then 0xFFFF else if winView d = 0xFFFF then rqView o.word else winView d
  { req := o.id, window := w, chip := winChip d, op := o.op, addr := addr
    len := rqLen o.word, ctx := winCtx d, view := view, word := outWord o.word addr (winCtx d) view
    beats := o.wbeats, total := o.beats, mask := BitVec.ofNat 8 (winMask d), adaptive := winAdaptive d, takenAt := now }

/-- The packet of a CMD, with its source (R66). Where LAST comes a beat early, the bytes of the packet that no beat
carries read 0 (DESIGN CHOICE, log entry 40). -/
def Outst.cmd (o : Outst) : Cmd :=
  { src := .mbox o.port o.ctx o.tag
    pkt := BitVec.ofNat 2048 ((o.wbeats.zipIdx.map (fun b => b.1.data.toNat * 2 ^ (1024 * b.2))).sum) }

/-- An inbound ARRIVE, SIGNAL or CONSUME has to wait: for the ORDERED requests that arrived before it on its link port
and have not been applied, be they discarded since, or for what it announces (R302, R303; log entry 60). -/
def State.mustHold (s : State) (t : LinkTag) (port op : Nat) : Bool :=
  match s.srcOf t with
  | none => false
  | some e =>
    let folds256 := decide (s.cfg = .tm256)
    if 3 ≤ op then false
    else if !t.tclass then (e.unapplied.takeWhile (fun q => q != (port, t.seq))).any fun q => q.1 == port
    else (List.range t.span).any fun i =>
      let q := t.seq - BitVec.ofNat 16 (i + 1)
      decide ((q - e.base).toNat < 1024) &&
        match e.recs.find? q.toNat with
        | none => !(folds256 && t.folds.contains q)
        | some r =>
          (decide (2 ≤ r.op ∧ r.op ≤ 4) || (r.op == 5 && !folds256 && decide (r.foldOp < 3))) && !r.applied

/-- An inbound request is dropped unanswered, and its state returns to EMPTY. -/
def State.forget (s : State) (o : Outst) : State :=
  let s := s.dropOutst o.id
  match o.link with
  | some t =>
    match s.srcOf t with
    | some e => s.onLinks fun l =>
        { l with srcs := l.srcs.set t.src { e with recs := e.recs.erase t.seq.toNat } }
    | none => s
  | none => s

/-- A request translated to a fold has not yet been answered at the fold unit (R283). -/
def State.foldBusy (s : State) (k : Nat) : Bool :=
  (s.folds.queues.get [] (k / 2048)).any (fun o => o.index == k % 2048) ||
    s.xbar.outst.any (fun o => o.plan == .fold k) ||
    s.links.held.any (fun h => h.op.cluster * 2048 + h.op.index == k)

/-- A DYING fold with nothing left to answer returns to FREE (R283). -/
def State.freeDying (s : State) (k : Nat) : State :=
  if (s.fold k).state = .dying ∧ ¬ s.foldBusy k then s.onFold k fun _ => {} else s

/-- An inbound fold operation is held, if its port's buffer has room (R304). -/
def State.holdFold (s : State) (o : Outst) (t : LinkTag) (op : FoldOp) : State :=
  let n := o.port - 56
  if 256 ≤ (s.links.held.filter (fun h => h.port == n)).length then
    (((s.forget o).freeDying (op.cluster * 2048 + op.index)).onLink n fun l =>
      { l with dropPend := satAdd 0xFFFF l.dropPend 1 }).linkEvent 3 t.chip n
  else
    let order := match s.srcOf t with
      | some e => (match e.recs.find? t.seq.toNat with | some r => r.order | none => 0)
      | none => 0
    (s.onOutst o.id fun e => { e with sent := true, accepted := true }).onLinks fun l =>
      { l with held := l.held ++
          [{ req := o.id, port := n, link := t, order := order, arrived := s.ns, op := op }] }

/-- The place of an operation among those that enter a fold unit's queue in one XCK (R266): data ports by initiator,
then commands and SIGNAL flags in acceptance order, then MARKs, then link arrivals by port. -/
def FoldOrigin.rank (o : FoldOrigin) (port : Nat) (link : Bool) : Nat :=
  match o with
  | .port _ => if link then 3 * 2 ^ 64 + port else port
  | .cmd token => 2 ^ 64 + token
  | .flag token => 2 ^ 64 + token
  | .mark _ _ => 2 * 2 ^ 64

/-- An operation in its place in a queue (R266). -/
def foldEntered (q : List FoldOp) (o : FoldOp) : List FoldOp :=
  q.filter (fun y => !(y.xck == o.xck && decide (o.rank < y.rank))) ++ [o] ++
    q.filter (fun y => y.xck == o.xck && decide (o.rank < y.rank))

/-- Put an operation into a fold unit's queue; a stopped cluster is woken (R265, R266, R368). -/
def State.foldPush (s : State) (o : FoldOp) : State :=
  (s.onFolds fun u =>
    { u with queues := u.queues.modify [] o.cluster (foldEntered · { o with xck := s.clock.xck }) }).wakeCluster
    o.cluster 1

/-- A request leaves the ingress. -/
def State.send (s : State) (o : Outst) : State :=
  let mark (s : State) (a : Bool) : State := s.onOutst o.id fun e => { e with sent := true, accepted := a }
  match o.plan with
  | .answer st => s.refuseReq o st
  | .pieces xs =>
    let s := (mark s false).onPort o.port fun p =>
      { p with pieces := if o.port = 64 then enter64 p.pieces (xs.map (fun x => { x with arrived := s.clock.xck })) o.cls
                         else p.pieces ++ xs.map (fun x => { x with arrived := s.clock.xck }) }
    match o.dest with
    | .clusters cs => cs.foldl (fun s c => s.wakeCluster c 1) s
    | _ => s
  | .fold k =>
    let op : FoldOp := { origin := .port o.id, op := payOp o.payload, value := payValue o.payload
                         cluster := k / 2048, index := k % 2048, ctx := o.ctx
                         rank := (FoldOrigin.port o.id).rank o.port o.link.isSome }
    let enter (s : State) : State := mark (s.foldPush op) (s.inRun (k / 2048))
    match o.link with
    | some t => if s.mustHold t (o.port - 56) op.op then s.holdFold o t op else enter s
    | none => enter s
  | .cmd => (mark s true).onCmd fun c => { c with arrived := c.arrived ++ [o.id] }
  | .fence => mark s true
  | .remote w =>
    match o.bound.or (s.addr.windows.find? w) with
    | some d =>
      (mark s true).onLinks fun l => { l with out := l.out ++ [outReqOf o w d s.ns] }
    | none => s.refuseReq o .decerr

/-- The parts of a range in rows of 128 bytes. -/
def rowParts (a len : Nat) : List (Nat × Nat) :=
  (List.range ((a % 128 + len + 127) / 128)).map fun i =>
    let lo := max a ((a / 128 + i) * 128)
    (lo, min (a + len) ((a / 128 + i + 1) * 128) - lo)

/-! ### Requests of initiator 64 (R61, R70, R136, R196) -/

/-- A request word of initiator 64, which has an order class for each kind of its work: 0 for scale lines and
entries, 1 for ring fetches and records, 2 for the Drover (log entry 39). -/
def reqWord (op cls addr len ctx view tag : Nat) : BitVec 128 :=
  BitVec.ofNat 128
    (op + cls * 2 ^ 4 + (len - 1) % 4096 * 2 ^ 8 + ctx * 2 ^ 20 + addr * 2 ^ 32 + view * 2 ^ 72 +
      tag % 1024 * 2 ^ 96)

/-- Initiator 64 may have one more request outstanding (R123). -/
def State.mayAsk (s : State) (read : Bool) : Bool :=
  if read then decide (s.readsOut 64 < readLimit 64) else decide (s.writesIn 64 < writeLimit 64)

/-- The context that initiator 64 presents lies in its range (R114). -/
def State.owns64 (s : State) (ctx : Nat) : Bool := (s.port 64).allows ctx

/-- A request of initiator 64 that fails R114 is counted. -/
def State.count64 (s : State) : State := s.countPerm 64

/-- A request of initiator 64 leaves its ingress; answers its number. -/
def State.ask (s : State) (o : Outst) : Nat × State :=
  (o.id, (s.onXbar fun x => { x with outst := x.outst ++ [o], nextReq := x.nextReq + 1 }).send o)

/-- A request of initiator 64 that the given pieces make up. -/
def State.pieceRequest (s : State) (word : BitVec 128) (xs : List Piece) : Outst :=
  { id := s.xbar.nextReq, port := 64, word := word, beats := xs.length, since := s.clock.xck, plan := .pieces xs
    dest := .clusters ((xs.map (fun x => x.cluster)).eraseDups), left := xs.length, total := xs.length }

/-- The pass-through pieces of a local range, one for each row; a write carries the bytes given. -/
def State.plainPieces (s : State) (kind : PieceKind) (cls a len : Nat) (data : List Byte) : List Piece :=
  (rowParts a len).zipIdx.filterMap fun q =>
    match s.locate q.1.1 with
    | some (bank, row, off) =>
      some { req := s.xbar.nextReq, port := 64, kind := kind, cls := cls, beat := q.2, cluster := bank / 16
             bank := bank, row := row, off := off, len := q.1.2, addr := q.1.1, lane := off, lanes := q.1.2
             data := BitVec.ofNat 1024 (ofBytes ((data.drop (q.1.1 - a)).take q.1.2) * 2 ^ (8 * off))
             strb := BitVec.allOnes 128 }
    | none => none

/-- Initiator 64 reads a local range, pass-through. -/
def State.askRead (s : State) (cls ctx a len : Nat) : Nat × State :=
  s.ask (s.pieceRequest (reqWord 1 cls a len ctx 0xFFFE 0) (s.plainPieces .rd cls a len []))

/-- Initiator 64 writes a local range, pass-through. -/
def State.askWrite (s : State) (cls ctx a : Nat) (data : List Byte) : Nat × State :=
  s.ask (s.pieceRequest (reqWord 2 cls a data.length ctx 0xFFFE 0) (s.plainPieces .wr cls a data.length data))

/-- The answers that have come for a request of initiator 64, once it has ended. -/
def State.asked (s : State) (req : Nat) : Option (List Resp) :=
  if (s.outst? req).isSome then none else some ((s.port 64).resp.filter (fun r => r.req == req))

/-- The answers have been taken. -/
def State.takeAnswers (s : State) (req : Nat) : State :=
  s.onPort 64 fun p => { p with resp := p.resp.filter (fun r => r.req != req) }

/-- The status other than OK, SPOIL or SATURATED with which a request failed. -/
def answerFault (rs : List Resp) : Option Status :=
  (rs.find? (fun r => !(r.status = .ok ∨ r.status = .spoil ∨ r.status = .saturated))).map (fun r => r.status)

/-- `n` bytes from address `a` out of the beats of a read, each with its mark. -/
def answerBytes (rs : List Resp) (a n : Nat) : List (Byte × Bool) :=
  (List.range n).map fun i =>
    match rs.find? (fun r => r.beat == (a + i) / 128 - a / 128) with
    | some r =>
      let lane := (a + i) % 128
      (BitVec.ofNat 8 (bytesAt r.data lane 1), bitOf r.spoil.toNat (lane / 32))
    | none => (0, true)

/-! ### Acceptance, in issue order -/

/-- Let go every request of a port that may leave the ingress now, in issue order. -/
def State.releaseFrom (s : State) : List Nat → State
  | [] => s
  | id :: rest =>
    match s.outst? id with
    | some o => (if !o.sent && s.sendable o then s.send o else s).releaseFrom rest
    | none => s.releaseFrom rest

/-- Let go the requests of a port. -/
def State.release (s : State) (p : Nat) : State :=
  s.releaseFrom ((s.outstOf p).map (fun o => o.id))

/-! ### Acceptance at the ingress -/

/-- The request at the head of a converter can be accepted at the ingress (R120, R121, R123, R67). -/
def State.headReady (s : State) (p : Nat) (w : BitVec 128) : Bool :=
  let op := rqOp w
  let hold := (s.port p).parityHold
  (if countsRead op then decide (s.readsOut p < readLimit p) else decide (s.writesIn p < writeLimit p)) &&
    (op != 1 || decide (s.readBeatsUsed p + s.beatsOf w ≤ readSpace p)) &&
    (!hasData op || (takeBeats (s.port p).wd).isSome) && (op != 7 || hold || !s.cmdWaits p)

/-- A request whose parity fails (R127). -/
def State.parityFault (s : State) (p : Nat) : State :=
  ((s.onPort p fun q => { q with parityHold := true, reqPar := satAdd 0xFF q.reqPar 1 }).onXbar fun x =>
    { x with irq := setBit x.irq 0, parSource := BitVec.ofNat 7 p, parKind := 0 }).report
    { code := 0x01, port := p }

/-- Accept the head of a converter at the ingress, if it can be. Its beats leave the write-data buffer here, though the
request may still wait at the ingress: R124 does not say when their space is free again.
DESIGN CHOICE (log entry 64). -/
def State.acceptHead (s : State) (p : Nat) : Option State :=
  match (s.port p).fifo with
  | [] => none
  | h :: rest =>
    let pop (s : State) : State := s.onPort p fun q => { q with fifo := rest }
    if !h.req.good then some ((pop s).parityFault p)
    else if !s.headReady p h.req.word then none
    else
      let (bs, wd) := match (if hasData (rqOp h.req.word) then takeBeats (s.port p).wd else none) with
        | some (x, y) => (x, y)
        | none => ([], (s.port p).wd)
      let s := (pop s).onPort p fun q => { q with wd := wd }
      let o : Outst :=
        { id := s.xbar.nextReq, port := p, word := h.req.word, link := h.link, wbeats := bs
          spoil := bs.any WBeat.fails
          beats := if rqOp h.req.word = 1 then s.beatsOf h.req.word else
            if hasData (rqOp h.req.word) then max 1 bs.length else 1
          since := s.clock.xck, plan := .fence, dest := .ingress }
      let (o, s) := s.plan o
      some ((s.onXbar fun x => { x with outst := x.outst ++ [o], nextReq := x.nextReq + 1 }).release p)

/-- Accept what a converter can send into the ingress. -/
def State.pumpN (s : State) (p : Nat) : Nat → State
  | 0 => s
  | n + 1 =>
    match s.acceptHead p with
    | some s => s.pumpN p n
    | none => s

/-- Requests can leave the ingress or enter it: called wherever something has changed for a port. -/
def State.pump (s : State) (p : Nat) : State :=
  if s.ready then (s.release p).pumpN p 33 else s

/-- The same for every port that has requests. -/
def State.pumpAll (s : State) : State :=
  (s.xbar.ports.map Prod.fst).foldl (fun s p => s.pump p) s

/-- Room in the request FIFO: what has been transferred and has not left the ingress (R124). -/
def State.fifoRoom (s : State) (p : Nat) : Bool :=
  decide ((s.port p).fifo.length + ((s.outstOf p).filter (fun o => !o.sent)).length < fifoSize p)

/-- A request crosses the request channel of a port. -/
def State.offer (s : State) (p : Nat) (q : Queued) : State :=
  (s.onPort p fun x => { x with fifo := x.fifo ++ [q] }).pump p

/-- A write-data beat enters a converter; its parity is judged (R106, R121, R128, R468). -/
def State.takeBeat (s : State) (p : Nat) (b : WBeat) : State :=
  let s := s.onPort p fun q => { q with wd := q.wd ++ [b] }
  if b.fails then
    ((s.onPort p fun q => { q with wdPar := satAdd 0xFF q.wdPar 1 }).onXbar fun x =>
      { x with irq := setBit x.irq 1, parSource := BitVec.ofNat 7 p, parKind := 1 }).report
      { code := 0x02, port := p }
  else s

/-- A port at which a request or a beat can be presented: the hardware is ready, the port is used and its own clock runs.
Its converter takes what comes while the derived clocks stand (R38, R40, R102). -/
def State.portOpen (s : State) (p : Nat) : Bool :=
  s.integ.postDone && s.portPresent p && !s.pins.clockStopped.get false p

/-- The request at the head of a converter would pass a limit of R123 (PORT_STATE.REQ_HELD). -/
def State.reqHeld (s : State) (p : Nat) : Bool :=
  match (s.port p).fifo with
  | q :: _ =>
    if countsRead (rqOp q.req.word) then decide (readLimit p ≤ s.readsOut p) else decide (writeLimit p ≤ s.writesIn p)
  | [] => false

/-- REQ_READY of a port: its request FIFO has room, its head is not held, and no PORT_RESET runs (R123, R124, R132). -/
def State.takesRequest (s : State) (p : Nat) : Bool :=
  s.portOpen p && s.fifoRoom p && !s.reqHeld p && decide ((s.port p).resetting = none)

/-- A port whose channels can move: it is used, its clock runs, the block is ready (R38, R102). -/
def State.portLive (s : State) (p : Nat) : Bool :=
  s.ready && s.portPresent p && !s.pins.clockStopped.get false p

end Sys2Proof.Machine
end

