-- ==== Sys2Proof/Machine/Regulate.lean ====
section
/-!
DEFINITION. The regulator and the toll governor as the arbitration and the grants use them:
guarantees, shares, effective priority, tolls, levels (06_regulation_budget.md, R153 to R174).
-/

namespace Sys2Proof.Machine

/-! ### Guarantee records (Table 6-1) -/

/-- ID. -/
def guId (g : BitVec 256) : Nat := word g 0 0 16
/-- SIDE: 1 read, 2 write, 3 both. -/
def guSide (g : BitVec 256) : Nat := word g 0 16 2
/-- INIT. -/
def guInit (g : BitVec 256) : Nat := word g 0 18 7
/-- RATE. -/
def guRate (g : BitVec 256) : Nat := word g 1 0 32
/-- TARGET_RD. -/
def guTgtRd (g : BitVec 256) : Nat := word g 2 0 16
/-- TARGET_WR. -/
def guTgtWr (g : BitVec 256) : Nat := word g 2 16 16
/-- The sub-port mask. -/
def guMask (g : BitVec 256) : Nat := bitsOf g.toNat 96 64
/-- QRES. -/
def guQres (g : BitVec 256) : Nat := word g 5 0 4
/-- WRES. -/
def guWres (g : BitVec 256) : Nat := word g 5 8 3
/-- The record names the read side, or the write side. -/
def guNames (g : BitVec 256) (read : Bool) : Bool := bitOf (guSide g) (if read then 0 else 1)
/-- A share-only guarantee (R164). -/
def guShareOnly (g : BitVec 256) : Bool := guMask g == 0
/-- The target of a side. -/
def guTgt (g : BitVec 256) (read : Bool) : Nat := if read then guTgtRd g else guTgtWr g

/-- A step of the shedding order is shed. -/
def Gov.sheds (g : Gov) (x : ShedStep) : Bool := g.shed.contains x

/-- The admitted records of an initiator. -/
def State.recordsOf (s : State) (p : Nat) : List (BitVec 256) :=
  s.gov.guarantees.filter (fun g => guInit g == p)

/-- RES.QRES of an initiator (Table 6-10). -/
def State.qres (s : State) (p : Nat) : Nat := ((s.recordsOf p).map guQres).sum
/-- RES.WRES of an initiator. -/
def State.wres (s : State) (p : Nat) : Nat := ((s.recordsOf p).map guWres).sum
/-- RES.LAT_GUAR: an admitted record sets a target. -/
def State.latGuar (s : State) (p : Nat) : Bool :=
  (s.recordsOf p).any (fun g => guTgtRd g != 0 || guTgtWr g != 0)

/-- A reserve in force: none while shares are shed (R155, R177). -/
def State.inForce (s : State) (r : Nat) : Nat := if s.gov.sheds .shares then 0 else r

/-! ### Tolls (Table 6-3) -/

/-- A toll at the operating point in force. -/
def State.toll (s : State) (nominal economy : Nat) : Nat := if s.power.eco then economy else nominal

/-- Crossbar beat, array row read, array row write, merge read. -/
def State.tollArray (s : State) : Nat := s.toll 92 69
/-- Dequantisation of a beat, quantisation of a row. -/
def State.tollConvert (s : State) : Nat := s.toll 20 15
/-- Accumulation of a row. -/
def State.tollAcc (s : State) : Nat := s.toll 40 30
/-- TOLL_RD_MAX. -/
def State.tollRdMax (s : State) : Nat := s.toll 204 153
/-- TOLL_WR_MAX. -/
def State.tollWrMax (s : State) : Nat := s.toll 336 252

/-- The allowance A of a share-only record (R170). -/
def State.allowance (s : State) (g : BitVec 256) : Nat :=
  let units := (guRate g + 127) / 128
  if guSide g = 1 then units * s.tollRdMax
  else if guSide g = 2 then units * s.tollWrMax
  else 2 * (units * s.tollWrMax)

/-- Q: what guarantees that are not shed may spend (R174, R177). -/
def Gov.q (g : Gov) : Nat :=
  (if g.sheds .shares then 0 else g.qShare) + (if g.sheds .stalls then 0 else g.qStall)

/-- Move up the ladder of R174 as the block spend stands; the decisions of this XCK go by the level before (R154).
Nothing happens before the first window. Where TB − Q lies below 3/4 TB, IDLE is reached first: its floors and LEAN's
apply at once, and the LEAN flag is not set in that window, of which the manual says nothing.
DESIGN CHOICE (log entry 64). -/
def State.climb (s : State) : State :=
  let g := s.gov
  if g.windows = 0 then s
  else
    let s := if g.level = .normal ∧ 3 * g.tb ≤ 4 * g.spend then
        (s.onGov fun g => { g with level := .lean }).govFlag 4 else s
    if g.level ≠ .idle ∧ (g.tb : Int) - g.q ≤ g.spend then
      (s.onGov fun g => { g with level := .idle }).govFlag 5
    else s

/-- Charge tolls to an initiator and a cluster (R170, R171). -/
def State.charge (s : State) (p c tolls : Nat) : State :=
  ((s.onGov fun g =>
    { g with spend := g.spend + tolls
             clusterSpend := g.clusterSpend.modify 0 c (· + tolls) }).onPort p fun q =>
    { q with tollSpent := q.tollSpent + tolls }).climb

/-- Count 128 B against a byte budget (R163). -/
def State.countBytes (s : State) (p : Nat) : State := s.onPort p fun q => { q with bytes := q.bytes + 128 }

/-! ### Effective priority (R153 to R162) -/

/-- The byte budget of the window has been passed (R163): `budget` counts 128 B units. -/
def Port.demoted (p : Port) : Bool := p.budget != 0 && decide (p.budget * 128 < p.bytes)

/-- Over the toll share (R174). -/
def State.overShare (s : State) (p : Nat) : Bool :=
  decide ((s.port p).tollShare * s.gov.tb < (s.port p).tollSpent * 256)

/-- Exempt from LEAN (R174, R177). -/
def State.latencyExempt (s : State) (p : Nat) : Bool := s.latGuar p && !s.gov.sheds .latency

/-- The governor is at LEAN or beyond it. -/
def State.lean (s : State) : Bool := decide (s.gov.level ≠ .normal)

/-- The bellwether line of a stream port. -/
def State.bell (s : State) (n : Nat) : Bell := s.gov.bells.get {} n

/-- urgency_step (R159). -/
def State.urgency (s : State) (p : Nat) : Nat :=
  if 48 ≤ p ∧ p < 56 then
    let b := s.bell (p - 48)
    bitsOf b.steps.toNat (4 * b.level) 4
  else 0

/-- latency_boost (R161): a sample presented in XCK t affects the decision of XCK t + 2 first, so the averages are those
of the XCK before. -/
def State.boost (s : State) (q : Port) (read : Bool) : Nat :=
  let t := if read then q.tgtRd else q.tgtWr
  match (if read then q.ewmaRdPrev else q.ewmaWrPrev) with
  | none => 0
  | some e =>
    if t = 0 ∨ s.gov.sheds .latency then 0
    else if t * 256 ≤ e then q.b100
    else if 9 * (t * 256) ≤ 10 * e then q.b90
    else if 3 * (t * 256) ≤ 4 * e then q.b75
    else 0

/-- Pieces that IDLE leaves eligible for steps 2 to 4 (R174). -/
def State.idleExempt (s : State) (p : Nat) : Bool :=
  !s.gov.sheds .shares &&
    (s.recordsOf p).any (fun g => guShareOnly g && decide ((s.port p).tollSpent < s.allowance g))

/-- Initiator `p` is at the floor (R153). -/
def State.atFloor (s : State) (p : Nat) : Bool :=
  (s.port p).demoted || (s.lean && s.overShare p && !s.latencyExempt p)

/-- The inputs to the decisions of the next XCK, as they stand now (R154, R161, R163, R174). -/
def State.seenOf (s : State) (p : Nat) (q : Port) : Seen :=
  { prio := q.prio, step := s.urgency p, boostRd := s.boost q true, boostWr := s.boost q false
    floor := s.atFloor p, free := decide (s.gov.level ≠ .idle) || s.idleExempt p }

/-- The initiators that are present and not listed yet, whose inputs are other than those of an untouched one, are
listed: IDLE holds every initiator (R174, R181). -/
def State.touchPorts (s : State) : State :=
  ((List.range 65).filter fun p =>
    s.cfg.hasInitiator p && (s.xbar.ports.find? p).isNone && s.seenOf p {} != {}).foldl
      (fun s p => s.onPort p id) s

/-- The end of an XCK: what the decisions of the next go by is taken from the state as it stands (R154, R161). -/
def State.see (s : State) : State :=
  s.touchPorts.onXbar fun x => { x with ports := x.ports.map fun e =>
    (e.1, { e.2 with seen := s.seenOf e.1 e.2, ewmaRdPrev := e.2.ewmaRd, ewmaWrPrev := e.2.ewmaWr }) }

/-- effective_priority (R153), from the inputs at the end of the last XCK (R154). -/
def State.priority (s : State) (p c : Nat) (read : Bool) : Nat :=
  let k := (s.port p).seen
  if k.floor then 0
  else 1 + min (bitsOf k.prio.toNat (4 * c) 4 + k.step + (if read then k.boostRd else k.boostWr)) 30

/-- Steps 2 to 4 may grant a piece of this initiator (R154, R174). -/
def State.freeEligible (s : State) (p : Nat) : Bool := (s.port p).seen.free

/-- BURST_M1 as the decisions of an XCK take it (R141). -/
def Port.burst (p : Port) (t : Nat) : BitVec 6 := if p.burstAt = t + 1 then p.burstOld else p.burstM1

/-! ### Shares (R155, R156) -/

/-- The rule of R155 for a buffer of `size` entries held by the initiators `held`: may one more of
initiator `p` enter, given each initiator's reserve and the cap of `p`. -/
def shareRule (size : Nat) (held : List Nat) (reserved : List Nat) (res : Nat → Nat) (p cap : Nat) :
    Bool :=
  let occ (q : Nat) : Nat := held.countP (· == q)
  let used := (((held ++ reserved).eraseDups).map (fun q => max (occ q) (res q))).sum
  (decide (occ p < res p) && decide (held.length < size)) ||
    (decide (res p ≤ occ p) && decide (occ p < cap) && decide (used < size))

/-- Initiators that hold admitted guarantees. -/
def State.guaranteed (s : State) : List Nat := (s.gov.guarantees.map guInit).eraseDups

/-- A piece of `p` may enter the queue of a sub-port (R155). -/
def State.queueTakes (s : State) (n p : Nat) : Bool :=
  shareRule 32 ((s.sub n).queue.map (fun x => x.port)) s.guaranteed (fun q => s.inForce (s.qres q)) p
    (s.port p).qcap

/-- A write of `p` may enter the write buffer of a bank (R29, R156, R351). -/
def State.bufferTakes (s : State) (bank p : Nat) : Bool :=
  !s.closing bank && shareRule 16 ((s.bankq bank).wbuf.map (fun x => x.piece.port)) s.guaranteed
    (fun q => s.inForce (s.wres q)) p (s.port p).wcap

end Sys2Proof.Machine
end

