-- ==== Sys2Proof/Machine/Record.lean ====
section
/-!
DEFINITION. Populations and their neuron records as the banks work on them: the descriptor, a contribution to
an input, a record stepped, what a STEP emits (08_accumulate_events.md, R240, R245, R246, R249, R251, R252).
-/

namespace Sys2Proof.Machine

/-! ### The population descriptor (Table 8-3) -/

/-- CLUSTER. -/
def popCluster (d : BitVec 512) : Nat := word d 0 16 3
/-- RESET: by subtraction. -/
def popSubtract (d : BitVec 512) : Bool := wordBit d 0 19
/-- N. -/
def popN (d : BitVec 512) : Nat := word d 1 0 20 + 1
/-- STATE_BASE. -/
def popState (d : BitVec 512) : Nat := word d 2 0 28
/-- DIR_BASE. -/
def popDir (d : BitVec 512) : Nat := word d 3 0 28
/-- DIR_COUNT. -/
def popDirCount (d : BitVec 512) : Nat := word d 4 0 24
/-- SYN_BASE. -/
def popSyn (d : BitVec 512) : Nat := word d 5 0 28
/-- WEIGHT_VIEW. -/
def popView (d : BitVec 512) : Nat := word d 6 0 12
/-- WEIGHT_BASE. -/
def popWeight (d : BitVec 512) : Nat := word d 7 0 28
/-- DECAY. -/
def popDecay (d : BitVec 512) : Nat := word d 8 0 16
/-- REFRACTORY. -/
def popRefractory (d : BitVec 512) : Nat := word d 8 16 16
/-- THRESHOLD. -/
def popThreshold (d : BitVec 512) : Int := (BitVec.ofNat 32 (word d 9 0 32)).toInt
/-- SYN_COUNT. -/
def popSynCount (d : BitVec 512) : Nat := word d 11 0 24

/-- Rows of the state range (R236, R246). -/
def popRows (d : BitVec 512) : Nat := (popN d * 16 + 127) / 128

/-- Bytes that hold a number of weights of a format (R243). -/
def weightBytes (fmt n : Nat) : Nat := if storeBits fmt = 4 then (n + 1) / 2 else n

/-- Change a counter of a population that saturates at 32 bits (R255). -/
def count1 (n : Nat) : Nat := satAdd 0xFFFFFFFF n 1

/-! ### Tainting (R249) -/

/-- The event engine consumes a spoil mark for a population. -/
def State.taint (s : State) (pop : Nat) : State :=
  match s.pop? pop with
  | some p =>
    let c := popCluster p.desc
    ((s.onPop pop fun p => { p with tainted := true }).evEvent 3 pop c).report
      { code := 0x13, cluster := c, detail := some (BitVec.ofNat 32 pop) }
  | none => s

/-- The STEP of a population that runs. -/
def State.stepRun? (s : State) (pop : Nat) : Option StepRun := s.eng.steps.find? (fun r => r.pop == pop)

/-- Change a STEP that runs. -/
def State.onStep (s : State) (pop : Nat) (f : StepRun → StepRun) : State :=
  s.onEng fun e => { e with steps := e.steps.map (fun r => if r.pop = pop then f r else r) }

/-! ### A record stepped (R251) -/

/-- A signed 32-bit field. -/
def int32 (n : Nat) : Int := (BitVec.ofNat 32 n).toInt

/-- The 32-bit code of an integer. -/
def code32 (i : Int) : Nat := (BitVec.ofInt 32 i).toNat

/-- clamp32 (R251). -/
def clamp32 (i : Int) : Int := max (-(2 ^ 31)) (min (2 ^ 31 - 1) i)

/-- What stepping a record gives: the record, the emitted v, and whether the membrane saturated. -/
structure Stepped where
  record : Nat
  spike : Option Int := none
  sat : Bool := false
deriving DecidableEq, Repr

/-- step_neuron (R251) on a record of 16 bytes (Table 8-4). -/
def stepNeuron (d : BitVec 512) (s : BitVec 32) (r : Nat) : Stepped :=
  let k := s.toNat % 2
  let flags := bitsOf r 112 16
  let r1 := putBits r (32 + 32 * k) 32 0
  if bitOf flags 2 then { record := putBits r1 112 1 0 }
  else
    let inp := int32 (bitsOf r (32 + 32 * k) 32)
    let m := (int32 (bitsOf r 0 32) * popDecay d + 0x8000) / 65536
    let refract := bitsOf r 96 16
    if 0 < refract then
      { record := putBits (putBits (putBits r1 0 32 (code32 m)) 96 16 (refract - 1)) 112 1 0 }
    else
      let v := clamp32 (m + inp)
      let sat := decide (v ≠ m + inp)
      let r2 := if sat then putBits r1 113 1 1 else r1
      if popThreshold d ≤ v then
        let m' := if popSubtract d then clamp32 (v - popThreshold d) else 0
        { record := putBits (putBits (putBits r2 0 32 (code32 m')) 96 16 (popRefractory d)) 112 1 1
          spike := some v, sat := sat }
      else { record := putBits (putBits r2 0 32 (code32 v)) 112 1 0, sat := sat }

/-- The event that a spike emits (R252). -/
def spikeEvent (p : Pop) (r : StepRun) (n : Nat) (v : Int) : BitVec 128 :=
  let value :=
    if r.route.graded then (fmtBF16.port (Num.ofRat (((v - popThreshold p.desc : Int) : Rat) / 65536))).1
    else 1
  BitVec.ofNat 128
    (r.route.dest.toNat + bit r.route.graded * 2 ^ 14 + bit p.tainted * 2 ^ 15 + value * 2 ^ 16 +
      n * 2 ^ 32 + (r.tag + 1).toNat * 2 ^ 64)

/-! ### What a STEP emits (R238, R252) -/

/-- Events that wait in a dispatcher go to the egress FIFO of their V port as far as it has room; those routed to an
unusable port are discarded (R347). -/
def State.emitFrom (s : State) (c : Nat) (full : List Nat) : List (Nat × OutEvent) → List (Nat × OutEvent) × State
  | [] => ([], s)
  | (v, o) :: t =>
    if bitOf s.eng.unusable.toNat v then
      (((s.onEng fun e => { e with dropBad := e.dropBad.modify 0 v (satAdd 0xFFFF · 1)
                                   steps := e.steps.map (fun r =>
                                     if r.token = o.token then { r with inFlight := r.inFlight - 1 } else r) })).emitFrom
        c full t)
    else if full.contains v ∨ 16 ≤ ((s.disp c).egress.get [] v).length then
      let (l, s) := s.emitFrom c (v :: full) t
      ((v, o) :: l, s)
    else (s.onDisp c fun d => { d with egress := d.egress.modify [] v (· ++ [o]) }).emitFrom c full t

/-- A dispatcher puts out what it can. -/
def State.emitAll (s : State) (c : Nat) : State :=
  let (l, s) := s.emitFrom c [] (s.disp c).out
  s.onDisp c fun d => { d with out := l }

/-- The events of the rows of a STEP that have been written leave in ascending order of their neurons (R252). -/
def State.emitRows (s : State) (c pop : Nat) : Nat → State
  | 0 => s
  | n + 1 =>
    match s.stepRun? pop with
    | some r =>
      match r.made.find? r.next with
      | some ws =>
        let s := s.onStep pop fun r =>
          { r with next := r.next + 1, made := r.made.erase r.next, inFlight := r.inFlight + ws.length }
        (s.onDisp c fun d =>
          { d with out := d.out ++ ws.map (fun w => (r.route.vport.toNat, { word := w, token := r.token })) })
          |>.emitRows c pop n
      | none => s
    | none => s

/-- A row of a STEP has been written: its spikes and saturations are counted, its events wait for their turn. -/
def State.stepWritten (s : State) (pop row : Nat) (p : Pop) (spikes : List (Nat × Int)) (sats : Nat) : State :=
  let c := popCluster p.desc
  let s := s.onStep pop fun r =>
    { r with left := r.left - 1, spikes := r.spikes + spikes.length, memSat := satAdd 0xFFFFFFFF r.memSat sats
             made := r.made.set row (if r.route.en then spikes.map (fun e => spikeEvent p r e.1 e.2) else []) }
  (s.emitRows c pop 65).emitAll c

/-! ### Rows of records at their bank (R245, R251) -/

/-- What a row of records becomes: the data and the mark of each granule that is written, with what is counted. -/
structure RowMade where
  stores : List (Nat × BitVec 256 × Bool) := []
  adds : Nat := 0
  wraps : Nat := 0
  spikes : List (Nat × Int) := []
  sats : Nat := 0
  marked : List Nat := []
deriving DecidableEq, Repr

/-- Contributions that are pending together, summed modulo 2^32 for each word (R245). -/
def summed (parts : List (Nat × Int)) : List (Nat × Int) :=
  (parts.map Prod.fst).eraseDups.map fun i =>
    (i, int32 (code32 ((parts.filter (fun q => q.1 == i)).map Prod.snd).sum))

/-- One add to a word of a granule, modulo 2^32, with the wraps so far (R245). -/
def addWord (a : BitVec 256 × Nat) (q : Nat × Int) : BitVec 256 × Nat :=
  let o := int32 (bytesAt a.1 (4 * (q.1 % 8)) 4)
  (setBytes a.1 (4 * (q.1 % 8)) 4 (code32 (o + q.2)), a.2 + bit (decide (int32 (code32 (o + q.2)) ≠ o + q.2)))

/-- Contributions are added to a granule of a row (R245); a spoiled one stays spoiled (R323). -/
def addGranule (oneByOne : Bool) (parts : List (Nat × Int)) (g : Nat) (old : BitVec 256 × Bool) (m : RowMade) : RowMade :=
  let mine := parts.filter (fun q => q.1 / 8 == g)
  if mine = [] then m
  else if old.2 then { m with stores := m.stores ++ [(g, 0, true)], marked := m.marked ++ [g] }
  else
    let (d, w) := (if oneByOne then mine else summed mine).foldl addWord (old.1, 0)
    { m with stores := m.stores ++ [(g, d, false)], adds := m.adds + mine.length, wraps := m.wraps + w }

/-- The records of a granule are stepped, as far as the population has them; a marked granule is left as it is. -/
def stepGranule (p : Pop) (tag : BitVec 32) (n0 g : Nat) (old : BitVec 256 × Bool) (m : RowMade) : RowMade :=
  let n := n0 + 2 * g
  if popN p.desc ≤ n then m
  else if old.2 then { m with marked := m.marked ++ [g] }
  else
    let ns := (List.range 2).filter (fun i => decide (n + i < popN p.desc))
    let outs := ns.map (fun i => (i, stepNeuron p.desc tag (bytesAt old.1 (16 * i) 16)))
    let data := outs.foldl (fun w o => setBytes w (16 * o.1) 16 o.2.record) old.1
    { m with stores := m.stores ++ [(g, data, false)]
             spikes := m.spikes ++ outs.filterMap (fun o => o.2.spike.map (fun v => (n + o.1, v)))
             sats := m.sats + (outs.filter (fun o => o.2.sat)).length }

/-- What a row becomes under a function of its granules. -/
def rowMade (f : Nat → BitVec 256 × Bool → RowMade → RowMade) (old : List (BitVec 256 × Bool)) : RowMade :=
  (List.range 4).foldl (fun m g => f g (old.getD g (0, false)) m) {}

/-- What contributions to a row have counted (R245, R255). -/
def State.noteAdds (s : State) (pop bank : Nat) (m : RowMade) : State :=
  let s := m.marked.foldl (fun s _ => s.onBank bank fun b => { b with mergeSpoil := satAdd 0xFFFF b.mergeSpoil 1 }) s
  let s := s.onPop pop fun p =>
    { p with contrib := satAdd 0xFFFFFFFF p.contrib m.adds, wraps := satAdd 0xFFFFFFFF p.wraps m.wraps }
  if 0 < m.wraps then s.evEvent 6 pop (bank / 16) else s

/-- What a STEP that reads a row finds: marks taint, and are reported in a region with SAFETY = 1 (R249, R327). -/
def State.noteStep (s : State) (pop addr bank row : Nat) (m : RowMade) : State :=
  m.marked.foldl (fun s g =>
    let s := match s.regionAt (addr + 32 * g) with
      | some (_, q) => if q.safety then
          s.report { code := 0x11, cluster := bank / 16, bank := bank % 16, port := 64
                     detail := some (faultPlace row g) } else s
      | none => s
    s.taint pop) s

end Sys2Proof.Machine
end

