-- ==== Sys2Proof/Machine/Arbiter.lean ====
section
/-!
DEFINITION. Sub-port queues and the grant decisions (R116, R117, R126, R136 to R148, R155).
-/

namespace Sys2Proof.Machine

/-! ### Pieces -/

/-- A piece that only reads. -/
def Piece.reads (x : Piece) : Bool := x.kind == .rd

/-- A piece that writes no granule that R117 orders: a read, or the row of an evacuation (R349). -/
def Piece.looks (x : Piece) : Bool := x.kind == .rd || x.kind == .evac

/-- First and last granule that a piece touches in its row. -/
def Piece.g0 (x : Piece) : Nat := x.off / 32
/-- Last granule. -/
def Piece.g1 (x : Piece) : Nat := (x.off + x.len - 1) / 32

/-- Two pieces touch a common granule and one of them writes (R117). -/
def Piece.conflicts (x y : Piece) : Bool :=
  x.bank == y.bank && x.row == y.row && decide (x.g0 ≤ y.g1) && decide (y.g0 ≤ x.g1) &&
    !(x.looks && y.looks)

/-- The bits of the row from and to which a write piece writes, if it writes them all. -/
def Piece.bitSpan (x : Piece) : Nat × Nat :=
  match x.view with
  | some b =>
    if chunked b.desc then
      (x.off * 8, x.off * 8 + x.lanes / portBytes (viewPort b.desc) * storeBits (viewStore b.desc))
    else (x.off * 8, (x.off + x.len) * 8)
  | none => (x.off * 8, (x.off + x.len) * 8)

/-- A write piece that needs a merge read (R139): WRM, ACC, the event engine's pieces, part of a granule. -/
def Piece.needsMerge (x : Piece) : Bool :=
  match x.kind with
  | .rd => false
  | .wr => x.bitSpan.1 % 256 != 0 || x.bitSpan.2 % 256 != 0
  | .wrm => true
  | .acc => true
  | .add => true
  | .step => true
  | .fill => false
  | .evac => false
  | .entry => bitsOf x.strb.toNat x.off 32 != 2 ^ 32 - 1

/-- The entry whose merge read is due: the oldest that needs one and has had none, if it is the head
of the write buffer or directly behind it, and no read-modify-write holds its row (R28, R139). -/
def mergeDue (w : List WEntry) : Option Nat :=
  let needs (e : WEntry) : Bool := e.piece.needsMerge && e.merge.isNone
  match w with
  | [] => none
  | h :: t =>
    if needs h then some 0
    else
      match t with
      | [] => none
      | n :: _ =>
        if needs n && !(h.merge.isSome && h.piece.row == n.piece.row) then some 1 else none

/-- A row of a bank is held by a read-modify-write (R28). -/
def BankQueue.holdsRow (q : BankQueue) (row : Nat) : Bool :=
  q.wbuf.any (fun e => e.merge.isSome && e.piece.row == row)

/-- BCK of the moment: two XCK (R35). -/
def State.bck (s : State) : Nat := s.clock.xck / 2

/-- The BCK from a merge read to its write slot: one, two for an INT64 accumulation (R28, R227). -/
def Piece.holdBck (x : Piece) : Nat :=
  match x.kind, x.view with
  | .acc, some b => if viewAcc b.desc = 2 then 2 else 1
  | _, _ => 1

/-- The BCK in which an entry that holds its row uses its write slot, as BCK `n` sees it. -/
def WEntry.release (e : WEntry) (n : Nat) : Nat := max (e.mergedAt + e.piece.holdBck) n

/-- The reads of a row that wait, if its holder's write slot is in BCK `w` (R28). -/
def BankQueue.waiters (q : BankQueue) (row w : Nat) : Nat :=
  q.reads.countP (fun x => x.row == row && decide (x.slot / 2 ≤ w))

/-- The read slot of BCK `b` is withheld for a read that waits or has waited for a held row, as BCK `n` sees it
(R28). -/
def BankQueue.withholds (q : BankQueue) (n b : Nat) : Bool :=
  (decide (q.heldFrom < b) && decide (b ≤ q.heldTo)) ||
    q.wbuf.any fun e => e.merge.isSome &&
      decide (e.release n < b) && decide (b ≤ e.release n + q.waiters e.piece.row (e.release n))

/-- The read slot of BCK `b` is left to items 2 and 3 of R139: not used, not issued to a read, not withheld. A read
comes before the write of its BCK (R27). -/
def BankQueue.readLeft (q : BankQueue) (n b : Nat) : Bool :=
  decide (q.readBck ≤ b) && decide (q.writeBck ≤ b) && !q.reads.any (fun x => x.slot / 2 == b) && !q.withholds n b

/-- The read slot of the BCK is left to items 2 and 3 of R139 now: the grants that can still use it have been decided,
which for the odd bank of a sub-port is so in phase 1 (R30, R137). -/
def State.readOpen (s : State) (bank : Nat) : Bool :=
  decide (bank % 2 ≤ s.clock.xck % 2) && (s.bankq bank).readLeft s.bck s.bck

/-- An access that the block makes at once takes the next read slot, the next write slot, or one of each, that none has
taken yet: the write slot in a later BCK than the read (R27, R28). -/
def BankQueue.take (q : BankQueue) (read write : Bool) (n : Nat) : BankQueue :=
  let r := if read then max q.readBck n + 1 else q.readBck
  { q with readBck := r
           writeBck := if write then max q.writeBck (if read then r else n) + 1 else q.writeBck }

/-- A row of a bank is accessed at once, in slots of its own (R27; log entry 60). -/
def State.takeSlots (s : State) (bank : Nat) (read write : Bool) : State :=
  s.onBankq bank fun q => q.take read write s.bck

/-- The number of slots that item 2 of R139 waits for: a merge read that is due, the granted row of an evacuation
(R349). -/
def BankQueue.wanted (q : BankQueue) : Nat :=
  bit (mergeDue q.wbuf).isSome +
    bit (match q.copy with | some x => !q.holdsRow x.row | none => false)

/-- A merge read, or a row of an evacuation, is pending for the read slot of BCK `b` (R139, R349): it would take
that slot if no more reads were granted. -/
def BankQueue.pendingFor (q : BankQueue) (n b : Nat) : Bool :=
  ((((List.range 24).map (n + ·)).filter (q.readLeft n)).take q.wanted).contains b

/-! ### Entering the queue (R155) -/

/-- The park initiator of a sub-port (R126). -/
def SubPort.park (u : SubPort) : Nat := if u.parkEn then u.parkInit.toNat else u.lastInit

/-- The pointer with which the park initiator wins the next tie (R126). -/
def SubPort.parked (u : SubPort) : SubPort :=
  let r := (u.park + 64) % 65
  { u with rd := { u.rd with rr := r }, wr := { u.wr with rr := r } }

/-- The first piece of port `p` on the path to a cluster. -/
def firstPiece (xs : List Piece) (c : Nat) : Option Piece := xs.find? (fun x => x.cluster == c)

/-- A request whose last piece has been accepted is accepted (R115). -/
def State.noteAccepted (s : State) (id : Nat) : State :=
  if s.xbar.ports.any (fun e => e.2.pieces.any (fun x => x.req == id && x.kind != .entry)) then s
  else s.onOutst id fun o => { o with accepted := true }

/-- The piece that waits at the entry to the queue of sub-port `n` from port `p`: the first on its path to that
cluster (R115). The dispatcher of cluster c stands as number 65 + c: its pieces reach each queue directly (R245). -/
def State.atQueue (s : State) (p n : Nat) : Option Piece :=
  if p < 65 then
    match firstPiece (s.port p).pieces (n / 8) with
    | some x => if x.bank / 2 = n then some x else none
    | none => none
  else (s.port p).pieces.find? (fun x => x.bank / 2 == n)

/-- A piece enters the reserve of its initiator (R155). -/
def State.inReserve (s : State) (n : Nat) (x : Piece) : Bool :=
  decide ((s.sub n).queue.countP (fun y => y.port == x.port) < s.inForce (s.qres x.port))

/-- `x` is accepted ahead of `y`: reserves first, then the order of arrival, then the lower initiator, then the
lower class (R155; the order of arrival is read as holding among reserves too: DEDUCED, log entry 39). -/
def State.aheadOf (s : State) (n : Nat) (x y : Piece) : Bool :=
  let a := s.inReserve n x
  let b := s.inReserve n y
  (a && !b) || (a == b &&
    (decide (x.arrived < y.arrived) || (x.arrived == y.arrived &&
      (decide (x.port < y.port) || (x.port == y.port && decide (x.cls < y.cls))))))

/-- No piece that could enter the queue now goes ahead of `x`. -/
def State.firstIn (s : State) (n : Nat) (x : Piece) : Bool :=
  s.xbar.ports.all fun e =>
    match s.atQueue e.1 n with
    | some y => !(s.queueTakes n y.port && s.aheadOf n y x)
    | none => true

/-- The next piece of port `p` enters the queue of sub-port `n`, if it is for that sub-port, its share has room and
no other goes first (R155). -/
def State.enterQueue (s : State) (p n : Nat) : State :=
  let u := s.sub n
  match s.atQueue p n with
  | some x =>
    if s.inRun (n / 8) ∧ ¬ u.unusable ∧ s.queueTakes n x.port ∧ s.firstIn n x ∧
        (u.acceptXck ≠ s.clock.xck ∨ u.acceptNum < 4) then
      let x' := { x with queuedAt := s.clock.xck, seq := s.xbar.nextSeq }
      let s := s.onPort p fun q => { q with pieces := q.pieces.erase x }
      let s := s.onSub n fun u =>
        let u := if u.queue.isEmpty then u.parked else u
        { u with queue := u.queue ++ [x'], acceptXck := s.clock.xck
                 acceptNum := if u.acceptXck = s.clock.xck then u.acceptNum + 1 else 1 }
      let s := s.onXbar fun q => { q with nextSeq := q.nextSeq + 1 }
      let s := if x.kind = .entry then s else s.noteAccepted x.req
      match s.outst? x.req with
      | some o => s.pump o.port
      | none => s
    else s
  | none => s

/-! ### The decision (R137 to R143) -/

/-- The copy that is active in an XCK, and its T0: the shadow from the XCK of a pending swap on (R144, R147). -/
def SubPort.applied (u : SubPort) (t : Nat) : StallCopy × Nat :=
  match u.swapAt with
  | some (x, _) => if x ≤ t then (u.shd, x) else (u.act, u.t0)
  | none => (u.act, u.t0)

/-- The index that the active copy applies in an XCK (R144). -/
def SubPort.index (u : SubPort) (t : Nat) : Nat := (t - (u.applied t).2) % (u.applied t).1.len

/-- The entry that the active copy applies in an XCK. -/
def SubPort.entry (u : SubPort) (t : Nat) : BitVec 32 := (u.applied t).1.entries.get 0 (u.index t)

/-- The owner an entry names on a side (Table 5-1). -/
def entryOwner (e : BitVec 32) (read : Bool) : Option Nat :=
  if read then (if bitOf e.toNat 7 then some (bitsOf e.toNat 0 7) else none)
  else if bitOf e.toNat 15 then some (bitsOf e.toNat 8 7) else none

/-- The issue slot a piece takes when granted in XCK `t` (R137). -/
def issueSlot (t : Nat) (x : Piece) : Nat := if (t + 1) % 2 = x.bank % 2 then t + 1 else t + 2

/-- A side of a sub-port. -/
def SubPort.side (u : SubPort) (read : Bool) : SideState := if read then u.rd else u.wr

/-- Change a side. -/
def SubPort.onSide (u : SubPort) (read : Bool) (f : SideState → SideState) : SubPort :=
  if read then { u with rd := f u.rd } else { u with wr := f u.wr }

/-- The queued pieces of one side that take part in the decision of XCK `t` (R136). -/
def SubPort.onThis (u : SubPort) (read : Bool) (t : Nat) : List Piece :=
  u.queue.filter (fun x => x.reads == read && decide (x.queuedAt < t))

/-- The candidates: of each initiator and class the oldest piece (R138). -/
def candidates (xs : List Piece) : List Piece :=
  xs.filter (fun x => !xs.any (fun y => y.port == x.port && y.cls == x.cls && decide (y.seq < x.seq)))

/-- A piece waits for an earlier one that touches the same granule (R117). -/
def State.held117 (s : State) (u : SubPort) (x : Piece) : Bool :=
  let q := s.bankq x.bank
  u.queue.any (fun y => decide (y.seq < x.seq) && y.conflicts x) ||
    q.wbuf.any (fun e => e.piece.conflicts x) || q.reads.any (fun y => y.conflicts x) ||
    q.copy.any (fun y => y.conflicts x)

/-- A candidate is eligible in XCK `t` (R137); `owned` for a stall owner's grant. -/
def State.eligible (s : State) (u : SubPort) (read owned : Bool) (t : Nat) (x : Piece) : Bool :=
  let slot := issueSlot t x
  decide ((u.side read).taken ≠ slot) &&
    (slot == t + 1 || (entryOwner (u.entry (t + 1)) read).isNone) &&
    !s.held117 u x &&
    (if read then
      decide ((s.bankq x.bank).readBck ≤ slot / 2) && !(s.bankq x.bank).withholds (t / 2) (slot / 2) && (owned || !(s.bankq x.bank).pendingFor (t / 2) (slot / 2))
     else if x.kind == .evac then (s.bankq x.bank).copy.isNone
     else s.bufferTakes x.bank x.port)

/-- The earlier of two pieces of one initiator: by acceptance XCK, then the lower class (R138). -/
def earlier (x y : Piece) : Bool :=
  decide (x.queuedAt < y.queuedAt) || (x.queuedAt == y.queuedAt && decide (x.cls < y.cls))

/-- The first piece of a list under an order. -/
def firstBy (lt : Piece → Piece → Bool) : List Piece → Option Piece
  | [] => none
  | x :: r =>
    match firstBy lt r with
    | some y => some (if lt y x then y else x)
    | none => some x

/-- The longest waiter: by acceptance XCK, initiator, class (R140 step 2). -/
def waitsLonger (x y : Piece) : Bool :=
  decide (x.queuedAt < y.queuedAt) ||
    (x.queuedAt == y.queuedAt &&
      (decide (x.port < y.port) || (x.port == y.port && decide (x.cls < y.cls))))

/-- How far an initiator is from the round-robin pointer, counting upward from pointer + 1 (R143). -/
def rrDistance (rr p : Nat) : Nat := (p + 65 - (rr + 1)) % 65

/-- The initiator of the highest effective priority, ties by the round-robin pointer (R140 step 4). -/
def State.ranked (s : State) (c : Nat) (read : Bool) (rr : Nat) : List Nat → Option Nat
  | [] => none
  | p :: r =>
    match s.ranked c read rr r with
    | none => some p
    | some q =>
      let a := s.priority p c read
      let b := s.priority q c read
      some (if b < a ∨ (b = a ∧ rrDistance rr p < rrDistance rr q) then p else q)

/-- The step of R140 that grants. -/
inductive GrantStep where
  | stall | waiter | tenure | ranking (opens : Bool)
deriving DecidableEq, Repr

/-- An open tenure whose holder has nothing queued on the side ends (R141). -/
def SubPort.openTenure (u : SubPort) (read : Bool) (t : Nat) : Option Tenure :=
  match (u.side read).tenure with
  | some h => if (u.onThis read t).any (fun x => x.port == h.holder) then some h else none
  | none => none

/-- The decision of one side in XCK `t` (R140). -/
def State.choice (s : State) (n : Nat) (read : Bool) (t : Nat) : Option (GrantStep × Piece) :=
  let u := s.sub n
  let cs := candidates (u.onThis read t)
  let free := cs.filter (fun x => s.eligible u read false t x && s.freeEligible x.port)
  let of (p : Nat) : Option Piece := firstBy earlier (free.filter (fun x => x.port == p))
  let owned : Option Piece :=
    if s.gov.sheds .stalls then none
    else
      match entryOwner (u.entry t) read with
      | some p =>
        firstBy earlier (cs.filter
          (fun x => x.port == p && issueSlot t x == t + 1 && s.eligible u read true t x))
      | none => none
  let ten := u.openTenure read t
  match owned with
  | some x => some (.stall, x)
  | none =>
    match (if (u.side read).starve + 1 = u.starveN then firstBy waitsLonger free else none) with
    | some x => some (.waiter, x)
    | none =>
      match (match ten with | some h => of h.holder | none => none) with
      | some x => some (.tenure, x)
      | none =>
        match s.ranked (n / 8) read (u.side read).rr ((free.map (fun x => x.port)).eraseDups) with
        | some p =>
          match of p with
          | some x => some (.ranking ten.isNone, x)
          | none => none
        | none => none

/-- What a decision leaves behind on its side (R140 to R143, R148). -/
def sideAfter (w : SideState) (ten : Option Tenure) (burst t : Nat) (stallUnused : Bool)
    (starveN : Nat) : Option (GrantStep × Piece) → SideState
  | none =>
    { w with tenure := ten, decided := t + 1, unused := if stallUnused then w.unused + 1 else w.unused }
  | some (step, x) =>
    let ended (beats : Nat) : Option Tenure :=
      if burst ≤ beats then none else some { holder := x.port, beats := beats }
    let up := if w.starve + 1 < starveN then w.starve + 1 else w.starve
    let w := { w with decided := t + 1, taken := issueSlot t x
                      unused := if stallUnused then w.unused + 1 else w.unused }
    match step with
    | .stall => { w with tenure := ten }
    | .waiter => { w with tenure := ten, starve := 0 }
    | .tenure =>
      { w with starve := up
               tenure := match ten with | some h => ended (h.beats + 1) | none => none }
    | .ranking opens =>
      { w with starve := up, rr := x.port, tenure := if opens then ended 1 else ten }

/-- The tolls of a piece (R170): array actions alone for the event engine and for in-bank Drover jobs. -/
def State.pieceToll (s : State) (x : Piece) : Nat :=
  if x.port = 64 ∧ x.cls = 3 then (if x.reads then 1 else 2) * s.tollArray
  else if x.kind = .fill then s.tollArray
  else if x.kind = .evac then 2 * s.tollArray
  else
  let conv := match x.view with | some b => converting b.desc | none => false
  2 * s.tollArray + (if conv then s.tollConvert else 0) +
    (if x.needsMerge then s.tollArray else 0) + (if x.kind = .acc then s.tollAcc else 0)

/-- Carry out one side's decision (R136, R140, R163, R170). The read side decides before the write side, so that where both
grant in one XCK the initiator granted last (R126) is the write side's (DESIGN CHOICE, log entry 48). -/
def State.grantSide (s : State) (n : Nat) (read : Bool) (t : Nat)
    (d : Option (GrantStep × Piece)) : State :=
  let u := s.sub n
  let ten := u.openTenure read t
  let unused := (entryOwner (u.entry t) read).isSome && !s.gov.sheds .stalls &&
    (match d with | some (.stall, _) => false | _ => true)
  let burst := match d with
    | some (_, x) => ((s.port x.port).burst t).toNat + 1
    | none => 1
  let s := s.onSub n fun u => u.onSide read fun w => sideAfter w ten burst t unused u.starveN d
  match d with
  | none => s
  | some (_, x) =>
    let s := s.onSub n fun u => { u with queue := u.queue.erase x, lastInit := x.port }
    let y := { x with slot := issueSlot t x }
    let s := s.onBankq x.bank fun q =>
      if read then { q with reads := q.reads ++ [y] }
      else if x.kind = .evac then { q with copy := some y }
      else { q with wbuf := q.wbuf ++ [{ piece := y }] }
    (s.countBytes x.port).charge x.port x.cluster (s.pieceToll x)

/-- A side decides in an XCK, unless its lockstep pair disagrees: its grant is then suppressed, and it decides again in the
next (R394). -/
def State.decideSide (s : State) (n : Nat) (read : Bool) (t : Nat) (d : Option (GrantStep × Piece)) : State :=
  if ((s.sub n).side read).muted then
    s.onSub n fun u => u.onSide read fun w => { w with muted := false, decided := t + 1 }
  else s.grantSide n read t d

/-- The decisions of both sides of a sub-port in one XCK, each from what stood before (R136, R154). -/
def State.grant (s : State) (n : Nat) : State :=
  let t := s.clock.xck
  if s.ready ∧ s.cfg.hasSubport n ∧ s.inRun (n / 8) ∧ ¬ (s.sub n).unusable then
    (s.decideSide n true t (s.choice n true t)).decideSide n false t (s.choice n false t)
  else s

end Sys2Proof.Machine
end

