-- ==== Sys2Proof/Machine/Service.lean ====
section
/-!
DEFINITION. The banks serve pieces: merge reads, quantisation and accumulation, the write slot,
reads with dequantisation, the scale cache (R27 to R33, R139, R190 to R229, R323, R339).
-/

namespace Sys2Proof.Machine

/-! ### The scale cache (R195 to R198) -/

/-- The address of the line that holds a byte. -/
def lineOf (a : Nat) : Nat := a / 32 * 32

/-- A line of a cache. -/
def ScaleCache.line? (c : ScaleCache) (a : Nat) : Option CacheLine :=
  c.lines.find? (fun l => l.addr == lineOf a)

/-- A little-endian value of `n` bytes in a cache: none where its line is absent. -/
def ScaleCache.value? (c : ScaleCache) (a n : Nat) : Option Nat :=
  (c.line? a).map (fun l => bytesAt l.data (a % 32) n)

/-- The set of a line: address bits [11:5] (R195). -/
def setOf (a : Nat) : Nat := a / 32 % 128

/-- Install a line: the least recently used line of a full set makes room (R195). -/
def ScaleCache.install (c : ScaleCache) (a : Nat) (d : BitVec 256) : ScaleCache :=
  let others := c.lines.filter (fun l => l.addr != a)
  let mine := others.filter (fun l => setOf l.addr == setOf a)
  let kept :=
    if mine.length < 8 then others
    else match mine.getLast? with
      | some v => others.filter (fun l => l.addr != v.addr)
      | none => others
  { c with lines := { addr := a, data := d } :: kept }

/-- Count a lookup and make a line that hits the most recently used one. -/
def ScaleCache.touch (c : ScaleCache) (a : Nat) : ScaleCache :=
  match c.line? a with
  | some l => { c with lines := l :: c.lines.filter (fun m => m.addr != l.addr), hit := c.hit + 1 }
  | none => { c with miss := c.miss + 1 }

/-- Initiator 64 asks for the granule of a fill, where the owner's context is in its range and may read the granule,
and initiator 64 may have one more read outstanding (R114, R123, R196). -/
def State.askFill (s : State) (c : Nat) (f : CacheFill) : State :=
  if f.req.isNone ∧ s.owns64 f.owner ∧ s.rangeFails f.owner [.r] false f.addr 32 = none ∧ s.mayAsk true then
    let (id, s) := s.askRead 0 f.owner f.addr 32
    s.onCache c fun k =>
      { k with fills := k.fills.map (fun g => if g.addr = f.addr then { g with req := some id } else g) }
  else s

/-- Start the fill of a line, unless it is outstanding or 16 are (R196). -/
def State.wantLine (s : State) (c owner a : Nat) : State :=
  let k := s.cache c
  if k.fills.any (fun f => f.addr == a) ∨ 16 ≤ k.fills.length then s
  else
    (s.onCache c fun k => { k with fills := k.fills ++ [{ addr := a, owner := owner }] }).askFill c
      { addr := a, owner := owner }

/-- The fills of the lines that `p` names, already asked for, deliver what is no longer to be installed (R198). -/
def ScaleCache.spoilFills (c : ScaleCache) (p : Nat → Bool) : ScaleCache :=
  { c with fills := c.fills.map fun f => if f.req.isSome && p f.addr then { f with stale := true } else f }

/-- The lines that `p` names are invalid. -/
def ScaleCache.drop (c : ScaleCache) (p : Nat → Bool) : ScaleCache :=
  { c with lines := c.lines.filter (fun l => !p l.addr) }

/-- Invalidate the lines that `p` names, in every cluster, with the fills of such lines that are under way (R198). -/
def State.invalidate (s : State) (p : Nat → Bool) : State :=
  s.onConv fun v =>
    { v with caches := v.caches.map fun e =>
        (e.1, (e.2.drop p).spoilFills p) }

/-- The lines that an element group needs. -/
def groupLines (d : BitVec 512) (g : Nat) : List Nat :=
  lineOf (scaleAddr d g) :: (if viewZp d then [lineOf (zpAddr d g)] else [])

/-- The element indices of a piece through a chunked view. -/
def Piece.indices (x : Piece) (b : BoundView) : List Nat :=
  (List.range (x.lanes / portBytes (viewPort b.desc))).map (fun i => elemIndex b.desc b.base x.addr + i)

/-- The lines a piece looks up: reads of a grouped view, writes of a static grouped one (R195). -/
def Piece.lines (x : Piece) : List Nat :=
  match x.view with
  | some b =>
    if chunked b.desc && viewGroup b.desc != 0 &&
        (if x.kind == .rd then viewSrc b.desc != 0 else viewSrc b.desc == 1) then
      ((((x.indices b).map (groupOf b.desc)).eraseDups).flatMap (groupLines b.desc)).eraseDups
    else []
  | none => []

/-- The lines that a piece still waits for: not present, and not seen to fail. -/
def State.linesMissing (s : State) (x : Piece) : List Nat :=
  x.lines.filter (fun a => ((s.cache x.cluster).line? a).isNone && !x.badLines.contains a)

/-- The first lookup of a piece's lines counts hits and misses; missing lines start their fills. -/
def State.lookLines (s : State) (x : Piece) : State :=
  let s := if x.looked then s else x.lines.foldl (fun s a => s.onCache x.cluster (·.touch a)) s
  match x.view with
  | some b => (s.linesMissing x).foldl (fun s a => s.wantLine x.cluster b.owner a) s
  | none => s

/-- A scale as an element finds it. -/
inductive Found where
  | factor (f : Factor)
  | unusable
  | noLine
deriving DecidableEq, Repr

/-- A scale code and zero point as a factor. -/
def factorOf (d : BitVec 512) (code : Nat) (zp : Int) (read : Bool) : Found :=
  match scaleValue (viewSfmt d) code with
  | some v => .factor { scale := v, zp := zp }
  | none =>
    if read && isMx (viewStore d) && code == 255 then .factor { scale := 1, mxNan := true }
    else .unusable

/-- The factor of a group from the scale cache (R193, R195). -/
def ScaleCache.factor (c : ScaleCache) (d : BitVec 512) (g : Nat) (read : Bool) : Found :=
  let w := if isGrouped (viewStore d) then 2 else entryWidth d
  match c.value? (scaleAddr d g) w with
  | none => .noLine
  | some code =>
    if viewZp d then
      match c.value? (zpAddr d g) 1 with
      | none => .noLine
      | some z => factorOf d code (zpValue (viewStore d) z) read
    else factorOf d code 0 read

/-- The factor in force for group `g` of a piece (R200, R207, R209). -/
def State.factor (s : State) (x : Piece) (d : BitVec 512) (g : Nat) : Found :=
  let read := x.kind == .rd
  if viewSrc d = 0 then .factor { scale := 1 }
  else if viewGroup d = 0 then
    match fp32Scale (viewStatic d) with
    | some v => .factor { scale := v }
    | none => .unusable
  else if read || viewSrc d == 1 then (s.cache x.cluster).factor d g read
  else
    match x.scales.find? (fun c => c.group == g) with
    | some c => if c.bad then .noLine else factorOf d c.scale c.zp false
    | none => .noLine

/-! ### What a write piece writes -/

/-- Bits to put into a row: where, how many, what, and whether they are spoiled. -/
structure Put where
  pos : Nat
  bits : Nat
  code : Nat := 0
  bad : Bool := false
deriving DecidableEq, Repr

/-- What quantising a piece counts (R214, R217). -/
structure Tally where
  elems : Nat := 0
  nonzero : Nat := 0
  clipped : Nat := 0
  flushed : Nat := 0
  nan : Nat := 0
  /-- An unusable scale was met. -/
  scaleBad : Bool := false
  /-- Each finite element with its value and what its code stands for; none where that is infinite. -/
  pairs : List (Rat × Option Rat) := []
  /-- Under which scale and zero point each element was stored (R205). -/
  under : List (Nat × (Rat × Int)) := []
deriving DecidableEq, Repr

/-- Whether the bytes of a lane range lie in a bad port granule. -/
def Piece.badAt (x : Piece) (lane : Nat) : Bool := bitOf x.bad.toNat (lane / 32)

/-- Bytes of a piece that moves bytes unchanged. -/
def Piece.bytePuts (x : Piece) : List Put :=
  ((List.range x.len).filter
    (fun i => x.kind == .wr || x.kind == .fill || bitOf x.strb.toNat (x.off + i))).map fun i =>
      { pos := (x.off + i) * 8, bits := 8, code := bytesAt x.data (x.off + i) 1, bad := x.badAt (x.off + i) }

/-- The exact value of a number; none where it is infinite. -/
def Num.exact? (v : Num) : Option Rat :=
  match v with
  | .inf _ => none
  | w => some w.toRat

/-- One quantised element with its counts. -/
def State.quantOne (s : State) (x : Piece) (b : BoundView) (i : Nat) (e : Elem) : Put × Tally :=
  let d := b.desc
  let n := storeBits (viewStore d)
  let pos := x.off * 8 + i * n
  let spoiled : Put := { pos := pos, bits := n, bad := true }
  if e.bad then (spoiled, {})
  else
    match s.factor x d (groupOf d e.e) with
    | .noLine => (spoiled, {})
    | .unusable => (spoiled, { scaleBad := true })
    | .factor f =>
      let a2 := 2 * (x.addr + i * n / 8) + (if n = 4 then i % 2 else 0)
      let q := quantElem d e.num f (elemRound d a2 b.epoch)
      ({ pos := pos, bits := n, code := q.code },
        { elems := bit (!q.nan), nonzero := bit (!q.nan && !e.num.isZero), clipped := bit q.clip
          flushed := bit q.flush, nan := bit q.nan
          pairs := if e.num.finite then [(e.num.toRat, (dequant d q.code f).exact?)] else []
          under := if viewGroup d = 0 then [] else [(e.e, (f.scale, f.zp))] })

/-- Sum of two tallies. -/
def Tally.add (a b : Tally) : Tally :=
  { elems := a.elems + b.elems, nonzero := a.nonzero + b.nonzero, clipped := a.clipped + b.clipped
    flushed := a.flushed + b.flushed, nan := a.nan + b.nan, scaleBad := a.scaleBad || b.scaleBad
    pairs := a.pairs ++ b.pairs, under := a.under ++ b.under }

/-- The elements of a chunked write piece, quantised (R202). -/
def State.quantPuts (s : State) (x : Piece) (b : BoundView) : List Put × Tally :=
  let one := ((x.elems b).zipIdx.filter (fun p => p.1.written)).map (fun p => s.quantOne x b p.2 p.1)
  (one.map Prod.fst, one.foldl (fun t p => t.add p.2) {})

/-! ### Accumulation (R224 to R229) -/

/-- bfx (R224): the addend, and whether sat or nan is set. -/
def bfx (d : BitVec 512) (x : Num) (mode : RoundMode) : Int × Bool :=
  match x with
  | .nan => (0, true)
  | .inf neg => (if neg then -(2 ^ 31) else 2 ^ 31 - 1, true)
  | .val _ _ =>
    let r := roundInt (x.toRat * pow2 (-(viewBfx d))) mode
    let c := max (-(2 ^ 31)) (min (2 ^ 31 - 1) r)
    (c, decide (c ≠ r))

/-- One accumulated element: the bits, whether sat or nan is set, whether wrap is. -/
structure Accd where
  put : Put
  sat : Bool := false
  wrap : Bool := false
deriving DecidableEq, Repr

/-- Element `i` of a piece through an accumulating view: the addend or the value to store, with its
sat or nan flag. Modes 1 and 2 take the bytes as they are. -/
def Piece.addend (x : Piece) (b : BoundView) (i : Nat) : Int × Bool :=
  let d := b.desc
  let z := accBytes d
  let v := bytesAt x.data (x.off + i * z) z
  if viewAcc d = 3 then
    let n := if x.exact ≠ [] then (x.exact.getD i (.nan, true)).1 else fmtFP32.decode v
    bfx d n (elemRound d (2 * (x.addr + i * z)) b.epoch)
  else ((BitVec.ofNat (8 * z) v).toInt, false)

/-- One element of an ACC (R224): `old` the row as the merge read delivered it, `marks` its spoiled granules, whose
elements are spoiled and count nowhere (R229). -/
def Piece.accOne (x : Piece) (b : BoundView) (old : Nat) (marks : List Nat) (i : Nat) : Accd :=
  let z := accBytes b.desc
  let pos := (x.off + i * z) * 8
  if x.badAt (x.off + i * z) || marks.contains (pos / 256) then { put := { pos := pos, bits := 8 * z, bad := true } }
  else
    let (a, sat) := x.addend b i
    let o := (BitVec.ofNat (8 * z) (bitsOf old pos (8 * z))).toInt
    let t := BitVec.ofInt (8 * z) (o + a)
    { put := { pos := pos, bits := 8 * z, code := t.toNat }, sat := sat, wrap := decide (t.toInt ≠ o + a) }

/-- One element of a WR or WRM through an accumulating view (R223, R226): none where it is not
written. -/
def Piece.storeOne (x : Piece) (b : BoundView) (i : Nat) : Option Accd :=
  let z := accBytes b.desc
  let at_ := x.off + i * z
  if x.kind == .wrm && bitsOf x.strb.toNat at_ z != 2 ^ z - 1 then none
  else if (if x.exact ≠ [] then (x.exact.getD i (.nan, true)).2 else x.badAt at_) then
    some { put := { pos := at_ * 8, bits := 8 * z, bad := true } }
  else
    let (a, sat) := x.addend b i
    some { put := { pos := at_ * 8, bits := 8 * z, code := (BitVec.ofInt (8 * z) a).toNat }, sat := sat }

/-- The whole elements of a piece through an accumulating view: those that begin at or after its
first byte and end within it. -/
def Piece.accIndices (x : Piece) (b : BoundView) : Piece × List Nat :=
  let z := accBytes b.desc
  let skip := (z - x.off % z) % z
  ({ x with off := x.off + skip, addr := x.addr + skip }, List.range ((x.len - skip) / z))

/-! ### The row a write piece makes -/

/-- The granule `g` of what a list of puts writes: data, mask, and whether it is spoiled. -/
def putGranuleOf (ps : List Put) (g : Nat) : BitVec 256 × BitVec 256 × Bool :=
  let mine := ps.filter (fun p => p.pos / 256 == g)
  let data := (mine.map (fun p => (p.code % 2 ^ p.bits) * 2 ^ (p.pos % 256))).sum
  let mask := (mine.map (fun p => (2 ^ p.bits - 1) * 2 ^ (p.pos % 256))).sum
  (BitVec.ofNat 256 data, BitVec.ofNat 256 mask, mine.any (fun p => p.bad))

/-- What a write piece puts into its row, given the merge data, with its counts. -/
structure Made where
  puts : List Put
  tally : Tally := {}
  sats : Nat := 0
  wraps : Nat := 0
deriving DecidableEq, Repr

/-- The row that a merge read delivered, as a number. -/
def rowOf (merge : List (BitVec 256 × Bool)) : Nat := (joinGranules (merge.map Prod.fst)).toNat

/-- The granules that a merge read found spoiled. -/
def marksOf (merge : List (BitVec 256 × Bool)) : List Nat :=
  (merge.zipIdx.filter (fun p => p.1.2)).map Prod.snd

/-- Quantise or accumulate a write piece on the row that its merge read delivered. -/
def State.make (s : State) (x : Piece) (merge : List (BitVec 256 × Bool)) : Made :=
  match x.view with
  | none => { puts := x.bytePuts }
  | some b =>
    if chunked b.desc then
      let (ps, t) := s.quantPuts x b
      { puts := ps, tally := t }
    else if accumulates b.desc then
      let (y, is) := x.accIndices b
      let as := if x.kind = .acc then is.map (y.accOne b (rowOf merge) (marksOf merge)) else is.filterMap (y.storeOne b)
      { puts := as.map (fun a => a.put), sats := as.countP (fun a => a.sat)
        wraps := as.countP (fun a => a.wrap) }
    else { puts := x.bytePuts }

/-- Store one granule, through the flip mask where it is armed for this write (R339). -/
def State.storeFlipped (s : State) (x : Piece) (g : Nat) (d : BitVec 256) (bad : Bool) : State :=
  let m := (s.ctest x.cluster).flipMask
  let k := s.slotOf x.bank
  if m ≠ 0 ∧ x.port < 64 ∧ x.kind ≠ .entry ∧ (s.stagedAt k x.row).isNone then
    let w := (storedWord x.bank x.row g d bad).zipIdx.map
      (fun p => p.1 ^^^ bitsOf m.toNat (8 * p.2) 8)
    let s := (s.putGranule x.bank x.row g w).cancelWriteBack x.bank x.row g
    let s := s.onCtest x.cluster fun t =>
      { t with flipMask := 0, flipHit := true, flipBank := BitVec.ofNat 4 x.bank
               flipRow := BitVec.ofNat 14 x.row, flipGranule := BitVec.ofNat 2 g }
    (s.integEvent 7 x.bank).log
      { code := 0x62, cluster := x.cluster, bank := x.bank % 16, detail := some (faultPlace x.row g) }
  else s.storeGranule x.bank x.row g d bad

/-- Write one granule of a piece's row (R323, R392, R393). Answers whether it was stored spoiled. -/
def State.writeOne (s : State) (x : Piece) (old : Option (List (BitVec 256 × Bool))) (ps : List Put)
    (g : Nat) : Bool × State :=
  let (data, mask, bad) := putGranuleOf ps g
  if mask = 0 then (false, s)
  else
    let merged := (old.getD []).getD g (0, false)
    let whole := mask = BitVec.allOnes 256 ∧ x.kind ≠ .acc
    if ¬ whole ∧ merged.2 then
      (true, (s.storeFlipped x g 0 true).onBank x.bank fun b =>
        { b with mergeSpoil := satAdd 0xFFFF b.mergeSpoil 1 })
    else if bad ∨ bitOf x.forced.toNat g then (true, s.storeFlipped x g 0 true)
    else (false, s.storeFlipped x g (mergeBits merged.1 data mask) false)

/-- Write the granules of a piece's row. Answers how many were stored spoiled. -/
def State.writeAll (s : State) (x : Piece) (old : Option (List (BitVec 256 × Bool))) (ps : List Put) :
    List Nat → Nat × State
  | [] => (0, s)
  | g :: gs =>
    let (a, s) := s.writeOne x old ps g
    let (b, s) := s.writeAll x old ps gs
    (bit a + b, s)

/-! ### Statistics (R214, R217) -/

/-- Add a tally to an epoch. -/
def EpochRec.count' (r : EpochRec) (t : Tally) : EpochRec :=
  { r with elems := r.elems + t.elems, nonzero := r.nonzero + t.nonzero, clipped := r.clipped + t.clipped
           flushed := r.flushed + t.flushed, nan := r.nan + t.nan }

/-- Change the epoch of a given count. -/
def View.onEpoch (v : View) (n : BitVec 32) (f : EpochRec → EpochRec) : View :=
  if v.cur.count = n then { v with cur := f v.cur }
  else { v with ended := v.ended.map (fun r => if r.count = n then f r else r) }

/-- One more squared error: an infinite one makes the sum infinite (R217). -/
def addError (acc : BitVec 64) (x : Rat) (y : Option Rat) : BitVec 64 :=
  match y with
  | some y => addBinary64 acc ((x - y) * (x - y))
  | none => BitVec.ofNat 64 (fmtFP64.infinity false)

/-- A sampled piece (R217). -/
def View.sampled (v : View) (ps : List (Rat × Option Rat)) : View :=
  ps.foldl (fun v p =>
    { v with samples := satAdd 0xFFFFFFFF v.samples 1
             sse := addError v.sse p.1 p.2
             sigsq := addBinary64 v.sigsq (p.1 * p.1) }) v

/-- The elements of a view whose stored bits are written have no record of their scale any more: what is stored there
was not quantised by that view (R205). `wr` are the bits written: from where, how many. -/
def View.unrecord (v : View) (base : Nat) (wr : List (Nat × Nat)) : View :=
  if v.under = [] then v
  else
    let w := storeBits (viewStore v.desc)
    { v with under := v.under.filter fun e =>
        !wr.any fun q => decide (q.1 < 8 * base + (e.1 + 1) * w) && decide (8 * base + e.1 * w < q.1 + q.2) }

/-- The same for every view. -/
def State.unrecord (s : State) (wr : List (Nat × Nat)) : State :=
  s.onConv fun k =>
    { k with views := k.views.map fun e =>
        (e.1, match s.region? (viewRegion e.2.desc) with
          | some r => e.2.unrecord r.base wr
          | none => e.2) }

/-- The bits that a piece writes, by local address: an element that a strobe leaves out is not among them. -/
def Piece.written (x : Piece) (ps : List Put) : List (Nat × Nat) :=
  ps.map fun q => (8 * (x.addr - x.off) + q.pos, q.bits)

/-- An element has been stored under a scale (R205). -/
def View.recordScales (v : View) (us : List (Nat × (Rat × Int))) : View :=
  { v with under := us.foldl (fun t u => t.set u.1 u.2) v.under }

/-- SAMPLE_LOG2 as it binds a piece quantised in XCK `t` (R221, R437). -/
def ScaleCache.sample (c : ScaleCache) (t : Nat) : BitVec 4 :=
  if c.sampleAt = t + 1 then c.sampleOld else c.sampleLog2

/-- The counts of one quantised piece: its view's epoch, the bank, the sample (R214, R217). -/
def State.noteQuant (s : State) (x : Piece) (b : BoundView) (t : Tally) : State :=
  let s := if t.scaleBad then s.onConv fun c => { c with irq := setBit c.irq 2 } else s
  let s := if chunked b.desc && !(s.lbank x.bank).out then
      s.onConv fun c =>
        { c with qntRows := c.qntRows.modify 0 x.bank (· + 1)
                 qntClip := c.qntClip.modify 0 x.bank (· + BitVec.ofNat 32 t.clipped) }
    else s
  let mine (v : View) : Bool := v.gen == b.gen
  let s := s.onView b.id fun v =>
    if mine v then (v.recordScales t.under).onEpoch b.epoch fun r =>
      let r := { r with left := r.left - 1 }
      if viewStat b.desc then r.count' t else r
    else v
  if viewStat b.desc then
    let c := s.cache x.cluster
    let hit := 2 ^ (c.sample s.clock.xck).toNat ≤ c.sinceSample + 1
    let s := s.onCache x.cluster fun c => { c with sinceSample := if hit then 0 else c.sinceSample + 1 }
    if hit then s.onView b.id fun v => if mine v then v.sampled t.pairs else v else s
  else s

/-- The counts of an ACC or of a write through an accumulating view (R225). -/
def State.noteAcc (s : State) (x : Piece) (m : Made) : State :=
  let s := if x.kind = .acc ∧ ¬ (s.lbank x.bank).out then s.onEng fun e =>
      { e with accRows := e.accRows.modify 0 x.bank (· + 1)
               accSat := e.accSat.modify 0 x.bank (satAdd 0xFFFF · m.sats)
               accWrap := e.accWrap.modify 0 x.bank (satAdd 0xFFFF · m.wraps) } else s
  let s := if x.kind = .acc ∧ 0 < m.sats then s.evEvent 4 0 x.cluster else s
  if 0 < m.wraps then s.evEvent 5 0 x.cluster else s

/-! ### Merge read, write slot (R139, R33) -/

/-- The granules of a piece that a merge read decodes: those it covers in part, all for an ACC. -/
def State.mergeGranules (s : State) (x : Piece) : List Nat :=
  if x.kind = .step then [0, 1, 2, 3]
  else if x.kind = .add then (x.parts.map (fun q => q.1 / 8)).eraseDups
  else
  let ps := (s.make x []).puts
  (List.range 4).filter fun g =>
    let (_, mask, _) := putGranuleOf ps g
    mask != 0 && (x.kind == .acc || mask != BitVec.allOnes 256)

/-- Decode the granules that a merge needs; the others stand as zero. -/
def State.mergeData (s : State) (bank row : Nat) (need : List Nat) :
    List Nat → List (BitVec 256 × Bool) × State
  | [] => ([], s)
  | g :: gs =>
    let (one, s) : (BitVec 256 × Bool) × State :=
      if need.contains g then
        let (d, s) := s.readGranule bank row g
        ((d.data, d.marked), s)
      else ((0, false), s)
    let (more, s) := s.mergeData bank row need gs
    (one :: more, s)

/-- The merge read that is due in a bank takes the read slot of the BCK, where it is left to it (R28, R139). -/
def State.mergeRead (s : State) (bank : Nat) : State :=
  if !s.readOpen bank then s
  else
  match mergeDue (s.bankq bank).wbuf with
  | some i =>
    match (s.bankq bank).wbuf[i]? with
    | some e =>
      let (old, s) := s.mergeData bank e.piece.row (s.mergeGranules e.piece) [0, 1, 2, 3]
      s.onBankq bank fun q =>
        { q with wbuf := q.wbuf.set i { e with merge := some old, mergedAt := s.bck }, readBck := s.bck + 1 }
    | none => s
  | none => s

/-- The line of a granule takes the bits written to it, or is dropped. -/
def ScaleCache.update (c : ScaleCache) (a : Nat) (bad : Bool) (data mask : BitVec 256) : ScaleCache :=
  { c with lines :=
      if bad then c.lines.filter (fun l => l.addr != a)
      else c.lines.map (fun l => if l.addr = a then { l with data := mergeBits l.data data mask } else l) }

/-- Update the caches with the entries a block's own write stored (R198). An entry granule that is stored spoiled holds
no entry any more: its line is dropped, which the rule does not say; a fill of the granule that is under way is asked
again. DESIGN CHOICE (log entry 65). -/
def State.writeThrough (s : State) (x : Piece) (g : Nat) (bad : Bool) : State :=
  let (data, mask, _) := putGranuleOf x.bytePuts g
  let a := x.addr / 32 * 32
  s.onConv fun v =>
    { v with caches := v.caches.map fun e => (e.1, (e.2.update a bad data mask).spoilFills (· == a)) }

/-- A row written while its bank is evacuated is written to the spare too, at one more array row write
(R350). -/
def State.payMirror (s : State) (p bank row : Nat) : State :=
  if (s.mirror bank row).isSome then s.charge p (bank / 16) s.tollArray else s

/-- The granules of a row of records are written (R245, R251, R323). -/
def State.storeMade (s : State) (bank row : Nat) (m : RowMade) : State :=
  m.stores.foldl (fun s g => s.storeGranule bank row g.1 g.2.1 g.2.2) s

/-- A check inside the block has failed for granule `g` of a piece's row, or for the row as a whole (R391 to R393). -/
def Piece.fails (x : Piece) (g : Nat) : Bool := x.strayed || bitOf x.forced.toNat g

/-- Contributions to a granule of a row: one whose residue fails is stored spoiled, and where another row was selected
none is written (R245, R391, R393). -/
def Piece.addChecked (x : Piece) (g : Nat) (old : BitVec 256 × Bool) (m : RowMade) : RowMade :=
  if !x.fails g then addGranule x.oneByOne x.parts g old m
  else if x.strayed ∨ (x.parts.filter (fun q => q.1 / 8 == g)) = [] then m
  else { m with stores := m.stores ++ [(g, 0, true)] }

/-- Contributions of events reach a row of records (R245). Those that a row not written has lost taint the population
(R249, R391). -/
def State.storeAdds (s : State) (x : Piece) (old : List (BitVec 256 × Bool)) : State :=
  let m := rowMade x.addChecked old
  let s := (s.storeMade x.bank x.row m).noteAdds x.pop x.bank m
  if x.strayed then s.taint x.pop else s

/-- A row of a STEP is stepped and written, and what it emits is queued (R251, R252). A record that a check fails is left
as it is, and its population is tainted (R391, R393). -/
def State.storeStep (s : State) (x : Piece) (old : List (BitVec 256 × Bool)) : State :=
  match s.pop? x.pop, s.stepRun? x.pop with
  | some p, some r =>
    let m := rowMade (fun g o m => if x.fails g then m else stepGranule p r.tag (8 * x.beat) g o m) old
    let s := (s.storeMade x.bank x.row m).noteStep x.pop x.addr x.bank x.row m
    let s := if x.strayed ∨ x.forced ≠ 0 then s.taint x.pop else s
    s.stepWritten x.pop x.beat ((s.pop? x.pop).getD p) m.spikes m.sats
  | _, _ => s

/-- A piece of the event engine is written, with what its merge read delivered. -/
def State.storeRecords (s : State) (x : Piece) (old : List (BitVec 256 × Bool)) : State :=
  let s := s.payMirror x.port x.bank x.row
  if x.kind = .add then s.storeAdds x old else s.storeStep x old

/-- The granules that a list of puts touches. -/
def putGranules (ps : List Put) : Nat := ((List.range 4).filter (fun g => (putGranuleOf ps g).2.1 != 0)).length

/-- The row of a piece is encoded and written; answers how many granules count as spoiled. Where the bank finds another
row selected, it is not written, and all that the piece would write counts so (R33, R391). -/
def State.storeRow (s : State) (x : Piece) (merge : Option (List (BitVec 256 × Bool))) (ps : List Put) : Nat × State :=
  if x.strayed then (putGranules ps, s)
  else
    let (n, s) := ((s.payMirror x.port x.bank x.row).unrecord (x.written ps)).writeAll x merge ps [0, 1, 2, 3]
    (n, if x.kind = .entry then s.writeThrough x (x.off / 32) (decide (0 < n)) else s)

/-- What a row counts that is quantised but not written: it stands under no scale (R205, R391). -/
def Piece.counted (x : Piece) (t : Tally) : Tally := if x.strayed then { t with under := [] } else t

/-- A piece is quantised, encoded and written, with the granules of its merge read (R33). A data port whose row is not
written learns it as DECERR, the units of the block as spoiled granules (R391). -/
def State.storePiece (s : State) (x : Piece) (merge : Option (List (BitVec 256 × Bool))) :
    Stored × State :=
  if x.kind = .add ∨ x.kind = .step then ({ spoiled := 0, clipped := 0, sat := false }, s.storeRecords x (merge.getD []))
  else
  let m := s.make x (merge.getD [])
  let (n, s) := s.storeRow x merge m.puts
  let s := match x.view with
    | some b => s.noteQuant x b (x.counted m.tally)
    | none => s
  let away := x.strayed && decide (x.port < 64)
  ({ spoiled := if away then 0 else n, clipped := m.tally.clipped
     sat := decide (0 < m.sats + m.wraps) && x.kind == .acc, unwritten := away }, s.noteAcc x m)

/-- The head of a write buffer uses the write slot of BCK `n`; where it held its row, the read slots that follow go to
the reads that wait for it (R27, R28). -/
def BankQueue.wrote (q : BankQueue) (e : WEntry) (n : Nat) : BankQueue :=
  let k := if e.merge.isSome then q.waiters e.piece.row n else 0
  { q with wbuf := q.wbuf.tail, writeBck := n + 1
           heldFrom := if k = 0 ∨ n < q.heldTo then q.heldFrom else n
           heldTo := if k = 0 then q.heldTo else max q.heldTo n + k }

/-- The head of a bank's write buffer is quantised, encoded and written; the part of its request is
complete (R33). -/
def State.finishWrite (s : State) (bank : Nat) : State :=
  match (s.bankq bank).wbuf with
  | [] => s
  | e :: _ =>
    let x := e.piece
    let (d, s) := s.storePiece x e.merge
    let s := s.onBankq bank fun q => q.wrote e s.bck
    let port := match s.outst? x.req with | some o => o.port | none => x.port
    (s.writePart x.req (x.kind == .entry) d).pump port

/-- An entry of a write buffer may use the write slot of BCK `n`: it has reached the bank, and what it merges with was
read in an earlier BCK (R28, R30, R139). -/
def WEntry.mayWrite (e : WEntry) (t n : Nat) : Bool :=
  decide (e.piece.slot ≤ t) &&
    (if e.piece.needsMerge then e.merge.isSome && decide (e.mergedAt + e.piece.holdBck ≤ n) else true)

/-- The write slot of the BCK is free, and the head of the write buffer may use it (R27, R29). -/
def BankQueue.mayWrite (q : BankQueue) (t n : Nat) : Bool :=
  decide (q.writeBck ≤ n) && match q.wbuf with | e :: _ => e.mayWrite t n | [] => false

/-- The lines that a piece needs have been looked up and are there, or have been seen to fail. -/
def State.linesReady (s : State) (x : Piece) : Bool := x.lines == [] || (x.looked && s.linesMissing x == [])

/-- The head of a bank's write buffer can be written in this BCK. -/
def State.writeReady (s : State) (bank : Nat) : Bool :=
  (s.bankq bank).mayWrite s.clock.xck s.bck &&
    match (s.bankq bank).wbuf with | e :: _ => s.linesReady e.piece | [] => false

/-- While a flip mask is armed, a lower bank whose head can only be written in phase 1 of this BCK goes first: the write
waits for that phase (R339). -/
def State.flipDefers (s : State) (bank : Nat) : Bool :=
  (s.ctest (bank / 16)).flipMask != 0 && s.clock.xck % 2 == 0 &&
    (List.range (bank % 16)).any fun b =>
      let k := 16 * (bank / 16) + b
      !s.writeReady k && (s.bankq k).mayWrite (s.clock.xck + 1) s.bck &&
        match (s.bankq k).wbuf with | e :: _ => s.linesReady e.piece | [] => false

/-- While a flip mask is armed, the banks below this one that can write in this BCK write first: the mask goes to the
lowest of them (R339). -/
def State.lowerFirst (s : State) (bank : Nat) : State :=
  if (s.ctest (bank / 16)).flipMask = 0 then s
  else
    (List.range (bank % 16)).foldl (fun s b =>
      if s.writeReady (16 * (bank / 16) + b) then s.finishWrite (16 * (bank / 16) + b) else s) s

/-- The head of a bank's write buffer takes the write slot of the BCK. Nothing is written while its merge read
or a scale line is missing: missing lines start their fills (R139, R196). -/
def State.writeSlot (s : State) (bank : Nat) : State :=
  if !(s.bankq bank).mayWrite s.clock.xck s.bck || s.flipDefers bank then s
  else
  match (s.bankq bank).wbuf with
  | [] => s
  | e :: rest =>
    let x := e.piece
    if s.linesReady x then (s.lowerFirst bank).finishWrite bank
    else
      let s := s.lookLines x
      let s := s.onBankq bank fun q =>
        { q with wbuf := { e with piece := { x with looked := true } } :: rest }
      if s.linesMissing x = [] then (s.lowerFirst bank).finishWrite bank else s

/-! ### Reads (R109, R208, R209) -/

/-- Some element of a group was stored under a scale that the group's entry no longer holds: what the group reads back
is undefined (R205). -/
def State.groupStale (s : State) (b : BoundView) (g : Nat) (f : Factor) : Bool :=
  viewGroup b.desc != 0 &&
    match s.view? b.id with
    | some v => v.gen == b.gen && (groupElems b.desc g).any fun i =>
        match v.under.find? i with | some u => u != (f.scale, f.zp) | none => false
    | none => false

/-- One element of a converted read: its bits, whether its port granule is marked, whether it
saturated, whether its scale was unusable, whether it is undefined. -/
structure ReadElem where
  bits : Nat := 0
  marked : Bool := false
  sat : Bool := false
  scaleBad : Bool := false
  stale : Bool := false
deriving DecidableEq, Repr

/-- Dequantise element `i` of a read piece; `row` the data of the row, `bad` its marked granules. -/
def State.dequantOne (s : State) (x : Piece) (b : BoundView) (row : Nat) (bad : List Nat)
    (i e : Nat) : ReadElem :=
  let d := b.desc
  let n := storeBits (viewStore d)
  let pos := x.off * 8 + i * n
  if bad.contains (pos / 256) then { marked := true }
  else
    match s.factor x d (groupOf d e) with
    | .noLine => { marked := true }
    | .unusable => { marked := true, scaleBad := true }
    | .factor f =>
      let (v, sat) := toPort d (bitsOf row pos n) f
      { bits := v, sat := sat, stale := s.groupStale b (groupOf d e) f }

/-- An element of a read through a block-fixed view (R226). -/
def bfxRead (d : BitVec 512) (code : BitVec 32) : Nat × Bool :=
  fmtFP32.port (Num.ofRat ((code.toInt : Rat) * pow2 (viewBfx d)))

/-- The beat of a read piece: data, the lanes it fills, spoil bits, saturated elements, whether an
unusable scale was met. -/
structure BeatOut where
  data : BitVec 1024
  mask : BitVec 1024
  spoil : BitVec 4
  sats : Nat := 0
  scaleBad : Bool := false
deriving DecidableEq, Repr

/-- The lane mask of `n` bytes from lane `i`. -/
def laneMask (i n : Nat) : BitVec 1024 := BitVec.ofNat 1024 ((2 ^ (8 * n) - 1) * 2 ^ (8 * i))

/-- Spoil bits of a list of granules. -/
def spoilBits (gs : List Nat) : BitVec 4 := gs.foldl (fun (w : BitVec 4) g => setBit w g) 0

/-- Make the beat of a read piece from its row (R105, R189, R208, R226). -/
def State.beatOf (s : State) (x : Piece) (row : Nat) (bad : List Nat) : BeatOut :=
  let plain : BeatOut :=
    { data := BitVec.ofNat 1024 row, mask := laneMask x.off x.len, spoil := spoilBits bad }
  match x.view with
  | none => plain
  | some b =>
    let d := b.desc
    if chunked d then
      let pe := portBytes (viewPort d)
      let es := (x.indices b).zipIdx.map (fun p => (p.2, s.dequantOne x b row bad p.2 p.1))
      { data := BitVec.ofNat 1024 ((es.map (fun p => p.2.bits * 2 ^ (8 * (p.1 * pe)))).sum)
        mask := (es.filter (fun p => p.2.stale)).foldl (fun m p => m &&& ~~~laneMask (p.1 * pe) pe) (laneMask 0 x.lanes)
        spoil := spoilBits ((es.filter (fun p => p.2.marked)).map (fun p => p.1 * pe / 32))
        sats := es.countP (fun p => p.2.sat)
        scaleBad := es.any (fun p => p.2.scaleBad) }
    else if viewAcc d = 3 then
      let es := (List.range (x.len / 4)).map fun i =>
        let pos := (x.off + 4 * i) * 8
        if bad.contains (pos / 256) then (pos, 0, false)
        else (pos, bfxRead d (BitVec.ofNat 32 (bitsOf row pos 32)))
      { plain with
        data := BitVec.ofNat 1024 ((es.map (fun p => p.2.1 * 2 ^ p.1)).sum)
        sats := es.countP (fun p => p.2.2) }
    else plain

/-- A mark delivered from a region with SAFETY = 1 (R87, R327). -/
def State.safetyMarks (s : State) (x : Piece) (bad : List Nat) : State :=
  if x.safety then
    bad.foldl (fun s g => s.report
      { code := 0x11, cluster := x.cluster, bank := x.bank % 16, port := x.port
        detail := some (faultPlace x.row g) }) s
  else s

/-- The row of a read piece is read and decoded: its data, its marked granules. -/
def State.openRow (s : State) (x : Piece) : Nat × List Nat × State :=
  match x.opened with
  | some o => (o.1, o.2, s)
  | none =>
  let gs := (List.range 4).filter (fun g => decide (x.g0 ≤ g) && decide (g ≤ x.g1))
  let (ds, s) := s.readGranules x.bank x.row gs
  (((gs.zip ds).map (fun p => p.2.data.toNat * 2 ^ (256 * p.1))).sum,
    ((gs.zip ds).filter (fun p => p.2.marked)).map Prod.fst, s)

/-- What a read beat counts and raises: an unusable scale, saturated elements, marks in a region with
SAFETY = 1 (R87, R208, R209). -/
def State.noteBeat (s : State) (x : Piece) (bad : List Nat) (out : BeatOut) : State :=
  let s := if out.scaleBad then s.onConv fun c => { c with irq := setBit c.irq 2 } else s
  let s := match x.view with
    | some b => s.onView b.id fun v =>
        if v.gen = b.gen then { v with rdSat := satAdd 0xFFFFFFFF v.rdSat out.sats } else v
    | none => s
  s.safetyMarks x bad

/-- Stored bits of an element of a view whose elements have values: one of R189, or a block-fixed one (R226). -/
def elemBits (d : BitVec 512) : Nat := if chunked d then storeBits (viewStore d) else 32

/-- A number of which nothing is known: free value `n`. -/
def freeNum (n : Nat) : Num := fmtFP64.decode (Config.freeWord n).toNat

/-- An element of an opened row as an exact number with its mark, and whether an unusable scale was met (R208, R219). -/
def State.elemNum (s : State) (x : Piece) (b : BoundView) (i code : Nat) : (Num × Bool) × Bool :=
  let d := b.desc
  if chunked d then
    let g := groupOf d (elemIndex d b.base x.addr + i)
    match s.factor x d g with
    | .noLine => ((.nan, true), false)
    | .unusable => ((.nan, true), true)
    | .factor f => ((if s.groupStale b g f then freeNum (s.fresh + i) else dequant d code f, false), false)
  else ((Num.ofRat (((BitVec.ofNat 32 code).toInt : Rat) * pow2 (viewBfx d)), false), false)

/-- The elements of an opened row as DRV_CONVERT reads them: through the piece's view, or raw, in the storage format
of the view of the other side (R219). -/
def State.rowNums (s : State) (x : Piece) (row : Nat) (bad : List Nat) : List ((Num × Bool) × Bool) :=
  let each (bits : Nat) (f : Nat → Nat → (Num × Bool) × Bool) : List ((Num × Bool) × Bool) :=
    (List.range (x.len * 8 / bits)).map fun i =>
      let pos := x.off * 8 + i * bits
      if bad.contains (pos / 256) then ((Num.nan, true), false) else f i (bitsOf row pos bits)
  match x.view.filter (fun b => chunked b.desc || viewAcc b.desc == 3), x.other with
  | some b, _ => each (elemBits b.desc) (s.elemNum x b)
  | none, some d => each (elemBits d) fun _ code => ((dequant d code { scale := 1 }, false), false)
  | none, none => []

/-- The row of a read piece is read, decoded, dequantised; its beat is presented in its turn. What is not defined of it
is a free value; a granule whose residue fails is delivered marked (R393). -/
def State.finishRead (s : State) (x : Piece) : State :=
  let (row, bad, s) := s.openRow x
  let bad := (bad ++ (List.range 4).filter (fun g => decide (x.g0 ≤ g ∧ g ≤ x.g1) && bitOf x.forced.toNat g)).eraseDups
  let nums := if x.wants then s.rowNums x row bad else []
  let out := s.beatOf x row bad
  let out := if x.wants then { out with sats := 0, scaleBad := nums.any Prod.snd } else out
  let data := (out.data &&& out.mask) ||| (Config.freeBeat s.fresh &&& ~~~out.mask)
  let s := { s with fresh := s.fresh + 1 + nums.length }
  ((s.noteBeat x bad out).readBeat x.req
    { tag := 0, status := if out.spoil = 0 then .ok else .spoil, spoil := out.spoil, beat := x.beat
      data := data, lane := x.lane, lanes := x.lanes, nums := nums.map Prod.fst }).pump x.port

/-- The next read of a bank: its row is not held, its issue slot has come, its lines are there or have not been looked
up yet (R28, R137, R196). -/
def State.nextRead (s : State) (bank : Nat) : Option Piece :=
  let q := s.bankq bank
  q.reads.find? fun x =>
    !q.holdsRow x.row && decide (x.slot ≤ s.clock.xck) && (!x.looked || s.linesReady x)

/-- The read slot of BCK `n` is free for a read: not used, and before the write of that BCK (R27). -/
def BankQueue.mayRead (q : BankQueue) (n : Nat) : Bool := decide (q.readBck ≤ n) && decide (q.writeBck ≤ n)

/-- A read leaves the bank. -/
def State.takeRead (s : State) (bank : Nat) (x : Piece) : State :=
  (s.onBankq bank fun q => { q with reads := q.reads.erase x }).finishRead x

/-- The next read of a bank takes the read slot of the BCK; it completes, or starts the fills it waits for. One that
has waited for them completes in no slot of its own; where none can go on, the lines that are still missing are asked
for again (R196). -/
def State.readSlot (s : State) (bank : Nat) : State :=
  match s.nextRead bank with
  | none => ((s.bankq bank).reads.filter (fun x => x.looked)).foldl State.lookLines s
  | some x =>
    if x.looked then s.takeRead bank x
    else if !(s.bankq bank).mayRead s.bck then s
    else
      let s := s.onBankq bank fun q => { q with readBck := s.bck + 1 }
      let s := s.lookLines x
      if s.linesMissing x = [] then s.takeRead bank x
      else
        s.onBankq bank fun q =>
          { q with reads := q.reads.map (fun y => if y = x then { x with looked := true } else y) }

/-! ### Fills (R196, R197) -/

/-- A piece that has looked its lines up has seen one fail. -/
def Piece.lineFailed (x : Piece) (a : Nat) : Piece := if x.looked then { x with badLines := a :: x.badLines } else x

/-- Every piece and every SPIKE of a cluster that waits has seen a line fail. -/
def State.markBadLine (s : State) (c a : Nat) : State :=
  (List.range 16).foldl (fun s b => s.onBankq (16 * c + b) fun q =>
    { q with wbuf := q.wbuf.map (fun e => { e with piece := e.piece.lineFailed a })
             reads := q.reads.map (·.lineFailed a) })
    (s.onDisp c fun d =>
      { d with runs := d.runs.map (fun r => if r.looked then { r with badLines := a :: r.badLines } else r) })

/-- A fill fails: no line, SLINE_SPOIL (R197). -/
def State.fillFails (s : State) (c a : Nat) : State :=
  (s.onConv fun v => { v with irq := setBit v.irq 3 }).markBadLine c a

/-- A spoil mark that the scale cache consumes from a region with SAFETY = 1 is reported (R87, R327). -/
def State.fillMark (s : State) (c a : Nat) : State :=
  match s.regionAt a, s.locate a with
  | some (_, r), some (bank, row, off) =>
    if r.safety then
      s.report { code := 0x11, cluster := c, bank := bank % 16, port := 64, detail := some (faultPlace row (off / 32)) }
    else s
  | _, _ => s

/-- What the answer to a fill does: it installs the line, or fails (R197). -/
def State.fillEnds (s : State) (c a : Nat) (rs : List Resp) : State :=
  match answerFault rs, rs.head? with
  | some st, _ => (s.safetyRefusal 64 a st).fillFails c a
  | none, some r =>
    if r.spoil = 0 then s.onCache c (·.install a (BitVec.ofNat 256 (bytesAt r.data (a % 128) 32)))
    else (s.fillMark c a).fillFails c a
  | none, none => s.fillFails c a

/-- The fill of a line is over. -/
def State.dropFill (s : State) (c a : Nat) : State :=
  s.onCache c fun k => { k with fills := k.fills.filter (fun g => g.addr != a) }

/-- A fill with no request asks for its granule. One whose context is out of initiator 64's range, or whose owner may
not read the granule, is answered at the ingress (R98, R114, R196). -/
def State.beginFill (s : State) (c : Nat) (f : CacheFill) : State :=
  if !s.owns64 f.owner then ((s.dropFill c f.addr).count64.safetyRefusal 64 f.addr .perm).fillFails c f.addr
  else
    match s.rangeFails f.owner [.r] false f.addr 32 with
    | some st => ((s.dropFill c f.addr).safetyRefusal 64 f.addr st).fillFails c f.addr
    | none => s.askFill c f

/-- A fill whose line has been written or invalidated since it asked is asked again (R198). -/
def State.fillAgain (s : State) (c a id : Nat) (f : CacheFill) : State :=
  let g : CacheFill := { f with req := none, stale := false }
  ((s.takeAnswers id).onCache c fun k =>
    { k with fills := k.fills.map (fun h => if h.addr = a then g else h) }).beginFill c g

/-- The fill of a line ends, or is asked for (R196 to R198). -/
def State.fill (s : State) (c a : Nat) : State :=
  match (s.cache c).fills.find? (fun f => f.addr == a) with
  | none => s
  | some f =>
    match f.req with
    | some id =>
      match s.asked id with
      | some rs =>
        if f.stale then s.fillAgain c a id f else ((s.takeAnswers id).dropFill c a).fillEnds c a rs
      | none => s
    | none => s.beginFill c f

end Sys2Proof.Machine
end

