-- ==== Sys2Proof/Machine/Folds.lean ====
section
/-!
DEFINITION. Fold units: the effect of each operation, waiting, abandonment, freeing (09_folds.md,
R257 to R284).
-/

namespace Sys2Proof.Machine

/-! ### The effect of an operation (R267 to R271) -/

/-- TALLY_MAX (R257). -/
def tallyMax : Nat := 0x7FFFFFFF

/-- An operation is valid for the fold's kind with this VALUE (Table 9-2). -/
def foldValid (f : Fold) (op v : Nat) : Bool :=
  match op with
  | 0 => !f.tally
  | 1 => decide (1 ≤ v) && decide (v ≤ tallyMax)
  | 2 => f.tally && decide (1 ≤ v) && decide (v ≤ tallyMax)
  | 3 => !f.tally || decide (v ≤ tallyMax)
  | 4 => true
  | _ => false

/-- A WAIT for `v` is satisfied (R273). -/
def Fold.meets (f : Fold) (v : BitVec 32) : Bool :=
  if f.tally then decide (v.toNat ≤ f.value.toNat) else serialGe32 f.value v

/-- `n` arrivals at a barrier (R257, R267). -/
def Fold.arrive (f : Fold) (n : Nat) : Fold :=
  { f with value := f.value + BitVec.ofNat 32 ((f.arrived + n) / f.count)
           arrived := (f.arrived + n) % f.count }

/-- signal_256 (R269). -/
def Fold.signal256 (f : Fold) (n : Nat) : Fold × Status :=
  let r := min n f.deficit
  let v := f.value.toNat + (n - r)
  if tallyMax < v then
    ({ f with deficit := f.deficit - r, value := BitVec.ofNat 32 tallyMax, satHi := true }, .saturated)
  else ({ f with deficit := f.deficit - r, value := BitVec.ofNat 32 v }, .ok)

/-- consume_256 (R269). -/
def Fold.consume256 (f : Fold) (n : Nat) : Fold × Status :=
  if n ≤ f.value.toNat then ({ f with value := f.value - BitVec.ofNat 32 n }, .ok)
  else
    let d := f.deficit + (n - f.value.toNat)
    ({ f with value := 0, satLo := true, deficit := min d 0xFFFF
              deficitSat := f.deficitSat || decide (0xFFFF < d) }, .saturated)

/-- What applying an operation answers: the fold after, the status, TOKEN. -/
structure FoldOut where
  fold : Fold
  status : Status
  token : BitVec 32
deriving DecidableEq, Repr

/-- Every operation but an unsatisfied WAIT on an ACTIVE fold (Tables 9-3, 9-4, R269). An
unsatisfied WAIT answers DEFER and leaves the rest to the fold unit. -/
def Fold.active (m : Model) (f : Fold) (op v : Nat) : FoldOut :=
  match op with
  | 0 => { fold := f.arrive 1, status := .ok, token := f.value + 1 }
  | 1 =>
    if !f.tally then
      let g := f.arrive v
      { fold := g, status := .ok, token := g.value }
    else if m = .tm256 then
      let (g, st) := f.signal256 v
      { fold := g, status := st, token := g.value }
    else if f.value.toNat + v ≤ tallyMax then
      let g := { f with value := f.value + BitVec.ofNat 32 v }
      { fold := g, status := .ok, token := g.value }
    else { fold := f, status := .underflow, token := f.value }
  | 2 =>
    if m = .tm256 then
      let (g, st) := f.consume256 v
      { fold := g, status := st, token := g.value }
    else if v ≤ f.value.toNat then
      let g := { f with value := f.value - BitVec.ofNat 32 v }
      { fold := g, status := .ok, token := g.value }
    else { fold := f, status := .underflow, token := f.value }
  | 3 => { fold := f, status := if f.meets (BitVec.ofNat 32 v) then .ok else .defer, token := f.value }
  | _ => { fold := f, status := .ok, token := f.value }

/-- An operation on a fold in any state (R267 to R271). -/
def Fold.apply (m : Model) (f : Fold) (op v : Nat) : FoldOut :=
  if !foldValid f op v then { fold := f, status := .badParam, token := 0 }
  else
    match f.state with
    | .active => f.active m op v
    | .error => { fold := f, status := if op = 4 then .ok else .underflow, token := f.value }
    | .abandoned => { fold := f, status := if op = 4 then .ok else .abandoned, token := f.value }
    | _ => { fold := f, status := .abandoned, token := 0 }

/-! ### Waiters (R272 to R274) -/

/-- The lowest number below `n` that is not in use. -/
def lowestFree (n : Nat) (used : List Nat) : Option Nat :=
  (List.range n).find? (fun i => !used.contains i)

/-- The deadline XCK of a waiter lies in the past (R274). -/
def State.late (s : State) (w : Waiter) : Bool :=
  match w.deadline with
  | some t => decide (t < s.clock.acks) || (t == s.clock.acks && s.clock.xck % 32 != 0)
  | none => false

/-- The waiters of a fold whose condition holds are satisfied, with the value that satisfied them; one whose deadline
has passed before that ends with TIMEOUT (R273, R274). -/
def State.satisfy (s : State) (k : Nat) : State :=
  let f := s.fold k
  s.onFolds fun u =>
    { u with waiters := u.waiters.map fun w =>
        if w.cluster * 2048 + w.index = k ∧ w.ended = none ∧ f.meets w.v then
          { w with ended := some (if s.late w then .timeout else .wake), value := f.value }
        else w }

/-- Add a waiter with the fold's TIMEOUT (R272, R274, R276). -/
def State.addWaiter (s : State) (k ctx : Nat) (who : WaitWho) (v : BitVec 32) : State :=
  let t := (s.fold k).timeout
  s.onFolds fun u =>
    { u with
      nextWaiter := u.nextWaiter + 1
      waiters := u.waiters ++
        [{ order := u.nextWaiter, cluster := k / 2048, index := k % 2048, ctx := ctx, who := who, v := v
           deadline := if t = 0 then none else some (s.clock.acks + t) }] }

/-- A WAIT of a data port that is not satisfied (R111, R272): the answer and TOKEN. -/
def State.portWait (s : State) (k p ctx : Nat) (v : BitVec 32) : Status × BitVec 32 × State :=
  match lowestFree 128 (s.folds.slots.get [] p) with
  | none => (.overcommit, 0, s)
  | some i =>
    let n := s.folds.portCount.get 0 p
    let token := BitVec.ofNat 32 (i + n.toNat * 128)
    let s := s.onFolds fun u =>
      { u with slots := u.slots.modify [] p (i :: ·), portCount := u.portCount.set p (n + 1) }
    (.defer, token, s.addWaiter k ctx (.port p token) v)

/-- The waiters of a cluster's folds (FOLD_CWAIT). -/
def State.waitersOf (s : State) (c : Nat) : List Waiter := s.folds.waiters.filter (fun w => w.cluster == c)

/-- The waiter that the wake sequencer of a cluster ends next: the oldest DEFER (R273). -/
def State.nextWake (s : State) (c : Nat) : Option Waiter :=
  (s.waitersOf c).find? (fun w => w.ended.isSome)

/-- Take a waiter off. -/
def State.dropWaiter (s : State) (order : Nat) : State :=
  s.onFolds fun u => { u with waiters := u.waiters.filter (fun w => w.order != order) }

/-- A WAKE message is owed to a port (R111). -/
def State.oweWake (s : State) (p : Nat) (token : BitVec 32) (st : Status) : State :=
  s.onPort p fun q => { q with wakes := q.wakes ++ [{ tag := 0, wake := true, status := st, token := token }] }

/-- End a waiter of a fold unit with the status that ended it; TIMEOUT and REMOTE_LOST set their
flags (Table 9-13). -/
def State.endWaiter (s : State) (w : Waiter) (st : Status) : State :=
  let k := w.cluster * 2048 + w.index
  let s := s.dropWaiter w.order
  match st with
  | .timeout => s.foldEvent 4 k
  | .remoteLost => s.foldEvent 5 k
  | _ => s

/-! ### Abandonment (R281 to R283) -/

/-- Every waiter of a fold ends with a status; one whose deadline has passed before, with TIMEOUT (R274). -/
def State.endWaiters (s : State) (k : Nat) (st : Status) : State :=
  s.onFolds fun u =>
    { u with waiters := u.waiters.map fun w =>
        if w.cluster * 2048 + w.index = k ∧ w.ended = none then
          { w with ended := some (if s.late w then .timeout else st) } else w }

/-- A fold in ACTIVE or ERROR becomes ABANDONED; its waiters end with a status (R281). -/
def State.abandon (s : State) (k : Nat) (st : Status) : State :=
  if (s.fold k).state = .active ∨ (s.fold k).state = .error then
    ((s.onFold k fun f => { f with state := .abandoned }).endWaiters k st).foldEvent
      (if st = .remoteLost then 5 else 3) k
  else s

/-- Abandon every listed fold that a test names. -/
def State.abandonAll (s : State) (p : Fold → Bool) (st : Status) : State :=
  s.folds.folds.foldl (fun s e => if p e.2 then s.abandon e.1 st else s) s

/-- The folds that name a partner chip which is lost (R281, R307, R308). -/
def State.abandonPeer (s : State) (chip : Nat) : State :=
  s.abandonAll (fun f => f.peerEn && f.peer == chip) .remoteLost

/-- The same for every fold: what follows when translated requests are discarded (R280, R283). -/
def State.freeAllDying (s : State) : State := s.folds.folds.foldl (fun s e => s.freeDying e.1) s

/-! ### Applying operations -/

/-- The origin's refusal by UNDERFLOW puts the fold in ERROR (R270). -/
def FoldOrigin.errs : FoldOrigin → Bool
  | .cmd _ => false
  | _ => true

/-- Apply an operation to its fold: the status and TOKEN it is answered with. A port's WAIT that is
not satisfied takes a wake slot; a ring's is left to its command (R276). -/
def State.foldApply (s : State) (o : FoldOp) : Status × BitVec 32 × State :=
  let k := o.cluster * 2048 + o.index
  let f := s.fold k
  let r := f.apply s.cfg o.op o.value
  let s :=
    if o.origin.errs || !(r.status = .underflow ∨ r.status = .badParam) then
      (s.onFold k fun _ => { r.fold with ops := r.fold.ops + 1 }).onFolds fun u =>
        { u with cops := u.cops.modify 0 o.cluster (· + 1) }
    else s
  let s := if r.status = .saturated ∧ ¬ bitOf s.folds.irq.toNat 1 then s.foldEvent 1 k else s
  let s := if r.fold.deficitSat && !f.deficitSat then s.foldEvent 2 k else s
  let s := if r.fold.value = f.value then s else s.satisfy k
  let s :=
    if r.status = .underflow ∧ f.state = .active ∧ o.origin.errs then
      ((s.onFold k fun g => { g with state := .error }).foldEvent 0 k).onFolds fun u =>
        { u with refusedUnderflow := satAdd 0xFFFF u.refusedUnderflow 1 }
    else s
  match o.origin with
  | .port req =>
    if r.status = .defer then
      match s.outst? req with
      | some q => s.portWait k q.port o.ctx (BitVec.ofNat 32 o.value)
      | none => (.ok, r.token, s)
    else (r.status, r.token, s)
  | _ => (r.status, r.token, s)

/-- A MARK whose signal the fold refuses (R239). -/
def State.markBad (s : State) (cluster pop : Nat) : State :=
  (s.onDisp cluster fun d => { d with dropBad := satAdd 0xFFFF d.dropBad 1 }).evEvent 2 pop cluster

/-- The operation at the head of a fold unit's queue is applied and answered (R265, R266). -/
def State.foldHead (s : State) (c : Nat) : State :=
  match s.folds.queues.get [] c with
  | [] => s
  | o :: rest =>
    let s := s.onFolds fun u => { u with queues := u.queues.set c rest }
    let (st, token, s) := s.foldApply o
    let s := match o.origin with
      | .port req =>
        match s.outst? req with
        | some q => (s.answer q st token).pump q.port
        | none => s
      | .mark cl pop => if st = Status.ok ∨ st = Status.saturated then s else s.markBad cl pop
      | _ => s
    (s.freeDying (c * 2048 + o.index)).pumpAll

/-- Apply the operation at the head of a queue if it is of the given kind and its cluster runs. -/
def State.foldStep (s : State) (c op : Nat) : State :=
  match s.folds.queues.get [] c with
  | o :: _ => if o.op = op ∧ s.ready ∧ s.inRun c then s.foldHead c else s
  | [] => s

/-- Apply what stands before a command's own operation in the queue of its fold unit (R266). -/
def State.foldUpTo (s : State) (c token : Nat) : Nat → State
  | 0 => s
  | n + 1 =>
    match s.folds.queues.get [] c with
    | o :: _ => if o.origin = .cmd token then s else (s.foldHead c).foldUpTo c token n
    | [] => s

/-- The operation of a command leaves the queue, to be applied. -/
def State.foldTaken (s : State) (c token : Nat) : State :=
  s.onFolds fun u => { u with queues := u.queues.modify [] c (fun q => q.filter (fun o => o.origin != .cmd token)) }

/-- A command's own operation enters the queue of its fold unit in its place, and what stands before it is applied; it
is then the one to be applied (R266; that this happens within the step is log entry 60). -/
def State.foldTurn (s : State) (o : FoldOp) (token : Nat) : State :=
  let s := s.foldPush o
  (s.foldUpTo o.cluster token 256).foldTaken o.cluster token

/-- SIGNAL(+1) on a virtual fold of a context, for a flag or a MARK; `held` for one that Safe Hold has held (R277).
False where the fold does not translate. -/
def State.signalOne (s : State) (ctx v : Nat) (origin : FoldOrigin) (held : Bool) : Bool × State :=
  match s.translate ctx v with
  | some k =>
    (true, s.foldPush { origin := origin, op := 1, value := 1, cluster := k / 2048, index := k % 2048
                        ctx := ctx, rank := origin.rank 0 false, held := held })
  | none => (false, s)

/-- A SIGNAL that Safe Hold held has not been performed yet (R277). -/
def State.heldDue (s : State) : Bool := s.folds.queues.any (fun e => e.2.any (fun o => o.held))

end Sys2Proof.Machine
end

