-- ==== Sys2Proof/Machine/Shell.lean ====
section
/-!
DEFINITION. The control path: packets, records, the checks of R50, the start and the end of a
command, reply rings (02_control_path.md). Which opcode does what stands in the files of the
families; this file is what all of them share.
-/

namespace Sys2Proof.Machine

/-! ### Packets (Table 2-2) -/

/-- OPCODE. -/
def Cmd.op (c : Cmd) : Nat := bitsOf c.pkt.toNat 0 12
/-- LEN. -/
def Cmd.units (c : Cmd) : Nat := bitsOf c.pkt.toNat 12 4
/-- CONTEXT. -/
def Cmd.ctx (c : Cmd) : Nat := bitsOf c.pkt.toNat 16 10
/-- SEQ. -/
def Cmd.seq (c : Cmd) : Nat := bitsOf c.pkt.toNat 32 32
/-- AFTER_PREV. -/
def Cmd.afterPrev (c : Cmd) : Bool := bitOf c.pkt.toNat 64
/-- QUIET. -/
def Cmd.quiet (c : Cmd) : Bool := bitOf c.pkt.toNat 65
/-- IRQ. -/
def Cmd.irq (c : Cmd) : Bool := bitOf c.pkt.toNat 66
/-- SIGNAL. -/
def Cmd.signal (c : Cmd) : Bool := bitOf c.pkt.toNat 67
/-- FOLD. -/
def Cmd.fold (c : Cmd) : Nat := bitsOf c.pkt.toNat 96 15
/-- TAG. -/
def Cmd.tag (c : Cmd) : Nat := bitsOf c.pkt.toNat 112 16
/-- `n` bytes of the parameters from byte `i`. -/
def Cmd.par (c : Cmd) (i n : Nat) : Nat := bitsOf c.pkt.toNat (128 + 8 * i) (8 * n)
/-- `n` bits of the parameters from bit `lo` of byte `i`. -/
def Cmd.bits (c : Cmd) (i lo n : Nat) : Nat := bitsOf c.pkt.toNat (128 + 8 * i + lo) n
/-- One bit of the parameters. -/
def Cmd.flag (c : Cmd) (i lo : Nat) : Bool := bitOf c.pkt.toNat (128 + 8 * i + lo)
/-- The first `w` bits of the parameters: a descriptor. -/
def Cmd.desc (c : Cmd) (w : Nat) : BitVec w := BitVec.ofNat w (bitsOf c.pkt.toNat 128 w)

/-- SOURCE of a status record (Table 2-3). -/
def Source.code : Source → Nat
  | .ring n => n
  | .ctl => 0x10
  | .sp => 0x11
  | .mbox p _ _ => 0x40 + p

/-- Two packets come from the same source (R56). -/
def Source.same (a b : Source) : Bool := a.code == b.code

/-- A window source. -/
def Source.window : Source → Bool
  | .sp => true
  | .ctl => true
  | .ring _ => false
  | .mbox _ _ _ => false

/-- A status record with PHASE clear (Table 2-3). -/
def Cmd.record (c : Cmd) (r : Result) : BitVec 128 :=
  BitVec.ofNat 128
    (r.status.code + c.op * 2 ^ 8 + c.ctx * 2 ^ 20 + c.seq * 2 ^ 32 + c.tag * 2 ^ 64 +
      r.detail % 256 * 2 ^ 80 + c.src.code * 2 ^ 88 + r.result % 2 ^ 32 * 2 ^ 96)

/-- A record with PHASE 1: for every source but a reply ring (Table 2-3). -/
def withPhase (r : BitVec 128) : BitVec 128 := r ||| BitVec.ofNat 128 (2 ^ 31)

/-- BAD_PARAM with its DETAIL (Table 2-5). -/
def badParam (offset : Nat) : Result := { status := .badParam, detail := offset }

/-- The opcode is deferred: a D of Table 2-9, and a FOLD_OP that is a WAIT from a ring (R47). -/
def Cmd.defers (c : Cmd) : Bool :=
  [0x005, 0x306, 0x403, 0x404, 0x410, 0x500, 0x501, 0x502, 0x503, 0x612, 0x710, 0x712, 0x802,
    0x901].contains c.op ||
    (c.op == 0x304 && match c.src with | .ring _ => c.bits 2 0 8 == 3 | _ => false)

/-! ### What an opcode is made of -/

/-- The executor of a command (R51): for a Shepherd, the clusters the command names. -/
inductive Executor where
  | fast
  | safety
  | holder
  | half (clusters : List Nat)
deriving DecidableEq, Repr

/-- What carrying out a command answers: it ended, or its final record comes later. -/
inductive Act where
  | done (r : Result) (s : State)
  | running (s : State)

/-- An opcode of Table 2-9: its parameter units, its marks, and what its chapter gives it. -/
structure Body where
  code : Nat
  units : Nat
  path : Cmd → State → Executor
  sys : Bool := false
  q : Bool := false
  /-- The lifecycle state permits it (check 6). -/
  life : Cmd → State → Bool := fun _ _ => true
  /-- Its reply is written to local memory (R68). -/
  memory : Cmd → Bool := fun _ => false
  /-- Checks 9 to 11: the refusal, if there is one. -/
  check : Cmd → State → Option Result := fun _ _ => none
  /-- The clusters that its execution accesses (R368). -/
  touches : Cmd → State → List Nat := fun _ _ => []
  /-- The local ranges that it reads or writes as it acts: address, length, whether it writes (R117). -/
  spans : Cmd → State → List (Nat × Nat × Bool) := fun _ _ => []
  /-- Accepted before Safe Hold begins and waiting for an earlier command on its object, it completes (R147). -/
  pastHold : Bool := false
  /-- Why it cannot start yet, though no check refuses it. -/
  waits : Cmd → State → Option WaitFor := fun _ _ => none
  /-- The objects it holds, and RESULT of its DEFER record (R47, R53, R71). -/
  holds : Cmd → State → List Held := fun _ _ => []
  job : Cmd → State → Nat := fun _ _ => 0
  /-- Its effect; the number is its place in acceptance order. -/
  act : Nat → Cmd → State → Act
  /-- The local range of parameters that initiator 64 reads for it, as a ring fetch is read (R146, R164). -/
  fetch : Cmd → State → Option (Nat × Nat) := fun _ _ => none
  /-- Its effect once that range has been read. -/
  actGot : Got → Nat → Cmd → State → Act := fun _ => act

/-- The first refusal of a list of checks. -/
def firstRefusal : List (Option Result) → Option Result
  | [] => none
  | some r :: _ => some r
  | none :: t => firstRefusal t

/-- A refusal with a status where a condition holds. -/
def refuseIf (b : Bool) (r : Result) : Option Result := if b then some r else none

/-- The lowest offset of the fields that offend. -/
def lowest : List (Nat × Bool) → Option Nat
  | [] => none
  | (o, b) :: t =>
    match lowest t with
    | some m => if b then some (min o m) else some m
    | none => if b then some o else none

/-- The reserved bits of a parameter layout of `total` bits, by bytes: those that no field uses. -/
def reservedBytes (total : Nat) (uses : List (Nat × Nat)) : List (Nat × Nat) :=
  (List.range (total / 8)).map fun i =>
    (i, ((List.range 8).map (fun b =>
      if uses.any (fun u => decide (u.1 ≤ 8 * i + b) && decide (8 * i + b < u.1 + u.2)) then 0
      else 2 ^ b)).sum)

/-- Check 9 on a parameter layout (R50): the fields it uses, as bit and width, with the parameter
bytes whose value offends. DETAIL is the offset among the parameters of the first field that
offends, reserved bytes included (R14, Table 2-5; log entry 20). -/
def Cmd.params (c : Cmd) (uses : List (Nat × Nat)) (bad : List (Nat × Bool)) : Option Result :=
  let gaps := (reservedBytes (128 * c.units) uses).map
    (fun g => (g.1, decide (c.par g.1 1 &&& g.2 ≠ 0)))
  (lowest (gaps ++ bad)).map badParam

/-- A byte field of a layout. -/
def byteField (i n : Nat) : Nat × Nat := (8 * i, 8 * n)

/-! ### Objects held (R53) -/

/-- An object is held by a deferred command that has been accepted and has not completed. -/
def State.heldBy (s : State) (h : Held) : Bool :=
  s.cmd.deferred.any (fun d => d.holds.contains h) || s.cmd.waiting.any (fun w => w.holds.contains h)

/-- The state as a command finds it at its checks: what later commands hold is not there (R53). -/
def State.before (s : State) (token : Nat) : State :=
  s.onCmd fun k =>
    { k with deferred := k.deferred.filter (fun d => decide (d.token < token))
             waiting := k.waiting.filter (fun w => decide (w.token < token)) }

/-- The status with which a deferred command has to end at its next boundary (R68, R402). -/
def State.cut (s : State) (token : Nat) : Option Status :=
  match s.cmd.deferred.find? (fun d => d.token == token) with
  | some d => d.cut
  | none => none

/-- BUSY where one of these objects is held (check 10). -/
def State.busyOn (s : State) (hs : List Held) : Option Result :=
  refuseIf (hs.any s.heldBy) { status := .busy }

/-! ### Checks 1 to 8 (R50) -/

/-- A system source (Table 2-1). -/
def State.systemSource (s : State) : Source → Bool
  | .sp => true
  | .ctl => true
  | .ring n => (s.ring n).system
  | .mbox p _ _ => (s.port p).mboxSystem

/-- CONTEXT lies in the source's range; of a mailbox it is the request's (check 4, R66). -/
def State.contextOk (s : State) (c : Cmd) : Bool :=
  match c.src with
  | .sp => true
  | .ctl => true
  | .ring n =>
    let r := s.ring n
    decide (r.ctxBase.toNat ≤ c.ctx) && decide (c.ctx < r.ctxBase.toNat + r.ctxCount.toNat)
  | .mbox _ ctx _ => c.ctx == ctx

/-- The Shepherd that executes a firmware-path command, where there is one (R51). A number that the configuration
lacks counts as it stands: check 8 of a command that names an absent cluster or bank, which is made before check 9
refuses the number, goes by the half that number would lie in (DESIGN CHOICE, log entry 45). -/
def State.shepherd (s : State) : Executor → Option Bool
  | .half (c :: cs) =>
    let h := s.cfg.halfOf c
    if cs.all (fun d => s.cfg.halfOf d == h) then some h else s.holder
  | .half [] => s.holder
  | .holder => s.holder
  | .fast => none
  | .safety => none

/-- Check 8 passes: the executor is running (R52). -/
def State.executorUp (s : State) (e : Executor) : Bool :=
  match e with
  | .fast => true
  | .safety => true
  | .holder => match s.shepherd e with | some h => s.inService h | none => false
  | .half _ => match s.shepherd e with | some h => s.inService h | none => false

/-- A reserved header bit that is set: the offset of its field (check 1). -/
def Cmd.headerBad (c : Cmd) : Option Nat :=
  if bitsOf c.pkt.toNat 26 6 ≠ 0 then some 3
  else if bitsOf c.pkt.toNat 68 28 ≠ 0 then some 8
  else if bitOf c.pkt.toNat 111 then some 13
  else none

/-- Checks 7 and 8, which are made again when a command that waited starts (R50, R56, R68). A command
that a Shepherd has taken into its queue passes check 8 (R52). -/
def State.checkState (s : State) (b : Body) (queued : Bool) (c : Cmd) : Option Result :=
  if s.safety.hold ∧ (if b.q then b.memory c else decide (c.src ≠ .sp)) then
    some { status := .safeHold }
  else if !queued && !s.executorUp (b.path c s) then some { status := .notReady, detail := s.fw.state.code }
  else none

/-- Checks 1 to 8 (R50); no body where OPCODE is not in the index. -/
def State.checkHeader (s : State) (b : Option Body) (c : Cmd) : Option Result :=
  match c.headerBad with
  | some o => some (badParam o)
  | none =>
    match b with
    | none => some { status := .badOpcode }
    | some b =>
      if 0xA00 ≤ c.op ∧ c.src ≠ .sp then some { status := .perm, detail := 1 }
      else if b.sys ∧ ¬ s.systemSource c.src then some { status := .perm, detail := 2 }
      else if !s.contextOk c then some { status := .perm, detail := 3 }
      else if c.units ≠ b.units then some (badParam 1)
      else if !b.life c s then some { status := .lifecycle, detail := s.safety.lifecycle }
      else s.checkState b false c

/-- Checks 9 to 11, the fold of SIGNAL first (R50, R57). -/
def State.checkParams (s : State) (b : Body) (c : Cmd) : Option Result :=
  if c.signal ∧ (s.translate c.ctx c.fold).isNone then some (badParam 12) else b.check c s

/-! ### Reply rings (R61 to R64) -/

/-- Units of a ring that hold packets not yet accepted. -/
def Ring.present (r : Ring) : Nat :=
  (r.prod.toNat + 2 ^ (r.sizeLog2.toNat + 1) - r.cons.toNat) % 2 ^ (r.sizeLog2.toNat + 1)

/-- Free reply slots, less those reserved (R63). -/
def Ring.freeSlots (r : Ring) : Nat :=
  let m := r.replyLog2.toNat
  2 ^ m - (r.replyWr.toNat + 2 ^ (m + 1) - r.replyRd.toNat) % 2 ^ (m + 1) - r.reserved

/-- REPLY_CFG.SIZE_LOG2 is one of Table 2-7. -/
def Ring.replyOk (r : Ring) : Bool := decide (4 ≤ r.replyLog2.toNat) && decide (r.replyLog2.toNat ≤ 16)

/-- A ring gives up the fetch under way: its answers are not taken. -/
def State.endFetch (s : State) (n : Nat) : State :=
  let drop (s : State) (req : Nat) : State := (s.dropOutst req).takeAnswers req
  let s := match (s.ring n).fetch with
    | .head req => drop s req
    | .body req _ => drop s req
    | _ => s
  s.onRing n fun r => { r with fetch := .none }

/-- A ring halts (R60, R61, Table 2-7). -/
def State.haltRing (s : State) (n : Nat) (h : HaltCause) : State :=
  ((s.endFetch n).onRing n fun r => { r with halted := true, haltCause := h }).onCmd fun c =>
    { c with irqHalt := setBit c.irqHalt n }

/-- Tolls, bytes and slots of an access of initiator 64, one piece for each 128-byte row (R27, R163, R170). -/
def State.payRows (s : State) (write : Bool) : List (Nat × Nat) → State
  | [] => s
  | (a, n) :: t =>
    match s.locate a with
    | some (g, row, _) =>
      let merge := write && (a % 32 != 0 || n % 32 != 0)
      let s := ((s.countBytes 64).charge 64 (g / 16)
        (2 * s.tollArray + if merge then s.tollArray else 0)).wakeCluster (g / 16) 2
      ((if write then s.payMirror 64 g row else s).takeSlots g (!write || merge) write).payRows write t
    | none => s.payRows write t

/-- The clusters that a local range lies in. -/
def State.clustersOf (s : State) (a len : Nat) : List Nat :=
  ((rowParts a len).filterMap (fun p => (s.locate p.1).map (fun q => q.1 / 16))).eraseDups

/-- The clusters of a range that are not in RUN. -/
def State.sleeping (s : State) (cs : List Nat) : List Nat := cs.filter (fun c => !s.inRun c)

/-- Initiator 64 reads a range. -/
def State.initRead (s : State) (a len : Nat) : Got × State :=
  (s.payRows false (rowParts a len)).readRange a len

/-- Initiator 64 writes a range. -/
def State.initWrite (s : State) (a : Nat) (data : List Byte) : State :=
  ((s.payRows true (rowParts a data.length)).writeRange a data).2.2

/-- The address of the next record of a reply ring (R62). -/
def Ring.replyAddr (r : Ring) : Nat :=
  r.replyBase.toNat * 256 + 16 * (r.replyWr.toNat % 2 ^ r.replyLog2.toNat)

/-- One slot that is no longer needed. -/
def State.freeSlot (s : State) (n k : Nat) : State :=
  s.onRing n fun r => { r with reserved := r.reserved - k }

/-- No piece that was accepted earlier, or is on its way, orders an access to a row (R28, R117). -/
def State.rowFree (s : State) (bank row : Nat) (write : Bool) : Bool :=
  let clear (x : Piece) : Bool := !(x.bank == bank && x.row == row && (write || !x.reads))
  (s.sub (bank / 2)).queue.all clear && (s.port 64).pieces.all clear && (s.bankq bank).reads.all clear &&
    (s.bankq bank).copy.all clear && (s.bankq bank).wbuf.all (fun e => clear e.piece)

/-- The rows of a local range are free. -/
def State.spanFree (s : State) (a len : Nat) (write : Bool) : Bool :=
  (rowParts a len).all fun p =>
    match s.locate p.1 with
    | some (bank, row, _) => s.rowFree bank row write
    | none => true

/-- The status and the address with which the record in front of a reply ring is refused: by the context range of
initiator 64, or by its range (R61, R114). -/
def State.recordStops (s : State) (r : Ring) : Option (Status × Nat) :=
  if !s.owns64 r.ctxBase.toNat then some (.perm, r.replyAddr)
  else s.rangeStops r.ctxBase.toNat [.w] false r.replyAddr 16

/-- The record in front of a reply ring cannot be written: its refusal or the ring's configuration stands against it
(R61). -/
def State.recordFails (s : State) (r : Ring) : Bool := !r.replyOk || (s.recordStops r).isSome

/-- The refusal of a record is counted and reported as that of a request (R87, R114). -/
def State.noteRecord (s : State) (r : Ring) : State :=
  match s.recordStops r with
  | some x => (if s.owns64 r.ctxBase.toNat then s else s.count64).safetyRefusal 64 x.2 x.1
  | none => s

/-- A record write is asked for (R61, R68, R123, R277, R368): not in Safe Hold nor before the SIGNALs that it held, and
not while its cluster has to wake. -/
def State.askRecord (s : State) (o : OutRecord) : Option OutRecord × State :=
  let r := s.ring o.ring
  if s.safety.hold || s.heldDue then (some o, s)
  else if s.recordFails r then
    (none, ((if r.replyOk then s.noteRecord r else s).freeSlot o.ring 1).haltRing o.ring .replyWrite)
  else
    match s.sleeping (s.clustersOf r.replyAddr 16) with
    | c :: _ => (some o, s.wakeCluster c 1)
    | [] =>
      if !s.mayAsk false then (some o, s)
      else
        let words := if bitOf r.replyWr.toNat r.replyLog2.toNat then o.words else withPhase o.words
        let (id, s) := s.askWrite 1 r.ctxBase.toNat r.replyAddr (toBytes 16 words.toNat)
        (some { o with req := some id }, s)

/-- A record write has completed: REPLY_WR advances past it, and DONE is raised where it is asked for (R62, R469). -/
def State.recordWritten (s : State) (o : OutRecord) (req : Nat) : State :=
  let m := (s.ring o.ring).replyLog2.toNat
  let s := ((s.takeAnswers req).onRing o.ring fun r =>
    { r with replyWr := BitVec.ofNat 17 ((r.replyWr.toNat + 1) % 2 ^ (m + 1)) }).freeSlot o.ring 1
  if o.done then s.onCmd fun c => { c with irqDone := setBit c.irqDone o.ring } else s

/-- What becomes of the oldest record of a ring: it is asked for, it waits, or it has been written and is gone. -/
def State.moveRecord (s : State) (o : OutRecord) : Option OutRecord × State :=
  match o.req with
  | none => s.askRecord o
  | some id =>
    match s.asked id with
    | none => (some o, s)
    | some _ => (none, s.recordWritten o id)

/-- Each ring's records in order, one at a time; answers what is left. -/
def State.moveRecords (s : State) (blocked : List Nat) : List OutRecord → List OutRecord × State
  | [] => ([], s)
  | o :: t =>
    if blocked.contains o.ring then
      let (l, s) := s.moveRecords blocked t
      (o :: l, s)
    else
      let (o', s) := s.moveRecord o
      let (l, s) := s.moveRecords (if o'.isSome then o.ring :: blocked else blocked) t
      (o'.toList ++ l, s)

/-- Go on with the records. -/
def State.flushRecords (s : State) : State :=
  let (l, s) := s.moveRecords [] s.cmd.records
  s.onCmd fun c => { c with records := l }

/-- A record for a reply ring (R62, R469). -/
def State.queueRecord (s : State) (n token : Nat) (c : Cmd) (r : Result) (final : Bool) : State :=
  (s.onCmd fun k =>
    { k with records := k.records ++
      [{ ring := n, token := token, words := c.record r, done := final && (c.irq || decide (0x10 ≤ r.status.code)) }] })
    |>.flushRecords

/-! ### Records (R46, R47, R65 to R67, R469) -/

/-- Change a command window. -/
def State.onWindow (s : State) (sp : Bool) (f : CmdWindow → CmdWindow) : State :=
  s.onCmd fun k => if sp then { k with sp := f k.sp } else { k with ctl := f k.ctl }

/-- The CMD request that a mailbox command came with. -/
def State.cmdRequest? (s : State) (p ctx tag : Nat) : Option Outst :=
  s.xbar.outst.find? (fun o => o.port == p && o.op == 7 && o.ctx == ctx && o.tag == tag && o.sent)

/-- The response that completes a CMD request (R66, R67). -/
def State.answerCmd (s : State) (p ctx tag : Nat) (st : Status) (rec : BitVec 128) : State :=
  match s.cmdRequest? p ctx tag with
  | some o =>
    ((s.present o { tag := o.tag, status := st, data := (withPhase rec).setWidth 1024 }).ended o st).pump p
  | none => s

/-- A DEFER record, which QUIET suppresses on a ring (R47, R469). -/
def State.interim (s : State) (token : Nat) (c : Cmd) (r : Result) : State :=
  match c.src with
  | .sp => s.onWindow true fun w => { w with reply := withPhase (c.record r) }
  | .ctl => s.onWindow false fun w => { w with reply := withPhase (c.record r) }
  | .ring n => if c.quiet then s.freeSlot n 1 else s.queueRecord n token c r false
  | .mbox p ctx tag => s.answerCmd p ctx tag r.status (c.record r)

/-- Put a final record into a reply ring, with `k` slots reserved for it, or leave it out under
QUIET (R47, R63). A record left out raises no DONE bit, whatever IRQ says (DESIGN CHOICE, log entry 46). -/
def State.finalTo (s : State) (n k token : Nat) (c : Cmd) (r : Result) : State :=
  if c.quiet ∧ r.status = .ok then s.freeSlot n k else (s.freeSlot n (k - 1)).queueRecord n token c r true

/-- A final record; `d` is the deferred command it belongs to, if its DEFER record has been
written. -/
def State.final (s : State) (token : Nat) (c : Cmd) (d : Option Deferred) (r : Result) : State :=
  let shown (w : CmdWindow) : CmdWindow :=
    { w with reply := withPhase (c.record r), busy := false, done := true }
  match c.src with
  | .sp => s.onWindow true shown
  | .ctl => s.onWindow false shown
  | .ring n => s.finalTo n (if d.isNone && c.defers then 2 else 1) token c r
  | .mbox p ctx tag =>
    match d with
    | none => s.answerCmd p ctx tag r.status (c.record r)
    | some d => match d.reply with | some n => s.finalTo n 1 token c r | none => s

/-! ### The end of a command -/

/-- SIGNAL(+1) on FOLD once the final status is known; held in Safe Hold, in acceptance order (R57, R277). -/
def State.signalFor (s : State) (token : Nat) (c : Cmd) : State :=
  if !c.signal then s
  else if s.safety.hold then
    s.onFolds fun f =>
      { f with heldSignals := f.heldSignals.filter (fun h => decide (h.1 ≤ token)) ++ [(token, c.ctx, c.fold)] ++
                 f.heldSignals.filter (fun h => decide (token < h.1)) }
  else (s.signalOne c.ctx c.fold (.flag token) false).2

/-- A command ends: SIGNAL, then its final record (R47, R57). -/
def State.finish (s : State) (token : Nat) (c : Cmd) (r : Result) : State :=
  let d := s.cmd.deferred.find? (fun d => d.token == token)
  let s := s.onCmd fun k =>
    { k with deferred := k.deferred.filter (fun d => d.token != token)
             waiting := k.waiting.filter (fun w => w.token != token) }
  (s.signalFor token c).final token c d r

/-! ### The start of a command -/

/-- The command waits, in the queue of a Shepherd if one has taken it. -/
def State.await (s : State) (token : Nat) (c : Cmd) (half : Option Bool) (why : WaitFor) : State :=
  s.onCmd fun k =>
    { k with waiting := k.waiting ++ [{ token := token, cmd := c, why := why, half := half }] }

/-- The same for a command that has not started: a deferred one holds its objects (R53). -/
def State.awaitStart (s : State) (b : Body) (token since : Nat) (c : Cmd) (half : Option Bool) (why : WaitFor) :
    State :=
  s.onCmd fun k =>
    { k with waiting := k.waiting ++
      [{ token := token, cmd := c, why := why, half := half, holds := if c.defers then b.holds c s else []
         since := since }] }

/-- A deferred command is entered, and its DEFER record is written (R47, R53, R63, R67). -/
def State.defer (s : State) (b : Body) (token since : Nat) (c : Cmd) : State :=
  let reply := match c.src with
    | .ring n => some n
    | .mbox p _ _ =>
      if (s.port p).mboxReplyEn then some (s.port p).mboxReplyRing.toNat else none
    | _ => none
  let s := match c.src, reply with
    | .mbox _ _ _, some n => s.onRing n fun r => { r with reserved := r.reserved + 1 }
    | _, _ => s
  let d : Deferred :=
    { token := token, cmd := c, holds := b.holds c s, reply := reply, half := s.shepherd (b.path c s)
      since := since }
  (s.onCmd fun k => { k with deferred := k.deferred ++ [d] }).interim token c
    { status := .defer, result := b.job c s }

/-- A deferred mailbox command needs a reply slot that is not free (R63, R67). -/
def State.slotMissing (s : State) (c : Cmd) : Bool :=
  match c.src with
  | .mbox p _ _ =>
    c.defers && (s.port p).mboxReplyEn &&
      decide ((s.ring (s.port p).mboxReplyRing.toNat).freeSlots = 0)
  | _ => false

/-- Why a command that passes its checks cannot start yet. -/
def State.mustWait (s : State) (b : Body) (c : Cmd) : Option WaitFor :=
  if s.sleeping (b.touches c s) ≠ [] then some .wake
  else if s.slotMissing c then some .replySlot
  else if (b.spans c s).any (fun x => !s.spanFree x.1 x.2.1 x.2.2) || ((b.fetch c s).isSome && !s.mayAsk true) then
    some .object
  else b.waits c s

/-- The state as checks 7 to 11 judge a command by: Safe Hold does not stop one that was accepted before it began and
has waited since, but for AFTER_PREV (R56, R147). -/
def State.judged (s : State) (b : Body) (why : Option WaitFor) : State :=
  if b.pastHold ∧ why ≠ none ∧ why ≠ some .prev then s.onSafety fun y => { y with hold := false } else s

/-- The refusal of a command among checks 7 to 11. -/
def State.judgment (s : State) (b : Body) (token : Nat) (queued : Bool) (why : Option WaitFor) (c : Cmd) :
    Option Result :=
  ((s.judged b why).checkState b queued c).or (((s.judged b why).before token).checkParams b c)

/-- A DECERR or PERM for a range of a command is reported where its address lies in a region with SAFETY = 1 (R49,
R87). -/
def State.noteRange (s : State) (r : Result) : State :=
  match r.refused with
  | some a => s.safetyRefusal 64 a r.status
  | none => s

/-- A command is refused with a range that it names. -/
def State.refuse (s : State) (token : Nat) (c : Cmd) (r : Result) : State := (s.noteRange r).finish token c r

/-- Initiator 64 may not present the context for which a command's own accesses are made (R114). The refusal has the
DETAIL of a context out of range (Table 2-5; log entry 63). -/
def State.barredBy (s : State) (b : Body) (c : Cmd) : Option Result :=
  if (b.memory c || !(b.spans c s).isEmpty) && !s.owns64 c.ctx then
    some { status := .perm, detail := 3, refused := (b.spans c s).head?.map Prod.fst }
  else none

/-- Checks 7 to 11 have passed and nothing is to be waited for: DEFER, then the effect (R47). Parameters in memory are
read first, as a ring fetch is (R61, R146, R164). -/
def State.start (s : State) (b : Body) (token since : Nat) (half : Option Bool) (c : Cmd) : State :=
  let s := (b.touches c s).foldl (fun s k => s.wakeCluster k 2) s
  match b.fetch c s with
  | some (a, n) =>
    let (id, s) := s.askRead 1 c.ctx a n
    s.onCmd fun k =>
      { k with waiting := k.waiting ++
        [{ token := token, cmd := c, why := .reading id, half := half, since := since }] }
  | none =>
    let s := if c.defers then s.defer b token since c else s
    match b.act token c s with
    | .done r s => s.finish token c r
    | .running s => s

/-- Checks 7 to 11, then the effect (R50, R56); `why` it has waited, if it has. A command that passes them and has to
wait writes its DEFER record, and meets checks 9 to 11 again, when it starts: R47 and R51 leave open whether the record
comes before the wait (DESIGN CHOICE, log entry 63). -/
def State.begin (s : State) (b : Body) (token since : Nat) (queued : Option Bool) (why : Option WaitFor) (c : Cmd) :
    State :=
  match s.judgment b token queued.isSome why c with
  | some r => s.refuse token c r
  | none =>
    match s.barredBy b c with
    | some r => s.count64.refuse token c r
    | none =>
      match (s.before token).mustWait b c with
      | some why =>
        (s.sleeping (b.touches c s)).foldl (fun s k => s.wakeCluster k 2)
          (s.awaitStart b token since c (queued.or (s.shepherd (b.path c s))) why)
      | none => s.start b token since (queued.or (s.shepherd (b.path c s))) c

/-- A command that waits in this way has started. -/
def WaitFor.started : WaitFor → Bool
  | .prev => false
  | .turn => false
  | .wake => false
  | .replySlot => false
  | .object => false
  | .ownSwap => true
  | .droverQueue => false
  | .settle _ _ => true
  | .portPieces _ => true
  | .reading _ => true

/-- An earlier command of a source has not started yet. -/
def State.turnTaken (s : State) (src : Source) (token : Nat) : Bool :=
  s.cmd.waiting.any (fun w => w.cmd.src.same src && decide (w.token < token) && !w.why.started)

/-- SOURCE of a record. -/
def OutRecord.source (o : OutRecord) : Nat := bitsOf o.words.toNat 88 8

/-- An earlier command of a source has not written its final record (R56). -/
def State.prevRuns (s : State) (src : Source) (token : Nat) : Bool :=
  s.cmd.waiting.any (fun w => w.cmd.src.same src && decide (w.token < token)) ||
    s.cmd.deferred.any (fun d => d.cmd.src.same src && decide (d.token < token)) ||
    s.cmd.records.any (fun o => o.source == src.code && decide (o.token < token))

/-- The MCK of the moment: eight XCK (R35). -/
def State.mck (s : State) : Nat := s.clock.xck / 8

/-- A packet is accepted: checks 1 to 8, then AFTER_PREV and the order of its source (R50, R56). -/
def State.accept (s : State) (b : Option Body) (c : Cmd) : State :=
  let token := s.cmd.accepted
  let s := s.onCmd fun k => { k with accepted := k.accepted + 1, acceptMck := s.mck + 1 }
  match s.checkHeader b c with
  | some r => s.finish token c r
  | none =>
    match b with
    | none => s
    | some b =>
      if c.afterPrev && s.prevRuns c.src token then s.awaitStart b token s.clock.xck c none .prev
      else if s.turnTaken c.src token then s.awaitStart b token s.clock.xck c none .turn
      else s.begin b token s.clock.xck none none c

/-- What ends a wait is an event of its own, not the condition of the block. -/
def WaitFor.ownEvent (w : WaitFor) : Bool := w.started || decide (w = .prev)

/-- A waiting command that the condition of the block no longer holds back, AFTER_PREV aside. -/
def State.ripe (s : State) (find : Nat → Option Body) (w : Waiting) : Bool :=
  !w.why.ownEvent &&
    !s.turnTaken w.cmd.src w.token &&
    match find w.cmd.op with
    | some b => ((s.judged b (some w.why)).checkState b w.half.isSome w.cmd).isSome ||
      ((s.before w.token).mustWait b w.cmd).isNone
    | none => false

/-- A waiting command starts. -/
def State.resume (s : State) (b : Body) (w : Waiting) : State :=
  (s.onCmd fun k => { k with waiting := k.waiting.filter (fun x => x.token != w.token) }).begin b
    w.token w.since w.half (some w.why) w.cmd

/-- What initiator 64 has read of a range: its bytes, and the places of its marked granules (R326). -/
def gotOf (rs : List Resp) (a n : Nat) : Got :=
  let bs := answerBytes rs a n
  { bytes := bs.map Prod.fst
    marked := ((granuleParts a n).filter (fun p => (bs.getD (p.1 - a) (0, false)).2)).map (fun p => p.1 - a) }

/-- The parameters in memory of a waiting command have been read: checks 7 to 11 are made again, as for every command
that waited, and it has its effect, unless the read failed (R49, R61). -/
def State.readOver (s : State) (find : Nat → Option Body) (w : Waiting) : Option State :=
  match w.why, find w.cmd.op with
  | .reading id, some b =>
    match s.asked id, b.fetch w.cmd s with
    | some rs, some (a, n) =>
      let s := (s.takeAnswers id).onCmd fun k => { k with waiting := k.waiting.filter (fun x => x.token != w.token) }
      match answerFault rs with
      | some st => some (s.refuse w.token w.cmd { status := st, refused := some a })
      | none =>
        match s.judgment b w.token w.half.isSome (some w.why) w.cmd with
        | some r => some (s.refuse w.token w.cmd r)
        | none =>
          match b.actGot (gotOf rs a n) w.token w.cmd s with
          | .done r s => some (s.finish w.token w.cmd r)
          | .running s => some s
    | _, _ => none
  | _, _ => none

/-- COMMAND_START_AFTER_PREV: every earlier command of the source has written its final record
(R56). -/
def State.startAfterPrev (s : State) (find : Nat → Option Body) (token : Nat) : State :=
  match s.cmd.waiting.find? (fun w => w.token == token) with
  | some w =>
    if w.why = .prev ∧ ¬ s.prevRuns w.cmd.src token then
      match find w.cmd.op with
      | some b => s.resume b w
      | none => s
    else s
  | none => s

end Sys2Proof.Machine
end

