-- ==== Sys2Proof/Machine/Admission.lean ====
section
/-!
DEFINITION. Guarantees: their reserves, the checks of admission, the toll budget (R163 to R172).
-/

namespace Sys2Proof.Machine

/-! ### Stall tables as admission sees them (R165, R170) -/

/-- The applied entries of a copy that an initiator owns on a side. -/
def StallCopy.owned (c : StallCopy) (p : Nat) (read : Bool) : List Nat :=
  (c.entries.filter (fun e => decide (e.1 < c.len) && entryOwner e.2 read == some p)).map Prod.fst

/-- The gaps between successive indices of a list, rising, in a copy of length `len`, the one that
wraps included. -/
def gapsOf (len : Nat) : List Nat → List Nat
  | [] => []
  | i :: t => (((i :: t).zip (t ++ [i + len])).map (fun p => p.2 - p.1))

/-- What the checks of admission look at. -/
structure Book where
  /-- The records, each with its index in the set; admitted ones stand before it. -/
  admitted : List (BitVec 256)
  set : List (BitVec 256)
  copy : Nat → Bool → StallCopy
  subs : Nat
  w : Nat
  tollRd : Nat
  tollWr : Nat
  tbGuar : Nat
  qcap : Nat → Nat
  wcap : Nat → Nat
  budget : Nat → Nat

/-- A check that fails: its number, the index, the sub-port, the copy. -/
structure Failing where
  check : Nat
  index : Nat
  sub : Nat := 0
  shadow : Bool := false
deriving DecidableEq, Repr

/-- The OVERCOMMIT of a failing check; `own` is false for commands that name no set (R165, R168). -/
def Failing.result (f : Failing) (own : Bool) : Result :=
  { status := .overcommit, detail := f.check
    result := (if own then f.index else 0xFF) + f.sub * 2 ^ 8 + bit f.shadow * 2 ^ 16 }

/-- TOLL_RD_MAX or TOLL_WR_MAX of a side. -/
def Book.tollMax (b : Book) (read : Bool) : Nat := if read then b.tollRd else b.tollWr

/-- The allowance A of a share-only record (R170). -/
def Book.allowance (b : Book) (g : BitVec 256) : Nat :=
  let units := (guRate g + 127) / 128
  if guSide g = 1 then units * b.tollRd
  else if guSide g = 2 then units * b.tollWr
  else 2 * (units * b.tollWr)

/-- Q_STALL of a list of records (R170). -/
def Book.qStall (b : Book) (gs : List (BitVec 256)) : Nat :=
  ((List.range b.subs).map fun n =>
    let who := ((gs.filter (fun g => bitOf (guMask g) n)).map guInit).eraseDups
    let side (shadow read : Bool) : Nat :=
      let c := b.copy n shadow
      let k := (who.map (fun p => (c.owned p read).length)).sum
      (k * b.w + c.len - 1) / c.len * b.tollMax read
    if who = [] then 0
    else max (side false true + side false false) (side true true + side true false)).sum

/-- Q_SHARE of a list of records (R170). -/
def Book.qShare (b : Book) (gs : List (BitVec 256)) : Nat :=
  ((gs.filter guShareOnly).map b.allowance).sum

/-- Checks 1 and 2: the reserves of all records, and of an initiator against its cap. -/
def reservesOk (field : BitVec 256 → Nat) (limit : Nat) (cap : Nat → Nat) (gs : List (BitVec 256)) :
    Bool :=
  decide ((gs.map field).sum ≤ limit) &&
    gs.all (fun g => decide (((gs.filter (fun h => guInit h == guInit g)).map field).sum ≤ cap (guInit g)))

/-- The stall gaps of one record on one side, at one sub-port, in one copy (check 3). -/
def Book.gapsOk (b : Book) (g : BitVec 256) (read : Bool) (n : Nat) (shadow : Bool) : Bool :=
  let c := b.copy n shadow
  let own := c.owned (guInit g) read
  let limit := guTgt g read - (if read then 17 else 13)
  [0, 1].all fun parity =>
    let mine := own.filter (fun i => i % 2 == parity)
    !mine.isEmpty && (gapsOf c.len mine).all (fun d => decide (d ≤ limit))

/-- The booked rate of one record on one side in one copy (check 4). -/
def Book.rateOk (b : Book) (g : BitVec 256) (read shadow : Bool) : Bool :=
  let share (n : Nat) : Rat :=
    let c := b.copy n shadow
    if bitOf (guMask g) n then ((c.owned (guInit g) read).length : Rat) / (c.len : Rat) else 0
  decide ((guRate g : Rat) ≤ ((List.range b.subs).map share).sum * (b.w : Rat) * 128)

/-- The sub-port and copy at which check 3 fails for a record. -/
def Book.gapFails (b : Book) (g : BitVec 256) : Option (Nat × Bool) :=
  ((List.range b.subs).flatMap (fun n => [(n, false), (n, true)])).find? fun x =>
    bitOf (guMask g) x.1 &&
      [true, false].any (fun read => guTgt g read != 0 && !b.gapsOk g read x.1 x.2)

/-- The copy at which check 4 fails for a record, with a sub-port for RESULT. The check is one over all the sub-ports of
the mask, and R165 does not say which of them RESULT names: the lowest here, and the active copy is judged first.
DESIGN CHOICE (log entry 64). -/
def Book.rateFails (b : Book) (g : BitVec 256) : Option (Nat × Bool) :=
  if guShareOnly g then none
  else
    match [false, true].find? (fun sh =>
      [true, false].any (fun read => guNames g read && !b.rateOk g read sh)) with
    | some sh => some (((List.range b.subs).find? (fun n => bitOf (guMask g) n)).getD 0, sh)
    | none => none

/-- Bytes a window that the records of an initiator ask for (check 6). -/
def bytesAsked (gs : List (BitVec 256)) (p : Nat) : Nat :=
  ((gs.filter (fun g => guInit g == p)).map (fun g => guRate g * (if guSide g = 3 then 2 else 1))).sum

/-- Check 6 for an initiator. -/
def Book.budgetOk (b : Book) (gs : List (BitVec 256)) (p : Nat) : Bool :=
  b.budget p == 0 || decide (bytesAsked gs p ≤ b.budget p * 128)

/-- Check 8 for a record. -/
def targetsOk (g : BitVec 256) : Bool :=
  ((guTgtRd g == 0 && guTgtWr g == 0) || decide (2 ≤ guQres g)) &&
    (guTgtWr g == 0 || decide (1 ≤ guWres g))

/-- The first index of the set at which a test of the records up to it fails. -/
def Book.firstFail (b : Book) (ok : List (BitVec 256) → BitVec 256 → Bool) : Option Nat :=
  (List.range b.set.length).find? fun i =>
    !ok (b.admitted ++ b.set.take (i + 1)) (b.set.getD i 0)

/-- Checks 1 and 2 (R165). -/
def Book.checkReserves (b : Book) : Option Failing :=
  match b.firstFail (fun gs _ => reservesOk guQres 24 b.qcap gs) with
  | some i => some { check := 1, index := i }
  | none =>
    (b.firstFail (fun gs _ => reservesOk guWres 12 b.wcap gs)).map (fun i => { check := 2, index := i })

/-- Checks 3 and 4. -/
def Book.checkStalls (b : Book) : Option Failing :=
  match b.firstFail (fun _ g => (b.gapFails g).isNone) with
  | some i =>
    match b.gapFails (b.set.getD i 0) with
    | some (n, sh) => some { check := 3, index := i, sub := n, shadow := sh }
    | none => none
  | none =>
    match b.firstFail (fun _ g => (b.rateFails g).isNone) with
    | some i =>
      match b.rateFails (b.set.getD i 0) with
      | some (n, sh) => some { check := 4, index := i, sub := n, shadow := sh }
      | none => none
    | none => none

/-- Check 5. -/
def Book.checkTolls (b : Book) : Option Failing :=
  (b.firstFail (fun gs _ => decide (b.qStall gs + b.qShare gs ≤ b.tbGuar))).map
    (fun i => { check := 5, index := i })

/-- Checks 1 to 8, in order (R165). -/
def Book.check (b : Book) : Option Failing :=
  ((((b.checkReserves.or b.checkStalls).or b.checkTolls).or
    ((b.firstFail (fun gs g => b.budgetOk gs (guInit g))).map (fun i => { check := 6, index := i }))).or
    ((b.firstFail (fun gs _ => decide (gs.length ≤ 256))).map (fun i => { check := 7, index := i }))).or
    ((b.firstFail (fun _ g => targetsOk g)).map (fun i => { check := 8, index := i }))

/-! ### The toll budget (R172) -/

/-- The band of a temperature (Table 6-4). -/
def bandOf (t : Nat) : Nat :=
  if t ≤ 20 then 0 else if t ≤ 35 then 1 else if t ≤ 50 then 2 else if t ≤ 65 then 3
  else if t ≤ 80 then 4 else if t ≤ 95 then 5 else if t ≤ 110 then 6 else 7

/-- T_CRIT. -/
def tCrit : Nat := 110

/-- P_eff (R172). -/
def effective (limit tHi t : Nat) : Nat :=
  if t ≤ tHi then limit else if tCrit ≤ t then 0 else limit * (tCrit - t) / (tCrit - tHi)

/-- TB of a temperature (R172), for a limit, T_HI and operating point. -/
def Gov.budgetFor (g : Gov) (eco : Bool) (limit tHi t : Nat) : Nat :=
  1000 * max g.floor
    (effective limit tHi t - (if eco then g.leakEco else g.leakNom).get 0 (bandOf t) - g.ctrl)

/-- XCK of a window at an operating point (R163). -/
def windowAtPoint (eco : Bool) : Nat := if eco then 1200 else 1600

/-- LIMIT, T_HI and GUAR_TEMP as the last POWER_LIMIT_SET left them (R178). -/
def Gov.limits (g : Gov) : Nat × Nat × Nat := g.limitNext.getD (g.limit, g.tHi, g.guarTemp)

/-- The book of the block at an operating point, every admitted record taken as the set. -/
def State.bookAt (s : State) (eco : Bool) : Book :=
  { admitted := []
    set := s.gov.guarantees
    copy := fun n sh => if sh then (s.sub n).shd else (s.sub n).act
    subs := 8 * s.cfg.clusters
    w := windowAtPoint eco
    tollRd := if eco then 153 else 204
    tollWr := if eco then 252 else 336
    tbGuar := s.gov.budgetFor eco s.gov.limits.1 s.gov.limits.2.1 s.gov.limits.2.2
    qcap := fun p => (s.port p).qcap
    wcap := fun p => (s.port p).wcap
    budget := fun p => (s.port p).budgetNext }

/-- The book at the operating point in force. -/
def State.book (s : State) : Book := s.bookAt s.power.eco

/-- Q_STALL and Q_SHARE follow the records, the stall tables and the operating point (R166, R169,
R170). -/
def State.reckon (s : State) : State :=
  let b := s.book
  s.onGov fun g => { g with qStall := b.qStall g.guarantees, qShare := b.qShare g.guarantees }

/-- GUARDED follows the masks of the admitted records (R166, R169). -/
def State.guard (s : State) : State :=
  (List.range (8 * s.cfg.clusters)).foldl
    (fun s n =>
      let b := s.gov.guarantees.any (fun g => bitOf (guMask g) n)
      if (s.sub n).guarded = b then s else s.onSub n fun u => { u with guarded := b }) s

end Sys2Proof.Machine
end

