-- ==== Sys2Proof/Machine/CmdCrossbar.lean ====
section
/-!
DEFINITION. The commands of the control path, the crossbar, the stall tables and the regulator
(Tables 2-9, 4-10, 5-3, 6-7).
-/

namespace Sys2Proof.Machine

/-- The command ends OK with this state. -/
def Act.ok (s : State) : Act := .done { status := .ok } s

/-- The holder of the crook token executes the opcode (R51). -/
def onHolder : Cmd → State → Executor := fun _ _ => .holder

/-- The fast path executes the opcode. -/
def onFast : Cmd → State → Executor := fun _ _ => .fast

/-- The safety sequencer executes the opcode. -/
def onSafety : Cmd → State → Executor := fun _ _ => .safety

/-! ### 02: NOP, ECHO, QUERY_STATE -/

/-- NOP (R69). -/
def bodyNop : Body :=
  { code := 0x000, units := 0, path := onFast, q := true, act := fun _ _ s => Act.ok s }

/-- ECHO (R69): RESULT is parameter bytes 0–3. -/
def bodyEcho : Body :=
  { code := 0x001, units := 1, path := onFast, q := true
    act := fun _ c s => .done { status := .ok, result := c.par 0 4 } s }

/-- FW_STATE (Table 2-7). -/
def State.fwState (s : State) : Nat :=
  s.fw.state.code + bit s.fw.runA * 2 ^ 8 + bit s.fw.runB * 2 ^ 9

/-- QUERY_STATE (R52). -/
def bodyQueryState : Body :=
  { code := 0x002, units := 0, path := onFast, q := true
    act := fun _ _ s => .done { status := .ok, result := s.fwState } s }

/-! ### CTX_RESET (R281, R282) -/

/-- Every wait of a context ends with ABANDONED; one whose deadline has passed before, with TIMEOUT (R274). -/
def State.endWaitsOf (s : State) (ctx : Nat) : State :=
  s.onFolds fun u =>
    { u with waiters := u.waiters.map fun w =>
        if w.ctx = ctx ∧ w.ended = none then
          { w with ended := some (if s.late w then .timeout else .abandoned) } else w }

/-- CTX_RESET: the folds of an owner, and the waits of a context (R281, R282). -/
def State.ctxReset (s : State) (ctx : Nat) : State :=
  (s.abandonAll (fun f => f.owner == ctx) .abandoned).endWaitsOf ctx

/-- CTX_RESET (R282). -/
def bodyCtxReset : Body :=
  { code := 0x003, units := 1, path := onHolder, sys := true
    check := fun c _ => c.params [byteField 0 2] [(0, decide (1024 ≤ c.par 0 2))]
    act := fun _ c s => Act.ok (s.ctxReset (c.par 0 2)) }

/-! ### PORT_RESET (R132, R281, R282, R309) -/

/-- Discarded write pieces no longer count in the epochs of their views (R214). -/
def State.uncount (s : State) (xs : List Piece) : State :=
  xs.foldl (fun s x =>
    match x.view with
    | some b =>
      if x.kind = .rd ∨ x.kind = .entry then s
      else s.onView b.id fun v =>
        if v.gen = b.gen then v.onEpoch b.epoch fun r => { r with left := r.left - 1 } else v
    | none => s) s

/-- The pieces of a port that wait at queue entries or in sub-port queues, not granted. -/
def State.ungranted (s : State) (p : Nat) : List Piece :=
  (s.port p).pieces ++ s.xbar.subs.flatMap (fun e => e.2.queue.filter (fun x => x.port == p))

/-- What a discarded inbound request becomes at its source entry (R309): EMPTY if no piece of it was
performed, else DONE with REMOTE_LOST. -/
def State.discardSeq (s : State) (o : Outst) (lost : List Piece) : State :=
  match o.link with
  | none => s
  | some t =>
    let waits := lost ++ (if o.port = 64 then [] else s.ungranted 64)
    let performed : Bool := match o.plan with
      | .pieces _ => decide ((waits.filter (fun x => x.req == o.id)).length < o.left ∨ o.left < o.total)
      | .answer _ => false
      | .fence => false
      | _ => o.sent
    if performed && o.sent then s.onSeq t fun r => { r with done := some .remoteLost }
    else
      match s.srcOf t with
      | some e => s.onLinks fun l =>
          { l with srcs := l.srcs.set t.src { e with recs := e.recs.erase t.seq.toNat } }
      | none => s

/-- An inbound request still in a converter returns to EMPTY (R309). -/
def State.discardQueued (s : State) (q : Queued) : State :=
  match q.link with
  | some t =>
    match s.srcOf t with
    | some e => s.onLinks fun l =>
        { l with srcs := l.srcs.set t.src { e with recs := e.recs.erase t.seq.toNat } }
    | none => s
  | none => s

/-- A request whose operation waits in a pending-signal buffer, which PORT_RESET leaves (R309). -/
def State.isHeld (s : State) (o : Outst) : Bool := s.links.held.any (fun h => h.req == o.id)

/-- The steps of R132 at the port and the sub-ports. -/
def State.clearPort (s : State) (p : Nat) : State :=
  let s := s.onPort p fun q =>
    { q with fifo := [], wd := [], pieces := [], wakes := [], parityHold := false, reqPar := 0, wdPar := 0
             ctxPerm := 0, ewmaRd := none, ewmaWr := none, ewmaRdPrev := none, ewmaWrPrev := none
             remoteLost := false }
  s.onXbar fun x =>
    { x with
      subs := x.subs.map (fun e => (e.1, { e.2 with queue := e.2.queue.filter (fun y => y.port != p) }))
      outst := x.outst.filter (fun o => o.port != p || s.links.held.any (fun h => h.req == o.id)) }

/-- The waits of a port go without a message, and its wake slots are free (R132, R272, R282). -/
def State.dropPortWaits (s : State) (p : Nat) : State :=
  s.onFolds fun u =>
    { u with
      waiters := u.waiters.filter (fun w => match w.who with | .port q _ => q != p | .ring _ _ _ => true)
      slots := u.slots.erase p, portCount := u.portCount.erase p }

/-- The pieces of requests of a port that the ingress has accepted and not yet sent: they count in their epochs from
acceptance (R212). -/
def State.unsent (s : State) (p : Nat) : List Piece :=
  (s.outstOf p).flatMap fun o =>
    match o.plan with
    | .pieces xs => if o.sent then [] else xs
    | _ => []

/-- PORT_RESET of a port (R132). -/
def State.portReset (s : State) (p : Nat) : State :=
  let lost := s.ungranted p
  let gone := (s.outstOf p).filter (fun o => !s.isHeld o)
  let s := gone.foldl (fun s o => s.discardSeq o lost) s
  let s := (s.port p).fifo.foldl State.discardQueued s
  let s := s.uncount (lost ++ s.unsent p)
  (((s.clearPort p).dropPortWaits p).abandonAll (fun f => f.homePort == p) .abandoned).freeAllDying

/-- Pieces of a port that have been granted and have not passed their bank slot. -/
def State.grantedOut (s : State) (p : Nat) : Bool :=
  s.xbar.banks.any fun e =>
    e.2.wbuf.any (fun w => w.piece.port == p) || e.2.reads.any (fun x => x.port == p) ||
      e.2.copy.any (fun x => x.port == p)

/-- PORT_RESET (R132). Pieces already granted complete at their banks before it ends. An absent port is an initiator
that the configuration lacks; a port strapped WIDTH 3 is reset like another (DESIGN CHOICE, log entry 47). -/
def bodyPortReset : Body :=
  { code := 0x004, units := 1, path := onHolder, sys := true
    check := fun c s =>
      c.params [byteField 0 1] [(0, decide (64 ≤ c.par 0 1) || !s.cfg.hasInitiator (c.par 0 1))]
    waits := fun c s => if (s.port (c.par 0 1)).resetting.isSome then some .object else none
    act := fun token c s =>
      let p := c.par 0 1
      let s := s.portReset p
      if s.grantedOut p then
        .running ((s.onPort p fun q => { q with resetting := some token }).await token c none (.portPieces p))
      else Act.ok s }

/-- A PORT_RESET whose port has no granted piece left ends (R132, step 6). -/
def State.resetOver (s : State) (w : Waiting) : Bool :=
  match w.why with
  | .portPieces p => !s.grantedOut p
  | _ => false

/-- PORT_RESET ends: REQ_READY and WD_READY are released (R132). -/
def State.endReset (s : State) (w : Waiting) : State :=
  match w.why with
  | .portPieces p => (s.onPort p fun q => { q with resetting := none }).finish w.token w.cmd { status := .ok }
  | _ => s

/-! ### DRAIN (R133) -/

/-- The initiators of a DRAIN's mask. -/
def drainMask (c : Cmd) : List Nat := (List.range 65).filter (fun i => bitOf (c.par 0 9) i)

/-- A piece of initiator 64 accepted in the XCK `x` or earlier is still on its way. -/
def State.pieceBefore (s : State) (x : Nat) : Bool :=
  let mine (y : Piece) : Bool := y.port == 64 && decide (y.queuedAt ≤ x)
  s.xbar.subs.any (fun e => e.2.queue.any mine) ||
    s.xbar.banks.any (fun e =>
      e.2.wbuf.any (fun w => mine w.piece) || e.2.reads.any mine || e.2.copy.any mine)

/-- Every request and piece that a DRAIN accepted in the XCK `x` waits for has completed: those accepted no later
than that XCK. -/
def State.drained (s : State) (c : Cmd) (x : Nat) : Bool :=
  (drainMask c).all fun i =>
    if i = 64 then !s.pieceBefore x
    else (s.outstOf i).all (fun o => decide (x < o.since))

/-- DRAIN (R133). -/
def bodyDrain : Body :=
  { code := 0x005, units := 1, path := onHolder
    check := fun c s => c.params [(0, 65)]
      [(0, c.par 0 9 == 0 || (drainMask c).any (fun i => !s.cfg.hasInitiator i))]
    act := fun token c s =>
      let since := match s.cmd.deferred.find? (fun d => d.token == token) with
        | some d => d.since
        | none => s.clock.xck
      if s.drained c since then Act.ok s else .running s }

/-- DRAIN_COMPLETE (R133). -/
def State.drainComplete (s : State) (token : Nat) : State :=
  match s.cmd.deferred.find? (fun d => d.token == token) with
  | some d =>
    if d.cmd.op = 0x005 ∧ s.drained d.cmd d.since then s.finish token d.cmd { status := .ok } else s
  | none => s

/-! ### Priorities, parking, starvation (R125, R126, R142) -/

/-- The initiator of byte 0 is absent from the configuration (R467). -/
def initAbsent (c : Cmd) (s : State) (i : Nat) : Nat × Bool := (i, !s.cfg.hasInitiator (c.par i 1))

/-- The sub-port of byte 0 is absent. -/
def subAbsent (c : Cmd) (s : State) : Nat × Bool := (0, !s.cfg.hasSubport (c.par 0 1))

/-- PRIO_SET (R125). -/
def bodyPrioSet : Body :=
  { code := 0x210, units := 1, path := onHolder, sys := true
    check := fun c s => c.params [byteField 0 1, byteField 4 4]
      (initAbsent c s 0 :: (List.range 8).map (fun k =>
        (4 + k / 2, !s.hasCluster k && c.bits 4 (4 * k) 4 != 0)))
    act := fun _ c s =>
      Act.ok (s.onPort (c.par 0 1) fun p => { p with prio := BitVec.ofNat 32 (c.par 4 4) }) }

/-- PARK_SET (R126). -/
def bodyParkSet : Body :=
  { code := 0x211, units := 1, path := onHolder, sys := true
    check := fun c s => c.params [byteField 0 2, (16, 1)] [subAbsent c s, initAbsent c s 1]
    act := fun _ c s =>
      Act.ok (s.onSub (c.par 0 1) fun u =>
        { u with parkInit := BitVec.ofNat 7 (c.par 1 1), parkEn := c.flag 2 0 }) }

/-- STARVE_SET (R142, R151): both counts return to 0. -/
def bodyStarveSet : Body :=
  { code := 0x212, units := 1, path := onHolder, sys := true
    check := fun c s => c.params [byteField 0 2] [subAbsent c s, (1, decide (c.par 1 1 < 2))]
    act := fun _ c s =>
      Act.ok (s.onSub (c.par 0 1) fun u =>
        { u with starveN := c.par 1 1, rd := { u.rd with starve := 0 }, wr := { u.wr with starve := 0 } }) }

/-! ### Parameters in memory (R326) -/

/-- A fault of a code at a local address, with the bank, row and granule that hold it (R412). -/
def State.faultAt (s : State) (code a : Nat) : FaultInfo :=
  match s.locate a with
  | some (bank, row, off) =>
    { code := code, cluster := bank / 16, bank := bank % 16, port := 64, detail := some (faultPlace row (off / 32)) }
  | none => { code := code, port := 64 }

/-- Marked granules of the parameters of a command in memory, by address: a report for the first, and one for each that
lies in a region with SAFETY = 1 (R87, R326, R327). -/
def State.markedParams (s : State) (as : List Nat) : State :=
  as.foldl (fun s a =>
    match s.regionAt a with
    | some (_, r) => if r.safety then s.report (s.faultAt 0x11 a) else s
    | none => s)
    (match as with | a :: _ => s.report (s.faultAt 0x14 a) | [] => s)

/-- The addresses of the marked granules of a range that was read. -/
def Got.places (got : Got) (a : Nat) : List Nat := got.marked.map (a + ·)

/-! ### Stall tables (R145 to R147) -/

/-- An entry of R145 that may be loaded. -/
def stallEntryOk (m : Model) (e : Nat) : Bool :=
  e / 2 ^ 16 == 0 &&
    [true, false].all (fun read => match entryOwner (BitVec.ofNat 32 e) read with
      | some p => m.hasInitiator p
      | none => true)

/-- Entry `i` of 4-byte entries. -/
def entryAt (bs : List Byte) (i : Nat) : Nat := ofBytes ((bs.drop (4 * i)).take 4)

/-- Write entries into a copy from an offset on. -/
def StallCopy.load (k : StallCopy) (off count len : Nat) (bs : List Byte) : StallCopy :=
  { entries := (List.range count).foldl (fun t i =>
      let e := entryAt bs i
      if e = 0 then t.erase (off + i) else t.set (off + i) (BitVec.ofNat 32 e)) k.entries
    len := if len = 0 then k.len else len }

/-- The sub-ports of a swap's mask. -/
def swapMask (c : Cmd) : List Nat := (List.range 64).filter (fun n => bitOf (c.par 0 8) n)

/-- A command is a STALL_SWAP that names a sub-port. -/
def Cmd.swaps (c : Cmd) (n : Nat) : Bool := c.op == 0x201 && (swapMask c).contains n

/-- A swap of a sub-port is pending: a STALL_SWAP that names it has been accepted and has not reached its completion
point (R147, R152). -/
def State.swapPends (s : State) (n : Nat) : Bool :=
  (s.sub n).swapping.isSome || s.cmd.waiting.any (fun w => w.cmd.swaps n)

/-- An accepted STALL_LOAD or STALL_SWAP of a sub-port has not ended: those of one sub-port run in acceptance order
(R147). -/
def State.stallAhead (s : State) (n : Nat) : Bool :=
  s.swapPends n || s.cmd.waiting.any (fun w => w.cmd.op == 0x200 && w.cmd.par 0 1 == n)

/-- STALL_LOAD (R146). -/
def bodyStallLoad : Body :=
  { code := 0x200, units := 1, path := onHolder, sys := true
    check := fun c s =>
      firstRefusal
        [refuseIf s.safety.hold { status := .safeHold },
         c.params [byteField 0 1, byteField 2 11]
          [subAbsent c s, (2, decide (1023 < c.par 2 2) || decide (1024 < c.par 2 2 + c.par 4 2)),
           (4, c.par 4 2 == 0), (6, c.par 6 2 % 2 == 1 || decide (1024 < c.par 6 2)),
           (8, c.par 8 5 % 4 != 0 || decide (2 ^ 28 ≤ c.par 8 5))],
         rangeRefusal (s.rangeStops c.ctx [.r] false (c.par 8 5) (4 * c.par 4 2))]
    touches := fun c s => s.clustersOf (c.par 8 5) (4 * c.par 4 2)
    spans := fun c _ => [(c.par 8 5, 4 * c.par 4 2, false)]
    waits := fun c s => if s.stallAhead (c.par 0 1) then some .object else none
    fetch := fun c _ => some (c.par 8 5, 4 * c.par 4 2)
    act := fun _ _ s => .running s
    actGot := fun got _ c s =>
      let n := c.par 0 1
      let count := c.par 4 2
      if got.marked ≠ [] then .done (badParam 8) (s.markedParams (got.places (c.par 8 5)))
      else if !(List.range count).all (fun i => stallEntryOk s.cfg (entryAt got.bytes i)) then
        .done (badParam 8) s
      else
        let k := (s.sub n).shd.load (c.par 2 2) count (c.par 6 2) got.bytes
        let b := s.book
        let b := { b with copy := fun m sh => if m = n ∧ sh then k else b.copy m sh }
        match b.checkStalls.or b.checkTolls with
        | some f => .done (f.result false) s
        | none => Act.ok (s.onSub n fun u => { u with shd := k }).reckon }

/-- The first odd XCK from `t` on: phase 1 (R144). -/
def phaseOne (t : Nat) : Nat := if t % 2 = 1 then t else t + 1

/-- The XCK at which a swap takes effect at a sub-port (R147). -/
def SubPort.swapTime (u : SubPort) (now : Nat) (lap : Bool) : Nat :=
  if lap then now + (u.act.len - (now - u.t0) % u.act.len) else phaseOne (now + 16)

/-- STALL_SWAP (R147): the command ends at its completion point. -/
def bodyStallSwap : Body :=
  { code := 0x201, units := 1, path := onFast, sys := true, pastHold := true
    check := fun c s =>
      firstRefusal
        [refuseIf s.safety.hold { status := .safeHold },
         c.params [byteField 0 9]
          [(0, c.par 0 8 == 0 || (swapMask c).any (fun n => !s.cfg.hasSubport n)),
           (8, decide (1 < c.par 8 1))],
         refuseIf (c.par 8 1 == 0 && (swapMask c).any (fun n => (s.sub n).guarded))
          { status := .overcommit }]
    waits := fun c s => if (swapMask c).any s.stallAhead then some .object else none
    act := fun token c s =>
      let s := (swapMask c).foldl (fun s n => s.onSub n fun u =>
        { u with swapAt := some (u.swapTime s.clock.xck (c.par 8 1 == 1), token), swapping := some token }) s
      .running (s.await token c none .ownSwap) }

/-- STALL_SWAP_TAKE_EFFECT at a sub-port (R144, R147); the command ends with the last one. -/
def State.swapTakeEffect (s : State) (n : Nat) : State :=
  match (s.sub n).swapAt with
  | some (t, token) =>
    if s.clock.xck < t then s
    else
      let s := s.onSub n fun u => { u with act := u.shd, shd := u.act, t0 := t, swapAt := none }
      if s.xbar.subs.any (fun e => match e.2.swapAt with | some (_, k) => k == token | none => false) then s
      else
        let s := s.onXbar fun x => { x with subs := x.subs.map fun e =>
          (e.1, if e.2.swapping = some token then { e.2 with swapping := none } else e.2) }
        match s.cmd.waiting.find? (fun w => w.token == token) with
        | some w => s.finish token w.cmd { status := .ok }
        | none => s
  | none => s

/-- The entries of a copy as bytes. -/
def StallCopy.bytes (k : StallCopy) (off count : Nat) : List Byte :=
  (List.range count).flatMap (fun i => toBytes 4 (k.entries.get 0 (off + i)).toNat)

/-- STALL_QUERY (R151). An OFFSET and a COUNT that reach past entry 1023, for which Table 5-3 gives no refusal, offend as a
field out of its range, with the offset of OFFSET, and so does an OFFSET above 1024 with COUNT 0 (DESIGN CHOICE, log
entry 64). -/
def bodyStallQuery : Body :=
  { code := 0x202, units := 1, path := onHolder, q := true
    memory := fun c => c.par 4 2 != 0
    check := fun c s =>
      firstRefusal
        [c.params [byteField 0 1, (8, 1), byteField 2 4, byteField 8 5]
          [subAbsent c s, (2, decide (1024 < c.par 2 2 + c.par 4 2)),
           (4, decide (1024 < c.par 4 2))],
         rangeRefusal (s.rangeStops c.ctx [.w] false (c.par 8 5) (4 * c.par 4 2))]
    touches := fun c s => s.clustersOf (c.par 8 5) (4 * c.par 4 2)
    spans := fun c _ => [(c.par 8 5, 4 * c.par 4 2, true)]
    act := fun _ c s =>
      let u := s.sub (c.par 0 1)
      let k := if c.flag 1 0 then u.shd else u.act
      .done { status := .ok, result := u.act.len + u.shd.len * 2 ^ 16 }
        (if c.par 4 2 = 0 then s else s.initWrite (c.par 8 5) (k.bytes (c.par 2 2) (c.par 4 2))) }

/-! ### The regulator (R155 to R163) -/

/-- An OVERCOMMIT of a command that names no set (R168). -/
def overcommit (f : Option Failing) : Option Result := f.map (fun x => x.result false)

/-- SHARE_SET (R155, R168). -/
def bodyShareSet : Body :=
  { code := 0x220, units := 1, path := onHolder, sys := true
    check := fun c s =>
      let p := c.par 0 1
      let b := s.book
      firstRefusal
        [c.params [byteField 0 4]
          [initAbsent c s 0, (1, c.par 1 1 == 0 || decide (32 < c.par 1 1)),
           (2, c.par 2 1 == 0 || decide (16 < c.par 2 1)), (3, c.par 3 1 == 0)],
         overcommit ({ b with
          qcap := fun q => if q = p then c.par 1 1 else b.qcap q
          wcap := fun q => if q = p then c.par 2 1 else b.wcap q } : Book).checkReserves]
    act := fun _ c s =>
      Act.ok (s.onPort (c.par 0 1) fun p =>
        { p with qcap := c.par 1 1, wcap := c.par 2 1, tollShare := c.par 3 1 }) }

/-- URGENCY_SET (R159). -/
def bodyUrgencySet : Body :=
  { code := 0x221, units := 1, path := onHolder, sys := true
    check := fun c _ => c.params [byteField 0 5, (40, 1)]
      ((0, decide (8 ≤ c.par 0 1)) ::
        (List.range 4).map (fun i => (i + 1, decide (15 < c.par (i + 1) 1))))
    act := fun _ c s =>
      let n := c.par 0 1
      let steps := c.par 1 1 + c.par 2 1 * 16 + c.par 3 1 * 256 + c.par 4 1 * 4096
      Act.ok (s.onGov fun g =>
        { g with
          bells := g.bells.modify {} n
            (fun b => { b with steps := BitVec.ofNat 16 steps, critIrq := c.flag 5 0 }) }) }

/-- LATENCY_SET (R162, R168). -/
def bodyLatencySet : Body :=
  { code := 0x222, units := 1, path := onHolder, sys := true
    check := fun c s =>
      firstRefusal
        [c.params [byteField 0 1, byteField 2 8]
          [initAbsent c s 0, (2, c.par 2 2 != 0 && decide (c.par 2 2 < 18)),
           (4, c.par 4 2 != 0 && decide (c.par 4 2 < 14)),
           (6, c.par 6 1 == 0 || decide (8 < c.par 6 1)), (7, decide (15 < c.par 7 1)),
           (8, decide (15 < c.par 8 1)), (9, decide (15 < c.par 9 1))],
         refuseIf (s.latGuar (c.par 0 1)) { status := .overcommit, detail := 9, result := 0xFF }]
    act := fun _ c s =>
      Act.ok (s.onPort (c.par 0 1) fun p =>
        { p with tgtRd := c.par 2 2, tgtWr := c.par 4 2, latK := c.par 6 1, b75 := c.par 7 1
                 b90 := c.par 8 1, b100 := c.par 9 1, ewmaRd := none, ewmaWr := none, ewmaRdPrev := none
                 ewmaWrPrev := none }) }

/-- BUDGET_SET (R163, R168): it binds from the next window. -/
def bodyBudgetSet : Body :=
  { code := 0x223, units := 1, path := onHolder, sys := true
    check := fun c s =>
      let b := s.book
      firstRefusal
        [c.params [byteField 0 1, byteField 4 4]
          [initAbsent c s 0, (4, c.par 4 4 % 128 != 0 || decide (2 ^ 31 < c.par 4 4))],
         refuseIf (!({ b with
            budget := fun q => if q = c.par 0 1 then c.par 4 4 / 128 else b.budget q } : Book).budgetOk
            s.gov.guarantees (c.par 0 1)) { status := .overcommit, detail := 6, result := 0xFF }]
    act := fun _ c s =>
      Act.ok (s.onPort (c.par 0 1) fun p => { p with budgetNext := c.par 4 4 / 128 }) }

/-! ### Admission (R164 to R169) -/

/-- Record `i` of a set read from memory. -/
def recordAt (bs : List Byte) (i : Nat) : BitVec 256 :=
  BitVec.ofNat 256 (ofBytes ((bs.drop (32 * i)).take 32))

/-- Two records of one initiator that may not stand together, on the side `read` (R164). -/
def clashes (g h : BitVec 256) (read : Bool) : Bool :=
  guInit g == guInit h && guNames g read && guNames h read && (guMask g &&& guMask h) != 0

/-- Two records of one initiator with different targets on one side (R164). -/
def targetsDiffer (g h : BitVec 256) (read : Bool) : Bool :=
  guInit g == guInit h && guTgt g read != 0 && guTgt h read != 0 && guTgt g read != guTgt h read

/-- The fields of a guarantee record (Table 6-1), as bit and width. -/
def guFields : List (Nat × Nat) := [(0, 18), (18, 7), (32, 32), (64, 32), (96, 64), (160, 4), (168, 3)]

/-- The byte offset of the first field of a record that offends, given the records before it (R164, Table 6-1). A reserved
bit that is set, a QRES above 8 and a WRES above 4, which R164's list of refusals does not name, offend like the fields it
names (DESIGN CHOICE, log entry 64). -/
def recordBad (m : Model) (g : BitVec 256) (before : List (BitVec 256)) : Option Nat :=
  let shared := ((before.filter (fun h => clashes g h true || clashes g h false)).map
    (fun h => guMask g &&& guMask h)).foldl (· ||| ·) 0
  let absent := (List.range 64).foldl
    (fun w n => if bitOf (guMask g) n && !m.hasSubport n then w ||| 2 ^ n else w) 0
  let bad := shared ||| absent
  let gaps := (reservedBytes 256 guFields).map
    (fun b => (b.1, decide (bitsOf g.toNat (8 * b.1) 8 &&& b.2 ≠ 0)))
  lowest (gaps ++
    [(0, before.any (fun h => guId h == guId g)),
     (2, guSide g == 0 || !m.hasInitiator (guInit g)),
     (8, guTgtRd g != 0 && (!guNames g true || guMask g == 0 || decide (guTgtRd g < 18) ||
        before.any (fun h => targetsDiffer g h true))),
     (10, guTgtWr g != 0 && (!guNames g false || guMask g == 0 || decide (guTgtWr g < 14) ||
        before.any (fun h => targetsDiffer g h false))),
     (12, bad % 2 ^ 32 != 0), (16, bad / 2 ^ 32 != 0),
     (20, decide (8 < guQres g)), (21, decide (4 < guWres g))])

/-- The first record of a set that offends: its index and the offset. -/
def setBad (m : Model) (accepted set : List (BitVec 256)) : Option (Nat × Nat) :=
  (List.range set.length).findSome? fun i =>
    (recordBad m (set.getD i 0) (accepted ++ set.take i)).map (fun o => (i, o))

/-- The targets of an admitted record come into force (R166). -/
def State.takeTargets (s : State) (g : BitVec 256) : State :=
  s.onPort (guInit g) fun p =>
    let p := if guTgtRd g = 0 then p else { p with tgtRd := guTgtRd g, ewmaRd := none, ewmaRdPrev := none }
    if guTgtWr g = 0 then p else { p with tgtWr := guTgtWr g, ewmaWr := none, ewmaWrPrev := none }

/-- A set is admitted (R166). -/
def State.admitRecords (s : State) (set : List (BitVec 256)) : State :=
  ((set.foldl State.takeTargets
    (s.onGov fun g => { g with guarantees := g.guarantees ++ set })).guard).reckon

/-- ADMIT (R164, R165). -/
def bodyAdmit : Body :=
  { code := 0x230, units := 1, path := onHolder, sys := true
    check := fun c s =>
      firstRefusal
        [c.params [byteField 0 5, byteField 8 2]
          [(0, c.par 0 5 % 32 != 0 || decide (2 ^ 28 ≤ c.par 0 5)),
           (8, c.par 8 2 == 0 || decide (64 < c.par 8 2))],
         rangeRefusal (s.rangeStops c.ctx [.r] false (c.par 0 5) (32 * c.par 8 2))]
    touches := fun c s => s.clustersOf (c.par 0 5) (32 * c.par 8 2)
    spans := fun c _ => [(c.par 0 5, 32 * c.par 8 2, false)]
    fetch := fun c _ => some (c.par 0 5, 32 * c.par 8 2)
    act := fun _ _ s => .running s
    actGot := fun got _ c s =>
      match got.marked with
      | o :: _ =>
        .done { status := .badParam, result := o / 32 } (s.markedParams (got.places (c.par 0 5)))
      | [] =>
        let set := (List.range (c.par 8 2)).map (recordAt got.bytes)
        match setBad s.cfg s.gov.guarantees set with
        | some (i, o) => .done { status := .badParam, result := i + o * 2 ^ 8 } s
        | none =>
          match ({ s.book with admitted := s.gov.guarantees, set := set } : Book).check with
          | some f => .done (f.result true) s
          | none => Act.ok (s.admitRecords set) }

/-- GUARANTEE_RELEASE of a record (R169). -/
def State.releaseGuarantee (s : State) (id : Nat) : State :=
  match s.gov.guarantees.find? (fun g => guId g == id) with
  | none => s
  | some g =>
    let rest := s.gov.guarantees.filter (fun h => guId h != id)
    let keeps (read : Bool) : Bool :=
      rest.any (fun h => guInit h == guInit g && guTgt h read != 0)
    let s := s.onGov fun v => { v with guarantees := rest }
    let s := s.onPort (guInit g) fun p =>
      { p with
        tgtRd := if guTgtRd g ≠ 0 ∧ ¬ keeps true then 0 else p.tgtRd
        tgtWr := if guTgtWr g ≠ 0 ∧ ¬ keeps false then 0 else p.tgtWr }
    s.guard.reckon

/-- GUARANTEE_RELEASE (R169). -/
def bodyGuaranteeRelease : Body :=
  { code := 0x231, units := 1, path := onHolder, sys := true
    check := fun c s => c.params [byteField 0 2]
      [(0, !s.gov.guarantees.any (fun g => guId g == c.par 0 2))]
    act := fun _ c s => Act.ok (s.releaseGuarantee (c.par 0 2)) }

/-! ### The power budget (R172, R178, R180) -/

/-- LIMIT, T_HI and GUAR_TEMP after a POWER_LIMIT_SET. -/
def limitsAfter (c : Cmd) (s : State) : Nat × Nat × Nat :=
  let keep (v old : Nat) : Nat := if v = 0 then old else v
  (c.par 0 4, keep (c.par 4 1) s.gov.limits.2.1, keep (c.par 5 1) s.gov.limits.2.2)

/-- POWER_LIMIT_SET (R172, R178). -/
def bodyPowerLimitSet : Body :=
  { code := 0x240, units := 1, path := onHolder, sys := true
    check := fun c s =>
      let l := limitsAfter c s
      let b := s.book
      firstRefusal
        [c.params [byteField 0 6]
          [(0, decide (c.par 0 4 < 1000) || decide (maxPower s.cfg < c.par 0 4)),
           (4, (c.par 4 1 != 0 && (decide (c.par 4 1 < 60) || decide (105 < c.par 4 1))) ||
              decide (l.2.1 < l.2.2)),
           (5, c.par 5 1 != 0 && decide (c.par 5 1 < 20))],
         overcommit ({ b with
          tbGuar := s.gov.budgetFor s.power.eco l.1 l.2.1 l.2.2 } : Book).checkTolls]
    act := fun _ c s => Act.ok (s.onGov fun g => { g with limitNext := some (limitsAfter c s) }) }

/-- The number of a level (Table 6-10). -/
def GovLevel.code : GovLevel → Nat
  | .normal => 0 | .lean => 1 | .idle => 2

/-- SHED_QUERY (R180). -/
def bodyShedQuery : Body :=
  { code := 0x241, units := 0, path := onHolder, q := true
    act := fun _ _ s =>
      let g := s.gov
      .done { status := .ok
              result := bit (g.sheds .shares) + bit (g.sheds .latency) * 2 + bit (g.sheds .stalls) * 4 +
                g.level.code * 2 ^ 4 + g.tmax % 256 * 2 ^ 8 + g.qual % 32 * 2 ^ 16 } s }

end Sys2Proof.Machine
end

