-- ==== Sys2Proof/Machine/Links.lean ====
section
/-!
DEFINITION. The link-port logic: sending, responses, retry and loss, receiving, held operations
(10_remote.md, R288 to R309).
-/

namespace Sys2Proof.Machine

/-! ### Ports and destination entries (R293 to R295) -/

/-- A link port in service (R294). -/
def State.linkServes (s : State) (n : Nat) : Bool :=
  s.portPresent (56 + n) && (s.link n).up && !s.pins.clockStopped.get false (56 + n) &&
    (s.link n).resetting.isNone

/-- Outbound requests sent on a port and not yet ended. -/
def State.sentOn (s : State) (n : Nat) : List OutReq :=
  s.links.out.filter (fun o => o.seq.isSome && o.port == n)

/-- Reads outstanding on the outbound interface of a port (R295). -/
def State.outReads (s : State) (n : Nat) : Nat := ((s.sentOn n).filter (fun o => countsRead o.op)).length

/-- Writes outstanding on the outbound interface of a port (R295). -/
def State.outWrites (s : State) (n : Nat) : Nat := ((s.sentOn n).filter (fun o => !countsRead o.op)).length

/-- A port of a mask in service with the fewest outbound requests, a tie going to the lower. -/
def State.leastLoaded (s : State) (ns : List Nat) : Option Nat :=
  ns.foldl (fun b n =>
    match b with
    | none => some n
    | some m => if (s.sentOn n).length < (s.sentOn m).length then some n else some m) none

/-- The port of a send (R294). -/
def State.choosePort (s : State) (o : OutReq) : Option Nat :=
  let ns := (List.range 8).filter (fun n => bitOf o.mask.toNat n && s.linkServes n)
  if o.adaptive then s.leastLoaded ns else ns.head?

/-- The destination entry of a chip: its index and the entry (R293). -/
def State.dest? (s : State) (chip : Nat) : Option (Nat × DestEntry) :=
  List.find? (fun e : Nat × DestEntry => e.2.chip == chip) s.links.dests

/-- Change the destination entry of a chip. -/
def State.onDest (s : State) (chip : Nat) (f : DestEntry → DestEntry) : State :=
  s.onLinks fun l => { l with dests := l.dests.map (fun e => if e.2.chip = chip then (e.1, f e.2) else e) }

/-- Requests to a chip that were sent and have not ended. -/
def State.inFlight (s : State) (chip : Nat) : List OutReq :=
  s.links.out.filter (fun o => o.seq.isSome && o.chip == chip)

/-- FLOOR: the lowest SEQ not yet ended (R293). -/
def State.floorOf (s : State) (chip : Nat) (d : DestEntry) : BitVec 16 :=
  (s.inFlight chip).foldl (fun b o =>
    match o.seq with
    | some q => if (q - d.floor).toNat < (b - d.floor).toNat then q else b
    | none => b) d.nextSeq

/-- Requests that have ended move FLOOR. -/
def State.moveFloor (s : State) (chip : Nat) : State :=
  match s.dest? chip with
  | some (_, d) => s.onDest chip fun e => { e with floor := s.floorOf chip d }
  | none => s

/-- A chip that a valid window names, or that has requests under way. An entry in which a request still waits to be sent
stands (R295, which lets requests wait there; DEDUCED, log entry 51). -/
def State.chipUsed (s : State) (chip : Nat) : Bool :=
  s.addr.windows.any (fun e => winChip e.2 == chip) || s.links.out.any (fun o => o.chip == chip)

/-- The entry of a chip is created if it has none and one of the 64 is free (R293). -/
def State.makeDest (s : State) (chip : Nat) : State :=
  if s.links.dests.any (fun e => e.2.chip == chip) then s
  else
    match lowestFree 64 (s.links.dests.map Prod.fst) with
    | some i => s.onLinks fun l => { l with dests := l.dests.set i { chip := chip } }
    | none => s

/-- Destination entries whose chip no window names and that have nothing under way go, and a chip of a valid window that
found all 64 taken gets one of those (R293). -/
def State.tidyDests (s : State) : State :=
  (s.addr.windows.map (fun e => winChip e.2)).foldl State.makeDest
    (s.onLinks fun l => { l with dests := l.dests.filter (fun e => s.chipUsed e.2.chip) })

/-- Change an outbound request. -/
def State.onOut (s : State) (req : Nat) (f : OutReq → OutReq) : State :=
  s.onLinks fun l => { l with out := l.out.map (fun o => if o.req = req then f o else o) }

/-- LH0 and LH1 of an outbound request (Table 10-1). -/
def State.outHeader (s : State) (o : OutReq) (seq floor : BitVec 16) (resend : Bool) : BitVec 64 :=
  BitVec.ofNat 64
    (s.links.chip + o.chip * 2 ^ 12 + bit o.adaptive * 2 ^ 24 + bit s.links.epoch * 2 ^ 25 +
      bit resend * 2 ^ 28 + seq.toNat * 2 ^ 32 + ((seq - floor).toNat % 1024) * 2 ^ 48 +
      s.links.incarn.toNat * 2 ^ 58)

/-- The chosen port has room for a request (R295). -/
def State.portRoom (s : State) (n : Nat) (o : OutReq) : Bool :=
  let others := (s.sentOn n).filter (fun x => x.req != o.req && countsRead x.op == countsRead o.op)
  decide (others.length < if countsRead o.op then 512 else 256)

/-! ### The end of an outbound request (R297, R307) -/

/-- A request is no longer under way. -/
def State.outEnds (s : State) (o : OutReq) : State :=
  ((s.onLinks fun l => { l with out := l.out.filter (fun x => x.req != o.req) }).moveFloor o.chip).tidyDests

/-- The beats of a read that have not been presented are refused (R109). -/
def State.refuseRest (s : State) (q : Outst) (st : Status) : State :=
  let s := (List.range (q.beats - q.next)).foldl
    (fun s i => s.present q
      { tag := q.tag, status := st, beat := q.next + i, last := q.next + i + 1 == q.beats, spoil := 15
        isRead := true }) s
  s.ended q st

/-- A remote write has ended REMOTE_LOST: every FENCE that covers it, now or later, learns of it (R119). -/
def State.writeLost (s : State) (q : Outst) : State :=
  if 2 ≤ q.op ∧ q.op ≤ 4 then
    (s.onXbar fun x =>
      { x with outst := x.outst.map (fun f =>
          if f.op = 6 ∧ f.covers.contains q.id then { f with lost := true } else f) }).onPort q.port fun w =>
      { w with remoteLost := true }
  else s

/-- A request ends with REMOTE_LOST (R307). -/
def State.remoteLost (s : State) (o : OutReq) : State :=
  let s := s.outEnds o
  let s := match s.outst? o.req with
    | some q =>
      let s := s.writeLost q
      (if q.op = 1 then s.refuseRest q .remoteLost
        else s.answer q (if q.op = 5 then .timeout else .remoteLost) 0).pump q.port
    | none => s
  (s.abandonPeer o.chip).linkEvent 0 o.chip o.port

/-! ### LINK_SEND, LINK_RESEND, LINK_REMOTE_LOST (R291, R293 to R295, R306, R307) -/

/-- Put a request on the outbound interface of a port. -/
def State.sendOut (s : State) (o : OutReq) (n : Nat) (seq floor : BitVec 16) (resend : Bool) : State :=
  let p := s.link n
  let s := s.onOut o.req fun x =>
    { x with
      sentAt := s.ns, seq := some seq, port := n, chosen := none, marked := false
      limit := if resend then x.limit else p.limit, interval := if resend then x.interval else p.interval
      resends := if resend then x.resends + 1 else 0, header := s.outHeader o seq floor resend
      lpar := BitVec.ofNat 2 (wordParity 2 (s.outHeader o seq floor resend).toNat)
      par := BitVec.ofNat 4 (wordParity 4 x.word.toNat) }
  s.onLink n fun l => { l with tx := l.tx + 1, resent := if resend then l.resent + 1 else l.resent }

/-- The port that a request keeps, once chosen, until its next send, or a fresh choice (R294, R295). -/
def State.portFor (s : State) (o : OutReq) : Option Nat :=
  match o.chosen with
  | some n => if s.linkServes n then some n else none
  | none => s.choosePort o

/-- LINK_SEND: the oldest waiting request of a destination is numbered and sent (R293). While the
chip has no identifier it ends with REMOTE_LOST (R291). -/
def State.linkSend (s : State) (chip : Nat) : State :=
  if !s.ready then s
  else
    match s.links.out.find? (fun o => o.chip == chip && o.seq.isNone), s.dest? chip with
    | some o, some (_, d) =>
      if s.links.chip = 0xFFF then s.remoteLost o
      else
        match s.portFor o with
        | none => s
        | some n =>
          if (s.inFlight chip).length < d.inj ∧ (d.nextSeq - d.floor).toNat < 1024 then
            if s.portRoom n o then
              (s.onDest chip fun e => { e with nextSeq := e.nextSeq + 1 }).sendOut o n d.nextSeq d.floor false
            else s.onOut o.req fun x => { x with chosen := some n }
          else s
    | _, _ => s

/-- An outbound request. -/
def State.out? (s : State) (req : Nat) : Option OutReq := s.links.out.find? (fun o => o.req == req)

/-- LINK_RESEND: INTERVAL has passed without a response (R306). -/
def State.linkResend (s : State) (req : Nat) : State :=
  if !s.ready then s
  else
    match s.out? req with
    | none => s
    | some o =>
      match o.seq, s.dest? o.chip with
      | some q, some (_, d) =>
        if o.sentAt + o.interval * 1000 ≤ s.ns ∧ o.resends < o.limit then
          match s.portFor o with
          | none => s
          | some n =>
            if s.portRoom n o then s.sendOut o n q d.floor true
            else s.onOut req fun x => { x with chosen := some n }
        else s
      | _, _ => s

/-- The lowest port of a mask, whose LIMIT and INTERVAL bound the wait for a port (R294). -/
def OutReq.lowPort (o : OutReq) : Nat := ((List.range 8).find? (fun n => bitOf o.mask.toNat n)).getD 0

/-- The time for which a request may wait for a port of its mask, in ns (R294). -/
def State.portPatience (s : State) (o : OutReq) : Nat :=
  ((s.link o.lowPort).limit + 1) * (s.link o.lowPort).interval * 1000

/-- A request ends with REMOTE_LOST now: no identifier, no port in time, or no answer to its last
resend (R291, R294, R306). -/
def State.outLost (s : State) (o : OutReq) : Bool :=
  let noPort := (s.portFor o).isNone
  match o.seq with
  | none => decide (s.links.chip = 0xFFF) || (noPort && decide (o.takenAt + s.portPatience o ≤ s.ns))
  | some _ =>
    (decide (o.limit ≤ o.resends) || (noPort && decide (o.takenAt + s.portPatience o ≤ s.ns))) &&
      decide (o.sentAt + o.interval * 1000 ≤ s.ns)

/-- LINK_REMOTE_LOST (R307). -/
def State.linkRemoteLost (s : State) (req : Nat) : State :=
  match s.out? req with
  | some o => if s.ready ∧ s.outLost o then s.remoteLost o else s
  | none => s

/-! ### LINK_RESPONSE (R292, R296, R297) -/

/-- The status of a code (Table 2-4); a code that the table does not list counts as INTERNAL. -/
def statusOf (n : Nat) : Status :=
  match [Status.ok, .defer, .wake, .badOpcode, .badParam, .notReady, .busy, .perm, .lifecycle,
      .overcommit, .decerr, .spoil, .safeHold, .abandoned, .timeout, .underflow, .saturated, .remoteLost,
      .stepRange, .internal].find? (fun st => st.code == n) with
  | some st => st
  | none => .internal

/-- on_response (R296): the entry after it, and whether the window was halved. -/
def DestEntry.onResponse (d : DestEntry) (seq : BitVec 16) (echo : Bool) : DestEntry × Bool :=
  if echo then
    if (seq - d.cut).toNat < 0x8000 then
      ({ d with inj := max 8 (d.inj / 2), cut := d.nextSeq, credit := 0 }, true)
    else ({ d with credit := 0 }, false)
  else if d.inj ≤ d.credit + 1 then ({ d with credit := 0, inj := min 1024 (d.inj + 1) }, false)
  else ({ d with credit := d.credit + 1 }, false)

/-- The epoch test (R292). -/
def State.epochOk (s : State) (lh : BitVec 64) : Bool :=
  s.links.acceptBoth || bitOf lh.toNat 25 == s.links.epoch

/-- Discard a packet of the wrong epoch. -/
def State.epochDrop (s : State) (n chip : Nat) : State :=
  (s.onLink n fun l => { l with dropEpoch := satAdd 0xFFFF l.dropEpoch 1 }).linkEvent 1 chip n

/-- Discard a packet for another chip. -/
def State.misroute (s : State) (n chip : Nat) : State :=
  (s.onLink n fun l => { l with dropMisroute := satAdd 0xFFFF l.dropMisroute 1 }).linkEvent 2 chip n

/-- Count a stale packet. -/
def State.stale (s : State) (n : Nat) : State :=
  s.onLink n fun l => { l with dropStale := satAdd 0xFFFF l.dropStale 1 }

/-- A beat of a read that has been received already. -/
def Outst.hasBeat (q : Outst) (b : Nat) : Bool :=
  decide (b < q.next) || decide (q.beats ≤ b) || q.ready.any (fun r => r.beat == b)

/-- A beat of the response to a read has been received; with the last of them the read ends (R293). -/
def State.gotBeat (s : State) (o : OutReq) (beat : Nat) : State :=
  if o.got.contains beat ∨ o.total ≤ beat then s
  else if o.got.length + 1 = o.total then s.outEnds o
  else s.onOut o.req fun x => { x with got := beat :: x.got }

/-- The answer reaches the request that waits for it (R297): a read ends with its last beat, also where a PORT_RESET has
taken the request that waited (R293). A data byte that fails DPAR spoils its granule (R129, R288). -/
def State.answered (s : State) (o : OutReq) (r : LinkRsp) : State :=
  match s.outst? o.req with
  | none => if o.op = 1 then s.gotBeat o r.beat else s.outEnds o
  | some q =>
    let st := statusOf r.status
    if q.op = 1 then
      if q.hasBeat r.beat then s
      else
        let s := s.readBeat q.id
          { tag := q.tag, status := st, spoil := r.spoil ||| parityGranules r.badBytes, beat := r.beat
            data := r.data, isRead := true }
        (s.gotBeat o r.beat).pump q.port
    else
      let s := s.outEnds o
      ((if st = .remoteLost then s.writeLost q else s).answer q st r.token).pump q.port

/-- LINK_RESPONSE (R297). A response whose parity fails is discarded and reported; its request is
resent (R288, R306). -/
def State.linkResponse (s : State) (n : Nat) (r : LinkRsp) : State :=
  let lh := r.lh.toNat
  let chip := bitsOf lh 0 12
  if ¬ (s.ready ∧ s.portPresent (56 + n) ∧ n < 8) then s
  else if !r.parityOk then s.report { code := 0x05, port := 56 + n }
  else if bitsOf lh 12 12 ≠ s.links.chip ∨ s.links.chip = 0xFFF then s.misroute n chip
  else if !s.epochOk r.lh then s.epochDrop n chip
  else
    let seq := BitVec.ofNat 16 (bitsOf lh 32 16)
    match (s.inFlight chip).find? (fun o => o.seq == some seq), s.dest? chip with
    | some o, some (_, d) =>
      let (d', cut) := d.onResponse seq (bitOf lh 27)
      let s := if r.last then s.onDest chip fun _ => d' else s
      let s := if r.last ∧ cut then s.linkEvent 6 chip n else s
      s.answered o r
    | _, _ => s.stale n

/-! ### LINK_INBOUND_REQUEST (R299 to R301) -/

/-- Held operations that a test names are discarded unapplied; `keep` says whether their states
return to EMPTY (R300, R308, R309). -/
def State.discardHeld (s : State) (p : HeldOp → Bool) (g : State → HeldOp → State) : State :=
  let gone := s.links.held.filter p
  let s := s.onLinks fun l => { l with held := l.held.filter (fun h => !p h) }
  (gone.foldl (fun s h => (g s h).dropOutst h.req) s).freeAllDying

/-- A source entry is replaced or lost: its held operations are counted as stale (R300). -/
def State.dropSource (s : State) (i : Nat) : State :=
  s.discardHeld (fun h => h.link.src == i) (fun s h => s.stale h.port)

/-- The source entry of a request, as R300 has it: found, replaced or allocated. -/
def State.sourceFor (s : State) (chip incarn : Nat) (base : BitVec 16) : Option (Nat × State) :=
  let fresh : SrcEntry := { chip := chip, incarn := incarn, base := base, last := s.ns }
  match List.find? (fun e : Nat × SrcEntry => e.2.chip == chip) s.links.srcs with
  | some (i, e) =>
    if e.incarn = incarn then some (i, s)
    else
      let s := s.dropSource i
      some (i, s.onLinks fun l => { l with srcs := l.srcs.set i fresh })
  | none =>
    match lowestFree 64 (s.links.srcs.map Prod.fst) with
    | some i => some (i, s.onLinks fun l => { l with srcs := l.srcs.set i fresh })
    | none => none

/-- BASE advances to SEQ − SPAN, and the states that leave the window go (R301). -/
def SrcEntry.advance (e : SrcEntry) (f : BitVec 16) : SrcEntry :=
  if (f - e.base).toNat < 0x8000 then
    { e with base := f, recs := e.recs.filter (fun r => decide ((BitVec.ofNat 16 r.1 - f).toNat < 1024)) }
  else e

/-- A request has arrived: its state, and its place among the ORDERED requests of its port (Table 10-3, R302). -/
def SrcEntry.arrive (e : SrcEntry) (seq : BitVec 16) (q : SeqRec) : SrcEntry :=
  { e with recs := e.recs.set seq.toNat q
           unapplied := if q.ordered && !e.unapplied.contains (q.port, seq) then e.unapplied ++ [(q.port, seq)]
                        else e.unapplied }

/-- A request that was answered is answered again with its stored status (Table 10-3). -/
def State.repeatAnswer (s : State) (n : Nat) (r : LinkReq) (t : LinkTag) (q : SeqRec) (st : Status) :
    State :=
  let o : Outst :=
    { id := s.xbar.nextReq, port := 56 + n, word := r.req.word, link := some t, since := s.clock.xck
      plan := .answer st, dest := .ingress }
  let token := match q.fold with | some k => (s.fold k).value | none => 0
  (s.present o { tag := o.tag, status := st, token := token }).pump (56 + n)

/-- The local fold that an inbound FOLD names (R298). -/
def State.inboundFold (s : State) (r : LinkReq) : Option Nat :=
  if rqOp r.req.word = 5 then
    s.translate (rqCtx r.req.word) (payFold (match r.beats with | b :: _ => bytesAt b.data 0 16 | [] => 0))
  else none

/-- A request is taken: its state becomes ARRIVED, and it goes on as a request of initiator 56 + n
(R299 check 6). -/
def State.takeInbound (s : State) (n : Nat) (r : LinkReq) (t : LinkTag) (again : Bool) : State :=
  let pay := match r.beats with | b :: _ => bytesAt b.data 0 16 | [] => 0
  let q : SeqRec :=
    { op := rqOp r.req.word, foldOp := if rqOp r.req.word = 5 then payOp pay else 0, ordered := !t.tclass
      port := n, order := s.links.arrivals, fold := s.inboundFold r }
  let s := s.onLinks fun l =>
    { l with
      arrivals := l.arrivals + 1
      srcs := match l.srcs.find? t.src with
        | some e => if again then l.srcs else l.srcs.set t.src (e.arrive t.seq q)
        | none => l.srcs }
  let s := s.onLink n fun l => { l with rx := l.rx + 1 }
  (r.beats.foldl (fun s b => s.takeBeat (56 + n) b) s).offer (56 + n) { req := r.req, link := some t }

/-- A request at its place in the window (R301, Table 10-3). -/
def State.inWindow (s : State) (n : Nat) (r : LinkReq) (t : LinkTag) (e : SrcEntry) : State :=
  match e.recs.find? t.seq.toNat with
  | none => s.takeInbound n r t false
  | some q =>
    match q.done with
    | none => s.onLink n fun l => { l with dropDup := satAdd 0xFFFF l.dropDup 1 }
    | some st => if rqOp r.req.word = 1 then s.takeInbound n r t true else s.repeatAnswer n r t q st

/-- The parity of LH0 and LH1 (R288). -/
def LinkReq.headerGood (r : LinkReq) : Bool :=
  oddParity 32 (bitsOf r.lh.toNat 0 32) (bitOf r.lpar.toNat 0) &&
    oddParity 32 (bitsOf r.lh.toNat 32 32) (bitOf r.lpar.toNat 1)

/-- A link header whose parity fails acts as a request whose parity fails (R127, R288). -/
def State.headerFault (s : State) (p : Nat) : State :=
  ((s.onPort p fun q => { q with parityHold := true, reqPar := satAdd 0xFF q.reqPar 1 }).onXbar fun x =>
    { x with irq := setBit x.irq 0, parSource := BitVec.ofNat 7 p, parKind := 0 }).report
    { code := 0x05, port := p }

/-- LINK_INBOUND_REQUEST (R299): its write data comes with it. -/
def State.linkInbound (s : State) (n : Nat) (r : LinkReq) : State :=
  let p := 56 + n
  let lh := r.lh.toNat
  let src := bitsOf lh 0 12
  if ¬ (n < 8 ∧ s.ready ∧ s.takesRequest p ∧ (s.port p).wd.length + r.beats.length ≤ wdSize p) then s
  else if !r.req.good then s.parityFault p
  else if !r.headerGood then s.headerFault p
  else if s.links.chip = 0xFFF ∨ bitsOf lh 12 12 ≠ s.links.chip ∨ src = s.links.chip then s.misroute n src
  else if !s.epochOk r.lh then s.epochDrop n src
  else
    let seq := BitVec.ofNat 16 (bitsOf lh 32 16)
    let span := bitsOf lh 48 10
    let incarn := bitsOf lh 58 4
    let f := seq - BitVec.ofNat 16 span
    match s.sourceFor src incarn f with
    | none => (s.onLink n fun l => { l with dropSrc := satAdd 0xFFFF l.dropSrc 1 }).linkEvent 4 src n
    | some (i, s) =>
      match s.links.srcs.find? i with
      | none => s
      | some e =>
        let e := { e with last := s.ns }
        let s := s.onLinks fun l => { l with srcs := l.srcs.set i e }
        if 1024 ≤ (seq - e.base).toNat then s.stale n
        else
          let t : LinkTag :=
            { src := i, chip := src, incarn := incarn, seq := seq, span := span, ce := bitOf lh 26
              tclass := bitOf lh 24, folds := r.folds }
          let e := e.advance f
          (s.onLinks fun l => { l with srcs := l.srcs.set i e }).inWindow n r t e

/-! ### While the derived clocks stand (R40) -/

/-- The beats of a link port that wait in its converter while the derived clocks stand, and its requests. -/
def State.linkWaits (s : State) (n : Nat) : Nat × Nat :=
  (s.links.waiting.filter (fun e => e.1 == n)).foldl (fun k e =>
    match e.2 with
    | .request r => (k.1 + r.beats.length, k.2 + 1)
    | .response _ => k) (0, 0)

/-- The converter of a link port has room for a request while the derived clocks stand (R40, R124). -/
def State.linkRoom (s : State) (n : Nat) (x : LinkIn) : Bool :=
  match x with
  | .response _ => s.portOpen (56 + n)
  | .request r =>
    let k := s.linkWaits n
    s.takesRequest (56 + n) &&
      decide ((s.port (56 + n)).fifo.length + ((s.outstOf (56 + n)).filter (fun o => !o.sent)).length + k.2 <
        fifoSize (56 + n)) &&
      decide ((s.port (56 + n)).wd.length + k.1 + r.beats.length ≤ wdSize (56 + n))

/-- What a link port takes acts. -/
def State.linkIn (s : State) (n : Nat) (x : LinkIn) : State :=
  match x with
  | .request r => s.linkInbound n r
  | .response r => s.linkResponse n r

/-- What waited in the converters of the link ports goes on, after the restart of the derived clocks (R40). -/
def State.linkResume (s : State) : State :=
  if s.links.waiting = [] then s
  else s.links.waiting.foldl (fun s e => s.linkIn e.1 e.2) (s.onLinks fun l => { l with waiting := [] })

/-! ### Held operations (R302 to R304, R308, R309) and source entries (R300) -/

/-- A held operation whose condition is met. -/
def State.releasable (s : State) (h : HeldOp) : Bool := !s.mustHold h.link h.port h.op.op

/-- PENDING_SIGNAL_RELEASE: a held operation enters its fold unit's queue, those of one source in
order of SEQ (R304). -/
def State.releaseHeldOp (s : State) (order : Nat) : State :=
  match s.links.held.find? (fun h => h.order == order) with
  | none => s
  | some h =>
    let ahead := s.links.held.any (fun k =>
      k.link.src == h.link.src && k.link.seq != h.link.seq &&
        decide ((h.link.seq - k.link.seq).toNat < 0x8000) && s.releasable k)
    if s.ready ∧ s.releasable h ∧ ¬ ahead ∧ (s.folds.queues.get [] h.op.cluster).length < 64 then
      (s.onLinks fun l => { l with held := l.held.filter (fun k => k.order != order) }).foldPush h.op
    else s

/-- HELD_OP_STALE: a held operation unmet after 100 ms (R308). -/
def State.heldStale (s : State) (order : Nat) : State :=
  match s.links.held.find? (fun h => h.order == order) with
  | none => s
  | some h =>
    if h.arrived + 100000000 ≤ s.ns ∧ ¬ s.releasable h then
      let s := s.discardHeld (fun k => k.order == order) fun s k =>
        (s.stale k.port).onSeq k.link fun r => { r with done := some .remoteLost }
      (s.linkEvent 5 h.link.chip h.port).abandonPeer h.link.chip
    else s

/-- SOURCE_ENTRY_RECLAIM (R300). -/
def State.reclaim (s : State) (i : Nat) : State :=
  match s.links.srcs.find? i with
  | some e =>
    if e.last + 100000000 ≤ s.ns ∧ e.recs.all (fun r => r.2.done.isSome) then
      s.onLinks fun l => { l with srcs := l.srcs.erase i }
    else s
  | none => s

/-- At entry to Safe Hold every held operation is answered SAFE_HOLD unapplied (R309). -/
def State.answerHeld (s : State) : State :=
  let gone := s.links.held
  let s := s.onLinks fun l => { l with held := [] }
  gone.foldl (fun s h =>
    match s.outst? h.req with
    | some o => s.answer o .safeHold 0
    | none => s) s |>.freeAllDying

/-- LINK_UP_CHANGE (R294). -/
def State.linkUpChange (s : State) (n : Nat) (up : Bool) : State :=
  if n < s.cfg.links then s.onLink n fun l => { l with up := up } else s

end Sys2Proof.Machine
end

