-- ==== Sys2Proof/Machine/CmdAddr.lean ====
section
/-!
DEFINITION. The region, view and window commands, and the ends of write epochs (Tables 3-6, 7-8;
R84 to R100, R211 to R220, R293).
-/

namespace Sys2Proof.Machine

/-! ### Replies to a window's buffer or to memory -/

/-- The bytes at the start of a packet buffer. -/
def putBuffer (buf : BitVec 2048) (bs : List Byte) : BitVec 2048 := setBytes buf 0 bs.length (ofBytes bs)

/-- A reply goes to ADDR, or to the packet buffer of the issuing window (Table 3-6). -/
def State.reply (s : State) (c : Cmd) (toMem : Bool) (addr : Nat) (bs : List Byte) : State :=
  if toMem then s.initWrite addr bs
  else
    match c.src with
    | .sp => s.onWindow true fun w => { w with buf := putBuffer w.buf bs }
    | .ctl => s.onWindow false fun w => { w with buf := putBuffer w.buf bs }
    | .ring _ => s
    | .mbox _ _ _ => s

/-- TO_MEM = 0 from a ring or a mailbox offends (Table 3-6). -/
def noBuffer (c : Cmd) (toMem : Bool) : Bool := !toMem && !c.src.window

/-- The range check of a reply to memory. -/
def replyRange (c : Cmd) (s : State) (toMem : Bool) (addr len : Nat) : Option Result :=
  if toMem then rangeRefusal (s.rangeStops c.ctx [.w] false addr len) else none

/-- The clusters of a reply to memory. -/
def replyTouches (s : State) (toMem : Bool) (addr len : Nat) : List Nat :=
  if toMem then s.clustersOf addr len else []

/-- The range that a reply to memory writes (R117). -/
def replySpans (toMem : Bool) (addr len : Nat) : List (Nat × Nat × Bool) := if toMem then [(addr, len, true)] else []

/-- A descriptor as bytes. -/
def descBytes {w : Nat} (d : BitVec w) (n : Nat) : List Byte := toBytes n d.toNat

/-! ### Regions (R78 to R89, R99) -/

/-- A region from a descriptor; INIT and DEGRADED are kept beside it. -/
def regionOf (d : BitVec 384) (degraded : Bool) : Region :=
  { desc := BitVec.ofNat 384 (putBits (putBits d.toNat 20 1 0) 23 1 0), init := wordBit d 0 20
    degraded := degraded }

/-- The alignment of BASE and LIMIT + 1 (Table 3-2). -/
def Region.align (r : Region) (m : Model) : Nat :=
  if r.mode = 0 then 2048 * m.clusters else if r.mode = 1 then 2048 else 128

/-- The largest size of a mode (Table 3-2). -/
def Region.largest (r : Region) (m : Model) : Nat :=
  if r.mode = 0 then m.capacity else if r.mode = 1 then 2 ^ 25 else 2 ^ 21

/-- The footprint touches a bank out of service (R88). -/
def State.degrades (s : State) (r : Region) : Bool :=
  s.integ.lbanks.any (fun e => e.2.out && r.touches e.1)

/-- Fields that offend in a region descriptor (R78, R82, R83). The status and DETAIL of a LIMIT below BASE, BAD_PARAM
with 8, are the model's (DESIGN CHOICE, log entry 52). -/
def State.regionBad (s : State) (d : BitVec 384) : List (Nat × Bool) :=
  let r := regionOf d false
  let others := s.addr.regions.filter (fun e => e.1 != word d 0 0 8)
  let v := r.defaultView
  [(1, r.mode == 3 || (if r.mode = 0 then r.cluster != 0 else !s.hasCluster r.cluster) ||
      (r.mode != 2 && r.bank != 0)),
   (2, wordBit d 0 23),
   (4, r.base % r.align s.cfg != 0 || others.any (fun e => r.overlaps e.2)),
   (8, (r.limit + 1) % r.align s.cfg != 0 || decide (s.cfg.capacity ≤ r.limit) ||
      decide (r.limit < r.base) || decide (r.largest s.cfg < r.size)),
   (12, decide (16384 < r.rowBase + r.rows s.cfg) || others.any (fun e => r.clash e.2 s.cfg)),
   (14, v == 0xFFFF || (decide (4096 ≤ v) && v != 0xFFFE))]

/-- The bits of a region descriptor that REGION_SET carries (Table 3-1). -/
def regionFields : List (Nat × Nat) :=
  [(0, 17), (20, 4), (32, 28), (64, 28), (96, 14), (112, 16), (128, 10), (140, 3), (144, 3), (148, 3)]

/-- A safety region is changed from the SP window alone (R87). -/
def State.safetyRegion (s : State) (c : Cmd) (i : Nat) (sets : Bool) : Option Result :=
  let was := match s.region? i with | some r => r.safety | none => false
  refuseIf ((was || sets) && decide (c.src ≠ .sp)) { status := .perm, detail := 5 }

/-- REGION_SET (R84). -/
def bodyRegionSet : Body :=
  { code := 0x100, units := 3, path := onHolder, sys := true
    check := fun c s =>
      firstRefusal
        [c.params regionFields (s.regionBad (c.desc 384)),
         s.safetyRegion c (c.par 0 1) (c.flag 0 22),
         s.busyOn [.region (c.par 0 1)]]
    act := fun _ c s =>
      let r := regionOf (c.desc 384) false
      let s := s.scrubChange (s.region? (c.par 0 1)) (some r)
      Act.ok { s with addr := { s.addr with
        regions := s.addr.regions.set (c.par 0 1) { r with degraded := s.degrades r } } } }

/-- REGION_CLEAR (R84). -/
def bodyRegionClear : Body :=
  { code := 0x101, units := 1, path := onHolder, sys := true
    check := fun c s =>
      firstRefusal
        [c.params [byteField 0 1] [], s.safetyRegion c (c.par 0 1) false,
         s.busyOn [.region (c.par 0 1)]]
    act := fun _ c s =>
      let s := s.scrubChange (s.region? (c.par 0 1)) none
      Act.ok { s with addr := { s.addr with regions := s.addr.regions.erase (c.par 0 1) } } }

/-- The descriptor that REGION_QUERY returns (R78). -/
def Region.shown (r : Region) : BitVec 384 :=
  BitVec.ofNat 384 (putBits (putBits r.desc.toNat 20 1 (bit r.init)) 23 1 (bit r.degraded))

/-- Fields of a query of an entry in byte 0, TO_MEM in byte 1 (Table 3-6). -/
def queryFields : List (Nat × Nat) := [byteField 0 1, (8, 1), byteField 8 5]

/-- REGION_QUERY (R99). -/
def bodyRegionQuery : Body :=
  { code := 0x102, units := 1, path := onHolder, q := true
    memory := fun c => c.flag 1 0
    check := fun c s =>
      firstRefusal
        [c.params queryFields [(1, noBuffer c (c.flag 1 0))],
         replyRange c s (c.flag 1 0) (c.par 8 5) 48]
    touches := fun c s => replyTouches s (c.flag 1 0) (c.par 8 5) 48
    spans := fun c _ => replySpans (c.flag 1 0) (c.par 8 5) 48
    act := fun _ c s =>
      let d := match s.region? (c.par 0 1) with | some r => r.shown | none => 0
      Act.ok (s.reply c (c.flag 1 0) (c.par 8 5) (descBytes d 48)) }

/-- The initialised flag of a region is set (R85). -/
def State.markInit (s : State) (i : Nat) : State :=
  (s.scrubChange (s.region? i) ((s.region? i).map fun r => { r with init := true })).onRegion i
    fun r => { r with init := true }

/-- REGION_MARK_INIT (R85). -/
def bodyRegionMarkInit : Body :=
  { code := 0x103, units := 1, path := onHolder
    check := fun c s =>
      let r := s.region? (c.par 0 1)
      firstRefusal
        [c.params [byteField 0 1] [(0, r.isNone)],
         refuseIf (!s.systemSource c.src && (match r with | some r => r.owner != c.ctx | none => false))
          { status := .perm, detail := 4 },
         s.busyOn [.region (c.par 0 1)]]
    act := fun _ c s => Act.ok (s.markInit (c.par 0 1)) }

/-! ### Views (R94 to R97, R211 to R220) -/

/-- A combination of Table 8-1 that is refused (R222). -/
def accBad (d : BitVec 512) : Bool :=
  let a := viewAcc d
  let po := viewPort d
  a != 0 &&
    (viewStore d != 4 ||
      (if a = 1 then !(po == 0 || po == 5) else if a = 2 then po != 0 else po != 1) ||
      (a != 3 && (viewRound d != 0 || viewBfx d != 0)) ||
      viewSrc d != 0 || viewGroup d != 0 || viewZp d || viewInf d || viewStat d || viewClipAct d != 0 ||
      viewFlushAct d != 0 || epochMode d != 0)

/-- The bits of a view descriptor (Table 3-4). -/
def viewFields : List (Nat × Nat) :=
  [(0, 12), (16, 9), (31, 1), (32, 7), (40, 3), (44, 7), (52, 3), (56, 4), (64, 28), (96, 28), (128, 24),
   (160, 24), (192, 32), (224, 32), (256, 32), (288, 32), (320, 32)]

/-- Fields that offend in a view descriptor (R95, R96, R187, R188, R222). -/
def State.viewFields (s : State) (d : BitVec 512) : List (Nat × Bool) :=
  let r := viewRegion d
  [(2, decide (0x100 < r) || (decide (r < 0x100) && (s.region? r).isNone)), (4, accBad d)] ++ viewBad d

/-- A scale or zero-point array lies wholly in one region that grants the context what it needs
(R96, R194). -/
def State.arrayOk (s : State) (ctx base entries width : Nat) (write : Bool) : Bool :=
  match s.matchRegion base ((entries * width + 31) / 32 * 32) with
  | some (_, r) =>
    let p := r.permFor (.ctx ctx)
    bitOf p 0 && (!write || bitOf p 1)
  | none => false

/-- The arrays of a view are where R96 wants them. -/
def State.arraysOk (s : State) (d : BitVec 512) (ctx : Nat) : Bool :=
  if viewGroup d = 0 then true
  else
    match s.region? (viewRegion d) with
    | some r =>
      let n := viewEntries d r.size
      s.arrayOk ctx (viewScaleBase d) n (entryWidth d) (decide (2 ≤ viewSrc d)) &&
        (!zpArray d || s.arrayOk ctx (viewZpBase d) n 1 (decide (2 ≤ viewSrc d)))
    | none => true

/-- PERM with DETAIL 4 of a view or population that another context owns (R96, R220). -/
def ownerOnly (c : Cmd) (s : State) (owner : Option Nat) : Option Result :=
  refuseIf (!s.systemSource c.src && (match owner with | some o => o != c.ctx | none => false))
    { status := .perm, detail := 4 }

/-- A VIEW_STATS waits for the epoch of a view to settle: another command on that view waits for it
(R53, R220). -/
def State.viewWaits (s : State) (v : Nat) : Option WaitFor :=
  if s.cmd.waiting.any (fun w => match w.why with | .settle u _ => u == v | _ => false) then
    some .object
  else none

/-- The lines within the arrays of a view (R194, R198). -/
def State.viewLine (s : State) (v : View) (a : Nat) : Bool :=
  match s.region? (viewRegion v.desc) with
  | some r =>
    let n := viewEntries v.desc r.size
    let inside (base len : Nat) : Bool := decide (base ≤ a) && decide (a < base + (len + 31) / 32 * 32)
    viewGroup v.desc != 0 &&
      (inside (viewScaleBase v.desc) (n * entryWidth v.desc) ||
        (zpArray v.desc && inside (viewZpBase v.desc) n))
  | none => false

/-- Invalidate the lines of a view, where it is valid (R198). -/
def State.invalidateView (s : State) (v : Nat) : State :=
  match s.view? v with
  | some w => s.invalidate (s.viewLine w)
  | none => s

/-- The delayed scale before any history: SEED_SCALE, rounded up (R213). -/
def seedScale (d : BitVec 512) : Option Nat :=
  if viewSrc d = 2 ∧ viewSeedScale d ≠ 0 then
    (fp32Scale (viewSeedScale d)).map (fun q => scaleUp (viewSfmt d) q)
  else none

/-- The first multiple of `u` ns after `t`; past the wrap of TIME it is 0, where TIME goes on (R380). -/
def nextBoundary (u : Nat) (t : BitVec 64) : BitVec 64 :=
  if (t.toNat / u + 1) * u < 2 ^ 64 then BitVec.ofNat 64 ((t.toNat / u + 1) * u) else 0

/-- VIEW_SET makes an entry (R96, R198). -/
def State.viewSet (s : State) (d : BitVec 512) (owner : Nat) : State :=
  let id := word d 0 0 12
  let s := s.invalidateView id
  let s := s.onConv fun k =>
    { k with
      views := k.views.set id { desc := d, owner := owner, gen := k.gens, dscale := seedScale d,
                                boundary := nextBoundary (epochN d * 1000) s.now }
      gens := k.gens + 1 }
  s.invalidateView id

/-- VIEW_SET (R95, R96). -/
def bodyViewSet : Body :=
  { code := 0x110, units := 4, path := onHolder
    check := fun c s =>
      let d := c.desc 512
      firstRefusal
        [c.params viewFields (s.viewFields d),
         ownerOnly c s ((s.view? (word d 0 0 12)).map (fun v => v.owner)),
         refuseIf (!s.systemSource c.src &&
            (match s.region? (viewRegion d) with | some r => r.owner != c.ctx | none => false))
          { status := .perm, detail := 5 },
         refuseIf (!s.arraysOk d c.ctx) { status := .perm, detail := 5 }]
    waits := fun c s => s.viewWaits (word (c.desc 512) 0 0 12)
    act := fun _ c s => Act.ok (s.viewSet (c.desc 512) c.ctx) }

/-- VIEW_CLEAR (R96). -/
def bodyViewClear : Body :=
  { code := 0x111, units := 1, path := onHolder
    check := fun c s =>
      firstRefusal
        [c.params [byteField 0 2] [(0, decide (4096 ≤ c.par 0 2))],
         ownerOnly c s ((s.view? (c.par 0 2)).map (fun v => v.owner))]
    waits := fun c s => s.viewWaits (c.par 0 2)
    act := fun _ c s =>
      let s := s.invalidateView (c.par 0 2)
      Act.ok (s.onConv fun k => { k with views := k.views.erase (c.par 0 2) }) }

/-- VIEW_QUERY (R99): the owner stands in word 11. -/
def bodyViewQuery : Body :=
  { code := 0x112, units := 1, path := onHolder, q := true
    memory := fun c => c.flag 2 0
    check := fun c s =>
      firstRefusal
        [c.params [byteField 0 2, (16, 1), byteField 8 5]
          [(0, decide (4096 ≤ c.par 0 2)), (2, noBuffer c (c.flag 2 0))],
         replyRange c s (c.flag 2 0) (c.par 8 5) 64]
    touches := fun c s => replyTouches s (c.flag 2 0) (c.par 8 5) 64
    spans := fun c _ => replySpans (c.flag 2 0) (c.par 8 5) 64
    act := fun _ c s =>
      let d : BitVec 512 := match s.view? (c.par 0 2) with
        | some v => BitVec.ofNat 512 (v.desc.toNat + v.owner * 2 ^ 352)
        | none => 0
      Act.ok (s.reply c (c.flag 2 0) (c.par 8 5) (descBytes d 64)) }

/-- The number as an FP32 code (Table 7-9). -/
def fp32Code (q : Rat) : Nat := (fmtFP32.port (Num.ofRat q)).1

/-- A 32-bit count of the record. -/
def count32 (n : Nat) : Nat := min n 0xFFFFFFFF

/-- The statistics record (Table 7-9), word by word. For a view with SEED_SCALE and no history R213 makes dscale the
rounded SEED_SCALE: the record shows that scale, and NO_HISTORY 0. DESIGN CHOICE (log entry 65). -/
def View.stats (v : View) (id : Nat) : List Nat :=
  let d := v.desc
  let l := v.last
  let scale := match v.dscale with
    | some c => (match scaleValue (viewSfmt d) c with | some q => fp32Code q | none => 0)
    | none => 0
  [id + bit v.forced * 2 ^ 16 + bit v.clipFired * 2 ^ 17 + bit v.flushFired * 2 ^ 18 +
      bit v.dscale.isNone * 2 ^ 19,
   v.cur.count.toNat, count32 l.elems, count32 l.nonzero, count32 l.clipped, count32 l.flushed,
   count32 l.nan, l.clipShare + l.flushShare * 2 ^ 16, fp32Code l.amax,
   if viewZp d then fp32Code l.lo else 0, if viewZp d then fp32Code l.hi else 0, scale,
   if v.dscale.isSome then zpByte v.dzp else 0, count32 v.rdSat, count32 v.actions, count32 v.samples,
   bitsOf v.sse.toNat 0 32, bitsOf v.sse.toNat 32 32, bitsOf v.sigsq.toNat 0 32, bitsOf v.sigsq.toNat 32 32,
   0, 0, 0, 0]

/-- The actions of VIEW_STATS after ADVANCE: record, CLEAR, RESEED, INVAL (R220). -/
def State.viewStats (s : State) (c : Cmd) : State :=
  let id := c.par 0 2
  match s.view? id with
  | none => s
  | some v =>
    let s := s.reply c (c.flag 2 0) (c.par 8 5) ((v.stats id).flatMap (toBytes 4))
    let s := if c.flag 2 2 then
        s.onView id fun v => { v with samples := 0, sse := 0, sigsq := 0, rdSat := 0, actions := 0 } else s
    let s := if c.flag 2 4 then
        s.onView id fun v => { v with dscale := seedScale v.desc, dzp := 0 } else s
    if c.flag 2 3 then s.invalidateView id else s

/-- VIEW_STATS (R220). With ADVANCE it waits until the epoch that it ends has settled. -/
def bodyViewStats : Body :=
  { code := 0x113, units := 1, path := onHolder, q := true
    memory := fun c => c.flag 2 0
    check := fun c s =>
      firstRefusal
        [c.params [byteField 0 2, (16, 5), byteField 8 5]
          [(0, (s.view? (c.par 0 2)).isNone), (2, noBuffer c (c.flag 2 0)),
           (8, c.flag 2 0 && (c.par 8 5 % 32 != 0 || decide (2 ^ 28 ≤ c.par 8 5)))],
         ownerOnly c s ((s.view? (c.par 0 2)).map (fun v => v.owner)),
         replyRange c s (c.flag 2 0) (c.par 8 5) 96]
    touches := fun c s => replyTouches s (c.flag 2 0) (c.par 8 5) 96
    spans := fun c _ => replySpans (c.flag 2 0) (c.par 8 5) 96
    waits := fun c s => s.viewWaits (c.par 0 2)
    act := fun token c s =>
      if c.flag 2 1 then
        let n := match s.view? (c.par 0 2) with | some v => v.cur.count.toNat | none => 0
        .running ((s.onView (c.par 0 2) (·.reachEnd s.clock.xck)).await token c s.holder (.settle (c.par 0 2) n))
      else Act.ok (s.viewStats c) }

/-- A share of R214. -/
def shareOf (part whole : Nat) : Nat := if whole = 0 then 0 else min 65535 (65536 * part / whole)

/-- An ended epoch settles: its statistics are final and its actions take effect (R212, R214, R215). -/
def State.settleEpoch (s : State) (id : Nat) (r : EpochRec) : State :=
  match s.view? id with
  | none => s
  | some v =>
    let d := v.desc
    let cs := shareOf r.clipped r.elems
    let fs := shareOf r.flushed r.nonzero
    let clip := viewClipAct d != 0 && decide (viewClipLimit d < cs)
    let flush := viewFlushAct d != 0 && decide (viewFlushLimit d < fs)
    let tells (a : Nat) : Bool := a % 2 == 1
    let forces (a : Nat) : Bool := decide (2 ≤ a)
    let ct := clip && tells (viewClipAct d)
    let ft := flush && tells (viewFlushAct d)
    let s := s.onView id fun v =>
      { v with
        ended := v.ended.filter (fun q => q.count != r.count)
        last := { elems := r.elems, nonzero := r.nonzero, clipped := r.clipped, flushed := r.flushed
                  nan := r.nan, clipShare := cs, flushShare := fs, amax := r.amax, lo := r.lo, hi := r.hi }
        clipFired := clip, flushFired := flush
        actions := satAdd 0xFFFFFFFF v.actions (bit clip + bit flush)
        forced := v.forced || (clip && forces (viewClipAct d)) || (flush && forces (viewFlushAct d)) }
    if ct || ft then
      s.onConv fun k =>
        { k with irq := (if ct then k.irq ||| 1 else k.irq) ||| (if ft then 2 else 0)
                 lastView := BitVec.ofNat 12 id, lastClip := ct, lastFlush := ft }
    else s

/-- The oldest ended epoch of a view whose pieces have all been quantised or discarded. -/
def View.settles (v : View) : Option EpochRec := v.ended.reverse.find? (fun r => r.left == 0)

/-- The VIEW_STATS that waits for an epoch. -/
def State.statsWaiting (s : State) (id : Nat) (n : BitVec 32) : Option Waiting :=
  s.cmd.waiting.find? (fun w => decide (w.why = .settle id n.toNat))

/-- EPOCH_SETTLE: the epoch settles, and the VIEW_STATS that ended it goes on. A reply to a stopped
cluster wakes it first, and it waits for earlier accesses to its rows (R117, R212, R220, R368). -/
def State.epochSettle (s : State) (id : Nat) : State :=
  match s.view? id with
  | none => s
  | some v =>
    match v.settles with
    | none => s
    | some r =>
      match s.statsWaiting id r.count with
      | none => s.settleEpoch id r
      | some w =>
        match s.sleeping (replyTouches s (w.cmd.flag 2 0) (w.cmd.par 8 5) 96) with
        | k :: _ => s.wakeCluster k 2
        | [] =>
          if (replySpans (w.cmd.flag 2 0) (w.cmd.par 8 5) 96).all (fun x => s.spanFree x.1 x.2.1 x.2.2) then
            ((s.settleEpoch id r).viewStats w.cmd).finish w.token w.cmd { status := .ok }
          else s

/-- EPOCH_TIME_BOUNDARY: the time base reaches the view's boundary (MODE 2 of R212), compared as R380 says. A change that
passes several boundaries ends one epoch, and after one backward the view waits for its boundary (R384). -/
def State.epochTime (s : State) (id : Nat) : State :=
  match s.view? id with
  | some v =>
    if epochMode v.desc = 2 ∧ serialGe64 s.now v.boundary then
      s.onView id fun v => { v.reachEnd s.clock.xck with boundary := nextBoundary (epochN v.desc * 1000) s.now }
    else s
  | none => s

/-! ### Remote windows (R90 to R93, R293) -/

/-- Fields that offend in a window descriptor (R90). R90 lists no refusal of a LIMIT below BASE: BAD_PARAM with DETAIL 8
is the model's (DESIGN CHOICE, log entry 52). -/
def State.windowBad (s : State) (d : BitVec 256) : List (Nat × Bool) :=
  let others := s.addr.windows.filter (fun e => e.1 != word d 0 0 6)
  let mask := winMask d
  [(4, others.any (fun e => decide (winBase e.2 ≤ winLimit d) && decide (winBase d ≤ winLimit e.2)) ||
      decide (winBase d < 2 ^ 28)),
   (8, decide (winLimit d < winBase d)),
   (12, decide (2 ^ 40 ≤ winRbase d + (winLimit d - winBase d))),
   (18, mask == 0 || (List.range 8).any (fun i => bitOf mask i && decide (s.cfg.links ≤ i)))]

/-- The bits of a window descriptor (Table 3-3). -/
def windowFields : List (Nat × Nat) :=
  [(0, 6), (8, 1), (12, 3), (16, 3), (20, 10), (32, 24), (64, 24), (96, 24), (128, 12), (144, 8), (160, 10),
   (176, 16)]

/-- WINDOW_SET (R90, R293). -/
def bodyWindowSet : Body :=
  { code := 0x600, units := 2, path := onHolder, sys := true
    check := fun c s => c.params windowFields (s.windowBad (c.desc 256))
    act := fun _ c s =>
      let d := c.desc 256
      let s := { s with addr := { s.addr with windows := s.addr.windows.set (word d 0 0 6) d } }
      Act.ok s.tidyDests }

/-- WINDOW_CLEAR (R99). -/
def bodyWindowClear : Body :=
  { code := 0x601, units := 1, path := onHolder, sys := true
    check := fun c _ => c.params [byteField 0 1] [(0, decide (64 ≤ c.par 0 1))]
    act := fun _ c s =>
      let s := { s with addr := { s.addr with windows := s.addr.windows.erase (c.par 0 1) } }
      Act.ok s.tidyDests }

/-- WINDOW_QUERY (R99). -/
def bodyWindowQuery : Body :=
  { code := 0x602, units := 1, path := onHolder, q := true
    memory := fun c => c.flag 1 0
    check := fun c s =>
      firstRefusal
        [c.params queryFields [(0, decide (64 ≤ c.par 0 1)), (1, noBuffer c (c.flag 1 0))],
         replyRange c s (c.flag 1 0) (c.par 8 5) 32]
    touches := fun c s => replyTouches s (c.flag 1 0) (c.par 8 5) 32
    spans := fun c _ => replySpans (c.flag 1 0) (c.par 8 5) 32
    act := fun _ c s =>
      let d := (s.addr.windows.find? (c.par 0 1)).getD 0
      Act.ok (s.reply c (c.flag 1 0) (c.par 8 5) (descBytes d 32)) }

end Sys2Proof.Machine
end

