-- ==== Sys2Proof/Machine/Crypto.lean ====
section
/-!
DEFINITION. The three computations that chapter 15 names: CRC-32C, SHA-384, and the verification of
an ECDSA signature on P-384 (R419, R420). The spec names them; their steps are those of RFC 3720,
FIPS 180-4 and FIPS 186 with SEC 1 (PRESUMED, log entry 23).
-/

namespace Sys2Proof.Machine

/-! ### CRC-32C -/

/-- One bit of the reflected CRC-32C. -/
def crcBit (c : Nat) : Nat := if c % 2 = 1 then (c / 2) ^^^ 0x82F63B78 else c / 2

/-- One byte. -/
def crcByte (c : Nat) (b : Byte) : Nat :=
  crcBit (crcBit (crcBit (crcBit (crcBit (crcBit (crcBit (crcBit (c ^^^ b.toNat))))))))

/-- The register of a CRC-32C after more bytes; it starts at all ones. -/
def crcFold (c : Nat) (bs : List Byte) : Nat := bs.foldl crcByte c

/-- CRC-32C of a message. -/
def crc32c (bs : List Byte) : Nat := crcFold 0xFFFFFFFF bs ^^^ 0xFFFFFFFF

/-! ### SHA-384 -/

/-- The greatest number of at most `n` more bits, above `x`, whose power `e` does not pass `m`. -/
def rootUpTo (e m : Nat) : Nat → Nat → Nat
  | 0, x => x
  | n + 1, x => rootUpTo e m n (if (x + 2 ^ n) ^ e ≤ m then x + 2 ^ n else x)

/-- The first 64 bits after the point of root `e` of a number below 512: what the standard takes its constants
from. -/
def rootFraction (e p : Nat) : BitVec 64 := BitVec.ofNat 64 (rootUpTo e (p * 2 ^ (64 * e)) 69 0)

/-- A prime, of the numbers below 441: none from 2 to 20 divides it, but itself. -/
def isPrime (p : Nat) : Bool :=
  decide (2 ≤ p) && (List.range 21).all (fun d => decide (d < 2) || d == p || p % d != 0)

/-- The first 80 primes. -/
def shaPrimes : List Nat := (List.range 410).filter isPrime

/-- The constant of each round: from the cube root of a prime. -/
def shaK : List (BitVec 64) := shaPrimes.map (rootFraction 3)

/-- The hash value that SHA-384 starts from: the square roots of the ninth to the sixteenth prime. -/
def shaInit : List (BitVec 64) := ((shaPrimes.drop 8).take 8).map (rootFraction 2)

/-- Three rotations of a word, added bit by bit. -/
def turned (i j k : Nat) (x : BitVec 64) : BitVec 64 := x.rotateRight i ^^^ x.rotateRight j ^^^ x.rotateRight k

/-- Two rotations and a shift of a word, added bit by bit. -/
def shifted (i j k : Nat) (x : BitVec 64) : BitVec 64 := x.rotateRight i ^^^ x.rotateRight j ^^^ x >>> k

/-- `n` more words of a message schedule, which is held with its newest word first. -/
def shaSchedule : Nat → List (BitVec 64) → List (BitVec 64)
  | 0, w => w
  | n + 1, w =>
    let back (i : Nat) : BitVec 64 := w.getD (i - 1) 0
    shaSchedule n ((back 16 + shifted 1 8 7 (back 15) + back 7 + shifted 19 61 6 (back 2)) :: w)

/-- One round on the eight working variables, `a` to `h` by position; `kw` is the round's constant and word. -/
def shaRound (v : List (BitVec 64)) (kw : BitVec 64) : List (BitVec 64) :=
  let x (i : Nat) : BitVec 64 := v.getD i 0
  let chosen := x 6 ^^^ (x 4 &&& (x 5 ^^^ x 6))
  let majority := (x 0 &&& x 1) ||| (x 2 &&& (x 0 ||| x 1))
  let up := kw + x 7 + chosen + turned 14 18 41 (x 4)
  (up + majority + turned 28 34 39 (x 0)) :: v.take 3 ++ (x 3 + up) :: (v.drop 4).take 3

/-- A big-endian number. -/
def ofBig (bs : List Byte) : Nat := bs.foldl (fun a b => a * 256 + b.toNat) 0

/-- One block of 128 bytes. -/
def shaBlock (h : List (BitVec 64)) (b : List Byte) : List (BitVec 64) :=
  let w := (List.range 16).map (fun i => BitVec.ofNat 64 (ofBig ((b.drop (8 * i)).take 8)))
  let ws := (shaSchedule 64 w.reverse).reverse
  let v := (List.zipWith (· + ·) shaK ws).foldl shaRound h
  List.zipWith (· + ·) h v

/-- The blocks of a padded message. -/
def shaBlocks : Nat → List (BitVec 64) → List Byte → List (BitVec 64)
  | 0, h, _ => h
  | n + 1, h, m => shaBlocks n (shaBlock h (m.take 128)) (m.drop 128)

/-- A message padded to whole blocks: a 1 bit, zeros, and its length in bits. -/
def shaPad (m : List Byte) : List Byte :=
  m ++ [0x80] ++ List.replicate ((239 - m.length % 128) % 128) 0 ++ (toBytes 16 (8 * m.length)).reverse

/-- SHA-384 of a message, as a number read big-endian. -/
def sha384 (m : List Byte) : Nat :=
  ((shaBlocks ((shaPad m).length / 128) shaInit (shaPad m)).take 6).foldl (fun a w => a * 2 ^ 64 + w.toNat) 0

/-! ### ECDSA on P-384 -/

/-- The field prime of P-384. -/
def p384 : Nat := 2 ^ 384 - 2 ^ 128 - 2 ^ 96 + 2 ^ 32 - 1

/-- The order of the group. -/
def n384 : Nat :=
  0xffffffffffffffffffffffffffffffffffffffffffffffffc7634d81f4372ddf581a0db248b0a77aecec196accc52973

/-- The coefficient b of the curve; a is -3. -/
def b384 : Nat :=
  0xb3312fa7e23ee7e4988e056be3f82d19181d9c6efe8141120314088f5013875ac656398d8a2ed19d2a85c8edd3ec2aef

/-- The base point. -/
def g384 : Nat × Nat :=
  (0xaa87ca22be8b05378eb1c71ef320ad746e1d3b628ba79b9859f741e082542a385502f25dbf55296c3a545e3872760ab7,
   0x3617de4a96262c6f5d9e98bf9292dc29f8f41dbd289a147ce9da3113b5f0b8c00a60b1ce1d7e819d7a431d7c90ea0e5f)

/-- x to the power e modulo m, over the low k digits of e in base 16. -/
def powMod (m x : Nat) : Nat → Nat → Nat
  | 0, _ => 1 % m
  | k + 1, e => x ^ (e % 16) * powMod m (x ^ 16 % m) k (e / 16) % m

/-- The inverse modulo a prime of 384 bits. -/
def invMod (m x : Nat) : Nat := powMod m (x % m) 96 (m - 2)

/-- A point in affine coordinates; none is the point at infinity. -/
abbrev Point := Option (Nat × Nat)

/-- The sum of two points. -/
def Point.add (a b : Point) : Point :=
  match a, b with
  | none, q => q
  | q, none => q
  | some (x1, y1), some (x2, y2) =>
    if x1 = x2 ∧ (y1 + y2) % p384 = 0 then none
    else
      let l :=
        if x1 = x2 then (3 * x1 * x1 + (p384 - 3)) * invMod p384 (2 * y1) % p384
        else (y2 + p384 - y1) * invMod p384 (x2 + p384 - x1) % p384
      let x3 := (l * l + 2 * p384 - x1 - x2) % p384
      some (x3, (l * (x1 + p384 - x3) + p384 - y1) % p384)

/-- A multiple of a point, over the low k bits. -/
def Point.mul : Nat → Nat → Point → Point
  | 0, _, _ => none
  | k + 1, e, q =>
    let r := Point.mul k (e / 2) (q.add q)
    if e % 2 = 1 then q.add r else r

/-- A public key is a point of the curve. -/
def onCurve (x y : Nat) : Bool :=
  decide (x < p384) && decide (y < p384) &&
    y * y % p384 == (x * x * x + (p384 - 3) * x + b384) % p384

/-- A signature (r, s) over a hash verifies under a public key. -/
def ecdsaOk (x y r s hash : Nat) : Bool :=
  if 1 ≤ r ∧ r < n384 ∧ 1 ≤ s ∧ s < n384 ∧ onCurve x y then
    let w := invMod n384 s
    match Point.add (Point.mul 384 (hash * w % n384) (some g384)) (Point.mul 384 (r * w % n384) (some (x, y))) with
    | some (v, _) => v % n384 == r
    | none => false
  else false

end Sys2Proof.Machine
end

