-- ==== Sys2Proof/Machine/CmdFold.lean ====
section
/-!
DEFINITION. The fold commands and the dump (Tables 9-9 to 9-11; R259 to R263, R276, R283 to R286,
R421).
-/

namespace Sys2Proof.Machine

/-! ### Translation and placement (R259, R262) -/

/-- FOLD of the parameters, translated through CONTEXT. -/
def State.foldOf (s : State) (c : Cmd) : Option Nat := s.translate c.ctx (c.par 0 2)

/-- A fold that does not translate gives BAD_PARAM with DETAIL 0 (R285). -/
def noFold (s : State) (c : Cmd) : Nat × Bool := (0, (s.foldOf c).isNone)

/-- The cluster of a translated fold: its commands need that cluster in RUN (R368). -/
def foldTouches (c : Cmd) (s : State) : List Nat :=
  match s.foldOf c with | some k => [k / 2048] | none => []

/-- The entry that a virtual fold of a context maps to, valid or not (R259). -/
def State.foldEntry (s : State) (ctx v : Nat) : Option Nat :=
  let m := s.folds.maps.get {} ctx
  if m.en ∧ m.base.toNat + v ≤ m.limit.toNat then some (m.base.toNat + v) else none

/-- Free physical folds of a cluster; a cluster that lost a unit has none (R347). -/
def State.freeFolds (s : State) (c : Nat) : Nat :=
  if (s.ctest c).lost then 0
  else 2048 - (s.folds.folds.filter (fun e => e.1 / 2048 == c && decide (e.2.state ≠ .free))).length

/-- The cluster with the most free folds, a tie going to the lower one. -/
def State.roomiest (s : State) : Nat :=
  (List.range s.cfg.clusters).foldl (fun b c => if s.freeFolds b < s.freeFolds c then c else b) 0

/-- The cluster that FOLD_CREATE places its fold in (R262). -/
def State.foldHome (s : State) (c : Cmd) : Nat := if c.par 3 1 = 0xFF then s.roomiest else c.par 3 1

/-- The lowest free index of a cluster. -/
def State.freeIndex (s : State) (c : Nat) : Option Nat :=
  if s.freeFolds c = 0 then none
  else (List.range 2048).find? (fun i => decide ((s.fold (c * 2048 + i)).state = .free))

/-! ### FOLD_MAP, FOLD_CREATE, FOLD_DESTROY, FOLD_ARM, FOLD_QUERY -/

/-- FOLD_MAP (R259, R261). -/
def bodyFoldMap : Body :=
  { code := 0x300, units := 1, path := onFast, sys := true
    check := fun c _ =>
      c.params [byteField 0 6, (48, 1)]
        [(0, decide (1023 < c.par 0 2)), (2, decide (32767 < c.par 2 2)),
         (4, decide (32767 < c.par 4 2) || decide (c.par 4 2 < c.par 2 2))]
    act := fun _ c s =>
      let m : FoldMap :=
        { en := c.flag 6 0, base := BitVec.ofNat 15 (c.par 2 2)
          limit := BitVec.ofNat 15 (c.par 4 2) }
      Act.ok (s.onFolds fun u => { u with maps := u.maps.set (c.par 0 2) m }) }

/-- The fold that FOLD_CREATE makes (R257, Table 9-9). -/
def newFold (c : Cmd) (entry : Nat) : Fold :=
  let tally := c.par 2 1 == 1
  { state := .active, tally := tally, linkOk := c.flag 13 0, peerEn := c.flag 13 1, entry := entry
    owner := c.ctx, value := if tally then BitVec.ofNat 32 (c.par 4 4) else 0
    count := if tally then 0 else c.par 4 4, timeout := c.par 8 4, homePort := c.par 12 1
    peer := c.bits 14 0 12 }

/-- A COUNT of a barrier or a VALUE of a tally out of range. -/
def countBad (tally keep : Bool) (n : Nat) : Bool :=
  if tally then decide (tallyMax < n) else decide (65535 < n) || (n == 0 && !keep)

/-- FOLD_CREATE (R262). -/
def bodyFoldCreate : Body :=
  { code := 0x301, units := 1, path := onFast
    check := fun c s =>
      firstRefusal
        [c.params [byteField 0 13, (104, 2), (112, 12)]
          [(0, match s.foldEntry c.ctx (c.par 0 2) with
              | some e => (s.folds.entries.find? e).isSome
              | none => true),
           (2, decide (1 < c.par 2 1)),
           (3, c.par 3 1 != 0xFF && !s.hasCluster (c.par 3 1)),
           (4, countBad (c.par 2 1 == 1) false (c.par 4 4)),
           (12, (decide (63 < c.par 12 1) || !s.cfg.hasInitiator (c.par 12 1)) && c.par 12 1 != 0x7F)],
         refuseIf ((s.freeIndex (s.foldHome c)).isNone) { status := .overcommit }]
    touches := fun c s => [s.foldHome c]
    act := fun _ c s =>
      match s.foldEntry c.ctx (c.par 0 2), s.freeIndex (s.foldHome c) with
      | some e, some i =>
        let k := s.foldHome c * 2048 + i
        Act.ok ((s.onFold k fun _ => newFold c e).onFolds fun u => { u with entries := u.entries.set e k })
      | _, _ => Act.ok s }

/-- FOLD_DESTROY (R283). -/
def State.foldDestroy (s : State) (k : Nat) : State :=
  let s := s.onFolds fun u => { u with entries := u.entries.erase (s.fold k).entry }
  let s := s.endWaiters k .abandoned
  (s.onFold k fun f => { f with state := .dying }).freeDying k

/-- FOLD_DESTROY (R283). -/
def bodyFoldDestroy : Body :=
  { code := 0x302, units := 1, path := onFast
    check := fun c s =>
      firstRefusal
        [c.params [byteField 0 2] [noFold s c],
         ownerOnly c s ((s.foldOf c).map (fun k => (s.fold k).owner))]
    touches := foldTouches
    act := fun _ c s =>
      match s.foldOf c with
      | some k => Act.ok (s.foldDestroy k)
      | none => Act.ok s }

/-- What FOLD_ARM makes of a fold (R284). -/
def Fold.arm (f : Fold) (n timeout : Nat) : Fold :=
  let f := if f.tally then { f with value := BitVec.ofNat 32 n, deficit := 0 }
    else { f with arrived := 0, count := if n = 0 then f.count else n }
  { f with satHi := false, satLo := false, deficitSat := false, state := .active
           timeout := if timeout = 0xFFFFFFFF then f.timeout else timeout }

/-- FOLD_ARM (R284). -/
def bodyFoldArm : Body :=
  { code := 0x303, units := 1, path := onFast
    check := fun c s =>
      firstRefusal
        [c.params [byteField 0 2, byteField 4 8]
          [noFold s c,
           (0, match s.foldOf c with | some k => decide ((s.fold k).state = .dying) | none => false),
           (4, match s.foldOf c with
              | some k => countBad (s.fold k).tally true (c.par 4 4)
              | none => false)],
         ownerOnly c s ((s.foldOf c).map (fun k => (s.fold k).owner))]
    touches := foldTouches
    act := fun _ c s =>
      match s.foldOf c with
      | some k => Act.ok ((s.onFold k fun f => f.arm (c.par 4 4) (c.par 8 4)).satisfy k)
      | none => Act.ok s }

/-- The number of a fold state (Table 9-7). -/
def FoldState.code : FoldState → Nat
  | .free => 0 | .active => 1 | .error => 2 | .abandoned => 3 | .dying => 4

/-- FOLD_QUERY (R285). -/
def bodyFoldQuery : Body :=
  { code := 0x305, units := 1, path := onFast, q := true
    check := fun c s => c.params [byteField 0 2] [noFold s c]
    touches := foldTouches
    act := fun _ c s =>
      match s.foldOf c with
      | some k =>
        let f := s.fold k
        .done { status := .ok, result := f.value.toNat
                detail := f.state.code + bit f.tally * 8 + bit f.satHi * 16 + bit f.satLo * 32 +
                  bit f.deficitSat * 64 } s
      | none => Act.ok s }

/-! ### FOLD_OP (R263, R270, R276) -/

/-- The fold, OP and VALUE of a FOLD_OP that the fold unit answers with BAD_PARAM: the offset of the
field that is wrong (Table 9-2). -/
def foldOpBad (f : Fold) (op v : Nat) : List (Nat × Bool) :=
  let kind := decide (5 ≤ op) || (op == 0 && f.tally) || (op == 2 && !f.tally)
  [(2, kind), (4, !kind && !foldValid f op v)]

/-- The wait slot of a ring that a WAIT takes, with its identifier (R276). -/
def State.ringSlot (s : State) (n : Nat) : Option (Nat × Nat) :=
  (lowestFree 64 (s.folds.ringSlots.get [] n)).map
    (fun i => (i, i + (s.folds.ringCount.get 0 n).toNat * 64))

/-- A WAIT of a ring after its DEFER record (R276): it ends at once where it is satisfied or refused,
else it becomes a waiter. -/
def State.ringWait (s : State) (token : Nat) (c : Cmd) (k n : Nat) (o : FoldOp) : Act :=
  match s.ringSlot n with
  | none => .done { status := .overcommit } s
  | some (i, _) =>
    let s := s.onFolds fun u => { u with ringCount := u.ringCount.modify 0 n (· + 1) }
    let (st, v, s) := s.foldApply o
    if st = .defer then
      let s := s.onFolds fun u => { u with ringSlots := u.ringSlots.modify [] n (i :: ·) }
      .running (s.addWaiter k c.ctx (.ring n i token) (BitVec.ofNat 32 o.value))
    else .done { status := st, result := v.toNat } s

/-- FOLD_OP (R263). -/
def bodyFoldOp : Body :=
  { code := 0x304, units := 1, path := onFast
    check := fun c s =>
      let isRing := match c.src with | .ring _ => true | _ => false
      firstRefusal
        [c.params [byteField 0 3, byteField 4 4]
          (noFold s c :: (2, c.par 2 1 == 3 && !isRing) ::
            (match s.foldOf c with
             | some k => foldOpBad (s.fold k) (c.par 2 1) (c.par 4 4)
             | none => [])),
         match c.src with
         | .ring n => refuseIf (c.par 2 1 == 3 && (s.ringSlot n).isNone) { status := .overcommit }
         | _ => none]
    touches := foldTouches
    waits := fun c s =>
      match s.foldOf c with
      | some k => if 64 ≤ (s.folds.queues.get [] (k / 2048)).length then some .object else none
      | none => none
    job := fun c s =>
      match c.src with
      | .ring n => (match s.ringSlot n with | some (_, id) => id | none => 0)
      | _ => 0
    act := fun token c s =>
      match s.foldOf c with
      | none => Act.ok s
      | some k =>
        let o : FoldOp :=
          { origin := .cmd token, op := c.par 2 1, value := c.par 4 4, cluster := k / 2048
            index := k % 2048, ctx := c.ctx, rank := (FoldOrigin.cmd token).rank 0 false }
        let s := s.foldTurn o token
        match c.src with
        | .ring n =>
          if c.par 2 1 = 3 then s.ringWait token c k n o
          else
            let (st, v, s) := s.foldApply o
            .done { status := st, result := v.toNat } s
        | _ =>
          let (st, v, s) := s.foldApply o
          .done { status := st, result := v.toNat } s }

/-! ### The dump (R286, R421) -/

/-- FOLD_DUMP goes to SVC. -/
def Cmd.dumpSvc (c : Cmd) : Bool := c.par 0 1 == 1

/-- Physical folds of the configuration. -/
def State.foldCount (s : State) : Nat := s.cfg.clusters * 2048

/-- Bytes of a dump: the header and the records. -/
def State.dumpBytes (s : State) : Nat := 64 + 32 * s.foldCount

/-- FOLD_DUMP (R286). -/
def bodyFoldDump : Body :=
  { code := 0x306, units := 1, path := onHolder, q := true
    memory := fun c => c.par 0 1 == 0
    check := fun c s =>
      firstRefusal
        [c.params (if c.dumpSvc then [byteField 0 1] else [byteField 0 1, byteField 8 5])
          [(0, decide (1 < c.par 0 1)),
           (8, !c.dumpSvc && (c.par 8 5 % 32 != 0 || decide (2 ^ 28 ≤ c.par 8 5)))],
         if c.dumpSvc then none
         else rangeRefusal (s.rangeStops c.ctx [.w] false (c.par 8 5) s.dumpBytes)]
    waits := fun c s =>
      if c.dumpSvc && s.folds.dumps.any (fun d => d.cmd.dumpSvc) then some .object else none
    act := fun token c s =>
      .running (s.onFolds fun u => { u with dumps := u.dumps ++ [{ token := token, cmd := c }] }) }

/-- The dump header (Table 9-10). -/
def State.dumpHeader (s : State) : List Byte :=
  [1 + 32 * 2 ^ 8 + (s.cfg.clusters - 1) * 2 ^ 16, s.foldCount].flatMap (toBytes 4) ++
    toBytes 8 s.now.toNat ++ toBytes 8 0 ++
    toBytes 4 (s.folds.maps.filter (fun e => e.2.en)).length ++ List.replicate 36 0

/-- Whether the check bits of a fold in use have corrected a single-bit error since FOLD_CREATE: no rule says when one
occurs, so a dump finds that open (R266; log entry 50). -/
def State.foldCorrects (s : State) (k : Nat) : State :=
  if (s.fold k).state = .free ∨ (s.fold k).corrected then s
  else
    let (v, s) := s.draw
    s.onFold k fun f => { f with corrected := bitOf v.toNat 0 }

/-- A dump record (Table 9-11). -/
def State.dumpRecord (s : State) (k : Nat) : List Byte :=
  let f := s.fold k
  [f.state.code + bit f.tally * 8 + bit f.linkOk * 16 + bit f.peerEn * 32 + bit f.satHi * 64 +
      bit f.satLo * 128 + bit f.deficitSat * 256 + bit f.corrected * 512,
   if f.state = .free then 0 else f.entry + f.owner * 2 ^ 16,
   f.value.toNat, if f.tally then f.deficit else f.count + f.arrived * 2 ^ 16, f.timeout,
   f.homePort + f.peer * 2 ^ 8,
   (s.folds.waiters.filter (fun w => w.cluster * 2048 + w.index == k)).length, f.ops.toNat].flatMap
    (toBytes 4)

/-- Room in the outbound queue of SVC (R421). -/
def State.svcRoom (s : State) : Nat := 65536 - s.fw.svc.out.length

/-- Bytes onto the outbound queue. -/
def State.svcPush (s : State) (bs : List Byte) : State :=
  s.onFw fun w => { w with svc := { w.svc with out := w.svc.out ++ bs } }

/-- The bytes that go with record `k` of a dump to SVC, the trailer aside, and the CRC register after
them: the first record brings the length of the frame and the header (R421). -/
def State.svcPart (s : State) (d : Dump) : List Byte × Nat :=
  let covered := (if d.next = 0 then s.dumpHeader else []) ++ s.dumpRecord d.next
  ((if d.next = 0 then toBytes 4 (s.dumpBytes + 16) else []) ++ covered, crcFold d.crc covered)

/-- The trailer (R421). -/
def State.svcTrailer (s : State) (crc : Nat) : List Byte :=
  let t := toBytes 8 s.now.toNat ++ toBytes 4 s.foldCount
  t ++ toBytes 4 (crcFold crc t ^^^ 0xFFFFFFFF)

/-- Change a dump that runs. -/
def State.onDump (s : State) (token : Nat) (f : Dump → Dump) : State :=
  s.onFolds fun u => { u with dumps := u.dumps.map (fun d => if d.token = token then f d else d) }

/-- A dump is over. -/
def State.endDump (s : State) (d : Dump) (r : Result) : State :=
  (s.onFolds fun u => { u with dumps := u.dumps.filter (fun e => e.token != d.token) }).finish
    d.token d.cmd r

/-- The next record of a dump to SVC, if the queue has room for it (R421). -/
def State.dumpToSvc (s : State) (d : Dump) : State :=
  match s.cut d.token with
  | some st => s.endDump d { status := st }
  | none =>
  let (bs, crc) := s.svcPart d
  let last := decide (d.next + 1 = s.foldCount)
  let out := if last then bs ++ s.svcTrailer crc else bs
  if out.length ≤ s.svcRoom then
    (s.svcPush out).onDump d.token fun e => { e with next := e.next + 1, crc := crc }
  else s

/-- The next record of a dump to memory; the last one brings T_END and the end (R286). A command
that was cut ends here (R68, R402). -/
def State.dumpToMemory (s : State) (d : Dump) : State :=
  match s.cut d.token with
  | some st => s.endDump d { status := st }
  | none =>
    let a := d.cmd.par 8 5
    let last := decide (d.next + 1 = s.foldCount)
    let at' := a + 64 + 32 * d.next
    let cs := s.clustersOf at' 32 ++
      (if d.next = 0 ∨ last then s.clustersOf a 64 else [])
    match s.sleeping cs with
    | c :: _ => s.wakeCluster c 2
    | [] =>
      if !(s.spanFree at' 32 true && (!(d.next == 0 || last) || s.spanFree a 64 true)) then s
      else
      let s := if d.next = 0 then s.initWrite a s.dumpHeader else s
      let s := s.initWrite at' (s.dumpRecord d.next)
      if last then (s.initWrite (a + 16) (toBytes 8 s.now.toNat)).endDump d { status := .ok }
      else s.onDump d.token fun e => { e with next := e.next + 1 }

/-- FOLD_DUMP_RECORD: the next record of a dump is taken. A fold of a stopped cluster is taken once
the cluster runs (R286, R368, R421). -/
def State.dumpStep (s : State) (d : Dump) : State :=
  if d.next = s.foldCount then s
  else if !s.inRun (d.next / 2048) then s.wakeCluster (d.next / 2048) 2
  else if d.cmd.dumpSvc then (s.foldCorrects d.next).dumpToSvc d
  else (s.foldCorrects d.next).dumpToMemory d

/-- A dump that waits for the host to read. -/
def State.dumpPaused (s : State) (d : Dump) : Bool :=
  d.cmd.dumpSvc && (d.next == s.foldCount || decide (s.svcRoom < 116))

/-- The dump that takes the next record: the oldest that the host does not hold up. -/
def State.foldDumpRecord (s : State) : State :=
  match s.folds.dumps.find? (fun d => !s.dumpPaused d) with
  | some d => s.dumpStep d
  | none => match s.folds.dumps with | d :: _ => s.dumpStep d | [] => s

end Sys2Proof.Machine
end

