-- ==== Sys2Proof/Machine/Neurons.lean ====
section
/-!
DEFINITION. The event engine: events, dispatchers, contributions, STEP (08_accumulate_events.md,
R232 to R253).
-/

namespace Sys2Proof.Machine

/-! ### Events (Table 8-2) -/

/-- POP. -/
def evPop (w : BitVec 128) : Nat := word w 0 0 12
/-- KIND. -/
def evKind (w : BitVec 128) : Nat := word w 0 12 2
/-- VFMT is BF16. -/
def evBf16 (w : BitVec 128) : Bool := wordBit w 0 14
/-- TAINT. -/
def evTaint (w : BitVec 128) : Bool := wordBit w 0 15
/-- VALUE. -/
def evValue (w : BitVec 128) : Nat := word w 0 16 16
/-- SOURCE. -/
def evSource (w : BitVec 128) : Nat := word w 1 0 24
/-- STEP. -/
def evStep (w : BitVec 128) : BitVec 32 := BitVec.ofNat 32 (word w 2 0 32)
/-- FOLD. -/
def evFold (w : BitVec 128) : Nat := word w 3 0 15

/-- The number that VALUE stands for (R244). -/
def evNum (w : BitVec 128) : Num :=
  if evBf16 w then fmtBF16.decode (evValue w) else .ofRat ((BitVec.ofNat 8 (evValue w)).toInt : Rat)

/-- An event that the router discards whatever its population (R236). -/
def evMalformed (w : BitVec 128) : Bool :=
  decide (2 ≤ evKind w) || word w 1 24 8 != 0 || word w 3 15 17 != 0 ||
    (evKind w == 0 && evFold w != 0) ||
    (if evBf16 w then fmtBF16.decode (evValue w) == .nan else decide (256 ≤ evValue w))

/-- Discard an event: EVDROP_n.BAD and EV_BAD (R236). -/
def State.evBad (s : State) (v pop cluster : Nat) : State :=
  (s.onEng fun e => { e with dropBad := e.dropBad.modify 0 v (satAdd 0xFFFF · 1) }).evEvent 1 pop cluster

/-- A little-endian field of `n` bytes at `a` out of what a read answered, and whether some of it is marked. -/
def answerNum (rs : List Resp) (a n : Nat) : Nat × Bool :=
  let bs := answerBytes rs a n
  (ofBytes (bs.map Prod.fst), bs.any Prod.snd)

/-! ### The pieces of a dispatcher (R245) -/

/-- The number under which the requests of the dispatcher of cluster `c` stand, beside those of the initiators: its
pieces are initiator 64's, in class 3, and do not count toward R123 (log entry 39). -/
def eventPort (c : Nat) : Nat := 65 + c

/-- Pieces of a dispatcher outstanding; those of the STEPs of its cluster count (log entry 53). -/
def State.eventPieces (s : State) (c : Nat) : Nat := ((s.outstOf (eventPort c)).map (fun o => o.left)).sum

/-- A dispatcher may issue `n` more pieces. -/
def State.eventRoom (s : State) (c n : Nat) : Bool := decide (s.eventPieces c + n ≤ 64)

/-- A piece of the event engine, in a region with SAFETY = 1 or not (R327). -/
def State.eventPiece (s : State) (x : Piece) : Piece :=
  { x with cls := 3, safety := match s.regionAt x.addr with | some (_, r) => r.safety | none => false }

/-- A dispatcher issues pieces as one request. -/
def State.askEvent (s : State) (c op addr len ctx : Nat) (xs : List Piece) : Nat × State :=
  s.ask { s.pieceRequest (reqWord op 3 addr len ctx 0xFFFE 0) (xs.map s.eventPiece) with port := eventPort c }

/-- A dispatcher reads a range. -/
def State.askEventRead (s : State) (c ctx a len : Nat) : Nat × State :=
  s.askEvent c 1 a len ctx (s.plainPieces .rd 3 a len [])

/-- The answers that have come for a request of a dispatcher, once it has ended. -/
def State.eventAnswer (s : State) (c req : Nat) : Option (List Resp) :=
  if (s.outst? req).isSome then none else some ((s.port (eventPort c)).resp.filter (fun r => r.req == req))

/-- The requests whose answers a SPIKE under way has still to take. -/
def SpikeStage.requests : SpikeStage → List Nat
  | .start => []
  | .directory q => [q]
  | .chunk => []
  | .synapses a b => [a, b]
  | .ready _ => []
  | .adding q => [q]

/-- Answers that no SPIKE waits for are gone. -/
def State.tidyEvents (s : State) (c : Nat) : State :=
  if (s.port (eventPort c)).resp = [] then s
  else
    s.onPort (eventPort c) fun p =>
      { p with resp := p.resp.filter fun r => (s.disp c).runs.any (fun u => u.stage.requests.contains r.req) }

/-! ### Contributions (R243 to R245) -/

/-- The weight view of a population as it binds now (R97, R241 rule 3). -/
def State.weightView (s : State) (p : Pop) : Option (View × Nat) :=
  match s.regionAt (popWeight p.desc) with
  | some (i, r) =>
    match s.bindView i r (popView p.desc) p.owner .rd with
    | .view _ v => some (v, r.base)
    | _ => none
  | none => none

/-- The element index of weight `j` in its view's region. -/
def weightElem (p : Pop) (v : View) (base j : Nat) : Nat := elemIndex v.desc base (popWeight p.desc) + j

/-- The lines that a group of a view takes its scale from (R195). -/
def View.linesFor (v : View) (g : Nat) : List Nat :=
  if viewSrc v.desc = 0 ∨ viewGroup v.desc = 0 then [] else groupLines v.desc g

/-- The scale of group `g` of the weight array, for a SPIKE that has seen some lines fail (R192, R195, R197). -/
def State.weightFactor (s : State) (c : Nat) (v : View) (bad : List Nat) (g : Nat) : Found :=
  let d := v.desc
  if viewSrc d = 0 then .factor { scale := 1 }
  else if viewGroup d = 0 then
    match fp32Scale (viewStatic d) with
    | some q => .factor { scale := q }
    | none => .unusable
  else if (groupLines d g).any bad.contains then .noLine
  else (s.cache c).factor d g true

/-- contrib (R244): the contribution, and whether it saturated. -/
def contribution (w : Rat) (g : Num) : Int × Bool :=
  match g with
  | .inf neg =>
    if w = 0 then (0, false)
    else if decide (w < 0) = neg then (2 ^ 31 - 1, true) else (-(2 ^ 31), true)
  | _ =>
    let r := roundHalfEven (w * g.toRat * 65536)
    let c := max (-(2 ^ 31)) (min (2 ^ 31 - 1) r)
    (c, decide (c ≠ r))

/-- The address of the byte that holds weight `j` (R243). -/
def weightAt (p : Pop) (v : View) (j : Nat) : Nat :=
  popWeight p.desc + (if storeBits (viewStore v.desc) = 4 then j / 2 else j)

/-- The bytes of `n` weights from weight `j`. -/
def weightSpan (p : Pop) (v : View) (j n : Nat) : Nat := weightAt p v (j + n - 1) + 1 - weightAt p v j

/-- The code of weight `j` out of a read that began at address `a0`, and whether its granule is marked. -/
def weightCode (p : Pop) (v : View) (ws : List Resp) (a0 j : Nat) : Nat × Bool :=
  let b := answerBytes ws a0 (weightAt p v j + 1 - a0)
  match b.getLast? with
  | some (x, bad) => (if storeBits (viewStore v.desc) = 4 then bitsOf x.toNat (4 * (j % 2)) 4 else x.toNat, bad)
  | none => (0, true)

/-- One synapse of a SPIKE: what it contributes to which word of memory, if it contributes (R243, R244). -/
def State.synapse (s : State) (r : SpikeRun) (p : Pop) (e w : Nat × Bool) (k : Found) (fmt : BitVec 512) :
    Option (Nat × Int) × State :=
  if e.2 then (none, s.taint r.pop)
  else if popN p.desc ≤ bitsOf e.1 0 20 ∨ bitsOf e.1 20 12 ≠ 0 then
    (none, s.onPop r.pop fun p => { p with synBad := count1 p.synBad })
  else if w.2 then (none, s.taint r.pop)
  else
    match k with
    | .noLine => (none, s.taint r.pop)
    | .unusable => (none, (s.onConv fun k => { k with irq := setBit k.irq 2 }).taint r.pop)
    | .factor f =>
      let (q, sat) := contribution (dequant fmt w.1 f).toRat (evNum r.ev.word)
      (some (popState p.desc + 16 * bitsOf e.1 0 20 + 4 + 4 * ((evStep r.ev.word).toNat % 2), q),
        if sat then s.onPop r.pop fun p => { p with sat := count1 p.sat } else s)

/-- The contributions of a list of synapses. -/
def State.synapses (s : State) (c : Nat) (r : SpikeRun) (p : Pop) (v : View) (base : Nat) (syn ws : List Resp) :
    List Nat → List (Nat × Int) × State
  | [] => ([], s)
  | j :: t =>
    let (a, s) := s.synapse r p
      (let bs := answerBytes syn (popSyn p.desc + 4 * r.next) (4 * (j + 1 - r.next))
       (ofBytes ((bs.drop (4 * (j - r.next))).map Prod.fst), (bs.drop (4 * (j - r.next))).any Prod.snd))
      (weightCode p v ws (weightAt p v r.next) j)
      (s.weightFactor c v r.badLines (groupOf v.desc (weightElem p v base j))) v.desc
    let (l, s) := s.synapses c r p v base syn ws t
    (a.toList ++ l, s)

/-- A range of a population passes R242. -/
def State.popRange (s : State) (p : Pop) (needs : List Need) (a len : Nat) : Bool :=
  (s.rangeFails p.owner needs false a len).isNone

/-- A SPIKE has been applied whole (R245, R255). -/
def State.spikeDone (s : State) (c pop : Nat) : State :=
  (s.onPop pop fun p => { p with events := count1 p.events }).onDisp c fun d => { d with applied := d.applied + 1 }

/-- The synapses that one synapse row holds from the next one on: 32 at most (Table 8-5). -/
def SpikeRun.chunk (r : SpikeRun) (p : Pop) : Nat :=
  min (r.stop - r.next) (32 - (popSyn p.desc / 4 + r.next) % 32)

/-- What becomes of a SPIKE under way in one move: it goes on, it stays as it is, or it has been applied. -/
abbrev Moved := Option SpikeRun × State

/-- It asks for its directory entry, or taints where the directory fails R242. -/
def State.runStart (s : State) (c : Nat) (r : SpikeRun) (p : Pop) : Moved :=
  if !s.popRange p [.r] (popDir p.desc) (8 * popDirCount p.desc) then (none, (s.taint r.pop).spikeDone c r.pop)
  else if !s.eventRoom c 1 then (some r, s)
  else
    let (q, s) := s.askEventRead c p.owner (popDir p.desc + 8 * evSource r.ev.word) 8
    (some { r with stage := .directory q }, s)

/-- The ranges that a SPIKE reads and writes pass R242. -/
def State.fanRanges (s : State) (p : Pop) (v : View) : Bool :=
  s.popRange p [.r] (popSyn p.desc) (4 * popSynCount p.desc) &&
    s.popRange p [.r] (popWeight p.desc) (weightBytes (viewStore v.desc) (popSynCount p.desc)) &&
    s.popRange p [.r, .w, .a] (popState p.desc) (16 * popN p.desc)

/-- Its directory entry has been read: FIRST and COUNT (R243, R244). -/
def State.runDirectory (s : State) (c : Nat) (r : SpikeRun) (p : Pop) (rs : List Resp) : Moved :=
  let gone (s : State) : Moved := (none, s.spikeDone c r.pop)
  let a := popDir p.desc + 8 * evSource r.ev.word
  let first := (answerNum rs a 4).1
  let n := (answerNum rs (a + 4) 2).1
  if (answerFault rs).isSome ∨ (answerNum rs a 8).2 then gone (s.taint r.pop)
  else
    let stop := min (first + n) (popSynCount p.desc)
    let s := s.onPop r.pop fun p => { p with synBad := satAdd 0xFFFFFFFF p.synBad (n - (stop - first)) }
    if stop ≤ first then gone s
    else
      match s.weightView p with
      | none => gone (s.taint r.pop)
      | some (v, _) =>
        if s.fanRanges p v then (some { r with stage := .chunk, next := first, stop := stop }, s) else gone (s.taint r.pop)

/-- It asks for its next synapses and their weights, or it has been applied. -/
def State.runChunk (s : State) (c : Nat) (r : SpikeRun) (p : Pop) : Moved :=
  if r.stop ≤ r.next then (none, s.spikeDone c r.pop)
  else
    match s.weightView p with
    | none => (none, (s.taint r.pop).spikeDone c r.pop)
    | some (v, _) =>
      let n := r.chunk p
      let a := popSyn p.desc + 4 * r.next
      let w := weightAt p v r.next
      if !s.eventRoom c ((rowParts a (4 * n)).length + (rowParts w (weightSpan p v r.next n)).length) then (some r, s)
      else
        let (i, s) := s.askEventRead c p.owner a (4 * n)
        let (k, s) := s.askEventRead c p.owner w (weightSpan p v r.next n)
        (some { r with stage := .synapses i k, looked := false, badLines := [] }, s)

/-- Its synapses and weights have been read: the scale lines that the weights need are looked up, and once they are
there, or have been seen to fail, the contributions are made (R195 to R197, R243, R244). -/
def State.runSynapses (s : State) (c : Nat) (r : SpikeRun) (p : Pop) (syn ws : List Resp) : Moved :=
  match s.weightView p with
  | none => (none, (s.taint r.pop).spikeDone c r.pop)
  | some (v, base) =>
    let js := (List.range (r.chunk p)).map (r.next + ·)
    let lines := (js.flatMap (fun j => v.linesFor (groupOf v.desc (weightElem p v base j)))).eraseDups
    let s := if r.looked then s else lines.foldl (fun s a => s.onCache c (·.touch a)) s
    let missing := lines.filter (fun a => ((s.cache c).line? a).isNone && !r.badLines.contains a)
    if missing ≠ [] then
      (some { r with looked := true }, missing.foldl (fun s a => s.wantLine c v.owner a) s)
    else
      let (adds, s) := s.synapses c r p v base syn ws js
      (some { r with stage := .ready adds, next := r.next + r.chunk p }, s)

/-- The rows that contributions are for. -/
def addRows (adds : List (Nat × Int)) : List Nat := (adds.map (fun x => x.1 / 128)).eraseDups

/-- The contributions for one row: word and addend (R245). -/
def addParts (adds : List (Nat × Int)) (row : Nat) : List (Nat × Int) :=
  (adds.filter (fun x => x.1 / 128 == row)).map fun x => (x.1 % 128 / 4, x.2)

/-- The piece that applies contributions to a row: each by itself in the accumulator buffer, else as one sum for each word
(R245). -/
def State.addPiece (s : State) (pop : Nat) (staged : Bool) (adds : List (Nat × Int)) (row : Nat) : Option Piece :=
  (s.locate (128 * row)).map fun q =>
    { req := s.xbar.nextReq, port := 64, kind := .add, cls := 3, cluster := q.1 / 16, bank := q.1, row := q.2.1
      off := 0, len := 128, addr := 128 * row, lane := 0, lanes := 128, parts := addParts adds row
      oneByOne := staged, pop := pop }

/-- A row of records in the accumulator buffer is read, changed and written at once: the accumulate unit's work, charged
as two array actions (R170, R232, R245, R251). A residue that fails stands in the piece (R393). -/
def State.bufferWork (s : State) (x : Piece) : State :=
  let x := match s.pop? x.pop with | some p => { x with forced := p.forced } | none => x
  let s := (s.onPop x.pop fun p => { p with forced := 0 }).charge 64 x.cluster (2 * s.tollArray)
  let (old, s) := s.mergeData x.bank x.row (s.mergeGranules x) [0, 1, 2, 3]
  s.storeRecords x old

/-- The rows of pieces that no read-modify-write holds are worked on in the accumulator buffer; answers the others. -/
def State.bufferAll (s : State) : List Piece → List Piece × State
  | [] => ([], s)
  | x :: t =>
    if (s.bankq x.bank).holdsRow x.row then
      let (l, s) := s.bufferAll t
      (x :: l, s)
    else (s.bufferWork x).bufferAll t

/-- Its contributions are applied in the accumulator buffer, or issued as pieces (R245). -/
def State.runReady (s : State) (c : Nat) (r : SpikeRun) (p : Pop) (adds : List (Nat × Int)) : Moved :=
  let xs := (addRows adds).filterMap (s.addPiece r.pop p.staged adds)
  if xs = [] then (some { r with stage := .chunk }, s)
  else if p.staged then
    let (left, s) := s.bufferAll xs
    (some { r with stage := .ready (adds.filter (fun a => left.any (fun x => x.addr == a.1 / 128 * 128))) }, s)
  else if !s.eventRoom c xs.length then (some r, s)
  else
    let (q, s) := s.askEvent c 4 (popState p.desc) 128 p.owner xs
    (some { r with stage := .adding q }, s)

/-- One move of a SPIKE. One whose population has gone is over. -/
def State.moveRun (s : State) (c : Nat) (r : SpikeRun) : Moved :=
  match s.pop? r.pop with
  | none => (none, s)
  | some p =>
    match r.stage with
    | .start => s.runStart c r p
    | .directory q => (match s.eventAnswer c q with | some rs => s.runDirectory c r p rs | none => (some r, s))
    | .chunk => s.runChunk c r p
    | .synapses a b =>
      (match s.eventAnswer c a, s.eventAnswer c b with
       | some x, some y => s.runSynapses c r p x y
       | _, _ => (some r, s))
    | .ready adds => s.runReady c r p adds
    | .adding q => if (s.outst? q).isSome then (some r, s) else (some { r with stage := .chunk }, s)

/-- A SPIKE moves on as far as it can. -/
def State.driveRun (s : State) (c : Nat) (r : SpikeRun) : Nat → Moved
  | 0 => (some r, s)
  | n + 1 =>
    match s.moveRun c r with
    | (none, s) => (none, s)
    | (some r', s) => if r' = r then (some r, s) else s.driveRun c r' n

/-- The SPIKEs of a dispatcher move on, the oldest first. -/
def State.driveRuns (s : State) (c : Nat) : List SpikeRun → List SpikeRun × State
  | [] => ([], s)
  | r :: t =>
    let (a, s) := s.driveRun c r 8
    let (l, s) := s.driveRuns c t
    (a.toList ++ l, s)

/-! ### The step window (R247, R248) -/

/-- What becomes of a SPIKE that the dispatcher takes (R247). -/
inductive Window where
  | apply | hold | refuse
deriving DecidableEq, Repr

/-- R247. -/
def Pop.window (p : Pop) (t : BitVec 32) : Window :=
  let d := t - p.p
  if d = 1 then .apply
  else if d = 0 then (if p.running then .refuse else .apply)
  else if d = 2 ∧ p.running then .hold
  else .refuse

/-- A SPIKE is refused for its step tag (R247). -/
def State.refuseSpike (s : State) (c pop : Nat) : State :=
  ((s.onPop pop fun p => { p with stepRange := count1 p.stepRange }).onDisp c fun d =>
    { d with dropRange := satAdd 0xFFFF d.dropRange 1 }).evEvent 0 pop c

/-- The held events of a population are released: its STEP is over, or it has gone (R248, R251, R253). -/
def State.releasing (s : State) (pop : Nat) : Bool :=
  (s.pop? pop).isNone || s.eng.steps.any (fun r => r.pop == pop && r.ended)

/-- A SPIKE is applied, held or refused. -/
def State.judgeSpike (s : State) (c : Nat) (e : Event) : State :=
  let pop := evPop e.word
  match s.pop? pop with
  | none => s.evBad e.port pop c
  | some p =>
    match p.window (evStep e.word) with
    | .apply =>
      (if evTaint e.word then s.taint pop else s).onDisp c fun d => { 
        d with runs := d.runs ++ [{ ev := e, pop := pop, held := s.releasing pop }] }
    | .hold => s.onDisp c fun d => { d with hold := d.hold ++ [e] }
    | .refuse => s.refuseSpike c pop

/-- A MARK signals its fold, translated through its population's owner (R239). -/
def State.performMark (s : State) (c : Nat) (e : Event) : State :=
  let pop := evPop e.word
  match s.pop? pop with
  | none => s.evBad e.port pop c
  | some p =>
    let (ok, s) := s.signalOne p.owner (evFold e.word) (.mark c pop) false
    if ok then s else s.markBad c pop

/-- A SPIKE of a path is still under way. -/
def Dispatcher.busyPath (d : Dispatcher) (v : Nat) : Bool := d.runs.any (fun r => r.ev.port == v)

/-- The fold unit of a MARK has room (R265). -/
def State.markRoom (s : State) (e : Event) : Bool :=
  match s.pop? (evPop e.word) with
  | none => true
  | some p =>
    match s.translate p.owner (evFold e.word) with
    | some k => decide ((s.folds.queues.get [] (k / 2048)).length < 64)
    | none => true

/-- A SPIKE needs a further piece while the dispatcher may not issue it: no event is taken then (R245). -/
def Dispatcher.blocked (d : Dispatcher) : Bool :=
  d.runs.any fun r => match r.stage with
    | .start => true
    | .chunk => true
    | .ready _ => true
    | .directory _ => false
    | .synapses _ _ => false
    | .adding _ => false

/-- The oldest held SPIKE of a population whose held events are released. -/
def State.nextHeld (s : State) (c : Nat) : Option Event :=
  (s.disp c).hold.find? fun e => evKind e.word == 0 && s.releasing (evPop e.word)

/-- What a dispatcher's SPIKEs under way do moves on. -/
def State.driveAll (s : State) (c : Nat) : State :=
  let (l, s) := s.driveRuns c (s.disp c).runs
  s.onDisp c fun d => { d with runs := l }

/-- Held SPIKEs are taken from the hold buffer in the order they arrived and judged again, while the dispatcher may take
one (R245, R248, R253). -/
def State.releaseSpikes (s : State) (c : Nat) : Nat → State
  | 0 => s
  | n + 1 =>
    match (if (s.disp c).blocked then none else s.nextHeld c) with
    | none => s
    | some e =>
      (((s.onDisp c fun d => { d with hold := d.hold.erase e }).judgeSpike c e).driveAll c).releaseSpikes c n

/-- The held events of a population have been applied. -/
def State.heldDone (s : State) (c pop : Nat) : Bool :=
  !(s.disp c).hold.any (fun e => evKind e.word == 0 && evPop e.word == pop) &&
    !(s.disp c).runs.any (fun r => r.held && r.pop == pop)

/-- A STEP that is over gives its final record once the held events of its population have been applied; its status is then
SPOIL where the population is tainted (R248, R249, R251). -/
def State.finalStep (s : State) (r : StepRun) : State :=
  let pop := s.pop? r.pop
  if !r.ended || !(pop.all fun p => s.heldDone (popCluster p.desc) r.pop) then s
  else
    let st := r.cutSt.getD (if pop.any (·.tainted) then .spoil else .ok)
    (s.onEng fun e => { e with steps := e.steps.filter (fun q => q.token != r.token) }).finish r.token r.cmd
      { status := st, result := r.spikes }

/-- The STEPs that are over end, as far as they can. -/
def State.endSteps (s : State) : State := s.eng.steps.foldl State.finalStep s

/-- The MARKs that wait behind held SPIKEs are performed as soon as no SPIKE of their path is held before them or under
way (R239). `kept` is what stays held. -/
def State.releaseMarks (s : State) (c : Nat) (kept : List Event) : List Event → State
  | [] => s.onDisp c fun d => { d with hold := kept }
  | e :: t =>
    if evKind e.word = 0 ∨ kept.any (fun k => k.port == e.port) ∨ (s.disp c).busyPath e.port ∨ ¬ s.markRoom e then
      s.releaseMarks c (kept ++ [e]) t
    else (s.performMark c e).releaseMarks c kept t

/-- What a dispatcher has under way moves on (R239, R245). -/
def State.moveDispatcher (s : State) (c : Nat) : State :=
  if (s.disp c).runs = [] ∧ (s.disp c).hold = [] then s.tidyEvents c
  else
    let s := s.driveAll c
    let s := s.releaseSpikes c (s.disp c).hold.length
    (s.releaseMarks c [] (s.disp c).hold).tidyEvents c

/-- No dispatcher has a SPIKE under way, an event held or an answer that waits: none has anything to move on with. -/
def State.eventsStill (s : State) : Bool :=
  (s.eng.disp.all fun e => e.2.runs.isEmpty && e.2.hold.isEmpty && (s.port (eventPort e.1)).resp.isEmpty) &&
    !s.eng.steps.any (·.ended)

/-- Every dispatcher moves on. -/
def State.moveRuns (s : State) : State :=
  if s.eventsStill then s else ((s.eng.disp.map Prod.fst).foldl State.moveDispatcher s).endSteps

/-- The head of a path FIFO that the dispatcher may take now: not a SPIKE that would be held, nor a MARK that would
wait behind one, while the hold buffer is full (R248); no event of a population whose held ones are being applied (R248);
not a MARK behind a SPIKE of its path that is under way (R239), or whose fold unit has no room (R265). MARKs that wait
stand in the hold buffer (DESIGN CHOICE, log entry 53). -/
def State.takeable (s : State) (c : Nat) (e : Event) : Bool :=
  let d := s.disp c
  let room := decide (d.hold.length < 256)
  if (s.pop? (evPop e.word)).isSome ∧ s.releasing (evPop e.word) then false
  else if evKind e.word = 0 then
    match s.pop? (evPop e.word) with
    | none => true
    | some p => p.window (evStep e.word) != .hold || room
  else if d.hold.any (fun k => k.port == e.port) then room
  else !d.busyPath e.port && s.markRoom e

/-- The event that a dispatcher takes next, in round-robin order over its path FIFOs (R237). -/
def State.nextEvent (s : State) (c : Nat) : Option Event :=
  let d := s.disp c
  ((List.range 4).filterMap (fun i => ((d.paths.get [] ((d.rr + i) % 4)).head?))).find?
    (fun e => s.takeable c e)

/-- Take an event off its path FIFO. -/
def State.takeEvent (s : State) (c : Nat) (e : Event) : State :=
  s.onDisp c fun d => { d with paths := d.paths.modify [] e.port List.tail, rr := (e.port + 1) % 4 }

/-- The population of an event has gone, has moved to another cluster, or has lost the directory entry that the event names
(R236). R236 names only a POP that is no longer valid when the event is taken from its path FIFO; the other two are the
model's (DESIGN CHOICE, log entry 66). -/
def State.evStale (s : State) (c : Nat) (w : BitVec 128) : Bool :=
  match s.pop? (evPop w) with
  | none => true
  | some p => popCluster p.desc != c || (evKind w == 0 && decide (popDirCount p.desc ≤ evSource w))

/-- The dispatcher takes an event of a kind: SPIKE (R236, R245, R247), MARK (R236, R239). -/
def State.dispatch (s : State) (c kind : Nat) : State :=
  if s.ready ∧ s.hasCluster c ∧ s.inRun c then
    match (if (s.disp c).blocked then none else s.nextEvent c) with
    | none => s
    | some e =>
      if evKind e.word ≠ kind then s
      else
        let s := s.takeEvent c e
        if s.evStale c e.word then s.evBad e.port (evPop e.word) c
        else if kind = 0 then s.judgeSpike c e
        else if (s.disp c).hold.any (fun k => k.port == e.port) then
          s.onDisp c fun d => { d with hold := d.hold ++ [e] }
        else s.performMark c e
  else s

/-! ### The router and the egress channels (R130, R236 to R238, R250) -/

/-- The parity of an event holds (R130, R235). -/
def evParityOk (w : BitVec 132) : Bool :=
  (List.range 4).all (fun i => oddParity 32 (bitsOf w.toNat (32 * i) 32) (bitOf w.toNat (128 + i)))

/-- The four parity bits of an event (R130). -/
def evWithParity (w : BitVec 128) : BitVec 132 :=
  BitVec.ofNat 132 (w.toNat + ((List.range 4).map (fun i =>
    (if (ones 32 (bitsOf w.toNat (32 * i) 32)) % 2 = 0 then 1 else 0) * 2 ^ (128 + i))).sum)

/-- An event whose parity fails (R130). -/
def State.evParity (s : State) (v : Nat) : State :=
  ((s.onEng fun e => { e with dropBad := e.dropBad.modify 0 v (satAdd 0xFFFF · 1) }).onXbar fun x =>
    { x with irq := setBit x.irq 2, parSource := BitVec.ofNat 7 (0x40 + v), parKind := 2 }).report
    { code := 0x03, port := 0x40 + v }

/-- An event arrives at a V port (R130, R236, R237, R250). Where its POP is not valid it has no cluster, and EV_LAST.CLUSTER
shows 0 (DESIGN CHOICE, log entry 66). -/
def State.eventIn (s : State) (v : Nat) (w : BitVec 132) : State :=
  if s.ready ∧ v < 4 ∧ bitOf s.eng.unusable.toNat v = false then
    let e : BitVec 128 := w.setWidth 128
    let took (s : State) : State := s.onEng fun e => { e with evIn := e.evIn.modify 0 v (· + 1) }
    if !evParityOk w then s.evParity v
    else
      let pop := evPop e
      match s.pop? pop with
      | none => if s.safety.hold then
            ((took s).onEng fun e => { e with dropSafe := e.dropSafe.modify 0 v (satAdd 0xFFFF · 1) }).evEvent
              7 pop 0
          else (took s).evBad v pop 0
      | some p =>
        let c := popCluster p.desc
        if s.safety.hold then
          ((took s).onEng fun e => { e with dropSafe := e.dropSafe.modify 0 v (satAdd 0xFFFF · 1) }).evEvent
            7 pop c
        else if evMalformed e ∨ (evKind e = 0 ∧ popDirCount p.desc ≤ evSource e) then
          (took s).evBad v pop c
        else if 16 ≤ ((s.disp c).paths.get [] v).length then s
        else
          ((took s).onDisp c fun d =>
            { d with paths := d.paths.modify [] v (· ++ [{ word := e, port := v }]) }).wakeCluster c 1
  else s

/-- The cluster whose event an egress channel takes next (R238). -/
def State.egressNext (s : State) (v : Nat) : Option Nat :=
  ((List.range s.cfg.clusters).map (fun i => (s.eng.outRr.get 0 v + i) % s.cfg.clusters)).find?
    (fun c => !((s.disp c).egress.get [] v).isEmpty)

/-- A V egress channel presents one event (R130, R238). -/
def State.eventOut (s : State) (v : Nat) : State :=
  if s.ready ∧ v < 4 then
    match s.egressNext v with
    | none => s
    | some c =>
      match (s.disp c).egress.get [] v with
      | [] => s
      | o :: rest =>
        let s := s.onDisp c fun d => { d with egress := d.egress.set v rest }
        let s := { s with pins := { s.pins with eventsOut := (v, evWithParity o.word) :: s.pins.eventsOut } }
        let s := s.onEng fun e =>
          { e with evOut := e.evOut.modify 0 v (· + 1), outRr := e.outRr.set v ((c + 1) % s.cfg.clusters) }
        let s := s.onEng fun e =>
          { e with steps := e.steps.map (fun r =>
              if r.token = o.token then { r with inFlight := r.inFlight - 1 } else r) }
        s.emitAll c
  else s

/-! ### STEP (R250 to R253) -/

/-- A STEP has issued every row. -/
def StepRun.rowsDone (r : StepRun) (p : Pop) : Bool := decide (popRows p.desc ≤ r.rows)

/-- The route has room for the next row: its egress FIFO is not full and no event waits for it (R252). -/
def State.stepRoom (s : State) (c : Nat) (r : StepRun) : Bool :=
  !r.route.en || bitOf s.eng.unusable.toNat r.route.vport.toNat ||
    (!(s.disp c).out.any (fun o => o.1 == r.route.vport.toNat) &&
      decide (((s.disp c).egress.get [] r.route.vport.toNat).length < 16))

/-- The piece that steps a row (R251). -/
def State.stepPiece (s : State) (r : StepRun) (a : Nat) (q : Nat × Nat × Nat) : Piece :=
  { req := s.xbar.nextReq, port := 64, kind := .step, cls := 3, beat := r.rows, cluster := q.1 / 16, bank := q.1
    row := q.2.1, off := 0, len := 128, addr := a, lane := 0, lanes := 128, pop := r.pop }

/-- The next row of a STEP, in ascending order: one read-modify-write (R251), in the accumulator buffer where the
population is staged. A row that fails R242 is left as it is and taints (R242, R244). -/
def State.stepRowNext (s : State) (r : StepRun) (p : Pop) : State :=
  let c := popCluster p.desc
  let a := popState p.desc + 128 * r.rows
  let issued (s : State) : State := s.onStep r.pop fun q => { q with rows := q.rows + 1, left := q.left + 1 }
  let lost : State := ((issued s).taint r.pop).stepWritten r.pop r.rows p [] 0
  if !s.popRange p [.r, .w, .a] a (min 128 (16 * popN p.desc - 128 * r.rows)) then lost
  else
    match s.locate a with
    | none => lost
    | some q =>
      let x := s.stepPiece r a q
      if p.staged then (if (s.bankq x.bank).holdsRow x.row then s else (issued s).bufferWork x)
      else if s.eventRoom c 1 then (issued (s.askEvent c 4 a 128 p.owner [x]).2)
      else s

end Sys2Proof.Machine
end

