-- ==== Sys2Proof/Machine/CmdEvent.lean ====
section
/-!
DEFINITION. The population and event commands with what ends them (Table 8-6; R232, R233, R240 to
R242, R249 to R255).
-/

namespace Sys2Proof.Machine

/-! ### What the commands share -/

/-- POP of bytes 0–1. -/
def Cmd.pop (c : Cmd) : Nat := c.par 0 2

/-- The Shepherd of the population's cluster executes the opcode (R51). -/
def onPopHalf : Cmd → State → Executor := fun c s =>
  .half (match s.pop? c.pop with | some p => [popCluster p.desc] | none => [])

/-- POP does not exist or, where the command needs it valid, is not (R467). -/
def popAbsent (c : Cmd) (s : State) (valid : Bool) : Nat × Bool :=
  (0, decide (4096 ≤ c.pop) || (valid && (s.pop? c.pop).isNone))

/-- PERM with DETAIL 4 unless the context owns the population (R241, R250, R254). -/
def popOwner (c : Cmd) (s : State) (i : Nat) : Option Result :=
  ownerOnly c s ((s.pop? i).map (fun p => p.owner))

/-! ### POP_SET, POP_CLEAR, POP_UNTAINT, EVROUTE_SET, POP_QUERY -/

/-- The bits of a population descriptor (Table 8-3). -/
def popFields : List (Nat × Nat) :=
  [(0, 12), (16, 4), (32, 20), (64, 28), (96, 28), (128, 24), (160, 28), (192, 12), (224, 28), (256, 64),
   (320, 32), (352, 24)]

/-- The region that holds a range of a population (R241 rule 1). -/
def State.popRegion (s : State) (d : BitVec 512) (a len : Nat) : Option Region :=
  match s.matchRegion a len with
  | some (_, r) => if (r.mode = 1 ∨ r.mode = 2) ∧ r.cluster = popCluster d then some r else none
  | none => none

/-- The weight view of a descriptor, if rule 3 of R241 holds. -/
def State.popViewOk (s : State) (d : BitVec 512) (owner : Nat) : Option View :=
  match s.view? (popView d) with
  | some v =>
    let e := v.desc
    let binds : Bool := match s.regionAt (popWeight d) with
      | some (i, _) => v.fits i owner .rd
      | none => false
    if binds ∧ [0, 1, 13, 14].contains (viewStore e) ∧ viewSrc e ≤ 1 ∧ viewAcc e = 0 then some v else none
  | none => none

/-- The ranges of a descriptor beside the weights, with the offset of the word that names each and
the permissions it needs. -/
def popRanges (d : BitVec 512) : List (Nat × Nat × Nat × List Need) :=
  [(8, popState d, 16 * popN d, [.r, .w, .a]), (12, popDir d, 8 * popDirCount d, [.r]),
   (20, popSyn d, 4 * popSynCount d, [.r])]

/-- The range of the weights, sized by the view's format. -/
def popWeightRange (d : BitVec 512) (v : View) : Nat × Nat × Nat × List Need :=
  (28, popWeight d, weightBytes (viewStore v.desc) (popSynCount d), [.r])

/-- Rule 1 of R241 for a list of ranges. -/
def State.rangesPlaced (s : State) (d : BitVec 512) (rs : List (Nat × Nat × Nat × List Need)) :
    Option Result :=
  firstRefusal (rs.map fun q => refuseIf (s.popRegion d q.2.1 q.2.2.1).isNone (badParam q.1))

/-- Rule 2 of R241. -/
def State.rangesGrant (s : State) (d : BitVec 512) (ctx : Nat) (rs : List (Nat × Nat × Nat × List Need)) :
    Option Result :=
  refuseIf (rs.any fun q =>
      match s.popRegion d q.2.1 q.2.2.1 with
      | some r => q.2.2.2.any (fun n => !bitOf (r.permFor (.ctx ctx)) n.bit)
      | none => true)
    { status := .perm, detail := 5 }

/-- The values of a descriptor that offend whatever the regions hold (R240, R347). -/
def State.popBad (s : State) (d : BitVec 512) : List (Nat × Bool) :=
  [(2, !s.hasCluster (popCluster d) || (s.ctest (popCluster d)).lost), (8, popState d % 128 != 0),
   (12, popDir d % 8 != 0), (16, popDirCount d == 0), (20, popSyn d % 4 != 0), (44, popSynCount d == 0)]

/-- POP_SET (R241). -/
def bodyPopSet : Body :=
  { code := 0x400, units := 4
    path := fun c _ => .half [popCluster (c.desc 512)]
    check := fun c s =>
      let d := c.desc 512
      let i := word d 0 0 12
      firstRefusal
        [c.params popFields (s.popBad d),
         refuseIf (match s.pop? i with | some p => p.staged | none => false) (badParam 0),
         s.rangesPlaced d (popRanges d),
         (match s.popViewOk d c.ctx with
          | none => some (badParam 24)
          | some v =>
            firstRefusal
              [s.rangesPlaced d [popWeightRange d v],
               s.rangesGrant d c.ctx (popRanges d ++ [popWeightRange d v])]),
         popOwner c s i, s.busyOn [.population i]]
    act := fun _ c s =>
      let d := c.desc 512
      Act.ok (s.onEng fun e =>
        { e with pops := e.pops.set (word d 0 0 12)
                    { desc := d, owner := c.ctx, p := BitVec.ofNat 32 (word d 10 0 32) } }) }

/-- POP_CLEAR (R241). -/
def bodyPopClear : Body :=
  { code := 0x401, units := 1, path := onPopHalf
    check := fun c s =>
      firstRefusal
        [c.params [byteField 0 2]
          [popAbsent c s false, (0, match s.pop? c.pop with | some p => p.staged | none => false)],
         popOwner c s c.pop, s.busyOn [.population c.pop]]
    act := fun _ c s => Act.ok (s.onEng fun e => { e with pops := e.pops.erase c.pop }) }

/-- POP_UNTAINT (R249). -/
def bodyPopUntaint : Body :=
  { code := 0x411, units := 1, path := onPopHalf
    check := fun c s =>
      firstRefusal [c.params [byteField 0 2] [popAbsent c s true], popOwner c s c.pop]
    act := fun _ c s => Act.ok (s.onPop c.pop fun p => { p with tainted := false }) }

/-- EVROUTE_SET (R252). -/
def bodyEvrouteSet : Body :=
  { code := 0x420, units := 1, path := onHolder, sys := true
    check := fun c _ =>
      c.params [byteField 0 2, (16, 4), byteField 4 2]
        [(0, decide (4096 ≤ c.pop)), (4, decide (4096 ≤ c.par 4 2))]
    act := fun _ c s =>
      let r : Route :=
        { vport := BitVec.ofNat 2 (c.bits 2 0 2), en := c.flag 2 2, graded := c.flag 2 3
          dest := BitVec.ofNat 12 (c.par 4 2) }
      Act.ok (s.onEng fun e => { e with routes := e.routes.set c.pop r }) }

/-- The status record (Table 8-7). -/
def State.popStatus (s : State) (i : Nat) : List Nat :=
  match s.pop? i with
  | none => i :: List.replicate 15 0
  | some p =>
    let held := ((s.disp (popCluster p.desc)).hold.filter
      (fun e => evKind e.word == 0 && evPop e.word == i)).length
    [i + 2 ^ 16 + bit p.staged * 2 ^ 17 + bit p.running * 2 ^ 18 + bit p.tainted * 2 ^ 19, p.p.toNat,
     p.owner, p.events, p.contrib, p.stepRange, p.sat, p.wraps, p.synBad, p.spikes, p.memSat, held,
     0, 0, 0, 0]

/-- POP_QUERY (R255): the descriptor, then the status record. -/
def bodyPopQuery : Body :=
  { code := 0x402, units := 1, path := onPopHalf, q := true
    memory := fun c => c.flag 2 0
    check := fun c s =>
      firstRefusal
        [c.params [byteField 0 2, (16, 1), byteField 8 5]
          [popAbsent c s false, (2, noBuffer c (c.flag 2 0))],
         replyRange c s (c.flag 2 0) (c.par 8 5) 128]
    touches := fun c s => replyTouches s (c.flag 2 0) (c.par 8 5) 128
    spans := fun c _ => replySpans (c.flag 2 0) (c.par 8 5) 128
    act := fun _ c s =>
      let d : BitVec 512 := match s.pop? c.pop with | some p => p.desc | none => 0
      Act.ok (s.reply c (c.flag 2 0) (c.par 8 5)
        (descBytes d 64 ++ (s.popStatus c.pop).flatMap (toBytes 4))) }

/-! ### Staging (R232 to R234) -/

/-- The state rows of a population: bank and row. -/
def State.popPlaces (s : State) (d : BitVec 512) : List (Nat × Nat) :=
  (List.range (popRows d)).filterMap (fun i =>
    (s.locate (popState d + 128 * i)).map (fun q => (q.1, q.2.1)))

/-- The rows of a population in one bank. -/
def rowsIn (ps : List (Nat × Nat)) (bank : Nat) : List Nat := (ps.filter (fun q => q.1 == bank)).map Prod.snd

/-- The banks that hold a row. -/
def banksIn (ps : List (Nat × Nat)) : List Nat := (ps.map Prod.fst).eraseDups

/-- A bank of these rows is being evacuated, for a command or for firmware (R350). -/
def State.banksBusy (s : State) (ps : List (Nat × Nat)) : Option Result :=
  refuseIf
    ((banksIn ps).any fun b => s.heldBy (.bank (b / 16) (b % 16)) ||
      match (s.ctest (b / 16)).evac with | some e => e.bank == b % 16 | none => false) { status := .busy }

/-- The places of the population that a command names. -/
def State.cmdPlaces (s : State) (c : Cmd) : List (Nat × Nat) :=
  match s.pop? c.pop with | some p => s.popPlaces p.desc | none => []

/-- Staged rows come and go: the laps of their banks are partial (R336). -/
def State.stagedLaps (s : State) (ps : List (Nat × Nat)) : State :=
  s.partialLaps fun g => ps.any (fun q => q.1 == g && s.scrubRow q.1 q.2)

/-- Every bank has free buffer rows enough (R232). -/
def State.bufRoom (s : State) (ps : List (Nat × Nat)) : Bool :=
  (banksIn ps).all fun b =>
    decide ((s.eng.abuf.get [] (s.slotOf b)).length + (rowsIn ps b).length ≤ 256)

/-- Allocate the lowest free buffer rows of a bank for rows of a population. -/
def allocRows (pop : Nat) : List Nat → List BufRow → List BufRow
  | [], l => l
  | r :: t, l =>
    match lowestFree 256 (l.map (fun b => b.buf)) with
    | some k => allocRows pop t (l ++ [{ row := r, buf := k, pop := pop }])
    | none => allocRows pop t l

/-- The clusters of a population's state rows (R368). -/
def popTouches (c : Cmd) (s : State) : List Nat :=
  match s.pop? c.pop with | some p => [popCluster p.desc] | none => []

/-- Put a staging or an unstaging under way. -/
def State.beginStaging (s : State) (token : Nat) (c : Cmd) (unstage : Bool) : State :=
  s.onEng fun e =>
    { e with stagings := e.stagings ++ [{ pop := c.pop, token := token, cmd := c, unstage := unstage }] }

/-- POP_STAGE (R232). -/
def bodyPopStage : Body :=
  { code := 0x403, units := 1, path := onPopHalf
    check := fun c s =>
      firstRefusal
        [c.params [byteField 0 2] [popAbsent c s true], s.busyOn [.population c.pop],
         s.banksBusy (s.cmdPlaces c),
         (match s.pop? c.pop with
          | some p => refuseIf (!p.staged && !s.bufRoom (s.popPlaces p.desc)) { status := .overcommit }
          | none => none)]
    touches := popTouches
    holds := fun c _ => [.population c.pop]
    act := fun token c s =>
      match s.pop? c.pop with
      | none => Act.ok s
      | some p =>
        if p.staged then Act.ok s
        else
          let ps := s.popPlaces p.desc
          let s := (banksIn ps).foldl (fun s b => s.onEng fun e =>
            { e with abuf := e.abuf.modify [] (s.slotOf b) (allocRows c.pop (rowsIn ps b)) }) s
          .running (s.beginStaging token c false) }

/-- POP_UNSTAGE (R233). -/
def bodyPopUnstage : Body :=
  { code := 0x404, units := 1, path := onPopHalf
    check := fun c s =>
      firstRefusal
        [c.params [byteField 0 2] [popAbsent c s true], s.busyOn [.population c.pop],
         s.banksBusy (s.cmdPlaces c)]
    touches := popTouches
    holds := fun c _ => [.population c.pop]
    act := fun token c s =>
      match s.pop? c.pop with
      | none => Act.ok s
      | some p => if p.staged then .running (s.beginStaging token c true) else Act.ok s }

/-- Copy one granule of a row between the array and its buffer row: a marked one is written as the
spoiled pattern (R232, R233). -/
def State.copyGranule (s : State) (bank : Nat) (b : BufRow) (toBuf : Bool) (g : Nat) : State :=
  let k := s.slotOf bank
  let s := if toBuf then s else s.cancelWriteBack bank b.row g
  let d := if toBuf then s.fetchArray bank b.row g else s.fetchBuffer bank b.row b.buf g
  let s := s.noted bank b.row g false d
  let w := storedWord bank b.row g (if d.marked then 0 else d.data) d.marked
  s.putWord k (if toBuf then fun _ => 16448 + b.buf else arrayRow (s.slot k) b.row) g w

/-- The buffer rows of a population in a slot. -/
def State.bufRows (s : State) (k pop : Nat) : List BufRow :=
  (s.eng.abuf.get [] k).filter (fun b => b.pop == pop)

/-- Copy every row of a population one way: each takes a read slot and a write slot of its bank, and is charged as one
array row read and one array row write (R27, R170). -/
def State.copyRows (s : State) (pop : Nat) (banks : List Nat) (toBuf : Bool) : State :=
  banks.foldl (fun s bank =>
    (s.bufRows (s.slotOf bank) pop).foldl (fun s b =>
      (List.range 4).foldl (fun s g => s.copyGranule bank b toBuf g)
        ((s.charge 64 (bank / 16) (2 * s.tollArray)).takeSlots bank true true)) s) s

/-- The banks of a cluster that hold buffer rows of a population, and these rows with their banks. The rows stand where
they were allocated, whatever has become of the population's regions since (R233). -/
def State.bufBanks (s : State) (c pop : Nat) : List Nat :=
  ((List.range 16).map (16 * c + ·)).filter (fun b => s.bufRows (s.slotOf b) pop != [])

/-- The buffer rows of a population with their banks. -/
def State.bufPlaces (s : State) (c pop : Nat) : List (Nat × Nat) :=
  (s.bufBanks c pop).flatMap (fun b => (s.bufRows (s.slotOf b) pop).map (fun r => (b, r.row)))

/-- No piece orders an access to a row that a copy of a population reaches (R28, R117). -/
def State.copyFree (s : State) (c pop : Nat) : Bool := (s.bufPlaces c pop).all fun q => s.rowFree q.1 q.2 true

/-- The staging of a population that runs one way. -/
def State.staging? (s : State) (pop : Nat) (unstage : Bool) : Option Staging :=
  s.eng.stagings.find? (fun g => g.pop == pop && g.unstage == unstage)

/-- A staging is over. -/
def State.endStaging (s : State) (g : Staging) (r : Result) : State :=
  (s.onEng fun e => { e with stagings := e.stagings.filter (fun x => x.token != g.token) }).finish
    g.token g.cmd r

/-- Free the buffer rows of a population. -/
def State.freeRows (s : State) (pop : Nat) : State :=
  s.onEng fun e => { e with abuf := e.abuf.map (fun q => (q.1, q.2.filter (fun b => b.pop != pop))) }

/-- POP_STAGE_DONE (R232): the copy has ended, and the bank serves the rows from the buffer. It waits while a row is held
or has pieces under way (R28). A command that was cut ends here and nothing is staged (R68, R402). -/
def State.stageDone (s : State) (pop : Nat) : State :=
  match s.staging? pop false, s.pop? pop with
  | some g, some p =>
    match s.cut g.token with
    | some st => (s.freeRows pop).endStaging g { status := st }
    | none =>
    if !s.inRun (popCluster p.desc) then s.wakeCluster (popCluster p.desc) 2
    else if !s.copyFree (popCluster p.desc) pop then s
    else
      let c := popCluster p.desc
      let s := (s.copyRows pop (s.bufBanks c pop) true).stagedLaps (s.bufPlaces c pop)
      let s := s.onEng fun e =>
        { e with abuf := e.abuf.map (fun q =>
            (q.1, q.2.map (fun b => if b.pop = pop then { b with live := true } else b))) }
      (s.onPop pop fun p => { p with staged := true }).endStaging g { status := .ok }
  | _, _ => s

/-- POP_UNSTAGE_DONE (R233). A command that was cut ends here and the rows stay in the buffer
(R68, R402). -/
def State.unstageDone (s : State) (pop : Nat) : State :=
  match s.staging? pop true, s.pop? pop with
  | some g, some p =>
    match s.cut g.token with
    | some st => s.endStaging g { status := st }
    | none =>
    if !s.inRun (popCluster p.desc) then s.wakeCluster (popCluster p.desc) 2
    else if !s.copyFree (popCluster p.desc) pop then s
    else
      let c := popCluster p.desc
      let s := (s.copyRows pop (s.bufBanks c pop) false).stagedLaps (s.bufPlaces c pop)
      ((s.freeRows pop).onPop pop fun p => { p with staged := false }).endStaging g { status := .ok }
  | _, _ => s

/-! ### STEP (R250 to R253) -/

/-- STEP (R250). STEP_RANGE comes as its final record, after DEFER (Table 8-6). -/
def bodyStep : Body :=
  { code := 0x410, units := 1, path := onPopHalf
    check := fun c s =>
      firstRefusal
        [c.params [byteField 0 2, byteField 4 4] [popAbsent c s true], popOwner c s c.pop,
         (match s.pop? c.pop with
          | some p =>
            firstRefusal
              [rangeRefusal (s.rangeStops p.owner [.r, .w, .a] false (popState p.desc) (16 * popN p.desc)),
               s.busyOn [.population c.pop]]
          | none => none)]
    touches := popTouches
    holds := fun c _ => [.population c.pop]
    act := fun token c s =>
      match (s.pop? c.pop).filter (fun p => p.p != BitVec.ofNat 32 (c.par 4 4)) with
      | some p => .done { status := .stepRange, result := p.p.toNat } s
      | none =>
      let r : StepRun :=
        { pop := c.pop, token := token, cmd := c, tag := BitVec.ofNat 32 (c.par 4 4)
          route := s.eng.routes.get {} c.pop }
      .running ((s.onPop c.pop fun p => { p with running := true }).onEng fun e =>
        { e with steps := e.steps ++ [r] }) }

/-- A STEP is over: RUNNING ends, and the held events of the population are released; the final record follows them (R251,
R253). -/
def State.endStep (s : State) (r : StepRun) (st : Option Status) : State :=
  ((s.onPop r.pop fun p => { p with running := false }).onStep r.pop fun q =>
    { q with ended := true, cutSt := st }).moveRuns

/-- STEP_ROW (R251, R252). A STEP that was cut ends before its next row, once those issued have been written (R253,
R402). -/
def State.stepRow (s : State) (pop : Nat) : State :=
  match s.stepRun? pop, s.pop? pop with
  | some r, some p =>
    let c := popCluster p.desc
    if r.rowsDone p ∨ r.ended then s
    else
    match s.cut r.token with
    | some st => if r.left = 0 then (s.taint pop).endStep r (some st) else s
    | none =>
    if !s.inRun c then s.wakeCluster c 2
    else if s.stepRoom c r then s.stepRowNext r p
    else s
  | _, _ => s

/-- STEP_COMPLETE (R251). -/
def State.stepComplete (s : State) (pop : Nat) : State :=
  match s.stepRun? pop, s.pop? pop with
  | some r, some p =>
    if r.rowsDone p ∧ r.left = 0 ∧ r.inFlight = 0 ∧ ¬ r.ended then
      (s.onPop pop fun p => { p with p := p.p + 1, spikes := r.spikes, memSat := r.memSat }).endStep r none
    else s
  | _, _ => s

end Sys2Proof.Machine
end

