-- ==== Sys2Proof/Machine/CmdLink.lean ====
section
/-!
DEFINITION. The link commands (Table 10-5; R291, R292, R306, R309, R310).
-/

namespace Sys2Proof.Machine

/-! ### Register words of the link-port block (Table 10-7) -/

/-- LINK_ID. -/
def State.linkId (s : State) : Nat :=
  s.links.chip + s.links.incarn.toNat * 2 ^ 16 + bit s.links.epoch * 2 ^ 24 +
    bit s.links.acceptBoth * 2 ^ 25

/-- Word `i` of the block of a link port: LINK_STATE_n to LINK_DROP_C_n (Table 10-6). -/
def State.linkWord (s : State) (n i : Nat) : Nat :=
  let l := s.link n
  if s.cfg.links ≤ n then 0
  else
    match i with
    | 0 => bit l.up + bit (s.linkServes n) * 2 + bit l.resetting.isSome * 4 + 8
    | 1 => l.limit + l.interval * 2 ^ 16
    | 2 => s.outReads n + s.outWrites n * 2 ^ 16
    | 3 => (s.links.held.filter (fun h => h.port == n)).length
    | 4 => l.tx.toNat
    | 5 => l.rx.toNat
    | 6 => l.resent.toNat
    | 7 => l.dropEpoch + l.dropMisroute * 2 ^ 16
    | 8 => l.dropDup + l.dropPend * 2 ^ 16
    | 9 => l.dropSrc + l.dropStale * 2 ^ 16
    | _ => 0

/-! ### CHIP_ID_SET, EPOCH_SET, RETRY_SET, LINK_QUERY -/

/-- The effects of CHIP_ID_SET (R291). -/
def State.chipIdSet (s : State) (chip : Nat) (incarn : BitVec 4) : State :=
  let s := (s.links.out.filter (fun o => o.seq.isSome)).foldl
    (fun s o => if (s.out? o.req).isSome then s.remoteLost o else s) s
  let s := s.links.srcs.foldl (fun s e => s.dropSource e.1) s
  s.onLinks fun l =>
    { l with
      chip := chip, incarn := incarn, srcs := []
      dests := l.dests.map fun e => (e.1, { e.2 with nextSeq := 0, floor := 0, cut := 0, credit := 0 }) }

/-- CHIP_ID_SET (R291). -/
def bodyChipIdSet : Body :=
  { code := 0x610, units := 1, path := onHolder, sys := true
    check := fun c _ => c.params [byteField 0 2, (16, 4)] [(0, decide (0xFFF ≤ c.par 0 2))]
    act := fun _ c s => Act.ok (s.chipIdSet (c.par 0 2) (BitVec.ofNat 4 (c.bits 2 0 4))) }

/-- EPOCH_SET (R292). -/
def bodyEpochSet : Body :=
  { code := 0x611, units := 1, path := onHolder, sys := true
    check := fun c _ => c.params [(0, 2)] []
    act := fun _ c s =>
      Act.ok (s.onLinks fun l => { l with epoch := c.flag 0 0, acceptBoth := c.flag 0 1 }) }

/-- The link port of byte 0 is absent. -/
def linkAbsent (c : Cmd) (s : State) : Nat × Bool := (0, decide (s.cfg.links ≤ c.par 0 1))

/-- RETRY_SET (R306). -/
def bodyRetrySet : Body :=
  { code := 0x614, units := 1, path := onHolder, sys := true
    check := fun c s =>
      c.params [byteField 0 4]
        [linkAbsent c s, (1, decide (15 < c.par 1 1)),
         (2, c.par 2 2 == 0 || decide (4095 < c.par 2 2) ||
            decide (50000 < (c.par 1 1 + 1) * c.par 2 2))]
    act := fun _ c s =>
      Act.ok (s.onLink (c.par 0 1) fun l => { l with limit := c.par 1 1, interval := c.par 2 2 }) }

/-- LINK_QUERY (R310). -/
def bodyLinkQuery : Body :=
  { code := 0x613, units := 1, path := onHolder, q := true
    memory := fun c => c.flag 1 0
    check := fun c s =>
      firstRefusal
        [c.params queryFields [linkAbsent c s, (1, noBuffer c (c.flag 1 0))],
         replyRange c s (c.flag 1 0) (c.par 8 5) 48]
    touches := fun c s => replyTouches s (c.flag 1 0) (c.par 8 5) 48
    spans := fun c _ => replySpans (c.flag 1 0) (c.par 8 5) 48
    act := fun _ c s =>
      let ws := (List.range 10).map (s.linkWord (c.par 0 1)) ++ [s.linkId, 0]
      Act.ok (s.reply c (c.flag 1 0) (c.par 8 5) (ws.flatMap (toBytes 4))) }

/-! ### LINK_RESET (R309) -/

/-- What LINK_RESET does when it starts. -/
def State.beginLinkReset (s : State) (n token : Nat) (c : Cmd) : State :=
  let s := s.discardHeld (fun h => h.port == n) fun s h =>
    match s.srcOf h.link with
    | some e => s.onLinks fun l =>
        { l with srcs := l.srcs.set h.link.src { e with recs := e.recs.erase h.link.seq.toNat } }
    | none => s
  let s := s.onLinks fun l =>
    { l with out := l.out.map (fun o => if o.seq.isSome ∧ o.port = n then { o with marked := true } else o) }
  s.onLink n fun l =>
    { up := l.up, limit := l.limit, interval := l.interval, resetting := some (token, c) }

/-- LINK_RESET (R309). -/
def bodyLinkReset : Body :=
  { code := 0x612, units := 1, path := onHolder, sys := true
    check := fun c s =>
      firstRefusal [c.params [byteField 0 1] [linkAbsent c s], s.busyOn [.linkPort (c.par 0 1)]]
    holds := fun c _ => [.linkPort (c.par 0 1)]
    act := fun token c s => .running (s.beginLinkReset (c.par 0 1) token c) }

/-- LINK_RESET_COMPLETE: the outbound interface has no request outstanding (R309). A command
that was cut ends here (R68, R402). -/
def State.linkResetComplete (s : State) (n : Nat) : State :=
  match (s.link n).resetting with
  | some (token, c) =>
    let free (s : State) : State := s.onLink n fun l => { l with resetting := none }
    match s.cut token with
    | some st => (free s).finish token c { status := st }
    | none =>
    if s.sentOn n = [] then (free s).finish token c { status := .ok }
    else s
  | none => s

end Sys2Proof.Machine
end

