-- ==== Sys2Proof/Machine/Drover.lean ====
section
/-!
DEFINITION. The Drover: its queue, its commands, the rows of fills, copies, conversions and
evacuations (R70 to R74, R175, R219, R349).
-/

namespace Sys2Proof.Machine

/-! ### The queue (R70, R71) -/

/-- Every job, running or queued. -/
def State.allJobs (s : State) : List Job := s.cmd.xbarJob.toList ++ s.cmd.bankJob.toList ++ s.cmd.jobs

/-- The Drover's queue holds 64 jobs (R51). -/
def State.droverFull (s : State) : Bool := decide (64 ≤ s.cmd.jobs.length)

/-- The job of an ID. -/
def State.job? (s : State) (id : Nat) : Option Job := s.allJobs.find? (fun j => j.id == id)

/-- A job enters the queue under the next ID (R71). -/
def State.queueJob (s : State) (j : Job) : State :=
  s.onCmd fun c =>
    { c with jobs := c.jobs ++ [{ j with id := c.jobNext.toNat }], jobNext := c.jobNext + 1 }

/-- Change the job of an ID. -/
def State.onJob (s : State) (id : Nat) (f : Job → Job) : State :=
  let g (j : Job) : Job := if j.id = id then f j else j
  s.onCmd fun c =>
    { c with xbarJob := c.xbarJob.map g, bankJob := c.bankJob.map g, jobs := c.jobs.map g }

/-- A job is no longer there. -/
def State.dropJob (s : State) (id : Nat) : State :=
  s.onCmd fun c =>
    { c with xbarJob := c.xbarJob.filter (fun j => j.id != id)
             bankJob := c.bankJob.filter (fun j => j.id != id)
             jobs := c.jobs.filter (fun j => j.id != id) }

/-- The row of an evacuation of a bank. -/
def Piece.evacuates (x : Piece) (bank : Nat) : Bool := x.kind == .evac && x.bank == bank

/-- A row of an evacuation that is on its way to its bank is forgotten. -/
def State.dropEvacRow (s : State) (bank : Nat) : State :=
  ((s.onPort 64 fun p => { p with pieces := p.pieces.filter (fun x => !x.evacuates bank) }).onSub (bank / 2) fun u =>
    { u with queue := u.queue.filter (fun x => !x.evacuates bank) }).onBankq bank fun q => { q with copy := none }

/-- A copy into a spare ends without a takeover: the spare returns to SPARE (R352). -/
def State.stopEvac (s : State) (c : Nat) : State :=
  match (s.ctest c).evac with
  | some e =>
    ((s.dropEvacRow (16 * c + e.bank)).onCtest c fun t => { t with evac := none }).onSlot (17 * c + e.spare) fun l =>
      { l with state := .spare }
  | none => s

/-- The job copies a bank now. -/
def State.evacuates (s : State) (j : Job) : Bool :=
  decide (j.kind = .evacuate) && s.cmd.bankJob.any (fun k => k.id == j.id)

/-- A job is over; the command that waits for it ends. -/
def State.endJob (s : State) (j : Job) (r : Result) : State :=
  let s := if s.evacuates j then s.stopEvac j.cluster else s
  let s := s.dropJob j.id
  match j.who with
  | some (token, c) => s.finish token c r
  | none => s

/-- Bytes done ÷ 32 (R74); an evacuation counts the rows in its spare. -/
def State.jobDone (s : State) (j : Job) : Nat :=
  if s.evacuates j then
    match (s.ctest j.cluster).evac with | some e => 4 * e.copied | none => 0
  else j.done / 32

/-- A job ends with the bytes it has done ÷ 32 (R74). -/
def State.endJobNow (s : State) (j : Job) (st : Status) : State :=
  s.endJob j { status := st, result := s.jobDone j }

/-- A job stops at its row boundary: at once, or when the row under way is written (R68, R74, R402). -/
def State.stopJob (s : State) (j : Job) (st : Status) : State :=
  if j.wait = .none then s.endJobNow j st
  else s.onJob j.id fun k => { k with stop := k.stop.or (some st) }

/-- The clusters that the ranges of a job map to (R365). -/
def State.jobClusters (s : State) (j : Job) : List Nat :=
  if j.kind = .evacuate then [j.cluster]
  else
    let of (a n : Nat) : List Nat :=
      s.addr.regions.flatMap fun e =>
        let r := e.2
        let lo := max a r.base
        let hi := min (a + n) (r.limit + 1)
        if lo < hi then s.rowClusters r ((lo - r.base) / 128) ((hi - 1 - r.base) / 128) else []
    (of j.dst (max j.len j.dstDone) ++ (if j.kind = .fill then [] else of j.src j.len)).eraseDups

/-! ### How a range is read and written (R73, R97, R219) -/

/-- What stands at an address of a range: pass-through bytes, a view, another chip, a view that does
not fit, nothing. -/
inductive Side where
  | raw (r : Region)
  | view (r : Region) (id : Nat) (v : View)
  | away (w : Nat) (d : BitVec 256)
  | misfit
  | nowhere
deriving DecidableEq, Repr

/-- The side at an address, and how many bytes its region or window has from there. -/
def State.side (s : State) (ctx field : Nat) (a : Access) (addr : Nat) : Side × Nat :=
  if addr < 2 ^ 28 then
    match s.regionAt addr with
    | some (i, r) =>
      let left := r.limit + 1 - addr
      match s.bindView i r field ctx a with
      | .pass => (.raw r, left)
      | .view id v => (.view r id v, left)
      | .bad => (.misfit, left)
    | none => (.nowhere, 2 ^ 40)
  else
    match s.windowAt addr with
    | some (w, d) => (.away w d, winLimit d + 1 - addr)
    | none => (.nowhere, 2 ^ 40)

/-- The descriptor of a view whose elements have values: one of R189, or a block-fixed one (R226). -/
def Side.conv : Side → Option (BitVec 512)
  | .view _ _ v => if chunked v.desc || viewAcc v.desc == 3 then some v.desc else none
  | _ => none

/-- Stored bits for one unit of a job: a port byte of a COPY, an element of a CONVERT (R219). -/
def unitBits (convert : Bool) (mine other : Option (BitVec 512)) : Nat :=
  if convert then
    match mine.or other with
    | some d => elemBits d
    | none => 8
  else
    match mine with
    | some d => if chunked d then storeBits (viewStore d) / portBytes (viewPort d) else 8
    | none => 8

/-- A stretch of a job with one source side and one destination side: their stored bytes. -/
structure Stretch where
  x : Side
  y : Side
  src : Nat
  dst : Nat
deriving DecidableEq, Repr

/-- The stretches of a job, walked region by region (R73). -/
def State.stretches (s : State) (convert : Bool) (ctx sv dv : Nat) : Nat → Nat → Nat → Nat → List Stretch
  | 0, _, _, _ => []
  | fuel + 1, a, b, len =>
    if len = 0 then []
    else
      let (x, nx) := s.side ctx sv .rd a
      let (y, ny) := s.side ctx dv .wr b
      let p := unitBits convert x.conv y.conv
      let q := unitBits convert y.conv x.conv
      let units := min (min len nx * 8 / p) (ny * 8 / q)
      if units = 0 then []
      else
        { x := x, y := y, src := units * p / 8, dst := units * q / 8 } ::
          s.stretches convert ctx sv dv fuel (a + units * p / 8) (b + units * q / 8) (len - units * p / 8)

/-- Every part of a range has a view that fits (R97). -/
def State.sidesFit (s : State) (ctx field : Nat) (a : Access) : Nat → Nat → Nat → Bool
  | 0, _, _ => true
  | fuel + 1, b, len =>
    if len = 0 then true
    else
      match s.side ctx field a b with
      | (.misfit, _) => false
      | (_, n) => s.sidesFit ctx field a fuel (b + min len n) (len - min len n)

/-- A view field counts as pass-through over a range (R72). A range in a remote window has no region, so what lies there
counts as pass-through for 0xFFFF (DESIGN CHOICE, log entry 58). -/
def State.passThrough (s : State) (field a len : Nat) : Bool :=
  field == 0xFFFE ||
    (field == 0xFFFF && (s.rangeRegions a len).all fun i =>
      match s.region? i with | some r => r.defaultView == 0xFFFE | none => true)

/-! ### The commands (Tables 2-10, 2-11) -/

/-- The parameters of a copy. -/
def cpSrc (c : Cmd) : Nat := c.par 0 5
/-- DEST of a copy. -/
def cpDst (c : Cmd) : Nat := c.par 8 5
/-- LENGTH of a copy. -/
def cpLen (c : Cmd) : Nat := c.par 16 4
/-- SRC_VIEW. -/
def cpSv (c : Cmd) : Nat := c.par 20 2
/-- DST_VIEW. -/
def cpDv (c : Cmd) : Nat := c.par 22 2

/-- A length out of its range. -/
def badLength (n : Nat) : Bool := n % 32 != 0 || n == 0 || decide (2 ^ 28 < n)

/-- A view field that names no valid view (R467). -/
def State.badField (s : State) (f : Nat) : Bool :=
  f != 0xFFFF && f != 0xFFFE && (decide (4096 ≤ f) || (s.view? f).isNone)

/-- DEST and LENGTH of a fill. -/
def fillDst (c : Cmd) : Nat := c.par 0 5
/-- LENGTH of a fill. -/
def fillLen (c : Cmd) : Nat := c.par 8 4
/-- A fill is small (R72). -/
def fillFast (c : Cmd) : Bool := decide (fillLen c ≤ 65536)

/-- The stretches of a copy or conversion. -/
def State.cpStretches (s : State) (c : Cmd) (convert : Bool) : List Stretch :=
  s.stretches convert c.ctx (cpSv c) (cpDv c) 700 (cpSrc c) (cpDst c) (cpLen c)

/-- The destination bytes of a copy or conversion. -/
def State.cpDstLen (s : State) (c : Cmd) (convert : Bool) : Nat :=
  ((s.cpStretches c convert).map (fun p => p.dst)).sum

/-- Neither side of a stretch has elements of its own: a conversion that is pass-through on both sides (R219). -/
def Stretch.bothPass (p : Stretch) : Bool :=
  p.x != .misfit && p.y != .misfit && p.x != .nowhere && p.y != .nowhere && p.x.conv.isNone && p.y.conv.isNone

/-- A range runs into a remote window. -/
def State.touchesWindow (s : State) (a n : Nat) : Bool :=
  s.addr.windows.any (fun e => decide (winBase e.2 < a + n) && decide (a ≤ winLimit e.2))

/-- A copy is small and pass-through (R72). -/
def State.cpFast (s : State) (c : Cmd) : Bool :=
  decide (cpLen c ≤ 65536) && s.passThrough (cpSv c) (cpSrc c) (cpLen c) &&
    s.passThrough (cpDv c) (cpDst c) (cpLen c)

/-- The executor of a Drover opcode (R51, R72). -/
def drvPath (fast : Bool) : Executor := if fast then .fast else .holder

/-- A job that finds the queue full waits (R51). -/
def queueWaits : Cmd → State → Option WaitFor := fun _ s =>
  if s.droverFull then some .droverQueue else none

/-- DRV_FILL (R72, R73). -/
def bodyDrvFill : Body :=
  { code := 0x500, units := 2, path := fun c _ => drvPath (fillFast c)
    check := fun c s =>
      firstRefusal
        [c.params [byteField 0 5, byteField 8 8]
          [(0, fillDst c % 32 != 0 || (fillFast c && s.touchesWindow (fillDst c) (fillLen c))), (8, badLength (fillLen c))],
         rangeRefusal (s.rangeStops c.ctx [.w] true (fillDst c) (fillLen c))]
    waits := queueWaits
    holds := fun c s => (s.rangeRegions (fillDst c) (fillLen c)).map .region
    job := fun _ s => s.cmd.jobNext.toNat
    act := fun token c s =>
      .running (s.queueJob
        { id := 0, kind := .fill, who := some (token, c), ctx := c.ctx, dst := fillDst c, len := fillLen c
          pattern := c.par 12 4 }) }

/-- The regions that a copy holds (R73). -/
def cpHolds (convert : Bool) : Cmd → State → List Held := fun c s =>
  ((s.rangeRegions (cpSrc c) (cpLen c) ++ s.rangeRegions (cpDst c) (s.cpDstLen c convert)).eraseDups).map
    .region

/-- Fields of a copy that offend (Table 2-11, R73, R467). R73 names no status for an address of a remote window on the
fast path: it is taken as a field out of its range, with the offset of SRC or DEST; DRV_FILL does the same (DESIGN
CHOICE, log entry 54). -/
def State.cpBad (s : State) (c : Cmd) (convert : Bool) : List (Nat × Bool) :=
  let n := s.cpDstLen c convert
  let far (a m : Nat) : Bool := !convert && s.cpFast c && s.touchesWindow a m
  [(0, cpSrc c % 32 != 0 || far (cpSrc c) (cpLen c)),
   (8, cpDst c % 32 != 0 || far (cpDst c) n ||
      (decide (cpSrc c < cpDst c + n) && decide (cpDst c < cpSrc c + cpLen c))),
   (16, badLength (cpLen c)), (20, s.badField (cpSv c)), (22, s.badField (cpDv c))]

/-- Ranges and bindings of a copy (R49, R73, R97). A view that does not fit, which R97 refuses with the offset of its
field, is looked for after the ranges of R49 (DESIGN CHOICE, log entry 55). -/
def State.cpRanges (s : State) (c : Cmd) (convert : Bool) : Option Result :=
  let n := s.cpDstLen c convert
  firstRefusal
    [rangeRefusal (s.rangeStops c.ctx [.r] true (cpSrc c) (cpLen c)),
     rangeRefusal (s.rangeStops c.ctx [.w] true (cpDst c) n),
     refuseIf (!s.sidesFit c.ctx (cpSv c) .rd 400 (cpSrc c) (cpLen c)) (badParam 20),
     refuseIf (!s.sidesFit c.ctx (cpDv c) .wr 400 (cpDst c) n) (badParam 22)]

/-- The layout of Table 2-11. -/
def cpFields : List (Nat × Nat) := [byteField 0 5, byteField 8 5, byteField 16 8]

/-- A copy or conversion as a job. -/
def cpJob (kind : JobKind) (token : Nat) (c : Cmd) : Job :=
  { id := 0, kind := kind, who := some (token, c), ctx := c.ctx, src := cpSrc c, dst := cpDst c, len := cpLen c
    srcView := cpSv c, dstView := cpDv c }

/-- DRV_COPY (R72, R73). -/
def bodyDrvCopy : Body :=
  { code := 0x501, units := 2, path := fun c s => drvPath (s.cpFast c)
    check := fun c s => firstRefusal [c.params cpFields (s.cpBad c false), s.cpRanges c false]
    waits := queueWaits
    holds := cpHolds false
    job := fun _ s => s.cmd.jobNext.toNat
    act := fun token c s => .running (s.queueJob (cpJob .copy token c)) }

/-- An own-amax view: its address is no multiple of the larger of 32 and the group's stored bytes
(R219). -/
def Side.ownBad (x : Side) (a : Nat) : Bool :=
  match x with
  | .view _ _ v =>
    let d := v.desc
    let own := viewSrc d == 3 || (viewSrc d == 2 && v.dscale.isNone)
    chunked d && own && a % max 32 (groupSize d * storeBits (viewStore d) / 8) != 0
  | _ => false

/-- DRV_CONVERT (R219). LENGTH, a multiple of 32, is a whole number of elements of every format. A side in a remote
window, whose views are another chip's, and a side whose view has PORT_FMT 0 and does not convert are pass-through. -/
def bodyDrvConvert : Body :=
  { code := 0x502, units := 2, path := onHolder
    check := fun c s =>
      firstRefusal
        [c.params cpFields
          (s.cpBad c true ++
            [(20, (s.cpStretches c true).any Stretch.bothPass),
             (0, (s.side c.ctx (cpSv c) .rd (cpSrc c)).1.ownBad (cpSrc c)),
             (8, (s.side c.ctx (cpDv c) .wr (cpDst c)).1.ownBad (cpDst c))]),
         s.cpRanges c true]
    waits := queueWaits
    holds := cpHolds true
    job := fun _ s => s.cmd.jobNext.toNat
    act := fun token c s => .running (s.queueJob (cpJob .convert token c)) }

/-- DRV_CANCEL (R74). -/
def bodyDrvCancel : Body :=
  { code := 0x504, units := 1, path := onFast
    check := fun c _ => c.params [byteField 0 2] []
    act := fun _ c s =>
      match s.job? (c.par 0 2) with
      | some j => Act.ok (s.stopJob j .abandoned)
      | none => Act.ok s }

/-- DRV_QUERY (R467). -/
def bodyDrvQuery : Body :=
  { code := 0x505, units := 1, path := onFast, q := true
    check := fun c s => c.params [byteField 0 2] [(0, (s.job? (c.par 0 2)).isNone)]
    act := fun _ c s =>
      let n := match s.job? (c.par 0 2) with | some j => s.jobDone j | none => 0
      .done { status := .ok, result := n } s }

/-! ### The start of a job (R71, R175) -/

/-- The sub-ports that a local range touches. -/
def State.rangeSubs (s : State) (a n : Nat) : Nat :=
  ((s.addr.regions.flatMap fun e =>
    let r := e.2
    let lo := max a r.base
    let hi := min (a + n) (r.limit + 1)
    if lo < hi then
      let n0 := (lo - r.base) / 128
      (List.range (min ((hi - 1 - r.base) / 128 + 1 - n0) (16 * s.cfg.clusters))).map
        (fun i => (r.place s.cfg (n0 + i)).1 / 2)
    else []).eraseDups).length

/-- T_job (Table 6-5). -/
def State.jobToll (s : State) (j : Job) : Nat :=
  match j.kind with
  | .fill => s.rangeSubs j.dst j.len * s.windowXck * s.tollArray
  | .copy => s.windowXck * (s.tollRdMax + s.tollWrMax)
  | .convert => s.windowXck * (s.tollRdMax + s.tollWrMax)
  | .evacuate => s.windowXck / 2 * (2 * s.tollArray)

/-- The lowest slot of a cluster in state SPARE (R349). -/
def State.spareOf (s : State) (c : Nat) : Option Nat :=
  (List.range 17).find? (fun k => decide ((s.slot (17 * c + k)).state = .spare))

/-- Rows of a bank are on their way into or out of its accumulator buffer (R232, R233). -/
def State.stagingIn (s : State) (bank : Nat) : Bool :=
  s.eng.stagings.any fun g =>
    (s.bufBanks (bank / 16) g.pop).contains bank

/-- A job can start as far as its objects go. -/
def State.jobReady (s : State) (j : Job) : Bool :=
  decide (j.kind ≠ .evacuate) ||
    ((s.spareOf j.cluster).isSome && (s.ctest j.cluster).evac.isNone && !s.stagingIn (16 * j.cluster + j.bank))

/-- In-bank jobs (R70). -/
def JobKind.inBank : JobKind → Bool
  | .fill => true | .evacuate => true | .copy => false | .convert => false

/-- The oldest queued job of a kind that may start (R71, R175). -/
def State.nextJob (s : State) (inBank : Bool) : Option Job :=
  s.cmd.jobs.find? fun j =>
    j.kind.inBank == inBank && s.jobReady j &&
      (decide (s.jobToll j + s.gov.spent ≤ s.gov.tb) || decide (4096 ≤ j.waited))

/-- The evacuation takes its spare (R349). -/
def State.takeSpare (s : State) (j : Job) : State :=
  match j.kind, s.spareOf j.cluster with
  | .evacuate, some k =>
    (s.onSlot (17 * j.cluster + k) fun l => { l with state := .copying }).onCtest j.cluster fun t =>
      { t with evac := some { bank := j.bank, spare := k }, evacBank := BitVec.ofNat 4 j.bank, evacCount := 0 }
  | _, _ => s

/-- DRV_JOB_START (R71, R175). -/
def State.jobStart (s : State) (inBank : Bool) : State :=
  let busy := if inBank then s.cmd.bankJob.isSome else s.cmd.xbarJob.isSome
  if busy ∨ s.safety.hold ∨ ¬ s.ready then s
  else
    match s.nextJob inBank with
    | none => s
    | some j =>
      let s := if s.jobToll j + s.gov.spent ≤ s.gov.tb then s
        else (s.onGov fun g => { g with drvForced := satAdd 0xFFFF g.drvForced 1 }).govFlag 8
      let s := s.onCmd fun c =>
        let rest := c.jobs.filter (fun k => k.id != j.id)
        if inBank then { c with jobs := rest, bankJob := some j } else { c with jobs := rest, xbarJob := some j }
      s.takeSpare j

/-! ### Rows -/

/-- A request of initiator 64 for a range of a context is refused with this status (R98, R114). -/
def State.reachFails (s : State) (ctx : Nat) (a : Access) (addr n : Nat) : Option Status :=
  match s.rangeFails ctx [a.need] true addr n with
  | some .perm => some .perm
  | some st => some st
  | none => if s.owns64 ctx then none else some .perm

/-- A job ends because a request of its was refused (R73, R87, R114). -/
def State.failJob (s : State) (j : Job) (addr : Nat) (st : Status) : State :=
  ((if s.owns64 j.ctx then s else s.count64).safetyRefusal 64 addr st).endJobNow j st

/-- The row under way is written: `n` source bytes and `m` destination bytes more, with what its answers say. -/
def State.wroteRow (s : State) (j : Job) (n m : Nat) (rs : List Resp) : State :=
  s.onJob j.id fun k =>
    { k with done := k.done + n, dstDone := k.dstDone + m
             spoil := k.spoil || rs.any (fun r => decide (r.status = .spoil))
             spoiled := k.spoiled + (rs.map (fun r => r.spoiled)).sum
             clipped := k.clipped + (rs.map (fun r => r.clipped)).sum, wait := .none, load := {} }

/-- A job comes to a row boundary or reads on: it stops if it has to, else it goes on. -/
def State.jobGoes (s : State) (id : Nat) (next : State → Job → State) : State :=
  match s.job? id with
  | some j => match j.stop with | some st => s.endJobNow j st | none => next s j
  | none => s

/-! ### Requests of the Drover (R70, R73, R92, R293) -/

/-- The pattern of a fill over `n` bytes. -/
def patternBytes (p n : Nat) : List Byte := (List.range (n / 4)).flatMap fun _ => toBytes 4 p

/-- The write beat of a range in one row of 128 bytes. -/
def rowBeat (addr : Nat) (bs : List (Byte × Bool)) : WBeat :=
  let lane := addr % 128
  let spoil := (List.range 4).foldl (fun (w : BitVec 4) g =>
    if bs.zipIdx.any (fun p => p.1.2 && (lane + p.2) / 32 == g) then setBit w g else w) 0
  { data := BitVec.ofNat 1024 (ofBytes (bs.map Prod.fst) * 2 ^ (8 * lane))
    strb := BitVec.allOnes 128, spoil := spoil, last := true }

/-- A request of initiator 64 through a remote window. -/
def State.awayRequest (s : State) (w : Nat) (word : BitVec 128) (beats : Nat) (bs : List WBeat) : Outst :=
  { id := s.xbar.nextReq, port := 64, word := word, wbeats := bs, beats := beats, since := s.clock.xck
    plan := .remote w, dest := .remote w, bound := s.addr.windows.find? w }

/-- The Drover reads `n` bytes from another chip. -/
def State.readAway (s : State) (j : Job) (w a n : Nat) : State :=
  let (id, s) := s.ask
    (s.awayRequest w (reqWord 1 2 a n j.ctx j.srcView s.xbar.nextReq) (beatsAligned a n) [])
  s.onJob j.id fun k => { k with wait := .reading id n }

/-- The Drover writes to another chip, for `n` source bytes. -/
def State.writeAway (s : State) (j : Job) (w a n : Nat) (bs : List (Byte × Bool)) : State :=
  let (id, s) := s.ask
    (s.awayRequest w (reqWord 2 2 a bs.length j.ctx j.dstView s.xbar.nextReq) 1 [rowBeat a bs])
  s.onJob j.id fun k =>
    { k with wait := .writing id n bs.length, spoiled := k.spoiled + ones 4 (rowBeat a bs).spoil.toNat }

/-! ### Reading the source -/

/-- The pieces of a local range within one region: one for each row, or for each beat of a view. What the Drover reads
carries a mark on and consumes none, so its reads report none (R326, R327). -/
def State.drvPieces (s : State) (kind : PieceKind) (r : Region) (v : Option BoundView) (a len : Nat) :
    List Piece :=
  let d? := match v with | some b => if chunked b.desc then some b.desc else none | none => none
  let step := match d? with | some d => beatChunk d | none => 128
  (List.range ((a % step + len + step - 1) / step)).map fun i =>
    let lo := max a ((a / step + i) * step)
    let n := min (a + len) ((a / step + i + 1) * step) - lo
    let at_ := r.place s.cfg ((lo - r.base) / 128)
    let off := (lo - r.base) % 128
    { req := s.xbar.nextReq, port := 64, kind := kind, cls := 2, beat := i, cluster := at_.1 / 16
      bank := at_.1, row := at_.2, off := off, len := n, addr := lo
      lane := if d?.isSome then 0 else off
      lanes := match d? with | some d => n * 8 / storeBits (viewStore d) * portBytes (viewPort d) | none => n
      view := v }

/-- The view of a side as a request binds it. -/
def Side.bound : Side → Option BoundView
  | .view r id v =>
    some { id := id, gen := v.gen, desc := v.desc, owner := v.owner, base := r.base, epoch := v.cur.count }
  | _ => none

/-- The region of a side on this chip. -/
def Side.region? : Side → Option Region
  | .raw r => some r
  | .view r _ _ => some r
  | _ => none

/-- The job is a conversion. -/
def Job.converts (j : Job) : Bool := decide (j.kind = .convert)

/-- The Drover reads `n` bytes of this chip, through the view of their region; a conversion reads exact numbers. -/
def State.readHere (s : State) (j : Job) (x y : Side) (r : Region) (a n : Nat) : State :=
  let xs := (s.drvPieces .rd r x.bound a n).map fun p => { p with wants := j.converts, other := y.conv }
  let (id, s) := s.ask (s.pieceRequest (reqWord 1 2 a n j.ctx j.srcView 0) xs)
  s.onJob j.id fun k => { k with wait := .reading id n }

/-- Raw bytes as elements of a view's storage format (R219). -/
def rawNums (d : BitVec 512) (bs : List (Byte × Bool)) : List (Num × Bool) :=
  let n := elemBits d
  let v := ofBytes (bs.map Prod.fst)
  (List.range (bs.length * 8 / n)).map fun i =>
    (dequant d (bitsOf v (i * n) n) { scale := 1 }, (bs.getD (i * n / 8) (0, true)).2)

/-- The bytes of the beats of a local read, each with its mark. -/
def beatBytes (rs : List Resp) : List (Byte × Bool) :=
  rs.flatMap fun r => (List.range r.lanes).map fun i =>
    (BitVec.ofNat 8 (bytesAt r.data (r.lane + i) 1), bitOf r.spoil.toNat ((r.lane + i) / 32))

/-- The answers to a read of `n` bytes join what the row under way has read: bytes, or for a conversion the elements
that this chip's views or those of the other side make of them (R219). -/
def Load.take (l : Load) (j : Job) (x y : Side) (a n : Nat) (rs : List Resp) : Load :=
  if x.region?.isSome then
    if j.converts then { l with nums := l.nums ++ rs.flatMap (fun r => r.nums), src := l.src + n }
    else { l with bytes := l.bytes ++ beatBytes rs, src := l.src + n }
  else
    let bs := answerBytes rs a n
    match (if j.converts then y.conv else none) with
    | some d => { l with nums := l.nums ++ rawNums d bs, src := l.src + n }
    | none => { l with bytes := l.bytes ++ bs, src := l.src + n }

/-- Port bytes or elements read. -/
def Load.units (l : Load) : Nat := l.bytes.length + l.nums.length

/-! ### Writing the destination -/

/-- Elements stored raw in a view's storage format, rounded half to even (R219): the bytes, and how
many were clipped. -/
def rawBytes (d : BitVec 512) (xs : List (Num × Bool)) : List (Byte × Bool) × Nat :=
  let n := elemBits d
  let q := xs.map (fun x => quantElem d x.1 { scale := 1 } .even)
  let v := ((q.zipIdx).map (fun p => p.1.code % 2 ^ n * 2 ^ (n * p.2))).sum
  ((List.range (xs.length * n / 8)).map fun i =>
    (BitVec.ofNat 8 (bitsOf v (8 * i) 8),
      (List.range (max 1 (8 / n))).any (fun k => (xs.getD (i * 8 / n + k) (.nan, true)).2)),
   (xs.zip q).countP (fun p => !p.1.2 && p.2.clip))

/-- Write pieces with the bytes they carry. -/
def withBytes : List Piece → List (Byte × Bool) → List Piece
  | [], _ => []
  | x :: xs, bs =>
    let mine := bs.take x.lanes
    let bad := (List.range 4).foldl (fun (w : BitVec 4) g =>
      if mine.zipIdx.any (fun p => p.1.2 && (x.lane + p.2) / 32 == g) then setBit w g else w) 0
    { x with data := BitVec.ofNat 1024 (ofBytes (mine.map Prod.fst) * 2 ^ (8 * x.lane))
             strb := BitVec.allOnes 128, bad := bad } :: withBytes xs (bs.drop x.lanes)

/-- Write pieces with the elements they carry. -/
def withNums (d : BitVec 512) : List Piece → List (Num × Bool) → List Piece
  | [], _ => []
  | x :: xs, ns =>
    let k := x.len * 8 / elemBits d
    { x with exact := ns.take k, strb := BitVec.allOnes 128 } :: withNums d xs (ns.drop k)

/-- A local write of `m` bytes for `n` source bytes: the view of the range chooses its scales and encodes
(R70, R199, R204, R219). -/
def State.writeHere (s : State) (j : Job) (y : Side) (b n m : Nat) (xs : List Piece) : State :=
  let (o, s) := s.planPieces (s.pieceRequest (reqWord 2 2 b m j.ctx j.dstView 0) xs) xs y.bound m
  let (id, s) := s.ask o
  s.onJob j.id fun k => { k with wait := .writing id n m }

/-- What the row under way has read, as the raw bytes of a destination without a view, and the elements clipped. -/
def Load.raw (l : Load) (other : Option (BitVec 512)) : List (Byte × Bool) × Nat :=
  if l.nums = [] then (l.bytes, 0) else match other with | some d => rawBytes d l.nums | none => ([], 0)

/-- The row under way is read: it is written to the destination; `x` is the source side it began at. -/
def State.deliver (s : State) (j : Job) (x y : Side) : State :=
  let b := j.dst + j.dstDone
  let n := j.load.src
  let raw := j.load.raw x.conv
  let m := match y with
    | .view _ _ v =>
      if j.converts then j.load.nums.length * elemBits v.desc / 8
      else j.load.bytes.length * unitBits false (some v.desc) none / 8
    | _ => raw.1.length
  match s.reachFails j.ctx .wr b m with
  | some st => s.failJob j b st
  | none =>
    if !s.mayAsk false then s
    else
      let s := match y with
        | .view _ _ _ => s
        | _ => s.onJob j.id fun k => { k with clipped := k.clipped + raw.2 }
      match y with
      | .away w _ => s.writeAway j w b n raw.1
      | .raw r => s.writeHere j y b n m (withBytes (s.drvPieces .wr r none b m) raw.1)
      | .view r _ v =>
        let ps := s.drvPieces .wr r y.bound b m
        s.writeHere j y b n m (if j.converts then withNums v.desc ps j.load.nums else withBytes ps j.load.bytes)
      | .misfit => s.failJob j b .badParam
      | .nowhere => s.failJob j b .decerr

/-! ### Rows of a crossbar job (R70, R73, R219) -/

/-- The destination's view chooses its scales by group: it is written in whole groups (R219). -/
def Side.groups : Side → Bool
  | .view _ _ v => chunked v.desc && decide (2 ≤ viewSrc v.desc) && decide (viewGroup v.desc ≠ 0)
  | _ => false

/-- Bytes at a destination that one row takes: to the end of its row, of its beat, or of the block of
whole groups where the view chooses its scales (R219). -/
def Side.stepBytes (y : Side) (b : Nat) : Nat :=
  match y with
  | .view r _ v =>
    let d := v.desc
    if chunked d then
      if y.groups then
        let block := viewStride d * groupSize d * storeBits (viewStore d) / 8
        block - (b - r.base) % block
      else beatChunk d - b % beatChunk d
    else 128 - b % 128
  | _ => 128 - b % 128

/-- The crossbar job goes on: it reads what the row under way still lacks, or writes it. A block of groups is
read whole, across the borders of source regions, before it is written (R219). One request is under way at a time
(DESIGN CHOICE, log entry 56). -/
def State.crossNext (s : State) (j : Job) : State :=
  let a := j.src + j.done + j.load.src
  let b := j.dst + j.dstDone
  let left := j.len - j.done - j.load.src
  let (x, nx) := s.side j.ctx j.srcView .rd a
  let (y, ny) := s.side j.ctx j.dstView .wr b
  let p := unitBits j.converts x.conv y.conv
  let q := unitBits j.converts y.conv x.conv
  let most := match x with | .away _ _ => 4096 | _ => 2 ^ 28
  let u := min (min (min left nx) most * 8 / p) (min ny (y.stepBytes b) * 8 / q - j.load.units)
  let n := u * p / 8
  if j.load.src ≠ 0 ∧ (u = 0 ∨ ¬ y.groups) then
    s.deliver j (s.side j.ctx j.srcView .rd (j.src + j.done)).1 y
  else if u = 0 then s
  else
    match s.reachFails j.ctx .rd a n with
    | some st => s.failJob j a st
    | none =>
      if !s.mayAsk true then s
      else
        match x with
        | .away w _ => s.readAway j w a n
        | .raw r => s.readHere j x y r a n
        | .view r _ _ => s.readHere j x y r a n
        | .misfit => s.failJob j a .badParam
        | .nowhere => s.failJob j a .decerr

/-- The read of a crossbar job is answered. -/
def State.rowRead (s : State) (j : Job) (req n : Nat) (rs : List Resp) : State :=
  let a := j.src + j.done + j.load.src
  let s := s.takeAnswers req
  match answerFault rs with
  | some st => s.failJob j a st
  | none =>
    let x := (s.side j.ctx j.srcView .rd a).1
    let y := (s.side j.ctx j.dstView .wr (j.dst + j.dstDone)).1
    (s.onJob j.id fun k => { k with wait := .none, load := k.load.take j x y a n rs }).jobGoes j.id State.crossNext

/-- A write of the Drover is answered. -/
def State.rowWritten (s : State) (j : Job) (req n m : Nat) (rs : List Resp) (next : State → Job → State) : State :=
  let s := s.takeAnswers req
  match answerFault rs with
  | some st => s.failJob j (j.dst + j.dstDone) st
  | none => (s.wroteRow j n m rs).jobGoes j.id next

/-- A row of the crossbar job (R70, R73, R219). -/
def State.crossRow (s : State) (j : Job) : State :=
  match j.wait with
  | .none => s.crossNext j
  | .reading req n => match s.asked req with | some rs => s.rowRead j req n rs | none => s
  | .writing req n m =>
    match s.asked req with | some rs => s.rowWritten j req n m rs State.crossNext | none => s

/-! ### Rows of a fill (R70, R72) -/

/-- The next row of a fill is asked for: locally it is a write of a row in its bank, in the write buffer with the
others (R156). -/
def State.fillNext (s : State) (j : Job) : State :=
  let a := j.dst + j.done
  let n := min (j.len - j.done) (128 - a % 128)
  if n = 0 then s
  else
    match s.reachFails j.ctx .wr a n with
    | some st => s.failJob j a st
    | none =>
      if !s.mayAsk false then s
      else
        match s.windowAt a with
        | some (w, _) => s.writeAway j w a n ((patternBytes j.pattern n).map (fun b => (b, false)))
        | none =>
          let (id, s) := s.ask (s.pieceRequest (reqWord 2 2 a n j.ctx 0xFFFE 0)
            (s.plainPieces .fill 2 a n (patternBytes j.pattern n)))
          s.onJob j.id fun k => { k with wait := .writing id n n }

/-- A row of a fill. -/
def State.fillStep (s : State) (j : Job) : State :=
  match j.wait with
  | .writing req n m =>
    match s.asked req with | some rs => s.rowWritten j req n m rs State.fillNext | none => s
  | _ => s.fillNext j

/-! ### Rows of an evacuation (R349) -/

/-- Copy a granule to the spare: spoiled, address and uncorrectable ones become the spoiled pattern. -/
def State.evacGranule (s : State) (bank spare row : Nat) (buf : Option Nat) (g : Nat) : State :=
  let d := match buf with
    | some b => s.fetchBuffer bank row b g
    | none => s.fetchArray bank row g
  let s := s.noted bank row g false d
  let w := storedWord bank row g (if d.marked then 0 else d.data) d.marked
  s.putWord spare (match buf with | some b => fun _ => 16448 + b | none => arrayRow (s.slot spare) row) g w

/-- The row that an evacuation copies next: its logical row, and its place if it stands in the accumulator buffer. -/
def State.evacPlace (s : State) (bank : Nat) (e : EvacRun) : Option (Nat × Option Nat) :=
  let used := s.bufUsed bank
  if used.length + 16384 ≤ e.copied then none
  else
    match used[e.copied]? with
    | some u => some (u.row, some u.buf)
    | none => some (e.copied - used.length, none)

/-- A row of the evacuation of a bank is on its way. -/
def State.evacAsked (s : State) (bank : Nat) : Bool :=
  (s.port 64).pieces.any (·.evacuates bank) || (s.sub (bank / 2)).queue.any (·.evacuates bank) ||
    (s.bankq bank).copy.isSome

/-- The next row of an evacuation is asked for: a piece for the write side of its sub-port. -/
def State.askEvac (s : State) (c : Nat) : State :=
  match (s.ctest c).evac with
  | none => s
  | some e =>
    let bank := 16 * c + e.bank
    match s.evacPlace bank e with
    | none => s
    | some (row, _) =>
      if s.safety.hold || s.evacAsked bank then s
      else
        let x : Piece :=
          { req := s.xbar.nextReq, port := 64, kind := .evac, cls := 2, cluster := c, bank := bank, row := row
            off := 0, len := 128, addr := 0, lane := 0, lanes := 128, arrived := s.clock.xck }
        (s.onPort 64 fun p => { p with pieces := enter64 p.pieces [x] 2 }).wakeCluster c 1

/-- The granted row of an evacuation may take the read slot of the BCK (R28, R139, R349). -/
def State.evacReady (s : State) (bank : Nat) (x : Piece) : Bool :=
  s.inRun (bank / 16) && decide (x.slot / 2 < s.bck) && s.readOpen bank &&
    !(s.bankq bank).holdsRow x.row

/-- One row of the copy of a cluster is written to the spare (R349). -/
def State.copyRow (s : State) (c : Nat) (e : EvacRun) (row : Nat) (buf : Option Nat) : State :=
  let bank := 16 * c + e.bank
  let s := [0, 1, 2, 3].foldl (fun s g => s.evacGranule bank (17 * c + e.spare) row buf g) s
  (s.onBankq bank fun q => { q with copy := none, readBck := s.bck + 1 }).onCtest c fun t =>
    { t with evac := t.evac.map (fun e => { e with copied := e.copied + 1 }), evacCount := t.evacCount + 1 }

/-- A row of an evacuation: the granted one is copied when its read slot is free, and the next is asked for. -/
def State.evacRow (s : State) (c : Nat) : State :=
  match (s.ctest c).evac with
  | none => s
  | some e =>
    let bank := 16 * c + e.bank
    match (s.bankq bank).copy, s.evacPlace bank e with
    | some x, some (row, buf) =>
      if s.evacReady bank x then (s.copyRow c e row buf).askEvac c else s
    | _, _ => s.askEvac c

/-! ### DRV_ROW, DRV_JOB_COMPLETE -/

/-- DRV_ROW: the active in-bank or crossbar job moves on by a row, or by a part of one that its requests allow
(R70). -/
def State.drvRow (s : State) (inBank : Bool) : State :=
  if inBank then
    match s.cmd.bankJob with
    | some j => if j.kind = .evacuate then s.evacRow j.cluster else s.fillStep j
    | none => s
  else
    match s.cmd.xbarJob with
    | some j => s.crossRow j
    | none => s

/-- The regions that a fill covers whole (R73). -/
def State.covered' (s : State) (a len : Nat) : List Nat :=
  (s.addr.regions.filter
    (fun e => decide (a ≤ e.2.base) && decide (e.2.limit < a + len))).map Prod.fst

/-- How a finished job ends (R73, R219). -/
def Job.result (j : Job) : Result :=
  if j.spoil ∨ 0 < j.spoiled then { status := .spoil, result := min 0xFFFFFFFF j.spoiled }
  else if j.converts ∧ 0 < j.clipped then { status := .saturated, result := min 0xFFFFFFFF j.clipped }
  else { status := .ok }

/-- A job whose last row is written. -/
def Job.over (j : Job) : Bool := decide (j.kind ≠ .evacuate) && decide (j.wait = .none) && decide (j.len ≤ j.done)

/-- DRV_JOB_COMPLETE (R73). -/
def State.jobComplete (s : State) (inBank : Bool) : State :=
  match (if inBank then s.cmd.bankJob else s.cmd.xbarJob) with
  | some j =>
    if j.over then
      let s := if j.kind = .fill then (s.covered' j.dst j.len).foldl State.markInit s else s
      s.endJob j j.result
    else s
  | none => s

end Sys2Proof.Machine
end

