-- ==== Sys2Proof/Machine/CmdInteg.lean ====
section
/-!
DEFINITION. The integrity and self-test commands, scrubbing, takeovers and memory BIST (Tables 11-9,
12-10; R320 to R342, R349 to R361).
-/

namespace Sys2Proof.Machine

/-! ### What the commands share -/

/-- The clusters of an opcode: byte 0, or every cluster for 0xFF. -/
def clusterField (c : Cmd) (s : State) : List Nat :=
  if c.par 0 1 = 0xFF then List.range s.cfg.clusters else [c.par 0 1]

/-- The Shepherd of the bank's half. -/
def onBankHalf : Cmd → State → Executor := fun c _ => .half [c.par 0 1 / 16]

/-- The Shepherd of the cluster's half. -/
def onClusterHalf : Cmd → State → Executor := fun c _ => .half [c.par 0 1]

/-- The bank of byte 0 is absent. -/
def bankAbsent (c : Cmd) (s : State) : Nat × Bool := (0, !s.cfg.hasBank (c.par 0 1))

/-- The cluster of byte 0 is absent. -/
def clusterAbsent (c : Cmd) (s : State) : Nat × Bool := (0, !s.hasCluster (c.par 0 1))

/-- The cluster of a bank that the configuration has. -/
def bankTouches (c : Cmd) (s : State) : List Nat := if s.cfg.hasBank (c.par 0 1) then [c.par 0 1 / 16] else []

/-- A cluster that the configuration has. -/
def clusterTouches (c : Cmd) (s : State) : List Nat := if s.hasCluster (c.par 0 1) then [c.par 0 1] else []

/-- A global bank is being evacuated, or a command holds it (R53, R350). -/
def State.bankBusy (s : State) (g : Nat) : Bool :=
  s.heldBy (.bank (g / 16) (g % 16)) ||
    match (s.ctest (g / 16)).evac with | some e => e.bank == g % 16 | none => false

/-- A cluster has an evacuation, a test, or a command that brings one (R350, R356). -/
def State.clusterBusy (s : State) (c : Nat) : Bool :=
  s.heldBy (.cluster c) || (s.ctest c).evac.isSome || (s.ctest c).run.isSome ||
    s.allJobs.any (fun j => decide (j.kind = .evacuate) && j.cluster == c)

/-- Refused with BUSY. -/
def busyIf (b : Bool) : Option Result := refuseIf b { status := .busy }

/-- A self-test event: status flag and BIST_LAST (Table 12-12). -/
def State.bistEvent (s : State) (i c slot : Nat) : State :=
  s.onInteg fun n =>
    { n with bistIrq := setBit n.bistIrq i, bistCluster := BitVec.ofNat 3 c, bistSlot := BitVec.ofNat 5 slot
             bistCause := BitVec.ofNat 4 i }

/-- XCK that a cluster has spent in RUN. -/
def State.runXck (s : State) (c : Nat) : Nat :=
  let p := s.cpower c
  s.clock.xck - p.offXck - (if p.mode = .run then 0 else s.clock.xck - p.offAt)

/-- The BCK that a cluster has had: it stands while the cluster is not in RUN (R363). -/
def State.bckOf (s : State) (c : Nat) : Nat := s.runXck c / 2

/-- Tolls of an array action that no initiator makes (R170). -/
def State.chargeArray (s : State) (c n : Nat) : State :=
  (s.onGov fun g =>
    { g with spend := g.spend + n * s.tollArray
             clusterSpend := g.clusterSpend.modify 0 c (· + n * s.tollArray) }).climb

/-! ### Register words (Tables 11-12, 12-12) -/

/-- INTEG_STATE. -/
def BankInteg.stateWord (b : BankInteg) : Nat :=
  (match b.ret0 with | some l => l + 2 ^ 6 | none => 0) +
    (match b.ret1 with | some l => l * 2 ^ 8 + 2 ^ 14 | none => 0) + bit b.evacReq * 2 ^ 16

/-- INTEG_UE_LAST. -/
def BankInteg.ueWord (b : BankInteg) : Nat :=
  b.ueRow.toNat + b.ueGranule.toNat * 2 ^ 14 + bit b.ueAddress * 2 ^ 16 + bit b.ueScrub * 2 ^ 17

/-- No row of a bank is scrubbed (SCRUB_STATE.EMPTY): every row of the footprints is staged, or there
is none. -/
def State.scrubEmpty (s : State) (g : Nat) : Bool :=
  let rows := (s.addr.regions.filterMap (fun e => scrubRows s.cfg (some e.2) g)).map Prod.snd
  let staged := ((s.bufUsed g).filter (fun b => b.live && s.scrubRow g b.row)).length
  decide (rows.sum ≤ staged)

/-- SCRUB_STATE. -/
def State.scrubWord (s : State) (g : Nat) : Nat :=
  let b := s.bank g
  let l := s.lbank g
  b.scrubRow.toNat + bit b.lapPartial * 2 ^ 16 + bit b.lastPartial * 2 ^ 17 +
    bit (if l.out then l.lastEmpty else s.scrubEmpty g) * 2 ^ 18

/-- SCRUB_FIX. -/
def BankInteg.fixWord (b : BankInteg) : Nat := b.fixed + b.dropped * 2 ^ 16

/-- The physical slot that holds a bank, with its patches. -/
def State.slotIn (s : State) (g : Nat) : Slot := s.slot (s.slotOf g)

/-- The words of a bank block: registers of Table 11-11 by word offset. -/
def State.bankWord (s : State) (g i : Nat) : Nat :=
  let b := s.bank g
  match i with
  | 0 => b.stateWord
  | 1 => b.ce
  | 2 => b.ue
  | 3 => b.address + b.mergeSpoil * 2 ^ 16
  | 4 => b.spoiled
  | 5 => b.ueWord
  | 6 => bitsOf (s.slotIn g).spareBad.toNat 0 32
  | 7 => bitsOf (s.slotIn g).spareBad.toNat 32 32
  | 8 => bit b.scrubEn + b.interval.toNat * 2 ^ 4
  | 9 => s.scrubWord g
  | 10 => b.lapBck
  | 11 => b.lapNs
  | 12 => b.laps.toNat
  | 13 => b.fixWord
  | _ =>
    if 16 ≤ i ∧ i < 52 then b.laneCe.get 0 (i - 16)
    else if 64 ≤ i ∧ i < 96 then ((s.slotIn g).patches.get 0 (i - 64)).toNat
    else 0

/-- The integrity record (Table 11-10). -/
def State.integRecord (s : State) (g : Nat) : List Nat :=
  let b := s.bank g
  let sl := s.slotIn g
  [g + (s.lbank g).slot * 2 ^ 8, b.stateWord, b.ce, b.ue, s.bankWord g 3, b.spoiled, b.ueWord, s.bankWord g 6,
    s.bankWord g 7, s.scrubWord g, b.lapBck, b.lapNs, b.fixWord, b.laps.toNat,
    (sl.patches.filter (fun e => patchValid e.2)).length, 0] ++
    (List.range 36).map (b.laneCe.get 0) ++ List.replicate 12 0

/-- What a lifecycle state hides of self-test results (R360): 0 nothing, 1 lanes and their signatures,
2 all of it. -/
def State.bistHidden (s : State) : Nat :=
  if s.safety.lifecycle = 2 then 1 else if s.safety.lifecycle = 4 then 2 else 0

/-- SLOT_s; `hide` where the lifecycle state shows no results of tests (R360). -/
def Slot.word (l : Slot) (hide : Bool) : Nat :=
  let st : Nat := match l.state with
    | .inService => 0 | .spare => 1 | .penned => 2 | .testing => 3 | .retired => 4 | .unusable => 5
    | .copying => 6
  l.logical + st * 2 ^ 4 +
    (if hide then 0 else l.failLane * 2 ^ 8 + bit l.failV * 2 ^ 14 + bit l.tested * 2 ^ 15) + min l.rotations 0xFFFF * 2 ^ 16

/-- The registers of a cluster from offset 0x0C00, by word (Tables 12-11, 12-12). -/
def State.bistWord (s : State) (c i : Nat) : Nat :=
  let t := s.ctest c
  let h := s.bistHidden
  let half (w : BitVec 64) (k : Nat) : Nat := bitsOf w.toNat (32 * k) 32
  if i = 0 then
    t.test.toNat + bit t.run.isSome * 2 ^ 3 + t.slot.toNat * 2 ^ 4 + t.lsel.toNat * 2 ^ 9 +
      (if h = 2 then 0 else t.verdict.toNat) * 2 ^ 16
  else if i = 1 then t.evacCount.toNat + bit t.evac.isSome * 2 ^ 15 + t.evacBank.toNat * 2 ^ 16
  else if i = 2 ∨ i = 3 then (if h = 2 then 0 else half t.sig (i - 2))
  else if i = 4 ∨ i = 5 then (if h = 2 then 0 else half t.exp (i - 4))
  else if i = 6 then (if h = 0 then bitsOf t.laneFail.toNat 0 32 else 0)
  else if i = 7 then (if h = 0 then bitsOf t.laneFail.toNat 32 4 else 0)
  else if 8 ≤ i ∧ i < 16 then
    (if h = 0 then bitsOf (t.laneSig.get 0 (8 * t.lsel.toNat + (i - 8))).toNat 0 32 else 0)
  else if 16 ≤ i ∧ i < 33 then (s.slot (17 * c + (i - 16))).word (decide (h = 2))
  else if 33 ≤ i ∧ i < 49 then
    let b := s.lbank (16 * c + (i - 33))
    b.slot + bit b.out * 2 ^ 8
  else 0

/-! ### SCRUB_SET -/

/-- SCRUB_SET for one bank: the lap of a bank that it enables is partial (R334, R336). -/
def State.scrubSet (s : State) (en : Bool) (interval : BitVec 24) (g : Nat) : State :=
  s.onBank g fun b =>
    { b with scrubEn := en, interval := interval, lapPartial := b.lapPartial || (en && !b.scrubEn) }

/-- SCRUB_SET (R334). -/
def bodyScrubSet : Body :=
  { code := 0x700, units := 1, path := fun c s => .half (clusterField c s), sys := true
    check := fun c s =>
      c.params [byteField 0 1, byteField 2 2, (32, 1), byteField 8 4]
        [(0, c.par 0 1 != 0xFF && !s.hasCluster (c.par 0 1)), (2, c.par 2 2 == 0),
         (8, c.par 8 4 == 0 || decide (2 ^ 24 ≤ c.par 8 4))]
    touches := fun c s => (clusterField c s).filter s.hasCluster
    act := fun _ c s =>
      let gs := (clusterField c s).flatMap fun k =>
        ((List.range 16).filter (fun b => bitOf (c.par 2 2) b)).map (fun b => 16 * k + b)
      Act.ok (gs.foldl (fun s g => s.scrubSet (c.flag 4 0) (BitVec.ofNat 24 (c.par 8 4)) g) s) }

/-! ### Patches (R328 to R330, R341) -/

/-- Two entries name some lane in common. -/
def lanesMeet (a b : Nat) : Bool := a == 63 || b == 63 || a == b

/-- A patch entry as PATCH_SET and firmware make it. -/
def patchEntry (row lane spare : Nat) : BitVec 32 :=
  BitVec.ofNat 32 (row + lane * 2 ^ 16 + spare * 2 ^ 24 + 2 ^ 31)

/-- The valid entries of a slot other than `i`. -/
def Slot.others (l : Slot) (i : Nat) : List (BitVec 32) :=
  (l.patches.filter (fun e => e.1 != i && patchValid e.2)).map Prod.snd

/-- Fields that offend in PATCH_SET (R329): only the first case asks for VALID, so the others refuse a removal too. -/
def State.patchBad (s : State) (c : Cmd) : List (Nat × Bool) :=
  let l := s.slotIn (c.par 0 1)
  let row := c.par 2 2
  let lane := c.par 4 1
  let spare := c.par 5 1
  let on := c.flag 6 0
  [bankAbsent c s, (1, decide (32 ≤ c.par 1 1) || (on && patchValid (l.patches.get 0 (c.par 1 1)))),
   (2, decide (16384 ≤ row) ||
      (l.others (c.par 1 1)).any (fun e => patchRow e == row && lanesMeet (patchLane e) lane)),
   (4, !(decide (lane < 36) || lane == 63)),
   (5, decide (64 ≤ spare) || bitOf l.spareBad.toNat spare ||
      (l.others (c.par 1 1)).any (fun e => patchSpare e == spare && lanesMeet (patchLane e) lane))]

/-- The place of an array row in the spare of a running evacuation that has copied it (R350). -/
def State.mirrorArray (s : State) (bank row : Nat) : Option (Nat × (Nat → Nat)) :=
  match (s.ctest (bank / 16)).evac with
  | some e =>
    let spare := 17 * (bank / 16) + e.spare
    if e.bank = bank % 16 ∧ (s.bufUsed bank).length + row < e.copied then some (spare, arrayRow (s.slot spare) row) else none
  | none => none

/-- Write one granule of an array row, past any staging, and of the spare behind the copy pointer (R330, R350). -/
def State.putArray (s : State) (bank row g : Nat) (w : List Nat) : State :=
  let k := s.slotOf bank
  let m := s.mirrorArray bank row
  let s := s.putWord k (arrayRow (s.slot k) row) g w
  match m with
  | some (k', prow) => s.putWord k' prow g w
  | none => s

/-- Copy a row from one mapping of its slot to another (R330): `f` changes the mapping. The copy takes a read slot and a
write slot, and is written to the spare too behind the copy pointer of an evacuation (R27, R350). -/
def State.remap (s : State) (g row : Nat) (f : Slot → Slot) : State :=
  let k := s.slotOf g
  let ds := (List.range 4).map (s.fetchArray g row)
  let s := (ds.zipIdx).foldl (fun s d => s.noted g row d.2 false d.1) s
  let s := (s.chargeArray (g / 16) (if (s.mirrorArray g row).isSome then 3 else 2)).takeSlots g true true
  let s := s.onSlot k f
  (ds.zipIdx).foldl (fun s d =>
    let w := storedWord g row d.2 (if d.1.marked then 0 else d.1.data) d.1.marked
    (s.putArray g row d.2 w).cancelWriteBack g row d.2) s

/-- Install an entry of the slot that holds a bank (R330). -/
def State.installPatch (s : State) (g i : Nat) (e : BitVec 32) : State :=
  s.remap g (patchRow e) fun l => { l with patches := l.patches.set i e }

/-- Remove an entry of the slot that holds a bank (R330). -/
def State.removePatch (s : State) (g i : Nat) : State :=
  let e := (s.slotIn g).patches.get 0 i
  if patchValid e then s.remap g (patchRow e) fun l => { l with patches := l.patches.erase i } else s

/-- The row that a PATCH_SET copies is held by no piece (R28, R330). -/
def State.patchRowFree (s : State) (c : Cmd) : Bool :=
  let e := (s.slotIn (c.par 0 1)).patches.get 0 (c.par 1 1)
  s.rowFree (c.par 0 1) (if c.flag 6 0 then c.par 2 2 else patchRow e) true

/-- PATCH_SET (R329, R330). -/
def bodyPatchSet : Body :=
  { code := 0x701, units := 1, path := onBankHalf, sys := true
    life := fun c s =>
      !(!c.flag 6 0 && patchFactory ((s.slotIn (c.par 0 1)).patches.get 0 (c.par 1 1)) &&
        (s.safety.lifecycle == 2 || s.safety.lifecycle == 4))
    check := fun c s =>
      firstRefusal [c.params [byteField 0 6, (48, 1)] (s.patchBad c), busyIf (s.bankBusy (c.par 0 1))]
    touches := bankTouches
    waits := fun c s => if s.patchRowFree c then none else some .object
    act := fun _ c s =>
      Act.ok (if c.flag 6 0 then
          s.installPatch (c.par 0 1) (c.par 1 1) (patchEntry (c.par 2 2) (c.par 4 1) (c.par 5 1))
        else s.removePatch (c.par 0 1) (c.par 1 1)) }

/-- PATCH_QUERY (R341). -/
def bodyPatchQuery : Body :=
  { code := 0x702, units := 1, path := onBankHalf, q := true
    memory := fun c => c.flag 1 0
    check := fun c s =>
      firstRefusal
        [c.params queryFields [bankAbsent c s, (1, noBuffer c (c.flag 1 0))],
         replyRange c s (c.flag 1 0) (c.par 8 5) 160]
    touches := fun c s => (bankTouches c s ++ replyTouches s (c.flag 1 0) (c.par 8 5) 160).eraseDups
    spans := fun c _ => replySpans (c.flag 1 0) (c.par 8 5) 160
    act := fun _ c s =>
      let ws := (List.range 32).map (fun i => s.bankWord (c.par 0 1) (64 + i)) ++
        [s.bankWord (c.par 0 1) 6, s.bankWord (c.par 0 1) 7] ++ List.replicate 6 0
      Act.ok (s.reply c (c.flag 1 0) (c.par 8 5) (ws.flatMap (toBytes 4))) }

/-! ### Lanes (R320 to R322) -/

/-- One more lane of a bank is retired; the second asks for evacuation (R320, R321). -/
def State.retireLane (s : State) (g lane : Nat) : State :=
  let b := s.bank g
  match b.ret0 with
  | none => (s.onBank g fun b => { b with ret0 := some lane }).integEvent 5 g
  | some _ =>
    ((s.onBank g fun b => { b with ret1 := some lane, evacReq := true }).integEvent 5 g).integEvent 6 g

/-- A retired lane returns to service (R322). -/
def State.returnLane (s : State) (g lane : Nat) : State :=
  s.onBank g fun b =>
    if b.ret0 = some lane then { b with ret0 := b.ret1, ret1 := none }
    else if b.ret1 = some lane then { b with ret1 := none }
    else b

/-- LANE_RETIRE (R320 to R322). -/
def bodyLaneRetire : Body :=
  { code := 0x703, units := 1, path := onBankHalf, sys := true
    life := fun c s => !(c.flag 2 0 && (s.safety.lifecycle == 2 || s.safety.lifecycle == 4))
    check := fun c s =>
      let g := c.par 0 1
      let retired := s.retired g
      firstRefusal
        [c.params [byteField 0 2, (16, 1)] [bankAbsent c s, (1, decide (36 ≤ c.par 1 1))],
         busyIf (s.bankBusy g),
         refuseIf (!c.flag 2 0 && !retired.contains (c.par 1 1) && decide (2 ≤ retired.length))
          { status := .overcommit }]
    touches := bankTouches
    act := fun _ c s =>
      let g := c.par 0 1
      Act.ok (if c.flag 2 0 then s.returnLane g (c.par 1 1)
        else if (s.retired g).contains (c.par 1 1) then s else s.retireLane g (c.par 1 1)) }

/-! ### INTEG_QUERY, FLIP_ARM, FLIP_MASK_SET -/

/-- CLEAR of INTEG_QUERY zeroes every counter of a bank. -/
def BankInteg.cleared (b : BankInteg) : BankInteg :=
  { b with ce := 0, ue := 0, address := 0, mergeSpoil := 0, spoiled := 0, laneCe := [], laps := 0, fixed := 0
           dropped := 0 }

/-- INTEG_QUERY (R341, R342). -/
def bodyIntegQuery : Body :=
  { code := 0x704, units := 1, path := onBankHalf, q := true
    memory := fun _ => true
    check := fun c s =>
      firstRefusal
        [c.params queryFields
          [bankAbsent c s, (8, c.par 8 5 % 32 != 0 || decide (2 ^ 28 ≤ c.par 8 5))],
         replyRange c s true (c.par 8 5) 256]
    touches := fun c s => (bankTouches c s ++ s.clustersOf (c.par 8 5) 256).eraseDups
    spans := fun c _ => [(c.par 8 5, 256, true)]
    act := fun _ c s =>
      let g := c.par 0 1
      let s := s.initWrite (c.par 8 5) ((s.integRecord g).flatMap (toBytes 4))
      Act.ok (if c.flag 1 0 then s.onBank g BankInteg.cleared else s) }

/-- The flip mask of a cluster is armed, or disarmed by zeros (R340). -/
def State.armFlip (s : State) (c : Nat) (m : BitVec 288) : State :=
  s.onCtest c fun t => { t with flipMask := m, flipHit := if m = 0 then t.flipHit else false }

/-- FLIP_ARM (R340). -/
def bodyFlipArm : Body :=
  { code := 0x713, units := 3, path := onClusterHalf, sys := true
    life := fun _ s => s.safety.lifecycle != 2 && s.safety.lifecycle != 4
    check := fun c s => c.params [byteField 0 1, byteField 4 36] [clusterAbsent c s]
    touches := clusterTouches
    act := fun _ c s => Act.ok (s.armFlip (c.par 0 1) (BitVec.ofNat 288 (c.par 4 36))) }

/-- FLIP_MASK_SET (R340). -/
def bodyFlipMaskSet : Body :=
  { code := 0xA03, units := 3, path := onSafety, q := true
    life := fun _ s => s.safety.lifecycle != 4
    check := fun c s => c.params [byteField 0 1, byteField 4 36] [clusterAbsent c s]
    touches := clusterTouches
    act := fun _ c s => Act.ok (s.armFlip (c.par 0 1) (BitVec.ofNat 288 (c.par 4 36))) }

/-! ### Evacuation and takeover (R349 to R352) -/

/-- DRV_EVACUATE (R349). -/
def bodyDrvEvacuate : Body :=
  { code := 0x503, units := 1, path := onHolder, sys := true
    check := fun c s =>
      let g := 16 * c.par 0 1 + c.par 1 1
      firstRefusal
        [c.params [byteField 0 2]
          [clusterAbsent c s, (1, decide (16 ≤ c.par 1 1) || (s.lbank g).out)],
         busyIf (s.clusterBusy (c.par 0 1) || s.bankBusy g),
         refuseIf (s.spareOf (c.par 0 1)).isNone { status := .overcommit }]
    touches := clusterTouches
    waits := queueWaits
    holds := fun c _ => [.bank (c.par 0 1) (c.par 1 1), .cluster (c.par 0 1)]
    job := fun _ s => s.cmd.jobNext.toNat
    act := fun token c s =>
      .running (s.queueJob
        { id := 0, kind := .evacuate, who := some (token, c), ctx := c.ctx, cluster := c.par 0 1
          bank := c.par 1 1 }) }

/-- The test of a slot that comes first (R353): LOGIC before the others. -/
def firstTest (t : Nat) : Nat × Option Nat := if t = 0 ∨ t = 4 then (t, none) else (0, some t)

/-- A slot enters TESTING (R353, R356). -/
def State.startTest (s : State) (c slot test : Nat) (next : Option Nat) (who : Option (Nat × Cmd)) : State :=
  (s.onSlot (17 * c + slot) fun l => { l with state := .testing }).onCtest c fun t =>
    { t with run := some { slot := slot, test := test, next := next, who := who, began := s.bck }, test := BitVec.ofNat 3 test
             slot := BitVec.ofNat 5 slot }

/-- A ledger entry of a repair action, takeover, penning or rotation step (Table 14-2). -/
def State.logSlot (s : State) (code c slot : Nat) : State := s.log { code := code, cluster := c, bank := slot }

/-- The lanes of a bank after a takeover into a slot (R351). -/
def State.takeoverLanes (s : State) (g slot : Nat) : State :=
  let l := s.slot (17 * (g / 16) + slot)
  if !l.tested then s
  else
    let had := s.retired g
    let keep := if l.failV then [l.failLane] else []
    let s := (had.filter (fun x => !keep.contains x)).foldl
      (fun s _ => s.logSlot 0x63 (g / 16) slot) s
    let s := s.onBank g fun b => { b with ret0 := keep.head?, ret1 := none }
    if l.failV ∧ ¬ had.contains l.failLane then
      (s.integEvent 5 g).logSlot 0x63 (g / 16) slot
    else s

/-- The bank is no longer held by the command that penned it: its evacuation is over. -/
def State.freeBank (s : State) (g : Nat) : State :=
  s.onCmd fun k =>
    { k with deferred := k.deferred.map fun d =>
        { d with holds := d.holds.filter (fun h => decide (h ≠ .bank (g / 16) (g % 16))) } }

/-- The reads granted before a takeover complete from the old slot: their rows are read from it (R351). -/
def State.openReads (s : State) (g : Nat) : State :=
  (s.bankq g).reads.foldl (fun s x =>
    let (row, bad, s) := s.openRow x
    s.onBankq g fun q =>
      { q with reads := q.reads.map (fun y => if y = x then { x with opened := some (row, bad) } else y) }) s

/-- The logical bank moves to the spare; its source slot is penned (R351). -/
def State.moveBank (s : State) (g spare : Nat) : State :=
  let c := g / 16
  let old := (s.lbank g).slot
  let rows := s.bufUsed g
  let s := s.openReads g
  let s := s.onEng fun e => { e with abuf := (e.abuf.erase (17 * c + old)).set (17 * c + spare) rows }
  let s := s.onLbank g fun b => { b with slot := spare }
  let s := s.onSlot (17 * c + spare) fun l => { l with state := .inService, logical := g % 16 }
  let s := s.onSlot (17 * c + old) fun l =>
    { l with state := .penned, rotations := satAdd 0xFFFF l.rotations 1 }
  let s := s.takeoverLanes g spare
  let s := if (s.retired g).length < 2 then s.onBank g fun b => { b with evacReq := false } else s
  ((s.onCtest c fun t => { t with evac := none }).bistEvent 3 c spare).logSlot 0x65 c spare

/-- TAKEOVER: the copy is complete, and the write buffer has drained in an earlier BCK (R351). -/
def State.takeover (s : State) (c : Nat) : State :=
  match (s.ctest c).evac, s.cmd.bankJob with
  | some e, some j =>
    let g := 16 * c + e.bank
    let old := (s.lbank g).slot
    if j.kind = .evacuate ∧ j.cluster = c ∧ s.closing g ∧ (s.bankq g).wbuf = [] ∧
        (s.bankq g).writeBck ≤ s.bck ∧ s.ready ∧ ¬ s.safety.hold then
      let s := ((s.moveBank g e.spare).dropJob j.id).freeBank g
      match j.test, j.who with
      | some t, who => s.startTest c old (firstTest t).1 (firstTest t).2 who
      | none, some (token, cmd) => s.finish token cmd { status := .ok }
      | none, none => s
    else s
  | _, _ => s

/-! ### Out of service (R358) -/

/-- A logical bank goes out of service (R88, R358). -/
def State.bankOut (s : State) (g : Nat) : State :=
  let slot := (s.lbank g).slot
  let s := s.onSlot (s.slotOf g) fun l => { l with state := .retired }
  let s := s.onLbank g fun b =>
    { b with out := true, lastEmpty := s.scrubEmpty g, lastUsed := (s.bufUsed g).length }
  let s := { s with addr := { s.addr with
    regions := s.addr.regions.map fun (e : Nat × Region) =>
      (e.1, if e.2.touches g then { e.2 with degraded := true } else e.2) } }
  ((s.bistEvent 1 (g / 16) slot).bistEvent 2 (g / 16) slot).logSlot 0x65 (g / 16) slot

/-! ### Memory BIST (R353 to R357, R361) -/

/-- RESULT of BIST_RUN and PEN_BANK (R361). -/
def bistResult (verdict slot : Nat) (lane : Option Nat) : Result :=
  { status := .ok
    result := verdict + slot * 2 ^ 4 + (match lane with | some l => l * 2 ^ 16 + 2 ^ 22 | none => 0) }

/-- The slot may be tested: SPARE or PENNED. -/
def State.testable (s : State) (k : Nat) : Bool :=
  decide ((s.slot k).state = .spare ∨ (s.slot k).state = .penned)

/-- BIST_RUN (R356). -/
def bodyBistRun : Body :=
  { code := 0x710, units := 1, path := onClusterHalf, sys := true
    life := fun _ s => s.safety.lifecycle != 4
    check := fun c s =>
      firstRefusal
        [c.params [byteField 0 3]
          [clusterAbsent c s, (1, decide (17 ≤ c.par 1 1) || !s.testable (17 * c.par 0 1 + c.par 1 1)),
           (2, decide (4 < c.par 2 1))],
         busyIf (s.clusterBusy (c.par 0 1))]
    touches := clusterTouches
    holds := fun c _ => [.slot (c.par 0 1) (c.par 1 1), .cluster (c.par 0 1)]
    act := fun token c s =>
      .running (s.startTest (c.par 0 1) (c.par 1 1) (c.par 2 1) none (some (token, c))) }

/-- BIST_QUERY (R361). -/
def bodyBistQuery : Body :=
  { code := 0x711, units := 1, path := onClusterHalf, q := true
    life := fun _ s => s.safety.lifecycle != 4
    memory := fun c => c.flag 1 0
    check := fun c s =>
      firstRefusal
        [c.params queryFields [clusterAbsent c s, (1, noBuffer c (c.flag 1 0))],
         replyRange c s (c.flag 1 0) (c.par 8 5) 224]
    touches := fun c s => (clusterTouches c s ++ replyTouches s (c.flag 1 0) (c.par 8 5) 224).eraseDups
    spans := fun c _ => replySpans (c.flag 1 0) (c.par 8 5) 224
    act := fun _ c s =>
      Act.ok (s.reply c (c.flag 1 0) (c.par 8 5)
        ((List.range 56).flatMap fun i => toBytes 4 (s.bistWord (c.par 0 1) i))) }

/-- The slot of a cluster in PENNED. -/
def State.pennedOf (s : State) (c : Nat) : Option Nat :=
  (List.range 17).find? (fun k => decide ((s.slot (17 * c + k)).state = .penned))

/-- PEN_BANK names the penned slot. -/
def penAgain (c : Cmd) : Bool := c.par 1 1 == 0x1F

/-- PEN_BANK (R353, R356, R358). -/
def bodyPenBank : Body :=
  { code := 0x712, units := 1, path := onClusterHalf, sys := true
    life := fun _ s => s.safety.lifecycle != 4
    check := fun c s =>
      let k := c.par 0 1
      let g := 16 * k + c.par 1 1
      firstRefusal
        [c.params [byteField 0 3, (24, 1)]
          [clusterAbsent c s,
           (1, if penAgain c then (s.pennedOf k).isNone else decide (16 ≤ c.par 1 1) || (s.lbank g).out),
           (2, decide (4 < c.par 2 1))],
         busyIf (s.clusterBusy k || (!penAgain c && s.bankBusy g)),
         refuseIf (!penAgain c && (s.spareOf k).isNone && !c.flag 3 0) { status := .overcommit }]
    touches := clusterTouches
    waits := fun c s => if !penAgain c && (s.spareOf (c.par 0 1)).isSome then queueWaits c s else none
    holds := fun c s =>
      .cluster (c.par 0 1) ::
        (if penAgain c then ((s.pennedOf (c.par 0 1)).map (fun k => Held.slot (c.par 0 1) k)).toList
          else [.bank (c.par 0 1) (c.par 1 1)])
    job := fun c s =>
      if !penAgain c && (s.spareOf (c.par 0 1)).isSome then s.cmd.jobNext.toNat else 0
    act := fun token c s =>
      let k := c.par 0 1
      let g := 16 * k + c.par 1 1
      if penAgain c then
        match s.pennedOf k with
        | some slot =>
          .running (s.startTest k slot (firstTest (c.par 2 1)).1 (firstTest (c.par 2 1)).2 (some (token, c)))
        | none => Act.ok s
      else if (s.spareOf k).isSome then
        .running (s.queueJob
          { id := 0, kind := .evacuate, who := some (token, c), ctx := c.ctx, cluster := k, bank := c.par 1 1
            test := some (c.par 2 1) })
      else .done (bistResult 3 (s.lbank g).slot none) (s.bankOut g) }

/-- A test is over without a verdict: its slot is PENNED, untested (R356); DONE says that a test ended (R362). -/
def State.cutTest (s : State) (c : Nat) (st : Status) : State :=
  match (s.ctest c).run with
  | some r =>
    let s := ((s.onCtest c fun t => { t with run := none }).onSlot (17 * c + r.slot) fun l =>
      { l with state := .penned, tested := false }).bistEvent 0 c r.slot
    match r.who with
    | some (token, cmd) => s.finish token cmd { status := st }
    | none => s
  | none => s

/-- LOGIC has passed. -/
def BistFound.logicOk (f : BistFound) : Bool := f.logicDiff == 0

/-- The lanes whose signature differs from the ROM's (R354). -/
def BistFound.lanes (f : BistFound) : BitVec 36 :=
  BitVec.ofNat 36 (((List.range 36).map (fun i => bit (f.laneDiff.get 0 i != 0) * 2 ^ i)).sum)

/-- The signature of a lane. -/
def BistFound.laneSig (f : BistFound) (test lane : Nat) : BitVec 64 := Config.bistLane test lane ^^^ f.laneDiff.get 0 lane

/-- A combined signature: the XOR of the 36 signatures of lanes (R354). -/
def combined (sig : Nat → BitVec 64) : BitVec 64 := (List.range 36).foldl (fun w i => w ^^^ sig i) 0

/-- The verdict of a test (Table 12-5). -/
def verdictOf (test : Nat) (f : BistFound) (spareBad : BitVec 64) : Nat :=
  let lanes := if test = 0 then 0 else ones 36 f.lanes.toNat
  let spares := if test = 0 then 0 else ones 64 f.spares.toNat
  if (test = 0 ∨ test = 4) ∧ ¬ f.logicOk then 3
  else if 2 ≤ lanes ∨ 32 < spares then 3
  else if lanes = 1 then 1
  else if test ≠ 0 ∧ f.spares &&& ~~~spareBad ≠ 0 then 2
  else 0

/-- The lane that failed alone. -/
def failedLane (f : BistFound) : Nat := ((List.range 36).find? (fun i => bitOf f.lanes.toNat i)).getD 0

/-- What an address of memory belongs to: a row of a slot below its buffer rows. -/
def inSlotRows (k a : Nat) : Bool :=
  decide (cellAddr k 0 0 0 ≤ a) && decide (a < cellAddr k 16448 0 0)

/-- A slot is filled with zero data under valid check bytes, with the tags of the bank it last held
(R355). -/
def State.zeroSlot (s : State) (k g : Nat) : State :=
  let s := { s with mem := s.mem.filter (fun c => !inSlotRows k c.1) }
  s.onSlot k fun l => { l with zeroFor := some g }

/-- What a test leaves in the registers of its cluster (R354). -/
def State.noteTest (s : State) (c : Nat) (r : TestRun) (f : BistFound) : State :=
  (s.onCtest c fun t =>
    { t with sig := if r.test = 0 then Config.bistLogic ^^^ f.logicDiff else combined (f.laneSig r.test)
             exp := if r.test = 0 then Config.bistLogic else combined (Config.bistLane r.test)
             laneFail := if r.test = 0 then 0 else f.lanes
             laneSig := if r.test = 0 then [] else (List.range 36).map (fun i => (i, f.laneSig r.test i)) }).onSlot (17 * c + r.slot) fun l =>
    { l with spareBad := if r.test = 0 then l.spareBad else l.spareBad ||| f.spares }

/-- The verdict takes effect (R355). -/
def State.endTest (s : State) (c : Nat) (r : TestRun) (f : BistFound) : State :=
  let k := 17 * c + r.slot
  let v := verdictOf r.test f (s.slot k).spareBad
  let g := 16 * c + (s.slot k).logical
  let lane := if v = 1 then some (failedLane f) else none
  let s := s.noteTest c r f
  let s := s.onCtest c fun t => { t with run := none, verdict := BitVec.ofNat 4 v }
  let s :=
    if v = 3 then
      (((s.onSlot k fun l => { l with state := .retired, tested := true }).bistEvent 0 c r.slot).bistEvent 1 c r.slot).logSlot
        0x65 c r.slot
    else
      ((s.zeroSlot k g).onSlot k fun l =>
        { l with state := .spare, tested := true, failV := lane.isSome, failLane := lane.getD 0 }).bistEvent 0 c
        r.slot
  match r.who with
  | some (token, cmd) => s.finish token cmd (bistResult v r.slot lane)
  | none => s

/-- BIST_TEST_END: a test ends; after a sound LOGIC the named test follows (R353, R355). -/
def State.bistEnd (s : State) (c : Nat) (f : BistFound) : State :=
  match (s.ctest c).run with
  | none => s
  | some r =>
    if s.safety.hold then s.cutTest c .safeHold
    else
      match r.next with
      | some t =>
        if f.logicOk then
          (s.noteTest c r f).onCtest c fun k =>
            { k with run := some { r with test := t, next := none, began := s.bck }, test := BitVec.ofNat 3 t }
        else s.endTest c r f
      | none => s.endTest c r f

/-! ### The scrubber (R333 to R337) -/

/-- The first row at or after `p` that is scrubbed, past rows that are staged. -/
def State.scrubNext (s : State) (g : Nat) : Nat → Nat → Option Nat
  | 0, _ => none
  | fuel + 1, p =>
    let starts := (s.addr.regions.filterMap fun e =>
      match scrubRows s.cfg (some e.2) g with
      | some (lo, n) => if p < lo + n then some (max p lo) else none
      | none => none)
    match starts.min? with
    | none => none
    | some r =>
      if (s.bufUsed g).any (fun b => b.row == r && b.live) then s.scrubNext g fuel (r + 1) else some r

/-- Nanoseconds of the time base that a cluster has spent outside STOP. -/
def State.runNs (s : State) (c : Nat) : Nat :=
  let p := s.cpower c
  s.ns - p.stopNs - (if p.mode = .stop then s.ns - p.stopNsAt else 0)

/-- Firmware's counts at the end of a lap: a partial lap counts for no place (R332, R336). -/
def BankInteg.lapTally (b : BankInteg) : BankInteg :=
  { b with streak := if b.lapPartial then b.streak else b.lapSeen.map (fun k => (k, b.streak.get 0 k + 1))
           laneLast := b.laneLap, lapSeen := [], laneLap := [] }

/-- The pointer passes row 16,383: a lap ends (R336). -/
def State.lapEnd (s : State) (g : Nat) : State :=
  let x := s.runXck (g / 16)
  let n := s.runNs (g / 16)
  s.onBank g fun b =>
    { b.lapTally with
      scrubRow := 0, laps := b.laps + 1, lapBck := min 0xFFFFFFFF ((x - b.lapXck0) / 2),
      lapNs := min 0xFFFFFFFF (n - b.lapNs0), lastPartial := b.lapPartial, lapPartial := false,
      lapXck0 := x, lapNs0 := n }

/-- One granule of a scrub read; a correction waits to be written back (R335). -/
def State.scrubGranule (s : State) (g row i : Nat) : State :=
  let d := s.fetchArray g row i
  let s := s.noted g row i true d
  if d.outcome = .corrected then
    s.onBank g fun b =>
      { b with pending := b.pending ++ [{ row := row, granule := i, data := d.data, deadline := s.bckOf (g / 16) + 64 }] }
  else s

/-- The scrubber reads a row and moves its pointer. -/
def State.scrubRead' (s : State) (g row : Nat) : State :=
  let s := s.chargeArray (g / 16) 1
  let s := [0, 1, 2, 3].foldl (fun s i => s.scrubGranule g row i) s
  let s := s.onBankq g fun q => { q with readBck := s.bck + 1 }
  let s := s.onBank g fun b =>
    { b with nextScrub := s.bckOf (g / 16) + b.interval.toNat, scrubRow := BitVec.ofNat 14 (row + 1) }
  if row + 1 < 16384 ∧ (s.scrubNext g 300 (row + 1)).isSome then s else s.lapEnd g

/-- The read slot of a bank is left to the scrubber (R139, R333, R334). -/
def State.scrubFree (s : State) (g : Nat) : Bool :=
  let b := s.bank g
  s.ready && s.cfg.hasBank g && s.inRun (g / 16) && !(s.lbank g).out && b.scrubEn &&
    decide (b.nextScrub ≤ s.bckOf (g / 16)) && s.readOpen g && decide ((s.bankq g).wanted = 0)

/-- A scrub read of a row that no read-modify-write holds (R28). -/
def State.scrubAt (s : State) (g row : Nat) : State := if (s.bankq g).holdsRow row then s else s.scrubRead' g row

/-- SCRUB_READ (R333, R334). -/
def State.scrubRead (s : State) (c b : Nat) : State :=
  let g := 16 * c + b
  if b < 16 ∧ s.scrubFree g then
    match s.scrubNext g 300 (s.bank g).scrubRow.toNat with
    | some row => s.scrubAt g row
    | none =>
      match s.scrubNext g 300 0 with
      | some row => (s.lapEnd g).scrubAt g row
      | none => s
  else s

/-- The head of a write buffer can use the write slot of this BCK, be it in its last XCK (R27, R30). -/
def State.writeComes (s : State) (g : Nat) : Bool :=
  (s.bankq g).mayWrite (2 * s.bck + 1) s.bck &&
    match (s.bankq g).wbuf with | e :: _ => s.linesReady e.piece | [] => false

/-- The write slot of the BCK is left to the scrubber: the write buffer does not use it, in either phase of the BCK
(R27, R30, R335). -/
def State.writeFree (s : State) (g row : Nat) : Bool :=
  decide (g % 2 ≤ s.clock.xck % 2) && decide ((s.bankq g).writeBck ≤ s.bck) && !s.writeComes g &&
    !(s.bankq g).holdsRow row

/-- One corrected granule goes back to its row. -/
def State.putBack (s : State) (g : Nat) (w : WriteBack) : State :=
  (s.storeGranule g w.row w.granule w.data false).onBank g fun k => { k with fixed := satAdd 0xFFFF k.fixed 1 }

/-- SCRUB_WRITE_BACK: the corrections of the row of the oldest are written in one free write slot. The oldest is dropped
past 64 BCK of its cluster, in Safe Hold, or with its row staged since (R335, R363, R407). -/
def State.scrubWriteBack (s : State) (c b : Nat) : State :=
  let g := 16 * c + b
  match (s.bank g).pending with
  | [] => s
  | w :: rest =>
    if (s.lbank g).out then s
    else if w.deadline < s.bckOf c ∨ s.safety.hold ∨ (s.stagedAt (s.slotOf g) w.row).isSome then
      s.onBank g fun k => { k with pending := rest, dropped := satAdd 0xFFFF k.dropped 1 }
    else if s.ready ∧ s.inRun c ∧ s.writeFree g w.row then
      let ws := (s.bank g).pending.filter (fun v => v.row == w.row)
      let s := s.onBankq g fun q => { q with writeBck := s.bck + 1 }
      let s := if (s.mirror g w.row).isSome then s.chargeArray c 1 else s
      ws.foldl (fun s v => s.putBack g v)
        (s.onBank g fun k => { k with pending := k.pending.filter (fun v => v.row != w.row) })
    else s

/-- CLOG_POP: the oldest entry of the correction log goes (R331). -/
def State.clogPop (s : State) (c : Nat) : State := s.onCtest c fun t => { t with clog := t.clog.tail }

end Sys2Proof.Machine
end

