-- ==== Sys2Proof/Machine/Governor.lean ====
section
/-!
DEFINITION. The governor's windows, the temperature sensors, shedding and restoring, budget hints, the
bellwether lines (R158, R163, R172 to R179).
-/

namespace Sys2Proof.Machine

/-! ### Sensors (R173) -/

/-- A temperature sensor: 0 to 7 by cluster, 8 the central one. -/
def State.sensor (s : State) (k : Nat) : Sensor := s.gov.sensors.get {} k

/-- The sensors of the configuration. -/
def State.sensorsOf (s : State) : List Nat := List.range s.cfg.clusters ++ [8]

/-- The highest reading of the sensors in service. -/
def State.hottest (s : State) : Nat :=
  (s.sensorsOf.map (fun k => if (s.sensor k).valid then (s.sensor k).deg else 0)).foldl max 0

/-- What a sensor reads: a failed cluster sensor as the highest valid reading and 10 °C, a failed central
one as T_HI (R173). -/
def State.reading (s : State) (k : Nat) : Nat :=
  if (s.sensor k).failed then (if k = 8 then s.gov.tHi else s.hottest + 10)
  else if (s.sensor k).valid then (s.sensor k).deg
  else 0

/-- Tmax from the sensors as they read. -/
def State.tmaxNow (s : State) : Nat := (s.sensorsOf.map s.reading).foldl max 0

/-- Tmax has changed: THERM_HI and THERM_CRIT as it reaches them (R173). The manual does not say what a T_HI that is
lowered to a standing Tmax does: a flag is set by a reading alone. DESIGN CHOICE (log entry 64). -/
def State.setTmax (s : State) (t : Nat) : State :=
  let old := s.gov.tmax
  let s := s.onGov fun g => { g with tmax := t }
  let s := if s.gov.tHi ≤ t ∧ old < s.gov.tHi then s.govFlag 6 else s
  if tCrit ≤ t ∧ old < tCrit then (s.govFlag 7).report { code := 0x40 } else s

/-- Failed sensors show what replaces their readings, and SENSOR is set (R173). -/
def State.replaceFailed (s : State) : State :=
  let bad := s.sensorsOf.filter (fun k => (s.sensor k).failed)
  let s := if bad.isEmpty then s else s.govFlag 10
  bad.foldl (fun s k => s.onGov fun g => { g with sensors := g.sensors.set k { deg := s.reading k, failed := true } }) s

/-- The sensors are read every 16 windows (R173): never yet, or 16 windows after the last reading. -/
def State.sensorsDue (s : State) : Bool :=
  decide (s.gov.sensorWin = 0) || decide (s.gov.sensorWin + 16 ≤ s.gov.windows + 1)

/-- SENSOR_READ: the sensors in service take their readings, in whole °C; below 0 °C counts as 0 °C (R173). -/
def State.sensorRead (s : State) (rs : List (Nat × Int)) : State :=
  if !s.ready || !s.sensorsDue then s
  else
    let s := s.onGov fun g => { g with sensorWin := g.windows + 1 }
    let s := rs.foldl (fun s r =>
      if s.sensorsOf.contains r.1 ∧ ¬ (s.sensor r.1).failed then
        s.onGov fun g => { g with sensors := g.sensors.set r.1 { deg := r.2.toNat, valid := true } }
      else s) s
    s.replaceFailed.setTmax s.replaceFailed.tmaxNow

/-! ### Shedding (R176 to R178) -/

/-- The number of a step: its bit in GOV_STATE and GOV_IRQ_STATUS. -/
def ShedStep.code : ShedStep → Nat
  | .shares => 0 | .latency => 1 | .stalls => 2

/-- The next step to shed. -/
def Gov.nextShed (g : Gov) : Option ShedStep :=
  [ShedStep.shares, .latency, .stalls].find? (fun x => !g.sheds x)

/-- Shed a step (R177). -/
def State.shedOne (s : State) (x : ShedStep) : State :=
  ((s.onGov fun g => { g with shed := x :: g.shed, qual := 0 }).govFlag x.code).log
    { code := 0x60, detail := some (BitVec.ofNat 32 x.code) }

/-- Shed while TB < Q. -/
def State.shedMore (s : State) : Nat → State
  | 0 => s
  | n + 1 =>
    if s.gov.tb < s.gov.q then
      match s.gov.nextShed with
      | some x => (s.shedOne x).shedMore n
      | none => s
    else s

/-- The steps shed at the start of a window (R176); `over`: the previous window spent more than its
budget. -/
def State.shedStart (s : State) (over_ : Bool) : State :=
  if over_ then
    match s.gov.nextShed with
    | some x => (s.shedOne x).shedMore 3
    | none => s
  else s.shedMore 3

/-- The window that ends qualifies (R178). -/
def Gov.qualifies (g : Gov) : Bool :=
  match g.shed with
  | [] => false
  | _ :: rest => decide (({ g with shed := rest } : Gov).q ≤ g.tb) && decide (4 * g.spend ≤ 3 * g.tb)

/-- Count the window that ends, and restore the step shed last after 16 that qualify (R178). -/
def State.restoreStart (s : State) : State :=
  let n := if s.gov.qualifies then s.gov.qual + 1 else 0
  match s.gov.shed with
  | [] => s.onGov fun g => { g with qual := 0 }
  | x :: rest =>
    if 16 ≤ n then
      ((s.onGov fun g => { g with shed := rest, qual := 0 }).govFlag 3).log
        { code := 0x61, detail := some (BitVec.ofNat 32 x.code) }
    else s.onGov fun g => { g with qual := n }

/-! ### Budget hints (R179) -/

/-- H_c (R179). -/
def State.headroom (s : State) (c : Nat) : Nat :=
  if (s.cpower c).mode = .stop then 15
  else
    let t := s.reading c
    let d := if t ≤ s.gov.tHi then 256 else if tCrit ≤ t then 0 else 256 * (tCrit - t) / (tCrit - s.gov.tHi)
    let cb := s.gov.tb / s.cfg.clusters * d / 256
    if cb = 0 then 0
    else (max 0 (min 15 (16 * ((cb : Int) - (s.gov.clusterSpent.get 0 c : Int)) / (cb : Int)))).toNat

/-- BUDGET_HINT: absent clusters read 0. -/
def State.hints (s : State) : BitVec 32 :=
  BitVec.ofNat 32 (((List.range s.cfg.clusters).map (fun c => s.headroom c * 2 ^ (4 * c))).sum)

/-! ### Windows (R163, R172) -/

/-- What a window that ends leaves behind: the spends, and the byte counts at 0. -/
def State.closeWindow (s : State) : State :=
  let s := s.onXbar fun x =>
    { x with ports := x.ports.map fun e =>
        (e.1, { e.2 with spend := e.2.tollSpent, tollSpent := 0, bytes := 0, budget := e.2.budgetNext }) }
  s.onGov fun g =>
    { g with spent := g.spend, spend := 0, clusterSpent := g.clusterSpend, clusterSpend := [] }

/-- A job has waited one window more (R175). -/
def State.ageJobs (s : State) : State :=
  s.onCmd fun c => { c with jobs := c.jobs.map (fun j => { j with waited := j.waited + 1 }) }

/-- The first decision of a window already goes by its level, its demotions and the steps shed (R163, R174, R177). -/
def State.seeWindow (s : State) : State :=
  s.touchPorts.onXbar fun x => { x with ports := x.ports.map fun e =>
    (e.1, { e.2 with seen :=
      { e.2.seen with
        boostRd := if s.gov.sheds .latency then 0 else e.2.seen.boostRd
        boostWr := if s.gov.sheds .latency then 0 else e.2.seen.boostWr
        floor := s.atFloor e.1, free := decide (s.gov.level ≠ .idle) || s.idleExempt e.1 } }) }

/-- A window starts: the first of all, 1600 or 1200 XCK after the last one, or after a restart of the derived clocks
(R163). -/
def State.windowReady (s : State) : Bool :=
  s.ready && (decide (s.gov.windows = 0) || s.gov.windowDue || decide (s.gov.windowAt + s.windowXck ≤ s.clock.xck))

/-- GOV_WINDOW_START (R172, R175 to R179). -/
def State.windowStart (s : State) : State :=
  if !s.windowReady then s
  else
    let first := s.gov.windows = 0
    let over_ := !first && decide (s.gov.tb < s.gov.spend)
    let s := if first then s else s.restoreStart
    let s := s.closeWindow
    let l := s.gov.limits
    let s := s.onGov fun g =>
      { g with limit := l.1, tHi := l.2.1, guarTemp := l.2.2, limitNext := none, level := .normal
               windows := g.windows + 1, windowAt := s.clock.xck, windowDue := false }
    let s := s.onGov fun g => { g with tb := g.budgetFor s.power.eco g.limit g.tHi g.tmax }
    let s := s.reckon.shedStart over_
    let s := s.ageJobs
    (s.onGov fun g => { g with hint := s.hints }).climb.seeWindow

/-! ### Bellwether lines (R158, R159) -/

/-- The level that a bellwether line gives in Gray code: 0b00 CALM, 0b01 LOW, 0b11 HIGH, 0b10 CRITICAL (R158). -/
def bellLevel (lines : BitVec 2) : Nat :=
  if lines = 0b00 then 0 else if lines = 0b01 then 1 else if lines = 0b11 then 2 else 3

/-- BELL_LEVEL_CHANGE: a stream port presents another level; it is sampled on the port's DCK, so not while that clock
stands (R158). -/
def State.bellChange (s : State) (n : Nat) (lines : BitVec 2) : State :=
  let level := bellLevel lines
  if ¬ s.ready ∨ 8 ≤ n ∨ ¬ s.portPresent (48 + n) ∨ s.pins.clockStopped.get false (48 + n) then s
  else
    let b := s.bell n
    let enters := level = 3 ∧ b.level ≠ 3
    let b' := { b with level := level, critCount := if enters then b.critCount + 1 else b.critCount }
    let s := s.onGov fun g => { g with bells := g.bells.set n b' }
    if enters ∧ b.critIrq then s.govFlag 9 else s

end Sys2Proof.Machine
end

