-- ==== Sys2Proof/Machine/Time.lean ====
section
/-!
DEFINITION. The time base, TSYNC and the wake sources of the always-on domain: timers, WAKE_AIN, the
check of SCK (R379 to R386).
-/

namespace Sys2Proof.Machine

/-! ### The time base (R380, R381, R384) -/

/-- The increment of an ACK, in 2^-32 ns (R380). -/
def State.inc (s : State) : Nat := if s.power.eco then 26 * 2 ^ 32 + 0xAAAAAAAB else 20 * 2 ^ 32

/-- The time base advances, and the durations of R384 with it. -/
def State.addTime (s : State) (d : Int) : State :=
  s.onTime fun t => { t with now := t.now + BitVec.ofInt 96 d, advance := t.advance + d }

/-- The part of a slew that one increment makes (R386). -/
def slewStep (slew inc : Int) : Int := max (-(inc / 2048)) (min (inc / 2048) slew)

/-- One rising edge of ACK: the increment, with slew, or held (R380, R386). -/
def State.ackTime (s : State) : State :=
  let s := s.onTime fun t => { t with outHigh := t.outHigh - 1, edgeBefore := t.edge }
  let s :=
    if 0 < s.time.hold then
      s.onTime fun t => { t with hold := t.hold - 1, advance := t.advance + s.inc }
    else
      let d := slewStep s.time.slew s.inc
      (s.addTime (s.inc + d)).onTime fun t => { t with slew := t.slew - d }
  s.onTime fun t => { t with edge := t.now }

/-- TIME with what the SCK count has added so far (R381, R382). -/
def State.timeHeld (s : State) : BitVec 64 :=
  if s.clock.running then s.now else BitVec.ofNat 64 (s.time.now.toNat / 2 ^ 32 + s.clock.sck * 40)

/-- The derived clocks restart after `sck` SCK edges (R35, R381): the interval is added to the time base,
unless the step was one of frequency while SCK was bad. The window in progress ends (R163). With RCK lost they stand on
until it returns (R396). -/
def State.restartClocks (s : State) (frequency : Bool) : State :=
  let n := s.clock.sck
  let s := { s with clock := { s.clock with running := !s.safety.rckLost, sck := 0 } }
  let s := if s.safety.rckLost then s.onSafety fun y => { y with rckStood := true } else s
  let s :=
    if frequency ∧ s.power.sckBad then s.onTime fun t => { t with lost := true, unc := 0xFFFFFFFF }
    else
      (s.addTime (n * 40 * 2 ^ 32)).onTime fun t =>
        { t with extrapolated := true, unc := satAdd 0xFFFFFFFF t.unc ((n * 2000 + 999999) / 1000000 + 40) }
  ((s.onTime fun t => { t with locked := false, good := 0 }).onGov fun g => { g with windowDue := true }).windowStart

/-- The derived clocks stop together (R35): the SCK count starts, TSYNC output stops,
the interrupt lines hold their levels. -/
def State.stopClocks (s : State) : State :=
  let s := s.holdLines
  let s := { s with clock := { s.clock with running := false, sck := 0 } }
  s.onTime fun t => { t with outHigh := 0 }

/-! ### TSYNC (R385, R386) -/

/-- The period of TSYNC in 2^-32 ns. -/
def TimeBase.periodUnits (t : TimeBase) : Nat := t.period * 1000 * 2 ^ 32

/-- Since the ACK edge before, TIME has gone forward to or past a multiple of `p` (R385). -/
def TimeBase.passed (t : TimeBase) (p : Nat) : Bool :=
  t.edge != t.edgeBefore && decide ((t.edge - t.edgeBefore).toNat < 2 ^ 95) &&
    (t.edge.toNat / p != t.edgeBefore.toNat / p)

/-- TSYNC_PULSE_OUT: on this ACK edge TIME has reached or passed a multiple of the period, by its increments, a slew, a
restart of the clocks or a change of value (MODE 1, R385). -/
def State.tsyncOut (s : State) : State :=
  let t := s.time
  let p := t.periodUnits
  if s.ready ∧ t.mode = 1 ∧ ¬ t.unset ∧ p ≠ 0 ∧ t.outHigh = 0 ∧ s.clock.xck % 32 = 0 ∧ t.passed p then
    s.onTime fun t => { t with outHigh := 8 }
  else s

/-- The offset e of a pulse, in 2^-32 ns (R385): the multiple of the period nearest the capture, less the
capture. -/
def State.tsyncOffset (s : State) : Int :=
  let t := s.time
  let c : Int := t.now.toNat - 2 * (s.inc : Int) - (t.delay : Int) * 2 ^ 32
  let p : Int := t.periodUnits
  if p = 0 then 0 else (2 * c + p) / (2 * p) * p - c

/-- The correction of an offset (R386). -/
def State.tsyncCorrect (s : State) (e : Int) : State :=
  let t := s.time
  let unit : Int := 2 ^ 32
  if |e| ≤ t.slewMax * unit then s.onTime fun t => { t with slew := e, hold := 0 }
  else if t.stepEn then
    if 0 < e then
      (s.onTime fun t => { t with now := t.now + BitVec.ofInt 96 e, slew := 0, hold := 0 }).powerEvent 8 0xF 0
    else s.onTime fun t => { t with slew := 0, hold := ((-e + s.inc - 1) / s.inc).toNat }
  else (s.onTime fun t => { t with slew := 0, hold := 0, outOfRange := true }).powerEvent 6 0xF 0

/-- The lock state after a pulse (R386). -/
def State.tsyncLock (s : State) (e : Int) : State :=
  if |e| ≤ s.time.lockNs * 2 ^ 32 then
    if s.time.good = 1 then
      (s.onTime fun t =>
        { t with good := 2, locked := true, extrapolated := false, lost := false, tsLost := false
                 outOfRange := false, unc := 0 }).powerEvent 4 0xF 0
    else s.onTime fun t => { t with good := min 2 (t.good + 1) }
  else s.onTime fun t => { t with good := 0 }

/-- TSYNC_PULSE_IN (R385, R386). While UNSET or LOST is set, or the block is not in RUN, the pulse is
counted and corrects nothing. -/
def State.tsyncIn (s : State) : State :=
  if s.time.mode ≠ 2 ∨ ¬ s.integ.postDone then s
  else
    let stood : Int := if s.clock.running then 0 else s.clock.sck * 40 * 2 ^ 32
    let s := s.onTime fun t => { t with pulses := t.pulses + 1, lastPulse := t.advance + stood }
    if s.time.unset ∨ s.time.lost ∨ ¬ s.clock.running ∨ s.power.block ≠ .run then s
    else
      let e := s.tsyncOffset
      let ns := Int.tdiv e (2 ^ 32)
      let s := s.onTime fun t => { t with offset := max (-(2 ^ 31)) (min (2 ^ 31 - 1) ns) }
      (s.tsyncCorrect e).tsyncLock e

/-- TSYNC_PULSE_MISSING: no pulse within two periods of the last one, in RUN (R386). -/
def State.tsyncMissing (s : State) : State :=
  let t := s.time
  if s.ready ∧ s.power.block = .run ∧ t.mode = 2 ∧ ¬ t.tsLost ∧
      t.lastPulse + 2 * (t.periodUnits : Int) ≤ t.advance then
    (s.onTime fun t => { t with locked := false, good := 0, tsLost := true }).powerEvent 5 0xF 0
  else s

/-! ### Wakes -/

/-- A wake of the block is present (R373): while it is in RUN that matters only to an attempt under way (R372). -/
def State.wakeBlock (s : State) : State :=
  if s.integ.postDone ∧ (s.power.block ≠ .run ∨ s.power.attempt) then s.onPower fun p => { p with wake := true, blkStopReq := false }
  else s

/-- A wake aimed at a cluster also wakes the block (R368, R373). It does not make a cluster in RUN any less idle
(R364). -/
def State.indicateAt (s : State) (c cause : Nat) : State := (s.indicate c cause).wakeBlock

/-- A timer wake: of a cluster, or of the block under 0xFE. -/
def State.timerOf (s : State) (who : Nat) : TimerWake :=
  if who = 0xFE then s.power.timer else (s.cpower who).timer

/-- Change a timer wake. -/
def State.onTimer (s : State) (who : Nat) (f : TimerWake → TimerWake) : State :=
  if who = 0xFE then s.onPower fun p => { p with timer := f p.timer }
  else s.onCpower who fun p => { p with timer := f p.timer }

/-- TIME as a timer sees it: in block STOP the SCK count of the target is rounded down, so that the wake comes up to
40 ns early (R382). -/
def State.timerNow (s : State) : BitVec 64 := if s.clock.running then s.now else s.timeHeld + 39

/-- A timer may fire now: on an ACK edge after its completion point, or, while the block is stopped, on the SCK count
(R382). -/
def State.timerEdge (s : State) (t : TimerWake) : Bool :=
  if s.clock.running then decide (s.clock.xck % 32 = 0) && decide (t.setAt < s.clock.acks)
  else decide (s.power.block ≠ .run)

/-- TIMER_WAKE_FIRE: TIME has reached the target (R382). -/
def State.timerFire (s : State) (who : Nat) : State :=
  let t := s.timerOf who
  if s.integ.postDone ∧ (who = 0xFE ∨ s.hasCluster who) ∧ t.en ∧ s.timerEdge t ∧ serialGe64 s.timerNow t.target then
    let s := s.onTimer who fun t => { t with en := false }
    if who = 0xFE then s.wakeBlock else s.indicateAt who 3
  else s

/-- WAKE_AIN_CROSSING: a crossing that has held for DEBOUNCE SCK ticks (R379). The block wakes; the clusters have the
indication 2 XCK later (Table 13-3); the status bit is set once the block is in RUN (R442). -/
def State.ainCrossing (s : State) : State :=
  let a := s.power.ain
  if s.integ.postDone ∧ a.en ∧ a.armed ∧ ¬ a.disabled then
    let s := s.onPower fun p =>
      { p with ain := { p.ain with armed := false, crossings := p.ain.crossings + 1
                                   due := some (s.clock.xck + 2), flagDue := a.irq && decide (p.block ≠ .run) } }
    (if a.irq ∧ s.power.block = .run then s.powerEvent 1 0xF 0 else s).wakeBlock
  else s

/-- WAKE_AIN_REARM: the input has passed the re-arm level for DEBOUNCE ticks (R379). -/
def State.ainRearm (s : State) : State :=
  if s.integ.postDone then s.onPower fun p => { p with ain := { p.ain with armed := true } } else s

/-- SCK is checked every 1 ms (R381). -/
def State.sckDue (s : State) : Bool :=
  match s.power.sckAt with
  | none => true
  | some t => decide (t + msec ≤ s.worked)

/-- SCK_CHECK (R381). -/
def State.sckCheck (s : State) (hz : BitVec 25) : State :=
  if ¬ s.ready ∨ s.power.block ≠ .run ∨ ¬ s.sckDue then s
  else
    let n := hz.toNat
    let bad := n < 24875000 ∨ 25125000 < n
    let s := s.onPower fun p => { p with sckHz := hz, sckBad := decide bad, sckAt := some s.worked }
    if bad then (s.powerEvent 7 0xF 0).report { code := 0x43 } else s

end Sys2Proof.Machine
end

