-- ==== Sys2Proof/Machine/CmdPower.lean ====
section
/-!
DEFINITION. Cluster STOP, block STOP, voltages and operating points, and the power and time commands
(R363 to R378, R382, R383, R387).
-/

namespace Sys2Proof.Machine

/-! ### Idle clusters and refusers (R364, R365) -/

/-- The cluster whose core or bank blocks a register address lies in (Table 16-1). -/
def regCluster (a : Nat) : Option Nat :=
  if 0x080000 ≤ a ∧ a < 0x100000 then some ((a - 0x080000) / 0x10000) else none

/-- A dispatcher with nothing in its path FIFOs, its hold buffer and its egress FIFOs. -/
def Dispatcher.empty (d : Dispatcher) : Bool :=
  d.hold.isEmpty && d.runs.isEmpty && d.out.isEmpty && d.paths.all (fun e => e.2.isEmpty) && d.egress.all (fun e => e.2.isEmpty)

/-- A STEP runs in a cluster. -/
def State.stepsIn (s : State) (c : Nat) : Bool :=
  s.eng.steps.any fun r => match s.pop? r.pop with | some p => popCluster p.desc == c | none => false

/-- A STEP is running in a cluster (EVD_STATE.STEP_RUN). -/
def State.stepRuns (s : State) (c : Nat) : Bool :=
  s.eng.steps.any fun r => !r.ended && (s.pop? r.pop).any (fun p => popCluster p.desc == c)

/-- No piece is queued for a cluster or on its way to it. -/
def State.noPieces (s : State) (c : Nat) : Bool :=
  s.xbar.ports.all (fun e => e.2.pieces.all (fun x => x.cluster != c)) &&
    (List.range 8).all (fun n => (s.sub (8 * c + n)).queue.isEmpty) &&
    (List.range 16).all (fun b => (s.bankq (16 * c + b)).wbuf.isEmpty && (s.bankq (16 * c + b)).reads.isEmpty &&
        (s.bankq (16 * c + b)).copy.isNone)

/-- A cluster is idle (R364). -/
def State.clusterIdle (s : State) (c : Nat) : Bool :=
  s.noPieces c && (s.folds.queues.get [] c).isEmpty && (s.nextWake c).isNone && (s.disp c).empty &&
    !s.stepsIn c && (s.cache c).fills.isEmpty &&
    (s.reg.waitCtl ++ s.reg.waitSp).all (fun a => regCluster a.addr.toNat != some c)

/-- A guarantee that names a sub-port of a cluster, or is share-only. -/
def State.guaranteeAt (s : State) (c : Nat) : Bool :=
  s.gov.guarantees.any fun g => guMask g == 0 || bitsOf (guMask g) (8 * c) 8 != 0

/-- A slot of a cluster in COPYING or TESTING. -/
def State.bistAt (s : State) (c : Nat) : Bool :=
  (List.range 17).any fun k => decide ((s.slot (17 * c + k)).state = .copying ∨ (s.slot (17 * c + k)).state = .testing)

/-- Where a request that stands in a converter is bound for. -/
def State.queuedDest (s : State) (p : Nat) (q : Queued) : Dest :=
  (s.plan { id := s.xbar.nextReq, port := p, word := q.req.word, link := q.link, since := s.clock.xck, plan := .fence
            dest := .ingress }).1.dest

/-- An inbound request that has not been answered (R301), at the ingress or in a link port's FIFO, bound for a cluster that
`p` names. -/
def State.arrivedFor (s : State) (p : Nat → Bool) : Bool :=
  let meets (d : Dest) : Bool := match d with | .clusters cs => cs.any p | _ => false
  s.xbar.outst.any (fun o => o.link.isSome && meets o.dest) ||
    s.xbar.ports.any fun e => e.2.fifo.any fun q => q.link.isSome && meets (s.queuedDest e.1 q)

/-- The refusers present against STOP of a cluster, by code − 1 (Table 13-1). -/
def State.refusers (s : State) (c : Nat) : List Bool :=
  [!(s.waitersOf c).isEmpty,
   s.links.held.any (fun h => h.op.cluster == c) || s.arrivedFor (· == c),
   s.allJobs.any (fun j => (s.jobClusters j).contains c), s.guaranteeAt c, s.bistAt c, false]

/-- The refusers present against block STOP. -/
def State.blockRefusers (s : State) : List Bool :=
  [!s.folds.waiters.isEmpty,
   s.links.out.any (fun o => o.seq.isSome) || s.links.srcs.any (fun e => e.2.recs.any (fun r => r.2.done.isNone)) ||
    !s.links.held.isEmpty,
   !s.allJobs.isEmpty, !s.gov.guarantees.isEmpty, (List.range s.cfg.clusters).any s.bistAt,
   s.fw.pendingAct.isSome || s.fw.trialAt.isSome]

/-- Count the refusers of an attempt (R365). -/
def Refusals.add (r : Refusals) (bs : List Bool) : Refusals :=
  let up (i : Nat) (n : Nat) : Nat := if bs.getD i false then satAdd 0xFFFF n 1 else n
  { r with
    foldWait := up 0 r.foldWait, remote := up 1 r.remote, drover := up 2 r.drover
    guarantee := up 3 r.guarantee, bist := up 4 r.bist, activation := up 5 r.activation
    mask := BitVec.ofNat 6 ((bs.zipIdx.map (fun b => bit b.1 * 2 ^ b.2)).sum) }

/-! ### Cluster STOP (R366 to R370) -/

/-- The refusers of the most recent refused attempt (REFUSE_LAST.MASK). -/
def refuserMask (bs : List Bool) : BitVec 6 := BitVec.ofNat 6 ((bs.zipIdx.map (fun b => bit b.1 * 2 ^ b.2)).sum)

/-- An attempt at entry that the refusers refuse: the idle timer starts again, MASK shows them; under STOP_REQ the
refusers are counted once per 4096 XCK at most (R365, R370). -/
def State.refuseEntry (s : State) (c : Nat) (bs : List Bool) : State :=
  s.onCpower c fun p =>
    let counts := !p.stopReq || (match p.refusedAt with | some t => decide (t + 4096 ≤ s.clock.xck) | none => true)
    let r := { p.refusals with mask := refuserMask bs, attempts := p.refusals.attempts + 1 }
    { p with count := 0, refusals := if counts then r.add bs else r
             refusedAt := if counts && p.stopReq then some s.clock.xck else p.refusedAt }

/-- CLUSTER_IDLE_EXPIRE: XCK 0 of Table 13-2. The idle timer expires, or a STOP request applies to an idle cluster (R364
to R366, R370); A1 is in the next XCK. -/
def State.idleExpire (s : State) (c : Nat) : State :=
  let p := s.cpower c
  let timer := p.ticks ≠ 0 ∧ p.ticks ≤ p.count
  if s.ready ∧ s.hasCluster c ∧ p.mode = .run ∧ p.attempt = none ∧ s.clusterIdle c ∧ (timer ∨ p.stopReq) then
    let bs := s.refusers c
    if bs.any id then s.refuseEntry c bs
    else
      s.onCpower c fun p =>
        { p with attempt := some s.clock.xck, count := 0
                 refusals := { p.refusals with attempts := p.refusals.attempts + 1 } }
  else s

/-- What was held for a cluster goes on once it is in RUN: fold operations count as accepted at their
unit, and the ports try again (R115, R369). -/
def State.clusterRuns (s : State) (c : Nat) : State :=
  let s := s.onXbar fun x =>
    { x with outst := x.outst.map fun o =>
        match o.plan with
        | .fold k => if o.sent ∧ k / 2048 = c then { o with accepted := true } else o
        | _ => o }
  s.pumpAll

/-- The cluster is in RUN again. -/
def State.backToRun (s : State) (c : Nat) : State :=
  (s.onCpower c fun p =>
    { p with mode := .run, wake := none, count := 0, offXck := p.offXck + (s.clock.xck - p.offAt) }).clusterRuns c

/-- The entry is abandoned at A3: the switches return to full bias (R367). With no wake, as after a PWR_TIMEOUT (R377),
STOP_REQ and LAST_WAKE stay. -/
def ClusterPower.abandonA3 (p : ClusterPower) (now : Nat) : ClusterPower :=
  { p with mode := .exiting, since := now, wake := none, acked := false
           lastWake := match p.wake with | some w => w.1 | none => p.lastWake
           stopReq := p.stopReq && p.wake.isNone
           aborts := { p.aborts with a3 := satAdd 0xFF p.aborts.a3 1 } }

/-- The acknowledgements of a step of the power controller begin a new run (R377). -/
def State.ackRun (s : State) (key : Nat) : State := s.onPower fun p => { p with runs := p.runs.erase key }

/-- The wake indication was present by A2 (R367). -/
def ClusterPower.wokenByA2 (p : ClusterPower) : Bool :=
  match p.wake with | some w => decide (w.2 ≤ p.entryAt + 4) | none => false

/-- A2 has passed: the switches have been requested (Table 13-2). -/
def State.switchesAsked (s : State) (c : Nat) : Bool :=
  let p := s.cpower c
  s.clock.running && s.hasCluster c && decide (p.mode = .entering) && decide (p.entryAt + 4 < s.clock.xck) &&
    !p.wokenByA2 && !p.acked

/-- RETENTION_SWITCH_ACK: the switches acknowledge, within 10 µs of the request; the wake indication is sampled in the
same XCK, A3 (R366, R367). -/
def State.switchAck (s : State) (c : Nat) : State :=
  if s.switchesAsked c ∧ s.clock.elapsed ≤ (s.cpower c).since + 10 * usec then
    (s.ackRun 6).onCpower c fun p => { p with acked := true }
  else s

/-- Entry complete: STOP (Table 13-2). -/
def State.stopCluster (s : State) (c : Nat) : State :=
  s.onCpower c fun p =>
    { p with mode := .stop, acked := false, stopAt := s.clock.elapsed, stopNsAt := s.ns
             aborts := { p.aborts with stops := p.aborts.stops + 1 } }

/-- What a new XCK brings to a cluster that enters STOP (Table 13-2): in XCK 1 it is ENTERING, in XCK 4 the switches are
requested, and the XCK after the acknowledgement has it in STOP, or on its way back. -/
def State.entryXck (s : State) (c : Nat) : State :=
  let p := s.cpower c
  match p.attempt with
  | some t => s.onCpower c fun p => { p with mode := .entering, attempt := none, entryAt := t, offAt := s.clock.xck }
  | none =>
    if p.mode ≠ .entering then s
    else if p.acked then
      if p.wake.isSome then s.onCpower c fun p => p.abandonA3 s.clock.elapsed else s.stopCluster c
    else if s.clock.xck = p.entryAt + 4 then s.onCpower c fun p => { p with since := s.clock.elapsed }
    else s

/-- A new XCK: the clusters that enter STOP go on, and a WAKE_AIN crossing of two XCK ago is present at the clusters that
it wakes (Tables 13-2, 13-3). -/
def State.powerXck (s : State) : State :=
  let s := (List.range s.cfg.clusters).foldl State.entryXck s
  match s.power.ain.due with
  | some t =>
    if t ≤ s.clock.xck then
      ((List.range s.cfg.clusters).filter (fun c => bitOf s.power.ain.clusters.toNat c)).foldl
        (fun s c => s.indicate c 4) (s.onPower fun p => { p with ain := { p.ain with due := none } })
    else s
  | none => s

/-- The stay in STOP ends. -/
def State.leaveStop (s : State) (c : Nat) : State :=
  s.onCpower c fun p =>
    { p with stopNs := p.stopNs + (s.ns - p.stopNsAt), stopSum := p.stopSum + (s.clock.elapsed - p.stopAt) }

/-- CLUSTER_WAKE: the wake indication takes effect: exit from STOP, or an entry abandoned at A2; one that
comes later in an entry waits for A3 (R366 to R369). -/
def State.clusterWake (s : State) (c : Nat) : State :=
  let p := s.cpower c
  match p.wake with
  | none => s
  | some (cause, at_) =>
    if !s.clock.running then s
    else
      match p.mode with
      | .run => s.onCpower c fun p => { p with wake := none, stopReq := false }
      | .exiting => s.onCpower c fun p => { p with wake := none, stopReq := false }
      | .stop =>
        (s.leaveStop c).onCpower c fun p =>
          { p with mode := .exiting, since := s.clock.elapsed, wake := none, lastWake := cause, stopReq := false }
      | .entering =>
        if at_ ≤ p.entryAt + 4 ∧ p.entryAt + 4 ≤ s.clock.xck then
          (s.onCpower c fun p =>
            { p with lastWake := cause, stopReq := false
                     aborts := { p.aborts with a2 := satAdd 0xFF p.aborts.a2 1 } }).backToRun c
        else s

/-- CLUSTER_EXIT_COMPLETE (R369). -/
def State.exitComplete (s : State) (c : Nat) : State :=
  if s.clock.running ∧ s.hasCluster c ∧ (s.cpower c).mode = .exiting then
    (s.ackRun 7).backToRun c
  else s

/-! ### Block STOP (R371 to R373) -/

/-- No request is in a converter, at an ingress or in the link-port logic. -/
def State.noRequests (s : State) : Bool :=
  s.xbar.outst.isEmpty && s.links.out.isEmpty &&
    s.xbar.ports.all (fun e => e.2.fifo.isEmpty && e.2.wd.isEmpty && e.2.pieces.isEmpty && e.2.resp.isEmpty &&
      e.2.wakes.isEmpty)

/-- No command is executed or waits, and no ring holds a packet. -/
def State.noCommands (s : State) : Bool :=
  s.cmd.deferred.isEmpty && s.cmd.waiting.isEmpty && s.cmd.records.isEmpty && s.cmd.arrived.isEmpty &&
    !s.cmd.sp.busy && !s.cmd.ctl.busy && s.cmd.rings.all (fun e => e.2.present == 0)

/-- The conditions of R371 before the last. -/
def State.blockMayStop (s : State) : Bool :=
  (List.range s.cfg.clusters).all (fun c => decide ((s.cpower c).mode = .stop) && (s.cpower c).wake.isNone) &&
    s.noRequests && s.noCommands && !s.safety.hold && !s.power.sckBad && !bitOf s.integ.ana.toNat 12

/-- A1 passes: the entry begins, and the derived clocks stop on the next ACK edge (Table 13-4). -/
def State.enterBlock (s : State) : State :=
  s.onPower fun p =>
    { p with block := .entering, work := .entry, steps := [.logLower, .arrLower], beforeA2 := true, stopDue := true
             since := s.clock.elapsed, attempt := false }

/-- The rails at a frequency: VDD_LOG and VDD_ARR in mV (Table 13-5). -/
def railsAt (eco : Bool) : Nat × Nat := if eco then (650, 720) else (750, 800)

/-- What the rails are taken to: the levels of block STOP, of the operating point in force, or of the point that
OPPOINT_SET names (R372, R373, R377, R378). -/
def Power.rails (p : Power) : Nat × Nat :=
  match p.work with
  | .entry => (550, 500)
  | .opPoint => railsAt p.oppTarget
  | _ => railsAt p.eco

/-- The Voltage write of the step in front is sent, once A2 of an entry has passed (R372, R374, R375). -/
def State.writeRail (s : State) : State :=
  match s.power.steps with
  | .logLower :: _ => if s.power.beforeA2 then s else s.onPower fun p => { p with logSet := p.rails.1 }
  | .arrLower :: _ => s.onPower fun p => { p with arrSet := p.rails.2 }
  | .arrRaise :: _ => s.onPower fun p => { p with arrSet := p.rails.2 }
  | .logRaise :: _ => s.onPower fun p => { p with logSet := p.rails.1 }
  | _ => s

/-- BLOCK_IDLE_EXPIRE: an attempt in the ACK in which the idle timer expires, or in any while BLK_STOP_REQ is set (R371);
A1 is on the next ACK edge (R372; DEDUCED, log entry 67). -/
def State.blockExpire (s : State) : State :=
  let p := s.power
  let timer := p.ticks ≠ 0 ∧ p.ticks ≤ p.count
  let asked := p.blkStopReq ∧ p.triedAt ≠ s.clock.acks + 1
  if s.ready ∧ p.block = .run ∧ p.work = .none ∧ ¬ p.attempt ∧ (timer ∨ asked) ∧ s.blockMayStop then
    let bs := s.blockRefusers
    if bs.any id then
      s.onPower fun p =>
        { p with count := 0, triedAt := s.clock.acks + 1
                 refusals := { p.refusals.add bs with attempts := p.refusals.attempts + 1 } }
    else
      s.onPower fun p =>
        { p with attempt := true, count := 0, refusals := { p.refusals with attempts := p.refusals.attempts + 1 } }
  else s

/-- An ACK edge with an attempt under way: A1. A wake that has come since abandons it (R372). -/
def State.blockA1 (s : State) : State :=
  if !s.power.attempt then s
  else if s.power.wake then
    s.onPower fun p =>
      { p with attempt := false, wake := false, aborts := { p.aborts with a1 := satAdd 0xFF p.aborts.a1 1 } }
  else s.enterBlock

/-- A WAKE_AIN crossing sets its status bit once the block is in RUN (R442). -/
def State.ainFlag (s : State) : State :=
  if s.power.ain.flagDue then (s.onPower fun p => { p with ain := { p.ain with flagDue := false } }).powerEvent 1 0xF 0
  else s

/-- The block is in RUN; its dividers have restarted. -/
def State.blockRuns (s : State) : State :=
  ((s.onPower fun p =>
    { p with block := .run, work := .none, steps := [], wake := false, count := 0
             beforeA2 := false }).restartClocks false).ainFlag.pumpAll

/-- An entry is abandoned at A3: both rails are raised again, then the dividers restart (R372, R377). -/
def State.abandonBlock (s : State) : State :=
  (s.onPower fun p =>
    { p with work := .abandon, steps := [.arrRaise, .logRaise], since := s.clock.elapsed, wake := false
             aborts := { p.aborts with a3 := satAdd 0xFF p.aborts.a3 1 } }).writeRail

/-- BLOCK_WAKE: exit from block STOP begins, or an entry is abandoned at A2 (R372, R373). -/
def State.blockWake (s : State) : State :=
  let p := s.power
  if !p.wake then s
  else if p.block = .stop then
    (s.onPower fun p =>
      { p with block := .exiting, rckIdle := false, work := .exit, steps := [.arrRaise, .logRaise, .rckFack]
               since := s.clock.elapsed, wake := false, blkStopReq := false }).writeRail
  else if p.block = .entering ∧ p.beforeA2 ∧ ¬ s.clock.running then
    (s.onPower fun p => { p with aborts := { p.aborts with a2 := satAdd 0xFF p.aborts.a2 1 } }).blockRuns
  else s

/-! ### Steps of the power controller (R375 to R378) -/

/-- The OPPOINT_SET is over. -/
def State.endOpp (s : State) (st : Status) : State :=
  let who := s.power.opp
  let s := s.onPower fun p => { p with opp := none, work := .none, steps := [] }
  match who with
  | some (token, c) => s.finish token c { status := st }
  | none => s

/-- The frequency step begins: the clocks stop on the next ACK edge (R40, R378). -/
def State.beginFrequency (s : State) : State := s.onPower fun p => { p with stopDue := true }

/-- An ACK edge on which the derived clocks stop together; only then RCK_FSEL changes (R40, R372). They stand from a
rising edge of all four, so that a restart finds them aligned (R35). -/
def State.stopEdge (s : State) : State :=
  if s.power.stopDue then
    (s.stopClocks).onPower fun p =>
      let p := { p with stopDue := false, since := s.clock.elapsed }
      if p.work = .opPoint then { p with rckFsel := p.oppTarget, fackLow := !s.pins.rckFack } else p
  else s

/-- The frequency step ends: the clocks restart at the new point (R40, R378). -/
def State.endFrequency (s : State) : State :=
  ((s.onPower fun p => { p with eco := p.oppTarget }).restartClocks true).pumpAll

/-- The step in front is done; what follows it (Tables 13-4, 13-6, R373). -/
def State.stepDone (s : State) : State :=
  let s := s.onPower fun p =>
    { p with steps := p.steps.tail, since := s.clock.elapsed
             oppStep := if p.work = .opPoint then p.oppStep + 1 else p.oppStep }
  let p := s.power
  match p.work, p.steps with
  | .entry, [] =>
    if p.wake then s.abandonBlock
    else s.onPower fun p =>
      { p with block := .stop, work := .none, rckIdle := true
               aborts := { p.aborts with stops := p.aborts.stops + 1 } }
  | .abandon, [] => s.blockRuns
  | .exit, [] => s.blockRuns
  | .exit, .rckFack :: _ => s.onPower fun p => { p with fackEdges := 0 }
  | .opPoint, [] =>
    ((s.onPower fun p => { p with voltUnconf := false }).powerEvent 2 0xF 0).endOpp .ok
  | .opPoint, .rckFack :: _ =>
    match p.opp with
    | some (token, _) => match s.cut token with | some st => s.endOpp st | none => s.beginFrequency
    | none => s.beginFrequency
  | .opPoint, _ =>
    match p.opp with
    | some (token, _) => match s.cut token with | some st => s.endOpp st | none => s
    | none => s
  | _, _ => s

/-- The step in front is done, and the Voltage write that follows is sent. -/
def State.nextStepDone (s : State) : State := s.stepDone.writeRail

/-- A step of a rail. -/
def PowerStep.rail : PowerStep → Bool
  | .rckFack => false
  | _ => true

/-- The step writes VDD_LOG. -/
def PowerStep.isLog : PowerStep → Bool
  | .logLower => true | .logRaise => true | _ => false

/-- AVS_VOLTAGE_ACK: the acknowledgement of the Voltage write in front, with the readback (R375). -/
def State.avsAck (s : State) (mv : BitVec 16) : State :=
  match s.power.steps with
  | x :: _ =>
    if x.rail ∧ s.power.work ≠ .none ∧ ¬ s.power.stopDue ∧ ¬ s.power.beforeA2 ∧
        s.clock.elapsed ≤ s.power.since + 200 * usec then
      let s := s.ackRun x.code
      (s.onPower fun p =>
        { p with logMv := if x.isLog then mv else p.logMv, arrMv := if x.isLog then p.arrMv else mv }).nextStepDone
    else s
  | [] => s

/-- AVS_STATUS_POLL: a response on AVSBus while a Voltage write waits; a bad CRC and a refusal are
counted, and the frame is resent (R375). -/
def State.avsPoll (s : State) (crcOk taken : Bool) : State :=
  match s.power.steps with
  | x :: _ =>
    if ¬ (x.rail ∧ s.power.work ≠ .none ∧ ¬ s.power.stopDue ∧ ¬ s.power.beforeA2) then s
    else if !crcOk then s.onPower fun p => { p with avsCrc := satAdd 0xFF p.avsCrc 1 }
    else if !taken then s.onPower fun p => { p with avsRefused := satAdd 0xFF p.avsRefused 1 }
    else s
  | [] => s

/-- RCK_FACK_CHANGE (R376): after a change of RCK_FSEL the block waits to see 0 and then 1; after
RCK_IDLE falls, 1 alone, for four SCK edges (R373). -/
def State.rckFack (s : State) (level : Bool) : State :=
  let s := { s with pins := { s.pins with rckFack := level } }
  let s := if level then s else s.onPower fun p => { p with fackLow := true, fackEdges := 0 }
  match s.power.work, s.power.steps with
  | .opPoint, .rckFack :: _ =>
    if level ∧ s.power.fackLow ∧ ¬ s.clock.running then ((s.ackRun 5).endFrequency).nextStepDone else s
  | _, _ => s

/-- An SCK edge in the exit from block STOP: at the fourth with RCK_FACK at 1 the dividers restart (R373). -/
def State.exitEdge (s : State) : State :=
  match s.power.work, s.power.steps with
  | .exit, .rckFack :: _ =>
    if !s.pins.rckFack || s.safety.rckLost then s
    else if s.power.fackEdges < 3 then s.onPower fun p => { p with fackEdges := p.fackEdges + 1 }
    else (s.ackRun 5).blockRuns
  | _, _ => s

/-- A PWR_TIMEOUT is recorded; the fifth of a run reacts with HOLD (R377). -/
def State.powerTimeout (s : State) (step cluster : Nat) : State :=
  let n := s.power.runs.get 0 step + 1
  let s := (s.onPower fun p => { p with runs := p.runs.set step n }).powerEvent 0 cluster step
  s.report { code := 0x41, cluster := cluster, detail := some (BitVec.ofNat 32 step), hold := decide (5 ≤ n) }

/-- A step of the block misses its limit: 200 µs for a rail, 1 ms for RCK_FACK (R375 to R377). -/
def State.blockTimeout (s : State) (x : PowerStep) : State :=
  let limit := if x.rail then 200 * usec else msec
  if s.clock.elapsed < s.power.since + limit then s
  else
    let s := s.powerTimeout x.code 0xF
    let s := s.onPower fun p =>
      { p with since := s.clock.elapsed, avsTimeouts := if x.rail then satAdd 0xFF p.avsTimeouts 1 else p.avsTimeouts }
    match s.power.work, x with
    | .entry, .logLower => s.abandonBlock
    | .entry, .arrLower => s.abandonBlock
    | .opPoint, .logLower => ((s.onPower fun p => { p with voltUnconf := true }).powerEvent 3 0xF x.code).endOpp .timeout
    | .opPoint, .arrLower => ((s.onPower fun p => { p with voltUnconf := true }).powerEvent 3 0xF x.code).endOpp .timeout
    | _, _ => s

/-- PWR_TIMEOUT: a step of the block, or the retention switches of a cluster, 6 at entry and 7 at exit
(R377). -/
def State.pwrTimeout (s : State) (step c : Nat) : State :=
  let p := s.cpower c
  if step = 6 ∧ s.switchesAsked c ∧ p.since + 10 * usec ≤ s.clock.elapsed then
    (s.powerTimeout 6 c).onCpower c fun p => p.abandonA3 s.clock.elapsed
  else if step = 7 ∧ s.clock.running ∧ s.hasCluster c ∧ p.mode = .exiting ∧
      p.since + 30 * usec ≤ s.clock.elapsed then
    (s.powerTimeout 7 c).onCpower c fun p =>
      { p with mode := .stop, stopAt := s.clock.elapsed, stopNsAt := s.ns, since := s.clock.elapsed
               wake := some (p.lastWake, s.clock.xck) }
  else
    match s.power.steps with
    | x :: _ => if x.code = step ∧ s.power.work ≠ .none ∧ ¬ s.power.beforeA2 ∧ ¬ s.power.stopDue then s.blockTimeout x else s
    | [] => s

/-! ### Commands (Table 13-9) -/

/-- PWR_STATE (Table 13-11). -/
def State.pwrState (s : State) : Nat :=
  let p := s.power
  let mask (f : ClusterPower → Bool) : Nat :=
    ((List.range s.cfg.clusters).map (fun c => bit (f (s.cpower c)) * 2 ^ c)).sum
  p.block.code + bit p.eco * 2 ^ 4 + bit p.opp.isSome * 2 ^ 5 + bit p.voltUnconf * 2 ^ 6 + bit p.rckIdle * 2 ^ 7 +
    mask (fun q => decide (q.mode = .stop)) * 2 ^ 8 + mask (fun q => q.stopReq) * 2 ^ 16 +
    bit p.blkStopReq * 2 ^ 24

/-- The clusters of a mask. -/
def maskClusters (n : Nat) : List Nat := (List.range 8).filter (fun c => bitOf n c)

/-- The clusters that PWR_STATE_SET names; STOP_BLOCK names the block. -/
def stateClusters (c : Cmd) : List Nat := if c.par 1 1 = 2 then [] else maskClusters (c.par 0 1)

/-- PWR_STATE_SET takes effect (R370). -/
def State.pwrStateSet (s : State) (c : Cmd) : State :=
  if c.par 1 1 = 0 then
    (stateClusters c).foldl (fun s k => (s.onCpower k fun p => { p with stopReq := false }).indicateAt k 2) s
  else if c.par 1 1 = 1 then
    (stateClusters c).foldl (fun s k => s.onCpower k fun p => { p with stopReq := true, refusedAt := none }) s
  else
    ((List.range s.cfg.clusters).foldl
      (fun s k => s.onCpower k fun p => { p with stopReq := true, refusedAt := none }) s).onPower fun p =>
      { p with blkStopReq := true }

/-- RESULT of PWR_STATE_SET: where refusers are present (R370). -/
def State.refuserBits (s : State) : Nat :=
  ((List.range s.cfg.clusters).map (fun c => bit ((s.refusers c).any id) * 2 ^ c)).sum +
    bit (s.blockRefusers.any id) * 2 ^ 8

/-- PWR_STATE_SET (R370). -/
def bodyPwrStateSet : Body :=
  { code := 0x800, units := 1, path := fun c _ => .half (stateClusters c), sys := true
    check := fun c s =>
      c.params [byteField 0 2]
        [(0, c.par 1 1 != 2 && (c.par 0 1 == 0 || (maskClusters (c.par 0 1)).any (fun k => !s.hasCluster k))),
         (1, decide (2 < c.par 1 1))]
    act := fun _ c s => .done { status := .ok, result := s.refuserBits } (s.pwrStateSet c) }

/-- The cluster or clusters that byte 0 names; none for the block. -/
def timerClusters (c : Cmd) (s : State) : List Nat :=
  if c.par 0 1 = 0xFE then [] else if c.par 0 1 = 0xFF then List.range s.cfg.clusters else [c.par 0 1]

/-- IDLE_TIMER_SET (R364, R371). -/
def bodyIdleTimerSet : Body :=
  { code := 0x801, units := 1, path := fun c s => .half (timerClusters c s), sys := true
    check := fun c s =>
      let t := c.par 4 4
      c.params [byteField 0 1, byteField 4 4]
        [(0, decide (c.par 0 1 < 0xFE) && !s.hasCluster (c.par 0 1)),
         (4, t != 0 && (decide (t < 50) || decide (50000000 < t)))]
    act := fun _ c s =>
      Act.ok (if c.par 0 1 = 0xFE then s.onPower fun p => { p with ticks := c.par 4 4, count := 0 }
        else (timerClusters c s).foldl
          (fun s k => s.onCpower k fun p => { p with ticks := c.par 4 4, count := 0 }) s) }

/-- Admission at another operating point: checks 3 to 5 (R168). -/
def State.admitsAt (s : State) (eco : Bool) : Option Result :=
  overcommit ((s.bookAt eco).checkStalls.or (s.bookAt eco).checkTolls)

/-- The steps of a change of operating point (Table 13-6). -/
def oppSteps (eco : Bool) : List PowerStep :=
  if eco then [.rckFack, .logLower, .arrLower] else [.arrRaise, .logRaise, .rckFack]

/-- A change of operating point begins (R378). -/
def State.beginOpp (s : State) (token : Nat) (c : Cmd) (eco : Bool) : State :=
  let s := s.onPower fun p =>
    { p with opp := some (token, c), work := .opPoint, steps := oppSteps eco, oppStep := 0, oppTarget := eco
             since := s.clock.elapsed }
  if eco then s.beginFrequency else s.writeRail

/-- OPPOINT_SET (R378). One that names the point in force ends with OK at once. -/
def bodyOppointSet : Body :=
  { code := 0x802, units := 1, path := onHolder, sys := true
    check := fun c s =>
      let eco := c.par 0 1 == 1
      firstRefusal
        [c.params [byteField 0 1] [(0, decide (1 < c.par 0 1))], s.busyOn [.opPoint],
         if eco = s.power.eco then none
         else firstRefusal
          [s.admitsAt eco,
           refuseIf (bitOf s.integ.ana.toNat 12) { status := .overcommit, detail := 10, result := 0xFF }]]
    holds := fun _ _ => [.opPoint]
    act := fun token c s =>
      let eco := c.par 0 1 == 1
      if eco = s.power.eco then Act.ok s else .running (s.beginOpp token c eco) }

/-- PWR_QUERY (R387). -/
def bodyPwrQuery : Body :=
  { code := 0x803, units := 0, path := onHolder, q := true
    act := fun _ _ s => .done { status := .ok, result := s.pwrState } s }

/-- TIME_SET (R383). -/
def bodyTimeSet : Body :=
  { code := 0x810, units := 1, path := onHolder, sys := true
    check := fun c _ => c.params [byteField 0 8, (64, 1)] []
    act := fun _ c s =>
      Act.ok ((s.onTime fun t =>
        { t with now := BitVec.ofNat 96 (c.par 0 8 * 2 ^ 32), unset := false, lost := false, extrapolated := false
                 unc := if c.flag 8 0 then 0 else t.unc }).powerEvent 8 0xF 0) }

/-- TIME_QUERY (R387). -/
def bodyTimeQuery : Body :=
  { code := 0x811, units := 0, path := onFast, q := true
    act := fun _ _ s =>
      .done { status := .ok, detail := bit s.time.extrapolated + bit s.time.locked * 2 + bit s.time.unset * 4
              result := bitsOf s.now.toNat 0 32 } s }

/-- TSYNC_CFG (R385, R387). -/
def bodyTsyncCfg : Body :=
  { code := 0x812, units := 1, path := onHolder, sys := true
    check := fun c _ =>
      c.params [byteField 0 1, (8, 1), byteField 2 8]
        [(0, decide (2 < c.par 0 1)), (2, c.par 2 2 == 0), (4, c.par 4 2 == 0), (6, c.par 6 2 == 0)]
    act := fun _ c s =>
      Act.ok (s.onTime fun t =>
        { t with mode := c.par 0 1, stepEn := c.flag 1 0, period := c.par 2 2, slewMax := c.par 4 2
                 lockNs := c.par 6 2, delay := c.par 8 2, good := 0, locked := false, lastPulse := t.advance
                 outHigh := if c.par 0 1 = 1 then t.outHigh else 0 }) }

/-- WAKE_AIN_CFG (R379). -/
def bodyWakeAinCfg : Body :=
  { code := 0x813, units := 1, path := onHolder, sys := true
    check := fun c s =>
      c.params [(0, 3), byteField 2 6]
        [(2, decide (1023 < c.par 2 2)), (4, decide (31 < c.par 4 1)),
         (5, (maskClusters (c.par 5 1)).any (fun k => !s.hasCluster k)), (6, c.par 6 2 == 0)]
    act := fun _ c s =>
      Act.ok (s.onPower fun p =>
        { p with ain :=
            { p.ain with en := c.flag 0 0, pol := c.flag 0 1, irq := c.flag 0 2, thresh := c.par 2 2
                         hyst := c.par 4 1, clusters := BitVec.ofNat 8 (c.par 5 1), debounce := c.par 6 2
                         armed := true } }) }

/-- TIMER_WAKE_SET (R382). -/
def bodyTimerWakeSet : Body :=
  { code := 0x814, units := 1, path := fun c s => .half (timerClusters c s), sys := true
    check := fun c s =>
      c.params [byteField 0 1, (8, 1), byteField 8 8]
        [(0, c.par 0 1 != 0xFE && !s.hasCluster (c.par 0 1))]
    act := fun _ c s =>
      Act.ok (s.onTimer (c.par 0 1) fun _ =>
        { target := BitVec.ofNat 64 (c.par 8 8), en := c.flag 1 0, setAt := s.clock.acks }) }

end Sys2Proof.Machine
end

