-- ==== Sys2Proof/Machine/FwStore.lean ====
section
/-!
DEFINITION. The firmware store: image verification and the settings record (15_firmware_monitor.md,
R417 to R419, R428 to R430).
-/

namespace Sys2Proof.Machine

/-- `n` bytes of a byte string from byte `i`, as a number. -/
def fieldAt (bs : List Byte) (i n : Nat) : Nat := ofBytes ((bs.drop i).take n)

/-! ### Images (Table 15-2, R419) -/

/-- An image slot: 0 is A, 1 is B. -/
def State.image (s : State) (k : Nat) : ImageSlot := if k = 0 then s.fw.slotA else s.fw.slotB

/-- Change an image slot. -/
def State.onImage (s : State) (k : Nat) (f : ImageSlot → ImageSlot) : State :=
  s.onFw fun w => if k = 0 then { w with slotA := f w.slotA } else { w with slotB := f w.slotB }

/-- The first `n` blocks of a slot; an erased byte of FLASH is 0xFF. -/
def ImageSlot.bytes (l : ImageSlot) (n : Nat) : List Byte :=
  (List.range n).flatMap fun i => toBytes 4096 (l.blocks.get (BitVec.allOnes 32768) i).toNat

/-- The header of an image (Table 15-2). -/
def ImageSlot.header (l : ImageSlot) : List Byte := toBytes 512 (l.blocks.get (BitVec.allOnes 32768) 0).toNat

/-- SCHEMA. -/
def ImageSlot.schema (l : ImageSlot) : Nat := fieldAt l.header 6 2
/-- SVN. -/
def ImageSlot.svn (l : ImageSlot) : Nat := fieldAt l.header 12 1
/-- KEY_SLOT. -/
def ImageSlot.key (l : ImageSlot) : Nat := fieldAt l.header 13 1
/-- REVOKE, bits [3:0]. -/
def ImageSlot.revoke (l : ImageSlot) : Nat := fieldAt l.header 14 1 % 16
/-- LENGTH. -/
def ImageSlot.length (l : ImageSlot) : Nat := fieldAt l.header 16 4

/-- Check 1 of R419. -/
def ImageSlot.formOk (l : ImageSlot) : Bool :=
  let h := l.header
  fieldAt h 0 4 == 0x474D494A && fieldAt h 4 2 == 1 && fieldAt h 15 1 == 0 && fieldAt h 216 296 == 0 &&
    l.length % 4096 == 0 && decide (4096 ≤ l.length) && decide (l.length ≤ 2 ^ 20)

/-- Check 2 of R419. -/
def Otp.keyOk (o : Otp) (l : ImageSlot) : Bool :=
  !bitOf o.revoked.toNat l.key &&
    match o.digests.find? l.key with
    | some d => decide (l.key < 4) && sha384 ((l.header.drop 24).take 96) == d.toNat
    | none => false

/-- Check 4 of R419. -/
def ImageSlot.signed (l : ImageSlot) : Bool :=
  let h := l.header
  let big (i : Nat) : Nat := ofBig ((h.drop i).take 48)
  let bs := l.bytes (l.length / 4096)
  ecdsaOk (big 24) (big 72) (big 120) (big 168) (sha384 (bs.take 120 ++ (bs.drop 216).take (l.length - 216)))

/-- The number of the first check of R419 that fails; 0 for a valid image. -/
def Otp.verify (o : Otp) (l : ImageSlot) : Nat :=
  if !l.formOk then 1 else if !o.keyOk l then 2 else if l.svn < o.counter then 3 else if !l.signed then 4 else 0

/-- The first check that the image of a slot fails; 0 for a valid one (R419). -/
def State.verify (s : State) (k : Nat) : Nat := s.fw.otp.verify (s.image k)

/-- Of two copies of a record, the valid one with the later sequence number, with its number (R417, R428). -/
def laterCopy (ok : List Byte → Bool) (seq : List Byte → BitVec 32) (a b : Option (List Byte)) :
    Option (Nat × List Byte) :=
  match a.filter ok, b.filter ok with
  | none, none => none
  | some x, none => some (0, x)
  | none, some y => some (1, y)
  | some x, some y => if serialGe32 (seq y) (seq x) then some (1, y) else some (0, x)

/-! ### The boot record and the FLASH map (R417, Table 15-1) -/

/-- A boot record as FLASH holds it. R417 lays out no bytes: sequence number, active slot, confirmed slots, the slot before
a trial plus one, a zero, CRC-32C are the model's (DESIGN CHOICE, log entry 68). -/
def BootRecord.bytes (r : BootRecord) (seq : BitVec 32) : List Byte :=
  let t := match r.trial with | some k => k + 1 | none => 0
  let head := toBytes 4 seq.toNat ++ toBytes 1 r.active ++ toBytes 1 (bit r.confA + 2 * bit r.confB) ++ toBytes 1 t ++
    toBytes 1 0
  head ++ toBytes 4 (crc32c head)

/-- A copy of the boot record is valid. -/
def bootOk (bs : List Byte) : Bool := bs.length == 12 && fieldAt bs 8 4 == crc32c (bs.take 8)

/-- The sequence number of a copy. -/
def bootSeq (bs : List Byte) : BitVec 32 := BitVec.ofNat 32 (fieldAt bs 0 4)

/-- What a copy of the boot record says. -/
def bootOf (bs : List Byte) : BootRecord :=
  { active := fieldAt bs 4 1, trial := if fieldAt bs 6 1 = 0 then none else some (fieldAt bs 6 1 - 1)
    confA := bitOf (fieldAt bs 5 1) 0, confB := bitOf (fieldAt bs 5 1) 1 }

/-- The copy in force: the valid one with the later sequence number. -/
def Firmware.bootCopy (w : Firmware) : Option (Nat × List Byte) := laterCopy bootOk bootSeq w.boot0 w.boot1

/-- The boot record in force; a blank device has slot A and nothing confirmed. -/
def Firmware.boot (w : Firmware) : BootRecord :=
  match w.bootCopy with
  | some c => bootOf c.2
  | none => {}

/-- The boot record is written to the copy that is not in force, with the next sequence number. -/
def Firmware.writeBoot (w : Firmware) (r : BootRecord) : Firmware :=
  match w.bootCopy with
  | some (0, bs) => { w with boot1 := some (r.bytes (bootSeq bs + 1)) }
  | some (_, bs) => { w with boot0 := some (r.bytes (bootSeq bs + 1)) }
  | none => { w with boot0 := some (r.bytes 1) }

/-- The boot record comes to say `r`: it is written where it does not. -/
def Firmware.setBoot (w : Firmware) (r : BootRecord) : Firmware := if w.boot = r then w else w.writeBoot r

/-- A byte of FLASH (Table 15-1); an erased byte is 0xFF, and what stands outside the areas of the map is free. -/
def State.flashByte (s : State) (a : Nat) : Byte :=
  let block (l : ImageSlot) (i : Nat) : Byte := ((l.blocks.get (BitVec.allOnes 32768) (i / 4096)) >>> (8 * (i % 4096))).setWidth 8
  let copy (c : Option (List Byte)) (i : Nat) : Byte := (c.getD []).getD i 0xFF
  if a < 0x100000 then block s.fw.slotA a
  else if a < 0x200000 then block s.fw.slotB (a - 0x100000)
  else if a < 0x210000 then copy s.fw.settings0 (a - 0x200000)
  else if a < 0x220000 then copy s.fw.settings1 (a - 0x210000)
  else if 0x3FE000 ≤ a ∧ a < 0x3FF000 then copy s.fw.boot0 (a - 0x3FE000)
  else if 0x3FF000 ≤ a ∧ a < 0x400000 then copy s.fw.boot1 (a - 0x3FF000)
  else Config.flashRest a

/-! ### The settings record (R428, Table 15-6) -/

/-- A record of its items from byte 32 (R428). -/
def settingsRecord (schema : Nat) (seq : BitVec 32) (items : List Byte) : List Byte :=
  let head := toBytes 4 0x5445534A ++ toBytes 2 schema ++ toBytes 2 0 ++ toBytes 4 seq.toNat ++
    toBytes 4 (32 + items.length)
  let rest := List.replicate 12 0 ++ items
  head ++ toBytes 4 (crc32c (head ++ rest)) ++ rest

/-- A copy holds a valid record. -/
def recordOk (bs : List Byte) : Bool :=
  fieldAt bs 0 4 == 0x5445534A && fieldAt bs 12 4 == bs.length && decide (bs.length ≤ 65536) &&
    fieldAt bs 16 4 == crc32c (bs.take 16 ++ bs.drop 20)

/-- SEQ of a record. -/
def recordSeq (bs : List Byte) : BitVec 32 := BitVec.ofNat 32 (fieldAt bs 8 4)

/-- The record in force: the valid copy with the later SEQ, with the number of its copy. -/
def State.settings (s : State) : Option (Nat × List Byte) :=
  laterCopy recordOk recordSeq s.fw.settings0 s.fw.settings1

/-- The next record goes to the other copy, with the next SEQ (R428, R430). -/
def State.writeSettings (s : State) (items : List Byte) : State :=
  let (copy, seq) : Nat × BitVec 32 := match s.settings with
    | some (k, bs) => (1 - k, recordSeq bs + 1)
    | none => (0, 1)
  let bs := settingsRecord s.fw.schema seq items
  s.onFw fun w => if copy = 0 then { w with settings0 := some bs } else { w with settings1 := some bs }

/-- The defaults of Table 15-6, from byte 32. -/
def defaultItems (m : Model) : List Byte :=
  (List.range 8).flatMap (fun i => toBytes 2 ((scaledLeak m Prod.fst).get 0 i) ++ toBytes 2 ((scaledLeak m Prod.snd).get 0 i)) ++
    toBytes 2 (2000 * m.clusters / 8) ++ toBytes 2 (2000 * m.clusters / 8) ++ toBytes 4 5000 ++
    toBytes 4 500000 ++ [0x10, 1, 2, 16, 8, 0x25] ++ toBytes 4 600 ++ toBytes 2 64 ++ toBytes 2 10 ++
    toBytes 2 10 ++ toBytes 4 115200 ++ toBytes 2 0 ++ toBytes 2 0 ++ List.replicate 28 0

/-- Items of a record from byte 32, with the boot count and the repair entries put in. -/
def withRepairs (items : List Byte) (bootCount : BitVec 16) (repairs : List (BitVec 64)) : List Byte :=
  items.take 64 ++ toBytes 2 bootCount.toNat ++ toBytes 2 repairs.length ++ (items.drop 68).take 28 ++
    repairs.flatMap (fun e => toBytes 8 e.toNat)

/-- The items that firmware goes by, from the bytes after the header. -/
def itemsOf (bs : List Byte) : Items :=
  let f := fieldAt bs
  { repairAuto := f 45 1 != 0, patchRepeat := f 46 1, laneLapLimit := 16 * f 47 1, lanePatchLimit := f 48 1
    rotateEn := bitOf (f 49 1) 0, rotateTest := bitsOf (f 49 1) 1 3, startTest := bitsOf (f 49 1) 4 3
    rotatePeriod := f 50 4, retHold := f 54 2, anaPeriod := f 56 2, bootCount := BitVec.ofNat 16 (f 64 2)
    repairs := (List.range (f 66 2)).map fun i => BitVec.ofNat 64 (f (96 + 8 * i) 8) }

/-- Ticks of an idle timer that IDLE_TIMER_SET would take (R364). -/
def ticksOk (t : Nat) : Bool := t == 0 || (decide (50 ≤ t) && decide (t ≤ 50000000))

/-- A repair entry in its range (Table 15-6). -/
def repairOk (m : Model) (e : Nat) : Bool :=
  m.hasBank (bitsOf e 0 8) && bitsOf e 48 16 == 0 &&
    if bitOf e 15 then bitsOf e 8 7 == 0 && decide (bitsOf e 32 8 < 36)
    else bitsOf e 13 2 == 0 && decide (bitsOf e 16 16 < 16384) &&
      (decide (bitsOf e 32 8 < 36) || bitsOf e 32 8 == 63) && decide (bitsOf e 40 8 < 64)

/-- Every item is in its range (R430, Tables 11-6, 12-6, 15-6). -/
def itemsOk (m : Model) (bs : List Byte) : Bool :=
  let f := fieldAt bs
  ticksOk (f 36 4) && ticksOk (f 40 4) && decide (f 45 1 ≤ 1) && !bitOf (f 49 1) 7 &&
    decide (bitsOf (f 49 1) 1 3 ≤ 4) && (decide (bitsOf (f 49 1) 4 3 ≤ 4) || bitsOf (f 49 1) 4 3 == 7) &&
    decide (1 ≤ f 50 4) && decide (f 50 4 ≤ 86400) && decide (1 ≤ f 54 2) && decide (f 54 2 ≤ 1000) &&
    decide (1 ≤ f 56 2) && decide (f 56 2 ≤ 600) && decide (1 ≤ f 58 2) && decide (f 58 2 ≤ 600) &&
    decide (9600 ≤ f 60 4) && decide (f 60 4 ≤ 3000000) && decide (f 66 2 ≤ 4352) && f 68 28 == 0 &&
    bs.length == 96 + 8 * f 66 2 &&
    (List.range (f 66 2)).all (fun i => repairOk m (f (96 + 8 * i) 8))

/-! ### Applying the settings (R332, R429) -/

/-- The patch that a repair entry stands for. -/
def repairPatch (e : Nat) : BitVec 32 := patchEntry (bitsOf e 16 16) (bitsOf e 32 8) (bitsOf e 40 8)

/-- A repair entry can be installed now: no copy of its bank runs, and no access holds its row (R28, R330, R350). -/
def State.repairReady (s : State) (e : BitVec 64) : Bool :=
  !s.bankBusy (bitsOf e.toNat 0 8) && (bitOf e.toNat 15 || s.rowFree (bitsOf e.toNat 0 8) (bitsOf e.toNat 16 14) true)

/-- Install one repair entry, unless it is installed (R332); one that has to wait is kept until it can be. -/
def State.installRepair (s : State) (e : BitVec 64) : State :=
  let w := e.toNat
  let g := bitsOf w 0 8
  if ¬ s.cfg.hasBank g ∨ (s.lbank g).out then s
  else if !s.repairReady e then s.onFw fun f => { f with toInstall := f.toInstall ++ [e] }
  else if bitOf w 15 then
    if (s.retired g).contains (bitsOf w 32 8) ∨ 2 ≤ (s.retired g).length then s
    else s.retireLane g (bitsOf w 32 8)
  else if patchValid ((s.slotIn g).patches.get 0 (bitsOf w 8 5)) then s
  else s.installPatch g (bitsOf w 8 5) (repairPatch w)

/-- The repair entries that have waited are installed as soon as they can be (R28, R330, R332). -/
def State.installWaiting (s : State) : State :=
  if s.fw.toInstall = [] then s
  else s.fw.toInstall.foldl State.installRepair (s.onFw fun f => { f with toInstall := [] })

/-- Firmware puts the items of a record into force (R429, Table 15-6). -/
def State.putItems (s : State) (bs : List Byte) : State :=
  let f := fieldAt bs
  let s := s.onGov fun g =>
    { g with leakNom := (List.range 8).map (fun i => (i, f (4 * i) 2))
             leakEco := (List.range 8).map (fun i => (i, f (4 * i + 2) 2)), ctrl := f 32 2, floor := f 34 2 }
  let s := (List.range s.cfg.clusters).foldl
    (fun s c => s.onCpower c fun p => { p with ticks := f 36 4, count := 0 }) s
  let s := s.onPower fun p =>
    { p with ticks := f 40 4, count := 0, railLog := BitVec.ofNat 4 (f 44 1), railArr := BitVec.ofNat 4 (f 44 1 / 16) }
  s.onFw fun w =>
    { w with items := itemsOf bs, window := f 58 2, mon := { w.mon with baud := f 60 4 } }

/-- Firmware applies the record in force, or the defaults of the image's schema (R429). A record of
another schema stays as it is; otherwise the record is rewritten with the next boot count. -/
def State.applySettings (s : State) : State :=
  let found := s.settings
  let mine := found.filter (fun r => fieldAt r.2 4 2 == s.fw.schema)
  let bs := match mine with | some r => r.2.drop 32 | none => defaultItems s.cfg
  let s := (s.onFw fun w => { w with defaulted := mine.isNone }).putItems bs
  let s := if mine.isNone then
      (s.fwFlag 1).onFw fun w => { w with mon := { w.mon with out := w.mon.out ++ [.note "settings: defaults"] } }
    else s
  let s := s.fw.items.repairs.foldl State.installRepair s
  if found.isSome ∧ mine.isNone then s
  else
    let s := s.onFw fun w => { w with items := { w.items with bootCount := w.items.bootCount + 1 } }
    s.writeSettings (withRepairs bs s.fw.items.bootCount s.fw.items.repairs)

/-- The items of the record that firmware rewrites: those of the record in force under the image's
schema, or its defaults. -/
def State.currentItems (s : State) : List Byte :=
  match s.settings.filter (fun r => fieldAt r.2 4 2 == s.fw.schema) with
  | some r => r.2.drop 32
  | none => defaultItems s.cfg

/-- Firmware changes its repair entries and rewrites the record (R429). -/
def State.setRepairs (s : State) (rs : List (BitVec 64)) : State :=
  (s.onFw fun w => { w with items := { w.items with repairs := rs } }).writeSettings
    (withRepairs s.currentItems s.fw.items.bootCount rs)

end Sys2Proof.Machine
end

