-- ==== Sys2Proof/Machine/CmdFw.lean ====
section
/-!
DEFINITION. The boot of an image, activation, trial and fallback, and the firmware and settings
commands (15_firmware_monitor.md, R422 to R433).
-/

namespace Sys2Proof.Machine

/-! ### Shepherds and the image they run -/

/-- A Shepherd that an image can start on: no HALF reaction against it, no HALF_RESET of it under
way (R402, R409). -/
def State.startable (s : State) (half : Bool) : Bool :=
  !s.half half && (if half then s.safety.resetB else s.safety.resetA).isNone

/-- The Shepherds run the image of a slot (R423, R427). -/
def State.runImage (s : State) (k : Nat) : State :=
  let l := s.image k
  let s := s.onInteg fun n => { n with anaAt := none }
  let s := s.onFw fun w =>
    { w with state := .running, active := k, activeKnown := true, svn := l.svn, schema := l.schema
             runA := s.startable false, runB := s.startable true
             mon := { w.mon with line := [], lines := [] } }
  s.onSafety fun y => { y with wdogA := s.worked, wdogB := s.worked }

/-- Firmware is stopped for a switch: neither Shepherd takes a command (R52, R423). -/
def State.stopFirmware (s : State) : State :=
  (s.onFw fun w => { w with state := .switching, runA := false, runB := false }).onSafety fun y =>
    { y with crookFrom := none }

/-- The token check applies 100 µs after STATE becomes RUNNING (R416, R423); at once where Shepherd-A
does not start (R402). -/
def State.armToken (s : State) (atOnce : Bool) : State :=
  s.onSafety fun y =>
    { y with crookFrom := some (if atOnce then s.worked else s.worked + 100 * usec) }

/-- A fallback is recorded (R426, R427). -/
def State.fallbackNoted (s : State) : State :=
  (s.log { code := 0x66 }).fwFlag 0

/-- The spares that were never tested get START_TEST (R348): at once, or at a later step of firmware where the cluster is
in STOP or busy or the block in Safe Hold. Not in SCRAP, where no test is allowed (R360). -/
def State.startTests (s : State) : State :=
  let t := s.fw.items.startTest
  if t = 7 ∨ s.safety.hold ∨ s.safety.lifecycle = 4 then s
  else
    (List.range s.cfg.clusters).foldl (fun s c =>
      match s.spareOf c with
      | some k =>
        if (s.ctest c).startTested ∨ (s.slot (17 * c + k)).tested ∨ s.clusterBusy c ∨ ¬ s.inRun c then s
        else ((s.startTest c k t none none).logSlot 0x65 c k).onCtest c fun n => { n with startTested := true }
      | none => s) s

/-! ### Boot (R427) -/

/-- What a boot starts: the slot, the slot before its trial if it is one, and whether it is a
fallback (R426, R427). -/
def State.bootChoice (s : State) : Option (Nat × Option Nat × Bool) :=
  let ok (k : Nat) : Bool := s.verify k == 0
  let conf (k : Nat) : Bool := s.fw.boot.confirmed k && ok k
  let fresh (k : Nat) : Bool :=
    !s.fw.boot.confA && !s.fw.boot.confB && decide ((s.image k).state = .verified) && ok k
  let a := s.fw.boot.active
  let b := 1 - a
  match s.fw.boot.trial.filter conf with
  | some old => some (old, none, true)
  | none =>
    if conf a then some (a, none, false)
    else if conf b then some (b, none, true)
    else if fresh a then some (a, some b, false)
    else if fresh b then some (b, some a, false)
    else none

/-- The state of a slot as the boot record has it: CONFIRMED where it is marked so (R417). -/
def ImageSlot.bootState (l : ImageSlot) (conf : Bool) : ImageSlot :=
  if conf then { l with state := .confirmed } else if l.state = .confirmed then { l with state := .verified } else l

/-- The boot record in force is read: it gives the slots marked confirmed (R417). -/
def State.readBoot (s : State) : State :=
  s.onFw fun w => { w with slotA := w.slotA.bootState w.boot.confA, slotB := w.slotB.bootState w.boot.confB }

/-- The start of firmware: 1 BOOTING from the step after hardware ready (Table 17-5; the moment is DEDUCED, log entry
68). -/
def State.startBooting (s : State) : State :=
  if s.integ.postDone ∧ s.fw.state = .off then s.onFw fun w => { w with state := .booting } else s

/-- FIRMWARE_BOOT: the boot record is read, an image is verified and booted, settings are applied
(R417, R427, R429, R455). -/
def State.firmwareBoot (s : State) (flashOk : Bool) : State :=
  if ¬ s.integ.postDone ∨ (s.fw.state ≠ .off ∧ s.fw.state ≠ .booting) then s
  else if !flashOk then s.onFw fun w => { w with state := .failed }
  else
    let s := s.readBoot
    match s.bootChoice with
    | none => s.onFw fun w => { w with state := .failed }
    | some (k, trial, back) =>
      let s := s.onFw fun w =>
        { w.setBoot { w.boot with active := k, trial := trial } with
            trialAt := if trial.isSome then some s.time.advance else none }
      let s := if back then s.fallbackNoted else s
      let s := s.runImage k
      ((s.armToken (s.half false)).applySettings).startTests

/-! ### Trial and fallback (R424 to R426) -/

/-- A trial falls back to the slot that was active before it, with T already passed (R426). -/
def State.beginFallback (s : State) : State :=
  match s.fw.boot.trial with
  | some old =>
    if s.fw.trialAt.isSome ∧ s.fw.fallback = none then
      s.stopFirmware.onFw fun w =>
        { w with fallback := some w.active
                 pendingAct := some { slot := old, target := s.now, edge := some s.worked } }
    else s
  | none => s

/-- The nanoseconds of a confirm window. -/
def Firmware.windowNs (w : Firmware) : Int := w.window * 1000000000

/-- CONFIRM_WINDOW_EXPIRE (R424, R426). -/
def State.windowExpire (s : State) : State :=
  match s.fw.trialAt with
  | some t =>
    if s.fw.state = .running ∧ t + s.fw.windowNs * 2 ^ 32 ≤ s.time.advance then s.beginFallback else s
  | none => s

/-- Seconds left in the trial, rounded up (FW_IMG_STATE.WINDOW_LEFT). -/
def State.windowLeft (s : State) : Nat :=
  match s.fw.trialAt with
  | some t => ((t + s.fw.windowNs * 2 ^ 32 - s.time.advance + (1000000000 * 2 ^ 32 - 1)) / (1000000000 * 2 ^ 32)).toNat
  | none => 0

/-- FW_IMG_STATE (Table 15-10). -/
def State.imgState (s : State) : Nat :=
  let w := s.fw
  w.active + bit w.trialAt.isSome * 2 + bit (w.pendingAct.any (·.cmd.isSome)) * 4 + bit w.defaulted * 8 +
    w.slotA.state.code * 2 ^ 4 + w.slotB.state.code * 2 ^ 6 + w.svn % 64 * 2 ^ 8 + s.windowLeft % 1024 * 2 ^ 20

/-! ### Activation (R422, R423) -/

/-- The command of an activation ends. -/
def State.endActivation (s : State) (a : Activation) (st : Status) : State :=
  match a.cmd with
  | some (token, c) => s.finish token c { status := (s.cut token).getD st }
  | none => s

/-- Firmware goes on as it was before the edge. The watchdogs stood from the edge on (R423). -/
def State.backToRunning (s : State) (edge : Nat) : State :=
  let s := s.onFw fun w =>
    { w with state := .running, pendingAct := none, runA := s.startable false, runB := s.startable true }
  (s.armToken false).onSafety fun y =>
    { y with wdogA := y.wdogA + (s.worked - edge), wdogB := y.wdogB + (s.worked - edge) }

/-- An activation that was cut, or that has found no safe point, is dropped. -/
def State.dropActivation (s : State) (a : Activation) (st : Status) : State :=
  (match a.edge with
    | some t => s.backToRunning t
    | none => s.onFw fun w => { w with pendingAct := none }).endActivation a st

/-- ACTIVATION_EDGE: the time base passes T (R422, R423). -/
def State.activationEdge (s : State) : State :=
  match s.fw.pendingAct with
  | some a =>
    if a.edge = none ∧ s.fw.state = .running ∧ s.ready ∧ serialGe64 s.now a.target then
      s.stopFirmware.onFw fun w => { w with pendingAct := some { a with edge := some s.worked } }
    else s
  | none => s

/-- No command is queued at a Shepherd or executed by one, the activation aside (R423). -/
def State.safePoint (s : State) (a : Activation) : Bool :=
  s.cmd.waiting.all (fun w => w.half.isNone) &&
    s.cmd.deferred.all (fun d => d.half.isNone || a.cmd.any (fun q => q.1 == d.token))

/-- ACTIVATION_SAFE_POINT: both Shepherds stop, the boot record is written, the image is started
(R423); a fallback is recorded with it (R426). -/
def State.activationSafePoint (s : State) : State :=
  match s.fw.pendingAct with
  | some a =>
    if a.edge.isSome ∧ a.safe = none ∧ s.ready ∧ s.safePoint a then
      let old := s.fw.active
      let s := s.onFw fun w =>
        { w.setBoot { w.boot with active := a.slot, trial := if w.fallback.isSome then none else some old } with
            pendingAct := some { a with safe := some s.worked }, active := a.slot, trialAt := none }
      if s.fw.fallback.isSome then s.fallbackNoted else s
    else s
  | none => s

/-- ACTIVATION_TIMEOUT: no safe point within 1 s of the edge (R423). -/
def State.activationTimeout (s : State) : State :=
  match s.fw.pendingAct with
  | some a =>
    match a.edge with
    | some t =>
      if a.cmd.isSome ∧ a.safe = none ∧ t + 1000 * msec ≤ s.worked then s.dropActivation a .timeout else s
    | none => s
  | none => s

/-- IMAGE_RUNNING: both Shepherds report ready; the state becomes RUNNING, and a trial starts unless
this is a fallback (R423, R424, R426). -/
def State.imageRunning (s : State) : State :=
  match s.fw.pendingAct with
  | some a =>
    if s.fw.state = .switching ∧ a.safe.any (fun t => decide (s.worked ≤ t + 30 * msec)) ∧ s.verify a.slot = 0 then
      let back := s.fw.fallback.isSome
      let s := s.runImage a.slot
      let s := s.onFw fun w =>
        { w with pendingAct := none, fallback := none
                 trialAt := if back then none else some s.time.advance }
      (((s.armToken false).applySettings.startTests).fwFlag 2).endActivation a .ok
    else s
  | none => s

/-- IMAGE_START_TIMEOUT: the image has not reached RUNNING within 30 ms of the safe point; the trial
falls back, and where the image that it falls back to does not start either, firmware has failed
(R423, R426, R427). -/
def State.imageStartTimeout (s : State) : State :=
  match s.fw.pendingAct with
  | some a =>
    match a.safe with
    | some t =>
      if s.fw.state = .switching ∧ t + 30 * msec ≤ s.worked then
        match s.fw.fallback, s.fw.boot.trial with
        | none, some old =>
          (s.onFw fun w =>
            { w with fallback := some a.slot
                     pendingAct := some { slot := old, target := s.now, edge := some s.worked } })
            |>.endActivation a .timeout
        | _, _ =>
          (s.onFw fun w => { w with state := .failed, pendingAct := none, fallback := none }).endActivation a
            .timeout
      else s
    | none => s
  | none => s

/-! ### Commands (Table 15-8) -/

/-- FW_QUERY (R433). -/
def bodyFwQuery : Body :=
  { code := 0x900, units := 0, path := onHolder, q := true
    act := fun _ _ s => .done { status := .ok, result := s.imgState } s }

/-- A trial is in progress, or the image that starts one is being started (R421, R424). -/
def State.inTrial (s : State) : Bool :=
  s.fw.trialAt.isSome || (decide (s.fw.state = .switching) && s.fw.boot.trial.isSome)

/-- ACTIVATE_AT (R422). -/
def bodyActivateAt : Body :=
  { code := 0x901, units := 1, path := onHolder, sys := true
    check := fun c s =>
      let k := c.par 0 1
      firstRefusal
        [c.params [byteField 0 1, byteField 8 8]
          [(0, decide (1 < k) || k == s.fw.active || decide ((s.image k).state ≠ .verified))],
         busyIf (s.fw.pendingAct.isSome || s.inTrial),
         refuseIf (s.verify k ≠ 0) { status := .perm, detail := 5 + s.verify k }]
    holds := fun c _ => [.image (c.par 0 1)]
    act := fun token c s =>
      let a : Activation := { slot := c.par 0 1, target := BitVec.ofNat 64 (c.par 8 8), cmd := some (token, c) }
      .running (s.onFw fun w => { w with pendingAct := some a }) }

/-- A trial whose confirm window has not ended (R424, R426). -/
def State.confirmable (s : State) : Bool :=
  s.fw.fallback.isNone && s.fw.trialAt.any (fun t => decide (s.time.advance < t + s.fw.windowNs * 2 ^ 32))

/-- The trial image is confirmed: boot record, counter, revocations (R425). -/
def State.confirm (s : State) : State :=
  if s.confirmable then
    let k := s.fw.active
    let l := s.image k
    let revoked := (List.range 4).foldl
      (fun (w : BitVec 4) i => if bitOf l.revoke i ∧ i ≠ l.key then setBit w i else w) s.fw.otp.revoked
    (s.onImage k fun l => { l with state := .confirmed }).onFw fun w =>
      { w.setBoot { (w.boot.mark k true) with active := k, trial := none } with
          trialAt := none
          otp := { w.otp with counter := max w.otp.counter (min l.svn 63), revoked := revoked } }
  else s

/-- HEALTH_OK (R425). -/
def bodyHealthOk : Body :=
  { code := 0x902, units := 0, path := onHolder, sys := true
    act := fun _ _ s => Act.ok s.confirm }

/-- CONFIRM_WINDOW_SET (R424). -/
def bodyConfirmWindowSet : Body :=
  { code := 0x903, units := 1, path := onHolder, sys := true
    check := fun c _ => c.params [byteField 0 2] [(0, c.par 0 2 == 0 || decide (600 < c.par 0 2))]
    act := fun _ c s => Act.ok (s.onFw fun w => { w with window := c.par 0 2 }) }

/-- The record that SETTINGS_READ delivers (R430). -/
def State.settingsShown (s : State) : List Byte :=
  match s.settings with
  | some r => r.2
  | none => settingsRecord s.fw.schema 0 (defaultItems s.cfg)

/-- SETTINGS_READ (R430). -/
def bodySettingsRead : Body :=
  { code := 0x910, units := 1, path := onHolder, q := true
    memory := fun _ => true
    check := fun c s =>
      firstRefusal
        [c.params [byteField 8 5] [(8, c.par 8 5 % 32 != 0)],
         rangeRefusal (s.rangeStops c.ctx [.w] false (c.par 8 5) s.settingsShown.length)]
    touches := fun c s => s.clustersOf (c.par 8 5) s.settingsShown.length
    spans := fun c s => [(c.par 8 5, s.settingsShown.length, true)]
    act := fun _ c s =>
      let bs := s.settingsShown
      .done { status := .ok, result := bs.length } (s.initWrite (c.par 8 5) bs) }

/-- A record that SETTINGS_WRITE takes (R430). -/
def State.settingsGood (s : State) (bs : List Byte) : Bool :=
  recordOk bs && fieldAt bs 4 2 == s.fw.schema && fieldAt bs 6 2 == 0 && fieldAt bs 20 12 == 0 &&
    itemsOk s.cfg (bs.drop 32)

/-- FLASH fails the write of a settings record: the record in force stays, and the copy that was being written is no record
any more (R428, R433). -/
def State.failSettings (s : State) : State :=
  match s.settings with
  | some (1, _) => s.onFw fun w => { w with settings0 := none }
  | some (_, _) => s.onFw fun w => { w with settings1 := none }
  | none => s.onFw fun w => { w with settings0 := none }

/-- SETTINGS_WRITE (R430). Whether FLASH fails is the device's: a free value (log entry 68). -/
def bodySettingsWrite : Body :=
  { code := 0x911, units := 1, path := onHolder, sys := true
    check := fun c s =>
      firstRefusal
        [c.params [byteField 0 4, byteField 8 5]
          [(0, decide (c.par 0 4 < 32) || decide (65536 < c.par 0 4))],
         rangeRefusal (s.rangeStops c.ctx [.r] false (c.par 8 5) (c.par 0 4))]
    touches := fun c s => s.clustersOf (c.par 8 5) (c.par 0 4)
    spans := fun c _ => [(c.par 8 5, c.par 0 4, false)]
    act := fun _ c s =>
      let (got, s) := s.initRead (c.par 8 5) (c.par 0 4)
      if got.marked ≠ [] then .done (badParam 8) (s.markedParams (got.places (c.par 8 5)))
      else if !s.settingsGood got.bytes then .done (badParam 8) s
      else
        let (v, s) := s.draw
        if bitOf v.toNat 0 then .done { status := .internal } s.failSettings
        else
        let items := got.bytes.drop 32
        let s := s.writeSettings items
        let s := s.onFw fun w => { w with items := { w.items with repairs := (itemsOf items).repairs } }
        Act.ok (s.fw.items.repairs.foldl State.installRepair s) }

/-- SETTINGS_DEFAULT (R430). -/
def bodySettingsDefault : Body :=
  { code := 0x912, units := 0, path := onHolder, sys := true
    act := fun _ _ s =>
      Act.ok (s.writeSettings
        (withRepairs (defaultItems s.cfg) s.fw.items.bootCount s.fw.items.repairs)) }

end Sys2Proof.Machine
end

