-- ==== Sys2Proof/Machine/Svc.lean ====
section
/-!
DEFINITION. The service port and the receiver of the monitor port (15_firmware_monitor.md, R420,
R421, R431).
-/

namespace Sys2Proof.Machine

/-- Change the service port. -/
def State.onSvc (s : State) (f : Svc → Svc) : State := s.onFw fun w => { w with svc := f w.svc }

/-- READY: the block takes frames (Table 15-3). -/
def State.svcReady (s : State) : Bool := s.integ.postDone && decide (s.power.block = .run)

/-- The status word (Table 15-3). -/
def State.svcStatus (s : State) : List Byte :=
  let v := s.fw.svc
  toBytes 1 (bit s.svcReady + bit v.busy * 2 + v.vcheck * 4) ++ toBytes 1 v.result ++ toBytes 2 v.blocks ++
    toBytes 2 (min v.out.length 0xFFFF) ++ toBytes 1 (s.fw.state.code + s.safety.lifecycle * 16) ++
    toBytes 1 (s.fw.slotA.state.code + s.fw.slotB.state.code * 4 + s.fw.active * 16)

/-- RESULT of a frame or an image operation (Table 15-4). -/
def State.svcResult (s : State) (r : Nat) : State := s.onSvc fun v => { v with result := r, vcheck := 0 }

/-- A frame arrives: its SVC_CS_N edge wakes the block, the status word is its answer, and while READY is 0 it is
discarded (R373, R420). -/
def State.svcFrame (s : State) (f : State → State) : State :=
  if !s.pins.pwrOk then s
  else
    let s := (s.onSvc fun v => { v with lastAnswer := s.svcStatus }).wakeBlock
    if s.svcReady then f s else s.svcResult 6

/-- An image frame: refused in SCRAP and while an image operation is in progress (Tables 15-3, 15-4). -/
def State.imageFrame (s : State) (f : State → State) : State :=
  s.svcFrame fun s =>
    if s.safety.lifecycle = 4 then s.svcResult 7 else if s.fw.svc.busy then s.svcResult 9 else f s

/-- SVC_STATUS: the status word is the answer, and nothing else happens. -/
def State.svcStatusFrame (s : State) : State := s.svcFrame id

/-- A slot is locked (R421). ACTIVE is undefined after reset, so that it locks nothing before firmware writes it (R15). -/
def State.slotLocked (s : State) (k : Nat) : Bool :=
  (s.fw.activeKnown && k == s.fw.active) || s.inTrial ||
    match s.fw.pendingAct with | some a => a.slot == k | none => false

/-- IMG_OPEN (Table 15-4, R421). -/
def State.imgOpen (s : State) (arg : BitVec 32) (flashOk : Bool) : State :=
  s.imageFrame fun s =>
    let k := arg.toNat
    if 1 < k ∨ s.slotLocked k then s.svcResult 3
    else
      let s := (s.onImage k fun l => { state := .empty, blocks := l.blocks.erase 0 }).onFw fun w =>
        w.setBoot (w.boot.mark k false)
      if flashOk then
        (s.svcResult 0).onSvc fun v => { v with open_ := some k, blocks := 0, done := [] }
      else (s.svcResult 4).onSvc fun v => { v with open_ := none, blocks := 0, done := [] }

/-- IMG_BLOCK: the block is taken into a staging buffer (R421). -/
def State.imgBlock (s : State) (arg : BitVec 32) (data : BitVec 32768) : State :=
  s.imageFrame fun s =>
    if s.fw.svc.open_ = none ∨ 256 ≤ arg.toNat then s.svcResult 2
    else
      (s.svcResult 0).onSvc fun v => { v with busy := true, staging := v.staging ++ [(arg.toNat, data)] }

/-- IMG_BLOCK_PROGRAMMED: the staged block has been programmed and read back (R421). -/
def State.imgProgrammed (s : State) (flashOk : Bool) : State :=
  match s.fw.svc.staging, s.fw.svc.open_ with
  | (i, data) :: rest, some k =>
    let others := s.fw.svc.done.filter (fun j => j != i)
    let done := if flashOk then others ++ [i] else others
    let s := if flashOk then s.onImage k fun l => { l with blocks := l.blocks.set i data } else s
    (s.svcResult (if flashOk then 0 else 4)).onSvc fun v =>
      { v with staging := rest, busy := !rest.isEmpty, done := done, blocks := done.length }
  | _, _ => s

/-- IMG_CLOSE: verification of blocks 0 to N − 1 begins (Table 15-4). -/
def State.imgClose (s : State) (arg : BitVec 32) : State :=
  s.imageFrame fun s =>
    let n := arg.toNat
    match s.fw.svc.open_ with
    | none => s.svcResult 2
    | some k =>
      if n = 0 ∨ 256 < n ∨ !(List.range n).all s.fw.svc.done.contains ∨ s.fw.svc.done.any (fun i => decide (n ≤ i)) then
        s.svcResult 2
      else (s.svcResult 0).onSvc fun v => { v with busy := true, closing := some (k, n) }

/-- IMG_CLOSE_END: the slot becomes VERIFIED or stays EMPTY (R419, Table 15-4). -/
def State.imgCloseEnd (s : State) : State :=
  match s.fw.svc.closing with
  | some (k, n) =>
    let l := s.image k
    let check := if l.formOk && l.length != 4096 * n then 1 else s.verify k
    let s := if check = 0 then s.onImage k fun l => { l with state := .verified } else s
    (s.onSvc fun v =>
      { v with busy := false, closing := none, open_ := none, done := [], result := if check = 0 then 0 else 5
               vcheck := check }).fwFlag 3
  | none => s

/-- The dump that waits for its last byte to be read out is over (R421). -/
def State.endReadDump (s : State) : State :=
  match s.folds.dumps.find? (fun d => d.cmd.dumpSvc && d.next == s.foldCount) with
  | some d => if s.fw.svc.out = [] then s.endDump d { status := .ok } else s
  | none => s

/-- SVC_READ: LEN bytes leave the outbound queue; those it lacks read as 0 (R421). -/
def State.svcRead (s : State) (len : Nat) : State :=
  if 4096 < len then s
  else
    s.svcFrame fun s =>
      let bs := s.fw.svc.out.take len
      let shown := bs ++ List.replicate (len - bs.length) 0
      let s := (s.svcResult 0).onSvc fun v =>
        { v with out := v.out.drop len, lastAnswer := v.lastAnswer ++ shown ++ toBytes 4 (crc32c shown) }
      s.endReadDump

/-! ### A frame as it comes on MOSI (R420) -/

/-- OP of a frame (Table 15-4). -/
inductive SvcOp where
  | status | imgOpen | imgBlock | imgClose | read
deriving DecidableEq, Repr

/-- The operation of an OP byte. -/
def svcOp : Nat → Option SvcOp
  | 0x01 => some .status | 0x10 => some .imgOpen | 0x11 => some .imgBlock | 0x12 => some .imgClose | 0x20 => some .read
  | _ => none

/-- A frame that ends after exactly 12 + LEN bytes, LEN at most 4096, with a good CRC; an IMG_BLOCK delivers a whole block
(R420, Table 15-4; the last is DEDUCED, log entry 68). -/
def frameOk (op : SvcOp) (bs : List Byte) : Bool :=
  let n := fieldAt bs 2 2
  decide (n ≤ 4096) && bs.length == 12 + n && fieldAt bs (8 + n) 4 == crc32c (bs.take (8 + n)) &&
    (decide (op ≠ .imgBlock) || n == 4096)

/-- What a good frame does. -/
def State.svcRun (s : State) (op : SvcOp) (bs : List Byte) (flashOk : Bool) : State :=
  let arg := BitVec.ofNat 32 (fieldAt bs 4 4)
  match op with
  | .status => s.svcStatusFrame
  | .imgOpen => s.imgOpen arg flashOk
  | .imgBlock => s.imgBlock arg (BitVec.ofNat 32768 (ofBytes ((bs.drop 8).take 4096)))
  | .imgClose => s.imgClose arg
  | .read => s.svcRead (fieldAt bs 2 2)

/-- SVC_BAD_FRAME: the bytes of a frame. One with an unknown OP, a wrong length or a bad CRC changes nothing but RESULT;
where both hold BAD_OP is shown (DESIGN CHOICE, log entry 68). Any other is acted on. -/
def State.svcBytes (s : State) (f : SvcFrame) : State :=
  match f.mosi.head? with
  | none => s.svcFrame (·.svcResult 1)
  | some b =>
    match svcOp b.toNat with
    | none => s.svcFrame (·.svcResult 8)
    | some op => if frameOk op f.mosi then s.svcRun op f.mosi f.flashOk else s.svcFrame (·.svcResult 1)

/-- MON_CHAR_RX: a character enters the FIFO or is counted as overrun, and its start bit wakes the block
(R373, R431). -/
def State.monChar (s : State) (ch : Byte) : State :=
  if !s.pins.pwrOk then s
  else
    let s := s.onFw fun w =>
      { w with mon :=
          if w.mon.fifo.length < 64 then { w.mon with fifo := w.mon.fifo ++ [ch] }
          else { w.mon with overrun := satAdd 0xFFFF w.mon.overrun 1 } }
    s.wakeBlock

end Sys2Proof.Machine
end

