-- ==== Sys2Proof/Machine/FaultData.lean ====
section
/-!
DEFINITION. What a fault strikes and what its checker does to it before it is delivered or stored (R390 to R395), and
uncorrectable ledger storage (R413). Which piece, request, response or decision a fault strikes is the next one that its
checker has (DESIGN CHOICE, log entry 71).
-/

namespace Sys2Proof.Machine

/-- A fault of this kind is raised under this code (Table 14-2). -/
def FaultHit.fits (h : FaultHit) (code : Nat) : Bool :=
  match h with
  | .row _ => code == 0x16
  | .granule _ read _ => code == 0x19 || (code == 0x17 && !read)
  | .records _ _ => code == 0x19
  | .response _ => code == 0x18
  | .request _ => code == 0x20
  | .grant _ _ => code == 0x21
  | .governor _ _ _ => code == 0x22
  | .entry _ => code == 0x23
  | .ledger _ => code == 0xFF

/-- Change the piece at the head of a bank's write buffer. -/
def State.onHead (s : State) (bank : Nat) (f : Piece → Piece) : State :=
  s.onBankq bank fun q =>
    match q.wbuf with
    | e :: t => { q with wbuf := { e with piece := f e.piece } :: t }
    | [] => q

/-- Change the first read of a bank. -/
def State.onFirstRead (s : State) (bank : Nat) (f : Piece → Piece) : State :=
  s.onBankq bank fun q =>
    match q.reads with
    | x :: t => { q with reads := f x :: t }
    | [] => q

/-- A converter discards the next response of its channel, or WAKE message, that bears another number than its own (R392). -/
def State.dropResponse (s : State) (p : Nat) : State :=
  s.onPort p fun q =>
    match q.resp with
    | _ :: t => { q with resp := t }
    | [] => { q with wakes := q.wakes.tail }

/-- The governor climbs to a level at least, with the flags of those it passes (R174, R394). -/
def State.levelAtLeast (s : State) (l : GovLevel) : State :=
  let s := if s.gov.level = .normal ∧ l ≠ .normal then (s.onGov fun g => { g with level := .lean }).govFlag 4 else s
  if l = .idle ∧ s.gov.level ≠ .idle then (s.onGov fun g => { g with level := .idle }).govFlag 5 else s

/-- Steps are shed until so many are (R176, R394). -/
def State.shedTo (s : State) (k : Nat) : Nat → State
  | 0 => s
  | n + 1 =>
    if s.gov.shed.length < k then
      match s.gov.nextShed with
      | some x => (s.shedOne x).shedTo k n
      | none => s
    else s

/-- The governor takes the lower TB, the higher level and the further shedding of its two computations (R394). -/
def State.takeStricter (s : State) (tb : Nat) (l : GovLevel) (shed : Nat) : State :=
  ((s.onGov fun g => { g with tb := min g.tb tb }).shedTo shed 3).levelAtLeast l

/-- A population's entry is lost: its STEP and its staging end ABANDONED, and its buffer rows are free (R395; the status is
the model's, log entry 71). -/
def State.losePop (s : State) (i : Nat) : State :=
  let s := (s.eng.steps.filter (fun r => r.pop == i)).foldl (fun s r =>
    (s.onEng fun e => { e with steps := e.steps.filter (fun q => q.token != r.token) }).finish r.token r.cmd
      { status := .abandoned, result := r.spikes }) s
  let s := (s.eng.stagings.filter (fun g => g.pop == i)).foldl
    (fun s g => s.endStaging g { status := .abandoned }) s
  (s.freeRows i).onEng fun e => { e with pops := e.pops.erase i }

/-- An uncorrectable entry of a table is made invalid (R395). -/
def State.loseEntry (s : State) (t : TableEntry) : State :=
  match t with
  | .region i =>
    let s := s.scrubChange (s.region? i) none
    { s with addr := { s.addr with regions := s.addr.regions.erase i } }
  | .view i => (s.invalidateView i).onConv fun k => { k with views := k.views.erase i }
  | .window i => ({ s with addr := { s.addr with windows := s.addr.windows.erase i } } : State).tidyDests
  | .stall n i shadow =>
    s.onSub n fun u =>
      if shadow then { u with shd := { u.shd with entries := u.shd.entries.erase i } }
      else { u with act := { u.act with entries := u.act.entries.erase i } }
  | .fold e => s.onFolds fun u => { u with entries := u.entries.erase e }
  | .population i => s.losePop i

/-- An entry of the ledger can no longer be corrected (R413). -/
def State.loseLedger (s : State) (i : Nat) : State :=
  s.onSafety fun y =>
    match y.ledger.find? i with
    | some e => { y with ledger := y.ledger.set i { e with bad := true } }
    | none => y

/-- What a fault strikes is spoiled, refused, suppressed or made invalid (R390 to R395, R413). -/
def State.strikes (s : State) (h : FaultHit) : State :=
  match h with
  | .row bank => s.onHead bank fun x => { x with strayed := true }
  | .granule bank read g =>
    let f (x : Piece) : Piece := { x with forced := setBit x.forced g }
    if read then s.onFirstRead bank f else s.onHead bank f
  | .records pop g => s.onPop pop fun p => { p with forced := setBit p.forced g }
  | .response p => s.dropResponse p
  | .request p => s.onPort p fun q => { q with mistrans := true }
  | .grant n read => s.onSub n fun u => u.onSide read fun w => { w with muted := true }
  | .governor tb l shed => s.takeStricter tb l shed
  | .entry t => s.loseEntry t
  | .ledger i => s.loseLedger i

/-- A fault strikes what its checker has next, where the report names something that its code can strike. -/
def State.strike (s : State) (f : FaultInfo) : State :=
  match f.hit with
  | some h => if h.fits f.code then s.strikes h else s
  | none => s

end Sys2Proof.Machine
end

