-- ==== Sys2Proof/Machine/CmdSafety.lean ====
section
/-!
DEFINITION. The safety partition: Safe Hold, the HALF reaction, the crook token, the watchdogs, the
fault outputs, the ledger and the lifecycle, with the safety commands (14_safety.md).
-/

namespace Sys2Proof.Machine

/-! ### Commands that are cut (R68, R402) -/

/-- The jobs of a deferred command stop, those that are queued too. -/
def State.stopJobsOf (s : State) (token : Nat) (st : Status) : State :=
  (s.allJobs.filter (fun j => j.who.any (fun q => q.1 == token))).foldl (fun s j => s.stopJob j st) s

/-- The tests that a deferred command waits for end. -/
def State.cutTestsOf (s : State) (token : Nat) (st : Status) : State :=
  (List.range s.cfg.clusters).foldl (fun s c =>
    match (s.ctest c).run with
    | some r => if r.who.any (fun q => q.1 == token) then s.cutTest c st else s
    | none => s) s

/-- A deferred command ends with a status at its next row or step boundary: at once where it waits for
none, else in the row that makes the boundary (R68, R402). A WAIT from a ring goes on (R277), and so
does a dump to SVC in Safe Hold (R68). -/
def State.cutOne (s : State) (st : Status) (d : Deferred) : State :=
  if d.cmd.op = 0x304 ∨ (d.cmd.op = 0x306 ∧ d.cmd.dumpSvc ∧ st = .safeHold) then s
  else
    let s := s.onCmd fun k =>
      { k with deferred := k.deferred.map (fun e => if e.token = d.token ∧ e.cut = none then { e with cut := some st } else e) }
    if d.cmd.op = 0x005 then s.finish d.token d.cmd { status := st }
    else if d.cmd.op = 0x306 then
      match s.folds.dumps.find? (fun u => u.token == d.token) with
      | some u => s.endDump u { status := st }
      | none => s
    else if d.cmd.op = 0x901 then
      match s.fw.pendingAct with
      | some a => if a.safe.isNone then s.dropActivation a st else s
      | none => s
    else (s.stopJobsOf d.token st).cutTestsOf d.token st

/-- Cut the deferred commands that a test names. -/
def State.cutAll (s : State) (p : Deferred → Bool) (st : Status) : State :=
  (s.cmd.deferred.filter p).foldl (fun s d => s.cutOne st d) s

/-! ### Safe Hold (R406, R407) -/

/-- Safe Hold begins: the evacuations and tests of firmware end with the commands, held operations are
answered, and the entry is recorded unless there is none to make (R396, R406). -/
def State.beginHold (s : State) (code : Nat) (entry : Bool) : State :=
  if s.safety.hold then s
  else
    let s := s.onSafety fun y =>
      { y with hold := true, holdCode := code, resetDone := false, irq := setBit y.irq 2 }
    let s := if entry then s.log { code := 0x68, detail := some (BitVec.ofNat 32 code) } else s
    let s := s.cutAll (fun _ => true) .safeHold
    let s := s.allJobs.foldl (fun s j => s.stopJob j .safeHold) s
    let s := (List.range s.cfg.clusters).foldl (fun s c => s.cutTest c .safeHold) s
    s.answerHeld

/-- The block enters Safe Hold (R406). -/
def State.enterHold (s : State) (code : Nat) : State := s.beginHold code true

/-! ### The crook token (R403 to R405) -/

/-- A Shepherd's number in the PORT field (Table 14-4). -/
def shepherdPort (half : Bool) : Nat := if half then 0x4B else 0x4A

/-- The code that names a Shepherd in a copy of the token (R403). -/
def tokenCode (half : Bool) : BitVec 2 := if half then 2 else 1

/-- A Shepherd's last claim, or the restart of its claim age. -/
def Safety.claim (y : Safety) (half : Bool) : Option Nat := if half then y.claimB else y.claimA

/-- Restart a Shepherd's claim age. -/
def State.claimNow (s : State) (half : Bool) : State :=
  s.onSafety fun y => if half then { y with claimB := some s.worked } else { y with claimA := some s.worked }

/-- The time since a Shepherd's last claim; without one it is past every limit (Table 14-8). -/
def State.claimAge (s : State) (half : Bool) : Nat :=
  match s.safety.claim half with
  | some t => s.worked - t
  | none => 65535 * usec

/-- Claims are due every 100 µs (R404). -/
def claimLimit : Nat := 100 * usec

/-- All three copies name a Shepherd, whose claim age restarts at 0; recorded as 0x6B (R404, R405). -/
def State.nameHolder (s : State) (half : Bool) : State :=
  let s := (s.claimNow half).onSafety fun y =>
    { y with copy0 := tokenCode half, copy1 := tokenCode half, copy2 := tokenCode half, heldClaim := false
             tokenLost := false }
  s.log { code := 0x6B, port := shepherdPort half }

/-- No valid majority can be had: 0x33, once until there is one again (R404). -/
def State.loseToken (s : State) : State :=
  if s.safety.tokenLost then s
  else
    let s := s.onSafety fun y => { y with tokenLost := true }
    (s.record { code := 0x33 } (s.reaction 0x33)).enterHold 0x33

/-- The last two rows of Table 14-3: the majority names a Shepherd not in service. -/
def State.transferToken (s : State) : State :=
  match s.named with
  | some h => if s.inService h then s else if s.inService (!h) then s.nameHolder (!h) else s.loseToken
  | none => s

/-! ### The HALF reaction (R402) -/

/-- A Shepherd stops: its queue ends INTERNAL, its deferred commands end ABANDONED. -/
def State.stopShepherd (s : State) (half : Bool) : State :=
  let s := s.onFw fun w => if half then { w with runB := false } else { w with runA := false }
  let s := (s.cmd.waiting.filter (fun w => w.half == some half)).foldl
    (fun s w => s.finish w.token w.cmd { status := .internal }) s
  s.cutAll (fun d => d.half == some half) .abandoned

/-- The HALF reaction against a Shepherd (R402); a trial falls back (R426). -/
def State.halfReaction (s : State) (half : Bool) : State :=
  if s.half half then s
  else
    let held := s.named = some half
    let s := s.onSafety fun y =>
      let y := { y with irq := setBit y.irq 1 }
      if half then { y with halfB := true } else { y with halfA := true }
    let s := s.stopShepherd half
    let s := if held ∧ s.safety.crookFrom.isSome then s.transferToken else s
    s.beginFallback

/-! ### Fault reports (R394, R399 to R401) -/

/-- A code of Table 14-2 that a report may bear. -/
def listedCode (code : Nat) : Bool := configurable code || (decide (0x60 ≤ code) && decide (code ≤ 0x6D))

/-- An arbiter mismatch: by sub-port, the XCK and the length of the run (R394). -/
def State.noteMismatch (s : State) (sub : Nat) : State :=
  s.onSafety fun y =>
    let n := match y.mismatch.find? sub with
      | some (t, n) => if t = s.clock.xck then n else if t + 1 = s.clock.xck then n + 1 else 1
      | none => 1
    { y with mismatch := y.mismatch.set sub (s.clock.xck, n) }

/-- The sub-port that a report of arbiter lockstep names in DETAIL. -/
def FaultInfo.place (f : FaultInfo) : Nat := (f.detail.getD 0).toNat

/-- The level that an occurrence takes: HOLD where its rule asks for it whatever the setting (R377,
R394). -/
def State.levelOf (s : State) (f : FaultInfo) : Nat :=
  let run : Bool := match s.safety.mismatch.find? f.place with | some (_, n) => decide (16 ≤ n) | none => false
  if (f.code = 0x41 ∧ f.hold) ∨ (f.code = 0x21 ∧ run) then 3 else s.reaction f.code

/-- The Shepherd that PORT names. -/
def FaultInfo.shepherd (f : FaultInfo) : Option Bool :=
  if f.port = 0x4A then some false else if f.port = 0x4B then some true else none

/-- A fault is recorded and its reaction applied (R399). -/
def State.fault (s : State) (f : FaultInfo) : State :=
  let s := if f.code = 0x21 then s.noteMismatch f.place else s
  let level := s.levelOf f
  let s := s.record f level
  match level, f.shepherd with
  | 2, some h => s.halfReaction h
  | 3, _ => s.enterHold f.code
  | _, _ => s

/-- A report as the collector takes it: recorded, with its reaction (R396, R399). -/
def State.collect (s : State) (f : FaultInfo) : State :=
  if !listedCode f.code then s else (s.onSafety fun y => { y with reports := y.reports.erase f }).fault f

/-- FAULT_REPORT: a checker finds a fault and keeps it from the data that it strikes, and its report reaches the collector
(R390, R396, R399). -/
def State.faultReport (s : State) (f : FaultInfo) : State :=
  if !s.pins.pwrOk then s else (s.strike f).collect f

/-! ### The token check (Table 14-3) and the claims -/

/-- CROOK_CLAIM: a Shepherd that runs writes its claim register (R403). -/
def State.crookClaim (s : State) (half : Bool) : State :=
  if s.ready ∧ s.runs half then
    let s := s.claimNow half
    s.onSafety fun y =>
      let y := { y with heldClaim := y.heldClaim || s.holder == some half }
      if half then { y with claimedB := true } else { y with claimedA := true }
  else s

/-- A Shepherd has claimed since the last check. -/
def Safety.claimed (y : Safety) (half : Bool) : Bool := if half then y.claimedB else y.claimedA

/-- The row of Table 14-3 that holds first, with the copies as they were read. -/
def State.tokenRow (s : State) : State :=
  let y := s.safety
  match s.named with
  | none => (s.onSafety fun y => { y with copy0 := 0, copy1 := 0, copy2 := 0 }).loseToken
  | some h =>
    if ¬ (y.copy0 = y.copy1 ∧ y.copy1 = y.copy2) then
      (s.onSafety fun y => { y with copy0 := tokenCode h, copy1 := tokenCode h, copy2 := tokenCode h }).fault
        { code := 0x32 }
    else if y.claimed (!h) ∧ s.inService h ∧ s.claimAge h < claimLimit then
      s.fault { code := 0x30, port := shepherdPort (!h) }
    else if s.inService h ∧ claimLimit ≤ s.claimAge h then s.fault { code := 0x31, port := shepherdPort h }
    else s.transferToken

/-- CROOK_TOKEN_CHECK: the copies as they are read in this MCK (R404). -/
def State.tokenCheck (s : State) (c0 c1 c2 : BitVec 2) : State :=
  let s := if s.ready then s.onSafety fun y => { y with copy0 := c0, copy1 := c1, copy2 := c2 } else s
  match s.safety.crookFrom with
  | some t =>
    if s.ready ∧ t ≤ s.worked then
      s.tokenRow.onSafety fun y => { y with claimedA := false, claimedB := false }
    else s
  | none => s

/-! ### Watchdogs (R402) -/

/-- WATCHDOG_WRITE. -/
def State.watchdogWrite (s : State) (half : Bool) : State :=
  if s.ready ∧ s.runs half then
    s.onSafety fun y => if half then { y with wdogB := s.worked } else { y with wdogA := s.worked }
  else s

/-- WATCHDOG_EXPIRE: a period has passed unwritten (R402); suspended while an image is switched (R423). -/
def State.watchdogExpire (s : State) (half : Bool) : State :=
  let y := s.safety
  if s.ready ∧ s.runs half ∧ y.wdogEn ∧ s.fw.state ≠ .switching ∧
      (if half then y.wdogB else y.wdogA) + y.wdogMs * msec ≤ s.worked then
    s.fault { code := 0x35, port := shepherdPort half }
  else s

/-! ### Outputs, RCK and the sequencer (R396, R410, R411) -/

/-- SEQUENCER_MISMATCH: both outputs are held until power-up; Safe Hold without a ledger entry (R396). -/
def State.sequencerMismatch (s : State) : State :=
  if s.integ.postDone then (s.onSafety fun y => { y with seqBad := true }).beginHold 0 false else s

/-- RCK may stop: RCK_IDLE is 1, or RCK_FACK is 0 after a change of RCK_FSEL for which the clocks stand (R454). -/
def State.rckMayStop (s : State) : Bool :=
  s.power.rckIdle ||
    (!s.clock.running && !s.pins.rckFack && decide (s.power.work = .opPoint) && decide (s.power.steps.head? = some .rckFack))

/-- RCK_LOSS: RCK stops while the block needs it, so its derived clocks stop, where they run, and FAULT_N falls (R396,
R454). -/
def State.rckLoss (s : State) : State :=
  if !s.pins.pwrOk || s.rckMayStop || s.safety.rckLost then s
  else
    (if s.clock.running then s.stopClocks else s).onSafety fun y =>
      { y with rckLost := true, rckStood := s.clock.running }

/-- RCK_RETURN: clocks that the loss stopped are back, and 0x46 is recorded once the derived clocks run (R396). -/
def State.rckReturn (s : State) : State :=
  if !s.safety.rckLost then s
  else
    let back := s.safety.rckStood
    let s := s.onSafety fun y => { y with rckLost := false, rckStood := false }
    if back then
      (({ s with clock := { s.clock with running := true, sck := 0 } }).fault { code := 0x46 }).pumpAll
    else if s.clock.running then s.fault { code := 0x46 }
    else s.report { code := 0x46 }

/-- OUTPUT_TEST: GO drives both outputs low (R411). -/
def State.outputTest (s : State) : State :=
  if s.integ.postDone ∧ s.safety.test = none then
    s.onSafety fun y => { y with test := some s.clock.elapsed }
  else s

/-- OUTPUT_TEST_END: after 10 µs the pads are judged (R411). -/
def State.outputTestEnd (s : State) (padsOk : Bool) : State :=
  match s.safety.test with
  | some t =>
    if t + 10 * usec ≤ s.clock.elapsed then
      let s := s.onSafety fun y => { y with test := none, pass := padsOk }
      if padsOk then s.log { code := 0x6D }
      else (s.onSafety fun y => { y with irq := setBit y.irq 4 }).fault { code := 0x25 }
    else s
  | none => s

/-- Entries of NOTIFY or above that are not acknowledged (LEDGER_STATS.UNACKED). -/
def Safety.unacked (y : Safety) : Nat :=
  (y.ledger.filter (fun e => decide (1 ≤ e.2.reaction) && !y.acked e.2)).length

/-- SAFE_N is low (R396, R410, R411, R458). -/
def State.safeLow (s : State) : Bool :=
  !s.integ.postDone || s.safety.seqBad || s.safety.test.isSome || s.safety.hold

/-- FAULT_N is low (R396, R410, R411, R458). -/
def State.faultLow (s : State) : Bool :=
  s.safeLow || s.safety.rckLost || s.safety.halfA || s.safety.halfB || decide (0 < s.safety.unacked)

/-! ### The ledger (R412, R413) -/

/-- The bytes of an entry (Table 14-4). -/
def LedgerEntry.bytes (e : LedgerEntry) : List Byte :=
  let body := toBytes 4 e.seq.toNat ++ toBytes 8 e.time.toNat ++
    toBytes 4 ((if e.bad then 0xFF else e.code) + e.reaction * 2 ^ 8 + bit e.inHold * 2 ^ 10 + e.rept * 2 ^ 16) ++
    toBytes 4 (e.cluster + e.bank * 2 ^ 4 + e.port * 2 ^ 9) ++ toBytes 4 e.detail.toNat ++
    toBytes 4 e.lastTime.toNat
  body ++ toBytes 4 (crc32c body)

/-- The entry of a SEQ, or zeros where it is overwritten or not yet written (Table 14-6). -/
def State.ledgerShown (s : State) (seq : BitVec 32) : List Byte :=
  match s.safety.ledger.find? (seq.toNat % 1024) with
  | some e => if e.seq = seq then e.bytes else List.replicate 32 0
  | none => List.replicate 32 0

/-- LEDGER_ACK: an SP write acknowledges every entry at or before its value (R413). -/
def State.ledgerAck (s : State) (seq : BitVec 32) : State :=
  if s.integ.postDone then s.onSafety fun y => { y with ack := seq } else s

/-! ### Commands (Table 14-6) -/

/-- The conditions of R408 that fail, by bit. -/
def State.holdReasons (s : State) : Nat :=
  let token := match s.holder with
    | some h => s.safety.heldClaim && decide (s.claimAge h < claimLimit)
    | none => false
  let calm := decide (s.gov.tmax < tCrit) && !s.power.voltUnconf && !bitOf s.integ.ana.toNat 10 &&
    !bitOf s.integ.ana.toNat 11
  bit (!s.safety.resetDone) + bit (!token) * 2 + bit (!calm) * 4

/-- Safe Hold ends: held SIGNALs, then held records, then 0x69 (R277, R408). -/
def State.leaveHold (s : State) : State :=
  let due := s.folds.heldSignals
  let s := (s.onSafety fun y => { y with hold := false }).onFolds fun f => { f with heldSignals := [] }
  let s := due.foldl (fun s q => (s.signalOne q.2.1 q.2.2 (.flag q.1) true).2) s
  s.flushRecords.log { code := 0x69 }

/-- SAFE_HOLD_EXIT (R408). -/
def bodySafeHoldExit : Body :=
  { code := 0xA00, units := 0, path := onSafety, q := true
    act := fun _ _ s =>
      if !s.safety.hold then Act.ok s
      else if s.holdReasons ≠ 0 then
        .done { status := .notReady, detail := s.fw.state.code, result := s.holdReasons } s
      else Act.ok s.leaveHold }

/-- The half that a command names. -/
def halfField (c : Cmd) : Bool := c.par 0 1 == 1

/-- The HALF_RESET of a half under way. -/
def State.resetOf (s : State) (half : Bool) : Option HalfReset :=
  if half then s.safety.resetB else s.safety.resetA

/-- HALF_RESET of the holder moves the token first, and needs the other Shepherd (R409). -/
def State.movesToken (s : State) (half : Bool) : Bool := !s.safety.hold && s.holder == some half

/-- HALF_RESET begins (R409). -/
def State.beginHalfReset (s : State) (half : Bool) (token : Nat) (c : Cmd) : State :=
  let s := if s.movesToken half then s.nameHolder (!half) else s
  let s := s.stopShepherd half
  let r : HalfReset := { token := token, cmd := c }
  s.onSafety fun y => if half then { y with resetB := some r } else { y with resetA := some r }

/-- HALF_RESET (R409). -/
def bodyHalfReset : Body :=
  { code := 0xA01, units := 1, path := onSafety, q := true
    check := fun c s =>
      let h := halfField c
      firstRefusal
        [c.params [byteField 0 1] [(0, decide (1 < c.par 0 1))],
         busyIf ((s.resetOf h).isSome || (s.movesToken h && !s.inService (!h)))]
    act := fun token c s => .running (s.beginHalfReset (halfField c) token c) }

/-- HALF_RESET_COMPLETE: the Shepherd runs again, and the HALF reaction is cleared (R409). Its claim age
restarts (R416). -/
def State.halfResetComplete (s : State) (half : Bool) : State :=
  match s.resetOf half with
  | some r =>
    if s.ready ∧ s.fw.state = .running ∧ (s.image s.fw.active).state ≠ .empty then
      let s := s.onFw fun w => if half then { w with runB := true } else { w with runA := true }
      let s := s.onSafety fun y =>
        if half then { y with halfB := false, resetB := none, wdogB := s.worked }
        else { y with halfA := false, resetA := none, wdogA := s.worked }
      let s := if s.named = some half then s.onSafety fun y => { y with heldClaim := false, tokenLost := false } else s
      let s := (s.claimNow half).log { code := 0x6A, port := shepherdPort half }
      let s := s.onSafety fun y => { y with resetDone := y.resetDone || y.hold }
      s.finish r.token r.cmd { status := .ok }
    else s
  | none => s

/-- CROOK_ASSIGN (R405). -/
def bodyCrookAssign : Body :=
  { code := 0xA02, units := 1, path := onSafety, q := true
    check := fun c s =>
      firstRefusal
        [c.params [byteField 0 1] [(0, decide (1 < c.par 0 1))],
         refuseIf (!s.inService (halfField c)) { status := .notReady, detail := s.fw.state.code }]
    act := fun _ c s => Act.ok (s.nameHolder (halfField c)) }

/-- LEDGER_READ (R413). -/
def bodyLedgerRead : Body :=
  { code := 0xA04, units := 1, path := onSafety, q := true
    check := fun c _ => c.params [byteField 0 5] [(4, c.par 4 1 == 0 || decide (8 < c.par 4 1))]
    act := fun _ c s =>
      let bs := (List.range (c.par 4 1)).flatMap fun i => s.ledgerShown (BitVec.ofNat 32 (c.par 0 4 + i))
      .done { status := .ok, result := s.safety.head.toNat } (s.reply c false 0 bs) }

/-- The fields of SAFETY_CFG by FUNC. -/
def safetyFields (c : Cmd) : List (Nat × Nat) :=
  match c.par 0 1 with
  | 0 => [byteField 0 3]
  | 1 => [byteField 0 1, byteField 2 2, (32, 1)]
  | _ => [byteField 0 1]

/-- The level that SAFETY_CFG may not set (R401). -/
def State.levelBad (s : State) (code level : Nat) : Bool :=
  decide (3 < level) || decide (level < lowestReaction code) ||
    (level == 2) != (defaultReaction code == 2) ||
    (s.safety.lifecycle == 2 && decide (level < s.reaction code))

/-- Set a reaction: the table lists those that differ from their defaults (R401). -/
def State.setReaction (s : State) (code level : Nat) : State :=
  (s.onSafety fun y =>
    { y with react := if level = defaultReaction code then y.react.erase code else y.react.set code level }).log
    { code := 0x6C }

/-- SAFETY_CFG (R401, R402, R406). -/
def bodySafetyCfg : Body :=
  { code := 0xA05, units := 1, path := onSafety, q := true
    check := fun c s =>
      let f := c.par 0 1
      firstRefusal
        [c.params (safetyFields c)
          [(0, decide (2 < f)), (1, f == 0 && !configurable (c.par 1 1)),
           (2, (f == 0 && s.levelBad (c.par 1 1) (c.par 2 1)) ||
              (f == 1 && (c.par 2 2 == 0 || decide (1000 < c.par 2 2))))],
         refuseIf (f == 1 && !c.flag 4 0 && s.safety.lifecycle == 2)
          { status := .lifecycle, detail := s.safety.lifecycle }]
    act := fun _ c s =>
      match c.par 0 1 with
      | 0 => Act.ok (s.setReaction (c.par 1 1) (c.par 2 1))
      | 1 =>
        Act.ok (s.onSafety fun y =>
          { y with wdogMs := c.par 2 2, wdogEn := c.flag 4 0, wdogA := s.worked, wdogB := s.worked })
      | _ => Act.ok (s.enterHold 0) }

/-! ### Lifecycle (R414) -/

/-- A permitted transition. -/
def lifecycleStep (old new : Nat) : Bool :=
  new == 4 || (old == 0 && (new == 1 || new == 2)) || (old == 1 && new == 2) || (old == 2 && new == 3)

/-- The symbols that a patch entry of slot `k` serves, written as those of the zero word of its row (R328). -/
def State.zeroPatch (s : State) (k : Nat) (e : BitVec 32) : State :=
  let bank := 16 * (k / 17) + (s.slot k).logical
  ((List.range 36).filter (fun l => patchCovers e (patchRow e) l)).foldl (fun s l =>
    [0, 1, 2, 3].foldl (fun s g =>
      s.setSymbol (cellAddr k (16384 + patchSpare e) g l)
        (BitVec.ofNat 8 ((storedWord bank (patchRow e) g 0 false).getD l 0))) s) s

/-- Every array row and accumulator-buffer row holds zeros with valid check bytes; the patch entries of a slot are those
that power-up installs, the factory's (R346, R414). -/
def State.zeroArrays (s : State) : State :=
  let ks := List.range (17 * s.cfg.clusters)
  let s := ks.foldl (fun s k => s.onSlot k fun l =>
    { l with zeroFor := some (16 * (k / 17) + l.logical), bufZero := true
             patches := l.patches.filter (fun e => patchFactory e.2) }) { s with mem := [] }
  ks.foldl (fun s k => (s.slot k).patches.foldl (fun s e => if patchValid e.2 then s.zeroPatch k e.2 else s) s) s

/-- What runs over the tables ends before they are cleared. -/
def State.endTableUsers (s : State) : State :=
  let s := s.allJobs.foldl (fun s j => s.endJobNow j .abandoned) s
  let s := s.eng.steps.foldl (fun s r =>
    ((s.onPop r.pop fun p => { p with running := false }).onEng fun e =>
      { e with steps := e.steps.filter (fun q => q.token != r.token) }).finish r.token r.cmd
      { status := .abandoned, result := r.spikes }) s
  let s := s.eng.stagings.foldl (fun s g => s.endStaging g { status := .abandoned }) s
  s.abandonAll (fun _ => true) .abandoned

/-- Region 0 as hardware ready leaves it (R88, R89). -/
def State.setRegionZero (s : State) : State :=
  let r := regionZero s.cfg
  { s with addr := { s.addr with regions := [(0, { r with degraded := s.degrades r })] } }

/-- All tables as at power-up (R89, R346, R414, R457). -/
def State.clearTables (s : State) : State :=
  let s := s.endTableUsers
  let s := s.gov.guarantees.foldl (fun s g => s.releaseGuarantee (guId g)) s
  let s := State.setRegionZero { s with addr := { regions := [] } }
  let s := s.onConv fun v => { v with views := [], caches := [] }
  let s := s.onFolds fun f => { f with folds := [], entries := [], maps := [] }
  let s := s.onEng fun e => { e with pops := [], routes := [], abuf := [] }
  (s.onXbar fun x => { x with subs := x.subs.map fun (e : Nat × SubPort) => (e.1, { e.2 with act := {}, shd := {} }) }).reckon

/-- LIFECYCLE_SET takes effect (R414). -/
def State.lifecycleSet (s : State) (new : Nat) : State :=
  let s := if new = 3 ∨ new = 4 then s.zeroArrays.clearTables else s
  (s.onSafety fun y => { y with lifecycle := new }).log
    { code := 0x67 }

/-- LIFECYCLE_SET (R414). -/
def bodyLifecycleSet : Body :=
  { code := 0xA06, units := 1, path := onSafety, q := true
    check := fun c s =>
      firstRefusal
        [c.params [byteField 0 1, byteField 4 4] [(0, decide (4 < c.par 0 1))],
         refuseIf (8 ≤ s.safety.fails) { status := .perm },
         refuseIf (!lifecycleStep s.safety.lifecycle (c.par 0 1))
          { status := .lifecycle, detail := s.safety.lifecycle }]
    act := fun _ c s =>
      let new := c.par 0 1
      if s.safety.lifecycle = 2 ∧ new = 3 ∧ BitVec.ofNat 32 (c.par 4 4) ≠ s.fw.otp.rmaCode then
        .done { status := .perm } (s.onSafety fun y => { y with fails := y.fails + 1 })
      else Act.ok (s.lifecycleSet new) }

end Sys2Proof.Machine
end

