-- ==== Sys2Proof/Machine/FwPolicy.lean ====
section
/-!
DEFINITION. What firmware does of its own: the repair policy, the rotation of the banks, the analogue
checks (R332, R357 to R359).
-/

namespace Sys2Proof.Machine

/-- Firmware acts: it runs, the block is ready and not in Safe Hold. -/
def State.fwActs (s : State) : Bool :=
  s.ready && decide (s.fw.state = .running) && s.holder.isSome && !s.safety.hold

/-- The repair policy is on (R332). -/
def State.policyOn (s : State) : Bool := s.fwActs && s.fw.items.repairAuto

/-- An evacuation by firmware. In SCRAP no test may follow it (R360): the slot stays PENNED. DESIGN CHOICE (log entry
61). -/
def State.evacuation (s : State) (c b : Nat) : Job :=
  { id := 0, kind := .evacuate, cluster := c, bank := b
    test := if s.safety.lifecycle = 4 then none else some s.fw.items.rotateTest }

/-! ### The repair policy (R332, Table 11-6) -/

/-- A repair entry of the settings (Table 15-6). -/
def repairEntry (g hi row lane spare : Nat) : BitVec 64 :=
  BitVec.ofNat 64 (g + hi * 2 ^ 8 + row * 2 ^ 16 + lane * 2 ^ 32 + spare * 2 ^ 40)

/-- The first patch entry of a slot that is free, and the first spare row that a lane may use. -/
def Slot.freePatch (l : Slot) (lane : Nat) : Option (Nat × Nat) :=
  let spare := (List.range 64).find? fun k =>
    !bitOf l.spareBad.toNat k &&
      !l.patches.any (fun e => patchValid e.2 && patchSpare e.2 == k && lanesMeet (patchLane e.2) lane)
  match (List.range 32).find? (fun i => !patchValid (l.patches.get 0 i)), spare with
  | some i, some k => some (i, k)
  | _, _ => none

/-- Firmware patches a lane of a row, or reports that it has nothing left to patch with. -/
def State.policyPatch (s : State) (g row lane : Nat) : State :=
  if (s.slotIn g).patches.any (fun e => patchCovers e.2 row lane) then s
  else
    match (s.slotIn g).freePatch lane with
    | none => s.integEvent 4 g
    | some (i, k) =>
      let slot := (s.lbank g).slot
      let s := (s.installPatch g i (patchEntry row lane k)).integEvent 3 g
      (s.logSlot 0x63 (g / 16) slot).setRepairs
        (s.fw.items.repairs ++ [repairEntry g i row lane k])

/-- The valid lane patches of a slot that name a lane. -/
def Slot.patchesOf (l : Slot) (lane : Nat) : List Nat :=
  (l.patches.filter (fun e => patchValid e.2 && patchLane e.2 == lane)).map Prod.fst

/-- The patches that a lane retirement replaces are removed, once the lane has as many as the limit. -/
def State.dropPatches (s : State) (g lane : Nat) : State :=
  let is := (s.slotIn g).patchesOf lane
  if is.length < s.fw.items.lanePatchLimit then s
  else
    let s := is.foldl (fun s i => s.removePatch g i) s
    s.setRepairs (s.fw.items.repairs.filter fun e =>
      !(bitsOf e.toNat 0 8 == g && !bitOf e.toNat 15 && bitsOf e.toNat 32 8 == lane))

/-- A third lane of a bank is needed: the bank is evacuated where a spare is ready, as soon as nothing else is under way
in its cluster; where no slot is in SPARE it goes out of service (R321, R357, R358). -/
def State.policyThird (s : State) (g : Nat) : State :=
  match s.spareOf (g / 16) with
  | none => s.bankOut g
  | some k =>
    if s.clusterBusy (g / 16) ∨ s.droverFull then s
    else (s.queueJob (s.evacuation (g / 16) (g % 16))).logSlot 0x65 (g / 16) k

/-- Firmware retires a lane of a bank. -/
def State.policyRetire (s : State) (g lane : Nat) : State :=
  if (s.retired g).contains lane then s
  else if 2 ≤ (s.retired g).length then s.policyThird g
  else
    let slot := (s.lbank g).slot
    let s := ((s.retireLane g lane).dropPatches g lane).logSlot 0x63 (g / 16) slot
    s.setRepairs (s.fw.items.repairs ++ [repairEntry g 0x80 0 lane 0])

/-- A bank that firmware may act on. -/
def State.policyBank (s : State) (g : Nat) : Bool :=
  s.cfg.hasBank g && !(s.lbank g).out && s.inRun (g / 16) && !s.bankBusy g

/-- A (row, lane) has been corrected in PATCH_REPEAT consecutive scrub laps (Table 11-6). -/
def State.patchCause (s : State) (g row lane : Nat) : Bool :=
  decide (s.fw.items.patchRepeat ≤ (s.bank g).streak.get 0 (64 * row + lane))

/-- A lane has had more than LANE_LAP_LIMIT corrections in one lap, or LANE_PATCH_LIMIT valid patches name it
(Table 11-6). -/
def State.retireCause (s : State) (g lane : Nat) : Bool :=
  decide (s.fw.items.laneLapLimit < (s.bank g).laneLap.get 0 lane) ||
    decide (s.fw.items.laneLapLimit < (s.bank g).laneLast.get 0 lane) ||
    decide (s.fw.items.lanePatchLimit ≤ ((s.slotIn g).patchesOf lane).length)

/-- The laps that firmware counts for a (row, lane) begin again once it has acted on them. -/
def State.dropStreak (s : State) (g row lane : Nat) : State :=
  s.onBank g fun b => { b with streak := b.streak.erase (64 * row + lane) }

/-- Retire a lane for a cause of Table 11-6. -/
def State.retireFor (s : State) (g lane : Nat) : State :=
  if s.retireCause g lane then
    (s.policyRetire g lane).onBank g fun b =>
      { b with laneLap := b.laneLap.erase lane, laneLast := b.laneLast.erase lane }
  else s

/-- The rows of the patches that name a lane are held by no access: their removal copies them (R28, R330). -/
def State.patchesFree (s : State) (g lane : Nat) : Bool :=
  ((s.slotIn g).patchesOf lane).all fun i => s.rowFree g (patchRow ((s.slotIn g).patches.get 0 i)) true

/-- REPAIR_POLICY_ACTION (R332): an action for which Table 11-6 gives the cause; a patch that brings a lane to
LANE_PATCH_LIMIT retires the lane. Firmware does not act while a row that it would copy is held (R28). -/
def State.repairPolicy (s : State) (a : RepairAct) : State :=
  if !s.policyOn then s
  else
    match a with
    | .patch g row lane =>
      if s.policyBank g ∧ row < 16384 ∧ lane < 36 ∧ s.patchCause g row lane ∧ s.rowFree g row true ∧
          s.patchesFree g lane then
        ((s.policyPatch g row lane).dropStreak g row lane).retireFor g lane
      else s
    | .retire g lane => if s.policyBank g ∧ lane < 36 ∧ s.patchesFree g lane then s.retireFor g lane else s

/-! ### Rotation (R357, Table 12-6) -/

/-- A cluster that a step of firmware may act on: it runs, has its spare, and nothing under way. -/
def State.rotatable (s : State) (c : Nat) : Bool :=
  s.hasCluster c && s.inRun c && (s.spareOf c).isSome && !s.clusterBusy c

/-- The lowest bank of a cluster that asks for evacuation. -/
def State.asking (s : State) (c : Nat) : Option Nat :=
  (List.range 16).find? (fun b => (s.bank (16 * c + b)).evacReq && !(s.lbank (16 * c + b)).out && !s.bankBusy (16 * c + b))

/-- Firmware evacuates a bank that asks for it; a spare never tested is tested first, where a test may run. -/
def State.serveRequest (s : State) (c b spare : Nat) : State :=
  if (s.slot (17 * c + spare)).tested ∨ s.safety.lifecycle = 4 then
    (s.queueJob (s.evacuation c b)).logSlot 0x65 c spare
  else
    let t := if s.fw.items.startTest = 7 then 2 else s.fw.items.startTest
    (s.startTest c spare t none none).logSlot 0x65 c spare

/-- The first cluster whose bank asks for evacuation and that can be served now. -/
def State.requestNow (s : State) : Option (Nat × Nat × Nat) :=
  (List.range s.cfg.clusters).findSome? fun c =>
    if s.rotatable c then
      match s.asking c, s.spareOf c with
      | some b, some k => some (c, b, k)
      | _, _ => none
    else none

/-- A bank asks for evacuation in a cluster that runs, and its spare is in SPARE or on its way there: rotation waits. -/
def State.requestWaits (s : State) : Bool :=
  (List.range s.cfg.clusters).any fun c =>
    s.inRun c && (s.asking c).isSome &&
      (List.range 17).any fun k =>
        decide ((s.slot (17 * c + k)).state = .spare ∨ (s.slot (17 * c + k)).state = .testing ∨
          (s.slot (17 * c + k)).state = .copying)

/-- ROTATE_PERIOD has passed since the last step of a cluster (R357). -/
def State.rotationDue (s : State) (c : Nat) : Bool :=
  decide ((s.ctest c).rotateAt + s.fw.items.rotatePeriod * (1000 * msec) ≤ s.worked)

/-- The next logical bank of a cluster's rotation. -/
def State.nextBank (s : State) (c : Nat) : Option Nat :=
  ((List.range 16).map (fun i => ((s.ctest c).rotateNext + i) % 16)).find?
    (fun b => !(s.lbank (16 * c + b)).out && !s.bankBusy (16 * c + b))

/-- One cluster's rotation moves on by one bank. -/
def State.rotate (s : State) (c : Nat) : State :=
  match s.nextBank c, s.spareOf c with
  | some b, some k =>
    let s := s.queueJob (s.evacuation c b)
    (s.onCtest c fun t => { t with rotateNext := (b + 1) % 16, rotateAt := s.worked }).logSlot 0x65 c k
  | _, _ => s

/-- The cluster whose turn it is, past those that firmware skips. -/
def State.turnOf (s : State) : Option Nat :=
  ((List.range s.cfg.clusters).map (fun i => (s.integ.rotateCluster + i) % s.cfg.clusters)).find? fun c =>
    s.rotatable c && s.rotationDue c

/-- The step of the rotation itself: PEN_BANK is not allowed in SCRAP (R360). -/
def State.rotateNow (s : State) : State :=
  if !s.policyOn || !s.fw.items.rotateEn || s.requestWaits || decide (s.safety.lifecycle = 4) then s
  else
    match s.turnOf with
    | some c => (s.rotate c).onInteg fun n => { n with rotateCluster := (c + 1) % s.cfg.clusters }
    | none => s

/-- ROTATION_STEP (R348, R357). Spares whose start-up test could not begin are tested; a bank that asks for evacuation
comes before any step of the rotation, with REPAIR_AUTO on or off (R321). -/
def State.rotationStep (s : State) : State :=
  if !s.fwActs then s
  else
    let s := s.startTests
    if s.droverFull then s
    else
      match s.requestNow with
      | some (c, b, k) => s.serveRequest c b k
      | none => s.rotateNow

/-! ### Analogue checks (R359, Table 12-7) -/

/-- ANA_STATE (Table 12-12). -/
def AnalogFound.word (f : AnalogFound) : BitVec 13 :=
  BitVec.ofNat 13 (bit f.wakeAin + f.sensors.toNat * 2 + bit f.vmonLog * 2 ^ 10 + bit f.vmonArr * 2 ^ 11 +
    bit f.avsRx * 2 ^ 12)

/-- A check is due: the first of the running firmware, or ANA_PERIOD after the last; the setting is in units of 0.1 s. -/
def State.analogDue (s : State) : Bool :=
  match s.integ.anaAt with
  | none => true
  | some t => decide (t + s.fw.items.anaPeriod * (100 * msec) ≤ s.worked)

/-- A check marks a sensor: one that fails has no valid reading, one that passes again takes its next (R173). -/
def Sensor.mark (x : Sensor) (bad : Bool) : Sensor :=
  if bad then { x with failed := true, valid := false } else { x with failed := false }

/-- ANALOG_CHECK: failures are shown, reported and acted on (R173, R359). -/
def State.analogCheck (s : State) (f : AnalogFound) : State :=
  if ¬ s.ready ∨ s.fw.state ≠ .running ∨ s.power.block ≠ .run ∨ ¬ s.analogDue then s
  else
    let s := s.onInteg fun n => { n with ana := f.word, anaAt := some s.worked }
    let s := if f.word = 0 then s else s.bistEvent 4 0 0
    let s := s.onPower fun p => { p with ain := { p.ain with disabled := f.wakeAin } }
    let s := (List.range 9).foldl (fun s k =>
      s.onGov fun g => { g with sensors := g.sensors.modify {} k (·.mark (bitOf f.sensors.toNat k)) }) s
    let s := s.replaceFailed.setTmax s.replaceFailed.tmaxNow
    let unit (s : State) (code : Nat) (bad : Bool) : State :=
      if bad then s.report { code := code } else s
    let s := unit s 0x45 f.wakeAin
    let s := (List.range 9).foldl (fun s k => unit s 0x45 (bitOf f.sensors.toNat k)) s
    let s := unit (unit s 0x42 f.vmonLog) 0x42 f.vmonArr
    let s := unit s 0x45 f.avsRx
    if f.trip ∧ ¬ f.wakeAin then s.ainCrossing else s

end Sys2Proof.Machine
end

