-- ==== Sys2Proof/Machine/CmdTable.lean ====
section
/-!
DEFINITION. The index of the opcodes (Table 2-9), the arrival of a command packet by each of the ways
of Table 2-1, and what starts by itself once the condition of the block lets it (02_control_path.md,
R42 to R68).
-/

namespace Sys2Proof.Machine

/-- The opcodes of 02 to 05 of Table 2-9. -/
def bodiesCrossbar : List Body :=
  [bodyNop, bodyEcho, bodyQueryState, bodyCtxReset, bodyPortReset, bodyDrain, bodyRegionSet,
   bodyRegionClear, bodyRegionQuery, bodyRegionMarkInit, bodyViewSet, bodyViewClear, bodyViewQuery,
   bodyViewStats, bodyStallLoad, bodyStallSwap, bodyStallQuery, bodyPrioSet, bodyParkSet, bodyStarveSet]

/-- The opcodes of the regulator, the folds and the event engine. -/
def bodiesEngine : List Body :=
  [bodyShareSet, bodyUrgencySet, bodyLatencySet, bodyBudgetSet, bodyAdmit, bodyGuaranteeRelease,
   bodyPowerLimitSet, bodyShedQuery, bodyFoldMap, bodyFoldCreate, bodyFoldDestroy, bodyFoldArm, bodyFoldOp,
   bodyFoldQuery, bodyFoldDump, bodyPopSet, bodyPopClear, bodyPopQuery, bodyPopStage, bodyPopUnstage,
   bodyStep, bodyPopUntaint, bodyEvrouteSet]

/-- The opcodes of the Drover, the links, integrity and self-test. -/
def bodiesUpkeep : List Body :=
  [bodyDrvFill, bodyDrvCopy, bodyDrvConvert, bodyDrvEvacuate, bodyDrvCancel, bodyDrvQuery, bodyWindowSet,
   bodyWindowClear, bodyWindowQuery, bodyChipIdSet, bodyEpochSet, bodyLinkReset, bodyLinkQuery,
   bodyRetrySet, bodyScrubSet, bodyPatchSet, bodyPatchQuery, bodyLaneRetire, bodyIntegQuery, bodyBistRun,
   bodyBistQuery, bodyPenBank, bodyFlipArm]

/-- The opcodes of power, time, firmware and safety. -/
def bodiesSystem : List Body :=
  [bodyPwrStateSet, bodyIdleTimerSet, bodyOppointSet, bodyPwrQuery, bodyTimeSet, bodyTimeQuery,
   bodyTsyncCfg, bodyWakeAinCfg, bodyTimerWakeSet, bodyFwQuery, bodyActivateAt, bodyHealthOk,
   bodyConfirmWindowSet, bodySettingsRead, bodySettingsWrite, bodySettingsDefault, bodySafeHoldExit,
   bodyHalfReset, bodyCrookAssign, bodyFlipMaskSet, bodyLedgerRead, bodySafetyCfg, bodyLifecycleSet]

/-- Every opcode of Table 2-9 (R69). -/
def bodies : List Body := bodiesCrossbar ++ bodiesEngine ++ bodiesUpkeep ++ bodiesSystem

/-- What an opcode of the index is made of. -/
def bodyOf (op : Nat) : Option Body := bodies.find? (fun b => b.code == op)

/-! ### Mailboxes (R66, R67) -/

/-- The first `n` bytes of a beat: one fails DPAR, or lies in a granule whose SPOIL bit is set, or the beat fails CPAR
(R468). -/
def WBeat.bytesBad (b : WBeat) (n : Nat) : Bool :=
  b.badCtl || bitsOf b.badBytes.toNat 0 n != 0 || bitsOf b.spoil.toNat 0 ((n + 31) / 32) != 0

/-- A beat of the packet of a CMD fails CPAR, or a byte of the packet is bad (R66, R468). -/
def Outst.packetBad (o : Outst) : Bool :=
  (List.range ((rqLen o.word + 127) / 128)).any fun i =>
    match o.wbeats[i]? with
    | some b => b.bytesBad (min 128 (rqLen o.word - 128 * i))
    | none => false

/-- A CMD request is answered with the record of a packet that fails before the checks of R50. It takes its place in
the order of acceptance, and SIGNAL is done as for every command (R42, R57); a packet of bad data signals nothing, since its
flags cannot be trusted (DESIGN CHOICE, log entry 63). -/
def State.refuseCmd (s : State) (o : Outst) (r : Result) : State :=
  let token := s.cmd.accepted
  let s := s.onCmd fun k => { k with accepted := k.accepted + 1, acceptMck := s.mck + 1 }
  let s := if o.packetBad then s else s.signalFor token o.cmd
  s.answerCmd o.port o.ctx o.tag r.status (o.cmd.record r)

/-- The checks of R66 before those of R50, the first of them as the ingress found it; the state counts what they
count. -/
def State.checkCmd (s : State) (o : Outst) : Option Result :=
  if o.barred then some { status := .perm, detail := 3 }
  else if !(s.port o.port).mboxEn then some { status := .badOpcode }
  else if rqLen o.word ≠ 16 * (1 + o.cmd.units) then some (badParam 0)
  else if o.packetBad then some (badParam 0)
  else none

/-- What a refusal of R66 reports: data that is marked or of bad parity, which a command would have consumed (R326,
R468). -/
def State.noteCmd (s : State) (o : Outst) : State :=
  if !o.barred && (s.port o.port).mboxEn && rqLen o.word == 16 * (1 + o.cmd.units) then
    s.report { code := 0x14, port := o.port }
  else s

/-- A CMD request that the command interface takes (R66). -/
def State.takeCmd (s : State) (id : Nat) : State :=
  match s.outst? id with
  | none => s
  | some o =>
    match s.checkCmd o with
    | some r => (s.noteCmd o).refuseCmd o r
    | none => s.accept (bodyOf o.cmd.op) o.cmd

/-! ### Acceptance (R42, R51) -/

/-- The queue of a Shepherd holds 64 commands (R51). -/
def State.queueFull (s : State) (half : Bool) : Bool :=
  decide (64 ≤ (s.cmd.waiting.filter (fun w => w.half == some half)).length)

/-- Nothing is accepted from a source now: a Shepherd's queue is full, or a command of the source waits for a place in
the Drover's queue (R51). The SP window is not held by a full Shepherd queue: R51 names the others (DEDUCED, log
entry 44). -/
def State.sourceHeld (s : State) (src : Source) : Bool :=
  (src != .sp && (s.queueFull false || s.queueFull true)) ||
    s.cmd.waiting.any (fun w => w.cmd.src.same src && decide (w.why = .droverQueue))

/-- The packet that a window presents. -/
def State.windowGiven (s : State) (sp : Bool) : Option Cmd :=
  (if sp then s.cmd.sp else s.cmd.ctl).given.map fun p => { src := if sp then .sp else .ctl, pkt := p }

/-- The packet that a ring presents: fetched, its reply slots free, and no command of the ring waiting to start
(R56, R63). -/
def State.ringGiven (s : State) (n : Nat) : Option Cmd :=
  let r := s.ring n
  match r.fetch with
  | .ready c =>
    if s.safety.hold ∨ s.turnTaken (.ring n) s.cmd.accepted ∨
        r.freeSlots < (if c.defers then 2 else 1) then none
    else some c
  | _ => none

/-- A packet that stands to be accepted. -/
inductive Given where
  | window (sp : Bool) (c : Cmd)
  | ring (n : Nat) (c : Cmd)
  | mailbox (req : Nat)
deriving DecidableEq, Repr

/-- The mailbox packets that stand to be accepted, by ascending initiator number (R42). -/
def State.mailboxGiven (s : State) : List Nat :=
  let reqs := s.cmd.arrived.filterMap s.outst?
  (List.range 64).flatMap fun p =>
    (reqs.filter (fun o => o.port == p && !s.sourceHeld (.mbox p 0 0))).map (fun o => o.id)

/-- The packets that stand to be accepted, in the order of R42. -/
def State.givens (s : State) : List Given :=
  ([true, false].filterMap fun sp =>
    if s.sourceHeld (if sp then .sp else .ctl) then none else (s.windowGiven sp).map (Given.window sp)) ++
  ((List.range 16).filterMap fun n => if s.sourceHeld (.ring n) then none else (s.ringGiven n).map (Given.ring n)) ++
  s.mailboxGiven.map Given.mailbox

/-- A packet of a ring is accepted: its reply slots are reserved, RING_CONS moves past it (R59, R63). -/
def State.takePacket (s : State) (n : Nat) (c : Cmd) : State :=
  (s.onRing n fun r =>
    { r with fetch := .none
             cons := BitVec.ofNat 17 ((r.cons.toNat + 1 + c.units) % 2 ^ (r.sizeLog2.toNat + 1))
             reserved := r.reserved + if c.defers then 2 else 1 }).accept (bodyOf c.op) c

/-- A packet is accepted. -/
def State.acceptGiven (s : State) (g : Given) : State :=
  match g with
  | .window sp c => (s.onWindow sp fun w => { w with given := none }).accept (bodyOf c.op) c
  | .ring n c => s.takePacket n c
  | .mailbox id => (s.onCmd fun k => { k with arrived := k.arrived.filter (fun i => i != id) }).takeCmd id

/-- At most one packet is accepted in an MCK, the first in the order of R42. A packet that comes when nothing has been
accepted in the MCK is accepted at once, before one that comes later in it (DESIGN CHOICE, log entry 49). -/
def State.acceptOne (s : State) : Option State :=
  if s.cmd.acceptMck = s.mck + 1 then none
  else
    match s.givens with
    | g :: _ => some (s.acceptGiven g)
    | [] => none

/-! ### What starts by itself -/

/-- The next thing that the command interface can do: accept a packet, go on with a command whose parameters have been
read, end a PORT_RESET, or start the first waiting
command that nothing holds back any more. -/
def State.settleOne (s : State) : Option State :=
  match s.acceptOne with
  | some s' => some s'
  | none =>
    match s.cmd.waiting.findSome? (s.readOver bodyOf) with
    | some s' => some s'
    | none =>
    match s.cmd.waiting.find? s.resetOver with
    | some w => some (s.endReset w)
    | none =>
      match s.cmd.waiting.find? (s.ripe bodyOf) with
      | some w =>
        match bodyOf w.cmd.op with
        | some b => some (s.resume b w)
        | none => none
      | none => none

/-- Do what can be done, at most `n` times. -/
def State.settleN (s : State) : Nat → State
  | 0 => s
  | n + 1 =>
    match s.settleOne with
    | some s' => s'.settleN n
    | none => s

/-- What starts by itself in the command interface and in the dispatchers, then the records that can be written (R47,
R56, R61, R66, R245). -/
def State.carryOn (s : State) : State := (s.settleN 256).moveRuns.flushRecords

/-- A packet is accepted, if one may be, and everything else that starts by itself (R42). -/
def State.settle (s : State) : State := if s.ready then (s.acceptOne.getD s).carryOn else s

/-! ### Rings (R59 to R63) -/

/-- The parts of `n` units of a ring from its consumer index on: a packet may wrap (R59). -/
def Ring.spans (r : Ring) (n : Nat) : List (Nat × Nat) :=
  let k := r.sizeLog2.toNat
  let i := r.cons.toNat % 2 ^ k
  let one := min n (2 ^ k - i)
  let base := r.base.toNat * 256
  (base + 16 * i, 16 * one) :: (if one < n then [(base, 16 * (n - one))] else [])

/-- A fetch is answered DECERR or PERM: the ring halts, and an answer for an address of a region with SAFETY = 1 is
reported (R61, R87). -/
def State.fetchRefused (s : State) (n a : Nat) (st : Status) : State :=
  (s.safetyRefusal 64 a st).haltRing n .fetchDecerr

/-- The read pieces of spans, one after another. -/
def State.spanPieces (s : State) : List (Nat × Nat) → List Piece
  | [] => []
  | (a, n) :: t =>
    let xs := s.plainPieces .rd 1 a n []
    xs ++ (s.spanPieces t).map (fun x => { x with beat := x.beat + xs.length })

/-- The bytes of spans out of the answers to their request. -/
def spanBytes (rs : List Resp) : List (Nat × Nat) → List (Byte × Bool)
  | [] => []
  | (a, n) :: t =>
    let k := (rowParts a n).length
    answerBytes rs a n ++
      spanBytes ((rs.filter (fun r => decide (k ≤ r.beat))).map (fun r => { r with beat := r.beat - k })) t

/-- A fetch of `n` units of a ring is asked for (R61, R114, R123); `f` says what the ring then waits for. -/
def State.askFetch (s : State) (n units : Nat) (f : Nat → RingFetch) : State :=
  let r := s.ring n
  let xs := r.spans units
  let ctx := r.ctxBase.toNat
  if !s.owns64 ctx then s.count64.fetchRefused n (xs.headD (0, 0)).1 .perm
  else
    match xs.findSome? (fun x => s.rangeStops ctx [.r] false x.1 x.2) with
    | some e => s.fetchRefused n e.2 e.1
    | none =>
      if !s.mayAsk true then s
      else
        let (id, s) := s.ask
          (s.pieceRequest (reqWord 1 1 (xs.headD (0, 0)).1 (16 * units) ctx 0xFFFE 0) (s.spanPieces xs))
        s.onRing n fun r => { r with fetch := f id }

/-- A fetched unit carries a mark: the ring halts (R61, R326). -/
def State.fetchMarked (s : State) (n : Nat) (xs : List (Nat × Nat)) (bs : List (Byte × Bool)) : State :=
  let as := xs.flatMap (fun x => (List.range x.2).map (x.1 + ·))
  let gs := ((as.zip bs).filterMap (fun p => if p.2.2 then some (p.1 / 32 * 32) else none)).eraseDups
  (s.markedParams gs).haltRing n .fetchSpoil

/-- What a fetch has brought: the ring halts, or goes on with the bytes. -/
def State.fetched (s : State) (n units req : Nat) (go : State → List Byte → State) : State :=
  match s.asked req with
  | none => s
  | some rs =>
    let xs := (s.ring n).spans units
    match answerFault rs with
    | some st => (s.takeAnswers req).fetchRefused n (xs.headD (0, 0)).1 st
    | none =>
      let bs := spanBytes rs xs
      if bs.any Prod.snd then (s.takeAnswers req).fetchMarked n xs bs else go s (bs.map Prod.fst)

/-- Units of the packet whose first unit is given. -/
def headUnits (bs : List Byte) : Nat := 1 + bitsOf (ofBytes bs) 12 4

/-- The packet of a ring has been read. -/
def packetOf (n : Nat) (bs : List Byte) : Cmd := { src := .ring n, pkt := BitVec.ofNat 2048 (ofBytes bs) }

/-- Nothing is asked for from a ring now: in Safe Hold, and while nothing is accepted from it (R51, R68). -/
def State.fetchHeld (s : State) (n : Nat) : Bool := s.safety.hold || s.sourceHeld (.ring n)

/-- The first unit of a packet has been read: where the units present hold the whole packet, the rest is read with it
again, or the packet is there (R60). -/
def State.headRead (s : State) (n req : Nat) (bs : List Byte) : State :=
  if (s.ring n).present < headUnits bs then s
  else if headUnits bs = 1 then (s.takeAnswers req).onRing n fun r => { r with fetch := .ready (packetOf n bs) }
  else if s.fetchHeld n then s
  else (s.takeAnswers req).askFetch n (headUnits bs) fun id => .body id (headUnits bs)

/-- RING_FETCH: the next step of the fetch of a ring's next packet (R60, R61). -/
def State.ringFetch (s : State) (n : Nat) : State :=
  let r := s.ring n
  if r.halted then s
  else
    match r.fetch with
    | .ready _ => s
    | .body req units =>
      s.fetched n units req fun s bs =>
        (s.takeAnswers req).onRing n fun r => { r with fetch := .ready (packetOf n bs) }
    | .head req => s.fetched n 1 req fun s bs => s.headRead n req bs
    | .none =>
      if s.fetchHeld n ∨ ¬ r.en ∨ r.present = 0 ∨ s.turnTaken (.ring n) s.cmd.accepted then s
      else if 2 ^ r.sizeLog2.toNat < r.present then s.haltRing n .doorbell
      else s.askFetch n 1 .head

/-! ### Windows (R65) -/

/-- A command window. -/
def State.window (s : State) (sp : Bool) : CmdWindow := if sp then s.cmd.sp else s.cmd.ctl

/-- CMDW_GO.GO: the packet in the buffer is submitted, unless a command is in the window (R42, R65). -/
def State.windowGo (s : State) (sp : Bool) : State :=
  if (s.window sp).busy then s.onWindow sp fun w => { w with overrun := true }
  else s.onWindow sp fun w => { w with busy := true, done := false, given := some w.buf }

/-! ### A command of the table -/

/-- A request word with good parity (R103). -/
def goodWord (w : BitVec 128) : ReqWord :=
  { word := w
    par := BitVec.ofNat 4 (((List.range 4).map (fun i =>
      if ones 32 (bitsOf w.toNat (32 * i) 32) % 2 = 1 then 0 else 2 ^ i)).sum) }

/-- The beats that carry a packet of `units` 16-byte units (R66). -/
def packetBeats (pkt : BitVec 2048) (units : Nat) : List WBeat :=
  let n := (16 * units + 127) / 128
  (List.range n).map fun i =>
    { data := pkt.extractLsb' (1024 * i) 1024, strb := BitVec.allOnes 128, spoil := 0, last := i + 1 == n }

/-- A packet arrives at the mailbox of a port in a CMD request of class 0 (R66). -/
def State.mailbox (s : State) (p ctx tag : Nat) (c : Cmd) : State :=
  if p < 64 ∧ s.takesRequest p ∧ (s.port p).wd.length + 2 ≤ wdSize p then
    let w := BitVec.ofNat 128
      (7 + (16 * (1 + c.units) - 1) * 2 ^ 8 + ctx % 1024 * 2 ^ 20 + tag % 1024 * 2 ^ 96)
    (s.onPort p fun q => { q with wd := q.wd ++ packetBeats c.pkt (1 + c.units) }).offer p
      { req := goodWord w }
  else s

/-- A packet is written into a window and CMDW_GO is written (R65), unless an access waits there (R436). -/
def State.windowPacket (s : State) (sp : Bool) (c : Cmd) : State :=
  if (if sp then s.reg.waitSp else s.reg.waitCtl).isEmpty then
    (s.onWindow sp fun w => { w with buf := c.pkt }).windowGo sp
  else s

/-- A command arrives by the way its source names. One from a ring is there once it has been fetched. -/
def State.arrive (s : State) (c : Cmd) : State :=
  match c.src with
  | .sp => s.windowPacket true c
  | .ctl => s.windowPacket false c
  | .ring _ => s
  | .mbox p ctx tag => s.mailbox p ctx tag c

/-- A row of the table that is an opcode: the packet arrives, if it carries that opcode and the block
can take it; the block is woken by it (R373, R436). A packet for a mailbox waits in the converter of its port while the
derived clocks stand (R40). -/
def runRow (b : Body) (c : Cmd) (s : State) : State :=
  if c.op ≠ b.code then s
  else if s.ready then (s.wakeBlock.arrive c).settle
  else
    match c.src with
    | .mbox p ctx tag => (s.mailbox p ctx tag c).wakeBlock
    | _ => s.wakeBlock

end Sys2Proof.Machine
end

