-- ==== Sys2Proof/Machine/Operands.lean ====
section
/-!
DEFINITION. What a register access names: its block (Table 16-1), its byte strobes, and the parity with
which it comes (R131, R435).
-/

namespace Sys2Proof.Machine

/-- The block that an address lies in, with the offset in it (Table 16-1). -/
inductive RegPlace where
  | unassigned
  | core (off : Nat)
  | xbar (off : Nat)
  | gov (off : Nat)
  | cmd (off : Nat)
  | link (off : Nat)
  | power (off : Nat)
  | cluster (c off : Nat)
  | bank (c b off : Nat)
  | safety (off : Nat)
deriving DecidableEq, Repr

/-- The place of a word address; ADDR[1:0] are not carried (R131). -/
def regPlace (m : Model) (addr : BitVec 24) : RegPlace :=
  let a := addr.toNat / 4 * 4
  let blk := a / 2 ^ 16
  let off := a % 2 ^ 16
  if blk = 0 then .core off
  else if blk = 1 then .xbar off
  else if blk = 2 then .gov off
  else if blk = 3 then .cmd off
  else if blk = 4 then .link off
  else if blk = 5 then .power off
  else if 8 ≤ blk ∧ blk < 8 + m.clusters then
    if off < 0x8000 then .cluster (blk - 8) off
    else if off < 0xC400 then .bank (blk - 8) ((off - 0x8000) / 0x400) (off % 0x400)
    else .unassigned
  else if blk = 0x80 then .safety off
  else .unassigned

/-- The cluster whose registers a place belongs to: an access to it wakes the cluster (R436). -/
def RegPlace.cluster? : RegPlace → Option Nat
  | .cluster c _ => some c
  | .bank c _ _ => some c
  | _ => none

/-- The bits that a write's strobes select (R131). -/
def RegAccess.mask (a : RegAccess) : Nat :=
  ((List.range 4).map (fun i => if bitOf a.strb.toNat i then 0xFF * 2 ^ (8 * i) else 0)).sum

/-- The bits of a write that are written 1: what W1C and WO fields see. -/
def RegAccess.sets (a : RegAccess) : Nat := a.data.toNat &&& a.mask

/-- The value of an RW field's register after a write: the strobed bytes replaced (R131). -/
def RegAccess.over (a : RegAccess) (old : Nat) : Nat :=
  ((old &&& (0xFFFFFFFF ^^^ a.mask)) ||| a.sets) % 2 ^ 32

/-- The safety partition, which only SP writes (R12, R398). -/
def RegAccess.safety (a : RegAccess) : Bool := decide (0x800000 ≤ a.addr.toNat)

end Sys2Proof.Machine
end

