-- ==== Sys2Proof/Machine/RegRead.lean ====
section
/-!
DEFINITION. What every register reads (16_registers.md and the register tables of each chapter). A register
indexed by something that the configuration lacks reads its reset value (R435); an address that no table
assigns reads 0 (R13).
-/

namespace Sys2Proof.Machine

/-- The sum of bits by position. -/
def bitsFrom (n : Nat) (f : Nat → Bool) : Nat := ((List.range n).map (fun i => bit (f i) * 2 ^ i)).sum

/-- Half `k` of a 64-bit value. -/
def half64 (w : BitVec 64) (k : Nat) : Nat := bitsOf w.toNat (32 * k) 32

/-! ### Block core (Tables 16-2, 16-3, 16-6) -/

/-- ID_CONFIG (Table 16-4). -/
def configWord : Model → Nat
  | .tm64 => 0x01281010 | .tm128 => 0x01482031 | .tm256 => 0x12883072

/-- The width strap of a port; 3 where the configuration lacks it (R440). -/
def State.width (s : State) (p : Nat) : Nat := if s.cfg.hasInitiator p then s.pins.widths.get 1 p else 3

/-- `n` width fields from port `p` on. -/
def State.widthWord (s : State) (p n : Nat) : Nat :=
  ((List.range n).map (fun k => s.width (p + k) * 2 ^ (2 * k))).sum

/-- BLK_STATUS. -/
def State.blkStatus (s : State) : Nat :=
  bit s.integ.postDone + bit (decide (s.fw.state = .running)) * 2 + bit s.safety.hold * 2 ^ 2 +
    bit (s.safety.halfA || s.safety.halfB) * 2 ^ 3 + bit s.power.eco * 2 ^ 4 +
    bit (s.gov.sheds .shares) * 2 ^ 5 + bit (s.gov.sheds .latency) * 2 ^ 6 + bit (s.gov.sheds .stalls) * 2 ^ 7 +
    bitsFrom s.cfg.clusters (fun c => !s.inRun c) * 2 ^ 8 + bit s.time.unset * 2 ^ 16

/-- Identification, status, scratch and interrupt registers. -/
def State.readIdent (s : State) (i : Nat) : Nat :=
  let o := s.fw.otp
  match i with
  | 0 => 0x4A4450D0
  | 1 => 1 + o.stepping.toNat * 2 ^ 16 + 2 ^ 24
  | 2 => configWord s.cfg
  | 3 => 1 + o.maker.toNat * 2 + 0x4A44 * 2 ^ 12 + o.stepping.toNat % 16 * 2 ^ 28
  | 4 => s.blkStatus
  | 6 => half64 o.unique 0
  | 7 => half64 o.unique 1
  | 8 => s.reg.scratch0.toNat
  | 9 => s.reg.scratch1.toNat
  | 10 => s.reg.scratch2.toNat
  | 11 => s.reg.scratch3.toNat
  | 12 => s.widthWord 0 16
  | 13 => s.widthWord 16 16
  | 14 => s.widthWord 32 16
  | 15 => s.widthWord 48 8
  | 16 => s.widthWord 56 8
  | 64 => s.irqSummary
  | 65 => s.reg.route.toNat
  | 66 => bit s.reg.hostEn + bit s.reg.auxEn * 2 + bit s.reg.forceHost * 2 ^ 8 + bit s.reg.forceAux * 2 ^ 9
  | _ => 0

/-- Conversion and events (Tables 7-10, 8-8), by word offset from 0x0400. -/
def State.readEngine (s : State) (i : Nat) : Nat :=
  let e := s.eng
  match i with
  | 0 => s.irqStatus 3
  | 1 => s.irqEnable 3
  | 2 => s.conv.lastView.toNat + bit s.conv.lastClip * 2 ^ 16 + bit s.conv.lastFlush * 2 ^ 17
  | 256 => s.irqStatus 4
  | 257 => s.irqEnable 4
  | 258 => e.lastPop.toNat + e.lastCluster.toNat * 2 ^ 16 + e.lastCause.toNat * 2 ^ 24
  | _ =>
    if 260 ≤ i ∧ i < 268 then
      let n := (i - 260) / 2
      if i % 2 = 0 then (e.evIn.get 0 n).toNat else e.dropBad.get 0 n + e.dropSafe.get 0 n * 2 ^ 16
    else if 268 ≤ i ∧ i < 272 then (e.evOut.get 0 (i - 268)).toNat
    else 0

/-- Folds (Table 9-12), by word offset from 0x0C00. -/
def State.readFolds (s : State) (i : Nat) : Nat :=
  let f := s.folds
  match i with
  | 0 => s.irqStatus 5
  | 1 => s.irqEnable 5
  | 2 => f.lastFold.toNat + f.lastCause.toNat * 2 ^ 16
  | 3 => f.refusedUnderflow + f.refusedBad * 2 ^ 16
  | _ => if 16 ≤ i ∧ i < 32 then (f.ringSlots.get [] (i - 16)).length else 0

/-- FOLD_MAP_c. -/
def State.readMap (s : State) (c : Nat) : Nat :=
  let m := s.folds.maps.get {} c
  m.base.toNat + m.limit.toNat * 2 ^ 16 + bit m.en * 2 ^ 31

/-- Integrity, self-test and firmware of the block (Tables 11-11, 12-11, 15-9), by word offset from
0x2000. -/
def State.readUpkeep (s : State) (i : Nat) : Nat :=
  let n := s.integ
  let o := s.fw.otp
  match i with
  | 0 => s.irqStatus 6
  | 1 => s.irqEnable 6
  | 2 => n.lastBank.toNat + n.lastCause.toNat * 2 ^ 8
  | 256 => s.irqStatus 7
  | 257 => s.irqEnable 7
  | 258 => n.bistCluster.toNat + n.bistSlot.toNat * 2 ^ 4 + n.bistCause.toNat * 2 ^ 12
  | 260 => bit n.postDone + bit n.repairBad * 2 + bit n.safeStart * 4 + n.badClusters.toNat * 2 ^ 8
  | 261 => n.postUnit.toNat
  | 264 => n.ana.toNat
  | 512 => s.imgState
  | 513 => s.irqStatus 8
  | 514 => s.irqEnable 8
  | 515 => o.counter + o.revoked.toNat * 2 ^ 8 + bitsFrom 4 (fun k => (o.digests.find? k).isSome) * 2 ^ 12
  | 516 => s.fw.mon.overrun + s.fw.mon.fifo.length * 2 ^ 16
  | _ => 0

/-- The block core (Table 16-2). -/
def State.readCore (s : State) (off : Nat) : Nat :=
  if off < 0x0400 then s.readIdent (off / 4)
  else if off < 0x0C00 then s.readEngine (off / 4 - 256)
  else if off < 0x1000 then s.readFolds (off / 4 - 768)
  else if off < 0x2000 then s.readMap (off / 4 - 1024)
  else s.readUpkeep (off / 4 - 2048)

/-! ### Crossbar and arbitration (Tables 4-11, 4-12, 5-4, 5-5) -/

/-- PORT_STATE.STATE: RESETTING while a PORT_RESET waits for granted pieces (R132). -/
def State.portState (s : State) (p : Nat) : Nat :=
  if (s.port p).resetting.isSome then 3
  else if (s.port p).parityHold then 2
  else if (s.outstOf p).isEmpty && (s.port p).fifo.isEmpty then 0
  else 1

/-- The registers of an initiator (Table 4-11), by word. -/
def State.readPort (s : State) (p i : Nat) : Nat :=
  let q := s.port p
  match i with
  | 0 => q.ctxBase.toNat + q.ctxCount.toNat * 2 ^ 16
  | 1 => s.portState p + bit (s.portPresent p) * 2 ^ 4 + bit (s.reqHeld p) * 2 ^ 8
  | 2 => s.readsOut p + s.writesOut p * 2 ^ 16
  | 3 => q.reqPar + q.wdPar * 2 ^ 8 + q.ctxPerm * 2 ^ 16
  | 4 => q.wakes.length + (s.folds.slots.get [] p).length * 2 ^ 8
  | _ => 0

/-- One side of TENURE_s. -/
def tenureWord (w : SideState) : Nat :=
  match w.tenure with
  | some t => t.holder + 2 ^ 7 + t.beats * 2 ^ 8
  | none => 0

/-- The registers of a sub-port (Table 5-4), by word. -/
def State.readSub (s : State) (n i : Nat) : Nat :=
  let u := s.sub n
  match i with
  | 0 => u.act.len + u.shd.len * 2 ^ 16 + bit u.guarded * 2 ^ 31
  | 1 =>
    if s.cfg.hasSubport n then
      u.index s.clock.xck + bit (s.swapPends n) * 2 ^ 16 + bit (s.gov.sheds .stalls) * 2 ^ 17
    else 0
  | 2 => u.starveN + u.rd.starve * 2 ^ 8 + u.wr.starve * 2 ^ 16
  | _ => u.rd.unused.toNat + u.wr.unused.toNat * 2 ^ 16

/-- The crossbar block. -/
def State.readXbar (s : State) (off : Nat) : Nat :=
  if off < 65 * 0x20 then s.readPort (off / 0x20) (off % 0x20 / 4)
  else if 0x1000 ≤ off ∧ off ≤ 0x1100 then (s.port ((off - 0x1000) / 4)).prio.toNat
  else if 0x1200 ≤ off ∧ off < 0x1300 then
    let u := s.sub ((off - 0x1200) / 4)
    u.parkInit.toNat + bit u.parkEn * 2 ^ 7
  else if off = 0x1400 then s.irqStatus 1
  else if off = 0x1404 then s.irqEnable 1
  else if off = 0x1408 then s.xbar.parSource.toNat + s.xbar.parKind.toNat * 2 ^ 8
  else if 0x2000 ≤ off ∧ off < 0x2400 then s.readSub ((off - 0x2000) / 0x10) (off % 0x10 / 4)
  else if 0x2400 ≤ off ∧ off ≤ 0x2500 then (s.port ((off - 0x2400) / 4)).burstM1.toNat
  else if 0x2600 ≤ off ∧ off < 0x2700 then
    let u := s.sub ((off - 0x2600) / 4)
    tenureWord u.rd + tenureWord u.wr * 2 ^ 16
  else 0

/-! ### Regulator and governor (Tables 6-9, 6-10) -/

/-- REG_STATE_p. -/
def State.regState (s : State) (p : Nat) : Nat :=
  min 30 (s.urgency p + s.boost (s.port p) true) + min 30 (s.urgency p + s.boost (s.port p) false) * 2 ^ 8 +
    bit (s.port p).demoted * 2 ^ 16 + bit (s.lean && s.overShare p && !s.latencyExempt p) * 2 ^ 17 +
    bit (!s.freeEligible p) * 2 ^ 18

/-- The registers of an initiator at the regulator, by word. -/
def State.readShare (s : State) (p i : Nat) : Nat :=
  let q := s.port p
  match i with
  | 0 => q.qcap + q.wcap * 2 ^ 8 + q.tollShare * 2 ^ 16
  | 1 => s.qres p + s.wres p * 2 ^ 8 + bit (s.latGuar p) * 2 ^ 16
  | 2 => q.tgtRd + q.tgtWr * 2 ^ 16
  | 3 => q.latK + q.b75 * 2 ^ 8 + q.b90 * 2 ^ 12 + q.b100 * 2 ^ 16
  | 4 => min 0xFFFF ((q.ewmaRd.getD 0) / 256) + min 0xFFFF ((q.ewmaWr.getD 0) / 256) * 2 ^ 16
  | 5 => q.budgetNext
  | 6 => if s.cfg.hasInitiator p then s.regState p else 0
  | _ => min q.spend 0xFFFFFFFF

/-- URG_n. -/
def State.readUrg (s : State) (n : Nat) : Nat :=
  let b := s.bell n
  b.steps.toNat + bit b.critIrq * 2 ^ 16 + b.level * 2 ^ 20 + b.critCount.toNat * 2 ^ 24

/-- GOV_DRV.WAIT: the windows that the oldest queued job has waited (R175). -/
def State.drvWait (s : State) : Nat := min 0xFFFF (match s.cmd.jobs.head? with | some j => j.waited | none => 0)

/-- The governor's registers, by word offset from 0x2000. -/
def State.readGov (s : State) (i : Nat) : Nat :=
  let g := s.gov
  match i with
  | 0 => g.limits.1
  | 1 => g.limits.2.1 + tCrit * 2 ^ 8 + g.limits.2.2 * 2 ^ 16
  | 2 => min g.tb 0xFFFFFFFF
  | 3 => min g.spent 0xFFFFFFFF
  | 4 => min g.qStall 0xFFFFFFFF
  | 5 => min g.qShare 0xFFFFFFFF
  | 6 =>
    g.level.code + bit (g.sheds .shares) * 2 ^ 4 + bit (g.sheds .latency) * 2 ^ 5 + bit (g.sheds .stalls) * 2 ^ 6 +
      min g.tmax 255 * 2 ^ 8 + min g.qual 16 * 2 ^ 16
  | 7 => g.hint.toNat
  | 8 => s.irqStatus 2
  | 9 => s.irqEnable 2
  | 10 => s.drvWait + g.drvForced * 2 ^ 16
  | 24 => g.ctrl
  | 25 => g.floor
  | _ =>
    if 16 ≤ i ∧ i < 24 then g.leakNom.get 0 (i - 16) + g.leakEco.get 0 (i - 16) * 2 ^ 16
    else if 32 ≤ i ∧ i < 41 then
      let t := s.sensor (i - 32)
      min t.deg 255 + bit t.valid * 2 ^ 8
    else 0

/-- The regulator and governor block. -/
def State.readRegulator (s : State) (off : Nat) : Nat :=
  if off < 65 * 0x20 then s.readShare (off / 0x20) (off % 0x20 / 4)
  else if 0x1000 ≤ off ∧ off < 0x1020 then s.readUrg ((off - 0x1000) / 4)
  else if 0x2000 ≤ off ∧ off < 0x20A4 then s.readGov ((off - 0x2000) / 4)
  else 0

/-! ### Command interface (Tables 2-6, 2-7) -/

/-- A fetched packet waits for reply slots (R63). -/
def Ring.waitsReply (r : Ring) : Bool :=
  match r.fetch with
  | .ready c => decide (r.freeSlots < if c.defers then 2 else 1)
  | _ => false

/-- RING_STATE.STATE. -/
def State.ringState (s : State) (n : Nat) : RingState :=
  let r := s.ring n
  let mine := s.cmd.waiting.filter (fun w => w.cmd.src.code == n)
  if !r.en then .disabled
  else if r.halted then .halted
  else if s.safety.hold then .waitSafe
  else if mine.any (fun w => decide (w.why = .prev)) then .waitPrev
  else if mine.any (fun w => decide (w.why = .replySlot)) ∨ r.waitsReply then .waitReply
  else if r.present ≠ 0 ∨ !mine.isEmpty then .active
  else .idle

/-- The number of a ring state (Table 2-7). -/
def RingState.code : RingState → Nat
  | .disabled => 0 | .idle => 1 | .active => 2 | .waitReply => 3 | .waitPrev => 4 | .waitSafe => 5 | .halted => 6

/-- The number of a halt cause (Table 2-7). -/
def HaltCause.code : HaltCause → Nat
  | .none => 0 | .fetchDecerr => 1 | .fetchSpoil => 2 | .doorbell => 3 | .replyWrite => 4 | .config => 5

/-- RING_CFG. -/
def Ring.cfgWord (r : Ring) : Nat := bit r.en + r.sizeLog2.toNat * 2 + bit r.system * 2 ^ 6

/-- A ring block, by word. -/
def State.readRing (s : State) (n i : Nat) : Nat :=
  let r := s.ring n
  match i with
  | 0 => r.base.toNat * 2 ^ 8
  | 1 => r.cfgWord
  | 2 => r.ctxBase.toNat * 2 ^ 16
  | 3 => r.ctxCount.toNat
  | 4 => r.prod.toNat
  | 5 => r.cons.toNat
  | 6 => r.replyBase.toNat * 2 ^ 8
  | 7 => r.replyLog2.toNat
  | 8 => r.replyWr.toNat
  | 9 => r.replyRd.toNat
  | 10 => (s.ringState n).code + r.haltCause.code * 2 ^ 8
  | _ => 0

/-- MBOX_CFG_p. -/
def Port.mboxWord (q : Port) : Nat :=
  bit q.mboxEn + bit q.mboxSystem * 2 + bit q.mboxReplyEn * 4 + q.mboxReplyRing.toNat * 2 ^ 4

/-- A command window, by word offset from its buffer (R65). -/
def CmdWindow.read (w : CmdWindow) (i : Nat) : Nat :=
  if i < 64 then bitsOf w.buf.toNat (32 * i) 32
  else if i = 65 then bit w.busy + bit w.done * 2 + bit w.overrun * 4
  else if 68 ≤ i ∧ i < 72 then bitsOf w.reply.toNat (32 * (i - 68)) 32
  else 0

/-- The command interface block. -/
def State.readCmd (s : State) (off : Nat) : Nat :=
  if off = 0x0004 then s.fwState
  else if off = 0x0010 then s.irqStatus 0
  else if off = 0x0014 then s.irqEnable 0
  else if 0x0100 ≤ off ∧ off < 0x0500 then s.readRing ((off - 0x100) / 0x40) (off % 0x40 / 4)
  else if 0x0800 ≤ off ∧ off < 0x0900 then (s.port ((off - 0x800) / 4)).mboxWord
  else if 0x0C00 ≤ off ∧ off < 0x0D20 then s.cmd.ctl.read ((off - 0xC00) / 4)
  else 0

/-! ### Link ports (Tables 10-6, 10-7) -/

/-- A destination entry (R293). -/
def State.readDest (s : State) (d i : Nat) : Nat :=
  match s.links.dests.find? d with
  | some e => if i = 0 then e.chip + 2 ^ 12 + e.inj * 2 ^ 16 else e.nextSeq.toNat + e.floor.toNat * 2 ^ 16
  | none => if i = 0 then 256 * 2 ^ 16 else 0

/-- A source entry (R300): ARRIVED counts the requests that are not done. -/
def State.readSrc (s : State) (k i : Nat) : Nat :=
  match s.links.srcs.find? k with
  | some e =>
    if i = 0 then e.chip + 2 ^ 12 + e.incarn * 2 ^ 16
    else e.base.toNat + (e.recs.filter (fun r => r.2.done.isNone)).length * 2 ^ 16
  | none => 0

/-- The link block. -/
def State.readLink (s : State) (off : Nat) : Nat :=
  let l := s.links
  if off = 0 then s.linkId
  else if off = 4 then s.irqStatus 9
  else if off = 8 then s.irqEnable 9
  else if off = 0xC then l.lastChip.toNat + l.lastCause.toNat * 2 ^ 12 + l.lastPort.toNat * 2 ^ 16
  else if 0x100 ≤ off ∧ off < 0x300 then
    let n := (off - 0x100) / 0x40
    let i := off % 0x40 / 4
    if s.cfg.links ≤ n ∧ i = 1 then 4 + 20 * 2 ^ 16 else s.linkWord n i
  else if 0x400 ≤ off ∧ off < 0x600 then s.readDest ((off - 0x400) / 8) (off % 8 / 4)
  else if 0x800 ≤ off ∧ off < 0xA00 then s.readSrc ((off - 0x800) / 8) (off % 8 / 4)
  else 0

/-! ### Power and time (Tables 13-10, 13-11) -/

/-- REFUSE_A, _B, _C and REFUSE_LAST. -/
def Refusals.word (r : Refusals) (i : Nat) : Nat :=
  match i with
  | 0 => r.foldWait + r.remote * 2 ^ 16
  | 1 => r.drover + r.guarantee * 2 ^ 16
  | 2 => r.bist + r.activation * 2 ^ 16
  | _ => r.mask.toNat + r.attempts.toNat * 2 ^ 16

/-- ABORT. -/
def Aborts.word (a : Aborts) : Nat := a.a1 + a.a2 * 2 ^ 8 + a.a3 * 2 ^ 16 + a.stops.toNat * 2 ^ 24

/-- WAKE_AIN_CFG. -/
def WakeAin.cfgWord (a : WakeAin) : Nat :=
  bit a.en + bit a.pol * 2 + bit a.irq * 4 + a.thresh * 2 ^ 4 + a.hyst * 2 ^ 14 + a.clusters.toNat * 2 ^ 24

/-- The power registers of the block, by word. -/
def State.readBlockPower (s : State) (i : Nat) : Nat :=
  let p := s.power
  match i with
  | 0 => s.pwrState
  | 1 => s.irqStatus 10
  | 2 => s.irqEnable 10
  | 3 => p.lastCause.toNat + p.lastCluster.toNat * 2 ^ 4 + p.lastStep.toNat * 2 ^ 8
  | 4 => p.ticks
  | 5 => p.refusals.word 0
  | 6 => p.refusals.word 1
  | 7 => p.refusals.word 2
  | 8 => p.refusals.word 3
  | 9 => p.aborts.word
  | 10 => half64 p.timer.target 0
  | 11 => half64 p.timer.target 1
  | 12 => p.railLog.toNat + p.railArr.toNat * 2 ^ 4 + p.avsVersion.toNat * 2 ^ 8
  | 13 => p.logMv.toNat + p.arrMv.toNat * 2 ^ 16
  | 14 => p.avsTimeouts + p.avsCrc * 2 ^ 8 + p.avsRefused * 2 ^ 16
  | 15 => p.oppStep + bit p.oppTarget * 2 ^ 3
  | 16 => p.ain.cfgWord
  | 17 => bit (p.ain.en && Config.ainLevel s.powerUps s.clock.elapsed) + bit p.ain.disabled * 2 + p.ain.crossings.toNat * 2 ^ 16
  | 18 => p.ain.debounce
  | 19 => p.sckHz.toNat + bit p.sckBad * 2 ^ 31
  | _ => 0

/-- Microseconds that a cluster has spent in STOP (CSTOP_TIME). -/
def State.stopTime (s : State) (c : Nat) : BitVec 32 :=
  let p := s.cpower c
  BitVec.ofNat 32 ((p.stopSum + if p.mode = .stop then s.clock.elapsed - p.stopAt else 0) / usec)

/-- The power registers of a cluster, by word. -/
def State.readClusterPower (s : State) (c i : Nat) : Nat :=
  let p := s.cpower c
  match i with
  | 0 => p.mode.code + bit p.stopReq * 4 + p.lastWake * 2 ^ 4 + bit p.timer.en * 2 ^ 8
  | 1 => p.ticks
  | 2 => p.refusals.word 0
  | 3 => p.refusals.word 1
  | 4 => p.refusals.word 2
  | 5 => p.refusals.word 3
  | 6 => p.aborts.word
  | 7 => half64 p.timer.target 0
  | 8 => half64 p.timer.target 1
  | 9 => (s.stopTime c).toNat
  | _ => 0

/-- The time registers, by word offset from 0x0400. -/
def State.readTime (s : State) (i : Nat) : Nat :=
  let t := s.time
  match i with
  | 0 => half64 s.now 0
  | 1 => t.latchHi.toNat
  | 2 => t.latchFrac.toNat
  | 3 =>
    bit t.extrapolated + bit t.lost * 2 + bit (decide (t.slew ≠ 0)) * 4 + bit (decide (t.hold ≠ 0)) * 8 + bit t.unset * 16
  | 4 => t.unc
  | 5 => t.mode + bit t.stepEn * 4 + t.delay * 2 ^ 16
  | 6 => t.period
  | 7 => t.slewMax + t.lockNs * 2 ^ 16
  | 8 => bit t.locked + bit t.tsLost * 2 + bit t.outOfRange * 4 + t.good * 2 ^ 8 + t.pulses.toNat * 2 ^ 16
  | 9 => (t.offset % 2 ^ 32).toNat
  | _ => 0

/-- The power and time block. -/
def State.readPower (s : State) (off : Nat) : Nat :=
  if off < 0x50 then s.readBlockPower (off / 4)
  else if 0x100 ≤ off ∧ off < 0x300 then s.readClusterPower ((off - 0x100) / 0x40) (off % 0x40 / 4)
  else if 0x400 ≤ off ∧ off < 0x428 then s.readTime ((off - 0x400) / 4)
  else 0

/-! ### Clusters and banks (Tables 16-8 to 16-10) -/

/-- CL_ID. -/
def State.clId (s : State) (c : Nat) : Nat :=
  c + bit (s.cfg.halfOf c) * 2 ^ 4 + (if s.cfg = .tm256 ∧ 4 ≤ c then 1 else 0) * 2 ^ 8 + 2 ^ 16

/-- SCACHE_STATE: the spec gives FILLS [4:0] and VALID [10:0] places that overlap. Where both fields agree
the word shows them, else its low five bits are free. -/
def State.scacheState (s : State) (c : Nat) : Nat × State :=
  let k := s.cache c
  let v := k.lines.length
  if k.fills.length = v % 32 then (v, s)
  else
    let (f, s) := s.draw
    (v / 32 * 32 + f.toNat % 32, s)

/-- The core of a cluster, but for SCACHE_STATE. -/
def State.readCluster (s : State) (c off : Nat) : Nat :=
  let t := s.ctest c
  let d := s.disp c
  let k := s.cache c
  match off / 4 with
  | 0 => s.clId c
  | 256 => k.hit.toNat
  | 257 => k.miss.toNat
  | 258 => k.sampleLog2.toNat
  | 384 => min 256 d.hold.length + min 64 (s.eventPieces c) * 2 ^ 16 + bit (s.stepRuns c) * 2 ^ 24
  | 385 => d.dropBad + d.dropRange * 2 ^ 16
  | 386 => d.applied.toNat
  | 512 => s.freeFolds c + min 64 (s.folds.queues.get [] c).length * 2 ^ 16
  | 513 => (s.waitersOf c).length + ((s.waitersOf c).filter (fun w => w.ended == some .wake)).length * 2 ^ 16
  | 514 => (s.folds.cops.get 0 c).toNat
  | 640 =>
    t.flipBank.toNat + t.flipRow.toNat * 2 ^ 4 + t.flipGranule.toNat * 2 ^ 18 + bit t.flipHit * 2 ^ 30 +
      bit (t.flipMask != 0) * 2 ^ 31
  | 704 => t.clog.length + t.clogOverflow * 2 ^ 16
  | 705 => (t.clog.headD 0).toNat
  | i =>
    if 644 ≤ i ∧ i < 653 then bitsOf t.flipMask.toNat (32 * (i - 644)) 32
    else if 768 ≤ i ∧ i < 817 then s.bistWord c (i - 768)
    else 0

/-- The slot of a cluster that bank block 16 addresses (R445). -/
def State.freeBlock (s : State) (c : Nat) : Option Nat :=
  (List.range 17).find? fun k => (s.slot (17 * c + k)).state ∈ [.spare, .copying, .penned, .testing]

/-- The slot registers of a physical slot: SPARE_BAD and PATCH, by word. -/
def Slot.register (l : Slot) (i : Nat) : Nat :=
  if i = 6 then half64 l.spareBad 0
  else if i = 7 then half64 l.spareBad 1
  else if 64 ≤ i ∧ i < 96 then (l.patches.get 0 (i - 64)).toNat
  else 0

/-- BANK_ID (Table 16-10). -/
def bankId (logical slot : Nat) (l : Slot) (out : Bool) : Nat :=
  logical + slot * 2 ^ 4 + bitsOf (l.word false) 4 3 * 2 ^ 12 + 2 ^ 16 + bit out * 2 ^ 17

/-- A bank block (Table 16-9). -/
def State.readBank (s : State) (c b off : Nat) : Nat :=
  let i := off / 4
  if b = 16 then
    match s.freeBlock c with
    | some k => if i = 255 then bankId 0 k (s.slot (17 * c + k)) false else (s.slot (17 * c + k)).register i
    | none => 0
  else
    let g := 16 * c + b
    match i with
    | 128 => (s.conv.qntRows.get 0 g).toNat
    | 129 => (s.conv.qntClip.get 0 g).toNat
    | 192 => (s.eng.accRows.get 0 g).toNat
    | 193 => s.eng.accSat.get 0 g + s.eng.accWrap.get 0 g * 2 ^ 16
    | 194 => if (s.lbank g).out then (s.lbank g).lastUsed else (s.bufUsed g).length
    | 255 => bankId b (s.lbank g).slot (s.slotIn g) (s.lbank g).out
    | _ => s.bankWord g i

/-! ### The safety partition (Tables 14-7, 14-8) -/

/-- SAFE_STATE. -/
def State.safeState (s : State) : Nat :=
  let y := s.safety
  bit y.hold + bit y.resetDone * 2 + y.holdCode * 2 ^ 8 + bit (s.inService false) * 2 ^ 16 +
    bit (s.inService true) * 2 ^ 17 + bit y.halfA * 2 ^ 18 + bit y.halfB * 2 ^ 19 + bit s.safeLow * 2 ^ 24 +
    bit s.faultLow * 2 ^ 25

/-- CROOK: HOLDER is the Shepherd that the majority names; VALID, that it is in service (R403). -/
def State.crookWord (s : State) : Nat :=
  let y := s.safety
  let h : Nat := match s.named with | some false => 1 | some true => 2 | none => 0
  y.copy0.toNat + y.copy1.toNat * 2 ^ 2 + y.copy2.toNat * 2 ^ 4 + h * 2 ^ 6 + bit s.holder.isSome * 2 ^ 8

/-- REACT_i: two bits for each of 16 codes. -/
def State.reactWord (s : State) (i : Nat) : Nat :=
  ((List.range 16).map (fun k => s.reaction (16 * i + k) * 2 ^ (2 * k))).sum

/-- Word `w` of ledger entry `i`; 0 where nothing is written. -/
def State.ledgerWord (s : State) (i w : Nat) : Nat :=
  match s.safety.ledger.find? i with
  | some e => ofBytes ((e.bytes.drop (4 * w)).take 4)
  | none => 0

/-- The safety block. -/
def State.readSafety (s : State) (off : Nat) : Nat :=
  let y := s.safety
  let age (h : Bool) : Nat := min 0xFFFF (s.claimAge h / usec)
  if 0x8000 ≤ off then s.ledgerWord ((off - 0x8000) / 0x20) (off % 0x20 / 4)
  else if 0x0C00 ≤ off ∧ off < 0x0D20 then s.cmd.sp.read ((off - 0xC00) / 4)
  else if 0x0100 ≤ off ∧ off < 0x0120 then s.reactWord ((off - 0x100) / 4)
  else
    match off / 4 with
    | 0 => s.safeState
    | 1 => s.crookWord
    | 2 => age false + age true * 2 ^ 16
    | 6 => s.irqStatus 11
    | 7 => s.irqEnable 11
    | 8 => y.head.toNat
    | 9 => y.ack.toNat
    | 10 => y.overrun + min 1024 y.unacked * 2 ^ 16
    | 11 => y.wdogMs + bit y.wdogEn * 2 ^ 16
    | 12 => bit y.test.isSome * 2 + bit y.pass * 4
    | 13 => y.lifecycle + y.fails * 2 ^ 8
    | _ => 0

/-! ### A read -/

/-- TIME_LO latches the rest of the time base (R380). -/
def State.latchTime (s : State) : State :=
  s.onTime fun t =>
    { t with latchHi := BitVec.ofNat 32 (half64 s.now 1), latchFrac := BitVec.ofNat 32 t.now.toNat }

/-- The value of a register, but for what a read itself changes. -/
def State.regValue (s : State) : RegPlace → Nat
  | .unassigned => 0
  | .core off => s.readCore off
  | .xbar off => s.readXbar off
  | .gov off => s.readRegulator off
  | .cmd off => s.readCmd off
  | .link off => s.readLink off
  | .power off => s.readPower off
  | .cluster c off => s.readCluster c off
  | .bank c b off => s.readBank c b off
  | .safety off => s.readSafety off

/-- What a read returns, and what it does: TIME_LO latches (R380); the open bits of SCACHE_STATE are
drawn. -/
def State.regRead (s : State) (addr : BitVec 24) : Nat × State :=
  match regPlace s.cfg addr with
  | .power 0x0400 => (half64 s.now 0, s.latchTime)
  | .cluster c 0x040C => s.scacheState c
  | place => (s.regValue place, s)

end Sys2Proof.Machine
end

