-- ==== Sys2Proof/Machine/RegWrite.lean ====
section
/-!
DEFINITION. What a register write does (Table 16-11, R446), the order of the accesses on CTL and SP, and
their answers (R131, R436 to R441).
-/

namespace Sys2Proof.Machine

/-! ### Interrupt registers (Table 16-5) -/

/-- The interrupt group of an address, and whether it is its enable register. -/
def irqPlace : RegPlace → Option (Nat × Bool)
  | .cmd 0x0010 => some (0, false)
  | .cmd 0x0014 => some (0, true)
  | .xbar 0x1400 => some (1, false)
  | .xbar 0x1404 => some (1, true)
  | .gov 0x2020 => some (2, false)
  | .gov 0x2024 => some (2, true)
  | .core 0x0400 => some (3, false)
  | .core 0x0404 => some (3, true)
  | .core 0x0800 => some (4, false)
  | .core 0x0804 => some (4, true)
  | .core 0x0C00 => some (5, false)
  | .core 0x0C04 => some (5, true)
  | .core 0x2000 => some (6, false)
  | .core 0x2004 => some (6, true)
  | .core 0x2400 => some (7, false)
  | .core 0x2404 => some (7, true)
  | .core 0x2804 => some (8, false)
  | .core 0x2808 => some (8, true)
  | .link 0x0004 => some (9, false)
  | .link 0x0008 => some (9, true)
  | .power 0x0004 => some (10, false)
  | .power 0x0008 => some (10, true)
  | .safety 0x0018 => some (11, false)
  | .safety 0x001C => some (11, true)
  | _ => none

/-- A write to a status register clears what is written 1; a write to an enable register replaces the strobed
bytes (R438, R443). -/
def State.writeIrq (s : State) (g : Nat) (enable : Bool) (a : RegAccess) : State :=
  if enable then s.irqSetEnable g (a.over (s.irqEnable g)) else s.irqClear g a.sets

/-! ### Block core -/

/-- SCRATCH_i, IRQ_ROUTE, IRQ_CTRL. -/
def State.writeCore (s : State) (off : Nat) (a : RegAccess) : State :=
  let r := s.reg
  let w (old : BitVec 32) : BitVec 32 := BitVec.ofNat 32 (a.over old.toNat)
  match off with
  | 0x20 => { s with reg := { r with scratch0 := w r.scratch0 } }
  | 0x24 => { s with reg := { r with scratch1 := w r.scratch1 } }
  | 0x28 => { s with reg := { r with scratch2 := w r.scratch2 } }
  | 0x2C => { s with reg := { r with scratch3 := w r.scratch3 } }
  | 0x104 => { s with reg := { r with route := BitVec.ofNat 11 (a.over r.route.toNat) } }
  | 0x108 =>
    let v := a.over (s.readIdent 66)
    { s with reg := { r with hostEn := bitOf v 0, auxEn := bitOf v 1, forceHost := bitOf v 8, forceAux := bitOf v 9 } }
  | _ => s

/-! ### Ports -/

/-- PORT_CTX_p (R114). -/
def State.writePortCtx (s : State) (p : Nat) (a : RegAccess) : State :=
  if s.cfg.hasInitiator p then
    let v := a.over (s.readPort p 0)
    s.onPort p fun q => { q with ctxBase := BitVec.ofNat 10 v, ctxCount := BitVec.ofNat 11 (v / 2 ^ 16) }
  else s

/-- BURST_p (R141). -/
def State.writeBurst (s : State) (p : Nat) (a : RegAccess) : State :=
  if s.cfg.hasInitiator p then
    s.onPort p fun q =>
      { q with burstM1 := BitVec.ofNat 6 (a.over q.burstM1.toNat), burstOld := q.burst s.clock.xck, burstAt := s.clock.xck + 1 }
  else s

/-- MBOX_CFG_p (R66, R67). -/
def State.writeMbox (s : State) (p : Nat) (a : RegAccess) : State :=
  if s.cfg.hasInitiator p then
    s.onPort p fun q =>
      let v := a.over q.mboxWord
      { q with mboxEn := bitOf v 0, mboxSystem := bitOf v 1, mboxReplyEn := bitOf v 2
               mboxReplyRing := BitVec.ofNat 4 (v / 2 ^ 4) }
  else s

/-- The crossbar block. -/
def State.writeXbar (s : State) (off : Nat) (a : RegAccess) : State :=
  if off < 65 * 0x20 ∧ off % 0x20 = 0 then s.writePortCtx (off / 0x20) a
  else if 0x2400 ≤ off ∧ off ≤ 0x2500 then s.writeBurst ((off - 0x2400) / 4) a
  else s

/-! ### Rings (R59 to R64, R446) -/

/-- SIZE_LOG2 of a ring is one that R59 allows. -/
def Ring.sizeOk (r : Ring) : Bool := decide (6 ≤ r.sizeLog2.toNat) && decide (r.sizeLog2.toNat ≤ 16)

/-- EN goes from 0 to 1 with the other fields of the same write: the indices start at 0, and the ring halts
where a size is not allowed (R64, Table 2-7). -/
def State.enableRing (s : State) (n v : Nat) : State :=
  let s := (s.endFetch n).onRing n fun r =>
    { r with en := true, sizeLog2 := BitVec.ofNat 5 (v / 2), system := bitOf v 6, prod := 0, cons := 0
             replyWr := 0, replyRd := 0, halted := false, haltCause := .none }
  if (s.ring n).sizeOk && (s.ring n).replyOk then s else s.haltRing n .config

/-- RING_CFG. A packet whose fetch has begun as EN is cleared is still fetched and accepted: fetching stops at the
boundary behind it (R64). -/
def State.writeRingCfg (s : State) (n : Nat) (a : RegAccess) : State :=
  let v := a.over (s.ring n).cfgWord
  if (s.ring n).en then
    if bitOf v 0 then s else s.onRing n fun r => { r with en := false }
  else if bitOf v 0 then s.enableRing n v
  else s.onRing n fun r => { r with sizeLog2 := BitVec.ofNat 5 (v / 2), system := bitOf v 6 }

/-- RING_PROD: the doorbell (R60). -/
def State.writeProd (s : State) (n : Nat) (a : RegAccess) : State :=
  if (s.ring n).halted then s
  else
    let s := s.onRing n fun r => { r with prod := BitVec.ofNat 17 (a.over r.prod.toNat) }
    let r := s.ring n
    if r.en ∧ 2 ^ r.sizeLog2.toNat < r.present then s.haltRing n .doorbell else s

/-- Records that the reply ring would hold with REPLY_RD at a value. -/
def Ring.unread (r : Ring) (rd : Nat) : Nat :=
  let n := 2 ^ (r.replyLog2.toNat + 1)
  (r.replyWr.toNat + n - rd % n) % n

/-- REPLY_RD (R446). -/
def State.writeReplyRd (s : State) (n : Nat) (a : RegAccess) : State :=
  let r := s.ring n
  let v := a.over r.replyRd.toNat % 2 ^ 17
  if 2 ^ r.replyLog2.toNat < r.unread v then s.haltRing n .config
  else s.onRing n fun r => { r with replyRd := BitVec.ofNat 17 v }

/-- A field of a ring that only a disabled ring takes. -/
def State.writeIdleRing (s : State) (n : Nat) (f : Ring → Ring) : State := if (s.ring n).en then s else s.onRing n f

/-- A ring block, by word. -/
def State.writeRing (s : State) (n i : Nat) (a : RegAccess) : State :=
  match i with
  | 0 => s.writeIdleRing n fun r => { r with base := BitVec.ofNat 20 (a.over (r.base.toNat * 2 ^ 8) / 2 ^ 8) }
  | 1 => s.writeRingCfg n a
  | 2 => s.writeIdleRing n fun r => { r with ctxBase := BitVec.ofNat 10 (a.over (r.ctxBase.toNat * 2 ^ 16) / 2 ^ 16) }
  | 3 => s.writeIdleRing n fun r => { r with ctxCount := BitVec.ofNat 11 (a.over r.ctxCount.toNat) }
  | 4 => s.writeProd n a
  | 6 =>
    s.writeIdleRing n fun r => { r with replyBase := BitVec.ofNat 20 (a.over (r.replyBase.toNat * 2 ^ 8) / 2 ^ 8) }
  | 7 => s.writeIdleRing n fun r => { r with replyLog2 := BitVec.ofNat 5 (a.over r.replyLog2.toNat) }
  | 9 => s.writeReplyRd n a
  | _ => s

/-! ### Windows (R65) -/

/-- A command window, by word offset from its buffer. -/
def State.writeWindow (s : State) (sp : Bool) (i : Nat) (a : RegAccess) : State :=
  if i < 64 then
    s.onWindow sp fun w =>
      { w with buf := BitVec.ofNat 2048 (putBits w.buf.toNat (32 * i) 32 (a.over (bitsOf w.buf.toNat (32 * i) 32))) }
  else if i = 64 then (if bitOf a.sets 0 then s.windowGo sp else s)
  else if i = 65 then
    s.onWindow sp fun w => { w with done := w.done && !bitOf a.sets 1, overrun := w.overrun && !bitOf a.sets 2 }
  else s

/-- The command interface block. -/
def State.writeCmd (s : State) (off : Nat) (a : RegAccess) : State :=
  if 0x0100 ≤ off ∧ off < 0x0500 then s.writeRing ((off - 0x100) / 0x40) (off % 0x40 / 4) a
  else if 0x0800 ≤ off ∧ off < 0x0900 then s.writeMbox ((off - 0x800) / 4) a
  else if 0x0C00 ≤ off ∧ off < 0x0D08 then s.writeWindow false ((off - 0xC00) / 4) a
  else s

/-! ### Clusters and the safety partition -/

/-- STAT_CFG, BIST_STATE.LSEL, CLOG_POP. -/
def State.writeCluster (s : State) (c off : Nat) (a : RegAccess) : State :=
  match off with
  | 0x0408 => s.onCache c fun k =>
      { k with sampleLog2 := BitVec.ofNat 4 (a.over k.sampleLog2.toNat), sampleOld := k.sample s.clock.xck
               sampleAt := s.clock.xck + 1 }
  | 0x0C00 => s.onCtest c fun t => { t with lsel := BitVec.ofNat 3 (a.over (t.lsel.toNat * 2 ^ 9) / 2 ^ 9) }
  | 0x0B08 => if bitOf a.sets 0 then s.clogPop c else s
  | _ => s

/-- LEDGER_ACK, OUTPUT_TEST.GO and the SP window. -/
def State.writeSafety (s : State) (off : Nat) (a : RegAccess) : State :=
  if off = 0x24 then s.ledgerAck (BitVec.ofNat 32 (a.over s.safety.ack.toNat))
  else if off = 0x30 then (if bitOf a.sets 0 then s.outputTest else s)
  else if 0x0C00 ≤ off ∧ off < 0x0D08 then s.writeWindow true ((off - 0xC00) / 4) a
  else s

/-- A register write takes effect; a field that Table 16-11 does not list does not change (R446). -/
def State.regWrite (s : State) (a : RegAccess) : State :=
  let place := regPlace s.cfg a.addr
  match irqPlace place with
  | some (g, e) => s.writeIrq g e a
  | none =>
    match place with
    | .core off => s.writeCore off a
    | .xbar off => s.writeXbar off a
    | .cmd off => s.writeCmd off a
    | .cluster c off => s.writeCluster c off a
    | .safety off => s.writeSafety off a
    | .unassigned => s
    | .gov _ => s
    | .link _ => s
    | .power _ => s
    | .bank _ _ _ => s

/-! ### Accesses (R131, R436, R441) -/

/-- The odd parity of each byte of a word (R131). -/
def bytePar (d : BitVec 32) : BitVec 4 :=
  BitVec.ofNat 4 (((List.range 4).map (fun i => if ones 8 (bitsOf d.toNat (8 * i) 8) % 2 = 1 then 0 else 2 ^ i)).sum)

/-- Answer an access on its interface. -/
def State.answerReg (s : State) (a : RegAccess) (data : Nat) (st : RegStatus) : State :=
  let d := BitVec.ofNat 32 data
  let r : RegAnswer := { sp := a.sp, write := a.write, addr := a.addr, data := d, par := bytePar d, status := st }
  if a.sp then { s with reg := { s.reg with ansSp := r :: s.reg.ansSp } }
  else { s with reg := { s.reg with ansCtl := r :: s.reg.ansCtl } }

/-- An access whose parity fails is not performed (R127, R131). -/
def State.regParity (s : State) (a : RegAccess) : State :=
  let src := if a.sp then 0x49 else 0x48
  ((s.onXbar fun x => { x with irq := setBit x.irq 3, parSource := BitVec.ofNat 7 src, parKind := 3 }).report
    { code := 0x04, port := src }).answerReg a 0 .parity

/-- What a register reads before the hardware is ready (R441). -/
def State.earlyRead (s : State) (addr : BitVec 24) : Nat :=
  match regPlace s.cfg addr with
  | .core 0x10 => s.blkStatus
  | .safety 0 => 0x03000000
  | _ => 0

/-- An access reaches the register block of a cluster, whose idle timer starts again (R364). -/
def State.regReaches (s : State) (a : RegAccess) : State :=
  match (regPlace s.cfg a.addr).cluster? with
  | some c => s.wakeCluster c 5
  | none => s

/-- An access is performed and answered. -/
def State.regPerform (s : State) (a : RegAccess) : State :=
  let s := if a.parityOk ∧ s.integ.postDone then s.regReaches a else s
  if !a.parityOk then s.regParity a
  else if a.write then
    if a.safety && !a.sp then s.answerReg a 0 .perm
    else if !s.integ.postDone then s.answerReg a 0 .ok
    else (s.regWrite a).answerReg a 0 .ok
  else if !s.integ.postDone then s.answerReg a (s.earlyRead a.addr) .ok
  else
    let (v, s) := s.regRead a.addr
    s.answerReg a v .ok

/-- The accesses that wait on an interface. -/
def State.regQueue (s : State) (sp : Bool) : List RegAccess := if sp then s.reg.waitSp else s.reg.waitCtl

/-- Replace the accesses that wait on an interface. -/
def State.setRegQueue (s : State) (sp : Bool) (q : List RegAccess) : State :=
  if sp then { s with reg := { s.reg with waitSp := q } } else { s with reg := { s.reg with waitCtl := q } }

/-- The stopped cluster that an access waits for (R436). -/
def State.regCluster? (s : State) (a : RegAccess) : Option Nat :=
  if !a.parityOk then none
  else
    match (regPlace s.cfg a.addr).cluster? with
    | some c => if s.inRun c then none else some c
    | none => none

/-- The accesses at the front of an interface that can be performed are, at most `n` of them; the one that
waits for a cluster wakes it (R436). -/
def State.drainRegs (s : State) (sp : Bool) : Nat → State
  | 0 => s
  | n + 1 =>
    match s.regQueue sp with
    | [] => s
    | a :: rest =>
      match s.regCluster? a with
      | some c => s.wakeCluster c 5
      | none => ((s.setRegQueue sp rest).regPerform a).drainRegs sp n

/-- CTL and SP answer: 60 µs after the rise of PWR_OK (Table 17-5). -/
def State.regOpen (s : State) : Bool := s.clock.running && (s.integ.postDone || decide (60 * usec ≤ s.clock.elapsed))

/-- The accesses that wait are performed as far as they can be, those of SP after those of CTL (R436, R438). -/
def State.drainBoth (s : State) : State :=
  (s.drainRegs false s.reg.waitCtl.length).drainRegs true s.reg.waitSp.length

/-- What goes on by itself in the control path: the command interface, and the accesses that wait. -/
def State.goOn (s : State) : State :=
  if s.ready then s.linkResume.settle.drainBoth.settle
  else if s.regOpen ∧ ¬ s.integ.postDone then s.drainBoth
  else s

/-- An access is presented on CTL or SP. It waits behind those that wait there, until the interfaces answer, and for a
stopped block (R373, R436, Table 17-5). -/
def State.access (s : State) (a : RegAccess) : State :=
  if !s.pins.pwrOk then s
  else
    let s := s.setRegQueue a.sp (s.regQueue a.sp ++ [a])
    if s.clock.running then s.wakeBlock.goOn else s.wakeBlock

end Sys2Proof.Machine
end

