-- ==== Sys2Proof/Machine/Startup.lean ====
section
/-!
DEFINITION. Start-up, reset and the test access port: PWR_OK, the repair load, what a failed unit costs,
hardware ready, port group clocks, JTAG (R38, R346, R347, R360, R455 to R458).
-/

namespace Sys2Proof.Machine

/-! ### Reset (R458) -/

/-- FLASH and OTP: what of firmware outlives a reset. -/
def Firmware.kept (w : Firmware) : Firmware :=
  { slotA := w.slotA, slotB := w.slotB, boot0 := w.boot0, boot1 := w.boot1, settings0 := w.settings0
    settings1 := w.settings1, otp := w.otp }

/-- The OTP as the next power-up reads it: with the identity that has been programmed (R440). -/
def State.otpNext (s : State) : Otp :=
  { s.fw.otp with unique := s.fw.otp.unique ||| s.tap.unique, maker := s.fw.otp.maker ||| s.tap.maker }

/-- The block in reset: every register at its reset value. FLASH, OTP, the lifecycle state, the repair fuses
and the levels of the inputs stand. -/
def State.inReset (s : State) : State :=
  let t := State.cleared s.cfg { s.fw.kept with otp := s.otpNext } s.safety.lifecycle s.powerUps s.fresh s.tap.fuses s.pending
  { t with
    pins := { rckFack := s.pins.rckFack, clockStopped := s.pins.clockStopped }
    links := { ports := s.links.ports.map fun e => (e.1, { up := e.2.up }) }
    gov := { t.gov with bells := s.gov.bells.map fun e => (e.1, { level := e.2.level }) } }

/-- PWR_OK_FALL (R458). -/
def State.pwrOkFall (s : State) : State := if s.pins.pwrOk then s.inReset else s

/-! ### The rise of PWR_OK (R346, R449, R455, R456) -/

/-- The width straps as they are sampled: an absent port's is ignored, a link port strapped 2 reads 3
(R449). -/
def sampledStraps (m : Model) (ws : List (Nat × Nat)) : Tbl Nat :=
  ws.foldl (fun t w =>
    let v := if 56 ≤ w.1 ∧ w.2 % 4 = 2 then 3 else w.2 % 4
    if w.1 < 64 ∧ m.hasInitiator w.1 then t.set w.1 v else t) []

/-- An entry of a factory record as it is installed: FACTORY and valid. -/
def factoryPatch (e : BitVec 32) : BitVec 32 := e ||| BitVec.ofNat 32 (2 ^ 30 + 2 ^ 31)

/-- The repair record of a slot is loaded (R346). -/
def State.loadRepair (s : State) (r : Repair) : State :=
  if r.slot < 17 * s.cfg.clusters then
    s.onSlot r.slot fun l =>
      { l with patches := r.patches.map (fun e => (e.1, factoryPatch e.2)), spareBad := r.spareBad
               state := if r.bad then .unusable else l.state }
  else s

/-- The repair records of the clusters whose CRC holds; each of the others starts with a ledger entry
(R346). -/
def State.loadRepairs (s : State) (rs : List Repair) (bad : BitVec 8) : State :=
  let s := (rs.filter (fun r => !bitOf bad.toNat (r.slot / 17))).foldl State.loadRepair s
  ((List.range s.cfg.clusters).filter (fun c => bitOf bad.toNat c)).foldl
    (fun s c => (s.onInteg fun n => { n with repairBad := true }).log { code := 0x64, cluster := c }) s

/-- RCK ÷ 64 counted against SCK over 10 µs: 3.2 GHz ± 0.5 % (R456). -/
def rckCountOk (n : Nat) : Bool := decide (498 ≤ n) && decide (n ≤ 502)

/-- The sequence of R455 starts, or starts again after a count out of range; the dividers run once the count
is right. The arrays hold what a power-up leaves in them (R338). -/
def State.pwrOkRise (s : State) (widths : List (Nat × Nat)) (repair : List Repair) (bad : BitVec 8)
    (count : Nat) : State :=
  if s.integ.postDone ∨ s.clock.running then s
  else
    let straps := if s.pins.pwrOk then s.pins.widths else sampledStraps s.cfg widths
    let s := { s with pins := { s.pins with pwrOk := true, widths := straps } }
    if rckCountOk count then
      let s := { s with clock := { running := true }, powerUps := s.powerUps + 1, mem := [] }
      s.loadRepairs (repair ++ s.tap.fuses) bad
    else s

/-! ### Consequences of logic BIST (Table 12-3) -/

/-- A cluster lost a unit (POST_STATE.BAD_CLUSTERS). -/
def State.lostUnit (s : State) (c : Nat) : State := s.onInteg fun n => { n with badClusters := setBit n.badClusters c }


/-- A slot that is unusable before memory holds data: the spare takes its bank with no copy, or the bank is
out of service. -/
def State.slotLost (s : State) (k : Nat) : State :=
  let c := k / 17
  let s := s.onSlot k fun l => { l with state := .unusable }
  match (List.range 16).find? (fun b => (s.lbank (16 * c + b)).slot == k % 17) with
  | none => s
  | some b =>
    let g := 16 * c + b
    if (s.lbank g).out then s
    else
      match s.spareOf c with
      | some p =>
        let s := s.onSlot (17 * c + p) fun l => { l with state := .inService, logical := b }
        (s.onLbank g fun x => { x with slot := p }).logSlot 0x65 c p
      | none => ((s.onLbank g fun x => { x with out := true }).bistEvent 2 c (k % 17)).logSlot 0x65 c (k % 17)

/-- A bank goes out of service unless it is out already. -/
def State.outOnce (s : State) (g : Nat) : State := if (s.lbank g).out then s else s.bankOut g

/-- The ledger entry of a failed unit for which Table 14-2 lists no code: its code is a free value (R347, log entry
62). -/
def State.logUnit (s : State) (f : FaultInfo) : State :=
  let (v, s) := s.draw
  s.log { f with code := v.toNat % 256 }

/-- A sub-port failed: both of its banks are out of service and its stall table is never applied. -/
def State.subLost (s : State) (n : Nat) : State :=
  let s := ((s.lostUnit (n / 8)).onSub n fun u => { u with unusable := true }).logUnit { code := 0, cluster := n / 8 }
  (s.outOnce (2 * n)).outOnce (2 * n + 1)

/-- A port converter or an event port failed (POST_UNIT). -/
def State.badUnit (s : State) (i port : Nat) : State :=
  (s.onInteg fun n => { n with postUnit := setBit n.postUnit i }).logUnit { code := 0, port := port }

/-- A unit of a cluster failed: all 16 banks are out of service, no fold and no population is placed there. -/
def State.clusterLost (s : State) (c : Nat) : State :=
  ((List.range 16).map (16 * c + ·)).foldl State.outOnce
    (((s.lostUnit c).onCtest c fun t => { t with lost := true }).logUnit { code := 0, cluster := c })

/-- The consequences of Table 12-3, with the slots that were bad at manufacture. Each failure has its ledger entry (R347);
Table 14-2 gives 0x44 for a block-level unit other than these, and none for a sub-port, a unit of a cluster, a port
converter or an event port: that code is free (log entry 62). -/
def State.consequences (s : State) (p : Post) : State :=
  let bad := (List.range (17 * s.cfg.clusters)).filter
    (fun k => decide ((s.slot k).state = .unusable) || p.slots.contains k)
  let s := (p.slots.filter (fun k => decide (k < 17 * s.cfg.clusters))).foldl (fun s k =>
    (s.lostUnit (k / 17)).logSlot 0x65 (k / 17) (k % 17)) s
  let s := bad.foldl (fun s k => s.onSlot k fun l => { l with state := .unusable }) s
  let s := bad.foldl State.slotLost s
  let s := (p.subs.filter s.cfg.hasSubport).foldl State.subLost s
  let s := (p.clusters.filter s.hasCluster).foldl State.clusterLost s
  let s := (p.ports.filter (fun q => decide (q < 64) && s.cfg.hasInitiator q)).foldl
    (fun s q => (s.onInteg fun n => { n with badPorts := q :: n.badPorts }).badUnit 6 q) s
  let s := (p.events.filter (fun v => decide (v < 4))).foldl
    (fun s v => (s.onEng fun e => { e with unusable := setBit e.unusable v }).badUnit (2 + v) (0x40 + v)) s
  (p.sensors.filter s.sensorsOf.contains).foldl
    (fun s k => s.onGov fun g => { g with sensors := g.sensors.modify {} k fun x => { x with failed := true } }) s

/-- A Shepherd that failed logic BIST (R402), and any other unit: the block starts in Safe Hold (R347). -/
def State.postFaults (s : State) (p : Post) : State :=
  let shep (s : State) (h failed : Bool) : State :=
    if failed then
      (s.onInteg fun n => { n with postUnit := setBit n.postUnit (if h then 1 else 0) }).fault
        { code := 0x36, port := shepherdPort h }
    else s
  let s := shep (shep s false p.shepA) true p.shepB
  if p.other then (s.onInteg fun n => { n with safeStart := true }).fault { code := 0x44 } else s

/-- HARDWARE_READY (R346, R455): the consequences, region 0, the version of the regulator that AVSBus was
read for, POST_STATE, the first window. -/
def State.hardwareReady (s : State) (p : Post) : State :=
  if !s.pins.pwrOk || !s.clock.running || s.integ.postDone then s
  else
    let s := (s.consequences p).setRegionZero
    let (v, s) := s.draw
    let s := s.onPower fun w => { w with avsVersion := v.setWidth 8 }
    let s := s.onInteg fun n => { n with postDone := true }
    (s.postFaults p).windowStart

/-! ### Port group clocks (R38) -/

/-- PORT_GROUP_CLOCK_CHANGE: the clock of a pair of ports stops or returns. -/
def State.groupClock (s : State) (p : Nat) (runs : Bool) : State :=
  if 64 ≤ p then s
  else
    let q := p / 2 * 2
    let s := { s with pins := { s.pins with
      clockStopped := if runs then (s.pins.clockStopped.erase q).erase (q + 1)
        else (s.pins.clockStopped.set q true).set (q + 1) true } }
    if runs ∧ s.ready then (s.pump q).pump (q + 1) else s

/-! ### JTAG (R360, Table 12-8) -/

/-- The lifecycle state allows an instruction. -/
def State.tapAllows (s : State) : TapOp → Bool
  | .bypass => true
  | .idcode => true
  | .samplePreload => s.safety.lifecycle != 4
  | .extest => s.safety.lifecycle != 4
  | .internalScan => s.safety.lifecycle == 0 || s.safety.lifecycle == 3
  | .rawRead k row =>
    (s.safety.lifecycle == 0 || s.safety.lifecycle == 3) && decide (k < 17 * s.cfg.clusters) && decide (row < slotRows)
  | .rawWrite k row _ =>
    (s.safety.lifecycle == 0 || s.safety.lifecycle == 3) && decide (k < 17 * s.cfg.clusters) && decide (row < slotRows)
  | .repairFuse r => (s.safety.lifecycle == 0 || s.safety.lifecycle == 3) && decide (r.slot < 17 * s.cfg.clusters)
  | .otpKey k _ => s.safety.lifecycle == 0 && decide (k < 4)
  | .otpIdentity _ _ _ => s.safety.lifecycle == 0

/-- The data register shows a free value: the spec lays out no boundary register and no scan chain. -/
def State.freeDr (s : State) : State :=
  { s with tap := { s.tap with dr := (Config.freeBeat s.fresh).setWidth 1152 }, fresh := s.fresh + 1 }

/-- The 144 bytes of a physical row: lane by lane in each granule. -/
def rawPlaces (k row : Nat) : List Nat :=
  (List.range 4).flatMap (fun g => (List.range 36).map (fun l => cellAddr k row g l))

/-- Change the OTP. -/
def State.onOtp (s : State) (f : Otp → Otp) : State := s.onFw fun w => { w with otp := f w.otp }

/-- JTAG_INSTRUCTION. -/
def State.jtag (s : State) (i : TapOp) : State :=
  if !s.pins.pwrOk || !s.tapAllows i then s
  else
    let s := { s with tap := { s.tap with ir := i } }
    match i with
    | .bypass => { s with tap := { s.tap with dr := 0 } }
    | .idcode => { s with tap := { s.tap with dr := BitVec.ofNat 1152 (s.readIdent 3) } }
    | .samplePreload => s.freeDr
    | .extest => s.freeDr
    | .internalScan => s.freeDr
    | .rawRead k row =>
      { s with tap := { s.tap with dr := BitVec.ofNat 1152 (ofBytes ((rawPlaces k row).map s.symbol)) } }
    | .rawWrite k row d =>
      ((rawPlaces k row).zip (toBytes 144 d.toNat)).foldl (fun s p => s.setSymbol p.1 p.2) s
    | .repairFuse r => { s with tap := { s.tap with fuses := s.tap.fuses ++ [r] } }
    | .otpKey k d => s.onOtp fun o => { o with digests := if (o.digests.find? k).isSome then o.digests else o.digests.set k d }
    | .otpIdentity u m c =>
      let s := { s with tap := { s.tap with unique := s.tap.unique ||| u, maker := s.tap.maker ||| m } }
      s.onOtp fun o => { o with rmaCode := o.rmaCode ||| c }

end Sys2Proof.Machine
end

