-- ==== Sys2Proof/Machine/BoundaryRows.lean ====
section
/-!
DEFINITION. The rows of the boundary: PWR_OK, hardware ready, port group clocks, JTAG (12 and 17 of the
spec).
-/

namespace Sys2Proof.Machine

/-! ### Output levels (Table 17-1, R458) -/

/-- The levels of the block's outputs that are no message. -/
structure Lines where
  flashSclk : Bool
  flashCsN : Bool
  /-- FLASH_IO as the block drives it; none where it does not. -/
  flashIo : Option (BitVec 4)
  avsClk : Bool
  avsMdata : Bool
  svcMiso : Bool
  monTx : Bool
  tdo : Bool
  tsyncOut : Bool
  budgetHint : BitVec 32
  safeN : Bool
  faultN : Bool
  rckFsel : Bool
  rckIdle : Bool
  intHost : Bool
  intAux : Bool
  intSafe : Bool
deriving DecidableEq, Repr

/-- A serial output at this time; how its frames lie in time is a free value (log entry 70). -/
def State.serial (s : State) (line : Nat) : Bool := Config.lineLevel line s.powerUps s.clock.elapsed

/-- The outputs: in reset at the levels of R458, BUDGET_HINT 0 until the hardware is ready (Table 17-5). -/
def State.lines (s : State) : Lines :=
  let up := s.pins.pwrOk
  { flashSclk := up && s.serial 0
    flashCsN := !up || s.serial 1
    flashIo := if up ∧ s.serial 2 then
        some (BitVec.ofNat 4 (bit (s.serial 3) + bit (s.serial 4) * 2 + bit (s.serial 5) * 4 + bit (s.serial 6) * 8))
      else none
    avsClk := up && s.serial 7
    avsMdata := up && s.serial 8
    svcMiso := up && s.serial 9
    monTx := !up || decide (s.fw.state ≠ .running) || s.serial 10
    tdo := up && s.serial 11
    tsyncOut := decide (0 < s.time.outHigh)
    budgetHint := if s.integ.postDone then s.gov.hint else 0
    safeN := !s.safeLow
    faultN := !s.faultLow
    rckFsel := s.power.rckFsel
    rckIdle := s.power.rckIdle
    intHost := s.intHost
    intAux := s.intAux
    intSafe := s.intSafe }

/-- PWR_OK_RISE (R455). -/
def execPwrOkRise (widths : List (Nat × Nat)) (repair : List Repair) (repairBad : BitVec 8) (count : Nat)
    (s : State) : Host.Outcome State Fault Refusal :=
  .next (s.pwrOkRise widths repair repairBad count)

/-- HARDWARE_READY (R346). -/
def execHardwareReady (post : Post) (s : State) : Host.Outcome State Fault Refusal := .next (s.hardwareReady post)

/-- PWR_OK_FALL (R458). -/
def execPwrOkFall (s : State) : Host.Outcome State Fault Refusal := .next s.pwrOkFall

/-- PORT_GROUP_CLOCK_CHANGE (R38). -/
def execPortGroupClockChange (p : Nat) (runs : Bool) (s : State) : Host.Outcome State Fault Refusal :=
  .next ((s.groupClock p runs).goOn)

/-- JTAG_INSTRUCTION (R360). -/
def execJtagInstruction (i : TapOp) (s : State) : Host.Outcome State Fault Refusal := .next (s.jtag i)

end Sys2Proof.Machine
end

