-- ==== Sys2Proof/Machine/CmdRows.lean ====
section
/-!
DEFINITION. The rows of the table that are opcodes (Table 2-9): each is the arrival of its packet by
the way its source names, and all that follows from it in the same step.
-/

namespace Sys2Proof.Machine

/-- NOP (R69). -/
def execNop (c : Cmd) (s : State) : Host.Outcome State Fault Refusal :=
  .next (runRow bodyNop c s)

/-- ECHO (R69). -/
def execEcho (c : Cmd) (s : State) : Host.Outcome State Fault Refusal :=
  .next (runRow bodyEcho c s)

/-- QUERY_STATE (R52). -/
def execQueryState (c : Cmd) (s : State) : Host.Outcome State Fault Refusal :=
  .next (runRow bodyQueryState c s)

/-- CTX_RESET (R282). -/
def execCtxReset (c : Cmd) (s : State) : Host.Outcome State Fault Refusal :=
  .next (runRow bodyCtxReset c s)

/-- PORT_RESET (R132). -/
def execPortReset (c : Cmd) (s : State) : Host.Outcome State Fault Refusal :=
  .next (runRow bodyPortReset c s)

/-- DRAIN (R133). -/
def execDrain (c : Cmd) (s : State) : Host.Outcome State Fault Refusal :=
  .next (runRow bodyDrain c s)

/-- REGION_SET (R84). -/
def execRegionSet (c : Cmd) (s : State) : Host.Outcome State Fault Refusal :=
  .next (runRow bodyRegionSet c s)

/-- REGION_CLEAR (R84). -/
def execRegionClear (c : Cmd) (s : State) : Host.Outcome State Fault Refusal :=
  .next (runRow bodyRegionClear c s)

/-- REGION_QUERY (R99). -/
def execRegionQuery (c : Cmd) (s : State) : Host.Outcome State Fault Refusal :=
  .next (runRow bodyRegionQuery c s)

/-- REGION_MARK_INIT (R85). -/
def execRegionMarkInit (c : Cmd) (s : State) : Host.Outcome State Fault Refusal :=
  .next (runRow bodyRegionMarkInit c s)

/-- VIEW_SET (R96). -/
def execViewSet (c : Cmd) (s : State) : Host.Outcome State Fault Refusal :=
  .next (runRow bodyViewSet c s)

/-- VIEW_CLEAR (R96). -/
def execViewClear (c : Cmd) (s : State) : Host.Outcome State Fault Refusal :=
  .next (runRow bodyViewClear c s)

/-- VIEW_QUERY (R99). -/
def execViewQuery (c : Cmd) (s : State) : Host.Outcome State Fault Refusal :=
  .next (runRow bodyViewQuery c s)

/-- VIEW_STATS (R220). -/
def execViewStats (c : Cmd) (s : State) : Host.Outcome State Fault Refusal :=
  .next (runRow bodyViewStats c s)

/-- STALL_LOAD (R146). -/
def execStallLoad (c : Cmd) (s : State) : Host.Outcome State Fault Refusal :=
  .next (runRow bodyStallLoad c s)

/-- STALL_SWAP (R147). -/
def execStallSwap (c : Cmd) (s : State) : Host.Outcome State Fault Refusal :=
  .next (runRow bodyStallSwap c s)

/-- STALL_QUERY (R151). -/
def execStallQuery (c : Cmd) (s : State) : Host.Outcome State Fault Refusal :=
  .next (runRow bodyStallQuery c s)

/-- PRIO_SET (R125). -/
def execPrioSet (c : Cmd) (s : State) : Host.Outcome State Fault Refusal :=
  .next (runRow bodyPrioSet c s)

/-- PARK_SET (R126). -/
def execParkSet (c : Cmd) (s : State) : Host.Outcome State Fault Refusal :=
  .next (runRow bodyParkSet c s)

/-- STARVE_SET (R142). -/
def execStarveSet (c : Cmd) (s : State) : Host.Outcome State Fault Refusal :=
  .next (runRow bodyStarveSet c s)

/-- SHARE_SET (R155). -/
def execShareSet (c : Cmd) (s : State) : Host.Outcome State Fault Refusal :=
  .next (runRow bodyShareSet c s)

/-- URGENCY_SET (R159). -/
def execUrgencySet (c : Cmd) (s : State) : Host.Outcome State Fault Refusal :=
  .next (runRow bodyUrgencySet c s)

/-- LATENCY_SET (R162). -/
def execLatencySet (c : Cmd) (s : State) : Host.Outcome State Fault Refusal :=
  .next (runRow bodyLatencySet c s)

/-- BUDGET_SET (R163). -/
def execBudgetSet (c : Cmd) (s : State) : Host.Outcome State Fault Refusal :=
  .next (runRow bodyBudgetSet c s)

/-- ADMIT (R165). -/
def execAdmit (c : Cmd) (s : State) : Host.Outcome State Fault Refusal :=
  .next (runRow bodyAdmit c s)

/-- GUARANTEE_RELEASE (R169). -/
def execGuaranteeRelease (c : Cmd) (s : State) : Host.Outcome State Fault Refusal :=
  .next (runRow bodyGuaranteeRelease c s)

/-- POWER_LIMIT_SET (R172). -/
def execPowerLimitSet (c : Cmd) (s : State) : Host.Outcome State Fault Refusal :=
  .next (runRow bodyPowerLimitSet c s)

/-- SHED_QUERY (R180). -/
def execShedQuery (c : Cmd) (s : State) : Host.Outcome State Fault Refusal :=
  .next (runRow bodyShedQuery c s)

/-- FOLD_MAP (R259). -/
def execFoldMap (c : Cmd) (s : State) : Host.Outcome State Fault Refusal :=
  .next (runRow bodyFoldMap c s)

/-- FOLD_CREATE (R262). -/
def execFoldCreate (c : Cmd) (s : State) : Host.Outcome State Fault Refusal :=
  .next (runRow bodyFoldCreate c s)

/-- FOLD_DESTROY (R283). -/
def execFoldDestroy (c : Cmd) (s : State) : Host.Outcome State Fault Refusal :=
  .next (runRow bodyFoldDestroy c s)

/-- FOLD_ARM (R284). -/
def execFoldArm (c : Cmd) (s : State) : Host.Outcome State Fault Refusal :=
  .next (runRow bodyFoldArm c s)

/-- FOLD_OP (R263). -/
def execFoldOp (c : Cmd) (s : State) : Host.Outcome State Fault Refusal :=
  .next (runRow bodyFoldOp c s)

/-- FOLD_QUERY (R285). -/
def execFoldQuery (c : Cmd) (s : State) : Host.Outcome State Fault Refusal :=
  .next (runRow bodyFoldQuery c s)

/-- FOLD_DUMP (R286). -/
def execFoldDump (c : Cmd) (s : State) : Host.Outcome State Fault Refusal :=
  .next (runRow bodyFoldDump c s)

/-- POP_SET (R241). -/
def execPopSet (c : Cmd) (s : State) : Host.Outcome State Fault Refusal :=
  .next (runRow bodyPopSet c s)

/-- POP_CLEAR (R241). -/
def execPopClear (c : Cmd) (s : State) : Host.Outcome State Fault Refusal :=
  .next (runRow bodyPopClear c s)

/-- POP_QUERY (R255). -/
def execPopQuery (c : Cmd) (s : State) : Host.Outcome State Fault Refusal :=
  .next (runRow bodyPopQuery c s)

/-- POP_STAGE (R232). -/
def execPopStage (c : Cmd) (s : State) : Host.Outcome State Fault Refusal :=
  .next (runRow bodyPopStage c s)

/-- POP_UNSTAGE (R233). -/
def execPopUnstage (c : Cmd) (s : State) : Host.Outcome State Fault Refusal :=
  .next (runRow bodyPopUnstage c s)

/-- STEP (R250). -/
def execStep (c : Cmd) (s : State) : Host.Outcome State Fault Refusal :=
  .next (runRow bodyStep c s)

/-- POP_UNTAINT (R249). -/
def execPopUntaint (c : Cmd) (s : State) : Host.Outcome State Fault Refusal :=
  .next (runRow bodyPopUntaint c s)

/-- EVROUTE_SET (R252). -/
def execEvrouteSet (c : Cmd) (s : State) : Host.Outcome State Fault Refusal :=
  .next (runRow bodyEvrouteSet c s)

/-- DRV_FILL (R72). -/
def execDrvFill (c : Cmd) (s : State) : Host.Outcome State Fault Refusal :=
  .next (runRow bodyDrvFill c s)

/-- DRV_COPY (R73). -/
def execDrvCopy (c : Cmd) (s : State) : Host.Outcome State Fault Refusal :=
  .next (runRow bodyDrvCopy c s)

/-- DRV_CONVERT (R219). -/
def execDrvConvert (c : Cmd) (s : State) : Host.Outcome State Fault Refusal :=
  .next (runRow bodyDrvConvert c s)

/-- DRV_EVACUATE (R349). -/
def execDrvEvacuate (c : Cmd) (s : State) : Host.Outcome State Fault Refusal :=
  .next (runRow bodyDrvEvacuate c s)

/-- DRV_CANCEL (R74). -/
def execDrvCancel (c : Cmd) (s : State) : Host.Outcome State Fault Refusal :=
  .next (runRow bodyDrvCancel c s)

/-- DRV_QUERY (R467). -/
def execDrvQuery (c : Cmd) (s : State) : Host.Outcome State Fault Refusal :=
  .next (runRow bodyDrvQuery c s)

/-- WINDOW_SET (R90). -/
def execWindowSet (c : Cmd) (s : State) : Host.Outcome State Fault Refusal :=
  .next (runRow bodyWindowSet c s)

/-- WINDOW_CLEAR (R99). -/
def execWindowClear (c : Cmd) (s : State) : Host.Outcome State Fault Refusal :=
  .next (runRow bodyWindowClear c s)

/-- WINDOW_QUERY (R99). -/
def execWindowQuery (c : Cmd) (s : State) : Host.Outcome State Fault Refusal :=
  .next (runRow bodyWindowQuery c s)

/-- CHIP_ID_SET (R291). -/
def execChipIdSet (c : Cmd) (s : State) : Host.Outcome State Fault Refusal :=
  .next (runRow bodyChipIdSet c s)

/-- EPOCH_SET (R292). -/
def execEpochSet (c : Cmd) (s : State) : Host.Outcome State Fault Refusal :=
  .next (runRow bodyEpochSet c s)

/-- LINK_RESET (R309). -/
def execLinkReset (c : Cmd) (s : State) : Host.Outcome State Fault Refusal :=
  .next (runRow bodyLinkReset c s)

/-- LINK_QUERY (R310). -/
def execLinkQuery (c : Cmd) (s : State) : Host.Outcome State Fault Refusal :=
  .next (runRow bodyLinkQuery c s)

/-- RETRY_SET (R306). -/
def execRetrySet (c : Cmd) (s : State) : Host.Outcome State Fault Refusal :=
  .next (runRow bodyRetrySet c s)

/-- SCRUB_SET (R334). -/
def execScrubSet (c : Cmd) (s : State) : Host.Outcome State Fault Refusal :=
  .next (runRow bodyScrubSet c s)

/-- PATCH_SET (R330). -/
def execPatchSet (c : Cmd) (s : State) : Host.Outcome State Fault Refusal :=
  .next (runRow bodyPatchSet c s)

/-- PATCH_QUERY (R341). -/
def execPatchQuery (c : Cmd) (s : State) : Host.Outcome State Fault Refusal :=
  .next (runRow bodyPatchQuery c s)

/-- LANE_RETIRE (R320). -/
def execLaneRetire (c : Cmd) (s : State) : Host.Outcome State Fault Refusal :=
  .next (runRow bodyLaneRetire c s)

/-- INTEG_QUERY (R342). -/
def execIntegQuery (c : Cmd) (s : State) : Host.Outcome State Fault Refusal :=
  .next (runRow bodyIntegQuery c s)

/-- BIST_RUN (R356). -/
def execBistRun (c : Cmd) (s : State) : Host.Outcome State Fault Refusal :=
  .next (runRow bodyBistRun c s)

/-- BIST_QUERY (R361). -/
def execBistQuery (c : Cmd) (s : State) : Host.Outcome State Fault Refusal :=
  .next (runRow bodyBistQuery c s)

/-- PEN_BANK (R353). -/
def execPenBank (c : Cmd) (s : State) : Host.Outcome State Fault Refusal :=
  .next (runRow bodyPenBank c s)

/-- FLIP_ARM (R340). -/
def execFlipArm (c : Cmd) (s : State) : Host.Outcome State Fault Refusal :=
  .next (runRow bodyFlipArm c s)

/-- PWR_STATE_SET (R370). -/
def execPwrStateSet (c : Cmd) (s : State) : Host.Outcome State Fault Refusal :=
  .next (runRow bodyPwrStateSet c s)

/-- IDLE_TIMER_SET (R364). -/
def execIdleTimerSet (c : Cmd) (s : State) : Host.Outcome State Fault Refusal :=
  .next (runRow bodyIdleTimerSet c s)

/-- OPPOINT_SET (R378). -/
def execOppointSet (c : Cmd) (s : State) : Host.Outcome State Fault Refusal :=
  .next (runRow bodyOppointSet c s)

/-- PWR_QUERY (R387). -/
def execPwrQuery (c : Cmd) (s : State) : Host.Outcome State Fault Refusal :=
  .next (runRow bodyPwrQuery c s)

/-- TIME_SET (R383). -/
def execTimeSet (c : Cmd) (s : State) : Host.Outcome State Fault Refusal :=
  .next (runRow bodyTimeSet c s)

/-- TIME_QUERY (R387). -/
def execTimeQuery (c : Cmd) (s : State) : Host.Outcome State Fault Refusal :=
  .next (runRow bodyTimeQuery c s)

/-- TSYNC_CFG (R385). -/
def execTsyncCfg (c : Cmd) (s : State) : Host.Outcome State Fault Refusal :=
  .next (runRow bodyTsyncCfg c s)

/-- WAKE_AIN_CFG (R379). -/
def execWakeAinCfg (c : Cmd) (s : State) : Host.Outcome State Fault Refusal :=
  .next (runRow bodyWakeAinCfg c s)

/-- TIMER_WAKE_SET (R382). -/
def execTimerWakeSet (c : Cmd) (s : State) : Host.Outcome State Fault Refusal :=
  .next (runRow bodyTimerWakeSet c s)

/-- FW_QUERY (R433). -/
def execFwQuery (c : Cmd) (s : State) : Host.Outcome State Fault Refusal :=
  .next (runRow bodyFwQuery c s)

/-- ACTIVATE_AT (R422). -/
def execActivateAt (c : Cmd) (s : State) : Host.Outcome State Fault Refusal :=
  .next (runRow bodyActivateAt c s)

/-- HEALTH_OK (R425). -/
def execHealthOk (c : Cmd) (s : State) : Host.Outcome State Fault Refusal :=
  .next (runRow bodyHealthOk c s)

/-- CONFIRM_WINDOW_SET (R424). -/
def execConfirmWindowSet (c : Cmd) (s : State) : Host.Outcome State Fault Refusal :=
  .next (runRow bodyConfirmWindowSet c s)

/-- SETTINGS_READ (R430). -/
def execSettingsRead (c : Cmd) (s : State) : Host.Outcome State Fault Refusal :=
  .next (runRow bodySettingsRead c s)

/-- SETTINGS_WRITE (R430). -/
def execSettingsWrite (c : Cmd) (s : State) : Host.Outcome State Fault Refusal :=
  .next (runRow bodySettingsWrite c s)

/-- SETTINGS_DEFAULT (R430). -/
def execSettingsDefault (c : Cmd) (s : State) : Host.Outcome State Fault Refusal :=
  .next (runRow bodySettingsDefault c s)

/-- SAFE_HOLD_EXIT (R408). -/
def execSafeHoldExit (c : Cmd) (s : State) : Host.Outcome State Fault Refusal :=
  .next (runRow bodySafeHoldExit c s)

/-- HALF_RESET (R409). -/
def execHalfReset (c : Cmd) (s : State) : Host.Outcome State Fault Refusal :=
  .next (runRow bodyHalfReset c s)

/-- CROOK_ASSIGN (R405). -/
def execCrookAssign (c : Cmd) (s : State) : Host.Outcome State Fault Refusal :=
  .next (runRow bodyCrookAssign c s)

/-- FLIP_MASK_SET (R340). -/
def execFlipMaskSet (c : Cmd) (s : State) : Host.Outcome State Fault Refusal :=
  .next (runRow bodyFlipMaskSet c s)

/-- LEDGER_READ (R413). -/
def execLedgerRead (c : Cmd) (s : State) : Host.Outcome State Fault Refusal :=
  .next (runRow bodyLedgerRead c s)

/-- SAFETY_CFG (R401). -/
def execSafetyCfg (c : Cmd) (s : State) : Host.Outcome State Fault Refusal :=
  .next (runRow bodySafetyCfg c s)

/-- LIFECYCLE_SET (R414). -/
def execLifecycleSet (c : Cmd) (s : State) : Host.Outcome State Fault Refusal :=
  .next (runRow bodyLifecycleSet c s)

end Sys2Proof.Machine
end

