-- ==== Sys2Proof/Machine/Monitor.lean ====
section
/-!
DEFINITION. The monitor program (R431, R432): it takes lines from the receiver, and answers each as Table 15-7 says. A row
of a monitor command is a line that has come whole.
-/

namespace Sys2Proof.Machine

/-- Change MON. -/
def State.onMon (s : State) (f : Mon → Mon) : State := s.onFw fun w => { w with mon := f w.mon }

/-- The commands with the lifecycle states that allow them (Table 15-7). -/
def monTable : List (String × List Nat) :=
  [("help", [0, 1, 2, 3, 4]), ("peek r", [0, 1, 2, 3]), ("peek m", [0, 1, 3]), ("poke r", [0, 1, 3]),
   ("poke m", [0, 1, 3]), ("folds", [0, 1, 2, 3]), ("ledger", [0, 1, 2, 3, 4]), ("stats", [0, 1, 2, 3]),
   ("baud", [0, 1, 2, 3])]

/-- The commands that a lifecycle state allows. -/
def monAllowed (life : Nat) : List String := (monTable.filter (fun e => e.2.contains life)).map Prod.fst

/-- The monitor runs: firmware on the Shepherd that holds the token, with the block in RUN. -/
def State.monRuns (s : State) : Bool :=
  s.ready && decide (s.power.block = .run) && decide (s.fw.state = .running) && s.holder.isSome

/-- The oldest line is answered: its output, then OK or ERR, then the prompt. -/
def State.monAnswer (s : State) (xs : List MonItem) (st : Status) : State :=
  s.onMon fun m =>
    { m with lines := m.lines.tail, out := m.out ++ xs ++ [if st = .ok then .ok else .err st, .prompt] }

/-- Clusters that a command needs in RUN: it waits until they are, and wakes them (R436). -/
def State.monNeeds (s : State) (cs : List Nat) (cause : Nat) (f : State → State) : State :=
  match s.sleeping cs with
  | [] => f (cs.foldl (fun s c => s.wakeCluster c cause) s)
  | asleep => asleep.foldl (fun s c => s.wakeCluster c cause) s

/-- The clusters of `n` registers from an address on. -/
def State.regClusters (s : State) (addr : BitVec 24) (n : Nat) : List Nat :=
  ((List.range n).filterMap (fun i => (regPlace s.cfg (addr + BitVec.ofNat 24 (4 * i))).cluster?)).eraseDups

/-- Read `n` registers in ascending order. -/
def State.monRegs (s : State) (addr : BitVec 24) : Nat → List MonItem × State
  | 0 => ([], s)
  | n + 1 =>
    let (v, s) := s.regRead addr
    let (xs, s) := s.monRegs (addr + 4) n
    (.register addr.toNat (BitVec.ofNat 32 v) :: xs, s)

/-- help. -/
def State.monHelp (s : State) : State := s.monAnswer ((monAllowed s.safety.lifecycle).map MonItem.command) .ok

/-- peek r. -/
def State.monPeekR (s : State) (addr : BitVec 24) (n : Nat) : State :=
  if n = 0 ∨ 64 < n then s.monAnswer [] .badParam
  else
    s.monNeeds (s.regClusters addr n) 5 fun s =>
      let (xs, s) := s.monRegs addr n
      s.monAnswer xs .ok

/-- The bytes of a read, with their spoil marks. -/
def monBytes (a : Nat) (got : Got) : List MonItem :=
  got.bytes.zipIdx.map (fun p => .byte (a + p.2) p.1 (got.marked.contains (max ((a + p.2) / 32 * 32) a - a)))

/-- peek m: initiator 64 reads under context 0 (R114), once no earlier piece orders its rows (R28, R117). -/
def State.monPeekM (s : State) (a n : Nat) : State :=
  if n = 0 ∨ 4096 < n then s.monAnswer [] .badParam
  else if !s.owns64 0 then s.count64.monAnswer [] .perm
  else
    match s.rangeFails 0 [.r] false a n with
    | some st => s.monAnswer [] st
    | none =>
      s.monNeeds (s.clustersOf a n) 1 fun s =>
        if !s.spanFree a n false then s
        else
          let (got, s) := s.initRead a n
          s.monAnswer (monBytes a got) .ok

/-- poke r: a write through the CTL path. -/
def State.monPokeR (s : State) (addr : BitVec 24) (v : BitVec 32) : State :=
  let a : RegAccess := { sp := false, write := true, addr := addr, data := v }
  if a.safety then s.monAnswer [] .perm
  else s.monNeeds (s.regClusters addr 1) 5 fun s => (s.regWrite a).monAnswer [] .ok

/-- poke m: one aligned word; refused in Safe Hold, as a command packet would be. -/
def State.monPokeM (s : State) (a : Nat) (v : BitVec 32) : State :=
  if a % 4 ≠ 0 then s.monAnswer [] .badParam
  else if s.safety.hold then s.monAnswer [] .safeHold
  else if !s.owns64 0 then s.count64.monAnswer [] .perm
  else
    match s.rangeFails 0 [.w] false a 4 with
    | some st => s.monAnswer [] st
    | none =>
      s.monNeeds (s.clustersOf a 4) 1 fun s =>
        if s.spanFree a 4 true then (s.initWrite a (toBytes 4 v.toNat)).monAnswer [] .ok else s

/-- folds: the record of each fold that is not FREE. -/
def State.monFolds (s : State) (k : Option Nat) : State :=
  let cs := match k with | some c => [c] | none => List.range s.cfg.clusters
  if cs.any (fun c => !s.hasCluster c) then s.monAnswer [] .badParam
  else
    s.monNeeds cs 1 fun s =>
      let ks := (s.folds.folds.filter (fun e => decide (e.2.state ≠ .free) && cs.contains (e.1 / 2048))).map Prod.fst
      s.monAnswer (ks.map (fun i => .fold (BitVec.ofNat 256 (ofBytes (s.dumpRecord i))))) .ok

/-- ledger: the newest entries, newest first. -/
def State.monLedger (s : State) (n : Nat) : State :=
  if n = 0 ∨ 1024 < n then s.monAnswer [] .badParam
  else
    let seqs := (List.range (min n s.safety.head.toNat)).map (fun i => s.safety.head - BitVec.ofNat 32 i)
    let held := seqs.filter (fun q => match s.safety.ledger.find? (q.toNat % 1024) with
      | some e => e.seq == q
      | none => false)
    s.monAnswer (held.map (fun q => .ledger (BitVec.ofNat 256 (ofBytes (s.ledgerShown q))))) .ok

/-- Runs of registers, as offset and count, in the core block of every cluster. -/
def clusterRuns (m : Model) (rs : List (Nat × Nat)) : List (Nat × Nat) :=
  (List.range m.clusters).flatMap fun c => rs.map fun r => (0x080000 + 0x10000 * c + r.1, r.2)

/-- Runs of registers in the bank blocks `0` to `n - 1` of every cluster. -/
def bankRuns (m : Model) (n : Nat) (rs : List (Nat × Nat)) : List (Nat × Nat) :=
  (List.range m.clusters).flatMap fun c => (List.range n).flatMap fun b =>
    rs.map fun r => (0x088000 + 0x10000 * c + 0x400 * b + r.1, r.2)

/-- The registers of a group as runs, first address and count, in the order of its offset table: Tables 4-11 and 5-4, 6-9,
7-10, 8-8, 9-12, 10-6, 11-11, 12-11, 13-10. A register that is only written is not among them. -/
def statsRuns (m : Model) : Nat → List (Nat × Nat)
  | 0 => (List.range 65).map (fun p => (0x010000 + 0x20 * p, 5)) ++
      [(0x011000, 65), (0x011200, 64), (0x011400, 3), (0x012000, 256), (0x012400, 65), (0x012600, 64)]
  | 1 => (List.range 65).map (fun p => (0x020000 + 0x20 * p, 8)) ++
      [(0x021000, 8), (0x022000, 11), (0x022040, 10), (0x022080, 9)]
  | 2 => [(0x000400, 3)] ++ clusterRuns m [(0x0400, 4)] ++ bankRuns m 16 [(0x200, 2)]
  | 3 => [(0x000800, 3), (0x000810, 12)] ++ clusterRuns m [(0x0600, 3)] ++ bankRuns m 16 [(0x300, 3)]
  | 4 => [(0x000C00, 4), (0x000C40, 16), (0x001000, 1024)] ++ clusterRuns m [(0x0800, 3)]
  | 5 => [(0x040000, 4)] ++ (List.range 8).map (fun n => (0x040100 + 0x40 * n, 10)) ++
      [(0x040400, 128), (0x040800, 128)]
  | 6 => [(0x002000, 3)] ++ clusterRuns m [(0x0A00, 1), (0x0A10, 9), (0x0B00, 2)] ++
      bankRuns m 17 [(0x000, 14), (0x040, 36), (0x100, 32)]
  | 7 => [(0x002400, 3), (0x002410, 2), (0x002420, 1)] ++ clusterRuns m [(0x0C00, 49)]
  | 8 => [(0x050000, 20)] ++ (List.range 8).map (fun c => (0x050100 + 0x40 * c, 10)) ++ [(0x050400, 10)]
  | _ => []

/-- Read the registers of some runs. -/
def State.monRuns' (s : State) : List (Nat × Nat) → List MonItem × State
  | [] => ([], s)
  | (a, n) :: t =>
    let (xs, s) := s.monRegs (BitVec.ofNat 24 a) n
    let (ys, s) := s.monRuns' t
    (xs ++ ys, s)

/-- stats: groups 0 to 8 are xbar, gov, conv, ev, fold, link, integ, bist, pwr. A group with registers in the clusters waits
until all of them run (R436). -/
def State.monStats (s : State) (group : Nat) : State :=
  if 8 < group then s.monAnswer [] .badParam
  else
    let cs := if group ∈ [2, 3, 4, 6, 7] then List.range s.cfg.clusters else []
    s.monNeeds cs 5 fun s =>
      let (xs, s) := s.monRuns' (statsRuns s.cfg group)
      s.monAnswer xs .ok

/-- baud: the rate changes after the OK line. -/
def State.monBaud (s : State) (rate : Nat) : State :=
  if rate < 9600 ∨ 3000000 < rate then s.monAnswer [] .badParam
  else (s.monAnswer [] .ok).onMon fun m => { m with baud := rate }

/-! ### Lines (R431) -/

/-- The name of a command in Table 15-7. -/
def MonCmd.name : MonCmd → String
  | .help => "help" | .peekR _ _ => "peek r" | .peekM _ _ => "peek m" | .pokeR _ _ => "poke r"
  | .pokeM _ _ => "poke m" | .folds _ => "folds" | .ledger _ => "ledger" | .stats _ => "stats" | .baud _ => "baud"
  | .wrong _ => ""

/-- The action of a command. -/
def State.monAct (s : State) : MonCmd → State
  | .help => s.monHelp
  | .peekR a n => s.monPeekR a n
  | .peekM a n => s.monPeekM a n
  | .pokeR a v => s.monPokeR a v
  | .pokeM a v => s.monPokeM a v
  | .folds k => s.monFolds k
  | .ledger n => s.monLedger n
  | .stats g => s.monStats g
  | .baud r => s.monBaud r
  | .wrong st => s.monAnswer [] st

/-- The oldest line is executed, and answered unless it has to wait; the lifecycle state may not allow it. -/
def State.monServe (s : State) : State :=
  match s.fw.mon.lines with
  | [] => s
  | .wrong st :: _ => if s.monRuns then s.monAnswer [] st else s
  | c :: _ =>
    if !s.monRuns then s
    else if !(monAllowed s.safety.lifecycle).contains c.name then s.monAnswer [] .lifecycle
    else (s.monAct c).settle

/-- A line that has come whole: it is answered in its turn. Nothing takes it while no firmware runs. -/
def State.monitor (s : State) (c : MonCmd) : State :=
  if !s.monRuns then s else (s.onMon fun m => { m with lines := m.lines ++ [c] }).monServe

/-- The words of a line, separated by spaces or tabs: empty ones stand between two separators. -/
def monWords : List Byte → List (List Byte)
  | [] => [[]]
  | b :: r =>
    match monWords r with
    | w :: ws => if b = 0x20 ∨ b = 0x09 then [] :: w :: ws else (b :: w) :: ws
    | [] => []

/-- A digit, in hexadecimal. -/
def monDigit (b : Byte) : Option Nat :=
  let n := b.toNat
  if 0x30 ≤ n ∧ n ≤ 0x39 then some (n - 0x30)
  else if 0x41 ≤ n ∧ n ≤ 0x46 then some (n - 55)
  else if 0x61 ≤ n ∧ n ≤ 0x66 then some (n - 87)
  else none

/-- Digits in a base, after a value. -/
def monDigits (base : Nat) : List Byte → Nat → Option Nat
  | [], v => some v
  | b :: r, v =>
    match monDigit b with
    | some d => if d < base then monDigits base r (base * v + d) else none
    | none => none

/-- A number: decimal, or hexadecimal with 0x. -/
def monNumber : List Byte → Option Nat
  | [] => none
  | [b] => monDigits 10 [b] 0
  | a :: b :: r =>
    if a = 0x30 ∧ b = 0x78 then (if r = [] then none else monDigits 16 r 0) else monDigits 10 (a :: b :: r) 0

/-- Text as the receiver gives it. -/
def monText (cs : List Char) : List Byte := cs.map fun c => BitVec.ofNat 8 c.toNat

/-- The groups of stats, by number (Table 15-7). -/
def monGroups : List (List Byte) :=
  [monText ['x', 'b', 'a', 'r'], monText ['g', 'o', 'v'], monText ['c', 'o', 'n', 'v'], monText ['e', 'v'],
   monText ['f', 'o', 'l', 'd'], monText ['l', 'i', 'n', 'k'], monText ['i', 'n', 't', 'e', 'g'],
   monText ['b', 'i', 's', 't'], monText ['p', 'w', 'r']]

/-- A register address: 24 bits, a whole word. -/
def monAddr (w : List Byte) : Option (BitVec 24) :=
  (monNumber w).bind fun n => if n < 2 ^ 24 ∧ n % 4 = 0 then some (BitVec.ofNat 24 n) else none

/-- A 32-bit value. -/
def monValue (w : List Byte) : Option (BitVec 32) :=
  (monNumber w).bind fun n => if n < 2 ^ 32 then some (BitVec.ofNat 32 n) else none

/-- The arguments of a command, once its name is known. -/
def monArgs (name : List Byte) (args : List (List Byte)) : Option MonCmd :=
  if name = monText ['h', 'e', 'l', 'p'] then (if args = [] then some .help else none)
  else if name = monText ['p', 'e', 'e', 'k'] then
    match args with
    | [[0x72], a] => (monAddr a).map (fun x => .peekR x 1)
    | [[0x72], a, n] => (monAddr a).bind fun x => (monNumber n).map (fun k => .peekR x k)
    | [[0x6D], a] => (monNumber a).map (fun x => .peekM x 1)
    | [[0x6D], a, n] => (monNumber a).bind fun x => (monNumber n).map (fun k => .peekM x k)
    | _ => none
  else if name = monText ['p', 'o', 'k', 'e'] then
    match args with
    | [[0x72], a, v] => (monAddr a).bind fun x => (monValue v).map (fun y => .pokeR x y)
    | [[0x6D], a, v] => (monNumber a).bind fun x => (monValue v).map (fun y => .pokeM x y)
    | _ => none
  else if name = monText ['f', 'o', 'l', 'd', 's'] then
    match args with
    | [] => some (.folds none)
    | [c] => (monNumber c).map (fun k => .folds (some k))
    | _ => none
  else if name = monText ['l', 'e', 'd', 'g', 'e', 'r'] then
    match args with
    | [] => some (.ledger 16)
    | [n] => (monNumber n).map .ledger
    | _ => none
  else if name = monText ['s', 't', 'a', 't', 's'] then
    match args with
    | [g] => ((List.range 9).find? (fun i => monGroups.getD i [] == g)).map .stats
    | _ => none
  else
    match args with
    | [r] => (monNumber r).map .baud
    | _ => none

/-- The names that begin a command. -/
def monNames : List (List Byte) :=
  [monText ['h', 'e', 'l', 'p'], monText ['p', 'e', 'e', 'k'], monText ['p', 'o', 'k', 'e'],
   monText ['f', 'o', 'l', 'd', 's'], monText ['l', 'e', 'd', 'g', 'e', 'r'], monText ['s', 't', 'a', 't', 's'],
   monText ['b', 'a', 'u', 'd']]

/-- The command that a line spells. A name that is none is answered BAD_OPCODE, arguments that do not fit BAD_PARAM (DESIGN
CHOICE, log entry 69); a line with no word is no line. -/
def monParse (line : List Byte) : List MonCmd :=
  match (monWords line).filter (fun w => w != []) with
  | [] => []
  | w :: ws => if monNames.contains w then [(monArgs w ws).getD (.wrong .badParam)] else [.wrong .badOpcode]

/-- One character reaches the monitor program: CR or LF ends the line, and a character past the 128th is dropped (R431, log
entry 69). -/
def Mon.take (m : Mon) (b : Byte) : Mon :=
  if b = 0x0D ∨ b = 0x0A then { m with line := [], lines := m.lines ++ monParse m.line }
  else if m.line.length < 128 then { m with line := m.line ++ [b] }
  else m

/-- The monitor program takes what the receiver holds, and goes on with the oldest line (R431). -/
def State.monService (s : State) : State :=
  if !s.monRuns || (s.fw.mon.fifo.isEmpty && s.fw.mon.lines.isEmpty) then s
  else (s.onMon fun m => m.fifo.foldl Mon.take { m with fifo := [] }).monServe

/-- HELP (R432). -/
def execHelp (s : State) : Host.Outcome State Fault Refusal := .next (s.monitor .help)

/-- PEEK_R (R432). -/
def execPeekR (addr : BitVec 24) (n : Nat) (s : State) : Host.Outcome State Fault Refusal :=
  .next (s.monitor (.peekR addr n))

/-- PEEK_M (R432). -/
def execPeekM (addr n : Nat) (s : State) : Host.Outcome State Fault Refusal := .next (s.monitor (.peekM addr n))

/-- POKE_R (R432). -/
def execPokeR (addr : BitVec 24) (v : BitVec 32) (s : State) : Host.Outcome State Fault Refusal :=
  .next (s.monitor (.pokeR addr v))

/-- POKE_M (R432). -/
def execPokeM (addr : Nat) (v : BitVec 32) (s : State) : Host.Outcome State Fault Refusal :=
  .next (s.monitor (.pokeM addr v))

/-- FOLDS (R432). -/
def execFolds (k : Option Nat) (s : State) : Host.Outcome State Fault Refusal := .next (s.monitor (.folds k))

/-- LEDGER (R432). -/
def execLedger (n : Nat) (s : State) : Host.Outcome State Fault Refusal := .next (s.monitor (.ledger n))

/-- STATS (R432). -/
def execStats (group : Nat) (s : State) : Host.Outcome State Fault Refusal := .next (s.monitor (.stats group))

/-- BAUD (R432). -/
def execBaud (rate : Nat) (s : State) : Host.Outcome State Fault Refusal := .next (s.monitor (.baud rate))

end Sys2Proof.Machine
end

