-- ==== Sys2Proof/Machine/Tick.lean ====
section
/-!
DEFINITION. What one XCK does when no command waits (log entry 3): time passes, idle timers count, a
memory test spends its tolls, the oldest fault report reaches the collector, and the control path goes
on.
-/

namespace Sys2Proof.Machine

/-- The elapsed time of one XCK, in 1/24 ns: 1.6 GHz, or 1.2 GHz at ECONOMY (R36). -/
def State.xckUnits (s : State) : Nat := if s.power.eco then 20 else 15

/-- A cluster that is not idle in an XCK starts its idle timer again (R364). -/
def State.idleReset (s : State) : State :=
  (List.range s.cfg.clusters).foldl (fun s c =>
    if (s.cpower c).count ≠ 0 ∧ ¬ s.clusterIdle c then s.onCpower c fun p => { p with count := 0 } else s)
    (if s.power.count ≠ 0 ∧ ¬ s.blockMayStop then s.onPower fun p => { p with count := 0 } else s)

/-- An ACK edge of the idle timers (R364, R371). -/
def State.idleCount (s : State) : State :=
  let s := (List.range s.cfg.clusters).foldl (fun s c =>
    let p := s.cpower c
    if p.ticks ≠ 0 ∧ p.mode = .run ∧ p.count < p.ticks ∧ s.clusterIdle c then
      s.onCpower c fun p => { p with count := p.count + 1 }
    else s) s
  if s.power.ticks ≠ 0 ∧ s.power.block = .run ∧ s.power.count < s.power.ticks ∧ s.blockMayStop then
    s.onPower fun p => { p with count := p.count + 1 }
  else s


/-- Rows that a march reads and writes in its BCK `m`: six passes over the rows, the first only writes, the last only
reads (Table 12-4). -/
def marchRows (m : Nat) : Nat :=
  if 6 * 16448 ≤ m then 0 else if m < 16448 ∨ 5 * 16448 ≤ m then 1 else 2

/-- Rows of RETENTION in its BCK `m`: one written in each, none while it holds, one read in each. -/
def retentionRows (hold m : Nat) : Nat :=
  if m < 16448 then 1 else if m < 16448 + hold then 0 else if m < 2 * 16448 + hold then 1 else 0

/-- Rows of the four marches of MARCH4 in its BCK `m`. -/
def march4Rows (m : Nat) : Nat := if m < 394768 then marchRows (m % 98692) else 0

/-- Rows that a test reads and writes in its BCK `m`; RETENTION holds for `hold` BCK (R353, Table 12-4). -/
def testRows (test hold m : Nat) : Nat :=
  match test with
  | 1 => marchRows m
  | 2 => march4Rows m
  | 3 => retentionRows hold m
  | 4 => if m < 4096 then 0 else if m < 4096 + 394768 then march4Rows (m - 4096) else retentionRows hold (m - 398864)
  | _ => 0

/-- A memory test is charged an array toll for each row that it reads and each that it writes (R353). -/
def State.testTolls (s : State) : State :=
  let hold := s.fw.items.retHold * (if s.power.eco then 600000 else 800000)
  (List.range s.cfg.clusters).foldl (fun s c =>
    match (s.ctest c).run with
    | some r =>
      let n := testRows r.test hold (s.bck - r.began)
      if n = 0 then s else s.chargeArray c n
    | none => s) s

/-- A rising edge of ACK, one in 32 XCK (R35, R380). -/
def State.ackEdge (s : State) : State :=
  let s := { s with clock := { s.clock with acks := s.clock.acks + 1 } }
  s.ackTime.idleCount

/-- One XCK with the derived clocks running: the decisions of the new one go by what stands at the end of the last
(R154); a BCK is two XCK. -/
def State.tickRun (s : State) : State :=
  let s := s.see
  let s := { s with clock := { s.clock with xck := s.clock.xck + 1, elapsed := s.clock.elapsed + s.xckUnits } }
  let s := s.powerXck.passEnds.idleReset
  let s := if s.clock.xck % 2 = 0 then s.testTolls else s
  let s := if s.clock.xck % 32 = 0 then s.ackEdge.stopEdge.blockA1 else s
  s.startBooting.installWaiting.monService.goOn

/-- A2 of a block entry: with no wake, the first Voltage write is sent on this SCK edge, and is timed from it (R372,
R375). -/
def State.blockA2 (s : State) : State :=
  if s.power.beforeA2 ∧ ¬ s.power.wake then s.onPower fun p => { p with beforeA2 := false, since := s.clock.elapsed }
  else s

/-- One SCK edge while the derived clocks stand (R35, R372, R381): 40 ns. -/
def State.tickStood (s : State) : State :=
  let s := { s with
    clock := { s.clock with sck := s.clock.sck + 1, elapsed := s.clock.elapsed + 960, stood := s.clock.stood + 960 } }
  s.blockA2.writeRail.exitEdge

/-- The oldest fault report reaches the collector (R397). -/
def State.tickReport (s : State) : State :=
  match s.safety.reports with
  | f :: _ => if s.clock.running then s.faultReport f else s
  | [] => s

/-- One XCK with no command; nothing passes while the block is in reset (R458). -/
def State.tick (s : State) : State :=
  if !s.pins.pwrOk then s
  else if s.clock.running then s.tickRun.tickReport
  else s.tickStood

end Sys2Proof.Machine
end

