-- ==== Sys2Proof/Machine/DataRows.lean ====
section
/-!
DEFINITION. The rows of the data path (04_crossbar.md, 05_stalls_arbitration.md, 07_conversion.md):
requests and write data at the ports, the crossbar, the banks, responses.
-/

namespace Sys2Proof.Machine

/-- An effect of the running block, with what follows from it in the command interface. Nothing happens
while the block is not ready. -/
def State.live (s : State) (f : State → State) : State := if s.ready then (f s).settle else s

/-! ### Requests at E and D ports (R102 to R124) -/

/-- What follows once a converter has taken something: the block has a wake, and one whose clocks stand goes on after its
restart (R40, R373). -/
def State.converted (s : State) : State := if s.ready then s.wakeBlock.settle else s.wakeBlock

/-- A request is presented at a port whose channel can take it (R123, R124, R132). -/
def State.requestRow (s : State) (p : Nat) (r : ReqWord) : State :=
  if p < 56 ∧ s.takesRequest p then (s.offer p { req := r }).converted
  else s

/-- A row for requests of one opcode. -/
def State.requestOf (s : State) (op p : Nat) (r : ReqWord) : State :=
  if rqOp r.word = op then s.requestRow p r else s

/-- CMD_REQUEST (R66): the packet is the write data that the port holds. -/
def execCmdRequest (p : Nat) (r : ReqWord) (s : State) : Host.Outcome State Fault Refusal :=
  .next (s.requestOf 7 p r)

/-- NOP_REQUEST (R110). -/
def execNopRequest (p : Nat) (r : ReqWord) (s : State) : Host.Outcome State Fault Refusal :=
  .next (s.requestOf 0 p r)

/-- RD (R109). -/
def execRd (p : Nat) (r : ReqWord) (s : State) : Host.Outcome State Fault Refusal :=
  .next (s.requestOf 1 p r)

/-- WR (R107). -/
def execWr (p : Nat) (r : ReqWord) (s : State) : Host.Outcome State Fault Refusal :=
  .next (s.requestOf 2 p r)

/-- WRM (R107). -/
def execWrm (p : Nat) (r : ReqWord) (s : State) : Host.Outcome State Fault Refusal :=
  .next (s.requestOf 3 p r)

/-- ACC (R224). -/
def execAcc (p : Nat) (r : ReqWord) (s : State) : Host.Outcome State Fault Refusal :=
  .next (s.requestOf 4 p r)

/-- FENCE (R119). -/
def execFence (p : Nat) (r : ReqWord) (s : State) : Host.Outcome State Fault Refusal :=
  .next (s.requestOf 6 p r)

/-- FOLD_REQUEST (R264). -/
def execFoldRequest (p : Nat) (r : ReqWord) (s : State) : Host.Outcome State Fault Refusal :=
  .next (s.requestOf 5 p r)

/-- The FENCE completes once nothing that it covers is outstanding (R119). -/
def State.fenceComplete (s : State) (id : Nat) : State :=
  match s.outst? id with
  | some o =>
    if o.plan = .fence ∧ o.sent ∧ o.covers.all (fun k => (s.outst? k).isNone) then
      (s.answer o (if o.lost then .remoteLost else .ok) 0).pump o.port
    else s
  | none => s

/-- FENCE_COMPLETE (R119). -/
def execFenceComplete (req : Nat) (s : State) : Host.Outcome State Fault Refusal :=
  .next (s.live (·.fenceComplete req))

/-- WRITE_DATA_BEAT (R106). -/
def execWriteDataBeat (p : Nat) (b : WBeat) (s : State) : Host.Outcome State Fault Refusal :=
  .next
    (if p < 56 ∧ s.portOpen p ∧ (s.port p).wd.length < wdSize p ∧ (s.port p).resetting = none then
      ((s.takeBeat p b).pump p).converted
     else s)

/-! ### The crossbar (R115, R136 to R155) -/

/-- The piece of initiator `p` that reaches a queue: initiator 64 stands also for the dispatcher of the cluster, whose
pieces are its own (R245). -/
def State.acceptAt (s : State) (p n : Nat) : State :=
  if p = 64 ∧ (s.atQueue 64 n).isNone then s.enterQueue (65 + n / 8) n else s.enterQueue p n

/-- PIECE_QUEUE_ACCEPT (R155): four pieces enter a queue in one XCK at most, so a fifth comes in the
next. -/
def execPieceQueueAccept (p n : Nat) (s : State) : Host.Outcome State Fault Refusal :=
  let s :=
    if (s.sub n).acceptXck = s.clock.xck ∧ 4 ≤ (s.sub n).acceptNum ∧ s.ready then s.tick else s
  .next (if s.cfg.hasSubport n ∧ p < 65 then s.live (·.acceptAt p n) else s)

/-- SUBPORT_GRANT (R140): each side decides once in an XCK, so a second decision comes in the next. -/
def execSubportGrant (n : Nat) (s : State) : Host.Outcome State Fault Refusal :=
  let s := if (s.sub n).rd.decided = s.clock.xck + 1 ∧ s.ready then s.tick else s
  .next (s.live (·.grant n))

/-! ### The banks (R28 to R33, R139) -/

/-- Let time pass until a condition holds, at most `n` XCK. -/
def State.until (s : State) (p : State → Bool) : Nat → State
  | 0 => s
  | n + 1 => if !s.ready || p s then s else (s.tick).until p n

/-- An action of a bank of a cluster in RUN, in the first XCK in which its slot can be used: `now` says whether that is
this one. What takes eight XCK or more waits for something else than a slot (log entry 10). -/
def State.bankAct (s : State) (k b : Nat) (now : State → Nat → Bool) (f : State → Nat → State) : State :=
  s.live fun s =>
    if s.hasCluster k ∧ b < 16 ∧ s.inRun k then
      let s := s.until (now · (16 * k + b)) 8
      if s.ready then f s (16 * k + b) else s
    else s

/-- Nothing is due, or the read slot of the BCK is left to the merge read that is due. -/
def State.mergeNow (s : State) (g : Nat) : Bool :=
  (mergeDue (s.bankq g).wbuf).isNone || s.readOpen g

/-- Nothing can be written until something else happens, or the head of the write buffer may use the write slot of the
BCK. -/
def State.writeNow (s : State) (g : Nat) : Bool :=
  match (s.bankq g).wbuf with
  | [] => true
  | e :: _ => (e.piece.needsMerge && e.merge.isNone) || ((s.bankq g).mayWrite s.clock.xck s.bck && !s.flipDefers g)

/-- No read waits in the bank, or the next one can go on. -/
def State.readNow (s : State) (g : Nat) : Bool :=
  (s.bankq g).reads.isEmpty ||
    match s.nextRead g with
    | some x => x.looked || (s.bankq g).mayRead s.bck
    | none => (s.bankq g).reads.any fun x => x.looked || (s.bankq g).holdsRow x.row

/-- MERGE_READ (R139). -/
def execMergeRead (k b : Nat) (s : State) : Host.Outcome State Fault Refusal :=
  .next (s.bankAct k b State.mergeNow State.mergeRead)

/-- BANK_WRITE_SLOT (R33). -/
def execBankWriteSlot (k b : Nat) (s : State) : Host.Outcome State Fault Refusal :=
  .next (s.bankAct k b State.writeNow State.writeSlot)

/-- READ_BEAT_COMPLETE (R109). -/
def execReadBeatComplete (k b : Nat) (s : State) : Host.Outcome State Fault Refusal :=
  .next (s.bankAct k b State.readNow State.readSlot)

/-- SCALE_CACHE_FILL (R197). -/
def execScaleCacheFill (k addr : Nat) (s : State) : Host.Outcome State Fault Refusal :=
  .next (s.live fun s => if s.hasCluster k then s.fill k addr else s)

/-- EPOCH_TIME_BOUNDARY (R212). -/
def execEpochTimeBoundary (view : Nat) (s : State) : Host.Outcome State Fault Refusal :=
  .next (s.live (·.epochTime view))

/-- EPOCH_SETTLE (R215). -/
def execEpochSettle (view : Nat) (s : State) : Host.Outcome State Fault Refusal :=
  .next (s.live (·.epochSettle view))

/-- STALL_SWAP_TAKE_EFFECT (R147). -/
def execStallSwapTakeEffect (n : Nat) (s : State) : Host.Outcome State Fault Refusal :=
  .next (s.live (·.swapTakeEffect n))

/-! ### Responses (R108 to R111, R122) -/

/-- The oldest WAKE message of a port whose DEFER has left (R111). -/
def Port.wakeReady (q : Port) : Option Resp :=
  q.wakes.find? (fun w => !q.resp.any (fun r => decide (r.status = .defer) && r.token == w.token))

/-- The header of a response (Table 4-5). -/
def Resp.header (r : Resp) : BitVec 64 :=
  BitVec.ofNat 64
    (r.tag % 1024 + bit r.wake * 2 ^ 10 + bit r.last * 2 ^ 11 + r.spoil.toNat * 2 ^ 12 + r.status.code % 256 * 2 ^ 16 +
      r.beat % 64 * 2 ^ 24 + r.token.toNat * 2 ^ 32)

/-- The odd parity of each byte of a data beat (Table 4-5, R129). -/
def beatParity (d : BitVec 1024) : BitVec 128 :=
  BitVec.ofNat 128 (((List.range 128).map (fun i => bit (ones 8 (bitsOf d.toNat (8 * i) 8) % 2 == 0) * 2 ^ i)).sum)

/-- A response or WAKE message as it crosses, with the parity that the block generates (R108, R129, R288). -/
def Resp.bits (r : Resp) : RspWire :=
  { header := r.header, hpar := BitVec.ofNat 2 (wordParity 2 r.header.toNat), data := r.data, dpar := beatParity r.data
    link := r.link, lpar := BitVec.ofNat 2 (wordParity 2 r.link.toNat) }

/-- One response or WAKE message crosses: WAKE messages first; its wake slot is free then (R111). -/
def State.transfer (s : State) (p : Nat) : State :=
  match (s.port p).wakeReady with
  | some w =>
    (s.onPort p fun q => { q with wakes := q.wakes.erase w, out := some w, wire := some w.bits }).onFolds fun u =>
      { u with slots := u.slots.modify [] p (·.erase (w.token.toNat % 128)) }
  | none =>
    match (s.port p).resp with
    | r :: rest => s.onPort p fun q => { q with resp := rest, out := some r, wire := some r.bits }
    | [] => s

/-- RESPONSE_TRANSFER (R122). -/
def execResponseTransfer (p : Nat) (s : State) : Host.Outcome State Fault Refusal :=
  .next (if s.portLive p ∧ p < 64 then ((s.transfer p).pump p).settle else s)

/-! ### The command interface beside its packets -/

/-- COMMAND_START_AFTER_PREV (R56). -/
def execCommandStartAfterPrev (token : Nat) (s : State) : Host.Outcome State Fault Refusal :=
  .next (s.live (·.startAfterPrev bodyOf token))

/-- RING_FETCH (R61). -/
def execRingFetch (n : Nat) (s : State) : Host.Outcome State Fault Refusal :=
  .next (s.live fun s => if n < 16 then s.ringFetch n else s)

/-- DRAIN_COMPLETE (R133). -/
def execDrainComplete (token : Nat) (s : State) : Host.Outcome State Fault Refusal :=
  .next (s.live (·.drainComplete token))

end Sys2Proof.Machine
end

