-- ==== Sys2Proof/Machine/EngineRows.lean ====
section
/-!
DEFINITION. The rows of the folds and of the event engine (09_folds.md, 08_accumulate_events.md):
operations at the fold units, waiters, dumps, events, staging, STEP.
-/

namespace Sys2Proof.Machine

/-! ### Fold operations (R265 to R271) -/

/-- ARRIVE (R267). -/
def execArrive (k : Nat) (s : State) : Host.Outcome State Fault Refusal := .next (s.live (·.foldStep k 0))

/-- SIGNAL (R268). -/
def execSignal (k : Nat) (s : State) : Host.Outcome State Fault Refusal := .next (s.live (·.foldStep k 1))

/-- CONSUME (R269). -/
def execConsume (k : Nat) (s : State) : Host.Outcome State Fault Refusal := .next (s.live (·.foldStep k 2))

/-- WAIT (R272). -/
def execWait (k : Nat) (s : State) : Host.Outcome State Fault Refusal := .next (s.live (·.foldStep k 3))

/-- READ (R267). -/
def execRead (k : Nat) (s : State) : Host.Outcome State Fault Refusal := .next (s.live (·.foldStep k 4))

/-! ### Waiters (R273 to R276) -/

/-- The final record of a waiter of a ring: OK with the fold's value where the wait was satisfied
(R276). -/
def Waiter.result (w : Waiter) (st : Status) : Result :=
  if st = .wake then { status := .ok, result := w.value.toNat } else { status := st }

/-- The wake sequencer of a cluster ends one waiter, the oldest DEFER first (R273). -/
def State.wakeEnd (s : State) (c : Nat) : State :=
  if !s.inRun c then s
  else
    match s.nextWake c with
    | none => s
    | some w =>
      let st := w.ended.getD .wake
      let r := w.result st
      let s := s.endWaiter w st
      match w.who with
      | .port p token => s.oweWake p token st
      | .ring n slot token =>
        let s := s.onFolds fun u => { u with ringSlots := u.ringSlots.modify [] n (·.erase slot) }
        match s.cmd.deferred.find? (fun d => d.token == token) with
        | some d => s.finish token d.cmd r
        | none => s

/-- WAKE_SEQUENCER_END (R273). -/
def execWakeSequencerEnd (k : Nat) (s : State) : Host.Outcome State Fault Refusal :=
  .next (s.live (·.wakeEnd k))

/-- The deadline XCK of a waiter has passed and its wait has not been satisfied (R274). -/
def State.waiterTimeout (s : State) (order : Nat) : State :=
  s.onFolds fun u =>
    { u with waiters := u.waiters.map fun w =>
        if w.order = order ∧ w.ended = none ∧ s.late w then { w with ended := some .timeout } else w }

/-- WAITER_TIMEOUT (R274). -/
def execWaiterTimeout (order : Nat) (s : State) : Host.Outcome State Fault Refusal :=
  .next (s.live (·.waiterTimeout order))

/-- An uncorrectable error in the state of a fold (R281). -/
def State.foldStateUe (s : State) (c i : Nat) : State :=
  let k := 2048 * c + i
  if s.hasCluster c ∧ i < 2048 ∧ s.inRun c ∧ ((s.fold k).state = .active ∨ (s.fold k).state = .error) then
    ((s.abandon k .abandoned).foldEvent 7 k).report { code := 0x1A, cluster := c, detail := some (BitVec.ofNat 32 k) }
  else s

/-- FOLD_STATE_UE (R281). -/
def execFoldStateUe (k i : Nat) (s : State) : Host.Outcome State Fault Refusal :=
  .next (s.live (·.foldStateUe k i))

/-- FOLD_DUMP_RECORD (R421). -/
def execFoldDumpRecord (s : State) : Host.Outcome State Fault Refusal := .next (s.live (·.foldDumpRecord))

/-! ### Events (R235 to R252) -/

/-- EVENT_INGRESS (R237); an event presented to a stopped block wakes it (R373). -/
def execEventIngress (v : Nat) (w : BitVec 132) (s : State) : Host.Outcome State Fault Refusal :=
  .next (if s.ready then (s.wakeBlock.eventIn v w).settle else s.wakeBlock)

/-- SPIKE (R245). -/
def execSpike (k : Nat) (s : State) : Host.Outcome State Fault Refusal := .next (s.live (·.dispatch k 0))

/-- MARK (R239). -/
def execMark (k : Nat) (s : State) : Host.Outcome State Fault Refusal := .next (s.live (·.dispatch k 1))

/-- EVENT_EGRESS (R238). -/
def execEventEgress (v : Nat) (s : State) : Host.Outcome State Fault Refusal := .next (s.live (·.eventOut v))

/-! ### Staging and STEP (R232, R233, R250 to R252) -/

/-- POP_STAGE_DONE (R232). -/
def execPopStageDone (pop : Nat) (s : State) : Host.Outcome State Fault Refusal :=
  .next (s.live (·.stageDone pop))

/-- POP_UNSTAGE_DONE (R233). -/
def execPopUnstageDone (pop : Nat) (s : State) : Host.Outcome State Fault Refusal :=
  .next (s.live (·.unstageDone pop))

/-- STEP_ROW (R251). -/
def execStepRow (pop : Nat) (s : State) : Host.Outcome State Fault Refusal := .next (s.live (·.stepRow pop))

/-- STEP_COMPLETE (R251). -/
def execStepComplete (pop : Nat) (s : State) : Host.Outcome State Fault Refusal :=
  .next (s.live (·.stepComplete pop))

end Sys2Proof.Machine
end

