-- ==== Sys2Proof/Machine/RegRows.lean ====
section
/-!
DEFINITION. The rows that are accesses on CTL or SP (16_registers.md), each under the address of the
register it names.
-/

namespace Sys2Proof.Machine

/-- A whole-word write with good parity on an interface. -/
def wordWrite (sp : Bool) (addr : Nat) (v : BitVec 32) : RegAccess :=
  { sp := sp, write := true, addr := BitVec.ofNat 24 addr, data := v }

/-- A CTL write of a ring register (Table 2-6); nothing where there is no such ring. -/
def State.ringWrite (s : State) (n off : Nat) (v : BitVec 32) : State :=
  if n < 16 then s.access (wordWrite false (0x030100 + n * 0x40 + off) v) else s

/-- DOORBELL (R60): RING_PROD. -/
def execDoorbell (n : Nat) (v : BitVec 32) (s : State) : Host.Outcome State Fault Refusal :=
  .next (s.ringWrite n 0x10 v)

/-- RING_ENABLE (R64): RING_CFG with EN 1 and the other fields of the value. -/
def execRingEnable (n : Nat) (v : BitVec 32) (s : State) : Host.Outcome State Fault Refusal :=
  .next (s.ringWrite n 0x04 (v ||| 1))

/-- RING_DISABLE (R64): RING_CFG as it reads, with EN 0. -/
def execRingDisable (n : Nat) (s : State) : Host.Outcome State Fault Refusal :=
  .next (s.ringWrite n 0x04 (BitVec.ofNat 32 ((s.ring n).cfgWord / 2 * 2)))

/-- REPLY_RD_WRITE (R446). -/
def execReplyRdWrite (n : Nat) (v : BitVec 32) (s : State) : Host.Outcome State Fault Refusal :=
  .next (s.ringWrite n 0x24 v)

/-- CMDW_GO (R65): the CTL window through CTL, the SP window through SP. -/
def execCmdwGo (sp : Bool) (s : State) : Host.Outcome State Fault Refusal :=
  .next (s.access (wordWrite sp (if sp then 0x800D00 else 0x030D00) 1))

/-- PORT_CTX_WRITE (R114). -/
def execPortCtxWrite (p : Nat) (v : BitVec 32) (s : State) : Host.Outcome State Fault Refusal :=
  .next (if p < 65 then s.access (wordWrite false (0x010000 + p * 0x20) v) else s)

/-- BURST_WRITE (R141). -/
def execBurstWrite (p : Nat) (v : BitVec 32) (s : State) : Host.Outcome State Fault Refusal :=
  .next (if p < 65 then s.access (wordWrite false (0x012400 + p * 4) v) else s)

/-- MBOX_CFG_WRITE (R67). -/
def execMboxCfgWrite (p : Nat) (v : BitVec 32) (s : State) : Host.Outcome State Fault Refusal :=
  .next (if p < 64 then s.access (wordWrite false (0x030800 + p * 4) v) else s)

/-- STAT_CFG_WRITE (R217, R221). -/
def execStatCfgWrite (k : Nat) (v : BitVec 32) (s : State) : Host.Outcome State Fault Refusal :=
  .next (if s.hasCluster k then s.access (wordWrite false (0x080000 + k * 0x10000 + 0x0408) v) else s)

/-- CLOG_POP (R331). -/
def execClogPop (k : Nat) (s : State) : Host.Outcome State Fault Refusal :=
  .next (if s.hasCluster k then s.access (wordWrite false (0x080000 + k * 0x10000 + 0x0B08) 1) else s)

/-- LEDGER_ACK (R413): an SP write. -/
def execLedgerAck (seq : BitVec 32) (s : State) : Host.Outcome State Fault Refusal :=
  .next (s.access (wordWrite true 0x800024 seq))

/-- OUTPUT_TEST (R411): an SP write of GO. -/
def execOutputTest (s : State) : Host.Outcome State Fault Refusal := .next (s.access (wordWrite true 0x800030 1))

/-- TIME_LO_READ (R380). -/
def execTimeLoRead (sp : Bool) (s : State) : Host.Outcome State Fault Refusal :=
  .next (s.access { sp := sp, write := false, addr := 0x050400 })

/-- REGISTER_WRITE (R437). -/
def execRegisterWrite (a : RegAccess) (s : State) : Host.Outcome State Fault Refusal :=
  .next (if a.write then s.access a else s)

/-- REGISTER_READ (R436). -/
def execRegisterRead (a : RegAccess) (s : State) : Host.Outcome State Fault Refusal :=
  .next (if a.write then s else s.access a)

end Sys2Proof.Machine
end

