-- ==== Sys2Proof/Machine/SystemRows.lean ====
section
/-!
DEFINITION. The rows of the governor, of power and time, of the safety partition and of firmware
(06, 13, 14 and 15 of the spec).
-/

namespace Sys2Proof.Machine

/-- An event of these units, with what follows from it in the control path: commands that it frees, accesses
that wait for a cluster. -/
def State.event (s : State) (f : State → State) : State := (f s).goOn

/-! ### Governor (R158, R172, R173) -/

/-- GOV_WINDOW_START (R172). -/
def execGovWindowStart (s : State) : Host.Outcome State Fault Refusal := .next s.windowStart

/-- SENSOR_READ (R173). -/
def execSensorRead (readings : List (Nat × Int)) (s : State) : Host.Outcome State Fault Refusal :=
  .next (s.sensorRead readings)

/-- BELL_LEVEL_CHANGE (R158). -/
def execBellLevelChange (n : Nat) (lines : BitVec 2) (s : State) : Host.Outcome State Fault Refusal :=
  .next (s.bellChange n lines)

/-! ### Power states (R364 to R378) -/

/-- CLUSTER_IDLE_EXPIRE (R365). -/
def execClusterIdleExpire (k : Nat) (s : State) : Host.Outcome State Fault Refusal :=
  .next (s.event (·.idleExpire k))

/-- RETENTION_SWITCH_ACK (R366). -/
def execRetentionSwitchAck (k : Nat) (s : State) : Host.Outcome State Fault Refusal :=
  .next (s.event (·.switchAck k))

/-- CLUSTER_WAKE (R368). -/
def execClusterWake (k : Nat) (s : State) : Host.Outcome State Fault Refusal := .next (s.event (·.clusterWake k))

/-- CLUSTER_EXIT_COMPLETE (R369). -/
def execClusterExitComplete (k : Nat) (s : State) : Host.Outcome State Fault Refusal :=
  .next (s.event (·.exitComplete k))

/-- BLOCK_IDLE_EXPIRE (R371). -/
def execBlockIdleExpire (s : State) : Host.Outcome State Fault Refusal := .next (s.event (·.blockExpire))

/-- BLOCK_WAKE (R373). -/
def execBlockWake (s : State) : Host.Outcome State Fault Refusal := .next (s.event (·.blockWake))

/-- AVS_STATUS_POLL (R375). -/
def execAvsStatusPoll (crcOk actionTaken : Bool) (s : State) : Host.Outcome State Fault Refusal :=
  .next (s.event (·.avsPoll crcOk actionTaken))

/-- AVS_VOLTAGE_ACK (R375). -/
def execAvsVoltageAck (mv : BitVec 16) (s : State) : Host.Outcome State Fault Refusal :=
  .next (s.event (·.avsAck mv))

/-- PWR_TIMEOUT (R377). -/
def execPwrTimeout (step k : Nat) (s : State) : Host.Outcome State Fault Refusal :=
  .next (s.event (·.pwrTimeout step k))

/-- RCK_FACK_CHANGE (R376). -/
def execRckFackChange (level : Bool) (s : State) : Host.Outcome State Fault Refusal :=
  .next (s.event (·.rckFack level))

/-! ### Time and wake sources (R379 to R386) -/

/-- TIMER_WAKE_FIRE (R382). -/
def execTimerWakeFire (who : Nat) (s : State) : Host.Outcome State Fault Refusal := .next (s.timerFire who)

/-- WAKE_AIN_CROSSING (R379). -/
def execWakeAinCrossing (s : State) : Host.Outcome State Fault Refusal := .next s.ainCrossing

/-- WAKE_AIN_REARM (R379). -/
def execWakeAinRearm (s : State) : Host.Outcome State Fault Refusal := .next s.ainRearm

/-- SCK_CHECK (R381). -/
def execSckCheck (hz : BitVec 25) (s : State) : Host.Outcome State Fault Refusal := .next (s.sckCheck hz)

/-- TSYNC_PULSE_OUT (R385). -/
def execTsyncPulseOut (s : State) : Host.Outcome State Fault Refusal := .next s.tsyncOut

/-- TSYNC_PULSE_IN (R386). -/
def execTsyncPulseIn (s : State) : Host.Outcome State Fault Refusal := .next s.tsyncIn

/-- TSYNC_PULSE_MISSING (R386). -/
def execTsyncPulseMissing (s : State) : Host.Outcome State Fault Refusal := .next s.tsyncMissing

/-! ### Safety (R394 to R411) -/

/-- FAULT_REPORT (R399). -/
def execFaultReport (f : FaultInfo) (s : State) : Host.Outcome State Fault Refusal :=
  .next (s.event (·.faultReport f))

/-- CROOK_CLAIM (R403). -/
def execCrookClaim (half : Bool) (s : State) : Host.Outcome State Fault Refusal := .next (s.crookClaim half)

/-- CROOK_TOKEN_CHECK (R404). -/
def execCrookTokenCheck (c0 c1 c2 : BitVec 2) (s : State) : Host.Outcome State Fault Refusal :=
  .next (s.event (·.tokenCheck c0 c1 c2))

/-- WATCHDOG_WRITE (R402). -/
def execWatchdogWrite (half : Bool) (s : State) : Host.Outcome State Fault Refusal := .next (s.watchdogWrite half)

/-- WATCHDOG_EXPIRE (R402). -/
def execWatchdogExpire (half : Bool) (s : State) : Host.Outcome State Fault Refusal :=
  .next (s.event (·.watchdogExpire half))

/-- SEQUENCER_MISMATCH (R396). -/
def execSequencerMismatch (s : State) : Host.Outcome State Fault Refusal := .next (s.event (·.sequencerMismatch))

/-- RCK_LOSS (R396). -/
def execRckLoss (s : State) : Host.Outcome State Fault Refusal := .next s.rckLoss

/-- RCK_RETURN (R396). -/
def execRckReturn (s : State) : Host.Outcome State Fault Refusal := .next (s.event (·.rckReturn))

/-- OUTPUT_TEST_END (R411). -/
def execOutputTestEnd (padsOk : Bool) (s : State) : Host.Outcome State Fault Refusal :=
  .next (s.event (·.outputTestEnd padsOk))

/-- HALF_RESET_COMPLETE (R409). -/
def execHalfResetComplete (half : Bool) (s : State) : Host.Outcome State Fault Refusal :=
  .next (s.event (·.halfResetComplete half))

/-! ### Firmware (R417 to R431) -/

/-- ACTIVATION_EDGE (R423). -/
def execActivationEdge (s : State) : Host.Outcome State Fault Refusal := .next (s.event (·.activationEdge))

/-- ACTIVATION_SAFE_POINT (R423). -/
def execActivationSafePoint (s : State) : Host.Outcome State Fault Refusal :=
  .next (s.event (·.activationSafePoint))

/-- ACTIVATION_TIMEOUT (R423). -/
def execActivationTimeout (s : State) : Host.Outcome State Fault Refusal := .next (s.event (·.activationTimeout))

/-- IMAGE_RUNNING (R423). -/
def execImageRunning (s : State) : Host.Outcome State Fault Refusal := .next (s.event (·.imageRunning))

/-- IMAGE_START_TIMEOUT (R426). -/
def execImageStartTimeout (s : State) : Host.Outcome State Fault Refusal :=
  .next (s.event (·.imageStartTimeout))

/-- CONFIRM_WINDOW_EXPIRE (R426). -/
def execConfirmWindowExpire (s : State) : Host.Outcome State Fault Refusal := .next (s.event (·.windowExpire))

/-- FIRMWARE_BOOT (R427). -/
def execFirmwareBoot (flashOk : Bool) (s : State) : Host.Outcome State Fault Refusal :=
  .next (s.event (·.firmwareBoot flashOk))

/-- SVC_STATUS (R420). -/
def execSvcStatus (s : State) : Host.Outcome State Fault Refusal := .next s.svcStatusFrame

/-- SVC_BAD_FRAME (R420). -/
def execSvcBadFrame (f : SvcFrame) (s : State) : Host.Outcome State Fault Refusal :=
  .next (s.event (·.svcBytes f))

/-- IMG_OPEN (R421). -/
def execImgOpen (arg : BitVec 32) (flashOk : Bool) (s : State) : Host.Outcome State Fault Refusal :=
  .next (s.imgOpen arg flashOk)

/-- IMG_BLOCK (R421). -/
def execImgBlock (arg : BitVec 32) (data : BitVec 32768) (s : State) : Host.Outcome State Fault Refusal :=
  .next (s.imgBlock arg data)

/-- IMG_BLOCK_PROGRAMMED (R421). -/
def execImgBlockProgrammed (flashOk : Bool) (s : State) : Host.Outcome State Fault Refusal :=
  .next (s.imgProgrammed flashOk)

/-- IMG_CLOSE (R419). -/
def execImgClose (arg : BitVec 32) (s : State) : Host.Outcome State Fault Refusal := .next (s.imgClose arg)

/-- IMG_CLOSE_END (R419). -/
def execImgCloseEnd (s : State) : Host.Outcome State Fault Refusal := .next s.imgCloseEnd

/-- SVC_READ (R421). -/
def execSvcRead (len : Nat) (s : State) : Host.Outcome State Fault Refusal := .next (s.event (·.svcRead len))

/-- MON_CHAR_RX (R431). -/
def execMonCharRx (ch : Byte) (s : State) : Host.Outcome State Fault Refusal := .next (s.monChar ch)

end Sys2Proof.Machine
end

