-- ==== Sys2Proof/Machine/UpkeepRows.lean ====
section
/-!
DEFINITION. The rows of the Drover, of integrity and self-test, and of the link ports (02, 10, 11 and
12 of the spec).
-/

namespace Sys2Proof.Machine

/-! ### The Drover (R70 to R74, R175, R349) -/

/-- DRV_JOB_START (R175). -/
def execDrvJobStart (inBank : Bool) (s : State) : Host.Outcome State Fault Refusal :=
  .next (s.live (·.jobStart inBank))

/-- DRV_ROW (R70). -/
def execDrvRow (inBank : Bool) (s : State) : Host.Outcome State Fault Refusal :=
  .next (s.live (·.drvRow inBank))

/-- DRV_JOB_COMPLETE (R73). -/
def execDrvJobComplete (inBank : Bool) (s : State) : Host.Outcome State Fault Refusal :=
  .next (s.live (·.jobComplete inBank))

/-- One row of the evacuation that the Drover runs in a cluster (R349). -/
def State.evacRowCopy (s : State) (c : Nat) : State :=
  match s.cmd.bankJob with
  | some j => if j.kind = .evacuate ∧ j.cluster = c then s.evacRow c else s
  | none => s

/-- EVAC_ROW_COPY (R349). -/
def execEvacRowCopy (k : Nat) (s : State) : Host.Outcome State Fault Refusal :=
  .next (s.live (·.evacRowCopy k))

/-- TAKEOVER (R351). -/
def execTakeover (k : Nat) (s : State) : Host.Outcome State Fault Refusal := .next (s.live (·.takeover k))

/-! ### Self-test (R353 to R359) -/

/-- BIST_TEST_END (R355). -/
def execBistTestEnd (k : Nat) (f : BistFound) (s : State) : Host.Outcome State Fault Refusal :=
  .next (s.live (·.bistEnd k f))

/-- ROTATION_STEP (R357). -/
def execRotationStep (s : State) : Host.Outcome State Fault Refusal := .next (s.live (·.rotationStep))

/-- ANALOG_CHECK (R359). -/
def execAnalogCheck (f : AnalogFound) (s : State) : Host.Outcome State Fault Refusal :=
  .next (s.live (·.analogCheck f))

/-! ### Integrity (R331 to R335) -/

/-- SCRUB_READ (R333). -/
def execScrubRead (k b : Nat) (s : State) : Host.Outcome State Fault Refusal := .next (s.live (·.scrubRead k b))

/-- SCRUB_WRITE_BACK (R335). -/
def execScrubWriteBack (k b : Nat) (s : State) : Host.Outcome State Fault Refusal :=
  .next (s.live (·.scrubWriteBack k b))

/-- REPAIR_POLICY_ACTION (R332). -/
def execRepairPolicyAction (a : RepairAct) (s : State) : Host.Outcome State Fault Refusal :=
  .next (s.live (·.repairPolicy a))

/-! ### Link ports (R288 to R309) -/

/-- LINK_SEND (R293). -/
def execLinkSend (chip : Nat) (s : State) : Host.Outcome State Fault Refusal := .next (s.live (·.linkSend chip))

/-- LINK_RESEND (R306). -/
def execLinkResend (req : Nat) (s : State) : Host.Outcome State Fault Refusal :=
  .next (s.live (·.linkResend req))

/-- LINK_REMOTE_LOST (R307). -/
def execLinkRemoteLost (req : Nat) (s : State) : Host.Outcome State Fault Refusal :=
  .next (s.live (·.linkRemoteLost req))

/-- Something is presented at a link port: the block has a wake (R373), and what comes while the derived clocks stand is
held in the converter (R40). -/
def State.linkRow (s : State) (n : Nat) (x : LinkIn) : State :=
  if ¬ (n < 8 ∧ s.portOpen (56 + n)) then s
  else if s.ready then ((s.wakeBlock.linkResume).linkIn n x).settle
  else if s.linkRoom n x then (s.onLinks fun l => { l with waiting := l.waiting ++ [(n, x)] }).wakeBlock
  else s.wakeBlock

/-- LINK_RESPONSE (R297). -/
def execLinkResponse (n : Nat) (r : LinkRsp) (s : State) : Host.Outcome State Fault Refusal :=
  .next (s.linkRow n (.response r))

/-- LINK_INBOUND_REQUEST (R299). -/
def execLinkInboundRequest (n : Nat) (r : LinkReq) (s : State) : Host.Outcome State Fault Refusal :=
  .next (s.linkRow n (.request r))

/-- PENDING_SIGNAL_RELEASE (R304). -/
def execPendingSignalRelease (order : Nat) (s : State) : Host.Outcome State Fault Refusal :=
  .next (s.live (·.releaseHeldOp order))

/-- HELD_OP_STALE (R308). -/
def execHeldOpStale (order : Nat) (s : State) : Host.Outcome State Fault Refusal :=
  .next (s.live (·.heldStale order))

/-- SOURCE_ENTRY_RECLAIM (R300). -/
def execSourceEntryReclaim (i : Nat) (s : State) : Host.Outcome State Fault Refusal :=
  .next (s.live (·.reclaim i))

/-- LINK_UP_CHANGE (R294). -/
def execLinkUpChange (n : Nat) (up : Bool) (s : State) : Host.Outcome State Fault Refusal :=
  .next (s.linkUpChange n up)

/-- LINK_RESET_COMPLETE (R309). -/
def execLinkResetComplete (n : Nat) (s : State) : Host.Outcome State Fault Refusal :=
  .next (s.live (·.linkResetComplete n))

end Sys2Proof.Machine
end

