-- ==== Sys2Proof/Machine/Dispatch.lean ====
section
/-!
DEFINITION. The dispatch: one arm for each row of the table.
-/

namespace Sys2Proof.Machine

def exec (i : Instr) (s : State) : Host.Outcome State Fault Refusal :=
  match i with
  | .nop c => Sys2Proof.Machine.execNop c s
  | .echo c => Sys2Proof.Machine.execEcho c s
  | .queryState c => Sys2Proof.Machine.execQueryState c s
  | .ctxReset c => Sys2Proof.Machine.execCtxReset c s
  | .portReset c => Sys2Proof.Machine.execPortReset c s
  | .drain c => Sys2Proof.Machine.execDrain c s
  | .drainComplete token => Sys2Proof.Machine.execDrainComplete token s
  | .regionSet c => Sys2Proof.Machine.execRegionSet c s
  | .regionClear c => Sys2Proof.Machine.execRegionClear c s
  | .regionQuery c => Sys2Proof.Machine.execRegionQuery c s
  | .regionMarkInit c => Sys2Proof.Machine.execRegionMarkInit c s
  | .viewSet c => Sys2Proof.Machine.execViewSet c s
  | .viewClear c => Sys2Proof.Machine.execViewClear c s
  | .viewQuery c => Sys2Proof.Machine.execViewQuery c s
  | .viewStats c => Sys2Proof.Machine.execViewStats c s
  | .stallLoad c => Sys2Proof.Machine.execStallLoad c s
  | .stallSwap c => Sys2Proof.Machine.execStallSwap c s
  | .stallSwapTakeEffect u => Sys2Proof.Machine.execStallSwapTakeEffect u s
  | .stallQuery c => Sys2Proof.Machine.execStallQuery c s
  | .prioSet c => Sys2Proof.Machine.execPrioSet c s
  | .parkSet c => Sys2Proof.Machine.execParkSet c s
  | .starveSet c => Sys2Proof.Machine.execStarveSet c s
  | .shareSet c => Sys2Proof.Machine.execShareSet c s
  | .urgencySet c => Sys2Proof.Machine.execUrgencySet c s
  | .latencySet c => Sys2Proof.Machine.execLatencySet c s
  | .budgetSet c => Sys2Proof.Machine.execBudgetSet c s
  | .govAdmit c => Sys2Proof.Machine.execAdmit c s
  | .guaranteeRelease c => Sys2Proof.Machine.execGuaranteeRelease c s
  | .powerLimitSet c => Sys2Proof.Machine.execPowerLimitSet c s
  | .shedQuery c => Sys2Proof.Machine.execShedQuery c s
  | .foldMap c => Sys2Proof.Machine.execFoldMap c s
  | .foldCreate c => Sys2Proof.Machine.execFoldCreate c s
  | .foldDestroy c => Sys2Proof.Machine.execFoldDestroy c s
  | .foldArm c => Sys2Proof.Machine.execFoldArm c s
  | .foldOp c => Sys2Proof.Machine.execFoldOp c s
  | .foldQuery c => Sys2Proof.Machine.execFoldQuery c s
  | .foldDump c => Sys2Proof.Machine.execFoldDump c s
  | .foldDumpRecord => Sys2Proof.Machine.execFoldDumpRecord s
  | .popSet c => Sys2Proof.Machine.execPopSet c s
  | .popClear c => Sys2Proof.Machine.execPopClear c s
  | .popQuery c => Sys2Proof.Machine.execPopQuery c s
  | .popStage c => Sys2Proof.Machine.execPopStage c s
  | .popStageDone pop => Sys2Proof.Machine.execPopStageDone pop s
  | .popUnstage c => Sys2Proof.Machine.execPopUnstage c s
  | .popUnstageDone pop => Sys2Proof.Machine.execPopUnstageDone pop s
  | .step c => Sys2Proof.Machine.execStep c s
  | .stepRow pop => Sys2Proof.Machine.execStepRow pop s
  | .stepComplete pop => Sys2Proof.Machine.execStepComplete pop s
  | .popUntaint c => Sys2Proof.Machine.execPopUntaint c s
  | .evrouteSet c => Sys2Proof.Machine.execEvrouteSet c s
  | .drvFill c => Sys2Proof.Machine.execDrvFill c s
  | .drvCopy c => Sys2Proof.Machine.execDrvCopy c s
  | .drvConvert c => Sys2Proof.Machine.execDrvConvert c s
  | .drvEvacuate c => Sys2Proof.Machine.execDrvEvacuate c s
  | .drvCancel c => Sys2Proof.Machine.execDrvCancel c s
  | .drvQuery c => Sys2Proof.Machine.execDrvQuery c s
  | .drvJobStart inBank => Sys2Proof.Machine.execDrvJobStart inBank s
  | .drvRow inBank => Sys2Proof.Machine.execDrvRow inBank s
  | .drvJobComplete inBank => Sys2Proof.Machine.execDrvJobComplete inBank s
  | .windowSet c => Sys2Proof.Machine.execWindowSet c s
  | .windowClear c => Sys2Proof.Machine.execWindowClear c s
  | .windowQuery c => Sys2Proof.Machine.execWindowQuery c s
  | .chipIdSet c => Sys2Proof.Machine.execChipIdSet c s
  | .epochSet c => Sys2Proof.Machine.execEpochSet c s
  | .linkReset c => Sys2Proof.Machine.execLinkReset c s
  | .linkResetComplete n => Sys2Proof.Machine.execLinkResetComplete n s
  | .linkQuery c => Sys2Proof.Machine.execLinkQuery c s
  | .retrySet c => Sys2Proof.Machine.execRetrySet c s
  | .scrubSet c => Sys2Proof.Machine.execScrubSet c s
  | .patchSet c => Sys2Proof.Machine.execPatchSet c s
  | .patchQuery c => Sys2Proof.Machine.execPatchQuery c s
  | .laneRetire c => Sys2Proof.Machine.execLaneRetire c s
  | .integQuery c => Sys2Proof.Machine.execIntegQuery c s
  | .bistRun c => Sys2Proof.Machine.execBistRun c s
  | .bistQuery c => Sys2Proof.Machine.execBistQuery c s
  | .penBank c => Sys2Proof.Machine.execPenBank c s
  | .flipArm c => Sys2Proof.Machine.execFlipArm c s
  | .pwrStateSet c => Sys2Proof.Machine.execPwrStateSet c s
  | .idleTimerSet c => Sys2Proof.Machine.execIdleTimerSet c s
  | .oppointSet c => Sys2Proof.Machine.execOppointSet c s
  | .pwrQuery c => Sys2Proof.Machine.execPwrQuery c s
  | .timeSet c => Sys2Proof.Machine.execTimeSet c s
  | .timeQuery c => Sys2Proof.Machine.execTimeQuery c s
  | .tsyncCfg c => Sys2Proof.Machine.execTsyncCfg c s
  | .wakeAinCfg c => Sys2Proof.Machine.execWakeAinCfg c s
  | .timerWakeSet c => Sys2Proof.Machine.execTimerWakeSet c s
  | .fwQuery c => Sys2Proof.Machine.execFwQuery c s
  | .activateAt c => Sys2Proof.Machine.execActivateAt c s
  | .healthOk c => Sys2Proof.Machine.execHealthOk c s
  | .confirmWindowSet c => Sys2Proof.Machine.execConfirmWindowSet c s
  | .settingsRead c => Sys2Proof.Machine.execSettingsRead c s
  | .settingsWrite c => Sys2Proof.Machine.execSettingsWrite c s
  | .settingsDefault c => Sys2Proof.Machine.execSettingsDefault c s
  | .safeHoldExit c => Sys2Proof.Machine.execSafeHoldExit c s
  | .halfReset c => Sys2Proof.Machine.execHalfReset c s
  | .halfResetComplete half => Sys2Proof.Machine.execHalfResetComplete half s
  | .crookAssign c => Sys2Proof.Machine.execCrookAssign c s
  | .flipMaskSet c => Sys2Proof.Machine.execFlipMaskSet c s
  | .ledgerRead c => Sys2Proof.Machine.execLedgerRead c s
  | .safetyCfg c => Sys2Proof.Machine.execSafetyCfg c s
  | .lifecycleSet c => Sys2Proof.Machine.execLifecycleSet c s
  | .commandStartAfterPrev token => Sys2Proof.Machine.execCommandStartAfterPrev token s
  | .doorbell n v => Sys2Proof.Machine.execDoorbell n v s
  | .ringFetch n => Sys2Proof.Machine.execRingFetch n s
  | .ringEnable n v => Sys2Proof.Machine.execRingEnable n v s
  | .ringDisable n => Sys2Proof.Machine.execRingDisable n s
  | .replyRdWrite n v => Sys2Proof.Machine.execReplyRdWrite n v s
  | .cmdwGo sp => Sys2Proof.Machine.execCmdwGo sp s
  | .cmdRequest p r => Sys2Proof.Machine.execCmdRequest p r s
  | .nopRequest p r => Sys2Proof.Machine.execNopRequest p r s
  | .rd p r => Sys2Proof.Machine.execRd p r s
  | .wr p r => Sys2Proof.Machine.execWr p r s
  | .wrm p r => Sys2Proof.Machine.execWrm p r s
  | .acc p r => Sys2Proof.Machine.execAcc p r s
  | .fence p r => Sys2Proof.Machine.execFence p r s
  | .fenceComplete req => Sys2Proof.Machine.execFenceComplete req s
  | .foldRequest p r => Sys2Proof.Machine.execFoldRequest p r s
  | .writeDataBeat p b => Sys2Proof.Machine.execWriteDataBeat p b s
  | .pieceQueueAccept p u => Sys2Proof.Machine.execPieceQueueAccept p u s
  | .subportGrant u => Sys2Proof.Machine.execSubportGrant u s
  | .mergeRead k b => Sys2Proof.Machine.execMergeRead k b s
  | .bankWriteSlot k b => Sys2Proof.Machine.execBankWriteSlot k b s
  | .readBeatComplete k b => Sys2Proof.Machine.execReadBeatComplete k b s
  | .scaleCacheFill k addr => Sys2Proof.Machine.execScaleCacheFill k addr s
  | .epochTimeBoundary view => Sys2Proof.Machine.execEpochTimeBoundary view s
  | .epochSettle view => Sys2Proof.Machine.execEpochSettle view s
  | .arrive k => Sys2Proof.Machine.execArrive k s
  | .signal k => Sys2Proof.Machine.execSignal k s
  | .consume k => Sys2Proof.Machine.execConsume k s
  | .wait k => Sys2Proof.Machine.execWait k s
  | .read k => Sys2Proof.Machine.execRead k s
  | .wakeSequencerEnd k => Sys2Proof.Machine.execWakeSequencerEnd k s
  | .waiterTimeout order => Sys2Proof.Machine.execWaiterTimeout order s
  | .foldStateUe k x => Sys2Proof.Machine.execFoldStateUe k x s
  | .eventIngress v w => Sys2Proof.Machine.execEventIngress v w s
  | .spike k => Sys2Proof.Machine.execSpike k s
  | .mark k => Sys2Proof.Machine.execMark k s
  | .eventEgress v => Sys2Proof.Machine.execEventEgress v s
  | .evacRowCopy k => Sys2Proof.Machine.execEvacRowCopy k s
  | .takeover k => Sys2Proof.Machine.execTakeover k s
  | .bistTestEnd k f => Sys2Proof.Machine.execBistTestEnd k f s
  | .scrubRead k b => Sys2Proof.Machine.execScrubRead k b s
  | .scrubWriteBack k b => Sys2Proof.Machine.execScrubWriteBack k b s
  | .repairPolicyAction a => Sys2Proof.Machine.execRepairPolicyAction a s
  | .rotationStep => Sys2Proof.Machine.execRotationStep s
  | .clogPop k => Sys2Proof.Machine.execClogPop k s
  | .govWindowStart => Sys2Proof.Machine.execGovWindowStart s
  | .sensorRead readings => Sys2Proof.Machine.execSensorRead readings s
  | .bellLevelChange n lines => Sys2Proof.Machine.execBellLevelChange n lines s
  | .linkSend chip => Sys2Proof.Machine.execLinkSend chip s
  | .linkResend req => Sys2Proof.Machine.execLinkResend req s
  | .linkRemoteLost req => Sys2Proof.Machine.execLinkRemoteLost req s
  | .linkResponse n r => Sys2Proof.Machine.execLinkResponse n r s
  | .linkInboundRequest n r => Sys2Proof.Machine.execLinkInboundRequest n r s
  | .pendingSignalRelease order => Sys2Proof.Machine.execPendingSignalRelease order s
  | .heldOpStale order => Sys2Proof.Machine.execHeldOpStale order s
  | .sourceEntryReclaim x => Sys2Proof.Machine.execSourceEntryReclaim x s
  | .linkUpChange n up => Sys2Proof.Machine.execLinkUpChange n up s
  | .clusterIdleExpire k => Sys2Proof.Machine.execClusterIdleExpire k s
  | .retentionSwitchAck k => Sys2Proof.Machine.execRetentionSwitchAck k s
  | .clusterWake k => Sys2Proof.Machine.execClusterWake k s
  | .clusterExitComplete k => Sys2Proof.Machine.execClusterExitComplete k s
  | .blockIdleExpire => Sys2Proof.Machine.execBlockIdleExpire s
  | .blockWake => Sys2Proof.Machine.execBlockWake s
  | .avsStatusPoll crcOk actionTaken => Sys2Proof.Machine.execAvsStatusPoll crcOk actionTaken s
  | .avsVoltageAck mv => Sys2Proof.Machine.execAvsVoltageAck mv s
  | .pwrTimeout step k => Sys2Proof.Machine.execPwrTimeout step k s
  | .rckFackChange level => Sys2Proof.Machine.execRckFackChange level s
  | .timerWakeFire who => Sys2Proof.Machine.execTimerWakeFire who s
  | .wakeAinCrossing => Sys2Proof.Machine.execWakeAinCrossing s
  | .sckCheck hz => Sys2Proof.Machine.execSckCheck hz s
  | .tsyncPulseOut => Sys2Proof.Machine.execTsyncPulseOut s
  | .tsyncPulseIn => Sys2Proof.Machine.execTsyncPulseIn s
  | .tsyncPulseMissing => Sys2Proof.Machine.execTsyncPulseMissing s
  | .timeLoRead sp => Sys2Proof.Machine.execTimeLoRead sp s
  | .analogCheck f => Sys2Proof.Machine.execAnalogCheck f s
  | .faultReport f => Sys2Proof.Machine.execFaultReport f s
  | .crookClaim half => Sys2Proof.Machine.execCrookClaim half s
  | .crookTokenCheck c0 c1 c2 => Sys2Proof.Machine.execCrookTokenCheck c0 c1 c2 s
  | .watchdogWrite half => Sys2Proof.Machine.execWatchdogWrite half s
  | .watchdogExpire half => Sys2Proof.Machine.execWatchdogExpire half s
  | .sequencerMismatch => Sys2Proof.Machine.execSequencerMismatch s
  | .rckLoss => Sys2Proof.Machine.execRckLoss s
  | .outputTest => Sys2Proof.Machine.execOutputTest s
  | .outputTestEnd padsOk => Sys2Proof.Machine.execOutputTestEnd padsOk s
  | .ledgerAck seq => Sys2Proof.Machine.execLedgerAck seq s
  | .activationEdge => Sys2Proof.Machine.execActivationEdge s
  | .activationSafePoint => Sys2Proof.Machine.execActivationSafePoint s
  | .activationTimeout => Sys2Proof.Machine.execActivationTimeout s
  | .imageRunning => Sys2Proof.Machine.execImageRunning s
  | .confirmWindowExpire => Sys2Proof.Machine.execConfirmWindowExpire s
  | .firmwareBoot flashOk => Sys2Proof.Machine.execFirmwareBoot flashOk s
  | .svcStatus => Sys2Proof.Machine.execSvcStatus s
  | .imgOpen arg flashOk => Sys2Proof.Machine.execImgOpen arg flashOk s
  | .imgBlock arg data => Sys2Proof.Machine.execImgBlock arg data s
  | .imgBlockProgrammed flashOk => Sys2Proof.Machine.execImgBlockProgrammed flashOk s
  | .imgClose arg => Sys2Proof.Machine.execImgClose arg s
  | .svcRead len => Sys2Proof.Machine.execSvcRead len s
  | .monCharRx ch => Sys2Proof.Machine.execMonCharRx ch s
  | .help => Sys2Proof.Machine.execHelp s
  | .peekR addr n => Sys2Proof.Machine.execPeekR addr n s
  | .peekM addr n => Sys2Proof.Machine.execPeekM addr n s
  | .pokeR addr v => Sys2Proof.Machine.execPokeR addr v s
  | .pokeM addr v => Sys2Proof.Machine.execPokeM addr v s
  | .folds k => Sys2Proof.Machine.execFolds k s
  | .ledger n => Sys2Proof.Machine.execLedger n s
  | .stats group => Sys2Proof.Machine.execStats group s
  | .baud rate => Sys2Proof.Machine.execBaud rate s
  | .pwrOkRise widths repair repairBad count => Sys2Proof.Machine.execPwrOkRise widths repair repairBad count s
  | .hardwareReady post => Sys2Proof.Machine.execHardwareReady post s
  | .pwrOkFall => Sys2Proof.Machine.execPwrOkFall s
  | .portCtxWrite p v => Sys2Proof.Machine.execPortCtxWrite p v s
  | .burstWrite p v => Sys2Proof.Machine.execBurstWrite p v s
  | .mboxCfgWrite p v => Sys2Proof.Machine.execMboxCfgWrite p v s
  | .statCfgWrite k v => Sys2Proof.Machine.execStatCfgWrite k v s
  | .registerWrite a => Sys2Proof.Machine.execRegisterWrite a s
  | .portGroupClockChange p runs => Sys2Proof.Machine.execPortGroupClockChange p runs s
  | .responseTransfer p => Sys2Proof.Machine.execResponseTransfer p s
  | .rckReturn => Sys2Proof.Machine.execRckReturn s
  | .wakeAinRearm => Sys2Proof.Machine.execWakeAinRearm s
  | .svcBadFrame f => Sys2Proof.Machine.execSvcBadFrame f s
  | .imgCloseEnd => Sys2Proof.Machine.execImgCloseEnd s
  | .imageStartTimeout => Sys2Proof.Machine.execImageStartTimeout s
  | .registerRead a => Sys2Proof.Machine.execRegisterRead a s
  | .jtagInstruction x => Sys2Proof.Machine.execJtagInstruction x s

end Sys2Proof.Machine
end

