-- ==== Sys2Proof/Safety.lean ====
section
/-!
DEFINITION. The terms in which statements about the block are made: when nothing of the control path waits,
when a command that a window gives passes its checks, and what its records leave in the command
interface.
-/

namespace Sys2Proof.Machine

/-- A ring has fetched a packet that has not been accepted (R60). -/
def CmdIf.fetched (k : CmdIf) : Bool := k.rings.any fun e => match e.2.fetch with | .ready _ => true | _ => false

/-- The hardware is ready, the derived clocks run, no packet, command, record or register access waits and no SPIKE is
under way or held; nothing waits at a link port's converter; the block does not try to enter STOP; nothing has been accepted in
this MCK (R42), and every deferred command came before the next to be accepted: a
step then does what its row says and nothing starts by itself after it. -/
def State.quiet (s : State) : Bool :=
  s.ready && s.cmd.arrived.isEmpty && s.cmd.waiting.isEmpty && s.cmd.records.isEmpty &&
    s.reg.waitCtl.isEmpty && s.reg.waitSp.isEmpty && s.cmd.sp.given.isNone && s.cmd.ctl.given.isNone &&
    !s.cmd.fetched && s.eventsStill && s.links.waiting.isEmpty && decide (s.power.block = .run) && !s.power.attempt &&
    s.cmd.deferred.all (fun d => decide (d.token < s.cmd.accepted)) && decide (s.cmd.acceptMck ≠ s.mck + 1)

/-- A source that is the SP window. -/
def Source.isSp : Source → Bool
  | .sp => true
  | .ctl => false
  | .ring _ => false
  | .mbox _ _ _ => false

/-- Change the window that a packet comes from. -/
def CmdIf.window (k : CmdIf) (sp : Bool) (f : CmdWindow → CmdWindow) : CmdIf :=
  if sp then { k with sp := f k.sp } else { k with ctl := f k.ctl }

/-- The packet stands in its window, CMDW_GO has been written and the packet has been accepted (R65): the state in
which the checks of R50 are made. -/
def State.given (s : State) (c : Cmd) : State :=
  s.onCmd fun k =>
    { k.window c.src.isSp (fun w => { w with buf := c.pkt, busy := true, done := false, given := none }) with
      accepted := k.accepted + 1, acceptMck := s.mck + 1 }

/-- The final record of a window command stands in CMDW_REPLY; DONE is set and BUSY is clear (R46, R65). -/
def State.replied (s : State) (c : Cmd) (r : Result) : State :=
  s.onCmd fun k =>
    { k.window c.src.isSp (fun w =>
        { w with buf := c.pkt, busy := false, done := true, given := none, reply := withPhase (c.record r) }) with
      accepted := k.accepted + 1, acceptMck := s.mck + 1
      deferred := k.deferred.filter (fun d => d.token != k.accepted) }

/-- A deferred command of a window has started: its DEFER record stands in CMDW_REPLY, BUSY stays set, and
the command is entered with what it holds (R47, R53, R65). -/
def State.deferred (s : State) (b : Body) (c : Cmd) : State :=
  s.onCmd fun k =>
    { k.window c.src.isSp (fun w =>
        { w with
          buf := c.pkt, busy := true, done := false, given := none
          reply := withPhase (c.record { status := .defer, result := b.job c (s.given c) }) }) with
      accepted := k.accepted + 1, acceptMck := s.mck + 1
      deferred := k.deferred ++
        [{ token := k.accepted, cmd := c, holds := b.holds c (s.given c)
           half := (s.given c).shepherd (b.path c (s.given c)), since := s.clock.xck }] }

/-- Clusters are accessed: one in RUN starts its idle timer again (R364). -/
def State.accessed (s : State) (ks : List Nat) : State := ks.foldl (fun s k => s.wakeCluster k 2) s

/-- The state with the clusters accessed that a window command accesses as it starts (R364, R368); it is `s` itself for
a command that accesses none. -/
def State.reached (s : State) (b : Body) (c : Cmd) : State := s.accessed (b.touches c (s.given c))

/-- A window command whose parameters lie in memory waits until initiator 64 has read them, as a ring fetch is read
(R61, R146, R164). -/
def State.fetching (s : State) (b : Body) (c : Cmd) (a n : Nat) : State :=
  let x := ((s.reached b c).given c).askRead 1 c.ctx a n
  x.2.onCmd fun k =>
    { k with waiting := k.waiting ++
        [{ token := s.cmd.accepted, cmd := c, why := .reading x.1, half := (s.given c).shepherd (b.path c (s.given c))
           since := s.clock.xck }] }

/-- The packet `c` carries the opcode of `b` and can be given through its window: nothing waits, the window is not
busy, and an AFTER_PREV command has no earlier command of its source to wait for (R56, R65). -/
def State.gives (s : State) (b : Body) (c : Cmd) : Bool :=
  s.quiet && c.src.window && !(s.window c.src.isSp).busy && c.op == b.code &&
    !(c.afterPrev && (s.given c).prevRuns c.src s.cmd.accepted)

/-- The command passes every check of R50, its own accesses pass R114, and nothing keeps it from starting; it asks for no
SIGNAL. -/
def State.takes (s : State) (b : Body) (c : Cmd) : Bool :=
  s.gives b c && !c.signal && decide ((s.given c).checkHeader (some b) c = none) &&
    decide ((s.given c).checkParams b c = none) && decide ((s.given c).barredBy b c = none) &&
    decide ((s.given c).mustWait b c = none)

/-- Checks 1 to 11 of R50, in their order, on a packet that a window gives. -/
def State.refusal (s : State) (b : Body) (c : Cmd) : Option Result :=
  ((s.given c).checkHeader (some b) c).or
    (((s.given c).checkState b false c).or ((s.given c).checkParams b c))

/-- The refusal of a window command has been reported where it names an address of a region with SAFETY = 1 (R49, R87); the
rest is as after any final record. -/
def State.refusedWith (s : State) (c : Cmd) (r : Result) : State := (s.replied c r).noteRange r

/-- The reply of a query stands at the start of the window's packet buffer, and the command has ended (Table 3-6). -/
def State.queryReplyWith (s : State) (c : Cmd) (bs : List Byte) (r : Result) : State :=
  (s.replied c r).onCmd fun k => k.window c.src.isSp fun w => { w with buf := putBuffer c.pkt bs }

/-- The same with OK. -/
def State.queryReply (s : State) (c : Cmd) (bs : List Byte) : State := s.queryReplyWith c bs { status := .ok }

/-- A command ends: SIGNAL where it asks for one, its final record, and what then starts by itself (R47, R57). The number
is its place in acceptance order. -/
def State.ends (s : State) (n : Nat) (c : Cmd) (r : Result) : State := (s.finish n c r).carryOn

end Sys2Proof.Machine
end

