-- ==== Sys2Proof/WellFormed.lean ====
section
/-!
DEFINITION. When a command or an event of the table is well formed: its operands lie in the ranges of
the fields and tables of the spec, whatever the configuration and the state.
-/

namespace Sys2Proof

open Sys2Proof.Machine

/-- A cluster number (R19). -/
def clusterOk (k : Nat) : Bool := decide (k < 8)

/-- A ring number (R42). -/
def ringOk (n : Nat) : Bool := decide (n < 16)

/-- An E or a D port (R19). -/
def dataPort (p : Nat) : Bool := decide (p < 56)

/-- A source of Table 2-1. -/
def Machine.Source.wf : Source → Bool
  | .sp => true
  | .ctl => true
  | .ring n => ringOk n
  | .mbox p ctx tag => decide (p < 64) && decide (ctx < 1024) && decide (tag < 1024)

/-- A packet of one opcode from a source that exists (R44). -/
def Machine.Cmd.wf (c : Cmd) (op : Nat) : Bool := c.src.wf && bitsOf c.pkt.toNat 0 12 == op

/-- A request word of one opcode (Table 4-2). -/
def Machine.ReqWord.asks (r : ReqWord) (op : Nat) : Bool := bitsOf r.word.toNat 0 3 == op

/-- A repair action names a bank, a row and a lane (R332). -/
def Machine.RepairAct.wf : RepairAct → Bool
  | .patch bank row lane => decide (bank < 128) && decide (row < 16384) && decide (lane < 36)
  | .retire bank lane => decide (bank < 128) && decide (lane < 36)

/-- A table entry lies in its table (R395). -/
def Machine.TableEntry.wf : TableEntry → Bool
  | .region i => decide (i < 256)
  | .view i => decide (i < 4096)
  | .window i => decide (i < 64)
  | .stall n i _ => decide (n < 64) && decide (i < 1024)
  | .fold e => decide (e < 32768)
  | .population i => decide (i < 4096)

/-- What a fault strikes exists in some configuration (R390 to R395, R413). -/
def Machine.FaultHit.wf : FaultHit → Bool
  | .row bank => decide (bank < 128)
  | .granule bank _ g => decide (bank < 128) && decide (g < 4)
  | .records pop g => decide (pop < 4096) && decide (g < 4)
  | .response p => decide (p < 64)
  | .request p => decide (p < 64)
  | .grant n _ => decide (n < 64)
  | .governor _ _ shed => decide (shed ≤ 3)
  | .entry t => t.wf
  | .ledger i => decide (i < 1024)

/-- The fields of a report fit their places in a ledger entry (Table 14-4). -/
def Machine.FaultInfo.wf (f : FaultInfo) : Bool :=
  decide (f.code < 256) && decide (f.cluster < 16) && decide (f.bank < 32) && decide (f.port < 128) && f.hit.all (·.wf)

/-- The units that a power-up result names exist in some configuration (Table 12-3). -/
def Machine.Post.wf (p : Post) : Bool :=
  p.slots.all (fun k => decide (k < 136)) && p.subs.all (fun n => decide (n < 64)) && p.clusters.all clusterOk &&
    p.ports.all (fun q => decide (q < 64)) && p.events.all (fun v => decide (v < 4)) &&
    p.sensors.all (fun k => decide (k < 9))

/-- A TAP instruction names a slot and a row of the arrays, or a key slot (R360). -/
def Machine.TapOp.wf : TapOp → Bool
  | .rawRead k row => decide (k < 136) && decide (row < 16704)
  | .rawWrite k row _ => decide (k < 136) && decide (row < 16704)
  | .repairFuse r => decide (r.slot < 136)
  | .otpKey k _ => decide (k < 4)
  | .otpIdentity _ _ _ => true
  | .bypass => true
  | .idcode => true
  | .samplePreload => true
  | .extest => true
  | .internalScan => true

/-- A well-formed command or event. -/
def Instr.wf : Instr → Bool
  | .nop c => c.wf 0x000
  | .echo c => c.wf 0x001
  | .queryState c => c.wf 0x002
  | .ctxReset c => c.wf 0x003
  | .portReset c => c.wf 0x004
  | .drain c => c.wf 0x005
  | .drainComplete _ => true
  | .regionSet c => c.wf 0x100
  | .regionClear c => c.wf 0x101
  | .regionQuery c => c.wf 0x102
  | .regionMarkInit c => c.wf 0x103
  | .viewSet c => c.wf 0x110
  | .viewClear c => c.wf 0x111
  | .viewQuery c => c.wf 0x112
  | .viewStats c => c.wf 0x113
  | .stallLoad c => c.wf 0x200
  | .stallSwap c => c.wf 0x201
  | .stallSwapTakeEffect n => decide (n < 64)
  | .stallQuery c => c.wf 0x202
  | .prioSet c => c.wf 0x210
  | .parkSet c => c.wf 0x211
  | .starveSet c => c.wf 0x212
  | .shareSet c => c.wf 0x220
  | .urgencySet c => c.wf 0x221
  | .latencySet c => c.wf 0x222
  | .budgetSet c => c.wf 0x223
  | .govAdmit c => c.wf 0x230
  | .guaranteeRelease c => c.wf 0x231
  | .powerLimitSet c => c.wf 0x240
  | .shedQuery c => c.wf 0x241
  | .foldMap c => c.wf 0x300
  | .foldCreate c => c.wf 0x301
  | .foldDestroy c => c.wf 0x302
  | .foldArm c => c.wf 0x303
  | .foldOp c => c.wf 0x304
  | .foldQuery c => c.wf 0x305
  | .foldDump c => c.wf 0x306
  | .foldDumpRecord => true
  | .popSet c => c.wf 0x400
  | .popClear c => c.wf 0x401
  | .popQuery c => c.wf 0x402
  | .popStage c => c.wf 0x403
  | .popStageDone i => decide (i < 4096)
  | .popUnstage c => c.wf 0x404
  | .popUnstageDone i => decide (i < 4096)
  | .step c => c.wf 0x410
  | .stepRow i => decide (i < 4096)
  | .stepComplete i => decide (i < 4096)
  | .popUntaint c => c.wf 0x411
  | .evrouteSet c => c.wf 0x420
  | .drvFill c => c.wf 0x500
  | .drvCopy c => c.wf 0x501
  | .drvConvert c => c.wf 0x502
  | .drvEvacuate c => c.wf 0x503
  | .drvCancel c => c.wf 0x504
  | .drvQuery c => c.wf 0x505
  | .drvJobStart _ => true
  | .drvRow _ => true
  | .drvJobComplete _ => true
  | .windowSet c => c.wf 0x600
  | .windowClear c => c.wf 0x601
  | .windowQuery c => c.wf 0x602
  | .chipIdSet c => c.wf 0x610
  | .epochSet c => c.wf 0x611
  | .linkReset c => c.wf 0x612
  | .linkResetComplete n => decide (n < 8)
  | .linkQuery c => c.wf 0x613
  | .retrySet c => c.wf 0x614
  | .scrubSet c => c.wf 0x700
  | .patchSet c => c.wf 0x701
  | .patchQuery c => c.wf 0x702
  | .laneRetire c => c.wf 0x703
  | .integQuery c => c.wf 0x704
  | .bistRun c => c.wf 0x710
  | .bistQuery c => c.wf 0x711
  | .penBank c => c.wf 0x712
  | .flipArm c => c.wf 0x713
  | .pwrStateSet c => c.wf 0x800
  | .idleTimerSet c => c.wf 0x801
  | .oppointSet c => c.wf 0x802
  | .pwrQuery c => c.wf 0x803
  | .timeSet c => c.wf 0x810
  | .timeQuery c => c.wf 0x811
  | .tsyncCfg c => c.wf 0x812
  | .wakeAinCfg c => c.wf 0x813
  | .timerWakeSet c => c.wf 0x814
  | .fwQuery c => c.wf 0x900
  | .activateAt c => c.wf 0x901
  | .healthOk c => c.wf 0x902
  | .confirmWindowSet c => c.wf 0x903
  | .settingsRead c => c.wf 0x910
  | .settingsWrite c => c.wf 0x911
  | .settingsDefault c => c.wf 0x912
  | .safeHoldExit c => c.wf 0xA00
  | .halfReset c => c.wf 0xA01
  | .halfResetComplete _ => true
  | .crookAssign c => c.wf 0xA02
  | .flipMaskSet c => c.wf 0xA03
  | .ledgerRead c => c.wf 0xA04
  | .safetyCfg c => c.wf 0xA05
  | .lifecycleSet c => c.wf 0xA06
  | .commandStartAfterPrev _ => true
  | .doorbell n _ => ringOk n
  | .ringFetch n => ringOk n
  | .ringEnable n _ => ringOk n
  | .ringDisable n => ringOk n
  | .replyRdWrite n _ => ringOk n
  | .cmdwGo _ => true
  | .cmdRequest p r => dataPort p && r.asks 7
  | .nopRequest p r => dataPort p && r.asks 0
  | .rd p r => dataPort p && r.asks 1
  | .wr p r => dataPort p && r.asks 2
  | .wrm p r => dataPort p && r.asks 3
  | .acc p r => dataPort p && r.asks 4
  | .fence p r => dataPort p && r.asks 6
  | .fenceComplete _ => true
  | .foldRequest p r => dataPort p && r.asks 5
  | .writeDataBeat p _ => dataPort p
  | .pieceQueueAccept p n => decide (p ≤ 64) && decide (n < 64)
  | .subportGrant n => decide (n < 64)
  | .mergeRead k b => clusterOk k && decide (b < 16)
  | .bankWriteSlot k b => clusterOk k && decide (b < 16)
  | .readBeatComplete k b => clusterOk k && decide (b < 16)
  | .scaleCacheFill k a => clusterOk k && decide (a < 2 ^ 28)
  | .epochTimeBoundary v => decide (v < 4096)
  | .epochSettle v => decide (v < 4096)
  | .arrive k => clusterOk k
  | .signal k => clusterOk k
  | .consume k => clusterOk k
  | .wait k => clusterOk k
  | .read k => clusterOk k
  | .wakeSequencerEnd k => clusterOk k
  | .waiterTimeout _ => true
  | .foldStateUe k i => clusterOk k && decide (i < 2048)
  | .eventIngress v _ => decide (v < 4)
  | .spike k => clusterOk k
  | .mark k => clusterOk k
  | .eventEgress v => decide (v < 4)
  | .evacRowCopy k => clusterOk k
  | .takeover k => clusterOk k
  | .bistTestEnd k _ => clusterOk k
  | .scrubRead k b => clusterOk k && decide (b < 16)
  | .scrubWriteBack k b => clusterOk k && decide (b < 16)
  | .repairPolicyAction a => a.wf
  | .rotationStep => true
  | .clogPop k => clusterOk k
  | .govWindowStart => true
  | .sensorRead rs => rs.all (fun r => decide (r.1 < 9) && decide (r.2.natAbs < 256))
  | .bellLevelChange n _ => decide (n < 8)
  | .linkSend chip => decide (chip < 4096)
  | .linkResend _ => true
  | .linkRemoteLost _ => true
  | .linkResponse n r => decide (n < 8) && decide (r.status < 64)
  | .linkInboundRequest n r => decide (n < 8) && decide (r.beats.length ≤ 32)
  | .pendingSignalRelease _ => true
  | .heldOpStale _ => true
  | .sourceEntryReclaim i => decide (i < 64)
  | .linkUpChange n _ => decide (n < 8)
  | .clusterIdleExpire k => clusterOk k
  | .retentionSwitchAck k => clusterOk k
  | .clusterWake k => clusterOk k
  | .clusterExitComplete k => clusterOk k
  | .blockIdleExpire => true
  | .blockWake => true
  | .avsStatusPoll _ _ => true
  | .avsVoltageAck _ => true
  | .pwrTimeout x k => decide (1 ≤ x) && decide (x ≤ 7) && (clusterOk k || k == 0xF)
  | .rckFackChange _ => true
  | .timerWakeFire w => clusterOk w || w == 0xFE
  | .wakeAinCrossing => true
  | .sckCheck _ => true
  | .tsyncPulseOut => true
  | .tsyncPulseIn => true
  | .tsyncPulseMissing => true
  | .timeLoRead _ => true
  | .analogCheck _ => true
  | .faultReport f => f.wf
  | .crookClaim _ => true
  | .crookTokenCheck _ _ _ => true
  | .watchdogWrite _ => true
  | .watchdogExpire _ => true
  | .sequencerMismatch => true
  | .rckLoss => true
  | .outputTest => true
  | .outputTestEnd _ => true
  | .ledgerAck _ => true
  | .activationEdge => true
  | .activationSafePoint => true
  | .activationTimeout => true
  | .imageRunning => true
  | .confirmWindowExpire => true
  | .firmwareBoot _ => true
  | .svcStatus => true
  | .imgOpen _ _ => true
  | .imgBlock _ _ => true
  | .imgBlockProgrammed _ => true
  | .imgClose _ => true
  | .svcRead n => decide (n ≤ 4096)
  | .monCharRx _ => true
  | .help => true
  | .peekR _ n => decide (1 ≤ n) && decide (n ≤ 64)
  | .peekM a n => decide (a < 2 ^ 40) && decide (1 ≤ n) && decide (n ≤ 4096)
  | .pokeR _ _ => true
  | .pokeM a _ => decide (a < 2 ^ 40) && a % 4 == 0
  | .folds k => match k with | some c => clusterOk c | none => true
  | .ledger n => decide (1 ≤ n) && decide (n ≤ 1024)
  | .stats g => decide (g < 9)
  | .baud r => decide (9600 ≤ r) && decide (r ≤ 3000000)
  | .pwrOkRise ws rs _ _ => ws.all (fun w => decide (w.1 < 64) && decide (w.2 < 4)) && rs.all (fun r => decide (r.slot < 136))
  | .hardwareReady p => p.wf
  | .pwrOkFall => true
  | .portCtxWrite p _ => decide (p ≤ 64)
  | .burstWrite p _ => decide (p ≤ 64)
  | .mboxCfgWrite p _ => decide (p < 64)
  | .statCfgWrite k _ => clusterOk k
  | .registerWrite a => a.write
  | .portGroupClockChange p _ => decide (p < 64)
  | .responseTransfer p => decide (p < 64)
  | .rckReturn => true
  | .wakeAinRearm => true
  | .svcBadFrame _ => true
  | .imgCloseEnd => true
  | .imageStartTimeout => true
  | .registerRead a => !a.write
  | .jtagInstruction i => i.wf

end Sys2Proof
end

