-- ==== Sys2Proof/Certificates/Slice0/Obligations.lean ====
section
/-!
DEFINITION. The statements about the block, for the provers. A name says what it states; the rule of the spec stands in the
docstring. `s.takes b c` says that the packet `c`, given through its window, passes the checks of R50 and that of R114 and asks for no
SIGNAL; `s.replied c r` is `s` with the final record of `c` in that window, and nothing else changed. `s.reached b c` is `s` with
the clusters accessed that the command needs as it starts: nothing but the idle timers of running clusters restarts (R364, R368).
-/

open Sys2Proof Sys2Proof.Machine


/-! ### The queue -/

/-- Step of a state with `i` at the front of its queue is `exec i` with the rest of the queue (log entry 3). -/
def Obligations.StepTakesFront : Prop :=
  ∀ (i : Instr) (rest : List Instr) (s : State),
    s.pending = i :: rest → step s = exec i { s with pending := rest }

/-- A step on an empty queue is one XCK, or one SCK edge while the derived clocks stand (the model's choice, log
entry 3).

One XCK of the running block: the XCK count rises by one, the time by 15 units of 1/24 ns at
NOMINAL and 20 at ECONOMY, and every 32nd is an ACK edge (R35 and Table 1-7, R36, R380; 15 and 20 units are the model's, log
entry 14). The memory does not change in an XCK of a block
in which nothing waits, no report is pending, no repair entry waits to be installed and the monitor has nothing to serve. -/
def Obligations.IdleStep : Prop :=
  (∀ s : State, s.pending = [] →
      step s = .next (if s.pins.pwrOk then (if s.clock.running then s.tickRun.tickReport else s.tickStood) else s)) ∧
  (∀ s : State, s.quiet = true → s.pins.pwrOk = true → s.pending = [] → s.safety.reports = [] → s.fw.toInstall = [] →
      s.fw.mon.fifo = [] → s.fw.mon.lines = [] → ∃ t,
      step s = .next t ∧ t.clock.xck = s.clock.xck + 1 ∧
        t.clock.elapsed = s.clock.elapsed + (if s.power.eco then 20 else 15) ∧
        t.clock.acks = s.clock.acks + (if (s.clock.xck + 1) % 32 = 0 then 1 else 0) ∧ t.mem = s.mem)

/-! ### The command shell (02) -/

/-- A packet of a window that a check of R50 refuses gets one final record with the status of the first check that
fails, and changes nothing but its window and the count of packets accepted (R48, R50): every register, FIFO, table,
flag and every byte of memory is as before. A refusal that names an address of a region with SAFETY = 1 is reported besides (R49,
R87).

With SIGNAL = 1 the SIGNAL of its fold comes before the final record whatever the status (R57), and none where the fold does
not translate, which is itself the refusal BAD_PARAM of byte 12. A packet of an opcode that the index does not list, put in its
window, is accepted and refused in the same way. A command whose own accesses initiator 64 may not make in its context is
refused PERM, and counted (R114; its DETAIL is DEDUCED, log entry 63). -/
def Obligations.RefusedCommandChangesNothing : Prop :=
  (∀ (b : Body) (c : Cmd) (s : State) (r : Result),
    b ∈ bodies → s.gives b c = true → c.signal = false → s.refusal b c = some r →
      runRow b c s = s.refusedWith c r ∧ (r.refused = none → runRow b c s = s.replied c r)) ∧
  (∀ (b : Body) (c : Cmd) (s : State) (r : Result),
    b ∈ bodies → s.gives b c = true → c.signal = true → s.refusal b c = some r →
      runRow b c s = ((s.given c).noteRange r).ends s.cmd.accepted c r ∧
      (s.translate c.ctx c.fold = none → (s.given c).checkHeader (some b) c = none →
        s.safety.hold = false → r = { status := .badParam, detail := 12 } ∧ runRow b c s = s.replied c r)) ∧
  (∀ (c : Cmd) (s : State) (r : Result),
    s.quiet = true → c.src.window = true → (s.window c.src.isSp).busy = false → bodyOf c.op = none →
    s.checkHeader none c = some r →
      (s.arrive c).settle = (s.given c).ends s.cmd.accepted c r ∧
      (c.signal = false → (s.arrive c).settle = s.replied c r)) ∧
  (∀ (b : Body) (c : Cmd) (s : State) (r : Result),
    b ∈ bodies → s.gives b c = true → s.refusal b c = none → (s.given c).barredBy b c = some r →
      r.status = .perm ∧ r.detail = 3 ∧
      runRow b c s = ((s.given c).count64.noteRange r).ends s.cmd.accepted c r)

/-- The opcodes of Table 2-9 with their parameter lengths, in units of 16 bytes; an opcode names the body that carries it (R45, R69).
The order of the checks is R50's; that a wrong LEN names byte 1 is DEDUCED (log entry 20).
Every other value of OPCODE is refused with BAD_OPCODE once the reserved header bits are found 0, and a packet whose LEN differs
from its opcode's length is refused with BAD_PARAM, naming byte 1, once the earlier checks of R50 (source, context) pass. -/
def Obligations.OpcodeIndex : Prop :=
  bodies.map (fun b => (b.code, b.units)) =
      [(0x000, 0), (0x001, 1), (0x002, 0), (0x003, 1), (0x004, 1), (0x005, 1), (0x100, 3), (0x101, 1), (0x102, 1), (0x103, 1),
       (0x110, 4), (0x111, 1), (0x112, 1), (0x113, 1), (0x200, 1), (0x201, 1), (0x202, 1), (0x210, 1), (0x211, 1),
       (0x212, 1), (0x220, 1), (0x221, 1), (0x222, 1), (0x223, 1), (0x230, 1), (0x231, 1), (0x240, 1), (0x241, 0),
       (0x300, 1), (0x301, 1), (0x302, 1)] ++
      [(0x303, 1), (0x304, 1), (0x305, 1), (0x306, 1), (0x400, 4), (0x401, 1), (0x402, 1), (0x403, 1), (0x404, 1),
       (0x410, 1), (0x411, 1), (0x420, 1), (0x500, 2), (0x501, 2), (0x502, 2), (0x503, 1), (0x504, 1), (0x505, 1),
       (0x600, 2), (0x601, 1), (0x602, 1), (0x610, 1), (0x611, 1), (0x612, 1), (0x613, 1), (0x614, 1), (0x700, 1),
       (0x701, 1), (0x702, 1), (0x703, 1)] ++
      [(0x704, 1), (0x710, 1), (0x711, 1), (0x712, 1), (0x713, 3), (0x800, 1), (0x801, 1), (0x802, 1), (0x803, 0),
       (0x810, 1), (0x811, 0), (0x812, 1), (0x813, 1), (0x814, 1), (0x900, 0), (0x901, 1), (0x902, 0), (0x903, 1),
       (0x910, 1), (0x911, 1), (0x912, 0), (0xA00, 0), (0xA01, 1), (0xA02, 1), (0xA03, 3), (0xA04, 1), (0xA05, 1),
       (0xA06, 1)] ∧
    (∀ b ∈ bodies, bodyOf b.code = some b) ∧
    (∀ (c : Cmd) (s : State), (∀ b ∈ bodies, b.code ≠ c.op) → c.headerBad = none →
      bodyOf c.op = none ∧ s.checkHeader (bodyOf c.op) c = some { status := .badOpcode }) ∧
    (∀ b ∈ bodies, ∀ (c : Cmd) (s : State), c.op = b.code → c.headerBad = none →
      (0xA00 ≤ c.op → c.src = .sp) → (b.sys = true → s.systemSource c.src = true) → s.contextOk c = true →
      c.units ≠ b.units →
        s.checkHeader (bodyOf c.op) c = some { status := .badParam, detail := 1 })

/-- NOP, ECHO and QUERY_STATE end OK at once and change nothing but the window that gave them; ECHO returns its
parameter bytes 0 to 3 and QUERY_STATE returns FW_STATE.

CTX_RESET abandons the folds of the context and ends its waits, one whose deadline has passed with TIMEOUT (R274, R282); PORT_RESET
clears the port, and ends once no piece of the port
that has been granted is left at a bank (R132); that it discards all in the step in which it starts is the model's (log entry 34); a DRAIN whose requests have all completed ends at once, and another waits as a deferred
command. -/
def Obligations.ControlAndResetCommands : Prop :=
  (∀ (c : Cmd) (s : State),
      (s.takes bodyNop c = true → exec (.nop c) s = .next (s.replied c { status := .ok })) ∧
      (s.takes bodyEcho c = true →
        exec (.echo c) s = .next (s.replied c { status := .ok, result := c.par 0 4 })) ∧
      (s.takes bodyQueryState c = true →
        exec (.queryState c) s = .next (s.replied c
          { status := .ok
            result := s.fw.state.code + bit s.fw.runA * 2 ^ 8 + bit s.fw.runB * 2 ^ 9 }))) ∧
  (∀ (c : Cmd) (s : State),
      (s.takes bodyCtxReset c = true →
        exec (.ctxReset c) s = .next
          ((((s.given c).abandonAll (fun f => f.owner == c.par 0 2) .abandoned).onFolds fun u =>
            { u with waiters := u.waiters.map fun w =>
                if w.ctx = c.par 0 2 ∧ w.ended = none then
                  { w with ended := some (if s.late w then .timeout else .abandoned) } else w }).ends
            s.cmd.accepted c { status := .ok })) ∧
      (s.takes bodyPortReset c = true →
        ((s.given c).portReset (c.par 0 1)).grantedOut (c.par 0 1) = false →
        exec (.portReset c) s = .next (((s.given c).portReset (c.par 0 1)).ends s.cmd.accepted c { status := .ok })) ∧
      (s.takes bodyPortReset c = true →
        ((s.given c).portReset (c.par 0 1)).grantedOut (c.par 0 1) = true →
        exec (.portReset c) s = .next
          (((((s.given c).portReset (c.par 0 1)).onPort (c.par 0 1) fun q =>
            { q with resetting := some s.cmd.accepted }).await s.cmd.accepted c none (.portPieces (c.par 0 1))).carryOn)) ∧
      (s.takes bodyDrain c = true →
        exec (.drain c) s = .next
          (if s.drained c s.clock.xck then s.replied c { status := .ok }
           else s.deferred bodyDrain c)))

/-- REGION_SET, REGION_CLEAR and REGION_MARK_INIT write one entry of the region table at their completion point;
the scrubber's view of the change aside, nothing else of the block changes.

VIEW_SET makes the view and VIEW_CLEAR invalidates it; WINDOW_SET and WINDOW_CLEAR write one remote window, with the
destination entries that follow from the valid windows. -/
def Obligations.AddressTableCommands : Prop :=
  (∀ (c : Cmd) (s : State),
      (s.takes bodyRegionSet c = true →
        exec (.regionSet c) s = .next
          (let r := regionOf (c.desc 384) false
           let t := (s.given c).scrubChange (s.region? (c.par 0 1)) (some r)
           ({ t with addr := { t.addr with
              regions := t.addr.regions.set (c.par 0 1) { r with degraded := t.degrades r } } } : State).ends
            s.cmd.accepted c { status := .ok })) ∧
      (s.takes bodyRegionClear c = true →
        exec (.regionClear c) s = .next
          (let t := (s.given c).scrubChange (s.region? (c.par 0 1)) none
           ({ t with addr := { t.addr with regions := t.addr.regions.erase (c.par 0 1) } } : State).ends
            s.cmd.accepted c { status := .ok })) ∧
      (s.takes bodyRegionMarkInit c = true →
        exec (.regionMarkInit c) s = .next
          (((((s.given c).scrubChange (s.region? (c.par 0 1))
              ((s.region? (c.par 0 1)).map fun r => { r with init := true })).onRegion (c.par 0 1)
              fun r => { r with init := true })).ends s.cmd.accepted c { status := .ok }))) ∧
  (∀ (c : Cmd) (s : State),
      (s.takes bodyViewSet c = true →
        exec (.viewSet c) s = .next (((s.given c).viewSet (c.desc 512) c.ctx).ends s.cmd.accepted c { status := .ok })) ∧
      (s.takes bodyViewClear c = true →
        exec (.viewClear c) s = .next
          ((((s.given c).invalidateView (c.par 0 2)).onConv fun k => { k with views := k.views.erase (c.par 0 2) }).ends
            s.cmd.accepted c { status := .ok })) ∧
      (s.takes bodyWindowSet c = true →
        exec (.windowSet c) s = .next
          ((({ s.given c with addr := { s.addr with
              windows := s.addr.windows.set (word (c.desc 256) 0 0 6) (c.desc 256) } } : State).tidyDests).ends s.cmd.accepted c { status := .ok })) ∧
      (s.takes bodyWindowClear c = true →
        exec (.windowClear c) s = .next
          ((({ s.given c with addr := { s.addr with
              windows := s.addr.windows.erase (c.par 0 1) } } : State).tidyDests).ends s.cmd.accepted c { status := .ok })))

/-- A query whose reply goes to the window's packet buffer puts its record at the start of that buffer, ends OK,
and changes nothing else. One query for each table that has one.

A query whose reply goes to memory writes its record at ADDR, through initiator 64, and ends OK; `State.initWrite` is
the one operation that stores it (row by row, `GranuleFrame` is its frame). -/
def Obligations.QueryCommands : Prop :=
  (∀ (c : Cmd) (s : State),
      (s.takes bodyRegionQuery c = true → c.flag 1 0 = false →
        exec (.regionQuery c) s = .next (s.queryReply c
          (descBytes (match s.region? (c.par 0 1) with | some r => r.shown | none => 0) 48))) ∧
      (s.takes bodyViewQuery c = true → c.flag 2 0 = false →
        exec (.viewQuery c) s = .next (s.queryReply c
          (descBytes (match s.view? (c.par 0 2) with
            | some v => BitVec.ofNat 512 (v.desc.toNat + v.owner * 2 ^ 352)
            | none => (0 : BitVec 512)) 64))) ∧
      (s.takes bodyWindowQuery c = true → c.flag 1 0 = false →
        exec (.windowQuery c) s = .next (s.queryReply c
          (descBytes ((s.addr.windows.find? (c.par 0 1)).getD 0) 32))) ∧
      (s.takes bodyPopQuery c = true → c.flag 2 0 = false →
        exec (.popQuery c) s = .next (s.queryReply c
          (descBytes (match s.pop? c.pop with | some p => p.desc | none => (0 : BitVec 512)) 64 ++
            (s.popStatus c.pop).flatMap (toBytes 4)))) ∧
      (s.takes bodyLinkQuery c = true → c.flag 1 0 = false →
        exec (.linkQuery c) s = .next (s.queryReply c
          (((List.range 10).map (s.linkWord (c.par 0 1)) ++ [s.linkId, 0]).flatMap (toBytes 4)))) ∧
      (s.takes bodyPatchQuery c = true → c.flag 1 0 = false →
        exec (.patchQuery c) s = .next ((s.reached bodyPatchQuery c).queryReply c
          (((List.range 32).map (fun i => s.bankWord (c.par 0 1) (64 + i)) ++
            [s.bankWord (c.par 0 1) 6, s.bankWord (c.par 0 1) 7] ++ List.replicate 6 0).flatMap (toBytes 4)))) ∧
      (s.takes bodyBistQuery c = true → c.flag 1 0 = false →
        exec (.bistQuery c) s = .next ((s.reached bodyBistQuery c).queryReply c
          ((List.range 56).flatMap fun i => toBytes 4 (s.bistWord (c.par 0 1) i)))) ∧
      (s.takes bodyLedgerRead c = true →
        exec (.ledgerRead c) s = .next (s.queryReplyWith c
          ((List.range (c.par 4 1)).flatMap fun i => s.ledgerShown (BitVec.ofNat 32 (c.par 0 4 + i)))
          { status := .ok, result := s.safety.head.toNat }))) ∧
  (∀ (c : Cmd) (s : State),
      (s.takes bodyRegionQuery c = true → c.flag 1 0 = true →
        exec (.regionQuery c) s = .next ((((s.reached bodyRegionQuery c).given c).initWrite (c.par 8 5)
          (descBytes (match s.region? (c.par 0 1) with | some r => r.shown | none => 0) 48)).ends s.cmd.accepted c
            { status := .ok })) ∧
      (s.takes bodyViewQuery c = true → c.flag 2 0 = true →
        exec (.viewQuery c) s = .next ((((s.reached bodyViewQuery c).given c).initWrite (c.par 8 5)
          (descBytes (match s.view? (c.par 0 2) with
            | some v => BitVec.ofNat 512 (v.desc.toNat + v.owner * 2 ^ 352)
            | none => (0 : BitVec 512)) 64)).ends s.cmd.accepted c
            { status := .ok })) ∧
      (s.takes bodyWindowQuery c = true → c.flag 1 0 = true →
        exec (.windowQuery c) s = .next ((((s.reached bodyWindowQuery c).given c).initWrite (c.par 8 5)
          (descBytes ((s.addr.windows.find? (c.par 0 1)).getD 0) 32)).ends s.cmd.accepted c
            { status := .ok })) ∧
      (s.takes bodyPopQuery c = true → c.flag 2 0 = true →
        exec (.popQuery c) s = .next ((((s.reached bodyPopQuery c).given c).initWrite (c.par 8 5)
          (descBytes (match s.pop? c.pop with | some p => p.desc | none => (0 : BitVec 512)) 64 ++
            (s.popStatus c.pop).flatMap (toBytes 4))).ends s.cmd.accepted c
            { status := .ok })) ∧
      (s.takes bodyStallQuery c = true →
        exec (.stallQuery c) s = .next
          ((if c.par 4 2 = 0 then (s.reached bodyStallQuery c).given c
            else ((s.reached bodyStallQuery c).given c).initWrite (c.par 8 5)
              ((if c.flag 1 0 then (s.sub (c.par 0 1)).shd else (s.sub (c.par 0 1)).act).bytes
                (c.par 2 2) (c.par 4 2))).ends s.cmd.accepted c
            { status := .ok
              result := (s.sub (c.par 0 1)).act.len + (s.sub (c.par 0 1)).shd.len * 2 ^ 16 })) ∧
      (s.takes bodyIntegQuery c = true →
        exec (.integQuery c) s = .next
          ((let t := ((s.reached bodyIntegQuery c).given c).initWrite (c.par 8 5) ((s.integRecord (c.par 0 1)).flatMap (toBytes 4))
            if c.flag 1 0 then t.onBank (c.par 0 1) BankInteg.cleared else t).ends s.cmd.accepted c
            { status := .ok })) ∧
      (s.takes bodySettingsRead c = true →
        exec (.settingsRead c) s = .next
          ((((s.reached bodySettingsRead c).given c).initWrite (c.par 8 5) s.settingsShown).ends s.cmd.accepted c
            { status := .ok, result := s.settingsShown.length })))

/-- PRIO_SET, PARK_SET and STARVE_SET write the priority row of an initiator, the park register of a sub-port, and its
starvation bound with both counts back at 0 (R125, R126, R142); no other field of the block changes.

SHARE_SET, URGENCY_SET, LATENCY_SET, BUDGET_SET and POWER_LIMIT_SET write what they name; LATENCY_SET clears both
averages and what the next XCK's boost goes by, a byte budget and a power limit wait for the next window; SHED_QUERY changes nothing. -/
def Obligations.ArbitrationCommands : Prop :=
  (∀ (c : Cmd) (s : State),
      (s.takes bodyPrioSet c = true →
        exec (.prioSet c) s = .next
          ((s.onPort (c.par 0 1) fun p => { p with prio := BitVec.ofNat 32 (c.par 4 4) }).replied c
            { status := .ok })) ∧
      (s.takes bodyParkSet c = true →
        exec (.parkSet c) s = .next
          ((s.onSub (c.par 0 1) fun u =>
            { u with parkInit := BitVec.ofNat 7 (c.par 1 1), parkEn := c.flag 2 0 }).replied c
            { status := .ok })) ∧
      (s.takes bodyStarveSet c = true →
        exec (.starveSet c) s = .next
          ((s.onSub (c.par 0 1) fun u =>
            { u with starveN := c.par 1 1, rd := { u.rd with starve := 0 }
                     wr := { u.wr with starve := 0 } }).replied c { status := .ok }))) ∧
  (∀ (c : Cmd) (s : State),
      (s.takes bodyShareSet c = true →
        exec (.shareSet c) s = .next
          ((s.onPort (c.par 0 1) fun p =>
            { p with qcap := c.par 1 1, wcap := c.par 2 1, tollShare := c.par 3 1 }).replied c { status := .ok })) ∧
      (s.takes bodyUrgencySet c = true →
        exec (.urgencySet c) s = .next
          ((s.onGov fun g => { g with
            bells := g.bells.set (c.par 0 1)
              { (g.bells.get {} (c.par 0 1)) with
                steps := BitVec.ofNat 16 (c.par 1 1 + c.par 2 1 * 16 + c.par 3 1 * 256 + c.par 4 1 * 4096)
                critIrq := c.flag 5 0 } }).replied c { status := .ok })) ∧
      (s.takes bodyLatencySet c = true →
        exec (.latencySet c) s = .next
          ((s.onPort (c.par 0 1) fun p =>
            { p with tgtRd := c.par 2 2, tgtWr := c.par 4 2, latK := c.par 6 1, b75 := c.par 7 1
                     b90 := c.par 8 1, b100 := c.par 9 1, ewmaRd := none, ewmaWr := none
                     ewmaRdPrev := none, ewmaWrPrev := none }).replied c
            { status := .ok })) ∧
      (s.takes bodyBudgetSet c = true →
        exec (.budgetSet c) s = .next
          ((s.onPort (c.par 0 1) fun p => { p with budgetNext := c.par 4 4 / 128 }).replied c { status := .ok })) ∧
      (s.takes bodyPowerLimitSet c = true →
        exec (.powerLimitSet c) s = .next
          ((s.onGov fun g => { g with
            limitNext := some (c.par 0 4, (if c.par 4 1 = 0 then s.gov.limits.2.1 else c.par 4 1),
              (if c.par 5 1 = 0 then s.gov.limits.2.2 else c.par 5 1)) }).replied c { status := .ok })) ∧
      (s.takes bodyShedQuery c = true →
        exec (.shedQuery c) s = .next (s.replied c
          { status := .ok
            result := bit (s.gov.sheds .shares) + bit (s.gov.sheds .latency) * 2 + bit (s.gov.sheds .stalls) * 4 +
              s.gov.level.code * 2 ^ 4 + s.gov.tmax % 256 * 2 ^ 8 + s.gov.qual % 32 * 2 ^ 16 })))

/-- A STALL_LOAD has initiator 64 read its entries as a ring fetch is read (R146); once they have been read, unmarked and
legal, and neither the stall nor the toll check speaks against them, they
are loaded into the shadow copy of its sub-port (R168); a read that failed refuses it (R49). A STALL_SWAP marks every sub-port of its
mask with its swap time and waits (R147). -/
def Obligations.StallCommands : Prop :=
  ∀ (c : Cmd) (s : State),
    (s.takes bodyStallLoad c = true →
      exec (.stallLoad c) s = .next ((s.fetching bodyStallLoad c (c.par 8 5) (4 * c.par 4 2)).carryOn)) ∧
    (∀ (w : Waiting) (id : Nat) (rest : List Waiting) (rs : List Resp),
      c.op = 0x200 → w.cmd = c → w.why = .reading id → s.cmd.waiting = w :: rest → s.acceptOne = none →
      s.asked id = some rs →
        let t := (s.takeAnswers id).onCmd fun k => { k with waiting := k.waiting.filter (fun x => x.token != w.token) }
        let bs := gotOf rs (c.par 8 5) (4 * c.par 4 2)
        let k := (s.sub (c.par 0 1)).shd.load (c.par 2 2) (c.par 4 2) (c.par 6 2) bs.bytes
        let book := { t.book with copy := fun m sh => if m = c.par 0 1 ∧ sh then k else t.book.copy m sh }
        (∀ st, answerFault rs = some st →
          s.settleOne = some (t.refuse w.token c { status := st, refused := some (c.par 8 5) })) ∧
        (answerFault rs = none → t.judgment bodyStallLoad w.token w.half.isSome (some w.why) c = none →
          bs.marked = [] → (List.range (c.par 4 2)).all (fun i => stallEntryOk s.cfg (entryAt bs.bytes i)) = true →
          book.checkStalls = none → book.checkTolls = none →
            s.settleOne = some ((((t.onSub (c.par 0 1) fun u => { u with shd := k }).reckon).finish w.token c
              { status := .ok })))) ∧
    (s.takes bodyStallSwap c = true →
      exec (.stallSwap c) s = .next
        (((swapMask c).foldl (fun t n => t.onSub n fun u =>
            { u with swapAt := some (u.swapTime s.clock.xck (c.par 8 1 == 1), s.cmd.accepted)
                     swapping := some s.cmd.accepted })
          (s.given c)).await s.cmd.accepted c none .ownSwap))

/-- An ADMIT has initiator 64 read its records as a ring fetch is read (R164). Records that have been read, unmarked, and that are
sound and pass the checks of R165 are admitted as a whole set, with the targets and the
GUARDED marks that follow (R166); a read that failed refuses it (R49); GUARANTEE_RELEASE removes the one that it names (R169). -/
def Obligations.AdmissionCommands : Prop :=
  ∀ (c : Cmd) (s : State),
    (s.takes bodyAdmit c = true →
      exec (.govAdmit c) s = .next ((s.fetching bodyAdmit c (c.par 0 5) (32 * c.par 8 2)).carryOn)) ∧
    (∀ (w : Waiting) (id : Nat) (rest : List Waiting) (rs : List Resp),
      c.op = 0x230 → w.cmd = c → w.why = .reading id → s.cmd.waiting = w :: rest → s.acceptOne = none →
      s.asked id = some rs →
        let t := (s.takeAnswers id).onCmd fun k => { k with waiting := k.waiting.filter (fun x => x.token != w.token) }
        let bs := gotOf rs (c.par 0 5) (32 * c.par 8 2)
        let set := (List.range (c.par 8 2)).map (recordAt bs.bytes)
        (∀ st, answerFault rs = some st →
          s.settleOne = some (t.refuse w.token c { status := st, refused := some (c.par 0 5) })) ∧
        (answerFault rs = none → t.judgment bodyAdmit w.token w.half.isSome (some w.why) c = none →
          bs.marked = [] → setBad s.cfg s.gov.guarantees set = none →
          ({ t.book with admitted := s.gov.guarantees, set := set } : Book).check = none →
            s.settleOne = some ((t.admitRecords set).finish w.token c { status := .ok }))) ∧
    (s.takes bodyGuaranteeRelease c = true →
      exec (.guaranteeRelease c) s = .next (((s.given c).releaseGuarantee (c.par 0 2)).ends s.cmd.accepted c { status := .ok }))

/-- VIEW_STATS. Without ADVANCE it completes at once: it gives the statistics record of a view, in the window's packet buffer or in
memory, does the actions that its flags name, and ends OK; one that asks for the record alone changes nothing but the window.
With ADVANCE it ends the epoch in force and waits until that epoch settles (R220). -/
def Obligations.ViewStatsCommand : Prop :=
  ∀ (c : Cmd) (s : State), s.takes bodyViewStats c = true →
    (∀ v, s.view? (c.par 0 2) = some v → c.flag 2 1 = false →
      exec (.viewStats c) s = .next
        (let t := ((s.reached bodyViewStats c).given c).reply c (c.flag 2 0) (c.par 8 5)
           ((v.stats (c.par 0 2)).flatMap (toBytes 4))
         let u := if c.flag 2 2 then t.onView (c.par 0 2) fun v =>
           { v with samples := 0, sse := 0, sigsq := 0, rdSat := 0, actions := 0 } else t
         let w := if c.flag 2 4 then u.onView (c.par 0 2) fun v =>
           { v with dscale := seedScale v.desc, dzp := 0 } else u
         (if c.flag 2 3 then w.invalidateView (c.par 0 2) else w).ends s.cmd.accepted c { status := .ok })) ∧
    (∀ v, s.view? (c.par 0 2) = some v →
      c.flag 2 0 = false → c.flag 2 1 = false → c.flag 2 2 = false → c.flag 2 3 = false → c.flag 2 4 = false →
      exec (.viewStats c) s = .next (s.queryReply c ((v.stats (c.par 0 2)).flatMap (toBytes 4)))) ∧
    (c.flag 2 1 = true →
      exec (.viewStats c) s = .next
        (((((s.reached bodyViewStats c).given c).onView (c.par 0 2) (·.reachEnd s.clock.xck)).await s.cmd.accepted c s.holder
          (.settle (c.par 0 2)
            (match s.view? (c.par 0 2) with | some v => v.cur.count.toNat | none => 0)))))

/-! ### Folds and populations by command (08, 09) -/

/-- FOLD_MAP writes the map of one context; FOLD_CREATE takes the lowest free fold of its home cluster and enters it;
FOLD_DESTROY, FOLD_ARM and FOLD_QUERY act on the fold that the context's map translates to. FOLD_OP enters the queue of its
fold unit in its place, what stands before it is applied, and then it is (R266; that all this happens in its step is log entry
60). -/
def Obligations.FoldCommands : Prop :=
  ∀ (c : Cmd) (s : State),
    (s.takes bodyFoldMap c = true →
      exec (.foldMap c) s = .next
        ((s.onFolds fun u => { u with
          maps := u.maps.set (c.par 0 2)
            { en := c.flag 6 0, base := BitVec.ofNat 15 (c.par 2 2)
              limit := BitVec.ofNat 15 (c.par 4 2) } }).replied c { status := .ok })) ∧
    (∀ e i, s.takes bodyFoldCreate c = true → s.foldEntry c.ctx (c.par 0 2) = some e →
      s.freeIndex (s.foldHome c) = some i →
      exec (.foldCreate c) s = .next
        ((((s.reached bodyFoldCreate c).onFold (s.foldHome c * 2048 + i) fun _ => newFold c e).onFolds fun u =>
          { u with entries := u.entries.set e (s.foldHome c * 2048 + i) }).replied c { status := .ok })) ∧
    (∀ k, s.takes bodyFoldDestroy c = true → s.foldOf c = some k →
      exec (.foldDestroy c) s = .next ((((s.reached bodyFoldDestroy c).given c).foldDestroy k).ends s.cmd.accepted c { status := .ok })) ∧
    (∀ k, s.takes bodyFoldArm c = true → s.foldOf c = some k →
      exec (.foldArm c) s = .next
        ((((s.reached bodyFoldArm c).onFold k fun f => f.arm (c.par 4 4) (c.par 8 4)).satisfy k).replied c
          { status := .ok })) ∧
    (∀ k, s.takes bodyFoldQuery c = true → s.foldOf c = some k →
      exec (.foldQuery c) s = .next ((s.reached bodyFoldQuery c).replied c
        { status := .ok, result := (s.fold k).value.toNat
          detail := (s.fold k).state.code + bit (s.fold k).tally * 8 + bit (s.fold k).satHi * 16 +
            bit (s.fold k).satLo * 32 + bit (s.fold k).deficitSat * 64 })) ∧
    (∀ k, s.takes bodyFoldOp c = true → s.foldOf c = some k →
      exec (.foldOp c) s = .next
        (let o : FoldOp :=
          { origin := .cmd s.cmd.accepted, op := c.par 2 1, value := c.par 4 4, cluster := k / 2048
            index := k % 2048, ctx := c.ctx, rank := 2 ^ 64 + s.cmd.accepted }
         let x := (((s.reached bodyFoldOp c).given c).foldTurn o s.cmd.accepted).foldApply o
         x.2.2.ends s.cmd.accepted c { status := x.1, result := x.2.1.toNat })) ∧
    (s.takes bodyFoldDump c = true →
      exec (.foldDump c) s = .next
        ((s.deferred bodyFoldDump c).onFolds fun u =>
          { u with dumps := u.dumps ++ [{ token := s.cmd.accepted, cmd := c }] }))

/-- POP_SET, POP_CLEAR, POP_UNTAINT and EVROUTE_SET write one entry of the population or the route table (R241, R249,
R252).

POP_STAGE of a population that is not staged allocates its buffer rows and begins the copy; POP_UNSTAGE of a staged
one begins the copy back; the other two end OK at once; a STEP whose tag is the population's P marks it as running and begins
with the route of that moment, and one with another tag ends STEP_RANGE with P (R232, R233, R250, R252). -/
def Obligations.EngineCommands : Prop :=
  (∀ (c : Cmd) (s : State),
      (s.takes bodyPopSet c = true →
        exec (.popSet c) s = .next
          ((s.onEng fun e => { e with
            pops := e.pops.set (word (c.desc 512) 0 0 12)
              { desc := c.desc 512, owner := c.ctx
                p := BitVec.ofNat 32 (word (c.desc 512) 10 0 32) } }).replied c { status := .ok })) ∧
      (s.takes bodyPopClear c = true →
        exec (.popClear c) s = .next
          ((s.onEng fun e => { e with pops := e.pops.erase c.pop }).replied c { status := .ok })) ∧
      (s.takes bodyPopUntaint c = true →
        exec (.popUntaint c) s = .next
          ((s.onPop c.pop fun p => { p with tainted := false }).replied c { status := .ok })) ∧
      (s.takes bodyEvrouteSet c = true →
        exec (.evrouteSet c) s = .next
          ((s.onEng fun e => { e with
            routes := e.routes.set c.pop
              { vport := BitVec.ofNat 2 (c.bits 2 0 2), en := c.flag 2 2, graded := c.flag 2 3
                dest := BitVec.ofNat 12 (c.par 4 2) } }).replied c { status := .ok }))) ∧
  (∀ (c : Cmd) (s : State) (p : Pop), s.pop? c.pop = some p →
      (s.takes bodyPopStage c = true →
        exec (.popStage c) s = .next
          (if p.staged then (s.reached bodyPopStage c).replied c { status := .ok }
           else ((banksIn (s.popPlaces p.desc)).foldl (fun s b => s.onEng fun e =>
              { e with abuf := e.abuf.modify [] (s.slotOf b) (allocRows c.pop (rowsIn (s.popPlaces p.desc) b)) })
              ((s.reached bodyPopStage c).deferred bodyPopStage c)).beginStaging s.cmd.accepted c false)) ∧
      (s.takes bodyPopUnstage c = true →
        exec (.popUnstage c) s = .next
          (if p.staged then ((s.reached bodyPopUnstage c).deferred bodyPopUnstage c).beginStaging s.cmd.accepted c true
           else (s.reached bodyPopUnstage c).replied c { status := .ok })) ∧
      (s.takes bodyStep c = true → p.p ≠ BitVec.ofNat 32 (c.par 4 4) →
        exec (.step c) s = .next
          ((s.reached bodyStep c).replied c { status := .stepRange, result := p.p.toNat })) ∧
      (s.takes bodyStep c = true → p.p = BitVec.ofNat 32 (c.par 4 4) →
        exec (.step c) s = .next
          ((((s.reached bodyStep c).deferred bodyStep c).onPop c.pop fun p => { p with running := true }).onEng fun e =>
            { e with steps := e.steps ++
              [{ pop := c.pop, token := s.cmd.accepted, cmd := c, tag := BitVec.ofNat 32 (c.par 4 4)
                 route := s.eng.routes.get {} c.pop }] })))

/-! ### The Drover, links, integrity and self-test by command (02, 10, 11, 12) -/

/-- The Drover's commands wait in its queue with the job counter's number and what they hold (R53, R70, R71); DRV_CANCEL
stops the job that it names; DRV_QUERY reports its progress (R74).

BIST_RUN puts its slot in TESTING and begins the test; PEN_BANK evacuates its bank to the spare, retires it where the
cluster has no spare, or tests the penned slot again (R349, R353, R358). -/
def Obligations.DroverAndTestCommands : Prop :=
  (∀ (c : Cmd) (s : State),
      (s.takes bodyDrvFill c = true →
        exec (.drvFill c) s = .next ((s.deferred bodyDrvFill c).queueJob
          { id := 0, kind := .fill, who := some (s.cmd.accepted, c), ctx := c.ctx, dst := fillDst c, len := fillLen c
            pattern := c.par 12 4 })) ∧
      (s.takes bodyDrvCopy c = true →
        exec (.drvCopy c) s = .next ((s.deferred bodyDrvCopy c).queueJob (cpJob .copy s.cmd.accepted c))) ∧
      (s.takes bodyDrvConvert c = true →
        exec (.drvConvert c) s = .next ((s.deferred bodyDrvConvert c).queueJob (cpJob .convert s.cmd.accepted c))) ∧
      (s.takes bodyDrvEvacuate c = true →
        exec (.drvEvacuate c) s = .next (((s.reached bodyDrvEvacuate c).deferred bodyDrvEvacuate c).queueJob
          { id := 0, kind := .evacuate, who := some (s.cmd.accepted, c), ctx := c.ctx, cluster := c.par 0 1
            bank := c.par 1 1 })) ∧
      (∀ j, s.takes bodyDrvCancel c = true → s.job? (c.par 0 2) = some j →
        exec (.drvCancel c) s = .next (((s.given c).stopJob j .abandoned).ends s.cmd.accepted c { status := .ok })) ∧
      (∀ j, s.takes bodyDrvQuery c = true → s.job? (c.par 0 2) = some j →
        exec (.drvQuery c) s = .next (s.replied c { status := .ok, result := s.jobDone j }))) ∧
  (∀ (c : Cmd) (s : State),
      (s.takes bodyBistRun c = true →
        exec (.bistRun c) s = .next
          ((((s.reached bodyBistRun c).deferred bodyBistRun c).onSlot (17 * c.par 0 1 + c.par 1 1) fun l =>
              { l with state := .testing }).onCtest (c.par 0 1) fun t =>
            { t with run := some { slot := c.par 1 1, test := c.par 2 1, next := none, began := s.bck
                                   who := some (s.cmd.accepted, c) }
                     test := BitVec.ofNat 3 (c.par 2 1), slot := BitVec.ofNat 5 (c.par 1 1) })) ∧
      (s.takes bodyPenBank c = true → penAgain c = false → (s.spareOf (c.par 0 1)).isSome = true →
        exec (.penBank c) s = .next (((s.reached bodyPenBank c).deferred bodyPenBank c).queueJob
          { id := 0, kind := .evacuate, who := some (s.cmd.accepted, c), ctx := c.ctx, cluster := c.par 0 1
            bank := c.par 1 1, test := some (c.par 2 1) })) ∧
      (s.takes bodyPenBank c = true → penAgain c = false → s.spareOf (c.par 0 1) = none →
        exec (.penBank c) s = .next
          ((((s.reached bodyPenBank c).deferred bodyPenBank c).bankOut (16 * c.par 0 1 + c.par 1 1)).ends s.cmd.accepted c
            (bistResult 3 (s.lbank (16 * c.par 0 1 + c.par 1 1)).slot none))) ∧
      (∀ slot, s.takes bodyPenBank c = true → penAgain c = true → s.pennedOf (c.par 0 1) = some slot →
        exec (.penBank c) s = .next
          (((s.reached bodyPenBank c).deferred bodyPenBank c).startTest (c.par 0 1) slot (firstTest (c.par 2 1)).1 (firstTest (c.par 2 1)).2
            (some (s.cmd.accepted, c)))))

/-- CHIP_ID_SET, EPOCH_SET and RETRY_SET write the link registers that they name; LINK_RESET discards what its port
holds, marks what it has sent, clears its counters and waits (R291, R292, R306, R309).

SCRUB_SET writes the scrubber of each bank in service that it names; PATCH_SET installs or removes an entry with the copy of
R330; LANE_RETIRE retires a lane, does nothing for a lane that is retired, or returns one to service; FLIP_ARM and
FLIP_MASK_SET write the flip mask of a cluster (R320, R322, R329, R334, R340). -/
def Obligations.LinkAndIntegrityCommands : Prop :=
  (∀ (c : Cmd) (s : State),
      (s.takes bodyChipIdSet c = true →
        exec (.chipIdSet c) s = .next
          (((s.given c).chipIdSet (c.par 0 2) (BitVec.ofNat 4 (c.bits 2 0 4))).ends s.cmd.accepted c
            { status := .ok })) ∧
      (s.takes bodyEpochSet c = true →
        exec (.epochSet c) s = .next
          ((s.onLinks fun l => { l with epoch := c.flag 0 0, acceptBoth := c.flag 0 1 }).replied c
            { status := .ok })) ∧
      (s.takes bodyRetrySet c = true →
        exec (.retrySet c) s = .next
          ((s.onLink (c.par 0 1) fun l => { l with limit := c.par 1 1, interval := c.par 2 2 }).replied c
            { status := .ok })) ∧
      (s.takes bodyLinkReset c = true →
        exec (.linkReset c) s = .next
          (((s.deferred bodyLinkReset c).beginLinkReset (c.par 0 1) s.cmd.accepted c).carryOn))) ∧
  (∀ (c : Cmd) (s : State),
      (s.takes bodyScrubSet c = true →
        exec (.scrubSet c) s = .next
          ((((clusterField c s).flatMap fun k =>
              ((List.range 16).filter (fun b => bitOf (c.par 2 2) b)).map (fun b => 16 * k + b)).foldl
            (fun t g => t.onBank g fun b =>
              { b with scrubEn := c.flag 4 0, interval := BitVec.ofNat 24 (c.par 8 4)
                       lapPartial := b.lapPartial || (c.flag 4 0 && !b.scrubEn) }) ((s.reached bodyScrubSet c).given c)).ends s.cmd.accepted c
            { status := .ok })) ∧
      (s.takes bodyPatchSet c = true →
        exec (.patchSet c) s = .next
          ((if c.flag 6 0 then
              ((s.reached bodyPatchSet c).given c).installPatch (c.par 0 1) (c.par 1 1)
                (patchEntry (c.par 2 2) (c.par 4 1) (c.par 5 1))
            else ((s.reached bodyPatchSet c).given c).removePatch (c.par 0 1) (c.par 1 1)).ends s.cmd.accepted c { status := .ok })) ∧
      (s.takes bodyLaneRetire c = true →
        exec (.laneRetire c) s = .next
          ((if c.flag 2 0 then
              (s.reached bodyLaneRetire c).onBank (c.par 0 1) fun b =>
                if b.ret0 = some (c.par 1 1) then { b with ret0 := b.ret1, ret1 := none }
                else if b.ret1 = some (c.par 1 1) then { b with ret1 := none }
                else b
            else if (s.retired (c.par 0 1)).contains (c.par 1 1) then s.reached bodyLaneRetire c
            else (s.reached bodyLaneRetire c).retireLane (c.par 0 1) (c.par 1 1)).replied c { status := .ok })) ∧
      (s.takes bodyFlipArm c = true →
        exec (.flipArm c) s = .next
          (((s.reached bodyFlipArm c).onCtest (c.par 0 1) fun t =>
            { t with flipMask := BitVec.ofNat 288 (c.par 4 36)
                     flipHit := if BitVec.ofNat 288 (c.par 4 36) = 0 then t.flipHit else false }).replied c
            { status := .ok })) ∧
      (s.takes bodyFlipMaskSet c = true →
        exec (.flipMaskSet c) s = .next
          (((s.reached bodyFlipMaskSet c).onCtest (c.par 0 1) fun t =>
            { t with flipMask := BitVec.ofNat 288 (c.par 4 36)
                     flipHit := if BitVec.ofNat 288 (c.par 4 36) = 0 then t.flipHit else false }).replied c
            { status := .ok })))

/-! ### Power, time, firmware and safety by command (13, 14, 15) -/

/-- OPPOINT_SET to the point in force and PWR_QUERY change nothing; OPPOINT_SET to the other point begins the sequence of
Table 13-6; PWR_STATE_SET asks its clusters, or the block, to stop or wakes them; IDLE_TIMER_SET sets an idle timer and
restarts its count (R364, R370, R371, R378).

TSYNC_CFG, WAKE_AIN_CFG and TIMER_WAKE_SET write what they name; TIME_QUERY changes nothing (R379, R380, R382, R385).
TIME_SET has its own statement. -/
def Obligations.PowerAndTimeCommands : Prop :=
  (∀ (c : Cmd) (s : State),
      (s.takes bodyPwrStateSet c = true →
        exec (.pwrStateSet c) s = .next
          (((s.given c).pwrStateSet c).ends s.cmd.accepted c
            { status := .ok, result := (s.given c).refuserBits })) ∧
      (s.takes bodyIdleTimerSet c = true →
        exec (.idleTimerSet c) s = .next
          ((if c.par 0 1 = 0xFE then (s.given c).onPower fun p => { p with ticks := c.par 4 4, count := 0 }
            else (timerClusters c (s.given c)).foldl
              (fun t k => t.onCpower k fun p => { p with ticks := c.par 4 4, count := 0 }) (s.given c)).ends
            s.cmd.accepted c { status := .ok })) ∧
      (s.takes bodyOppointSet c = true →
        exec (.oppointSet c) s = .next
          (if (c.par 0 1 == 1) = s.power.eco then s.replied c { status := .ok }
           else ((s.deferred bodyOppointSet c).beginOpp s.cmd.accepted c (c.par 0 1 == 1)).carryOn)) ∧
      (s.takes bodyPwrQuery c = true →
        exec (.pwrQuery c) s = .next (s.replied c { status := .ok, result := s.pwrState }))) ∧
  (∀ (c : Cmd) (s : State),
      (s.takes bodyTimeQuery c = true →
        exec (.timeQuery c) s = .next (s.replied c
          { status := .ok, detail := bit s.time.extrapolated + bit s.time.locked * 2 + bit s.time.unset * 4
            result := bitsOf s.now.toNat 0 32 })) ∧
      (s.takes bodyTsyncCfg c = true →
        exec (.tsyncCfg c) s = .next
          ((s.onTime fun t =>
            { t with mode := c.par 0 1, stepEn := c.flag 1 0, period := c.par 2 2, slewMax := c.par 4 2
                     lockNs := c.par 6 2, delay := c.par 8 2, good := 0, locked := false
                     lastPulse := t.advance, outHigh := if c.par 0 1 = 1 then t.outHigh else 0 }).replied c { status := .ok })) ∧
      (s.takes bodyWakeAinCfg c = true →
        exec (.wakeAinCfg c) s = .next
          ((s.onPower fun p => { p with ain :=
            { p.ain with en := c.flag 0 0, pol := c.flag 0 1, irq := c.flag 0 2, thresh := c.par 2 2
                         hyst := c.par 4 1, clusters := BitVec.ofNat 8 (c.par 5 1), debounce := c.par 6 2
                         armed := true } }).replied c { status := .ok })) ∧
      (s.takes bodyTimerWakeSet c = true →
        exec (.timerWakeSet c) s = .next
          ((s.onTimer (c.par 0 1) fun _ =>
            { target := BitVec.ofNat 64 (c.par 8 8), en := c.flag 1 0, setAt := s.clock.acks }).replied c
            { status := .ok })))

/-- FW_QUERY reports FW_IMG_STATE; ACTIVATE_AT waits for its time; HEALTH_OK confirms a trial;
CONFIRM_WINDOW_SET sets the window; SETTINGS_DEFAULT writes a record of defaults that keeps the boot count and the repair
entries; SETTINGS_WRITE writes the record that it reads, where it is good, and ends INTERNAL with the record in force kept where
FLASH fails, which is the device's: a free value (R422 to R433, log entry 68).

The commands of the safety sequencer. SAFE_HOLD_EXIT changes nothing out of Safe Hold, ends NOT_READY while a
condition of R408 fails, and leaves Safe Hold otherwise; HALF_RESET begins the reset of a half; CROOK_ASSIGN names
a holder; SAFETY_CFG sets a reaction, the watchdogs, or Safe Hold; LIFECYCLE_SET counts a wrong RMA code, and moves the
lifecycle otherwise (R401 to R414). -/
def Obligations.FirmwareAndSafetyCommands : Prop :=
  (∀ (c : Cmd) (s : State),
      (s.takes bodyFwQuery c = true →
        exec (.fwQuery c) s = .next (s.replied c { status := .ok, result := s.imgState })) ∧
      (s.takes bodyActivateAt c = true →
        exec (.activateAt c) s = .next
          ((s.deferred bodyActivateAt c).onFw fun w => { w with
            pendingAct := some { slot := c.par 0 1, target := BitVec.ofNat 64 (c.par 8 8)
                                 cmd := some (s.cmd.accepted, c) } })) ∧
      (s.takes bodyHealthOk c = true →
        exec (.healthOk c) s = .next (((s.given c).confirm).ends s.cmd.accepted c { status := .ok })) ∧
      (s.takes bodyConfirmWindowSet c = true →
        exec (.confirmWindowSet c) s = .next
          ((s.onFw fun w => { w with window := c.par 0 2 }).replied c { status := .ok })) ∧
      (s.takes bodySettingsDefault c = true →
        exec (.settingsDefault c) s = .next
          (((s.given c).writeSettings (withRepairs (defaultItems s.cfg) s.fw.items.bootCount s.fw.items.repairs)).ends
            s.cmd.accepted c { status := .ok })) ∧
      (s.takes bodySettingsWrite c = true →
        let got := (((s.reached bodySettingsWrite c).given c).initRead (c.par 8 5) (c.par 0 4)).1
        let t := (((s.reached bodySettingsWrite c).given c).initRead (c.par 8 5) (c.par 0 4)).2
        got.marked = [] → t.settingsGood got.bytes = true →
          exec (.settingsWrite c) s = .next
            (if bitOf t.draw.1.toNat 0 then t.draw.2.failSettings.ends s.cmd.accepted c { status := .internal }
             else
              let u := (t.draw.2.writeSettings (got.bytes.drop 32)).onFw fun w =>
                { w with items := { w.items with repairs := (itemsOf (got.bytes.drop 32)).repairs } }
              (u.fw.items.repairs.foldl State.installRepair u).ends s.cmd.accepted c { status := .ok }))) ∧
  (∀ (c : Cmd) (s : State),
      (s.takes bodySafeHoldExit c = true →
        exec (.safeHoldExit c) s = .next
          (if s.safety.hold = false then s.replied c { status := .ok }
           else if (s.given c).holdReasons ≠ 0 then
            s.replied c { status := .notReady, detail := s.fw.state.code, result := (s.given c).holdReasons }
           else (s.given c).leaveHold.ends s.cmd.accepted c { status := .ok })) ∧
      (s.takes bodyHalfReset c = true →
        exec (.halfReset c) s = .next (((s.given c).beginHalfReset (halfField c) s.cmd.accepted c).carryOn)) ∧
      (s.takes bodyCrookAssign c = true →
        exec (.crookAssign c) s = .next
          (((s.given c).nameHolder (halfField c)).ends s.cmd.accepted c { status := .ok })) ∧
      (s.takes bodySafetyCfg c = true →
        exec (.safetyCfg c) s = .next
          (if c.par 0 1 = 0 then
            ((s.given c).setReaction (c.par 1 1) (c.par 2 1)).ends s.cmd.accepted c { status := .ok }
           else if c.par 0 1 = 1 then
            (s.onSafety fun y =>
              { y with wdogMs := c.par 2 2, wdogEn := c.flag 4 0, wdogA := s.worked, wdogB := s.worked }).replied c
              { status := .ok }
           else ((s.given c).enterHold 0).ends s.cmd.accepted c { status := .ok })) ∧
      (s.takes bodyLifecycleSet c = true →
        exec (.lifecycleSet c) s = .next
          (if s.safety.lifecycle = 2 ∧ c.par 0 1 = 3 ∧ BitVec.ofNat 32 (c.par 4 4) ≠ s.fw.otp.rmaCode then
            (s.onSafety fun y => { y with fails := y.fails + 1 }).replied c { status := .perm }
           else ((s.given c).lifecycleSet (c.par 0 1)).ends s.cmd.accepted c { status := .ok })))

/-! ### Requests and beats at the ports (04) -/

/-- A request crosses the channel of a port that can take it and goes as far as R115, R119, R120 and R123 let it; `pump`
is that progress and `converted` what follows: the block has a wake (R373), and in a block that serves the command interface goes
on by itself (R40; that the beats of a request leave the write-data buffer as it is accepted is log entry 64). One clause for each value of OP. A request of another OP changes nothing under the row's name (log
entry 4).

A write-data beat enters its port's buffer; one whose parity fails is counted and reported besides, and the port
stays in service (R106, R128). A response, WAKE messages first, crosses to the integrator with the header and the parity of
R108 and R129 and leaves its place (R111, R122). A FENCE whose covered writes are complete is answered (R119). -/
def Obligations.PortRows : Prop :=
  (∀ (p : Nat) (r : ReqWord) (s : State), p < 56 → s.portOpen p = true → s.fifoRoom p = true → s.reqHeld p = false →
      (s.port p).resetting = none →
      let t := ((s.onPort p fun x => { x with fifo := x.fifo ++ [{ req := r }] }).pump p).converted
      (rqOp r.word = 0 → exec (.nopRequest p r) s = .next t) ∧
      (rqOp r.word = 1 → exec (.rd p r) s = .next t) ∧
      (rqOp r.word = 2 → exec (.wr p r) s = .next t) ∧
      (rqOp r.word = 3 → exec (.wrm p r) s = .next t) ∧
      (rqOp r.word = 4 → exec (.acc p r) s = .next t) ∧
      (rqOp r.word = 5 → exec (.foldRequest p r) s = .next t) ∧
      (rqOp r.word = 6 → exec (.fence p r) s = .next t) ∧
      (rqOp r.word = 7 → exec (.cmdRequest p r) s = .next t)) ∧
  (∀ (p : Nat) (s : State),
      (∀ b : WBeat, p < 56 → s.portOpen p = true → (s.port p).wd.length < wdSize p → (s.port p).resetting = none →
        b.badCtl = false → b.badBytes = 0 →
        exec (.writeDataBeat p b) s = .next (((s.onPort p fun q => { q with wd := q.wd ++ [b] }).pump p).converted)) ∧
      (∀ b : WBeat, p < 56 → s.portOpen p = true → (s.port p).wd.length < wdSize p → (s.port p).resetting = none →
        b.badCtl = true ∨ b.badBytes ≠ 0 →
        exec (.writeDataBeat p b) s = .next
          ((((((s.onPort p fun q => { q with wd := q.wd ++ [b] }).onPort p fun q =>
              { q with wdPar := satAdd 0xFF q.wdPar 1 }).onXbar fun x =>
                { x with irq := setBit x.irq 1, parSource := BitVec.ofNat 7 p, parKind := 1 }).onSafety fun y =>
              { y with reports := y.reports ++ [{ code := 0x02, port := p }] }).pump p).converted)) ∧
      (∀ w, s.portLive p = true → p < 64 → (s.port p).wakeReady = some w →
        exec (.responseTransfer p) s = .next
          ((((s.onPort p fun q => { q with wakes := q.wakes.erase w, out := some w, wire := some w.bits }).onFolds fun u =>
            { u with slots := u.slots.modify [] p (·.erase (w.token.toNat % 128)) }).pump p).settle)) ∧
      (∀ r rest, s.portLive p = true → p < 64 → (s.port p).wakeReady = none → (s.port p).resp = r :: rest →
        exec (.responseTransfer p) s = .next
          (((s.onPort p fun q => { q with resp := rest, out := some r, wire := some r.bits }).pump p).settle)) ∧
      (∀ o, s.ready = true → s.outst? o.id = some o → o.plan = .fence → o.sent = true →
        (∀ k ∈ o.covers, s.outst? k = none) →
        exec (.fenceComplete o.id) s = .next
          (((s.answer o (if o.lost then .remoteLost else .ok) 0).pump o.port).settle)))

/-- A NOP at an idle port of a quiet block is answered from the ingress: OK with its tag where its context is in the
port's range, and nothing but the port's responses and the request counter changes (R110). -/
def Obligations.NopAnswered : Prop :=
  ∀ (p : Nat) (r : ReqWord) (s : State),
    s.quiet = true → p < 56 → s.portOpen p = true → (s.port p).resetting = none → rqOp r.word = 0 → r.good = true →
    (s.port p).fifo = [] → s.xbar.outst = [] → (s.port p).parityHold = false → (s.port p).allows (rqCtx r.word) = true →
      exec (.nopRequest p r) s = .next
        ((s.onPort p fun q =>
            { q with resp := q.resp ++ [{ tag := rqTag r.word, status := .ok, token := 0, req := s.xbar.nextReq }] }).onXbar
          fun x => { x with nextReq := x.nextReq + 1 })

/-- A request whose parity fails, at a quiet block and an idle port, is discarded whatever its fields: the port enters
PARITY_HOLD, the error is counted, REQ_PAR rises and the safety partition gets the report; nothing is answered and nothing
else changes (R127). The row that presents it is the one of the OP that its word shows. -/
def Obligations.RequestParityFault : Prop :=
  ∀ (p : Nat) (r : ReqWord) (s : State),
    s.quiet = true → p < 56 → s.portOpen p = true → (s.port p).resetting = none → r.good = false → (s.port p).fifo = [] →
    s.xbar.outst = [] →
      let t := (((s.onPort p fun q => { q with parityHold := true, reqPar := satAdd 0xFF q.reqPar 1 }).onXbar fun x =>
          { x with irq := setBit x.irq 0, parSource := BitVec.ofNat 7 p, parKind := 0 }).onSafety fun y =>
            { y with reports := y.reports ++ [{ code := 0x01, port := p }] })
      (rqOp r.word = 0 → exec (.nopRequest p r) s = .next t) ∧
      (rqOp r.word = 1 → exec (.rd p r) s = .next t) ∧
      (rqOp r.word = 2 → exec (.wr p r) s = .next t) ∧
      (rqOp r.word = 3 → exec (.wrm p r) s = .next t) ∧
      (rqOp r.word = 4 → exec (.acc p r) s = .next t) ∧
      (rqOp r.word = 5 → exec (.foldRequest p r) s = .next t) ∧
      (rqOp r.word = 6 → exec (.fence p r) s = .next t) ∧
      (rqOp r.word = 7 → exec (.cmdRequest p r) s = .next t)

/-! ### The crossbar and the banks (01, 04, 05) -/

/-- The next piece of an initiator on its path to a sub-port enters the queue, with the XCK and the place in order of its
acceptance, where its share has room, fewer than four have entered in this XCK and no other piece that could enter goes first
(R155; that the order of arrival holds among reserves too is the model's, log entry 39); a park pointer is set where the queue was
empty (R126), and the request counts as accepted with its last piece (R115). Initiator 64 stands also for the dispatcher of the cluster
(R245).

A decision for a sub-port settles both of its sides in one XCK, each from what stood before it (R136, R154); once in an XCK for
each side; a side whose lockstep pair has disagreed grants nothing in that XCK (R394; that the initiator granted last of the two sides
is the write side's is log entry 48). -/
def Obligations.SubportRows : Prop :=
  (∀ (p q n : Nat) (x : Piece) (s : State),
      s.ready = true → s.cfg.hasSubport n = true → p < 65 →
      q = p ∧ (p ≠ 64 ∨ (s.atQueue 64 n).isSome = true) ∨ p = 64 ∧ s.atQueue 64 n = none ∧ q = 65 + n / 8 →
      s.atQueue q n = some x → s.inRun (n / 8) = true → (s.sub n).unusable = false → s.queueTakes n x.port = true →
      s.firstIn n x = true → ((s.sub n).acceptXck ≠ s.clock.xck ∨ (s.sub n).acceptNum < 4) →
        let t := ((s.onPort q fun r => { r with pieces := r.pieces.erase x }).onSub n fun u =>
            { (if u.queue.isEmpty then u.parked else u) with
              queue := u.queue ++ [{ x with queuedAt := s.clock.xck, seq := s.xbar.nextSeq }]
              acceptXck := s.clock.xck
              acceptNum := if u.acceptXck = s.clock.xck then u.acceptNum + 1 else 1 }).onXbar fun r =>
                { r with nextSeq := r.nextSeq + 1 }
        let u := if x.kind = .entry then t else t.noteAccepted x.req
        exec (.pieceQueueAccept p n) s = .next
          ((match u.outst? x.req with | some o => u.pump o.port | none => u).settle)) ∧
  (∀ (n : Nat) (s : State),
      s.ready = true → s.cfg.hasSubport n = true → s.inRun (n / 8) = true → (s.sub n).unusable = false →
      (s.sub n).rd.decided ≠ s.clock.xck + 1 →
        let t := s.clock.xck
        let rd := if (s.sub n).rd.muted then s.onSub n fun u => { u with rd := { u.rd with muted := false, decided := t + 1 } }
          else s.grantSide n true t (s.choice n true t)
        ((s.sub n).wr.muted = false →
          exec (.subportGrant n) s = .next ((rd.grantSide n false t (s.choice n false t)).settle)) ∧
        ((s.sub n).wr.muted = true →
          exec (.subportGrant n) s = .next
            ((rd.onSub n fun u => { u with wr := { u.wr with muted := false, decided := t + 1 } }).settle)))

/-- The order of the four steps of a grant decision (R140): the owner that the stall entry names, a waiter whose bound
has come, the holder of the tenure, the highest effective priority; the first step that finds a piece
ends the decision. The waiter is the earliest accepted of the pieces that may be granted freely, ties by initiator and class; the
ranked piece is of an initiator of the highest effective priority among them, ties by the round-robin pointer (R140, R143, R153). Of
one initiator the earlier piece goes, ties by class (R138). -/
def Obligations.GrantOrder : Prop :=
  ∀ (n t : Nat) (read : Bool) (s : State),
    let u := s.sub n
    let cs := candidates (u.onThis read t)
    let free := cs.filter (fun x => s.eligible u read false t x && s.freeEligible x.port)
    (∀ x, s.choice n read t = some (.stall, x) →
      s.gov.sheds .stalls = false ∧ entryOwner (u.entry t) read = some x.port ∧ x ∈ cs ∧
        issueSlot t x = t + 1 ∧ s.eligible u read true t x = true) ∧
    (∀ x, s.choice n read t = some (.waiter, x) → (u.side read).starve + 1 = u.starveN ∧ x ∈ free ∧
      ∀ y ∈ free, x.queuedAt ≤ y.queuedAt ∧ waitsLonger y x = false) ∧
    (∀ x, s.choice n read t = some (.tenure, x) →
      x ∈ free ∧ (∃ h, u.openTenure read t = some h ∧ h.holder = x.port) ∧
        ∀ y ∈ free, y.port = x.port → earlier y x = false) ∧
    (∀ o x, s.choice n read t = some (.ranking o, x) → x ∈ free ∧ o = (u.openTenure read t).isNone ∧
      (∀ y ∈ free, s.priority y.port (n / 8) read ≤ s.priority x.port (n / 8) read) ∧
      (∀ y ∈ free, s.priority y.port (n / 8) read = s.priority x.port (n / 8) read →
        rrDistance (u.side read).rr x.port ≤ rrDistance (u.side read).rr y.port) ∧
      ∀ y ∈ free, y.port = x.port → earlier y x = false) ∧
    (s.choice n read t = none → free = []) ∧
    (let owned := s.gov.sheds .stalls = false ∧ ∃ x ∈ cs,
       entryOwner (u.entry t) read = some x.port ∧ issueSlot t x = t + 1 ∧ s.eligible u read true t x = true
     let due := (u.side read).starve + 1 = u.starveN
     let held := ∃ h, u.openTenure read t = some h ∧ ∃ x ∈ free, x.port = h.holder
     (owned → ∃ x, s.choice n read t = some (.stall, x)) ∧
     (¬ owned → due → free ≠ [] → ∃ x, s.choice n read t = some (.waiter, x)) ∧
     (¬ owned → ¬ due → held → ∃ x, s.choice n read t = some (.tenure, x)) ∧
     (¬ owned → ¬ due → ¬ held → free ≠ [] → ∃ o x, s.choice n read t = some (.ranking o, x)))

/-- The actions of a bank, in a BCK whose slot is free for them: the merge read that is due takes a read slot that no read is
left to once the grants that could use it have been decided, and is kept with its write (R28, R139); the head of the write buffer takes the write slot once it has reached the bank, its
merge was read in an earlier BCK, and its scale lines are there: it is quantised, encoded and written (R30, R33); while a flip mask is
armed, the banks below that can write in the same BCK write first, also those that can only in its phase 1 (R339). A read whose row is not held is looked up and, with its
lines, decoded and presented (R28, R109). -/
def Obligations.BankRows : Prop :=
  ∀ (k b : Nat) (s : State), s.ready = true → s.hasCluster k = true → b < 16 → s.inRun k = true →
    let g := 16 * k + b
    (∀ i e, mergeDue (s.bankq g).wbuf = some i → (s.bankq g).wbuf[i]? = some e →
      s.readOpen g = true →
      exec (.mergeRead k b) s = .next
        (let r := s.mergeData g e.piece.row (s.mergeGranules e.piece) [0, 1, 2, 3]
         (r.2.onBankq g fun q =>
           { q with wbuf := q.wbuf.set i { e with merge := some r.1, mergedAt := s.bck }, readBck := s.bck + 1 }).settle)) ∧
    (∀ e rest, (s.bankq g).wbuf = e :: rest → (s.bankq g).mayWrite s.clock.xck s.bck = true →
      s.linesReady e.piece = true →
      ((s.ctest k).flipMask = 0 → exec (.bankWriteSlot k b) s = .next
        (let r := s.storePiece e.piece e.merge
         let t := r.2.onBankq g fun q => q.wrote e s.bck
         ((t.writePart e.piece.req (e.piece.kind == .entry) r.1).pump
           (match t.outst? e.piece.req with | some o => o.port | none => e.piece.port)).settle)) ∧
      (s.flipDefers g = true → s.tick.ready = true → s.tick.writeNow g = true →
        exec (.bankWriteSlot k b) s = .next ((s.tick.writeSlot g).settle)) ∧
      ((s.ctest k).flipMask ≠ 0 → s.flipDefers g = false → exec (.bankWriteSlot k b) s = .next
        ((((List.range b).foldl (fun s i => if s.writeReady (16 * k + i) then s.finishWrite (16 * k + i) else s) s).finishWrite
          g).settle))) ∧
    (∀ x, s.nextRead g = some x →
      (x.looked = true → exec (.readBeatComplete k b) s = .next
        (((s.onBankq g fun q => { q with reads := q.reads.erase x }).finishRead x).settle)) ∧
      (x.looked = false → (s.bankq g).mayRead s.bck = true → x.lines = [] →
        exec (.readBeatComplete k b) s = .next
        (((s.onBankq g fun q => { q with readBck := s.bck + 1, reads := q.reads.erase x }).finishRead x).settle)))

/-- A granule that a piece writes goes where its row is served from, and nowhere else: of all symbols only the 36 of
that granule change, and those of the spare behind the copy of a running evacuation (R26, R328, R350). -/
def Obligations.GranuleFrame : Prop :=
  ∀ (bank row g a : Nat) (w : List Nat) (s : State), w.length = 36 →
    (∀ l < 36, a ≠ cellAddr (s.slotOf bank) (s.servedRow (s.slotOf bank) row l) g l) →
    (∀ k prow, s.mirror bank row = some (k, prow) → ∀ l < 36, a ≠ cellAddr k (prow l) g l) →
      (s.putGranule bank row g w).symbol a = s.symbol a

/-- What has been written is read back: the symbols of a granule, where no evacuation of the bank runs. -/
def Obligations.GranuleReadBack : Prop :=
  ∀ (bank row g : Nat) (w : List Nat) (s : State), w.length = 36 → g < 4 → s.mirror bank row = none →
    Memory.wf s.mem s.unlisted = true → (∀ b ∈ w, b < 256) →
      (s.putGranule bank row g w).symbolsAt (s.slotOf bank) (s.servedRow (s.slotOf bank) row) g = w

/-! ### Conversion, stalls, the shell's own events (02, 05, 07) -/

/-- A fill's answer installs its line for the cluster's cache, or sets SLINE_SPOIL where the granule is marked or refused, and
what that touches of a SAFETY region is reported (R87, R196, R197); a fill that is not asked for yet is asked of initiator 64's port
(R123, R136), and so is one whose line has been written since it asked (R198; that it is asked again is log entry 65); a MODE 2 view
whose boundary TIME has reached, compared serially, ends its epoch and waits for the next multiple of its span (R212, R380, R384); the oldest ended epoch whose pieces are all
complete settles, with the VIEW_STATS that waits for it (R215); a stall swap takes effect at its time, and its command ends with the
last sub-port of its mask, for which SWAP_PEND falls (R147, R152). -/
def Obligations.ConversionRows : Prop :=
  ∀ s : State, s.ready = true →
    (∀ k a f id rs, s.hasCluster k = true → (s.cache k).fills.find? (fun f => f.addr == a) = some f →
      f.req = some id → s.asked id = some rs → f.stale = false →
      let t := (s.takeAnswers id).onCache k fun c => { c with fills := c.fills.filter (fun g => g.addr != a) }
      (∀ r, answerFault rs = none → rs.head? = some r → r.spoil = 0 →
        exec (.scaleCacheFill k a) s = .next
          ((t.onCache k (·.install a (BitVec.ofNat 256 (bytesAt r.data (a % 128) 32)))).settle)) ∧
      (∀ r, answerFault rs = none → rs.head? = some r → r.spoil ≠ 0 →
        exec (.scaleCacheFill k a) s = .next (((t.fillMark k a).fillFails k a).settle)) ∧
      (∀ st, answerFault rs = some st →
        exec (.scaleCacheFill k a) s = .next (((t.safetyRefusal 64 a st).fillFails k a).settle))) ∧
    (∀ k a f, s.hasCluster k = true → (s.cache k).fills.find? (fun f => f.addr == a) = some f → f.req = none →
      s.owns64 f.owner = true → s.rangeFails f.owner [.r] false a 32 = none → s.mayAsk true = true →
      exec (.scaleCacheFill k a) s = .next
        (let r := s.askRead 0 f.owner a 32
         (r.2.onCache k fun c =>
          { c with fills := c.fills.map (fun g => if g.addr = a then { g with req := some r.1 } else g) }).settle)) ∧
    (∀ k a f id rs, s.hasCluster k = true → (s.cache k).fills.find? (fun f => f.addr == a) = some f →
      f.req = some id → s.asked id = some rs → f.stale = true →
      let g : CacheFill := { f with req := none, stale := false }
      exec (.scaleCacheFill k a) s = .next
        ((((s.takeAnswers id).onCache k fun c =>
          { c with fills := c.fills.map (fun h => if h.addr = a then g else h) }).beginFill k g).settle)) ∧
    (∀ id v, s.view? id = some v → epochMode v.desc = 2 →
      (serialGe64 s.now v.boundary = true →
        exec (.epochTimeBoundary id) s = .next
          ((s.onView id fun v => { v with
            endAt := some s.clock.xck
            boundary := if (s.now.toNat / (epochN v.desc * 1000) + 1) * (epochN v.desc * 1000) < 2 ^ 64 then
                BitVec.ofNat 64 ((s.now.toNat / (epochN v.desc * 1000) + 1) * (epochN v.desc * 1000))
              else 0 }).settle)) ∧
      (serialGe64 s.now v.boundary = false → exec (.epochTimeBoundary id) s = .next s.settle)) ∧
    (∀ id v r, s.view? id = some v → v.settles = some r → s.statsWaiting id r.count = none →
      exec (.epochSettle id) s = .next ((s.settleEpoch id r).settle)) ∧
    (∀ id v r w, s.view? id = some v → v.settles = some r → s.statsWaiting id r.count = some w →
      s.sleeping (replyTouches s (w.cmd.flag 2 0) (w.cmd.par 8 5) 96) = [] →
      (w.cmd.flag 2 0 = true → s.spanFree (w.cmd.par 8 5) 96 true = true) →
      exec (.epochSettle id) s = .next
        ((((s.settleEpoch id r).viewStats w.cmd).finish w.token w.cmd { status := .ok }).settle)) ∧
    (∀ n t token, (s.sub n).swapAt = some (t, token) → t ≤ s.clock.xck →
      exec (.stallSwapTakeEffect n) s = .next
        (let u := s.onSub n fun u => { u with act := u.shd, shd := u.act, t0 := t, swapAt := none }
         (if u.xbar.subs.any (fun e => match e.2.swapAt with | some (_, k) => k == token | none => false) then u
          else
           let v := u.onXbar fun x => { x with subs := x.subs.map fun e =>
             (e.1, if e.2.swapping = some token then { e.2 with swapping := none } else e.2) }
           match v.cmd.waiting.find? (fun w => w.token == token) with
            | some w => v.finish token w.cmd { status := .ok }
            | none => v).settle))

/-- A command ring. The fetch reads the first unit at RING_CONS, then the packet; a fetch answered DECERR or PERM halts the ring
with FETCH_DECERR, and one that meets a spoil mark with FETCH_SPOIL, reporting the marks, be it the first unit or the packet that is
read (R60, R61, R114); nothing is asked for unless
the ring is enabled, not halted, not empty, out of Safe Hold and not held (R51, R68); a doorbell that puts more units in it than it has
halts it (R64). A packet that has been read is accepted in its turn, one in an MCK (R42, R59, R63). A command that waited for the ones
before it starts when the last of them has written its final record (R56). A DRAIN ends when its requests have completed (R133).
What stands in an MCK when a packet comes is the model's (log entry 49). -/
def Obligations.ShellRows : Prop :=
  (∀ (n : Nat) (s : State), s.ready = true → n < 16 → (s.ring n).halted = false →
      ((s.ring n).fetch = .none →
        (s.safety.hold = true ∨ (s.ring n).en = false ∨ (s.ring n).present = 0 ∨ s.sourceHeld (.ring n) = true ∨
            s.turnTaken (.ring n) s.cmd.accepted = true →
          exec (.ringFetch n) s = .next s.settle) ∧
        (s.safety.hold = false → (s.ring n).en = true → (s.ring n).present ≠ 0 → s.sourceHeld (.ring n) = false →
          s.turnTaken (.ring n) s.cmd.accepted = false →
          (2 ^ (s.ring n).sizeLog2.toNat < (s.ring n).present →
            exec (.ringFetch n) s = .next ((s.haltRing n .doorbell).settle)) ∧
          ((s.ring n).present ≤ 2 ^ (s.ring n).sizeLog2.toNat →
            exec (.ringFetch n) s = .next ((s.askFetch n 1 .head).settle)))) ∧
      (∀ req rs st, (s.ring n).fetch = .head req → s.asked req = some rs → answerFault rs = some st →
        exec (.ringFetch n) s = .next
          ((((s.takeAnswers req).safetyRefusal 64 (((s.ring n).spans 1).headD (0, 0)).1 st).haltRing n .fetchDecerr).settle)) ∧
      (∀ req rs, (s.ring n).fetch = .head req → s.asked req = some rs → answerFault rs = none →
        let xs := (s.ring n).spans 1
        let bs := (spanBytes rs xs).map Prod.fst
        ((spanBytes rs xs).any Prod.snd = true →
          exec (.ringFetch n) s = .next (((s.takeAnswers req).fetchMarked n xs (spanBytes rs xs)).settle)) ∧
        ((spanBytes rs xs).any Prod.snd = false → headUnits bs ≤ (s.ring n).present → headUnits bs = 1 →
          exec (.ringFetch n) s = .next
            (((s.takeAnswers req).onRing n fun r => { r with fetch := .ready (packetOf n bs) }).settle)) ∧
        ((spanBytes rs xs).any Prod.snd = false → headUnits bs ≤ (s.ring n).present → headUnits bs ≠ 1 →
          s.safety.hold = true ∨ s.sourceHeld (.ring n) = true → exec (.ringFetch n) s = .next s.settle) ∧
        ((spanBytes rs xs).any Prod.snd = false → headUnits bs ≤ (s.ring n).present → headUnits bs ≠ 1 →
          s.safety.hold = false → s.sourceHeld (.ring n) = false →
          exec (.ringFetch n) s = .next
            (((s.takeAnswers req).askFetch n (headUnits bs) fun id => .body id (headUnits bs)).settle))) ∧
      (∀ req rs units st, (s.ring n).fetch = .body req units → s.asked req = some rs → answerFault rs = some st →
        exec (.ringFetch n) s = .next
          ((((s.takeAnswers req).safetyRefusal 64 (((s.ring n).spans units).headD (0, 0)).1 st).haltRing n .fetchDecerr).settle)) ∧
      (∀ req rs units, (s.ring n).fetch = .body req units → s.asked req = some rs → answerFault rs = none →
        (spanBytes rs ((s.ring n).spans units)).any Prod.snd = true →
        exec (.ringFetch n) s = .next
          (((s.takeAnswers req).fetchMarked n ((s.ring n).spans units) (spanBytes rs ((s.ring n).spans units))).settle)) ∧
      (∀ req rs units, (s.ring n).fetch = .body req units → s.asked req = some rs → answerFault rs = none →
        (spanBytes rs ((s.ring n).spans units)).any Prod.snd = false →
        exec (.ringFetch n) s = .next
          (((s.takeAnswers req).onRing n fun r =>
            { r with fetch := .ready (packetOf n ((spanBytes rs ((s.ring n).spans units)).map Prod.fst)) }).settle))) ∧
  (∀ (n : Nat) (c : Cmd) (rest : List Given) (s : State), s.givens = .ring n c :: rest → s.cmd.acceptMck ≠ s.mck + 1 →
      s.acceptOne = some ((s.onRing n fun r =>
        { r with fetch := .none
                 cons := BitVec.ofNat 17 ((r.cons.toNat + 1 + c.units) % 2 ^ (r.sizeLog2.toNat + 1))
                 reserved := r.reserved + if c.defers then 2 else 1 }).accept (bodyOf c.op) c)) ∧
  (∀ s : State, s.ready = true →
      (∀ token w b, s.cmd.waiting.find? (fun w => w.token == token) = some w → w.why = .prev →
        s.prevRuns w.cmd.src token = false → bodyOf w.cmd.op = some b →
        exec (.commandStartAfterPrev token) s = .next ((s.resume b w).settle)) ∧
      (∀ token d, s.cmd.deferred.find? (fun d => d.token == token) = some d → d.cmd.op = 0x005 →
        s.drained d.cmd d.since = true →
        exec (.drainComplete token) s = .next ((s.finish token d.cmd { status := .ok }).settle)))

/-! ### Folds (09) -/

/-- The operations on an ACTIVE fold (R267, R268, R269, Tables 9-2 to 9-4): an operation of the wrong kind or with a VALUE out
of range is refused with BAD_PARAM; ARRIVE and SIGNAL on a barrier count their arrivals and complete whole
phases; SIGNAL and CONSUME on a tally of TM-64 and TM-128 never leave its range, and one that would is refused with
UNDERFLOW and changes nothing; WAIT is answered OK where the fold meets its VALUE and DEFER where it does not, and it and READ change
nothing. In TM-256 a SIGNAL on a tally first pays the deficit and saturates VALUE at TALLY_MAX; a CONSUME that VALUE does not hold takes
it to 0 and adds the rest to the deficit, which saturates at 65535 (R269).

An operation that is valid for the fold's kind leaves a fold that is not ACTIVE as it was, whatever the
configuration, and is answered as Table 9-5 says (R271). -/
def Obligations.FoldOperations : Prop :=
  (∀ (f : Fold) (op v : Nat), foldValid f op v = true ↔
      (op = 0 ∧ f.tally = false ∨ op = 1 ∧ 1 ≤ v ∧ v ≤ 0x7FFFFFFF ∨ op = 2 ∧ f.tally = true ∧ 1 ≤ v ∧ v ≤ 0x7FFFFFFF ∨
        op = 3 ∧ (f.tally = true → v ≤ 0x7FFFFFFF) ∨ op = 4)) ∧
  (∀ (m : Model) (f : Fold) (v : Nat), f.state = .active →
      (f.tally = true → v ≤ tallyMax →
        f.apply m 3 v = { fold := f, status := if v ≤ f.value.toNat then .ok else .defer, token := f.value }) ∧
      (f.tally = false →
        f.apply m 3 v =
          { fold := f, status := if serialGe32 f.value (BitVec.ofNat 32 v) then .ok else .defer, token := f.value })) ∧
  (∀ (f : Fold) (v : Nat), f.state = .active → f.tally = true → 1 ≤ v → v ≤ tallyMax →
      let r := min v f.deficit
      let n := f.value.toNat + (v - r)
      (n ≤ tallyMax → f.apply .tm256 1 v =
        { fold := { f with deficit := f.deficit - r, value := BitVec.ofNat 32 n }, status := .ok, token := BitVec.ofNat 32 n }) ∧
      (tallyMax < n → f.apply .tm256 1 v =
        { fold := { f with deficit := f.deficit - r, value := BitVec.ofNat 32 tallyMax, satHi := true }
          status := .saturated, token := BitVec.ofNat 32 tallyMax }) ∧
      (v ≤ f.value.toNat → f.apply .tm256 2 v =
        { fold := { f with value := f.value - BitVec.ofNat 32 v }, status := .ok, token := f.value - BitVec.ofNat 32 v }) ∧
      (f.value.toNat < v → f.apply .tm256 2 v =
        { fold := { f with value := 0, satLo := true, deficit := min (f.deficit + (v - f.value.toNat)) 65535
                           deficitSat := f.deficitSat || decide (65535 < f.deficit + (v - f.value.toNat)) }
          status := .saturated, token := 0 })) ∧
  (∀ (m : Model) (f : Fold) (v : Nat), f.state = .active →
      (∀ op, foldValid f op v = false → f.apply m op v = { fold := f, status := .badParam, token := 0 }) ∧
      (f.tally = false → f.arrived + 1 < f.count →
        f.apply m 0 v = { fold := { f with arrived := f.arrived + 1 }, status := .ok, token := f.value + 1 }) ∧
      (f.tally = false → f.arrived + 1 = f.count →
        f.apply m 0 v = { fold := { f with arrived := 0, value := f.value + 1 }, status := .ok, token := f.value + 1 }) ∧
      (f.tally = false → 1 ≤ v → v ≤ tallyMax → 0 < f.count → ∃ n,
        f.count * n ≤ f.arrived + v ∧ f.arrived + v < f.count * (n + 1) ∧
          f.apply m 1 v = { fold := { f with arrived := f.arrived + v - f.count * n, value := f.value + BitVec.ofNat 32 n }
                            status := .ok, token := f.value + BitVec.ofNat 32 n }) ∧
      (f.tally = true → m ≠ .tm256 → 1 ≤ v → v ≤ tallyMax → f.value.toNat ≤ tallyMax → ∃ g : Fold,
        (if f.value.toNat + v ≤ tallyMax then
          f.apply m 1 v = { fold := g, status := .ok, token := g.value } ∧ g = { f with value := g.value } ∧
            g.value.toNat = f.value.toNat + v
         else f.apply m 1 v = { fold := f, status := .underflow, token := f.value })) ∧
      (f.tally = true → m ≠ .tm256 → 1 ≤ v → v ≤ tallyMax → ∃ g : Fold,
        (if v ≤ f.value.toNat then
          f.apply m 2 v = { fold := g, status := .ok, token := g.value } ∧ g = { f with value := g.value } ∧
            g.value.toNat = f.value.toNat - v
         else f.apply m 2 v = { fold := f, status := .underflow, token := f.value })) ∧
      f.apply m 4 v = { fold := f, status := .ok, token := f.value }) ∧
  (∀ (m : Model) (f : Fold) (op v : Nat), foldValid f op v = true →
      (f.state = .error →
        f.apply m op v = { fold := f, status := if op = 4 then .ok else .underflow, token := f.value }) ∧
      (f.state = .abandoned →
        f.apply m op v = { fold := f, status := if op = 4 then .ok else .abandoned, token := f.value }) ∧
      (f.state = .dying → f.apply m op v = { fold := f, status := .abandoned, token := 0 }))

/-- In TM-256 the final VALUE after a set of SIGNALs and CONSUMEs is the same in every order of arrival, as long as VALUE
stays below TALLY_MAX and DEFICIT never saturates on the way (R269). A pair is a SIGNAL of its number where its mark is
set, else a CONSUME. -/
def Obligations.TallyOrderFree : Prop :=
  ∀ (f : Fold) (xs ys : List (Bool × Nat)),
    let run := fun (f : Fold) (l : List (Bool × Nat)) =>
      l.foldl (fun f o => if o.1 then (f.signal256 o.2).1 else (f.consume256 o.2).1) f
    (f.value = 0 ∨ f.deficit = 0) → f.deficitSat = false → xs.Perm ys →
    (∀ l, l <+: xs ∨ l <+: ys → (run f l).value.toNat < tallyMax ∧ (run f l).deficitSat = false) →
      (run f xs).value = (run f ys).value ∧ (run f xs).deficit = (run f ys).deficit

/-- Applying an operation at a fold unit: the fold takes what the operation gives it and one more operation is counted, but a
FOLD_OP command that is refused leaves the fold exactly as it was (R48); a SIGNAL or CONSUME of a port, a flag, a MARK or a link that is
refused with UNDERFLOW puts an ACTIVE fold in ERROR and the FOLD_OP command does not, and no other fold changes (R267 to R271). -/
def Obligations.FoldApplied : Prop :=
  ∀ (o : FoldOp) (s : State),
    let k := o.cluster * 2048 + o.index
    let r := (s.fold k).apply s.cfg o.op o.value
    let t := (s.foldApply o).2.2
    (o.origin.errs = true ∨ ¬ (r.status = .underflow ∨ r.status = .badParam) →
      t.fold k = { r.fold with
        ops := r.fold.ops + 1
        state := if r.status = .underflow ∧ (s.fold k).state = .active ∧ o.origin.errs = true then .error
          else r.fold.state }) ∧
      (o.origin.errs = false → r.status = .underflow ∨ r.status = .badParam → t.fold k = s.fold k) ∧
      (∀ j, j ≠ k → t.fold j = s.fold j) ∧
      (r.status ≠ .defer → (s.foldApply o).1 = r.status ∧ (s.foldApply o).2.1 = r.token) ∧
      t.mem = s.mem ∧ t.safety = s.safety

/-- The five operations are taken from the head of their cluster's queue, one at a time and in order (R265, R266): the
operation is applied, its origin is answered, a fold that is DYING and has nothing left to answer is freed (R283), and ports
that wait for room go on. -/
def Obligations.FoldRows : Prop :=
  ∀ (k : Nat) (o : FoldOp) (rest : List FoldOp) (s : State),
    s.ready = true → s.inRun k = true → s.folds.queues.get [] k = o :: rest →
      let r := (s.onFolds fun u => { u with queues := u.queues.set k rest }).foldApply o
      let t := (((match o.origin with
          | .port req =>
            match r.2.2.outst? req with
            | some q => (r.2.2.answer q r.1 r.2.1).pump q.port
            | none => r.2.2
          | .mark cl pop => if r.1 = Status.ok ∨ r.1 = Status.saturated then r.2.2 else r.2.2.markBad cl pop
          | _ => r.2.2).freeDying (k * 2048 + o.index)).pumpAll).settle
      (o.op = 0 → exec (.arrive k) s = .next t) ∧
      (o.op = 1 → exec (.signal k) s = .next t) ∧
      (o.op = 2 → exec (.consume k) s = .next t) ∧
      (o.op = 3 → exec (.wait k) s = .next t) ∧
      (o.op = 4 → exec (.read k) s = .next t)

/-- The wake sequencer of a cluster ends the oldest waiter whose wait is over, with a WAKE message for a port or the final
record of a ring's command, whose RESULT is the value that satisfied it (R273, R276); a deadline that passes ends its waiter with TIMEOUT
and changes no fold (R274); an uncorrectable error in an ACTIVE or ERROR fold abandons it, sets STATE_ERR and is reported (R281); a
dump goes on by one record, whose CORRECTED bit is a free value (R266, R286, log entry 50): in memory the first brings the header before
it and the last T_END after it and the end of the command; to SVC the first brings the length and the header, the last the trailer, where
the queue has room (R421). -/
def Obligations.WaiterRows : Prop :=
  ∀ s : State, s.ready = true →
    (∀ k w p token, s.inRun k = true → s.nextWake k = some w → w.who = .port p token →
      exec (.wakeSequencerEnd k) s = .next
        (((s.endWaiter w (w.ended.getD .wake)).onPort p fun q =>
          { q with wakes := q.wakes ++ [{ tag := 0, wake := true, status := w.ended.getD .wake, token := token }] }).settle)) ∧
    (∀ k w n slot token d, s.inRun k = true → s.nextWake k = some w → w.who = .ring n slot token →
      s.cmd.deferred.find? (fun d => d.token == token) = some d →
      exec (.wakeSequencerEnd k) s = .next
        (((((s.endWaiter w (w.ended.getD .wake)).onFolds fun u =>
            { u with ringSlots := u.ringSlots.modify [] n (·.erase slot) }).finish token d.cmd
          (if w.ended.getD .wake = .wake then
            { status := .ok, result := w.value.toNat }
           else { status := w.ended.getD .wake }))).settle)) ∧
    (∀ order, exec (.waiterTimeout order) s = .next
      ((s.onFolds fun u =>
        { u with waiters := u.waiters.map fun w =>
            if w.order = order ∧ w.ended = none ∧ s.late w = true then { w with ended := some .timeout } else w }).settle)) ∧
    (∀ c i, s.hasCluster c = true → i < 2048 → s.inRun c = true →
      (s.fold (2048 * c + i)).state = .active ∨ (s.fold (2048 * c + i)).state = .error →
      exec (.foldStateUe c i) s = .next
        (((((((s.onFold (2048 * c + i) fun f => { f with state := .abandoned }).endWaiters (2048 * c + i) .abandoned).foldEvent
          3 (2048 * c + i)).foldEvent 7 (2048 * c + i)).onSafety fun y =>
            { y with reports := y.reports ++
              [{ code := 0x1A, cluster := c, detail := some (BitVec.ofNat 32 (2048 * c + i)) }] })).settle)) ∧
    (∀ d, s.folds.dumps.find? (fun d => !s.dumpPaused d) = some d → d.next ≠ s.foldCount →
      s.inRun (d.next / 2048) = true → d.cmd.dumpSvc = false → s.cut d.token = none → d.next + 1 ≠ s.foldCount →
      0 < d.next → s.sleeping (s.clustersOf (d.cmd.par 8 5 + 64 + 32 * d.next) 32) = [] →
      s.spanFree (d.cmd.par 8 5 + 64 + 32 * d.next) 32 true = true →
      exec .foldDumpRecord s = .next
        (let t := s.foldCorrects d.next
         ((t.initWrite (d.cmd.par 8 5 + 64 + 32 * d.next) (t.dumpRecord d.next)).onDump d.token fun e =>
          { e with next := e.next + 1 }).settle)) ∧
    (∀ d, s.folds.dumps.find? (fun d => !s.dumpPaused d) = some d → d.next = 0 → s.foldCount ≠ 0 → s.foldCount ≠ 1 →
      s.inRun 0 = true → d.cmd.dumpSvc = false → s.cut d.token = none →
      s.sleeping (s.clustersOf (d.cmd.par 8 5 + 64) 32 ++ s.clustersOf (d.cmd.par 8 5) 64) = [] →
      s.spanFree (d.cmd.par 8 5 + 64) 32 true = true → s.spanFree (d.cmd.par 8 5) 64 true = true →
      exec .foldDumpRecord s = .next
        (let t := s.foldCorrects 0
         let u := t.initWrite (d.cmd.par 8 5) t.dumpHeader
         ((u.initWrite (d.cmd.par 8 5 + 64) (u.dumpRecord 0)).onDump d.token fun e => { e with next := e.next + 1 }).settle)) ∧
    (∀ d, s.folds.dumps.find? (fun d => !s.dumpPaused d) = some d → 0 < d.next → d.next + 1 = s.foldCount →
      s.inRun (d.next / 2048) = true → d.cmd.dumpSvc = false → s.cut d.token = none →
      s.sleeping (s.clustersOf (d.cmd.par 8 5 + 64 + 32 * d.next) 32 ++ s.clustersOf (d.cmd.par 8 5) 64) = [] →
      s.spanFree (d.cmd.par 8 5 + 64 + 32 * d.next) 32 true = true → s.spanFree (d.cmd.par 8 5) 64 true = true →
      exec .foldDumpRecord s = .next
        (let t := s.foldCorrects d.next
         let u := t.initWrite (d.cmd.par 8 5 + 64 + 32 * d.next) (t.dumpRecord d.next)
         ((u.initWrite (d.cmd.par 8 5 + 16) (toBytes 8 u.now.toNat)).endDump d { status := .ok }).settle)) ∧
    (∀ d, s.folds.dumps.find? (fun d => !s.dumpPaused d) = some d → d.next ≠ s.foldCount →
      s.inRun (d.next / 2048) = true → d.cmd.dumpSvc = true → s.cut d.token = none →
      let t := s.foldCorrects d.next
      let bs := (if d.next = 0 then t.dumpHeader else []) ++ t.dumpRecord d.next
      let crc := crcFold d.crc bs
      let out := (if d.next = 0 then toBytes 4 (64 + 32 * s.foldCount + 16) else []) ++ bs ++
        (if d.next + 1 = s.foldCount then t.svcTrailer crc else [])
      out.length ≤ 65536 - t.fw.svc.out.length →
      exec .foldDumpRecord s = .next
        (((t.onFw fun w => { w with svc := { w.svc with out := w.svc.out ++ out } }).onDump d.token fun e =>
          { e with next := e.next + 1, crc := crc }).settle))

/-! ### Events and STEP (08) -/

/-- What becomes of a SPIKE by its distance from the population's step (the table of R247). -/
def Obligations.StepWindow : Prop :=
  ∀ (p : Pop) (t : BitVec 32),
    p.window t =
      if p.running then
        (if t = p.p then .refuse else if t = p.p + 1 then .apply else if t = p.p + 2 then .hold else .refuse)
      else (if t = p.p ∨ t = p.p + 1 then .apply else .refuse)

/-- An event whose parity fails is discarded, counted and reported, and changes nothing else (R130); one that the router
takes enters the path FIFO of its population's cluster, which it wakes (R237); while that FIFO is full the event is not taken (R130);
one for a population that is not valid is discarded and counted (R236). -/
def Obligations.EventIngress : Prop :=
  ∀ (v : Nat) (w : BitVec 132) (s : State),
    s.quiet = true → v < 4 → bitOf s.eng.unusable.toNat v = false →
    (evParityOk w = false →
      exec (.eventIngress v w) s = .next
        (((s.onEng fun e => { e with dropBad := e.dropBad.modify 0 v (satAdd 0xFFFF · 1) }).onXbar fun x =>
          { x with irq := setBit x.irq 2, parSource := BitVec.ofNat 7 (0x40 + v), parKind := 2 }).onSafety fun y =>
            { y with reports := y.reports ++ [{ code := 0x03, port := 0x40 + v }] })) ∧
    (∀ p, evParityOk w = true → s.pop? (evPop (w.setWidth 128)) = some p → s.safety.hold = false →
      evMalformed (w.setWidth 128) = false →
      (evKind (w.setWidth 128) = 0 → evSource (w.setWidth 128) < popDirCount p.desc) →
      ((s.disp (popCluster p.desc)).paths.get [] v).length < 16 →
      exec (.eventIngress v w) s = .next
        (((s.onEng fun e => { e with evIn := e.evIn.modify 0 v (· + 1) }).onDisp (popCluster p.desc) fun d =>
          { d with paths := d.paths.modify [] v (· ++ [{ word := w.setWidth 128, port := v }]) }).wakeCluster
            (popCluster p.desc) 1)) ∧
    (∀ p, evParityOk w = true → s.pop? (evPop (w.setWidth 128)) = some p → s.safety.hold = false →
      evMalformed (w.setWidth 128) = false →
      (evKind (w.setWidth 128) = 0 → evSource (w.setWidth 128) < popDirCount p.desc) →
      16 ≤ ((s.disp (popCluster p.desc)).paths.get [] v).length →
      exec (.eventIngress v w) s = .next s) ∧
    (evParityOk w = true → s.pop? (evPop (w.setWidth 128)) = none → s.safety.hold = false →
      exec (.eventIngress v w) s = .next
        ((((s.onEng fun e => { e with evIn := e.evIn.modify 0 v (· + 1) }).onEng fun e =>
          { e with dropBad := e.dropBad.modify 0 v (satAdd 0xFFFF · 1) }).evEvent 1 (evPop (w.setWidth 128)) 0)))

/-- The dispatcher of a cluster takes its next event, unless a SPIKE under way still needs pieces (R245): a SPIKE of a valid
population is started, held or refused by its window (R245, R247, R248), a MARK signals its fold, or waits behind held SPIKEs of its
path (R239); an event whose population has gone is discarded (R236). An egress channel presents the next event of its FIFOs with good
parity (R238).

An event that leaves has good parity, and its 128 bits are the ones that were to leave (R130, R235).
A MARK that waits takes a place of the hold buffer (the model's, log entry 53). -/
def Obligations.DispatchRows : Prop :=
  (∀ (k : Nat) (e : Event) (s : State),
      s.ready = true → s.hasCluster k = true → s.inRun k = true → (s.disp k).blocked = false → s.nextEvent k = some e →
      (∀ p, s.pop? (evPop e.word) = some p → s.evStale k e.word = false →
        (evKind e.word = 0 → p.window (evStep e.word) = .apply →
          exec (.spike k) s = .next
            ((((if evTaint e.word then (s.takeEvent k e).taint (evPop e.word) else s.takeEvent k e).onDisp k fun d =>
              { d with runs := d.runs ++ [{ ev := e, pop := evPop e.word }] })).settle)) ∧
        (evKind e.word = 0 → p.window (evStep e.word) = .hold →
          exec (.spike k) s = .next (((s.takeEvent k e).onDisp k fun d => { d with hold := d.hold ++ [e] }).settle)) ∧
        (evKind e.word = 0 → p.window (evStep e.word) = .refuse →
          exec (.spike k) s = .next (((s.takeEvent k e).refuseSpike k (evPop e.word)).settle)) ∧
        (evKind e.word = 1 → (s.disp k).hold.any (fun h => h.port == e.port) = false →
          exec (.mark k) s = .next
            (let r := (s.takeEvent k e).signalOne p.owner (evFold e.word) (.mark k (evPop e.word)) false
             (if r.1 then r.2 else r.2.markBad k (evPop e.word)).settle)) ∧
        (evKind e.word = 1 → (s.disp k).hold.any (fun h => h.port == e.port) = true →
          exec (.mark k) s = .next (((s.takeEvent k e).onDisp k fun d => { d with hold := d.hold ++ [e] }).settle))) ∧
      (s.evStale k e.word = true →
        (evKind e.word = 0 → exec (.spike k) s = .next (((s.takeEvent k e).evBad e.port (evPop e.word) k).settle)) ∧
        (evKind e.word = 1 → exec (.mark k) s = .next (((s.takeEvent k e).evBad e.port (evPop e.word) k).settle)))) ∧
  (∀ (k v : Nat) (o : OutEvent) (rest : List OutEvent) (s : State),
      s.ready = true → v < 4 → s.egressNext v = some k → (s.disp k).egress.get [] v = o :: rest →
        exec (.eventEgress v) s = .next
          (let t := ({ s.onDisp k fun d => { d with egress := d.egress.set v rest } with
              pins := { s.pins with eventsOut := (v, evWithParity o.word) :: s.pins.eventsOut } } : State)
           let u := t.onEng fun e =>
             { e with evOut := e.evOut.modify 0 v (· + 1), outRr := e.outRr.set v ((k + 1) % s.cfg.clusters)
                      steps := e.steps.map (fun r =>
                        if r.token = o.token then { r with inFlight := r.inFlight - 1 } else r) }
           (u.emitAll k).settle)) ∧
  (∀ w : BitVec 128, evParityOk (evWithParity w) = true ∧ (evWithParity w).setWidth 128 = w)

/-- step_neuron of R251 on a record of Table 8-4, with k the parity of the step: input[k] becomes 0 and input[1 − k] is not
touched; a DISABLEd neuron keeps its membrane; a refractory one decays and counts down; any other adds its input with
saturation and fires at the threshold. -/
def Obligations.StepNeuron : Prop :=
  ∀ (d : BitVec 512) (t : BitVec 32) (r : Nat),
    let k := t.toNat % 2
    let q := stepNeuron d t r
    let m : Int := (int32 (bitsOf r 0 32) * popDecay d + 0x8000) / 65536
    let v := m + int32 (bitsOf r (32 + 32 * k) 32)
    bitsOf q.record (32 + 32 * k) 32 = 0 ∧
      bitsOf q.record (32 + 32 * (1 - k)) 32 = bitsOf r (32 + 32 * (1 - k)) 32 ∧
      bitsOf q.record 114 14 = bitsOf r 114 14 ∧
      (bitOf r 114 = true →
        q.spike = none ∧ q.sat = false ∧ bitsOf q.record 0 32 = bitsOf r 0 32 ∧
          bitsOf q.record 96 16 = bitsOf r 96 16 ∧ bitsOf q.record 112 1 = 0 ∧
          bitsOf q.record 113 1 = bitsOf r 113 1) ∧
      (bitOf r 114 = false → 0 < bitsOf r 96 16 →
        q.spike = none ∧ q.sat = false ∧ bitsOf q.record 0 32 = code32 m ∧
          bitsOf q.record 96 16 = bitsOf r 96 16 - 1 ∧ bitsOf q.record 112 1 = 0 ∧
          bitsOf q.record 113 1 = bitsOf r 113 1) ∧
      (bitOf r 114 = false → bitsOf r 96 16 = 0 →
        q.sat = decide (clamp32 v ≠ v) ∧
          bitsOf q.record 113 1 = (if clamp32 v ≠ v then 1 else bitsOf r 113 1) ∧
          (popThreshold d ≤ clamp32 v →
            q.spike = some (clamp32 v) ∧ bitsOf q.record 112 1 = 1 ∧ bitsOf q.record 96 16 = popRefractory d ∧
              bitsOf q.record 0 32 =
                code32 (if popSubtract d then clamp32 (clamp32 v - popThreshold d) else 0)) ∧
          (clamp32 v < popThreshold d →
            q.spike = none ∧ bitsOf q.record 112 1 = 0 ∧ bitsOf q.record 96 16 = 0 ∧
              bitsOf q.record 0 32 = code32 (clamp32 v)))

/-- A staging ends with the copy of every row that has a buffer row, and its command with it (R232); an unstaging copies back and
frees the rows (R233). A STEP goes on by one row where its route has room and its cluster a piece to issue: the row is a piece of the
bank's queue, or is worked on in the accumulator buffer where the population is staged (R245, R251, R252); it ends once every row
is written and every event has left: P rises by one and RUNNING ends; then the held events are applied, and once the last of them
is, the final record says OK, or SPOIL where the population is tainted (R248, R249, R251). A copy waits while a row of it is
reached by a piece under way (R28, R117).
That a STEP with every row written completes, and that its pieces count among the dispatcher's 64, are the model's (log entries 38,
53). -/
def Obligations.StepRows : Prop :=
  ∀ (pop : Nat) (p : Pop) (s : State), s.ready = true → s.pop? pop = some p →
    let c := popCluster p.desc
    (∀ g, s.staging? pop false = some g → s.cut g.token = none → s.inRun c = true → s.copyFree c pop = false →
      exec (.popStageDone pop) s = .next s.settle) ∧
    (∀ g, s.staging? pop true = some g → s.cut g.token = none → s.inRun c = true → s.copyFree c pop = false →
      exec (.popUnstageDone pop) s = .next s.settle) ∧
    (∀ g, s.staging? pop false = some g → s.cut g.token = none → s.inRun c = true → s.copyFree c pop = true →
      exec (.popStageDone pop) s = .next
        (((((((s.copyRows pop (s.bufBanks c pop) true).stagedLaps (s.bufPlaces c pop)).onEng fun e =>
          { e with abuf := e.abuf.map (fun q =>
              (q.1, q.2.map (fun b => if b.pop = pop then { b with live := true } else b))) }).onPop pop fun p =>
          { p with staged := true }).endStaging g { status := .ok })).settle)) ∧
    (∀ g, s.staging? pop true = some g → s.cut g.token = none → s.inRun c = true → s.copyFree c pop = true →
      exec (.popUnstageDone pop) s = .next
        ((((((s.copyRows pop (s.bufBanks c pop) false).stagedLaps (s.bufPlaces c pop)).freeRows
          pop).onPop pop fun p => { p with staged := false }).endStaging g { status := .ok }).settle)) ∧
    (∀ r q, s.stepRun? pop = some r → r.rowsDone p = false → r.ended = false → s.cut r.token = none → s.inRun c = true →
      s.stepRoom c r = true →
      let a := popState p.desc + 128 * r.rows
      s.popRange p [.r, .w, .a] a (min 128 (16 * popN p.desc - 128 * r.rows)) = true → s.locate a = some q →
      let x : Piece :=
        { req := s.xbar.nextReq, port := 64, kind := .step, cls := 3, beat := r.rows, cluster := q.1 / 16, bank := q.1
          row := q.2.1, off := 0, len := 128, addr := a, lane := 0, lanes := 128, pop := r.pop }
      let issued (s : State) : State := s.onStep r.pop fun q => { q with rows := q.rows + 1, left := q.left + 1 }
      (p.staged = false → s.eventRoom c 1 = true →
        exec (.stepRow pop) s = .next ((issued (s.askEvent c 4 a 128 p.owner [x]).2).settle)) ∧
      (p.staged = true → (s.bankq q.1).holdsRow q.2.1 = false →
        exec (.stepRow pop) s = .next (((issued s).bufferWork x).settle))) ∧
    (∀ r, s.stepRun? pop = some r → r.rowsDone p = true → r.left = 0 → r.inFlight = 0 → r.ended = false →
      exec (.stepComplete pop) s = .next
        (((((s.onPop pop fun p => { p with p := p.p + 1, spikes := r.spikes, memSat := r.memSat }).onPop r.pop fun p =>
            { p with running := false }).onStep r.pop fun q => { q with ended := true, cutSt := none }).moveRuns).settle)) ∧
    (∀ r : StepRun, r.pop = pop → r.ended = true →
      (s.heldDone c pop = false → s.finalStep r = s) ∧
      (s.heldDone c pop = true →
        s.finalStep r =
          (s.onEng fun e => { e with steps := e.steps.filter (fun q => q.token != r.token) }).finish r.token r.cmd
            { status := r.cutSt.getD (if p.tainted then .spoil else .ok), result := r.spikes }))

/-! ### The Drover's rows (02, 06, 12) -/

/-- A queued job starts in its unit where its tolls fit the window's budget, an evacuation with a spare (R71,
R175); a row of a fill is asked of its bank as a write of initiator 64, and counts once it is answered (R70, R136, R156); a row of an
evacuation is asked for, and copied to the spare when it has been granted and its read slot is free (R349); and a job whose last row is
written ends with its status, a fill marking the regions that it covers whole as initialised (R73).
That each row of a job is asked for on its own, one request at a time, is the model's (log entries 16, 56). -/
def Obligations.DroverRows : Prop :=
  ∀ (s : State), s.ready = true → s.safety.hold = false →
    (∀ j, s.cmd.bankJob = none → s.nextJob true = some j → s.jobToll j + s.gov.spent ≤ s.gov.tb →
      exec (.drvJobStart true) s = .next
        (((s.onCmd fun c => { c with jobs := c.jobs.filter (fun k => k.id != j.id), bankJob := some j }).takeSpare
          j).settle)) ∧
    (∀ j, s.cmd.xbarJob = none → s.nextJob false = some j → s.jobToll j + s.gov.spent ≤ s.gov.tb →
      exec (.drvJobStart false) s = .next
        (((s.onCmd fun c => { c with jobs := c.jobs.filter (fun k => k.id != j.id), xbarJob := some j }).takeSpare
          j).settle)) ∧
    (∀ j, s.cmd.bankJob = some j → j.kind = .fill → j.wait = .none → j.done < j.len →
      let a := j.dst + j.done
      let n := min (j.len - j.done) (128 - a % 128)
      s.reachFails j.ctx .wr a n = none → s.mayAsk false = true → s.windowAt a = none →
      exec (.drvRow true) s = .next
        (let r := s.ask (s.pieceRequest (reqWord 2 2 a n j.ctx 0xFFFE 0)
            (s.plainPieces .fill 2 a n (patternBytes j.pattern n)))
         (r.2.onJob j.id fun k => { k with wait := .writing r.1 n n }).settle)) ∧
    (∀ j req n m rs, s.cmd.bankJob = some j → j.kind = .fill → j.wait = .writing req n m → s.asked req = some rs →
      answerFault rs = none →
      exec (.drvRow true) s = .next
        (((s.takeAnswers req).onJob j.id fun k =>
          { k with done := k.done + n, dstDone := k.dstDone + m
                   spoil := k.spoil || rs.any (fun r => decide (r.status = .spoil))
                   spoiled := k.spoiled + (rs.map (fun r => r.spoiled)).sum
                   clipped := k.clipped + (rs.map (fun r => r.clipped)).sum, wait := .none, load := {} }).jobGoes j.id
            State.fillNext).settle) ∧
    (∀ j, s.cmd.xbarJob = some j →
      (j.wait = .none → exec (.drvRow false) s = .next ((s.crossNext j).settle)) ∧
      (∀ req n m rs, j.wait = .writing req n m → s.asked req = some rs → answerFault rs = none →
        exec (.drvRow false) s = .next
          ((((s.takeAnswers req).wroteRow j n m rs).jobGoes j.id State.crossNext).settle)) ∧
      (∀ req n rs, j.wait = .reading req n → s.asked req = some rs →
        exec (.drvRow false) s = .next ((s.rowRead j req n rs).settle))) ∧
    (∀ j e row buf, s.cmd.bankJob = some j → j.kind = .evacuate → (s.ctest j.cluster).evac = some e →
      s.evacPlace (16 * j.cluster + e.bank) e = some (row, buf) →
      ((s.bankq (16 * j.cluster + e.bank)).copy = none →
        exec (.evacRowCopy j.cluster) s = .next ((s.askEvac j.cluster).settle)) ∧
      (∀ x, (s.bankq (16 * j.cluster + e.bank)).copy = some x → s.evacReady (16 * j.cluster + e.bank) x = true →
        exec (.evacRowCopy j.cluster) s = .next
          (let t := [0, 1, 2, 3].foldl
            (fun s g => s.evacGranule (16 * j.cluster + e.bank) (17 * j.cluster + e.spare) row buf g) s
           (((t.onBankq (16 * j.cluster + e.bank) fun q => { q with copy := none, readBck := t.bck + 1 }).onCtest j.cluster fun t =>
            { t with evac := t.evac.map (fun e => { e with copied := e.copied + 1 })
                     evacCount := t.evacCount + 1 }).askEvac j.cluster).settle))) ∧
    (∀ j, s.cmd.bankJob = some j → j.over = true → j.kind = .fill →
      exec (.drvJobComplete true) s = .next
        ((((s.covered' j.dst j.len).foldl State.markInit s).endJob j j.result).settle)) ∧
    (∀ j, s.cmd.xbarJob = some j → j.over = true → j.kind ≠ .fill →
      exec (.drvJobComplete false) s = .next ((s.endJob j j.result).settle))

/-- A takeover, once the copy is complete and the write buffer of its bank has drained in an earlier BCK, whatever reads are still under
way: the logical bank moves to the spare, the command that asked for it ends, or the penned slot's test begins (R351, R353).

After a takeover the bank is served from the spare, which is in service for it, and its old slot is penned (R351). -/
def Obligations.Takeover : Prop :=
  (∀ (k : Nat) (e : EvacRun) (j : Job) (s : State),
      s.ready = true → s.safety.hold = false → (s.ctest k).evac = some e → s.cmd.bankJob = some j →
      j.kind = .evacuate → j.cluster = k → s.closing (16 * k + e.bank) = true →
      (s.bankq (16 * k + e.bank)).wbuf = [] → (s.bankq (16 * k + e.bank)).writeBck ≤ s.bck →
        exec (.takeover k) s = .next
          (let t := ((s.moveBank (16 * k + e.bank) e.spare).dropJob j.id).freeBank (16 * k + e.bank)
           (match j.test, j.who with
            | some n, who => t.startTest k (s.lbank (16 * k + e.bank)).slot (firstTest n).1 (firstTest n).2 who
            | none, some (token, cmd) => t.finish token cmd { status := .ok }
            | none, none => t).settle)) ∧
  (∀ (g spare : Nat) (s : State), spare < 17 → (s.lbank g).slot < 17 → spare ≠ (s.lbank g).slot →
      let t := s.moveBank g spare
      (t.lbank g).slot = spare ∧ (t.slot (17 * (g / 16) + spare)).state = .inService ∧
        (t.slot (17 * (g / 16) + spare)).logical = g % 16 ∧
        (t.slot (17 * (g / 16) + (s.lbank g).slot)).state = .penned ∧ t.mem = s.mem ∧
        (∀ h, h ≠ g → t.lbank h = s.lbank h) ∧ (t.ctest (g / 16)).evac = none)

/-- The verdict of a memory test (R355, Table 12-5): LOGIC that fails, two failed lanes or more, or more than 32
bad spare rows retire the slot; one lane is verdict 1; new bad spare rows are verdict 2; else it passed.

The self-test's and the integrity unit's own rows. A test ends: after a sound LOGIC the test that was asked for follows,
else the verdict takes effect (R353, R355). The scrubber reads the next row of a bank whose read slot is left to it, and writes the
corrections of a row back in one write slot that the write buffer leaves, to the spare also while its bank is being copied, or drops
one where it is too late (R28, R333, R335, R350). Firmware patches or
retires for a cause of Table 11-6, where no access reaches a row that it would copy (R28, R332), tests spares, serves a bank that asks for evacuation or goes on with the rotation (R321, R348,
R357), and shows what its analogue check found when one is due (R359).
That the rows carry what firmware decides, and the tallies by which it judges, are the model's (log entries 17, 59). -/
def Obligations.TestAndScrubRows : Prop :=
  (∀ (test : Nat) (f : BistFound) (bad : BitVec 64),
      ((test = 0 ∨ test = 4) → f.logicOk = false → verdictOf test f bad = 3) ∧
      (test = 0 → f.logicOk = true → verdictOf test f bad = 0) ∧
      (test ≠ 0 → (test = 4 → f.logicOk = true) → 2 ≤ ones 36 f.lanes.toNat → verdictOf test f bad = 3) ∧
      (test ≠ 0 → 32 < ones 64 f.spares.toNat → verdictOf test f bad = 3) ∧
      (test ≠ 0 → (test = 4 → f.logicOk = true) → ones 36 f.lanes.toNat = 1 → ones 64 f.spares.toNat ≤ 32 →
        verdictOf test f bad = 1) ∧
      (test ≠ 0 → (test = 4 → f.logicOk = true) → f.lanes = 0 → ones 64 f.spares.toNat ≤ 32 →
        verdictOf test f bad = if f.spares &&& ~~~bad = 0 then 0 else 2)) ∧
  (∀ s : State, s.ready = true →
      (∀ k f r, (s.ctest k).run = some r → s.safety.hold = false → r.next = none →
        exec (.bistTestEnd k f) s = .next ((s.endTest k r f).settle)) ∧
      (∀ k f r t, (s.ctest k).run = some r → s.safety.hold = false → r.next = some t → f.logicOk = true →
        exec (.bistTestEnd k f) s = .next
          (((s.noteTest k r f).onCtest k fun k =>
            { k with run := some { r with test := t, next := none, began := s.bck }, test := BitVec.ofNat 3 t }).settle)) ∧
      (∀ k b row, b < 16 → s.scrubFree (16 * k + b) = true →
        s.scrubNext (16 * k + b) 300 (s.bank (16 * k + b)).scrubRow.toNat = some row →
        (s.bankq (16 * k + b)).holdsRow row = false →
        exec (.scrubRead k b) s = .next ((s.scrubRead' (16 * k + b) row).settle)) ∧
      (∀ k b w rest, (s.lbank (16 * k + b)).out = false → (s.bank (16 * k + b)).pending = w :: rest →
        s.bckOf k ≤ w.deadline → s.safety.hold = false → s.stagedAt (s.slotOf (16 * k + b)) w.row = none →
        s.inRun k = true → s.writeFree (16 * k + b) w.row = true →
        exec (.scrubWriteBack k b) s = .next
          (let t := s.onBankq (16 * k + b) fun q => { q with writeBck := s.bck + 1 }
           let t := if (t.mirror (16 * k + b) w.row).isSome then t.chargeArray k 1 else t
           ((((s.bank (16 * k + b)).pending.filter (fun v => v.row == w.row)).foldl
              (fun s v => (s.storeGranule (16 * k + b) v.row v.granule v.data false).onBank (16 * k + b) fun n =>
                { n with fixed := satAdd 0xFFFF n.fixed 1 })
              (t.onBank (16 * k + b) fun n => { n with pending := n.pending.filter (fun v => v.row != w.row) })).settle))) ∧
      (∀ k b w rest, (s.lbank (16 * k + b)).out = false → (s.bank (16 * k + b)).pending = w :: rest →
        w.deadline < s.bckOf k ∨ s.safety.hold = true ∨ (s.stagedAt (s.slotOf (16 * k + b)) w.row).isSome = true →
        exec (.scrubWriteBack k b) s = .next
          ((s.onBank (16 * k + b) fun n =>
            { n with pending := rest, dropped := satAdd 0xFFFF n.dropped 1 }).settle)) ∧
      (∀ g row lane, s.policyOn = true → s.policyBank g = true → row < 16384 → lane < 36 → s.rowFree g row true = true →
        s.patchesFree g lane = true →
        s.fw.items.patchRepeat ≤ (s.bank g).streak.get 0 (64 * row + lane) →
        exec (.repairPolicyAction (.patch g row lane)) s = .next
          ((((s.policyPatch g row lane).onBank g fun b => { b with streak := b.streak.erase (64 * row + lane) }).retireFor g
            lane).settle)) ∧
      (∀ g lane, s.policyOn = true → s.policyBank g = true → lane < 36 → s.patchesFree g lane = true →
        s.retireCause g lane = true →
        (s.retired g).contains lane = false → (s.retired g).length < 2 →
        exec (.repairPolicyAction (.retire g lane)) s = .next
          (let t := ((s.retireLane g lane).dropPatches g lane).logSlot 0x63 (g / 16) (s.lbank g).slot
           ((t.setRepairs (t.fw.items.repairs ++ [repairEntry g 0x80 0 lane 0])).onBank g fun b =>
            { b with laneLap := b.laneLap.erase lane, laneLast := b.laneLast.erase lane }).settle)) ∧
      (s.fwActs = true →
        let u := s.startTests
        u.droverFull = false →
        (∀ c, u.requestNow = none → u.policyOn = true → u.fw.items.rotateEn = true → u.requestWaits = false →
          u.safety.lifecycle ≠ 4 → u.turnOf = some c →
          exec .rotationStep s = .next
            (((u.rotate c).onInteg fun n => { n with rotateCluster := (c + 1) % u.cfg.clusters }).settle)) ∧
        (∀ c b k, u.requestNow = some (c, b, k) →
          exec .rotationStep s = .next ((u.serveRequest c b k).settle))) ∧
      (∀ f : AnalogFound, s.quiet = true → s.fw.state = .running → s.power.block = .run → s.analogDue = true →
        f.trip = false → ∃ t l,
        exec (.analogCheck f) s = .next t ∧ t.integ.ana = f.word ∧ t.power.ain.disabled = f.wakeAin ∧
          (∀ k < 9, (t.gov.sensors.get {} k).failed = bitOf f.sensors.toNat k) ∧
          (l = [] ∨ l = [{ code := 0x40 }]) ∧
          t.safety.reports = s.safety.reports ++ l ++ (if f.wakeAin then [{ code := 0x45 }] else []) ++
            ((List.range 9).filter (fun k => bitOf f.sensors.toNat k)).map (fun _ => { code := 0x45 }) ++
            (if f.vmonLog then [{ code := 0x42 }] else []) ++ (if f.vmonArr then [{ code := 0x42 }] else []) ++
            (if f.avsRx then [{ code := 0x45 }] else [])))

/-! ### Link ports (10) -/

/-- The outgoing side of the links: the oldest request for a chip is sent by its port with the next sequence number, where the
injection limit and the window have room (R293, R296); one that has waited its interval is sent again with the same number
(R306); one that has used up its resends is lost (R307); a reset of a port ends once nothing that it sent is out
(R309); the level of LINK_UP follows its pin (R294). -/
def Obligations.LinkOutRows : Prop :=
  ∀ s : State, s.ready = true →
    (∀ chip o i d n, s.links.out.find? (fun o => o.chip == chip && o.seq.isNone) = some o →
      s.dest? chip = some (i, d) → s.links.chip ≠ 0xFFF → s.portFor o = some n →
      (s.inFlight chip).length < d.inj → (d.nextSeq - d.floor).toNat < 1024 → s.portRoom n o = true →
      exec (.linkSend chip) s = .next
        (((s.onDest chip fun e => { e with nextSeq := e.nextSeq + 1 }).sendOut o n d.nextSeq d.floor false).settle)) ∧
    (∀ req o q i d n, s.out? req = some o → o.seq = some q → s.dest? o.chip = some (i, d) →
      o.sentAt + o.interval * 1000 ≤ s.ns → o.resends < o.limit → s.portFor o = some n → s.portRoom n o = true →
      exec (.linkResend req) s = .next ((s.sendOut o n q d.floor true).settle)) ∧
    (∀ req o, s.out? req = some o → s.outLost o = true →
      exec (.linkRemoteLost req) s = .next ((s.remoteLost o).settle)) ∧
    (∀ n token c, (s.link n).resetting = some (token, c) → s.cut token = none → s.sentOn n = [] →
      exec (.linkResetComplete n) s = .next
        (((s.onLink n fun l => { l with resetting := none }).finish token c { status := .ok }).settle)) ∧
    (∀ n up, n < s.cfg.links → exec (.linkUpChange n up) s = .next (s.onLink n fun l => { l with up := up }))

/-- The incoming side of the links. What comes at a port acts, after what its converter held; while the derived clocks stand the
converter holds what it has room for, and either is a wake of the block (R40, R124, R373). A response in this chip's epoch for a request in flight moves its
destination's window and answers the request (R297); one whose parity fails is discarded and reported. A request whose
parity, addresses and epoch are right is taken into its source entry's window (R299, R300, R301); one for another chip is counted as
misrouted. A held fold operation is applied when what it announces has been, or becomes STALE after its time (R304, R308); an idle
source entry is reclaimed (R300).
That a request comes with its beats in one row, and which announced requests are fold operations, are the model's (log entries 24, 25). -/
def Obligations.LinkInRows : Prop :=
  (∀ (n : Nat) (s : State), n < 8 → s.portOpen (56 + n) = true →
    (s.ready = true →
      (∀ r, exec (.linkResponse n r) s = .next (((s.wakeBlock.linkResume).linkResponse n r).settle)) ∧
      (∀ r, exec (.linkInboundRequest n r) s = .next (((s.wakeBlock.linkResume).linkInbound n r).settle))) ∧
    (s.ready = false →
      (∀ r, exec (.linkResponse n r) s = .next
        ((s.onLinks fun l => { l with waiting := l.waiting ++ [(n, .response r)] }).wakeBlock)) ∧
      (∀ r, s.takesRequest (56 + n) = true →
        (s.port (56 + n)).fifo.length + ((s.outstOf (56 + n)).filter (fun o => !o.sent)).length + (s.linkWaits n).2 <
          fifoSize (56 + n) →
        (s.port (56 + n)).wd.length + (s.linkWaits n).1 + r.beats.length ≤ wdSize (56 + n) →
        exec (.linkInboundRequest n r) s = .next
          ((s.onLinks fun l => { l with waiting := l.waiting ++ [(n, .request r)] }).wakeBlock)))) ∧
  ∀ s : State, s.ready = true → s.power.block = .run → s.power.attempt = false → s.links.waiting = [] →
    (∀ n r o i d, n < 8 → s.portLive (56 + n) = true → r.parityOk = true → s.links.chip ≠ 0xFFF →
      bitsOf r.lh.toNat 12 12 = s.links.chip → s.epochOk r.lh = true →
      (s.inFlight (bitsOf r.lh.toNat 0 12)).find? (fun o => o.seq == some (BitVec.ofNat 16 (bitsOf r.lh.toNat 32 16))) = some o →
      s.dest? (bitsOf r.lh.toNat 0 12) = some (i, d) → r.last = true →
      exec (.linkResponse n r) s = .next
        (let w := d.onResponse (BitVec.ofNat 16 (bitsOf r.lh.toNat 32 16)) (bitOf r.lh.toNat 27)
         let t := s.onDest (bitsOf r.lh.toNat 0 12) fun _ => w.1
         ((if w.2 then t.linkEvent 6 (bitsOf r.lh.toNat 0 12) n else t).answered o r).settle)) ∧
    (∀ n r, n < 8 → s.portLive (56 + n) = true → r.parityOk = false →
      exec (.linkResponse n r) s = .next
        ((s.onSafety fun y => { y with reports := y.reports ++ [{ code := 0x05, port := 56 + n }] }).settle)) ∧
    (∀ n r i t e, n < 8 → s.takesRequest (56 + n) = true →
      (s.port (56 + n)).wd.length + r.beats.length ≤ wdSize (56 + n) → r.req.good = true → r.headerGood = true →
      s.links.chip ≠ 0xFFF → bitsOf r.lh.toNat 12 12 = s.links.chip → bitsOf r.lh.toNat 0 12 ≠ s.links.chip →
      s.epochOk r.lh = true →
      s.sourceFor (bitsOf r.lh.toNat 0 12) (bitsOf r.lh.toNat 58 4)
        (BitVec.ofNat 16 (bitsOf r.lh.toNat 32 16) - BitVec.ofNat 16 (bitsOf r.lh.toNat 48 10)) = some (i, t) →
      t.links.srcs.find? i = some e →
      (BitVec.ofNat 16 (bitsOf r.lh.toNat 32 16) - e.base).toNat < 1024 →
      exec (.linkInboundRequest n r) s = .next
        (let f := BitVec.ofNat 16 (bitsOf r.lh.toNat 32 16) - BitVec.ofNat 16 (bitsOf r.lh.toNat 48 10)
         let tag : LinkTag :=
           { src := i, chip := bitsOf r.lh.toNat 0 12, incarn := bitsOf r.lh.toNat 58 4
             seq := BitVec.ofNat 16 (bitsOf r.lh.toNat 32 16), span := bitsOf r.lh.toNat 48 10
             ce := bitOf r.lh.toNat 26, tclass := bitOf r.lh.toNat 24, folds := r.folds }
         let u := t.onLinks fun l => { l with srcs := l.srcs.set i { e with last := t.ns } }
         let e2 := ({ e with last := t.ns } : SrcEntry).advance f
         ((u.onLinks fun l => { l with srcs := l.srcs.set i e2 }).inWindow n r tag e2).settle)) ∧
    (∀ n r, n < 8 → s.takesRequest (56 + n) = true →
      (s.port (56 + n)).wd.length + r.beats.length ≤ wdSize (56 + n) → r.req.good = true → r.headerGood = true →
      bitsOf r.lh.toNat 12 12 ≠ s.links.chip →
      exec (.linkInboundRequest n r) s = .next ((s.misroute n (bitsOf r.lh.toNat 0 12)).settle)) ∧
    (∀ order h, s.links.held.find? (fun h => h.order == order) = some h → s.releasable h = true →
      (s.links.held.any fun k => k.link.src == h.link.src && k.link.seq != h.link.seq &&
        decide ((h.link.seq - k.link.seq).toNat < 0x8000) && s.releasable k) = false →
      (s.folds.queues.get [] h.op.cluster).length < 64 →
      exec (.pendingSignalRelease order) s = .next
        (((s.onLinks fun l => { l with held := l.held.filter (fun k => k.order != order) }).foldPush h.op).settle)) ∧
    (∀ order h, s.links.held.find? (fun h => h.order == order) = some h → s.releasable h = false →
      h.arrived + 100000000 ≤ s.ns →
      exec (.heldOpStale order) s = .next
        (((((s.discardHeld (fun k => k.order == order) fun s k =>
            (s.stale k.port).onSeq k.link fun r => { r with done := some .remoteLost }).linkEvent 5
          h.link.chip h.port).abandonPeer h.link.chip)).settle)) ∧
    (∀ i e, s.links.srcs.find? i = some e → e.last + 100000000 ≤ s.ns →
      e.recs.all (fun r => r.2.done.isSome) = true →
      exec (.sourceEntryReclaim i) s = .next
        ((s.onLinks fun l => { l with srcs := l.srcs.erase i }).settle))

/-! ### Register accesses (16) -/

/-- An access on CTL or SP to a register of a unit that runs, with nothing waiting (R131, R398, R436, R437): a good write takes
effect and is answered OK, a write of the safety partition through CTL is refused with PERM and has no effect, an access with bad
parity, a write or a read, is not performed, is recorded and reported, and a read is answered with what the register reads. An access
that reaches a cluster's register block starts that cluster's idle timer again (R364), and abandons an attempt to stop it (R367,
R368). -/
def Obligations.RegisterRows : Prop :=
  ∀ (a : RegAccess) (s : State), s.quiet = true → s.pins.pwrOk = true → s.regCluster? a = none →
    (a.write = true → a.parityOk = true → (a.safety = true → a.sp = true) →
      exec (.registerWrite a) s = .next ((((s.regReaches a).regWrite a).answerReg a 0 .ok).settle)) ∧
    (a.write = true → a.parityOk = true → a.safety = true → a.sp = false →
      exec (.registerWrite a) s = .next (s.answerReg a 0 .perm)) ∧
    (a.write = true → a.parityOk = false →
      exec (.registerWrite a) s = .next
        (((s.onXbar fun x =>
            { x with irq := setBit x.irq 3, parSource := BitVec.ofNat 7 (if a.sp then 0x49 else 0x48), parKind := 3 }).onSafety
          fun y => { y with reports := y.reports ++ [{ code := 0x04, port := if a.sp then 0x49 else 0x48 }] }).answerReg
            a 0 .parity)) ∧
    (a.write = false → a.parityOk = false →
      exec (.registerRead a) s = .next
        (((s.onXbar fun x =>
            { x with irq := setBit x.irq 3, parSource := BitVec.ofNat 7 (if a.sp then 0x49 else 0x48), parKind := 3 }).onSafety
          fun y => { y with reports := y.reports ++ [{ code := 0x04, port := if a.sp then 0x49 else 0x48 }] }).answerReg
            a 0 .parity)) ∧
    (a.write = false → a.parityOk = true →
      exec (.registerRead a) s = .next
        (((s.regReaches a).regRead a.addr).2.answerReg a ((s.regReaches a).regRead a.addr).1 .ok)) ∧
    (∀ c, (regPlace s.cfg a.addr).cluster? = some c → s.inRun c = true →
      ((s.cpower c).attempt = none → (s.regReaches a).cpower c = { s.cpower c with count := 0 }) ∧
      ((s.cpower c).attempt.isSome = true →
        (s.regReaches a).cpower c =
          { s.cpower c with
            attempt := none, wake := none, lastWake := 5, stopReq := false, count := 0
            aborts := { (s.cpower c).aborts with a1 := satAdd 0xFF (s.cpower c).aborts.a1 1 } }) ∧
      (∀ d, d ≠ c → (s.regReaches a).cpower d = s.cpower d) ∧
      { s.regReaches a with power := s.power } = s) ∧
    ((regPlace s.cfg a.addr).cluster? = none → s.regReaches a = s)

/-- A write changes the bytes that its strobes select and no other (R131).

A status register clears the bits that are written 1 and keeps the others (R438), for each of the twelve
interrupt groups; an enable register takes what is written, as far as the group has bits. -/
def Obligations.StrobesAndInterruptRegisters : Prop :=
  (∀ (a : RegAccess) (old i : Nat), i < 4 →
      bitsOf (a.over old) (8 * i) 8 =
        if bitOf a.strb.toNat i then bitsOf a.data.toNat (8 * i) 8 else bitsOf old (8 * i) 8) ∧
  (∀ (g : Nat) (a : RegAccess) (s : State), g < 12 →
      (∀ i < 32, bitOf ((s.writeIrq g false a).irqStatus g) i = (bitOf (s.irqStatus g) i && !bitOf a.sets i)) ∧
      (s.writeIrq g false a).irqEnable g = s.irqEnable g ∧
      (s.writeIrq g true a).irqStatus g = s.irqStatus g ∧
      (s.writeIrq g true a).irqEnable g =
        a.over (s.irqEnable g) % 2 ^ [32, 4, 11, 4, 8, 8, 9, 5, 4, 7, 9, 5].getD g 0)

/-- The ring registers (R60, R64, R446). A doorbell moves the producer index, and halts a ring that it overfills; a write
that enables a ring starts its indices at 0 and halts one whose sizes are not allowed; a write that clears EN disables it, and a
packet whose fetch has begun is still fetched; REPLY_RD moves
the read index of the reply ring, or halts the ring where the value is outside it.

CMDW_GO starts the packet in the window's buffer, or sets OVERRUN where the window is busy (R65). -/
def Obligations.RingAndWindowRows : Prop :=
  (∀ (n : Nat) (v : BitVec 32) (s : State), s.quiet = true → s.pins.pwrOk = true → n < 16 →
      ((s.ring n).halted = false →
        exec (.doorbell n v) s = .next
          (let t := s.onRing n fun r => { r with prod := BitVec.ofNat 17 v.toNat }
           (if (t.ring n).en ∧ 2 ^ (t.ring n).sizeLog2.toNat < (t.ring n).present then t.haltRing n .doorbell
            else t).answerReg (wordWrite false (0x030110 + n * 0x40) v) 0 .ok)) ∧
      ((s.ring n).en = false →
        exec (.ringEnable n v) s = .next
          (let t := (s.endFetch n).onRing n fun r =>
            { r with en := true, sizeLog2 := BitVec.ofNat 5 (v.toNat / 2), system := bitOf v.toNat 6, prod := 0, cons := 0
                     replyWr := 0, replyRd := 0, halted := false, haltCause := .none }
           (if (t.ring n).sizeOk && (t.ring n).replyOk then t else t.haltRing n .config).answerReg
            (wordWrite false (0x030104 + n * 0x40) (v ||| 1)) 0 .ok)) ∧
      ((s.ring n).en = true →
        exec (.ringDisable n) s = .next
          ((s.onRing n fun r => { r with en := false }).answerReg
            (wordWrite false (0x030104 + n * 0x40) (BitVec.ofNat 32 ((s.ring n).cfgWord / 2 * 2))) 0 .ok)) ∧
      ((s.ring n).unread (v.toNat % 2 ^ 17) ≤ 2 ^ (s.ring n).replyLog2.toNat →
        exec (.replyRdWrite n v) s = .next
          ((s.onRing n fun r => { r with replyRd := BitVec.ofNat 17 v.toNat }).answerReg
            (wordWrite false (0x030124 + n * 0x40) v) 0 .ok)) ∧
      (2 ^ (s.ring n).replyLog2.toNat < (s.ring n).unread (v.toNat % 2 ^ 17) →
        exec (.replyRdWrite n v) s = .next
          ((s.haltRing n .config).answerReg (wordWrite false (0x030124 + n * 0x40) v) 0 .ok))) ∧
  (∀ (sp : Bool) (s : State), s.quiet = true → s.pins.pwrOk = true →
      let a := wordWrite sp (if sp then 0x800D00 else 0x030D00) 1
      ((s.window sp).busy = false →
        exec (.cmdwGo sp) s = .next
          (((s.onWindow sp fun w => { w with busy := true, done := false, given := some w.buf }).answerReg
            a 0 .ok).settle)) ∧
      ((s.window sp).busy = true →
        exec (.cmdwGo sp) s = .next
          ((s.onWindow sp fun w => { w with overrun := true }).answerReg a 0 .ok)))

/-- The other registers that a row names: a port's context range (R114), its burst, which binds from the next XCK (R141), its mailbox (R67), a cluster's sampling,
which binds from the next XCK too (R217, R221), the correction log's oldest entry (R331), LEDGER_ACK (R413), the output test (R411), and TIME_LO, whose read latches the
rest of the time (R380). Nothing else of the block changes but the interface's answer. -/
def Obligations.NamedRegisterRows : Prop :=
  ∀ (v : BitVec 32) (s : State), s.quiet = true → s.pins.pwrOk = true →
    (∀ p, p < 65 → s.cfg.hasInitiator p = true →
      exec (.portCtxWrite p v) s = .next
        ((s.onPort p fun q =>
          { q with ctxBase := BitVec.ofNat 10 v.toNat, ctxCount := BitVec.ofNat 11 (v.toNat / 2 ^ 16) }).answerReg
          (wordWrite false (0x010000 + p * 0x20) v) 0 .ok)) ∧
    (∀ p, p < 65 → s.cfg.hasInitiator p = true →
      exec (.burstWrite p v) s = .next
        ((s.onPort p fun q =>
          { q with burstM1 := BitVec.ofNat 6 v.toNat, burstOld := q.burst s.clock.xck, burstAt := s.clock.xck + 1 }).answerReg
          (wordWrite false (0x012400 + p * 4) v) 0 .ok)) ∧
    (∀ p, p < 64 → s.cfg.hasInitiator p = true →
      exec (.mboxCfgWrite p v) s = .next
        ((s.onPort p fun q =>
          { q with mboxEn := bitOf v.toNat 0, mboxSystem := bitOf v.toNat 1, mboxReplyEn := bitOf v.toNat 2
                   mboxReplyRing := BitVec.ofNat 4 (v.toNat / 2 ^ 4) }).answerReg
          (wordWrite false (0x030800 + p * 4) v) 0 .ok)) ∧
    (∀ k, s.hasCluster k = true → s.inRun k = true →
      exec (.statCfgWrite k v) s = .next
        (((s.wakeCluster k 5).onCache k fun c =>
          { c with sampleLog2 := BitVec.ofNat 4 v.toNat, sampleOld := c.sample s.clock.xck, sampleAt := s.clock.xck + 1 }).answerReg
          (wordWrite false (0x080000 + k * 0x10000 + 0x0408) v) 0 .ok)) ∧
    (∀ k, s.hasCluster k = true → s.inRun k = true →
      exec (.clogPop k) s = .next
        (((s.wakeCluster k 5).onCtest k fun t => { t with clog := t.clog.tail }).answerReg
          (wordWrite false (0x080000 + k * 0x10000 + 0x0B08) 1) 0 .ok)) ∧
    exec (.ledgerAck v) s = .next
      ((s.onSafety fun y => { y with ack := v }).answerReg (wordWrite true 0x800024 v) 0 .ok) ∧
    (s.safety.test = none →
      exec .outputTest s = .next
        ((s.onSafety fun y => { y with test := some s.clock.elapsed }).answerReg (wordWrite true 0x800030 1) 0 .ok)) ∧
    (∀ sp, exec (.timeLoRead sp) s = .next
      ((s.onTime fun t =>
          { t with latchHi := BitVec.ofNat 32 (half64 s.now 1), latchFrac := BitVec.ofNat 32 t.now.toNat }).answerReg
        { sp := sp, write := false, addr := 0x050400 } (half64 s.now 0) .ok))

/-! ### Governor, power and time by themselves (06, 13) -/

/-- The governor's events. A window starts when it is due (R163): it closes the spends and opens the next with the budget of R172 at
the operating point, the limits and the highest temperature in force; a reading of sound sensors, when it is due, replaces what a
sensor shows, below 0 °C as 0, and the highest valid one is Tmax, with its flags (R173); a bellwether line that changes while its
port's clock runs is the urgency of its port, in Gray code (R158).

P_eff of R172: LIMIT up to T_HI, 0 from T_CRIT, and between them in proportion. -/
def Obligations.GovernorRows : Prop :=
  (∀ s : State, s.ready = true →
      (s.windowReady = true → ∃ t, exec .govWindowStart s = .next t ∧ t.gov.windows = s.gov.windows + 1 ∧
        t.gov.windowAt = s.clock.xck ∧ t.gov.limit = s.gov.limits.1 ∧ t.gov.tHi = s.gov.limits.2.1 ∧ t.gov.guarTemp = s.gov.limits.2.2 ∧
        t.gov.limitNext = none ∧ t.gov.spent = s.gov.spend ∧ t.gov.spend = 0 ∧
        t.gov.tb = 1000 * max s.gov.floor (effective s.gov.limits.1 s.gov.limits.2.1 s.gov.tmax -
          (if s.power.eco then s.gov.leakEco else s.gov.leakNom).get 0 (bandOf s.gov.tmax) - s.gov.ctrl) ∧
        (∀ p, (t.port p).spend = (s.port p).tollSpent ∧ (t.port p).tollSpent = 0 ∧ (t.port p).bytes = 0) ∧
        t.mem = s.mem) ∧
      (s.windowReady = false → exec .govWindowStart s = .next s) ∧
      (∀ k (d : Int), s.sensorsDue = true → k ∈ s.sensorsOf → (∀ j ∈ s.sensorsOf, (s.sensor j).failed = false) →
        exec (.sensorRead [(k, d)]) s = .next
          (let t := (s.onGov fun g => { g with sensorWin := g.windows + 1 }).onGov fun g =>
            { g with sensors := g.sensors.set k { deg := d.toNat, valid := true } }
           t.setTmax t.tmaxNow)) ∧
      (∀ n (lines : BitVec 2), n < 8 → s.portPresent (48 + n) = true → s.pins.clockStopped.get false (48 + n) = false →
        exec (.bellLevelChange n lines) s = .next
          (let level := bellLevel lines
           let t := s.onGov fun g => { g with
              bells := g.bells.set n { s.bell n with
                critCount := (if level = 3 ∧ (s.bell n).level ≠ 3 then (s.bell n).critCount + 1
                  else (s.bell n).critCount)
                level := level } }
           if (level = 3 ∧ (s.bell n).level ≠ 3) ∧ (s.bell n).critIrq = true then t.govFlag 9 else t))) ∧
  bellLevel 0b00 = 0 ∧ bellLevel 0b01 = 1 ∧ bellLevel 0b11 = 2 ∧ bellLevel 0b10 = 3 ∧
  (∀ limit tHi t : Nat,
      (t ≤ tHi → effective limit tHi t = limit) ∧
      (tHi < t → 110 ≤ t → effective limit tHi t = 0) ∧
      (tHi < t → t < 110 → effective limit tHi t = limit * (110 - t) / (110 - tHi)))

/-- Cluster STOP and its end (R364 to R370, R377): the expiry of the idle timer, or a STOP request, on an idle cluster begins an
attempt in XCK 0, unless a refuser refuses it, which is counted; in XCK 1 the cluster is ENTERING; a wake up to A1 abandons the attempt,
one up to A2 the entry, one up to A3 turns it round; the switches acknowledge within 10 µs of their request, and STOP follows in the next
XCK; a wake of a stopped cluster begins its exit with the cause recorded; its acknowledgement returns the cluster to RUN; switches
that do not acknowledge in time are a PWR_TIMEOUT. Which wakes A1 of a cluster samples is the model's reading (DEDUCED, log entry 67).

Block STOP, its rails and its clock (R371 to R377): the expiry of the block's timer where it may stop begins the attempt; A1, on the next
ACK edge (DEDUCED, log entry 67), begins the entry or abandons it; a wake of the stopped block begins its exit and asks for the array rail
of the operating point; an AVSBus answer with a bad CRC or a refusal is counted, and one that takes the write leaves the wait as it is; a
rail's acknowledgement within 200 µs records its voltage and goes on with the sequence; RCK_FACK at 1 for four SCK edges ends the wait for
the clock in an exit, and its return after a change of RCK_FSEL ends the frequency step. -/
def Obligations.PowerRows : Prop :=
  (∀ (k : Nat) (s : State), s.ready = true → s.hasCluster k = true →
      ((s.cpower k).mode = .run → (s.cpower k).attempt = none → s.clusterIdle k = true →
        ((s.cpower k).ticks ≠ 0 ∧ (s.cpower k).ticks ≤ (s.cpower k).count) ∨ (s.cpower k).stopReq = true →
        ((s.refusers k).any id = false →
          exec (.clusterIdleExpire k) s = .next
            ((s.onCpower k fun p =>
              { p with attempt := some s.clock.xck, count := 0
                       refusals := { p.refusals with attempts := p.refusals.attempts + 1 } }).goOn)) ∧
        ((s.refusers k).any id = true → (s.cpower k).stopReq = false →
          exec (.clusterIdleExpire k) s = .next
            ((s.onCpower k fun p =>
              { p with count := 0
                       refusals := { p.refusals with mask := refuserMask (s.refusers k), attempts := p.refusals.attempts + 1 }.add
                         (s.refusers k) }).goOn)) ∧
        (∀ t, (s.refusers k).any id = true → (s.cpower k).stopReq = true → (s.cpower k).refusedAt = some t →
          s.clock.xck < t + 4096 →
          exec (.clusterIdleExpire k) s = .next
            ((s.onCpower k fun p =>
              { p with count := 0
                       refusals := { p.refusals with mask := refuserMask (s.refusers k)
                                                     attempts := p.refusals.attempts + 1 } }).goOn))) ∧
      (∀ t, (s.cpower k).attempt = some t →
        s.entryXck k = s.onCpower k fun p =>
          { p with mode := .entering, attempt := none, entryAt := t, offAt := s.clock.xck }) ∧
      (∀ cause, ((s.cpower k).mode = .run ∧ (s.cpower k).attempt.isSome = true) ∨
          ((s.cpower k).mode = .entering ∧ s.clock.xck ≤ (s.cpower k).entryAt + 1) →
        (s.indicate k cause).cpower k =
          { s.cpower k with
            mode := .run, attempt := none, wake := none, lastWake := cause, stopReq := false, count := 0
            aborts := { (s.cpower k).aborts with a1 := satAdd 0xFF (s.cpower k).aborts.a1 1 } }) ∧
      (∀ cause t, (s.cpower k).mode = .entering → (s.cpower k).wake = some (cause, t) → t ≤ (s.cpower k).entryAt + 4 →
        (s.cpower k).entryAt + 4 ≤ s.clock.xck →
        exec (.clusterWake k) s = .next
          (((s.onCpower k fun p =>
            { p with lastWake := cause, stopReq := false
                     aborts := { p.aborts with a2 := satAdd 0xFF p.aborts.a2 1 } }).backToRun k).goOn)) ∧
      (s.switchesAsked k = true → s.clock.elapsed ≤ (s.cpower k).since + 240000 →
        exec (.retentionSwitchAck k) s = .next (((s.ackRun 6).onCpower k fun p => { p with acked := true }).goOn)) ∧
      ((s.cpower k).mode = .entering → (s.cpower k).attempt = none → (s.cpower k).acked = true →
        ((s.cpower k).wake = none →
          s.entryXck k = s.onCpower k fun p =>
            { p with mode := .stop, acked := false, stopAt := s.clock.elapsed, stopNsAt := s.ns
                     aborts := { p.aborts with stops := p.aborts.stops + 1 } }) ∧
        (∀ cause t, (s.cpower k).wake = some (cause, t) →
          s.entryXck k = s.onCpower k fun p =>
            { p with mode := .exiting, since := s.clock.elapsed, wake := none, acked := false, lastWake := cause, stopReq := false
                     aborts := { p.aborts with a3 := satAdd 0xFF p.aborts.a3 1 } })) ∧
      (∀ cause t, (s.cpower k).mode = .stop → (s.cpower k).wake = some (cause, t) →
        exec (.clusterWake k) s = .next
          (((s.leaveStop k).onCpower k fun p =>
            { p with mode := .exiting, since := s.clock.elapsed, wake := none, lastWake := cause
                     stopReq := false }).goOn)) ∧
      ((s.cpower k).mode = .exiting →
        exec (.clusterExitComplete k) s = .next (((s.ackRun 7).backToRun k).goOn)) ∧
      (s.switchesAsked k = true → (s.cpower k).since + 240000 ≤ s.clock.elapsed →
        exec (.pwrTimeout 6 k) s = .next
          (((s.powerTimeout 6 k).onCpower k fun p => p.abandonA3 s.clock.elapsed).goOn)) ∧
      ((s.cpower k).mode = .exiting → (s.cpower k).since + 720000 ≤ s.clock.elapsed →
        exec (.pwrTimeout 7 k) s = .next
          (((s.powerTimeout 7 k).onCpower k fun p =>
            { p with mode := .stop, stopAt := s.clock.elapsed, stopNsAt := s.ns, since := s.clock.elapsed
                     wake := some (p.lastWake, s.clock.xck) }).goOn))) ∧
  (∀ s : State,
      (s.ready = true → s.power.block = .run → s.power.work = .none → s.power.attempt = false → s.power.ticks ≠ 0 →
        s.power.ticks ≤ s.power.count → s.blockMayStop = true → s.blockRefusers.any id = false →
        exec .blockIdleExpire s = .next
          ((s.onPower fun p =>
            { p with attempt := true, count := 0
                     refusals := { p.refusals with attempts := p.refusals.attempts + 1 } }).goOn)) ∧
      (s.power.attempt = true →
        (s.power.wake = true →
          s.blockA1 = s.onPower fun p =>
            { p with attempt := false, wake := false, aborts := { p.aborts with a1 := satAdd 0xFF p.aborts.a1 1 } }) ∧
        (s.power.wake = false →
          s.blockA1 = s.onPower fun p =>
            { p with block := .entering, work := .entry, steps := [.logLower, .arrLower], beforeA2 := true, stopDue := true
                     since := s.clock.elapsed, attempt := false })) ∧
      (s.power.wake = true → s.power.block = .stop →
        exec .blockWake s = .next
          ((s.onPower fun p =>
            { p with block := .exiting, rckIdle := false, work := .exit, steps := [.arrRaise, .logRaise, .rckFack]
                     since := s.clock.elapsed, wake := false, blkStopReq := false
                     arrSet := (railsAt p.eco).2 }).goOn)) ∧
      (s.power.wake = true → s.power.block = .entering → s.power.beforeA2 = true → s.clock.running = false →
        exec .blockWake s = .next
          (((s.onPower fun p => { p with aborts := { p.aborts with a2 := satAdd 0xFF p.aborts.a2 1 } }).blockRuns).goOn)) ∧
      (∀ x rest, s.power.steps = x :: rest → x.rail = true → s.power.work ≠ .none → s.power.stopDue = false →
        s.power.beforeA2 = false →
        exec (.avsStatusPoll true true) s = .next s.goOn ∧
        (∀ taken, exec (.avsStatusPoll false taken) s = .next
          ((s.onPower fun p => { p with avsCrc := satAdd 0xFF p.avsCrc 1 }).goOn)) ∧
        exec (.avsStatusPoll true false) s = .next
          ((s.onPower fun p => { p with avsRefused := satAdd 0xFF p.avsRefused 1 }).goOn) ∧
        (∀ mv, s.clock.elapsed ≤ s.power.since + 4800000 → exec (.avsVoltageAck mv) s = .next
          (((s.ackRun x.code).onPower fun p =>
            { p with logMv := if x.isLog then mv else p.logMv
                     arrMv := if x.isLog then p.arrMv else mv }).nextStepDone.goOn))) ∧
      (∀ rest, s.power.work = .exit → s.power.steps = .rckFack :: rest →
        exec (.rckFackChange true) s = .next (({ s with pins := { s.pins with rckFack := true } } : State).goOn) ∧
        (s.pins.rckFack = true → s.safety.rckLost = false →
          (s.power.fackEdges < 3 → s.exitEdge = s.onPower fun p => { p with fackEdges := p.fackEdges + 1 }) ∧
          (s.power.fackEdges = 3 → s.exitEdge = (s.ackRun 5).blockRuns))) ∧
      (∀ rest, s.power.work = .opPoint → s.power.steps = .rckFack :: rest → s.power.fackLow = true →
        s.clock.running = false →
        exec (.rckFackChange true) s = .next
          ((({ s with pins := { s.pins with rckFack := true } } : State).ackRun 5).endFrequency.nextStepDone.goOn)))

/-- The time base's own events: a timer wake fires once, on an ACK edge behind its completion point at which its target has been reached
(R382); a crossing of WAKE_AIN, armed and enabled, is counted, disarms, sets its status bit, at once in RUN and else when the block is
in RUN again, wakes the block, and is present two XCK later at the clusters that it names; it is armed again below its threshold
(R368, R379, R442); the SCK check, every 1 ms, shows the rate, and a rate outside
0.5 % sets SCK_BAD (R381); a master's pulse rises on the ACK edge on which TIME has reached or passed a multiple of its period (R385); a
slave's pulse is counted, and corrected where its time is set and its clocks run; one that is missing for two periods clears LOCKED
(R386). -/
def Obligations.TimeRows : Prop :=
  ∀ s : State, s.ready = true →
    (∀ k, s.hasCluster k = true → k ≠ 0xFE → (s.cpower k).timer.en = true → s.clock.xck % 32 = 0 →
      (s.cpower k).timer.setAt < s.clock.acks → serialGe64 s.now (s.cpower k).timer.target = true →
      exec (.timerWakeFire k) s = .next
        ((s.onCpower k fun p => { p with timer := { p.timer with en := false } }).indicateAt k 3)) ∧
    (s.power.timer.en = true → s.clock.xck % 32 = 0 → s.power.timer.setAt < s.clock.acks →
      serialGe64 s.now s.power.timer.target = true →
      exec (.timerWakeFire 0xFE) s = .next
        ((s.onPower fun p => { p with timer := { p.timer with en := false } }).wakeBlock)) ∧
    (∀ k, s.clock.xck % 32 ≠ 0 → exec (.timerWakeFire k) s = .next s) ∧
    (s.power.ain.en = true → s.power.ain.armed = true → s.power.ain.disabled = false → s.power.ain.irq = true →
      (s.power.block = .run →
        exec .wakeAinCrossing s = .next
          (((s.onPower fun p =>
            { p with ain := { p.ain with armed := false, crossings := p.ain.crossings + 1, due := some (s.clock.xck + 2)
                                         flagDue := false } }).powerEvent 1 0xF 0).wakeBlock)) ∧
      (s.power.block ≠ .run →
        exec .wakeAinCrossing s = .next
          ((s.onPower fun p =>
            { p with ain := { p.ain with armed := false, crossings := p.ain.crossings + 1, due := some (s.clock.xck + 2)
                                         flagDue := true } }).wakeBlock))) ∧
    (∀ t, s.power.ain.due = some t → t ≤ s.clock.xck →
      (∀ c, s.hasCluster c = true →
        (s.cpower c).mode = .stop ∧ (s.cpower c).attempt = none ∧ (s.cpower c).wake = none) →
      ∀ c, s.hasCluster c = true → bitOf s.power.ain.clusters.toNat c = true →
        (s.powerXck.cpower c).wake = some (4, s.clock.xck)) ∧
    exec .wakeAinRearm s = .next (s.onPower fun p => { p with ain := { p.ain with armed := true } }) ∧
    (∀ hz : BitVec 25, s.power.block = .run → s.sckDue = true → 24875000 ≤ hz.toNat → hz.toNat ≤ 25125000 →
      exec (.sckCheck hz) s = .next
        (s.onPower fun p => { p with sckHz := hz, sckBad := false, sckAt := some s.worked })) ∧
    (∀ hz : BitVec 25, s.power.block = .run → s.sckDue = true → hz.toNat < 24875000 ∨ 25125000 < hz.toNat →
      exec (.sckCheck hz) s = .next
        (((s.onPower fun p => { p with sckHz := hz, sckBad := true, sckAt := some s.worked }).powerEvent 7 0xF 0).onSafety fun y =>
          { y with reports := y.reports ++ [{ code := 0x43 }] })) ∧
    (s.time.mode = 1 → s.time.unset = false → s.time.periodUnits ≠ 0 → s.time.outHigh = 0 → s.clock.xck % 32 = 0 →
      s.time.edge ≠ s.time.edgeBefore → (s.time.edge - s.time.edgeBefore).toNat < 2 ^ 95 →
      s.time.edge.toNat / s.time.periodUnits ≠ s.time.edgeBefore.toNat / s.time.periodUnits →
      exec .tsyncPulseOut s = .next (s.onTime fun t => { t with outHigh := 8 })) ∧
    (s.time.mode = 2 → s.time.unset = false → s.time.lost = false → s.power.block = .run →
      exec .tsyncPulseIn s = .next
        (let t := s.onTime fun t => { t with pulses := t.pulses + 1, lastPulse := t.advance }
         let e := t.tsyncOffset
         (((t.onTime fun b =>
            { b with offset := max (-(2 ^ 31)) (min (2 ^ 31 - 1) (Int.tdiv e (2 ^ 32))) }).tsyncCorrect e).tsyncLock e))) ∧
    (s.time.mode = 2 → s.power.block = .run → s.time.tsLost = false →
      s.time.lastPulse + 2 * (s.time.periodUnits : Int) ≤ s.time.advance →
      exec .tsyncPulseMissing s = .next
        ((s.onTime fun t => { t with locked := false, good := 0, tsLost := true }).powerEvent 5 0xF 0))

/-! ### The safety partition's own events (14) -/

/-- A report that reaches the collector leaves the list of those pending, is recorded at its level, and has that level's reaction: none
beside the ledger at LOG and NOTIFY, the stop of its Shepherd at HALF, Safe Hold at HOLD (R397, R399). Before it the fault is kept from
the data that it strikes (R390 to R395): the head write of a bank strays and is left unwritten, a granule of it or of a read is spoiled,
a response is discarded, a request is mistranslated, a grant is muted, a table's entry is made invalid; which piece, response or request is
struck is the model's choice (log entry 71). -/
def Obligations.FaultReaction : Prop :=
  (∀ (f : FaultInfo) (s : State), s.pins.pwrOk = true → listedCode f.code = true → f.code ≠ 0x21 →
    let t := (s.strike f).onSafety fun y => { y with reports := y.reports.erase f }
    let u := t.record f (t.levelOf f)
    (t.levelOf f < 2 → exec (.faultReport f) s = .next u.goOn) ∧
    (∀ h, t.levelOf f = 2 → f.shepherd = some h → exec (.faultReport f) s = .next ((u.halfReaction h).goOn)) ∧
    (t.levelOf f = 3 → exec (.faultReport f) s = .next ((u.beginHold f.code true).goOn))) ∧
  (∀ (f : FaultInfo) (s : State),
    (f.hit = none → s.strike f = s) ∧
    (∀ h, f.hit = some h → h.fits f.code = false → s.strike f = s) ∧
    (∀ bank e rest, f.hit = some (.row bank) → f.code = 0x16 → (s.bankq bank).wbuf = e :: rest →
      s.strike f = s.onBankq bank fun q =>
        { q with wbuf := { e with piece := { e.piece with strayed := true } } :: rest }) ∧
    (∀ bank g e rest, f.hit = some (.granule bank false g) → f.code = 0x19 ∨ f.code = 0x17 → (s.bankq bank).wbuf = e :: rest →
      s.strike f = s.onBankq bank fun q =>
        { q with wbuf := { e with piece := { e.piece with forced := setBit e.piece.forced g } } :: rest }) ∧
    (∀ bank g x rest, f.hit = some (.granule bank true g) → f.code = 0x19 → (s.bankq bank).reads = x :: rest →
      s.strike f = s.onBankq bank fun q => { q with reads := { x with forced := setBit x.forced g } :: rest }) ∧
    (∀ p r rest, f.hit = some (.response p) → f.code = 0x18 → (s.port p).resp = r :: rest →
      s.strike f = s.onPort p fun q => { q with resp := rest }) ∧
    (∀ p, f.hit = some (.request p) → f.code = 0x20 → s.strike f = s.onPort p fun q => { q with mistrans := true }) ∧
    (∀ n read, f.hit = some (.grant n read) → f.code = 0x21 →
      s.strike f = s.onSub n fun u => u.onSide read fun w => { w with muted := true }) ∧
    (∀ e, f.hit = some (.entry (.fold e)) → f.code = 0x23 →
      s.strike f = s.onFolds fun u => { u with entries := u.entries.erase e }) ∧
    (∀ i, f.hit = some (.entry (.region i)) → f.code = 0x23 → (s.strike f).region? i = none) ∧
    (∀ i, f.hit = some (.entry (.view i)) → f.code = 0x23 → (s.strike f).view? i = none) ∧
    (∀ i, f.hit = some (.entry (.population i)) → f.code = 0x23 → (s.strike f).pop? i = none))

/-- A new entry of the ledger takes the next sequence number and the place of the entry 1024 before it, shows the code, the level, the
time and the place, and raises SAFE_IRQ_STATUS.NOTIFY from that level up; no other entry changes; where the entry that it overwrites is of
NOTIFY or above and not acknowledged, OVERRUN counts and its flag is set. An occurrence like the newest entry, unacknowledged and
within 1 ms of it, is counted in REPEAT of that entry and makes none (R412, R413). That steps of shedding and restoration are alike only
with equal DETAIL is the model's reading of Example 6-2 (DEDUCED, log entry 71). -/
def Obligations.LedgerEntry : Prop :=
  ∀ (f : FaultInfo) (level : Nat) (s : State),
    let t := s.record f level
    let i := (s.safety.head + 1).toNat % 1024
    ((∀ e, s.safety.newest = some e → s.safety.coalesces s.now f e = false) →
      t.safety.head = s.safety.head + 1 ∧
      (∃ e, t.safety.ledger.find? i = some e ∧ e.seq = s.safety.head + 1 ∧
        e.code = f.code ∧ e.reaction = level ∧ e.time = s.now ∧ e.inHold = s.safety.hold ∧ e.cluster = f.cluster ∧
        e.bank = f.bank ∧ e.port = f.port ∧ ∀ d, f.detail = some d → e.detail = d) ∧
      (∀ j, j ≠ i → t.safety.ledger.find? j = s.safety.ledger.find? j) ∧
      (1 ≤ level → bitOf t.safety.irq.toNat 0 = true) ∧ t.mem = s.mem ∧
      (∀ e, s.safety.ledger.find? i = some e → 1 ≤ e.reaction → s.safety.acked e = false →
        t.safety.overrun = satAdd 0xFFFF s.safety.overrun 1 ∧ bitOf t.safety.irq.toNat 3 = true) ∧
      ((∀ e, s.safety.ledger.find? i = some e → e.reaction = 0 ∨ s.safety.acked e = true) →
        t.safety.overrun = s.safety.overrun ∧ bitOf t.safety.irq.toNat 3 = bitOf s.safety.irq.toNat 3)) ∧
    (∀ e, s.safety.newest = some e → e.code = f.code → e.cluster = f.cluster → e.bank = f.bank → e.port = f.port →
      f.sameStep e = true → e.bad = false → s.safety.acked e = false →
      ((s.now.setWidth 32 : BitVec 32) - e.lastTime).toNat ≤ 1000000 →
      t.safety.head = s.safety.head ∧ t.safety.overrun = s.safety.overrun ∧
        t.safety.ledger.find? (s.safety.head.toNat % 1024) =
          some { e with rept := satAdd 0xFFFF e.rept 1, lastTime := s.now.setWidth 32 } ∧
        (∀ j, j ≠ s.safety.head.toNat % 1024 → t.safety.ledger.find? j = s.safety.ledger.find? j) ∧
        (1 ≤ level → bitOf t.safety.irq.toNat 0 = true) ∧ t.mem = s.mem)

/-- The rows of the safety partition: the holder's claim and a Shepherd's watchdog write restart their ages (R402, R403); three equal
copies that name a Shepherd in service, whose claim is in time and which the other does not dispute, pass the check of the token;
copies that do not agree are put right and are 0x32, a claim of the other Shepherd is 0x30, a claim that does not come in time is 0x31, a
holder that is not in service gives the token to the other with 0x6B, and where neither is, or no majority is valid, it is lost: 0x33 and
Safe Hold (R404, R405); a watchdog that runs out is fault 0x35 of its Shepherd (R402); the sequencers' mismatch enters Safe Hold with no entry of its
own (R396); a loss of RCK stops the clocks, and its return reports 0x46 (R396); the output test's end records 0x6D, or 0x25 with its
flag (R411); a half's reset ends with the Shepherd in service, 0x6A and its command's record (R409).

The return of RCK: clocks that its loss stopped run again with no time added, and 0x46 is recorded; where they stood anyway they
stand on, and 0x46 is recorded once they run (R396, R454).
The moments of the stop and the restart are the model's (log entry 33). -/
def Obligations.SafetyRows : Prop :=
  (∀ (s : State) (half : Bool), s.ready = true →
      (s.runs half = true →
        exec (.crookClaim half) s = .next
          (s.onSafety fun y =>
            if half then
              { y with claimB := some s.worked, claimedB := true
                       heldClaim := y.heldClaim || s.holder == some half }
            else
              { y with claimA := some s.worked, claimedA := true
                       heldClaim := y.heldClaim || s.holder == some half })) ∧
      (s.runs half = true →
        exec (.watchdogWrite half) s = .next
          (s.onSafety fun y => if half then { y with wdogB := s.worked } else { y with wdogA := s.worked })) ∧
      (∀ t, s.safety.crookFrom = some t → t ≤ s.worked → s.inService half = true → s.safety.claimed (!half) = false →
        s.claimAge half < claimLimit →
        exec (.crookTokenCheck (tokenCode half) (tokenCode half) (tokenCode half)) s = .next
          ((s.onSafety fun y =>
            { y with copy0 := tokenCode half, copy1 := tokenCode half, copy2 := tokenCode half
                     claimedA := false, claimedB := false }).goOn)) ∧
      (∀ t c0 c1 c2, s.safety.crookFrom = some t → t ≤ s.worked →
        let u := s.onSafety fun y => { y with copy0 := c0, copy1 := c1, copy2 := c2 }
        let ends (x : State) : State := (x.onSafety fun y => { y with claimedA := false, claimedB := false }).goOn
        (majority c0 c1 c2 = some half → ¬ (c0 = c1 ∧ c1 = c2) →
          exec (.crookTokenCheck c0 c1 c2) s = .next
            (ends ((u.onSafety fun y =>
              { y with copy0 := tokenCode half, copy1 := tokenCode half, copy2 := tokenCode half }).fault { code := 0x32 }))) ∧
        (c0 = tokenCode half → c1 = tokenCode half → c2 = tokenCode half → s.safety.claimed (!half) = true →
          s.inService half = true → s.claimAge half < claimLimit →
          exec (.crookTokenCheck c0 c1 c2) s = .next
            (ends (u.fault { code := 0x30, port := shepherdPort (!half) }))) ∧
        (c0 = tokenCode half → c1 = tokenCode half → c2 = tokenCode half → s.inService half = true →
          claimLimit ≤ s.claimAge half →
          exec (.crookTokenCheck c0 c1 c2) s = .next (ends (u.fault { code := 0x31, port := shepherdPort half }))) ∧
        (c0 = tokenCode half → c1 = tokenCode half → c2 = tokenCode half → s.inService half = false →
          s.inService (!half) = true →
          exec (.crookTokenCheck c0 c1 c2) s = .next (ends (u.nameHolder (!half)))) ∧
        (c0 = tokenCode half → c1 = tokenCode half → c2 = tokenCode half → s.inService half = false →
          s.inService (!half) = false → s.safety.tokenLost = false →
          exec (.crookTokenCheck c0 c1 c2) s = .next
            (ends (((u.onSafety fun y => { y with tokenLost := true }).record { code := 0x33 } (s.reaction 0x33)).beginHold
              0x33 true))) ∧
        (majority c0 c1 c2 = none → s.safety.tokenLost = false →
          exec (.crookTokenCheck c0 c1 c2) s = .next
            (ends (((u.onSafety fun y =>
              { y with copy0 := 0, copy1 := 0, copy2 := 0, tokenLost := true }).record { code := 0x33 }
                (s.reaction 0x33)).beginHold 0x33 true)))) ∧
      (let u := s.nameHolder half
       u.safety.copy0 = tokenCode half ∧ u.safety.copy1 = tokenCode half ∧ u.safety.copy2 = tokenCode half ∧
         u.safety.heldClaim = false ∧ u.safety.tokenLost = false ∧ u.safety.claim half = some s.worked) ∧
      (s.runs half = true → s.safety.wdogEn = true → s.fw.state ≠ .switching →
        (if half then s.safety.wdogB else s.safety.wdogA) + s.safety.wdogMs * msec ≤ s.worked →
        exec (.watchdogExpire half) s = .next
          ((s.fault { code := 0x35, port := shepherdPort half }).goOn)) ∧
      exec .sequencerMismatch s = .next
        (((s.onSafety fun y => { y with seqBad := true }).beginHold 0 false).goOn) ∧
      (s.pins.pwrOk = true → s.power.rckIdle = false → s.safety.rckLost = false →
        exec .rckLoss s = .next (s.stopClocks.onSafety fun y => { y with rckLost := true, rckStood := true })) ∧
      (∀ t, s.safety.test = some t → t + 240000 ≤ s.clock.elapsed →
        exec (.outputTestEnd true) s = .next
            (((s.onSafety fun y => { y with test := none, pass := true }).log { code := 0x6D }).goOn) ∧
          exec (.outputTestEnd false) s = .next
            ((((s.onSafety fun y => { y with test := none, pass := false }).onSafety fun y =>
              { y with irq := setBit y.irq 4 }).fault { code := 0x25 }).goOn)) ∧
      (∀ c0 c1 c2, s.safety.crookFrom = none →
        exec (.crookTokenCheck c0 c1 c2) s = .next
          ((s.onSafety fun y => { y with copy0 := c0, copy1 := c1, copy2 := c2 }).goOn)) ∧
      (∀ r, s.resetOf half = some r → s.fw.state = .running → (s.image s.fw.active).state ≠ .empty →
        exec (.halfResetComplete half) s = .next
          (let t := (s.onFw fun w => if half then { w with runB := true } else { w with runA := true }).onSafety fun y =>
             let y := if majority y.copy0 y.copy1 y.copy2 = some half then { y with heldClaim := false, tokenLost := false } else y
             if half then { y with halfB := false, resetB := none, wdogB := s.worked, claimB := some s.worked }
             else { y with halfA := false, resetA := none, wdogA := s.worked, claimA := some s.worked }
           ((((t.log { code := 0x6A, port := shepherdPort half }).onSafety fun y =>
              { y with resetDone := y.resetDone || y.hold }).finish r.token r.cmd { status := .ok }).goOn)))) ∧
  (∀ s : State, s.safety.rckLost = true →
      let t := s.onSafety fun y => { y with rckLost := false, rckStood := false }
      (s.safety.rckStood = true →
        exec .rckReturn s = .next
          (((({ t with clock := { t.clock with running := true, sck := 0 } } : State).fault { code := 0x46 }).pumpAll).goOn)) ∧
      (s.safety.rckStood = false → s.clock.running = false →
        exec .rckReturn s = .next
          ((t.onSafety fun y => { y with reports := y.reports ++ [{ code := 0x46 }] }).goOn)))

/-! ### Firmware, the service port and the monitor (15) -/

/-- The steps of an activation (R423, R424, R426): its edge stops the firmware; at the safe point the slot becomes active with the old
one to fall back to, and the boot record says so; an activation that has not reached the safe point in a second is dropped; the new image
runs and its trial begins; one that does not start falls back; a trial that is not confirmed in its window falls back. At boot the slot
that R427 chooses runs: a trial falls back to its confirmed slot, else the named confirmed slot, else the other where it is marked
confirmed; with none of these and a slot marked, or no device, firmware has failed. What is written to the boot record is what the record
in force then says, whichever copy it went to (R417; its bytes are the model's, log entry 68). -/
def Obligations.ActivationRows : Prop :=
  (∀ (w : Firmware) (r : BootRecord), r.active < 2 → (∀ k, r.trial = some k → k < 2) → (w.setBoot r).boot = r) ∧
  ∀ s : State,
    (∀ a, s.ready = true → s.fw.pendingAct = some a → a.edge = none → s.fw.state = .running →
      serialGe64 s.now a.target = true →
      exec .activationEdge s = .next
        (((((s.onFw fun w => { w with state := .switching, runA := false, runB := false }).onSafety fun y =>
          { y with crookFrom := none }).onFw fun w => { w with pendingAct := some { a with edge := some s.worked } })).goOn)) ∧
    (∀ a, s.ready = true → s.fw.pendingAct = some a → a.edge.isSome = true → a.safe = none → s.safePoint a = true →
      s.fw.fallback = none →
      exec .activationSafePoint s = .next
        ((s.onFw fun w =>
          { w.setBoot { w.boot with active := a.slot, trial := some s.fw.active } with
              pendingAct := some { a with safe := some s.worked }, active := a.slot, trialAt := none }).goOn)) ∧
    (∀ a t, s.fw.pendingAct = some a → a.edge = some t → a.cmd.isSome = true → a.safe = none →
      t + 1000 * msec ≤ s.worked →
      exec .activationTimeout s = .next ((s.dropActivation a .timeout).goOn)) ∧
    (∀ a, s.fw.pendingAct = some a → s.fw.state = .switching → a.safe.any (fun t => decide (s.worked ≤ t + 30 * msec)) = true →
      s.verify a.slot = 0 →
      exec .imageRunning s = .next
        (((((((s.runImage a.slot).onFw fun w =>
          { w with pendingAct := none, fallback := none
                   trialAt := if s.fw.fallback.isSome then none else some s.time.advance }).armToken
          false).applySettings.startTests).fwFlag 2).endActivation a .ok).goOn)) ∧
    (∀ a t old, s.fw.pendingAct = some a → a.safe = some t → s.fw.state = .switching → t + 30 * msec ≤ s.worked →
      s.fw.fallback = none → s.fw.boot.trial = some old →
      exec .imageStartTimeout s = .next
        (((s.onFw fun w =>
          { w with fallback := some a.slot
                   pendingAct := some { slot := old, target := s.now, edge := some s.worked } }).endActivation a
          .timeout).goOn)) ∧
    (∀ t old, s.fw.trialAt = some t → s.fw.state = .running → t + s.fw.windowNs * 2 ^ 32 ≤ s.time.advance →
      s.fw.boot.trial = some old → s.fw.fallback = none →
      exec .confirmWindowExpire s = .next
        (((((s.onFw fun w => { w with state := .switching, runA := false, runB := false }).onSafety fun y =>
          { y with crookFrom := none }).onFw fun w =>
            { w with fallback := some w.active
                     pendingAct := some { slot := old, target := s.now, edge := some s.worked } })).goOn)) ∧
    (s.integ.postDone = true → s.fw.state = .off ∨ s.fw.state = .booting →
      (∀ k trial back, s.readBoot.bootChoice = some (k, trial, back) →
        exec (.firmwareBoot true) s = .next
          (let t := s.readBoot.onFw fun w =>
            { w.setBoot { w.boot with active := k, trial := trial } with
                trialAt := if trial.isSome then some s.time.advance else none }
           let t := if back then (t.log { code := 0x66 }).fwFlag 0 else t
           (((((t.runImage k).armToken (s.half false)).applySettings).startTests).goOn))) ∧
      (s.readBoot.bootChoice = none →
        exec (.firmwareBoot true) s = .next ((s.readBoot.onFw fun w => { w with state := .failed }).goOn)) ∧
      exec (.firmwareBoot false) s = .next ((s.onFw fun w => { w with state := .failed }).goOn)) ∧
    (let good := fun k => s.fw.boot.confirmed k = true ∧ s.verify k = 0
     (∀ old, s.fw.boot.trial = some old → good old → s.bootChoice = some (old, none, true)) ∧
      ((∀ old, s.fw.boot.trial = some old → ¬ good old) →
        (good s.fw.boot.active → s.bootChoice = some (s.fw.boot.active, none, false)) ∧
        (¬ good s.fw.boot.active → good (1 - s.fw.boot.active) →
          s.bootChoice = some (1 - s.fw.boot.active, none, true)) ∧
        (¬ good s.fw.boot.active → ¬ good (1 - s.fw.boot.active) →
          s.fw.boot.confA = true ∨ s.fw.boot.confB = true → s.bootChoice = none)))

/-- The frames of the service port (R418 to R421). While it does not serve, a frame is answered with its status and ends NOT_READY, and its
edge wakes the block (R373). While it serves: a STATUS frame answers; a frame with an unknown OP, or whose length or CRC is wrong, sets
its result and does nothing more, and any other has the effect of its row; IMG_OPEN erases
a slot that is not locked and opens it; IMG_BLOCK takes a block, which is then programmed; IMG_CLOSE begins the check of a complete
image, whose end marks it verified, or leaves it with the number of the check that failed; a read takes bytes off the output.

The monitor (R431, R432): a character enters its FIFO; CR or LF ends a line, and a character past the 128th is dropped; a command that
the lifecycle state allows, with good operands, is answered with what it shows and OK, and one that it does not allow is refused with
LIFECYCLE. Of a frame that is wrong in two ways BAD_OP is shown, and what a long line loses is its end: both are the model's choice
(log entries 68, 69).
The form of the monitor's answers is the model's (log entry 19). -/
def Obligations.ServiceAndMonitorRows : Prop :=
  (∀ s : State, s.svcReady = true →
      let t := (s.onSvc fun v => { v with lastAnswer := s.svcStatus }).wakeBlock
      s.pins.pwrOk = true →
      exec .svcStatus s = .next t ∧
      (∀ f : SvcFrame, f.mosi = [] →
        exec (.svcBadFrame f) s = .next ((t.onSvc fun v => { v with result := 1, vcheck := 0 }).goOn)) ∧
      (∀ (f : SvcFrame) b rest, f.mosi = b :: rest →
        (svcOp b.toNat = none →
          exec (.svcBadFrame f) s = .next ((t.onSvc fun v => { v with result := 8, vcheck := 0 }).goOn)) ∧
        (∀ op, svcOp b.toNat = some op →
          (frameOk op f.mosi = false →
            exec (.svcBadFrame f) s = .next ((t.onSvc fun v => { v with result := 1, vcheck := 0 }).goOn)) ∧
          (frameOk op f.mosi = true →
            exec (.svcBadFrame f) s = .next ((s.svcRun op f.mosi f.flashOk).goOn)))) ∧
      (∀ arg : BitVec 32, s.safety.lifecycle ≠ 4 → s.fw.svc.busy = false → arg.toNat ≤ 1 → s.slotLocked arg.toNat = false →
        exec (.imgOpen arg true) s = .next
          ((((t.onImage arg.toNat fun l => { state := .empty, blocks := l.blocks.erase 0 }).onFw fun w =>
            w.setBoot (w.boot.mark arg.toNat false)).svcResult 0).onSvc fun v =>
            { v with open_ := some arg.toNat, blocks := 0, done := [] })) ∧
      (∀ (arg : BitVec 32) (data : BitVec 32768) (k : Nat), s.safety.lifecycle ≠ 4 → s.fw.svc.busy = false →
        s.fw.svc.open_ = some k → arg.toNat < 256 →
        exec (.imgBlock arg data) s = .next
          ((t.svcResult 0).onSvc fun v => { v with busy := true, staging := v.staging ++ [(arg.toNat, data)] })) ∧
      (∀ (arg : BitVec 32) (k : Nat), s.safety.lifecycle ≠ 4 → s.fw.svc.busy = false → s.fw.svc.open_ = some k →
        arg.toNat ≠ 0 → arg.toNat ≤ 256 → (∀ i, i < arg.toNat ↔ i ∈ s.fw.svc.done) →
        exec (.imgClose arg) s = .next
          ((t.svcResult 0).onSvc fun v => { v with busy := true, closing := some (k, arg.toNat) })) ∧
      (∀ len, len ≤ 4096 →
        exec (.svcRead len) s = .next
          ((((t.svcResult 0).onSvc fun v =>
            { v with out := v.out.drop len
                     lastAnswer := v.lastAnswer ++
                       (v.out.take len ++ List.replicate (len - (v.out.take len).length) 0) ++
                       toBytes 4 (crc32c (v.out.take len ++ List.replicate (len - (v.out.take len).length) 0)) }).endReadDump).goOn))) ∧
  (∀ s : State,
      (s.pins.pwrOk = true → s.svcReady = false →
        exec .svcStatus s = .next
          (((s.onSvc fun v => { v with lastAnswer := s.svcStatus }).wakeBlock).onSvc fun v =>
            { v with result := 6, vcheck := 0 })) ∧
      (∀ i data rest k, s.fw.svc.staging = (i, data) :: rest → s.fw.svc.open_ = some k →
        exec (.imgBlockProgrammed true) s = .next
          (((s.onImage k fun l => { l with blocks := l.blocks.set i data }).svcResult 0).onSvc fun v =>
            { v with staging := rest, busy := !rest.isEmpty, done := s.fw.svc.done.filter (fun j => j != i) ++ [i]
                     blocks := (s.fw.svc.done.filter (fun j => j != i) ++ [i]).length })) ∧
      (∀ k n, s.fw.svc.closing = some (k, n) →
        let ends := fun (u : State) (r check : Nat) =>
          (u.onSvc fun v =>
            { v with busy := false, closing := none, open_ := none, done := [], result := r, vcheck := check }).fwFlag 3
        ((s.image k).length = 4096 * n → s.verify k = 0 →
          exec .imgCloseEnd s = .next (ends (s.onImage k fun l => { l with state := .verified }) 0 0)) ∧
        ((s.image k).length = 4096 * n → s.verify k ≠ 0 →
          exec .imgCloseEnd s = .next (ends s 5 (s.verify k))) ∧
        ((s.image k).formOk = true → (s.image k).length ≠ 4096 * n → exec .imgCloseEnd s = .next (ends s 5 1))) ∧
      (∀ ch, s.pins.pwrOk = true → s.fw.mon.fifo.length < 64 → s.power.block = .run → s.power.attempt = false →
        exec (.monCharRx ch) s = .next
          (s.onMon fun m => { m with fifo := m.fifo ++ [ch] })) ∧
      (∀ m : Mon,
        m.take 0x0D = { m with line := [], lines := m.lines ++ monParse m.line } ∧
          m.take 0x0A = { m with line := [], lines := m.lines ++ monParse m.line } ∧
          (∀ b, b ≠ 0x0D → b ≠ 0x0A →
            (m.line.length < 128 → m.take b = { m with line := m.line ++ [b] }) ∧
            (128 ≤ m.line.length → m.take b = m))) ∧
      (s.monRuns = true → s.fw.mon.lines = [] →
        let ok := fun name => (monAllowed s.safety.lifecycle).contains name = true
        let given := fun c => s.onMon fun m => { m with lines := [c] }
        (ok "help" → exec .help s = .next
          (((given .help).monAnswer ((monAllowed s.safety.lifecycle).map MonItem.command) .ok).settle)) ∧
        (∀ addr n, ok "peek r" → 1 ≤ n → n ≤ 64 → s.sleeping (s.regClusters addr n) = [] →
          exec (.peekR addr n) s = .next
            (let u := (s.regClusters addr n).foldl (fun s c => s.wakeCluster c 5) (given (.peekR addr n))
             ((u.monRegs addr n).2.monAnswer (u.monRegs addr n).1 .ok).settle)) ∧
        (∀ a n, ok "peek m" → 1 ≤ n → n ≤ 4096 → s.owns64 0 = true → s.rangeFails 0 [.r] false a n = none →
          s.sleeping (s.clustersOf a n) = [] →
          let u := (s.clustersOf a n).foldl (fun s c => s.wakeCluster c 1) (given (.peekM a n))
          u.spanFree a n false = true →
          exec (.peekM a n) s = .next
            (((u.initRead a n).2.monAnswer (monBytes a (u.initRead a n).1) .ok).settle)) ∧
        (∀ addr v, ok "poke r" → addr.toNat < 0x800000 → s.sleeping (s.regClusters addr 1) = [] →
          exec (.pokeR addr v) s = .next
            (((((((s.regClusters addr 1).foldl (fun s c => s.wakeCluster c 5) (given (.pokeR addr v))).regWrite
              { sp := false, write := true, addr := addr, data := v }).monAnswer [] .ok).settle)))) ∧
        (∀ a v, ok "poke m" → a % 4 = 0 → s.safety.hold = false → s.owns64 0 = true →
          s.rangeFails 0 [.w] false a 4 = none → s.sleeping (s.clustersOf a 4) = [] →
          let u := (s.clustersOf a 4).foldl (fun s c => s.wakeCluster c 1) (given (.pokeM a v))
          u.spanFree a 4 true = true →
          exec (.pokeM a v) s = .next (((u.initWrite a (toBytes 4 v.toNat)).monAnswer [] .ok).settle)) ∧
        (∀ a v, ok "poke m" → a % 4 = 0 → s.safety.hold = false → s.owns64 0 = false →
          exec (.pokeM a v) s = .next (((given (.pokeM a v)).count64.monAnswer [] .perm).settle)) ∧
        (∀ who, ok "folds" →
          let cs := match who with | some k => [k] | none => List.range s.cfg.clusters
          (∀ c ∈ cs, s.hasCluster c = true ∧ s.inRun c = true) →
          exec (.folds who) s = .next
            (let u := cs.foldl (fun s c => s.wakeCluster c 1) (given (.folds who))
             (u.monAnswer (((u.folds.folds.filter (fun e => decide (e.2.state ≠ .free) && cs.contains (e.1 / 2048))).map
              Prod.fst).map (fun i => .fold (BitVec.ofNat 256 (ofBytes (u.dumpRecord i))))) .ok).settle)) ∧
        (∀ n, ok "ledger" → 1 ≤ n → n ≤ 1024 →
          exec (.ledger n) s = .next
            (((given (.ledger n)).monAnswer (((((List.range (min n s.safety.head.toNat)).map
              (fun i => s.safety.head - BitVec.ofNat 32 i)).filter
              (fun q => match s.safety.ledger.find? (q.toNat % 1024) with
                | some e => e.seq == q
                | none => false)).map (fun q => .ledger (BitVec.ofNat 256 (ofBytes (s.ledgerShown q)))))) .ok).settle)) ∧
        (∀ group, ok "stats" → group ≤ 8 →
          let cs := if group ∈ [2, 3, 4, 6, 7] then List.range s.cfg.clusters else []
          s.sleeping cs = [] →
          exec (.stats group) s = .next
            (let u := cs.foldl (fun s c => s.wakeCluster c 5) (given (.stats group))
             ((u.monRuns' (statsRuns s.cfg group)).2.monAnswer (u.monRuns' (statsRuns s.cfg group)).1 .ok).settle)) ∧
        (∀ rate, ok "baud" → 9600 ≤ rate → rate ≤ 3000000 →
          exec (.baud rate) s = .next
            ((((given (.baud rate)).monAnswer [] .ok).onMon fun m => { m with baud := rate }).settle)) ∧
        ((monAllowed s.safety.lifecycle).contains "poke m" = false →
          ∀ a v, exec (.pokeM a v) s = .next ((given (.pokeM a v)).monAnswer [] .lifecycle))))

/-! ### The boundary (12, 16, 17) -/

/-- Start-up and the boundary. A good count of RCK at the rise of PWR_OK starts the dividers, with the arrays as a power-up leaves them and
the repair records loaded (R346, R455, R456); hardware ready follows the built-in self-test, with region 0 set and the first window
open (R88, R346); a fall of PWR_OK returns the block to reset, with its outputs at the levels of reset (R458); a port group's clock stops or runs (R38); the test
access port shows what its instruction names (R360).
That the test access port programs the OTP, and the free version of the supply, are the model's (log entries 28, 31). -/
def Obligations.BoundaryRows : Prop :=
  ∀ s : State,
    (∀ widths repair bad count, s.integ.postDone = false → s.clock.running = false → s.pins.pwrOk = false →
      498 ≤ count → count ≤ 502 →
      exec (.pwrOkRise widths repair bad count) s = .next
        ((({ s with
            pins := { s.pins with pwrOk := true, widths := sampledStraps s.cfg widths }
            clock := { running := true }, powerUps := s.powerUps + 1, mem := [] } : State)).loadRepairs
          (repair ++ s.tap.fuses) bad)) ∧
    (∀ post, s.pins.pwrOk = true → s.clock.running = true → s.integ.postDone = false →
      exec (.hardwareReady post) s = .next
        (let t := (s.consequences post).setRegionZero
         (((({ t with fresh := t.fresh + 1 } : State).onPower fun w =>
          { w with avsVersion := (Config.freeWord t.fresh).setWidth 8 }).onInteg fun n =>
            { n with postDone := true }).postFaults post).windowStart)) ∧
    (s.pins.pwrOk = true → exec .pwrOkFall s = .next s.inReset) ∧
    s.inReset.lines =
      { flashSclk := false, flashCsN := true, flashIo := none, avsClk := false, avsMdata := false, svcMiso := false
        monTx := true, tdo := false, tsyncOut := false, budgetHint := 0, safeN := false, faultN := false
        rckFsel := false, rckIdle := false, intHost := false, intAux := false, intSafe := false } ∧
    (∀ p, p < 64 →
      exec (.portGroupClockChange p false) s = .next
        (({ s with pins := { s.pins with
          clockStopped := (s.pins.clockStopped.set (p / 2 * 2) true).set (p / 2 * 2 + 1) true } } : State).goOn)) ∧
    (∀ p, p < 64 → s.ready = true →
      exec (.portGroupClockChange p true) s = .next
        (((({ s with pins := { s.pins with
          clockStopped := (s.pins.clockStopped.erase (p / 2 * 2)).erase (p / 2 * 2 + 1) } } : State).pump
            (p / 2 * 2)).pump (p / 2 * 2 + 1)).goOn)) ∧
    (s.pins.pwrOk = true → s.tapAllows .bypass = true →
      exec (.jtagInstruction .bypass) s = .next { s with tap := { s.tap with ir := .bypass, dr := 0 } }) ∧
    (s.pins.pwrOk = true → s.tapAllows .idcode = true →
      exec (.jtagInstruction .idcode) s = .next
        { s with tap := { s.tap with ir := .idcode, dr := BitVec.ofNat 1152 (s.readIdent 3) } })

/-! ### The whole machine -/

/-- MEMORY STAYS CANONICAL. Every step keeps the one form of memory: addresses strictly rising, no entry equal to what an
unlisted address reads as (log entry 8: the form is the model's, and it is what makes equal memories equal data). -/
def Obligations.MemoryCanonical : Prop :=
  ∀ s t : State, Memory.wf s.mem s.unlisted = true → step s = .next t → Memory.wf t.mem t.unlisted = true

/-- What reset leaves (R458 and the Reset columns of the register tables): the memory is in its form, nothing waits, no
interrupt line is high, nothing runs, and the registers named here read the values that their tables give; each index that the
configuration has.
State.reset is a TM-256 in MANUFACTURE (the model's, log entry 1). -/
def Obligations.ResetState : Prop :=
  Memory.wf State.reset.mem State.reset.unlisted = true ∧ State.reset.pending = [] ∧
    State.reset.pins.pwrOk = false ∧ State.reset.clock.running = false ∧ State.reset.ready = false ∧
    State.reset.intHost = false ∧ State.reset.intAux = false ∧ State.reset.intSafe = false ∧
    State.reset.power.rckIdle = false ∧ State.reset.power.rckFsel = false ∧
    (let reads := fun a v => (State.reset.regRead (BitVec.ofNat 24 a)).1 = v
     reads 0x000000 0x4A4450D0 ∧
      (∀ p < 65, reads (0x011000 + 4 * p) 0x88888888 ∧ reads (0x012400 + 4 * p) 15 ∧
        reads (0x020000 + 0x20 * p) 0x040408) ∧
      (∀ n < 64, reads (0x012000 + 0x10 * n) 0x00020002 ∧ reads (0x012008 + 0x10 * n) 8) ∧
      (∀ n < 8, reads (0x021000 + 4 * n) 0x8420) ∧
      reads 0x022000 62000 ∧ reads 0x022004 0x5F6E5F ∧ reads 0x040000 0xFFF ∧
      reads 0x05040C 0x10 ∧ reads 0x050418 1000 ∧ reads 0x05041C 0x6403E8 ∧
      reads 0x800000 0x03000000 ∧ reads 0x800004 0x55 ∧ reads 0x800008 0xFFFFFFFF ∧ reads 0x80001C 0x1F)

/-- NOTHING STOPS, and the configuration and the queue are not a command's to change: every command answers a next state, in
which the configuration is the same and the commands that wait are the same (R2; the queue is the model's own, log entry 3). -/
def Obligations.ConfigAndQueueKept : Prop :=
  ∀ (i : Instr) (s : State), ∃ t : State, exec i s = .next t ∧ t.cfg = s.cfg ∧ t.pending = s.pending

/-- Interleaving of a region's rows over the banks (R79, R80, R81), with global bank numbers 16c + b. In STRIPE mode a stripe
line of 16 × C rows holds exactly one row of every data bank; its first 8 × C rows reach every sub-port once by way of the even banks,
and its last 8 × C rows reach every sub-port again by way of the odd banks. -/
def Obligations.Interleave : Prop :=
  ∀ (r : Region) (m : Model),
    (r.mode = 0 →
      (∀ n,
        let c := n % m.clusters
        let k := n / m.clusters % 16
        r.place m n = (16 * c + (2 * (k % 8) + k / 8), r.rowBase + n / (16 * m.clusters))) ∧
      (∀ line bank, bank < 16 * m.clusters → ∃! i, i < 16 * m.clusters ∧
        (r.place m (16 * m.clusters * line + i)).1 = bank ∧
        (r.place m (16 * m.clusters * line + i)).2 = r.rowBase + line) ∧
      (∀ line sub, sub < 8 * m.clusters →
        (∃! i, i < 8 * m.clusters ∧ (r.place m (16 * m.clusters * line + i)).1 = 2 * sub) ∧
        (∃! i, 8 * m.clusters ≤ i ∧ i < 16 * m.clusters ∧
          (r.place m (16 * m.clusters * line + i)).1 = 2 * sub + 1))) ∧
    (r.mode = 1 → ∀ n,
      let k := n % 16
      r.place m n = (16 * r.cluster + (2 * (k % 8) + k / 8), r.rowBase + n / 16)) ∧
    (r.mode = 2 → ∀ n, r.place m n = (16 * r.cluster + r.bank, r.rowBase + n))

/-- TIME_SET (R383): TIME takes the parameter and TIME_FRAC is 0, whichever way the time moves; UNSET, LOST and EXTRAPOLATED
are clear; CLEAR_UNC sets TIME_UNC to 0, and without it TIME_UNC stays; PWR_IRQ_STATUS.TIME_STEP is set. Nothing else of the
time base or of the block changes but PWR_LAST and the window that gave the command. -/
def Obligations.TimeSet : Prop :=
  ∀ (c : Cmd) (s : State), s.takes bodyTimeSet c = true → ∃ t : State,
    exec (.timeSet c) s = .next t ∧ t.time.now.toNat = c.par 0 8 * 2 ^ 32 ∧
      t.time.unset = false ∧ t.time.lost = false ∧ t.time.extrapolated = false ∧
      t.time.unc = (if c.flag 8 0 then 0 else s.time.unc) ∧ bitOf t.power.irq.toNat 8 = true ∧
      t = ((s.onTime fun x =>
        { x with now := t.time.now, unset := false, lost := false, extrapolated := false, unc := t.time.unc }).powerEvent
          8 0xF 0).replied c { status := .ok }
end

