-- ==== Sys2Proof/Laws/Basic.lean ====
section
/-!
SUPPORT. Small facts that the other law files share: sparse tables read after a write, what an action
of a command leaves, lists of command bodies.
-/

namespace Sys2Proof.Machine

theorem Tbl.find?_set {α : Type} (t : Tbl α) (k j : Nat) (v : α) :
    Tbl.find? (Tbl.set t k v) j = if j = k then some v else Tbl.find? t j := by
  induction t with
  | nil => simp [Tbl.set, Tbl.find?, eq_comm]
  | cons e r ih =>
    obtain ⟨i, a⟩ := e
    unfold Tbl.set
    split
    · simp [Tbl.find?, eq_comm]
    · split
      · rename_i h1 h2; subst h2; simp only [Tbl.find?]; by_cases h : j = k
        · subst h; simp
        · simp [h, Ne.symm h]
      · rename_i h1 h2; simp only [Tbl.find?, ih]
        by_cases h : j = k
        · subst h; simp [Ne.symm h2]
        · simp [h]

theorem Tbl.get_set {α : Type} (t : Tbl α) (d : α) (k j : Nat) (v : α) :
    Tbl.get (Tbl.set t k v) d j = if j = k then v else Tbl.get t d j := by
  unfold Tbl.get; rw [Tbl.find?_set]; split <;> rfl

theorem State.slot_onSlot (s : State) (k j : Nat) (f : Slot → Slot) :
    (s.onSlot k f).slot j = if j = k then f (s.slot k) else s.slot j := by
  unfold State.slot State.onSlot
  simp only [Tbl.get_set]
  rfl

theorem unlisted_of {s t : State} (h : ∀ k, (t.slot k).zeroFor = (s.slot k).zeroFor ∧ (t.slot k).bufZero = (s.slot k).bufZero) :
    t.unlisted = s.unlisted := by
  funext a; unfold State.unlisted; dsimp only; rw [(h _).1, (h _).2]

def Act.state : Act → State
  | .done _ s => s
  | .running s => s

@[simp] theorem Act.state_done (r : Result) (s : State) : (Act.done r s).state = s := rfl

@[simp] theorem Act.state_running (s : State) : (Act.running s).state = s := rfl

@[simp] theorem Act.ok_state (s : State) : (Act.ok s).state = s := rfl

theorem all_append {P : Body → Prop} {l m : List Body} (h : ∀ b ∈ l, P b) (h2 : ∀ b ∈ m, P b) : ∀ b ∈ l ++ m, P b := by
  intro b hb; rcases List.mem_append.1 hb with x | x
  · exact h b x
  · exact h2 b x

theorem all_cons {P : Body → Prop} {a : Body} {l : List Body} (h : P a) (h2 : ∀ b ∈ l, P b) : ∀ b ∈ a :: l, P b := by
  intro b hb; rcases List.mem_cons.1 hb with x | x
  · exact x ▸ h
  · exact h2 b x

theorem all_nil {P : Body → Prop} : ∀ b ∈ ([] : List Body), P b := by simp

/-- A command takes what it has read from memory as one that reads nothing does, or is one of the two that read. -/
def Body.got (b : Body) : Prop := (b.actGot = fun _ => b.act) ∨ b = bodyStallLoad ∨ b = bodyAdmit

theorem bodies_got : ∀ b ∈ bodies, b.got := by
  refine all_append (all_append (all_append ?_ ?_) ?_) ?_ <;>
    repeat' (first
      | exact all_nil
      | refine all_cons (Or.inl rfl) ?_
      | refine all_cons (Or.inr (Or.inl rfl)) ?_
      | refine all_cons (Or.inr (Or.inr rfl)) ?_)

theorem bodyOf_got {op : ℕ} {b : Body} (h : bodyOf op = some b) : b.got := bodies_got b (List.mem_of_find?_eq_some h)

end Sys2Proof.Machine
end

