-- ==== Sys2Proof/Laws/Store.lean ====
section
/-!
SUPPORT. The functions that leave the arrays alone: the written symbols and what an unlisted
symbol reads as (`State.store`). One lemma for each such function.
-/

set_option linter.all false

namespace Sys2Proof.Machine

def State.store (s : State) : List Host.Cell × (Nat → Option Byte) := (s.mem, s.unlisted)
@[simp] theorem State.onSlot_store (s : State) (k : Nat) (f : Slot → Slot) (h : ∀ l, (f l).zeroFor = l.zeroFor) (h2 : ∀ l, (f l).bufZero = l.bufZero) :
    (s.onSlot k f).store = s.store := by
  refine Prod.ext rfl (unlisted_of fun j => ?_)
  rw [State.slot_onSlot]; split
  · rename_i e; subst e; exact ⟨h _, h2 _⟩
  · exact ⟨rfl, rfl⟩
@[simp] theorem State.onInteg_store (s : State) (f : Integ → Integ) (h : ∀ n, (f n).slots = n.slots) : (s.onInteg f).store = s.store := by
  refine Prod.ext rfl (unlisted_of fun j => ?_)
  have : (s.onInteg f).slot j = s.slot j := by unfold State.slot State.onInteg; simp only [h]
  rw [this]; exact ⟨rfl, rfl⟩
@[simp] theorem State.mk_cfg_store (s : State) (v) : ({ s with cfg := v } : State).store = s.store := (rfl)
@[simp] theorem State.mk_clock_store (s : State) (v) : ({ s with clock := v } : State).store = s.store := (rfl)
@[simp] theorem State.mk_time_store (s : State) (v) : ({ s with time := v } : State).store = s.store := (rfl)
@[simp] theorem State.mk_power_store (s : State) (v) : ({ s with power := v } : State).store = s.store := (rfl)
@[simp] theorem State.mk_safety_store (s : State) (v) : ({ s with safety := v } : State).store = s.store := (rfl)
@[simp] theorem State.mk_fw_store (s : State) (v) : ({ s with fw := v } : State).store = s.store := (rfl)
@[simp] theorem State.mk_reg_store (s : State) (v) : ({ s with reg := v } : State).store = s.store := (rfl)
@[simp] theorem State.mk_pins_store (s : State) (v) : ({ s with pins := v } : State).store = s.store := (rfl)
@[simp] theorem State.mk_tap_store (s : State) (v) : ({ s with tap := v } : State).store = s.store := (rfl)
@[simp] theorem State.mk_cmd_store (s : State) (v) : ({ s with cmd := v } : State).store = s.store := (rfl)
@[simp] theorem State.mk_addr_store (s : State) (v) : ({ s with addr := v } : State).store = s.store := (rfl)
@[simp] theorem State.mk_conv_store (s : State) (v) : ({ s with conv := v } : State).store = s.store := (rfl)
@[simp] theorem State.mk_xbar_store (s : State) (v) : ({ s with xbar := v } : State).store = s.store := (rfl)
@[simp] theorem State.mk_gov_store (s : State) (v) : ({ s with gov := v } : State).store = s.store := (rfl)
@[simp] theorem State.mk_eng_store (s : State) (v) : ({ s with eng := v } : State).store = s.store := (rfl)
@[simp] theorem State.mk_folds_store (s : State) (v) : ({ s with folds := v } : State).store = s.store := (rfl)
@[simp] theorem State.mk_links_store (s : State) (v) : ({ s with links := v } : State).store = s.store := (rfl)
@[simp] theorem State.mk_powerUps_store (s : State) (v) : ({ s with powerUps := v } : State).store = s.store := (rfl)
@[simp] theorem State.mk_fresh_store (s : State) (v) : ({ s with fresh := v } : State).store = s.store := (rfl)
@[simp] theorem State.mk_pending_store (s : State) (v) : ({ s with pending := v } : State).store = s.store := (rfl)
theorem foldl_store {α : Type} (g : State → α → State) (h : ∀ s a, (g s a).store = s.store) (l : List α) (s : State) : (l.foldl g s).store = s.store := by
  induction l generalizing s with
  | nil => rfl
  | cons a l ih => simp [List.foldl, ih, h]
theorem foldl_store2 {α β : Type} (g : β × State → α → β × State) (h : ∀ s a, (g s a).2.store = s.2.store) (l : List α) (s : β × State) : (l.foldl g s).2.store = s.2.store := by
  induction l generalizing s with
  | nil => rfl
  | cons a l ih => simp [List.foldl, ih, h]
theorem pair_store {α : Type} {p : α × State} {a : α} {t : State} {q} (h : p = (a, t)) (hp : p.2.store = q) : t.store = q := by
  subst h; exact hp
theorem trip_store {α β : Type} {p : α × β × State} {a : α} {b : β} {t : State} {q} (h : p = (a, b, t)) (hp : p.2.2.store = q) : t.store = q := by
  subst h; exact hp
theorem pair1_store {α : Type} {p : State × α} {a : α} {t : State} {q} (h : p = (t, a)) (hp : p.1.store = q) : t.store = q := by
  subst h; exact hp
@[simp] theorem ite_store (c : Prop) [Decidable c] (a b : State) : (if c then a else b).store = if c then a.store else b.store := by split <;> rfl

/-! ### Ops -/

@[simp] theorem State.onPort_store (s : State) (p : ℕ) (f : Port → Port) :
    (State.onPort s p f).store = s.store := (rfl)

@[simp] theorem State.onSub_store (s : State) (n : ℕ) (f : SubPort → SubPort) :
    (State.onSub s n f).store = s.store := (rfl)

@[simp] theorem State.onBankq_store (s : State) (k : ℕ) (f : BankQueue → BankQueue) :
    (State.onBankq s k f).store = s.store := (rfl)

@[simp] theorem State.onBank_store (s : State) (g : ℕ) (f : BankInteg → BankInteg) :
    (State.onBank s g f).store = s.store := by
  exact Prod.ext rfl (unlisted_of fun j => ⟨rfl, rfl⟩)

@[simp] theorem State.onLbank_store (s : State) (g : ℕ) (f : LBank → LBank) :
    (State.onLbank s g f).store = s.store := by
  exact Prod.ext rfl (unlisted_of fun j => ⟨rfl, rfl⟩)

@[simp] theorem State.onCtest_store (s : State) (c : ℕ) (f : ClusterTest → ClusterTest) :
    (State.onCtest s c f).store = s.store := by
  exact Prod.ext rfl (unlisted_of fun j => ⟨rfl, rfl⟩)

@[simp] theorem State.onCpower_store (s : State) (c : ℕ) (f : ClusterPower → ClusterPower) :
    (State.onCpower s c f).store = s.store := (rfl)

@[simp] theorem State.onDisp_store (s : State) (c : ℕ) (f : Dispatcher → Dispatcher) :
    (State.onDisp s c f).store = s.store := (rfl)

@[simp] theorem State.onCache_store (s : State) (c : ℕ) (f : ScaleCache → ScaleCache) :
    (State.onCache s c f).store = s.store := (rfl)

@[simp] theorem State.onRing_store (s : State) (n : ℕ) (f : Ring → Ring) :
    (State.onRing s n f).store = s.store := (rfl)

@[simp] theorem State.onView_store (s : State) (v : ℕ) (f : View → View) :
    (State.onView s v f).store = s.store := by
  unfold State.onView; split <;> simp

@[simp] theorem State.onRegion_store (s : State) (i : ℕ) (f : Region → Region) :
    (State.onRegion s i f).store = s.store := by
  unfold State.onRegion; split <;> simp

@[simp] theorem State.onPop_store (s : State) (i : ℕ) (f : Pop → Pop) : (State.onPop s i f).store =
    s.store := by
  unfold State.onPop; split <;> simp

@[simp] theorem State.onFold_store (s : State) (k : ℕ) (f : Fold → Fold) :
    (State.onFold s k f).store = s.store := (rfl)

@[simp] theorem State.onLink_store (s : State) (n : ℕ) (f : LinkPort → LinkPort) :
    (State.onLink s n f).store = s.store := (rfl)

@[simp] theorem State.onSafety_store (s : State) (f : Safety → Safety) : (State.onSafety s f).store
    = s.store := (rfl)

@[simp] theorem State.onPower_store (s : State) (f : Power → Power) : (State.onPower s f).store =
    s.store := (rfl)

@[simp] theorem State.onTime_store (s : State) (f : TimeBase → TimeBase) : (State.onTime s f).store
    = s.store := (rfl)

@[simp] theorem State.onFw_store (s : State) (f : Firmware → Firmware) : (State.onFw s f).store =
    s.store := (rfl)

@[simp] theorem State.onGov_store (s : State) (f : Gov → Gov) : (State.onGov s f).store = s.store := (rfl)

@[simp] theorem State.onCmd_store (s : State) (f : CmdIf → CmdIf) : (State.onCmd s f).store =
    s.store := (rfl)

@[simp] theorem State.onEng_store (s : State) (f : EventUnit → EventUnit) : (State.onEng s f).store
    = s.store := (rfl)

@[simp] theorem State.onFolds_store (s : State) (f : FoldUnit → FoldUnit) :
    (State.onFolds s f).store = s.store := (rfl)

@[simp] theorem State.onLinks_store (s : State) (f : Links → Links) : (State.onLinks s f).store =
    s.store := (rfl)

@[simp] theorem State.onXbar_store (s : State) (f : Xbar → Xbar) : (State.onXbar s f).store =
    s.store := (rfl)

@[simp] theorem State.onConv_store (s : State) (f : Conv → Conv) : (State.onConv s f).store =
    s.store := (rfl)

@[simp] theorem State.draw_store (s : State) : (State.draw s).2.store = s.store := (rfl)

@[simp] theorem State.report_store (s : State) (f : FaultInfo) : (State.report s f).store = s.store := (rfl)

@[simp] theorem State.entryDetail_store (s : State) (f : FaultInfo) :
    (State.entryDetail s f).2.store = s.store := by
  unfold State.entryDetail; split <;> simp

@[simp] theorem State.newEntry_store (s : State) (f : FaultInfo) (level : ℕ) :
    (State.newEntry s f level).store = s.store := by
  simp [State.newEntry]

@[simp] theorem State.coalesce_store (s : State) (e : LedgerEntry) (level : ℕ) :
    (State.coalesce s e level).store = s.store := (rfl)

@[simp] theorem State.record_store (s : State) (f : FaultInfo) (level : ℕ) :
    (State.record s f level).store = s.store := by
  unfold State.record; split <;> simp

@[simp] theorem State.log_store (s : State) (f : FaultInfo) : (State.log s f).store = s.store := by
  simp [State.log]

@[simp] theorem State.integEvent_store (s : State) (i : ℕ) (bank : ℕ) :
    (State.integEvent s i bank).store = s.store := (rfl)

@[simp] theorem State.powerEvent_store (s : State) (i : ℕ) (cluster : ℕ) (step : ℕ) :
    (State.powerEvent s i cluster step).store = s.store := (rfl)

@[simp] theorem State.govFlag_store (s : State) (i : ℕ) : (State.govFlag s i).store = s.store := (rfl)

@[simp] theorem State.fwFlag_store (s : State) (i : ℕ) : (State.fwFlag s i).store = s.store := (rfl)

@[simp] theorem State.evEvent_store (s : State) (i : ℕ) (pop : ℕ) (cluster : ℕ) :
    (State.evEvent s i pop cluster).store = s.store := (rfl)

@[simp] theorem State.foldEvent_store (s : State) (i : ℕ) (k : ℕ) : (State.foldEvent s i k).store =
    s.store := (rfl)

@[simp] theorem State.linkEvent_store (s : State) (i : ℕ) (chip : ℕ) (port : ℕ) :
    (State.linkEvent s i chip port).store = s.store := (rfl)

/-! ### Flags -/

@[simp] theorem State.irqClear_store (s : State) (g : ℕ) (w : ℕ) : (State.irqClear s g w).store =
    s.store := by
  unfold State.irqClear; split <;> simp

@[simp] theorem State.irqSetEnable_store (s : State) (g : ℕ) (w : ℕ) :
    (State.irqSetEnable s g w).store = s.store := by
  unfold State.irqSetEnable; split <;> simp

@[simp] theorem State.holdLines_store (s : State) : (State.holdLines s).store = s.store := (rfl)

/-! ### Storage -/

@[simp] theorem State.clogAdd_store (s : State) (c : ℕ) (e : BitVec 32) :
    (State.clogAdd s c e).store = s.store := by
  simp [State.clogAdd]

@[simp] theorem State.noted_store (s : State) (bank : ℕ) (row : ℕ) (g : ℕ) (scrub : Bool)
    (d : Decoded) : (State.noted s bank row g scrub d).store = s.store := by
  unfold State.noted; (repeat' split) <;> simp

@[simp] theorem State.readGranule_store (s : State) (bank : ℕ) (row : ℕ) (g : ℕ) :
    (State.readGranule s bank row g).2.store = s.store := by
  simp [State.readGranule]

@[simp] theorem State.readGranules_store (s : State) (bank : ℕ) (row : ℕ) (y3 : List ℕ) :
    (State.readGranules s bank row y3).2.store = s.store := by
  induction y3 generalizing s bank row with
  | nil => (unfold State.readGranules; (repeat' (first | (with_reducible rfl) | assumption | (simp; done) | (simp [*]; done) | split | (refine (foldl_store _ (fun _ _ => ?_) _ _).trans ?_) | (refine (foldl_store2 _ (fun _ _ => ?_) _ _).trans ?_) | (refine pair_store (by assumption) ?_) | (refine trip_store (by assumption) ?_) | (refine pair1_store (by assumption) ?_) | (dsimp only) | simp)))
  | cons a1 t1 ih => (unfold State.readGranules; (repeat' (first | (with_reducible rfl) | assumption | (simp; done) | (simp [*]; done) | split | (refine (foldl_store _ (fun _ _ => ?_) _ _).trans ?_) | (refine (foldl_store2 _ (fun _ _ => ?_) _ _).trans ?_) | (refine pair_store (by assumption) ?_) | (refine trip_store (by assumption) ?_) | (refine pair1_store (by assumption) ?_) | (dsimp only) | simp)))

@[simp] theorem State.cancelWriteBack_store (s : State) (bank : ℕ) (row : ℕ) (g : ℕ) :
    (State.cancelWriteBack s bank row g).store = s.store := by
  simp [State.cancelWriteBack]

/-! ### Address -/

@[simp] theorem State.partialLaps_store (s : State) (p : ℕ → Bool) : (State.partialLaps s p).store =
    s.store := by
  unfold State.partialLaps
  repeat' (first
    | (with_reducible rfl)
    | assumption
    | (simp; done)
    | (simp [*]; done)
    | split
    | (refine (foldl_store _ (fun _ _ => ?_) _ _).trans ?_)
    | (refine (foldl_store2 _ (fun _ _ => ?_) _ _).trans ?_)
    | (refine pair_store (by assumption) ?_)
    | (refine trip_store (by assumption) ?_)
    | (refine pair1_store (by assumption) ?_)
    | (dsimp only)
    | simp)

@[simp] theorem State.scrubChange_store (s : State) (old : Option Region) (new : Option Region) :
    (State.scrubChange s old new).store = s.store := by
  simp [State.scrubChange]

@[simp] theorem State.readParts_store (s : State) (start : ℕ) (y2 : List (ℕ × ℕ)) :
    (State.readParts s start y2).2.store = s.store := by
  induction y2 generalizing s start with
  | nil => (unfold State.readParts; (repeat' (first | (with_reducible rfl) | assumption | (simp; done) | (simp [*]; done) | split | (refine (foldl_store _ (fun _ _ => ?_) _ _).trans ?_) | (refine (foldl_store2 _ (fun _ _ => ?_) _ _).trans ?_) | (refine pair_store (by assumption) ?_) | (refine trip_store (by assumption) ?_) | (refine pair1_store (by assumption) ?_) | (dsimp only) | simp)))
  | cons a1 t1 ih => (unfold State.readParts; (repeat' (first | (with_reducible rfl) | assumption | (simp; done) | (simp [*]; done) | split | (refine (foldl_store _ (fun _ _ => ?_) _ _).trans ?_) | (refine (foldl_store2 _ (fun _ _ => ?_) _ _).trans ?_) | (refine pair_store (by assumption) ?_) | (refine trip_store (by assumption) ?_) | (refine pair1_store (by assumption) ?_) | (dsimp only) | simp)))

@[simp] theorem State.readRange_store (s : State) (a : ℕ) (len : ℕ) :
    (State.readRange s a len).2.store = s.store := by
  simp [State.readRange]

/-! ### Request -/

@[simp] theorem State.onOutst_store (s : State) (id : ℕ) (f : Outst → Outst) :
    (State.onOutst s id f).store = s.store := (rfl)

@[simp] theorem State.dropOutst_store (s : State) (id : ℕ) : (State.dropOutst s id).store = s.store := (rfl)

@[simp] theorem State.onSeq_store (s : State) (t : LinkTag) (f : SeqRec → SeqRec) :
    (State.onSeq s t f).store = s.store := by
  unfold State.onSeq; (repeat' split) <;> simp

@[simp] theorem State.seqApplied_store (s : State) (t : LinkTag) : (State.seqApplied s t).store = s.store := by
  unfold State.seqApplied
  first
    | rfl
    | (simp; done)
    | ((repeat' split) <;> simp; done)
    | (dsimp only; (repeat' split) <;> simp; done)
    | (repeat' (first | (with_reducible rfl) | assumption | (simp; done) | (simp [*]; done) | split | (refine (foldl_store _ (fun _ _ => ?_) _ _).trans ?_) | (refine (foldl_store2 _ (fun _ _ => ?_) _ _).trans ?_) | (refine pair_store (by assumption) ?_) | (refine trip_store (by assumption) ?_) | (refine pair1_store (by assumption) ?_) | (dsimp only) | simp))

@[simp] theorem State.indicate_store (s : State) (c cause : Nat) : (State.indicate s c cause).store = s.store := by
  unfold State.indicate
  first
    | rfl
    | (simp; done)
    | ((repeat' split) <;> simp; done)
    | (dsimp only; (repeat' split) <;> simp; done)
    | (repeat' (first | (with_reducible rfl) | assumption | (simp; done) | (simp [*]; done) | split | (refine (foldl_store _ (fun _ _ => ?_) _ _).trans ?_) | (refine (foldl_store2 _ (fun _ _ => ?_) _ _).trans ?_) | (refine pair_store (by assumption) ?_) | (refine trip_store (by assumption) ?_) | (refine pair1_store (by assumption) ?_) | (dsimp only) | simp))

@[simp] theorem State.wakeCluster_store (s : State) (c : ℕ) (cause : ℕ) :
    (State.wakeCluster s c cause).store = s.store := by
  simp [State.wakeCluster]

@[simp] theorem State.present_store (s : State) (o : Outst) (r : Resp) : (State.present s o r).store
    = s.store := (rfl)

@[simp] theorem State.ended_store (s : State) (o : Outst) (st : Status) : (State.ended s o st).store
    = s.store := by
  unfold State.ended; split <;> simp

@[simp] theorem State.answer_store (s : State) (o : Outst) (st : Status) (token : BitVec 32) :
    (State.answer s o st token).store = s.store := by
  simp [State.answer]

@[simp] theorem State.refuseRead_store (s : State) (o : Outst) (st : Status) :
    (State.refuseRead s o st).store = s.store := by
  unfold State.refuseRead
  repeat' (first
    | (with_reducible rfl)
    | assumption
    | (simp; done)
    | (simp [*]; done)
    | split
    | (refine (foldl_store _ (fun _ _ => ?_) _ _).trans ?_)
    | (refine (foldl_store2 _ (fun _ _ => ?_) _ _).trans ?_)
    | (refine pair_store (by assumption) ?_)
    | (refine trip_store (by assumption) ?_)
    | (refine pair1_store (by assumption) ?_)
    | (dsimp only)
    | simp)

@[simp] theorem State.refuseReq_store (s : State) (o : Outst) (st : Status) :
    (State.refuseReq s o st).store = s.store := by
  simp [State.refuseReq]

@[simp] theorem State.sample_store (s : State) (p : ℕ) (read : Bool) (lat : ℕ) :
    (State.sample s p read lat).store = s.store := (rfl)

@[simp] theorem State.presentReady_store (s : State) (id : ℕ) (y2 : ℕ) :
    (State.presentReady s id y2).store = s.store := by
  induction y2 generalizing s id with
  | zero => (unfold State.presentReady; (repeat' (first | (with_reducible rfl) | assumption | (simp; done) | (simp [*]; done) | split | (refine (foldl_store _ (fun _ _ => ?_) _ _).trans ?_) | (refine (foldl_store2 _ (fun _ _ => ?_) _ _).trans ?_) | (refine pair_store (by assumption) ?_) | (refine trip_store (by assumption) ?_) | (refine pair1_store (by assumption) ?_) | (dsimp only) | simp)))
  | succ n1 ih => (unfold State.presentReady; (repeat' (first | (with_reducible rfl) | assumption | (simp; done) | (simp [*]; done) | split | (refine (foldl_store _ (fun _ _ => ?_) _ _).trans ?_) | (refine (foldl_store2 _ (fun _ _ => ?_) _ _).trans ?_) | (refine pair_store (by assumption) ?_) | (refine trip_store (by assumption) ?_) | (refine pair1_store (by assumption) ?_) | (dsimp only) | simp)))

@[simp] theorem State.readBeat_store (s : State) (id : ℕ) (r : Resp) : (State.readBeat s id r).store
    = s.store := by
  simp [State.readBeat]

@[simp] theorem State.writeOver_store (s : State) (o : Outst) : (State.writeOver s o).store = s.store := by
  unfold State.writeOver
  first
    | rfl
    | (simp; done)
    | ((repeat' split) <;> simp; done)
    | (dsimp only; (repeat' split) <;> simp; done)
    | (repeat' (first | (with_reducible rfl) | assumption | (simp; done) | (simp [*]; done) | split | (refine (foldl_store _ (fun _ _ => ?_) _ _).trans ?_) | (refine (foldl_store2 _ (fun _ _ => ?_) _ _).trans ?_) | (refine pair_store (by assumption) ?_) | (refine trip_store (by assumption) ?_) | (refine pair1_store (by assumption) ?_) | (dsimp only) | simp))

@[simp] theorem State.writePart_store (s : State) (id : ℕ) (entry : Bool) (d : Stored) : (State.writePart s id entry d).store = s.store := by
  unfold State.writePart
  first
    | rfl
    | (simp; done)
    | ((repeat' split) <;> simp; done)
    | (dsimp only; (repeat' split) <;> simp; done)
    | (repeat' (first | (with_reducible rfl) | assumption | (simp; done) | (simp [*]; done) | split | (refine (foldl_store _ (fun _ _ => ?_) _ _).trans ?_) | (refine (foldl_store2 _ (fun _ _ => ?_) _ _).trans ?_) | (refine pair_store (by assumption) ?_) | (refine trip_store (by assumption) ?_) | (refine pair1_store (by assumption) ?_) | (dsimp only) | simp))

/-! ### Ingress -/

@[simp] theorem State.passEnds_store (s : State) : (State.passEnds s).store = s.store := by
  simp [State.passEnds]

@[simp] theorem State.sendEntries_store (s : State) (es : List Piece) : (State.sendEntries s es).store = s.store := by
  unfold State.sendEntries
  first
    | rfl
    | (simp; done)
    | ((repeat' split) <;> simp; done)
    | (dsimp only; (repeat' split) <;> simp; done)
    | (repeat' (first | (with_reducible rfl) | assumption | (simp; done) | (simp [*]; done) | split | (refine (foldl_store _ (fun _ _ => ?_) _ _).trans ?_) | (refine (foldl_store2 _ (fun _ _ => ?_) _ _).trans ?_) | (refine pair_store (by assumption) ?_) | (refine trip_store (by assumption) ?_) | (refine pair1_store (by assumption) ?_) | (dsimp only) | simp))

@[simp] theorem State.countPerm_store (s : State) (p : Nat) : (State.countPerm s p).store = s.store := by
  unfold State.countPerm
  first
    | rfl
    | (simp; done)
    | ((repeat' split) <;> simp; done)
    | (dsimp only; (repeat' split) <;> simp; done)
    | (repeat' (first | (with_reducible rfl) | assumption | (simp; done) | (simp [*]; done) | split | (refine (foldl_store _ (fun _ _ => ?_) _ _).trans ?_) | (refine (foldl_store2 _ (fun _ _ => ?_) _ _).trans ?_) | (refine pair_store (by assumption) ?_) | (refine trip_store (by assumption) ?_) | (refine pair1_store (by assumption) ?_) | (dsimp only) | simp))

@[simp] theorem State.safetyRefusal_store (s : State) (p : ℕ) (addr : ℕ) (st : Status) :
    (State.safetyRefusal s p addr st).store = s.store := by
  unfold State.safetyRefusal; (repeat' split) <;> simp

@[simp] theorem State.noteEntries_store (s : State) (b : BoundView) (gs : List GroupScale) : (State.noteEntries s b gs).store = s.store := by
  unfold State.noteEntries
  first
    | rfl
    | (simp; done)
    | ((repeat' split) <;> simp; done)
    | (dsimp only; (repeat' split) <;> simp; done)
    | (repeat' (first | (with_reducible rfl) | assumption | (simp; done) | (simp [*]; done) | split | (refine (foldl_store _ (fun _ _ => ?_) _ _).trans ?_) | (refine (foldl_store2 _ (fun _ _ => ?_) _ _).trans ?_) | (refine pair_store (by assumption) ?_) | (refine trip_store (by assumption) ?_) | (refine pair1_store (by assumption) ?_) | (dsimp only) | simp))

@[simp] theorem State.planPieces_store (s : State) (o : Outst) (xs : List Piece)
    (v : Option BoundView) (stored : ℕ) : (State.planPieces s o xs v stored).2.store = s.store := by
  unfold State.planPieces; (repeat' split) <;> simp

@[simp] theorem State.planLocal_store (s : State) (o : Outst) (r : Region) (v : Option BoundView)
    (stored : ℕ) : (State.planLocal s o r v stored).2.store = s.store := by
  simp [State.planLocal]

@[simp] theorem State.planData_store (s : State) (o : Outst) : (State.planData s o).2.store =
    s.store := by
  unfold State.planData; split <;> simp

@[simp] theorem State.payloadFault_store (s : State) (p : ℕ) : (State.payloadFault s p).store =
    s.store := (rfl)

@[simp] theorem State.planFold_store (s : State) (o : Outst) : (State.planFold s o).2.store =
    s.store := by
  unfold State.planFold
  repeat' (first
    | (with_reducible rfl)
    | assumption
    | (simp; done)
    | (simp [*]; done)
    | split
    | (refine (foldl_store _ (fun _ _ => ?_) _ _).trans ?_)
    | (refine (foldl_store2 _ (fun _ _ => ?_) _ _).trans ?_)
    | (refine pair_store (by assumption) ?_)
    | (refine trip_store (by assumption) ?_)
    | (refine pair1_store (by assumption) ?_)
    | (dsimp only)
    | simp)

@[simp] theorem State.planFence_store (s : State) (o : Outst) : (State.planFence s o).2.store =
    s.store := by
  unfold State.planFence; dsimp only; (repeat' split) <;> simp

@[simp] theorem State.planOther_store (s : State) (o : Outst) : (State.planOther s o).2.store = s.store := by
  unfold State.planOther
  first
    | rfl
    | (simp; done)
    | ((repeat' split) <;> simp; done)
    | (dsimp only; (repeat' split) <;> simp; done)
    | (repeat' (first | (with_reducible rfl) | assumption | (simp; done) | (simp [*]; done) | split | (refine (foldl_store _ (fun _ _ => ?_) _ _).trans ?_) | (refine (foldl_store2 _ (fun _ _ => ?_) _ _).trans ?_) | (refine pair_store (by assumption) ?_) | (refine trip_store (by assumption) ?_) | (refine pair1_store (by assumption) ?_) | (dsimp only) | simp))

@[simp] theorem State.plan_store (s : State) (o : Outst) : (State.plan s o).2.store = s.store := by
  unfold State.plan; dsimp only; (repeat' split) <;> simp

/-! ### Pump -/

@[simp] theorem State.forget_store (s : State) (o : Outst) : (State.forget s o).store = s.store := by
  unfold State.forget; dsimp only; (repeat' split) <;> simp

@[simp] theorem State.freeDying_store (s : State) (k : ℕ) : (State.freeDying s k).store = s.store := by
  simp [State.freeDying]

@[simp] theorem State.holdFold_store (s : State) (o : Outst) (t : LinkTag) (op : FoldOp) :
    (State.holdFold s o t op).store = s.store := by
  simp [State.holdFold]

@[simp] theorem State.foldPush_store (s : State) (o : FoldOp) : (State.foldPush s o).store = s.store := by
  simp [State.foldPush]

@[simp] theorem State.send_store (s : State) (o : Outst) : (State.send s o).store = s.store := by
  unfold State.send
  repeat' (first
    | (with_reducible rfl)
    | assumption
    | (simp; done)
    | (simp [*]; done)
    | split
    | (refine (foldl_store _ (fun _ _ => ?_) _ _).trans ?_)
    | (refine (foldl_store2 _ (fun _ _ => ?_) _ _).trans ?_)
    | (refine pair_store (by assumption) ?_)
    | (refine trip_store (by assumption) ?_)
    | (refine pair1_store (by assumption) ?_)
    | (dsimp only)
    | simp)

@[simp] theorem State.count64_store (s : State) : (State.count64 s).store = s.store := by
  unfold State.count64
  first
    | rfl
    | (simp; done)
    | ((repeat' split) <;> simp; done)
    | (dsimp only; (repeat' split) <;> simp; done)
    | (repeat' (first | (with_reducible rfl) | assumption | (simp; done) | (simp [*]; done) | split | (refine (foldl_store _ (fun _ _ => ?_) _ _).trans ?_) | (refine (foldl_store2 _ (fun _ _ => ?_) _ _).trans ?_) | (refine pair_store (by assumption) ?_) | (refine trip_store (by assumption) ?_) | (refine pair1_store (by assumption) ?_) | (dsimp only) | simp))

@[simp] theorem State.ask_store (s : State) (o : Outst) : (State.ask s o).2.store = s.store := by
  unfold State.ask
  first
    | rfl
    | (simp; done)
    | ((repeat' split) <;> simp; done)
    | (dsimp only; (repeat' split) <;> simp; done)
    | (repeat' (first | (with_reducible rfl) | assumption | (simp; done) | (simp [*]; done) | split | (refine (foldl_store _ (fun _ _ => ?_) _ _).trans ?_) | (refine (foldl_store2 _ (fun _ _ => ?_) _ _).trans ?_) | (refine pair_store (by assumption) ?_) | (refine trip_store (by assumption) ?_) | (refine pair1_store (by assumption) ?_) | (dsimp only) | simp))

@[simp] theorem State.askRead_store (s : State) (cls : ℕ) (ctx : ℕ) (a : ℕ) (len : ℕ) : (State.askRead s cls ctx a len).2.store = s.store := by
  unfold State.askRead
  first
    | rfl
    | (simp; done)
    | ((repeat' split) <;> simp; done)
    | (dsimp only; (repeat' split) <;> simp; done)
    | (repeat' (first | (with_reducible rfl) | assumption | (simp; done) | (simp [*]; done) | split | (refine (foldl_store _ (fun _ _ => ?_) _ _).trans ?_) | (refine (foldl_store2 _ (fun _ _ => ?_) _ _).trans ?_) | (refine pair_store (by assumption) ?_) | (refine trip_store (by assumption) ?_) | (refine pair1_store (by assumption) ?_) | (dsimp only) | simp))

@[simp] theorem State.askWrite_store (s : State) (cls : ℕ) (ctx : ℕ) (a : ℕ) (data : List Byte) : (State.askWrite s cls ctx a data).2.store = s.store := by
  unfold State.askWrite
  first
    | rfl
    | (simp; done)
    | ((repeat' split) <;> simp; done)
    | (dsimp only; (repeat' split) <;> simp; done)
    | (repeat' (first | (with_reducible rfl) | assumption | (simp; done) | (simp [*]; done) | split | (refine (foldl_store _ (fun _ _ => ?_) _ _).trans ?_) | (refine (foldl_store2 _ (fun _ _ => ?_) _ _).trans ?_) | (refine pair_store (by assumption) ?_) | (refine trip_store (by assumption) ?_) | (refine pair1_store (by assumption) ?_) | (dsimp only) | simp))

@[simp] theorem State.takeAnswers_store (s : State) (req : ℕ) : (State.takeAnswers s req).store = s.store := by
  unfold State.takeAnswers
  first
    | rfl
    | (simp; done)
    | ((repeat' split) <;> simp; done)
    | (dsimp only; (repeat' split) <;> simp; done)
    | (repeat' (first | (with_reducible rfl) | assumption | (simp; done) | (simp [*]; done) | split | (refine (foldl_store _ (fun _ _ => ?_) _ _).trans ?_) | (refine (foldl_store2 _ (fun _ _ => ?_) _ _).trans ?_) | (refine pair_store (by assumption) ?_) | (refine trip_store (by assumption) ?_) | (refine pair1_store (by assumption) ?_) | (dsimp only) | simp))

@[simp] theorem State.releaseFrom_store (s : State) (y1 : List ℕ) : (State.releaseFrom s y1).store =
    s.store := by
  induction y1 generalizing s with
  | nil => (unfold State.releaseFrom; (repeat' (first | (with_reducible rfl) | assumption | (simp; done) | (simp [*]; done) | split | (refine (foldl_store _ (fun _ _ => ?_) _ _).trans ?_) | (refine (foldl_store2 _ (fun _ _ => ?_) _ _).trans ?_) | (refine pair_store (by assumption) ?_) | (refine trip_store (by assumption) ?_) | (refine pair1_store (by assumption) ?_) | (dsimp only) | simp)))
  | cons a1 t1 ih => (unfold State.releaseFrom; (repeat' (first | (with_reducible rfl) | assumption | (simp; done) | (simp [*]; done) | split | (refine (foldl_store _ (fun _ _ => ?_) _ _).trans ?_) | (refine (foldl_store2 _ (fun _ _ => ?_) _ _).trans ?_) | (refine pair_store (by assumption) ?_) | (refine trip_store (by assumption) ?_) | (refine pair1_store (by assumption) ?_) | (dsimp only) | simp)))

@[simp] theorem State.release_store (s : State) (p : ℕ) : (State.release s p).store = s.store := by
  simp [State.release]

@[simp] theorem State.parityFault_store (s : State) (p : ℕ) : (State.parityFault s p).store =
    s.store := (rfl)

theorem State.acceptHead_store {s t : State} {p : ℕ} (h : s.acceptHead p = some t) : t.store = s.store := by
  unfold State.acceptHead at h
  split at h
  · simp at h
  · dsimp only at h
    split at h
    · simp at h; subst h; (repeat' (first | (with_reducible rfl) | assumption | (simp; done) | (simp [*]; done) | split | (refine (foldl_store _ (fun _ _ => ?_) _ _).trans ?_) | (refine (foldl_store2 _ (fun _ _ => ?_) _ _).trans ?_) | (refine pair_store (by assumption) ?_) | (refine trip_store (by assumption) ?_) | (refine pair1_store (by assumption) ?_) | (dsimp only) | simp))
    · split at h
      · simp at h
      · simp at h; subst h; (repeat' (first | (with_reducible rfl) | assumption | (simp; done) | (simp [*]; done) | split | (refine (foldl_store _ (fun _ _ => ?_) _ _).trans ?_) | (refine (foldl_store2 _ (fun _ _ => ?_) _ _).trans ?_) | (refine pair_store (by assumption) ?_) | (refine trip_store (by assumption) ?_) | (refine pair1_store (by assumption) ?_) | (dsimp only) | simp))

@[simp] theorem State.pumpN_store (s : State) (p : ℕ) (y2 : ℕ) : (State.pumpN s p y2).store =
    s.store := by
  induction y2 generalizing s p with
  | zero => rfl
  | succ n1 ih =>
    unfold State.pumpN
    split
    · rename_i h; rw [ih, State.acceptHead_store h]
    · rfl

@[simp] theorem State.pump_store (s : State) (p : ℕ) : (State.pump s p).store = s.store := by
  simp [State.pump]

@[simp] theorem State.pumpAll_store (s : State) : (State.pumpAll s).store = s.store := by
  unfold State.pumpAll
  repeat' (first
    | (with_reducible rfl)
    | assumption
    | (simp; done)
    | (simp [*]; done)
    | split
    | (refine (foldl_store _ (fun _ _ => ?_) _ _).trans ?_)
    | (refine (foldl_store2 _ (fun _ _ => ?_) _ _).trans ?_)
    | (refine pair_store (by assumption) ?_)
    | (refine trip_store (by assumption) ?_)
    | (refine pair1_store (by assumption) ?_)
    | (dsimp only)
    | simp)

@[simp] theorem State.offer_store (s : State) (p : ℕ) (q : Queued) : (State.offer s p q).store =
    s.store := by
  simp [State.offer]

@[simp] theorem State.takeBeat_store (s : State) (p : ℕ) (b : WBeat) : (State.takeBeat s p b).store
    = s.store := by
  simp [State.takeBeat]

/-! ### Regulate -/

@[simp] theorem State.climb_store (s : State) : (State.climb s).store = s.store := by
  simp [State.climb]

@[simp] theorem State.charge_store (s : State) (p : ℕ) (c : ℕ) (tolls : ℕ) :
    (State.charge s p c tolls).store = s.store := by
  simp [State.charge]

@[simp] theorem State.countBytes_store (s : State) (p : ℕ) : (State.countBytes s p).store = s.store := (rfl)

@[simp] theorem State.touchPorts_store (s : State) : (State.touchPorts s).store = s.store := by
  unfold State.touchPorts
  first
    | rfl
    | (simp; done)
    | ((repeat' split) <;> simp; done)
    | (dsimp only; (repeat' split) <;> simp; done)
    | (repeat' (first | (with_reducible rfl) | assumption | (simp; done) | (simp [*]; done) | split | (refine (foldl_store _ (fun _ _ => ?_) _ _).trans ?_) | (refine (foldl_store2 _ (fun _ _ => ?_) _ _).trans ?_) | (refine pair_store (by assumption) ?_) | (refine trip_store (by assumption) ?_) | (refine pair1_store (by assumption) ?_) | (dsimp only) | simp))

@[simp] theorem State.see_store (s : State) : (State.see s).store = s.store := by
  unfold State.see
  first
    | rfl
    | (simp; done)
    | ((repeat' split) <;> simp; done)
    | (dsimp only; (repeat' split) <;> simp; done)
    | (repeat' (first | (with_reducible rfl) | assumption | (simp; done) | (simp [*]; done) | split | (refine (foldl_store _ (fun _ _ => ?_) _ _).trans ?_) | (refine (foldl_store2 _ (fun _ _ => ?_) _ _).trans ?_) | (refine pair_store (by assumption) ?_) | (refine trip_store (by assumption) ?_) | (refine pair1_store (by assumption) ?_) | (dsimp only) | simp))

/-! ### Record -/

@[simp] theorem State.taint_store (s : State) (pop : ℕ) : (State.taint s pop).store = s.store := by
  unfold State.taint; split <;> simp

@[simp] theorem State.onStep_store (s : State) (pop : ℕ) (f : StepRun → StepRun) :
    (State.onStep s pop f).store = s.store := (rfl)

@[simp] theorem State.emitFrom_store (s : State) (c : ℕ) (full : List ℕ) (y3 : List (ℕ × OutEvent)) : (State.emitFrom s c full y3).2.store = s.store := by
  induction y3 generalizing s c full with
  | nil => (unfold State.emitFrom; (repeat' (first | (with_reducible rfl) | assumption | (simp; done) | (simp [*]; done) | split | (refine (foldl_store _ (fun _ _ => ?_) _ _).trans ?_) | (refine (foldl_store2 _ (fun _ _ => ?_) _ _).trans ?_) | (refine pair_store (by assumption) ?_) | (refine trip_store (by assumption) ?_) | (refine pair1_store (by assumption) ?_) | (dsimp only) | simp)))
  | cons a1 t1 ih => (unfold State.emitFrom; (repeat' (first | (with_reducible rfl) | assumption | (simp; done) | (simp [*]; done) | split | (refine (foldl_store _ (fun _ _ => ?_) _ _).trans ?_) | (refine (foldl_store2 _ (fun _ _ => ?_) _ _).trans ?_) | (refine pair_store (by assumption) ?_) | (refine trip_store (by assumption) ?_) | (refine pair1_store (by assumption) ?_) | (dsimp only) | simp)))

@[simp] theorem State.emitAll_store (s : State) (c : ℕ) : (State.emitAll s c).store = s.store := by
  unfold State.emitAll
  repeat' (first
    | (with_reducible rfl)
    | assumption
    | (simp; done)
    | (simp [*]; done)
    | split
    | (refine (foldl_store _ (fun _ _ => ?_) _ _).trans ?_)
    | (refine (foldl_store2 _ (fun _ _ => ?_) _ _).trans ?_)
    | (refine pair_store (by assumption) ?_)
    | (refine trip_store (by assumption) ?_)
    | (refine pair1_store (by assumption) ?_)
    | (dsimp only)
    | simp)

@[simp] theorem State.emitRows_store (s : State) (c : ℕ) (pop : ℕ) (y3 : ℕ) : (State.emitRows s c pop y3).store = s.store := by
  induction y3 generalizing s c pop with
  | zero => (unfold State.emitRows; (repeat' (first | (with_reducible rfl) | assumption | (simp; done) | (simp [*]; done) | split | (refine (foldl_store _ (fun _ _ => ?_) _ _).trans ?_) | (refine (foldl_store2 _ (fun _ _ => ?_) _ _).trans ?_) | (refine pair_store (by assumption) ?_) | (refine trip_store (by assumption) ?_) | (refine pair1_store (by assumption) ?_) | (dsimp only) | simp)))
  | succ n1 ih => (unfold State.emitRows; (repeat' (first | (with_reducible rfl) | assumption | (simp; done) | (simp [*]; done) | split | (refine (foldl_store _ (fun _ _ => ?_) _ _).trans ?_) | (refine (foldl_store2 _ (fun _ _ => ?_) _ _).trans ?_) | (refine pair_store (by assumption) ?_) | (refine trip_store (by assumption) ?_) | (refine pair1_store (by assumption) ?_) | (dsimp only) | simp)))

@[simp] theorem State.stepWritten_store (s : State) (pop : ℕ) (row : ℕ) (p : Pop) (spikes : List (ℕ × ℤ)) (sats : ℕ) : (State.stepWritten s pop row p spikes sats).store = s.store := by
  unfold State.stepWritten
  first
    | rfl
    | (simp; done)
    | ((repeat' split) <;> simp; done)
    | (dsimp only; (repeat' split) <;> simp; done)
    | (repeat' (first | (with_reducible rfl) | assumption | (simp; done) | (simp [*]; done) | split | (refine (foldl_store _ (fun _ _ => ?_) _ _).trans ?_) | (refine (foldl_store2 _ (fun _ _ => ?_) _ _).trans ?_) | (refine pair_store (by assumption) ?_) | (refine trip_store (by assumption) ?_) | (refine pair1_store (by assumption) ?_) | (dsimp only) | simp))

@[simp] theorem State.noteAdds_store (s : State) (pop : ℕ) (bank : ℕ) (m : RowMade) : (State.noteAdds s pop bank m).store = s.store := by
  unfold State.noteAdds
  first
    | rfl
    | (simp; done)
    | ((repeat' split) <;> simp; done)
    | (dsimp only; (repeat' split) <;> simp; done)
    | (repeat' (first | (with_reducible rfl) | assumption | (simp; done) | (simp [*]; done) | split | (refine (foldl_store _ (fun _ _ => ?_) _ _).trans ?_) | (refine (foldl_store2 _ (fun _ _ => ?_) _ _).trans ?_) | (refine pair_store (by assumption) ?_) | (refine trip_store (by assumption) ?_) | (refine pair1_store (by assumption) ?_) | (dsimp only) | simp))

@[simp] theorem State.noteStep_store (s : State) (pop : ℕ) (addr : ℕ) (bank : ℕ) (row : ℕ) (m : RowMade) : (State.noteStep s pop addr bank row m).store = s.store := by
  unfold State.noteStep
  first
    | rfl
    | (simp; done)
    | ((repeat' split) <;> simp; done)
    | (dsimp only; (repeat' split) <;> simp; done)
    | (repeat' (first | (with_reducible rfl) | assumption | (simp; done) | (simp [*]; done) | split | (refine (foldl_store _ (fun _ _ => ?_) _ _).trans ?_) | (refine (foldl_store2 _ (fun _ _ => ?_) _ _).trans ?_) | (refine pair_store (by assumption) ?_) | (refine trip_store (by assumption) ?_) | (refine pair1_store (by assumption) ?_) | (dsimp only) | simp))

/-! ### Arbiter -/

@[simp] theorem State.takeSlots_store (s : State) (bank : Nat) (read write : Bool) : (State.takeSlots s bank read write).store = s.store := by
  unfold State.takeSlots
  first
    | rfl
    | (simp; done)
    | ((repeat' split) <;> simp; done)
    | (dsimp only; (repeat' split) <;> simp; done)
    | (repeat' (first | (with_reducible rfl) | assumption | (simp; done) | (simp [*]; done) | split | (refine (foldl_store _ (fun _ _ => ?_) _ _).trans ?_) | (refine (foldl_store2 _ (fun _ _ => ?_) _ _).trans ?_) | (refine pair_store (by assumption) ?_) | (refine trip_store (by assumption) ?_) | (refine pair1_store (by assumption) ?_) | (dsimp only) | simp))

@[simp] theorem State.noteAccepted_store (s : State) (id : ℕ) : (State.noteAccepted s id).store =
    s.store := by
  simp [State.noteAccepted]

@[simp] theorem State.enterQueue_store (s : State) (p : ℕ) (n : ℕ) : (State.enterQueue s p n).store
    = s.store := by
  unfold State.enterQueue; dsimp only; (repeat' split) <;> simp

@[simp] theorem State.grantSide_store (s : State) (n : ℕ) (read : Bool) (t : ℕ)
    (d : Option (GrantStep × Piece)) : (State.grantSide s n read t d).store = s.store := by
  unfold State.grantSide; (repeat' split) <;> simp

@[simp] theorem State.decideSide_store (s : State) (n : Nat) (read : Bool) (t : Nat) (d : Option (GrantStep × Piece)) : (State.decideSide s n read t d).store = s.store := by
  unfold State.decideSide
  first
    | rfl
    | (simp; done)
    | ((repeat' split) <;> simp; done)
    | (dsimp only; (repeat' split) <;> simp; done)
    | (repeat' (first | (with_reducible rfl) | assumption | (simp; done) | (simp [*]; done) | split | (refine (foldl_store _ (fun _ _ => ?_) _ _).trans ?_) | (refine (foldl_store2 _ (fun _ _ => ?_) _ _).trans ?_) | (refine pair_store (by assumption) ?_) | (refine trip_store (by assumption) ?_) | (refine pair1_store (by assumption) ?_) | (dsimp only) | simp))

@[simp] theorem State.grant_store (s : State) (n : ℕ) : (State.grant s n).store = s.store := by
  simp [State.grant]

/-! ### Service -/

@[simp] theorem State.askFill_store (s : State) (c : ℕ) (f : CacheFill) : (State.askFill s c f).store = s.store := by
  unfold State.askFill
  first
    | rfl
    | (simp; done)
    | ((repeat' split) <;> simp; done)
    | (dsimp only; (repeat' split) <;> simp; done)
    | (repeat' (first | (with_reducible rfl) | assumption | (simp; done) | (simp [*]; done) | split | (refine (foldl_store _ (fun _ _ => ?_) _ _).trans ?_) | (refine (foldl_store2 _ (fun _ _ => ?_) _ _).trans ?_) | (refine pair_store (by assumption) ?_) | (refine trip_store (by assumption) ?_) | (refine pair1_store (by assumption) ?_) | (dsimp only) | simp))

@[simp] theorem State.wantLine_store (s : State) (c : ℕ) (owner : ℕ) (a : ℕ) : (State.wantLine s c owner a).store = s.store := by
  unfold State.wantLine
  first
    | rfl
    | (simp; done)
    | ((repeat' split) <;> simp; done)
    | (dsimp only; (repeat' split) <;> simp; done)
    | (repeat' (first | (with_reducible rfl) | assumption | (simp; done) | (simp [*]; done) | split | (refine (foldl_store _ (fun _ _ => ?_) _ _).trans ?_) | (refine (foldl_store2 _ (fun _ _ => ?_) _ _).trans ?_) | (refine pair_store (by assumption) ?_) | (refine trip_store (by assumption) ?_) | (refine pair1_store (by assumption) ?_) | (dsimp only) | simp))

@[simp] theorem State.invalidate_store (s : State) (p : ℕ → Bool) : (State.invalidate s p).store =
    s.store := (rfl)

@[simp] theorem State.lookLines_store (s : State) (x : Piece) : (State.lookLines s x).store =
    s.store := by
  unfold State.lookLines
  repeat' (first
    | (with_reducible rfl)
    | assumption
    | (simp; done)
    | (simp [*]; done)
    | split
    | (refine (foldl_store _ (fun _ _ => ?_) _ _).trans ?_)
    | (refine (foldl_store2 _ (fun _ _ => ?_) _ _).trans ?_)
    | (refine pair_store (by assumption) ?_)
    | (refine trip_store (by assumption) ?_)
    | (refine pair1_store (by assumption) ?_)
    | (dsimp only)
    | simp)

@[simp] theorem State.unrecord_store (s : State) (wr : List (Nat × Nat)) : (State.unrecord s wr).store = s.store := by
  unfold State.unrecord
  first
    | rfl
    | (simp; done)
    | ((repeat' split) <;> simp; done)
    | (dsimp only; (repeat' split) <;> simp; done)
    | (repeat' (first | (with_reducible rfl) | assumption | (simp; done) | (simp [*]; done) | split | (refine (foldl_store _ (fun _ _ => ?_) _ _).trans ?_) | (refine (foldl_store2 _ (fun _ _ => ?_) _ _).trans ?_) | (refine pair_store (by assumption) ?_) | (refine trip_store (by assumption) ?_) | (refine pair1_store (by assumption) ?_) | (dsimp only) | simp))

@[simp] theorem State.noteQuant_store (s : State) (x : Piece) (b : BoundView) (t : Tally) :
    (State.noteQuant s x b t).store = s.store := by
  simp [State.noteQuant]

@[simp] theorem State.noteAcc_store (s : State) (x : Piece) (m : Made) : (State.noteAcc s x m).store
    = s.store := by
  simp [State.noteAcc]

@[simp] theorem State.mergeData_store (s : State) (bank : ℕ) (row : ℕ) (need : List ℕ) (y4 : List ℕ)
    : (State.mergeData s bank row need y4).2.store = s.store := by
  induction y4 generalizing s with
  | nil => rfl
  | cons a t ih =>
    unfold State.mergeData
    split
    rename_i one u h2
    have h3 : u.store = s.store := by
      by_cases h : need.contains a = true
      · rw [if_pos h] at h2; have := State.readGranule_store s bank row a
        split at h2; rename_i e; rw [e] at this; cases h2; exact this
      · rw [if_neg h] at h2; cases h2; rfl
    simp [ih, h3]

@[simp] theorem State.mergeRead_store (s : State) (bank : ℕ) : (State.mergeRead s bank).store =
    s.store := by
  unfold State.mergeRead; dsimp only; (repeat' split) <;> simp

@[simp] theorem State.writeThrough_store (s : State) (x : Piece) (g : ℕ) (bad : Bool) :
    (State.writeThrough s x g bad).store = s.store := (rfl)

@[simp] theorem State.payMirror_store (s : State) (p : ℕ) (bank : ℕ) (row : ℕ) :
    (State.payMirror s p bank row).store = s.store := by
  simp [State.payMirror]

@[simp] theorem State.safetyMarks_store (s : State) (x : Piece) (bad : List ℕ) :
    (State.safetyMarks s x bad).store = s.store := by
  unfold State.safetyMarks
  repeat' (first
    | (with_reducible rfl)
    | assumption
    | (simp; done)
    | (simp [*]; done)
    | split
    | (refine (foldl_store _ (fun _ _ => ?_) _ _).trans ?_)
    | (refine (foldl_store2 _ (fun _ _ => ?_) _ _).trans ?_)
    | (refine pair_store (by assumption) ?_)
    | (refine trip_store (by assumption) ?_)
    | (refine pair1_store (by assumption) ?_)
    | (dsimp only)
    | simp)

@[simp] theorem State.openRow_store (s : State) (x : Piece) : (State.openRow s x).2.2.store = s.store := by
  unfold State.openRow
  first
    | rfl
    | (simp; done)
    | ((repeat' split) <;> simp; done)
    | (dsimp only; (repeat' split) <;> simp; done)
    | (repeat' (first | (with_reducible rfl) | assumption | (simp; done) | (simp [*]; done) | split | (refine (foldl_store _ (fun _ _ => ?_) _ _).trans ?_) | (refine (foldl_store2 _ (fun _ _ => ?_) _ _).trans ?_) | (refine pair_store (by assumption) ?_) | (refine trip_store (by assumption) ?_) | (refine pair1_store (by assumption) ?_) | (dsimp only) | simp))

@[simp] theorem State.noteBeat_store (s : State) (x : Piece) (bad : List ℕ) (out : BeatOut) :
    (State.noteBeat s x bad out).store = s.store := by
  unfold State.noteBeat; (repeat' split) <;> simp

@[simp] theorem State.finishRead_store (s : State) (x : Piece) : (State.finishRead s x).store =
    s.store := by
  simp [State.finishRead]

@[simp] theorem State.takeRead_store (s : State) (bank : ℕ) (x : Piece) : (State.takeRead s bank x).store = s.store := by
  unfold State.takeRead
  first
    | rfl
    | (simp; done)
    | ((repeat' split) <;> simp; done)
    | (dsimp only; (repeat' split) <;> simp; done)
    | (repeat' (first | (with_reducible rfl) | assumption | (simp; done) | (simp [*]; done) | split | (refine (foldl_store _ (fun _ _ => ?_) _ _).trans ?_) | (refine (foldl_store2 _ (fun _ _ => ?_) _ _).trans ?_) | (refine pair_store (by assumption) ?_) | (refine trip_store (by assumption) ?_) | (refine pair1_store (by assumption) ?_) | (dsimp only) | simp))

@[simp] theorem State.readSlot_store (s : State) (bank : ℕ) : (State.readSlot s bank).store = s.store := by
  unfold State.readSlot
  first
    | rfl
    | (simp; done)
    | ((repeat' split) <;> simp; done)
    | (dsimp only; (repeat' split) <;> simp; done)
    | (repeat' (first | (with_reducible rfl) | assumption | (simp; done) | (simp [*]; done) | split | (refine (foldl_store _ (fun _ _ => ?_) _ _).trans ?_) | (refine (foldl_store2 _ (fun _ _ => ?_) _ _).trans ?_) | (refine pair_store (by assumption) ?_) | (refine trip_store (by assumption) ?_) | (refine pair1_store (by assumption) ?_) | (dsimp only) | simp))

@[simp] theorem State.markBadLine_store (s : State) (c : ℕ) (a : ℕ) :
    (State.markBadLine s c a).store = s.store := by
  unfold State.markBadLine
  repeat' (first
    | (with_reducible rfl)
    | assumption
    | (simp; done)
    | (simp [*]; done)
    | split
    | (refine (foldl_store _ (fun _ _ => ?_) _ _).trans ?_)
    | (refine (foldl_store2 _ (fun _ _ => ?_) _ _).trans ?_)
    | (refine pair_store (by assumption) ?_)
    | (refine trip_store (by assumption) ?_)
    | (refine pair1_store (by assumption) ?_)
    | (dsimp only)
    | simp)

@[simp] theorem State.fillFails_store (s : State) (c : ℕ) (a : ℕ) : (State.fillFails s c a).store =
    s.store := by
  unfold State.fillFails
  repeat' (first
    | (with_reducible rfl)
    | assumption
    | (simp; done)
    | (simp [*]; done)
    | split
    | (refine (foldl_store _ (fun _ _ => ?_) _ _).trans ?_)
    | (refine (foldl_store2 _ (fun _ _ => ?_) _ _).trans ?_)
    | (refine pair_store (by assumption) ?_)
    | (refine trip_store (by assumption) ?_)
    | (refine pair1_store (by assumption) ?_)
    | (dsimp only)
    | simp)

@[simp] theorem State.fillMark_store (s : State) (c : ℕ) (a : ℕ) : (State.fillMark s c a).store = s.store := by
  unfold State.fillMark
  first
    | rfl
    | (simp; done)
    | ((repeat' split) <;> simp; done)
    | (dsimp only; (repeat' split) <;> simp; done)
    | (repeat' (first | (with_reducible rfl) | assumption | (simp; done) | (simp [*]; done) | split | (refine (foldl_store _ (fun _ _ => ?_) _ _).trans ?_) | (refine (foldl_store2 _ (fun _ _ => ?_) _ _).trans ?_) | (refine pair_store (by assumption) ?_) | (refine trip_store (by assumption) ?_) | (refine pair1_store (by assumption) ?_) | (dsimp only) | simp))

@[simp] theorem State.fillEnds_store (s : State) (c : ℕ) (a : ℕ) (rs : List Resp) : (State.fillEnds s c a rs).store = s.store := by
  unfold State.fillEnds
  first
    | rfl
    | (simp; done)
    | ((repeat' split) <;> simp; done)
    | (dsimp only; (repeat' split) <;> simp; done)
    | (repeat' (first | (with_reducible rfl) | assumption | (simp; done) | (simp [*]; done) | split | (refine (foldl_store _ (fun _ _ => ?_) _ _).trans ?_) | (refine (foldl_store2 _ (fun _ _ => ?_) _ _).trans ?_) | (refine pair_store (by assumption) ?_) | (refine trip_store (by assumption) ?_) | (refine pair1_store (by assumption) ?_) | (dsimp only) | simp))

@[simp] theorem State.dropFill_store (s : State) (c a : Nat) : (State.dropFill s c a).store = s.store := by
  unfold State.dropFill
  first
    | rfl
    | (simp; done)
    | ((repeat' split) <;> simp; done)
    | (dsimp only; (repeat' split) <;> simp; done)
    | (repeat' (first | (with_reducible rfl) | assumption | (simp; done) | (simp [*]; done) | split | (refine (foldl_store _ (fun _ _ => ?_) _ _).trans ?_) | (refine (foldl_store2 _ (fun _ _ => ?_) _ _).trans ?_) | (refine pair_store (by assumption) ?_) | (refine trip_store (by assumption) ?_) | (refine pair1_store (by assumption) ?_) | (dsimp only) | simp))

@[simp] theorem State.beginFill_store (s : State) (c : Nat) (f : CacheFill) : (State.beginFill s c f).store = s.store := by
  unfold State.beginFill
  first
    | rfl
    | (simp; done)
    | ((repeat' split) <;> simp; done)
    | (dsimp only; (repeat' split) <;> simp; done)
    | (repeat' (first | (with_reducible rfl) | assumption | (simp; done) | (simp [*]; done) | split | (refine (foldl_store _ (fun _ _ => ?_) _ _).trans ?_) | (refine (foldl_store2 _ (fun _ _ => ?_) _ _).trans ?_) | (refine pair_store (by assumption) ?_) | (refine trip_store (by assumption) ?_) | (refine pair1_store (by assumption) ?_) | (dsimp only) | simp))

@[simp] theorem State.fillAgain_store (s : State) (c a id : Nat) (f : CacheFill) : (State.fillAgain s c a id f).store = s.store := by
  unfold State.fillAgain
  first
    | rfl
    | (simp; done)
    | ((repeat' split) <;> simp; done)
    | (dsimp only; (repeat' split) <;> simp; done)
    | (repeat' (first | (with_reducible rfl) | assumption | (simp; done) | (simp [*]; done) | split | (refine (foldl_store _ (fun _ _ => ?_) _ _).trans ?_) | (refine (foldl_store2 _ (fun _ _ => ?_) _ _).trans ?_) | (refine pair_store (by assumption) ?_) | (refine trip_store (by assumption) ?_) | (refine pair1_store (by assumption) ?_) | (dsimp only) | simp))

@[simp] theorem State.fill_store (s : State) (c : ℕ) (a : ℕ) : (State.fill s c a).store = s.store := by
  unfold State.fill; (repeat' split) <;> simp

/-! ### Folds -/

@[simp] theorem State.satisfy_store (s : State) (k : ℕ) : (State.satisfy s k).store = s.store := (rfl)

@[simp] theorem State.addWaiter_store (s : State) (k : ℕ) (ctx : ℕ) (who : WaitWho) (v : BitVec 32)
    : (State.addWaiter s k ctx who v).store = s.store := (rfl)

@[simp] theorem State.portWait_store (s : State) (k : ℕ) (p : ℕ) (ctx : ℕ) (v : BitVec 32) :
    (State.portWait s k p ctx v).2.2.store = s.store := by
  unfold State.portWait; split <;> simp

@[simp] theorem State.dropWaiter_store (s : State) (order : ℕ) : (State.dropWaiter s order).store =
    s.store := (rfl)

@[simp] theorem State.oweWake_store (s : State) (p : ℕ) (token : BitVec 32) (st : Status) :
    (State.oweWake s p token st).store = s.store := (rfl)

@[simp] theorem State.endWaiter_store (s : State) (w : Waiter) (st : Status) :
    (State.endWaiter s w st).store = s.store := by
  unfold State.endWaiter; split <;> simp

@[simp] theorem State.endWaiters_store (s : State) (k : ℕ) (st : Status) :
    (State.endWaiters s k st).store = s.store := (rfl)

@[simp] theorem State.abandon_store (s : State) (k : ℕ) (st : Status) : (State.abandon s k st).store
    = s.store := by
  simp [State.abandon]

@[simp] theorem State.abandonAll_store (s : State) (p : Fold → Bool) (st : Status) :
    (State.abandonAll s p st).store = s.store := by
  unfold State.abandonAll
  repeat' (first
    | (with_reducible rfl)
    | assumption
    | (simp; done)
    | (simp [*]; done)
    | split
    | (refine (foldl_store _ (fun _ _ => ?_) _ _).trans ?_)
    | (refine (foldl_store2 _ (fun _ _ => ?_) _ _).trans ?_)
    | (refine pair_store (by assumption) ?_)
    | (refine trip_store (by assumption) ?_)
    | (refine pair1_store (by assumption) ?_)
    | (dsimp only)
    | simp)

@[simp] theorem State.abandonPeer_store (s : State) (chip : ℕ) : (State.abandonPeer s chip).store =
    s.store := by
  simp [State.abandonPeer]

@[simp] theorem State.freeAllDying_store (s : State) : (State.freeAllDying s).store = s.store := by
  unfold State.freeAllDying
  first
    | rfl
    | (simp; done)
    | ((repeat' split) <;> simp; done)
    | (dsimp only; (repeat' split) <;> simp; done)
    | (repeat' (first | (with_reducible rfl) | assumption | (simp; done) | (simp [*]; done) | split | (refine (foldl_store _ (fun _ _ => ?_) _ _).trans ?_) | (refine (foldl_store2 _ (fun _ _ => ?_) _ _).trans ?_) | (refine pair_store (by assumption) ?_) | (refine trip_store (by assumption) ?_) | (refine pair1_store (by assumption) ?_) | (dsimp only) | simp))

@[simp] theorem State.foldApply_store (s : State) (o : FoldOp) : (State.foldApply s o).2.2.store = s.store := by
  unfold State.foldApply
  extract_lets k f r g s1 s2 s3 s4 s5
  have h1 : s1.store = s.store := by simp only [s1]; split <;> simp
  have h2 : s2.store = s.store := by simp only [s2]; split <;> simp [h1]
  have h3 : s3.store = s.store := by simp only [s3]; split <;> simp [h2]
  have h4 : s4.store = s.store := by simp only [s4]; split <;> simp [h3]
  have h5 : s5.store = s.store := by simp only [s5]; split <;> simp [h4]
  clear_value s5
  split
  · split
    · split
      · simp [h5]
      · exact h5
    · exact h5
  · exact h5

@[simp] theorem State.markBad_store (s : State) (cluster : ℕ) (pop : ℕ) :
    (State.markBad s cluster pop).store = s.store := (rfl)

@[simp] theorem State.foldHead_store (s : State) (c : ℕ) : (State.foldHead s c).store = s.store := by
  unfold State.foldHead
  split
  · rfl
  · extract_lets s1
    have h1 : s1.store = s.store := (rfl)
    split
    rename_i s2 h2
    have h3 : s2.store = s1.store := trip_store h2 (by simp)
    extract_lets s3
    have h4 : s3.store = s2.store := by simp only [s3]; (repeat' (first | (with_reducible rfl) | assumption | (simp; done) | (simp [*]; done) | split | (refine (foldl_store _ (fun _ _ => ?_) _ _).trans ?_) | (refine (foldl_store2 _ (fun _ _ => ?_) _ _).trans ?_) | (refine pair_store (by assumption) ?_) | (refine trip_store (by assumption) ?_) | (refine pair1_store (by assumption) ?_) | (dsimp only) | simp))
    simp [h4, h3, h1]

@[simp] theorem State.foldStep_store (s : State) (c : ℕ) (op : ℕ) : (State.foldStep s c op).store =
    s.store := by
  unfold State.foldStep; split <;> simp

@[simp] theorem State.foldUpTo_store (s : State) (c token : Nat) (y0 : Nat) : (State.foldUpTo s c token y0).store = s.store := by
  induction y0 generalizing s c token with
  | zero => (unfold State.foldUpTo; (repeat' (first | (with_reducible rfl) | assumption | (simp; done) | (simp [*]; done) | split | (refine (foldl_store _ (fun _ _ => ?_) _ _).trans ?_) | (refine (foldl_store2 _ (fun _ _ => ?_) _ _).trans ?_) | (refine pair_store (by assumption) ?_) | (refine trip_store (by assumption) ?_) | (refine pair1_store (by assumption) ?_) | (dsimp only) | simp)))
  | succ n1 ih => (unfold State.foldUpTo; (repeat' (first | (with_reducible rfl) | assumption | (simp; done) | (simp [*]; done) | split | (refine (foldl_store _ (fun _ _ => ?_) _ _).trans ?_) | (refine (foldl_store2 _ (fun _ _ => ?_) _ _).trans ?_) | (refine pair_store (by assumption) ?_) | (refine trip_store (by assumption) ?_) | (refine pair1_store (by assumption) ?_) | (dsimp only) | simp)))

@[simp] theorem State.foldTaken_store (s : State) (c token : Nat) : (State.foldTaken s c token).store = s.store := by
  unfold State.foldTaken
  first
    | rfl
    | (simp; done)
    | ((repeat' split) <;> simp; done)
    | (dsimp only; (repeat' split) <;> simp; done)
    | (repeat' (first | (with_reducible rfl) | assumption | (simp; done) | (simp [*]; done) | split | (refine (foldl_store _ (fun _ _ => ?_) _ _).trans ?_) | (refine (foldl_store2 _ (fun _ _ => ?_) _ _).trans ?_) | (refine pair_store (by assumption) ?_) | (refine trip_store (by assumption) ?_) | (refine pair1_store (by assumption) ?_) | (dsimp only) | simp))

@[simp] theorem State.foldTurn_store (s : State) (o : FoldOp) (token : Nat) : (State.foldTurn s o token).store = s.store := by
  unfold State.foldTurn
  first
    | rfl
    | (simp; done)
    | ((repeat' split) <;> simp; done)
    | (dsimp only; (repeat' split) <;> simp; done)
    | (repeat' (first | (with_reducible rfl) | assumption | (simp; done) | (simp [*]; done) | split | (refine (foldl_store _ (fun _ _ => ?_) _ _).trans ?_) | (refine (foldl_store2 _ (fun _ _ => ?_) _ _).trans ?_) | (refine pair_store (by assumption) ?_) | (refine trip_store (by assumption) ?_) | (refine pair1_store (by assumption) ?_) | (dsimp only) | simp))

@[simp] theorem State.signalOne_store (s : State) (ctx : ℕ) (v : ℕ) (origin : FoldOrigin) (held : Bool) : (State.signalOne s ctx v origin held).2.store = s.store := by
  unfold State.signalOne
  first
    | rfl
    | (simp; done)
    | ((repeat' split) <;> simp; done)
    | (dsimp only; (repeat' split) <;> simp; done)
    | (repeat' (first | (with_reducible rfl) | assumption | (simp; done) | (simp [*]; done) | split | (refine (foldl_store _ (fun _ _ => ?_) _ _).trans ?_) | (refine (foldl_store2 _ (fun _ _ => ?_) _ _).trans ?_) | (refine pair_store (by assumption) ?_) | (refine trip_store (by assumption) ?_) | (refine pair1_store (by assumption) ?_) | (dsimp only) | simp))

/-! ### Shell -/

@[simp] theorem State.before_store (s : State) (token : ℕ) : (State.before s token).store = s.store := by
  unfold State.before
  first
    | rfl
    | (simp; done)
    | ((repeat' split) <;> simp; done)
    | (dsimp only; (repeat' split) <;> simp; done)
    | (repeat' (first | (with_reducible rfl) | assumption | (simp; done) | (simp [*]; done) | split | (refine (foldl_store _ (fun _ _ => ?_) _ _).trans ?_) | (refine (foldl_store2 _ (fun _ _ => ?_) _ _).trans ?_) | (refine pair_store (by assumption) ?_) | (refine trip_store (by assumption) ?_) | (refine pair1_store (by assumption) ?_) | (dsimp only) | simp))

@[simp] theorem State.endFetch_store (s : State) (n : ℕ) : (State.endFetch s n).store = s.store := by
  unfold State.endFetch
  first
    | rfl
    | (simp; done)
    | ((repeat' split) <;> simp; done)
    | (dsimp only; (repeat' split) <;> simp; done)
    | (repeat' (first | (with_reducible rfl) | assumption | (simp; done) | (simp [*]; done) | split | (refine (foldl_store _ (fun _ _ => ?_) _ _).trans ?_) | (refine (foldl_store2 _ (fun _ _ => ?_) _ _).trans ?_) | (refine pair_store (by assumption) ?_) | (refine trip_store (by assumption) ?_) | (refine pair1_store (by assumption) ?_) | (dsimp only) | simp))

@[simp] theorem State.haltRing_store (s : State) (n : ℕ) (h : HaltCause) : (State.haltRing s n h).store = s.store := by
  unfold State.haltRing
  first
    | rfl
    | (simp; done)
    | ((repeat' split) <;> simp; done)
    | (dsimp only; (repeat' split) <;> simp; done)
    | (repeat' (first | (with_reducible rfl) | assumption | (simp; done) | (simp [*]; done) | split | (refine (foldl_store _ (fun _ _ => ?_) _ _).trans ?_) | (refine (foldl_store2 _ (fun _ _ => ?_) _ _).trans ?_) | (refine pair_store (by assumption) ?_) | (refine trip_store (by assumption) ?_) | (refine pair1_store (by assumption) ?_) | (dsimp only) | simp))

@[simp] theorem State.payRows_store (s : State) (write : Bool) (y2 : List (ℕ × ℕ)) :
    (State.payRows s write y2).store = s.store := by
  induction y2 generalizing s write with
  | nil => (unfold State.payRows; (repeat' (first | (with_reducible rfl) | assumption | (simp; done) | (simp [*]; done) | split | (refine (foldl_store _ (fun _ _ => ?_) _ _).trans ?_) | (refine (foldl_store2 _ (fun _ _ => ?_) _ _).trans ?_) | (refine pair_store (by assumption) ?_) | (refine trip_store (by assumption) ?_) | (refine pair1_store (by assumption) ?_) | (dsimp only) | simp)))
  | cons a1 t1 ih => (unfold State.payRows; (repeat' (first | (with_reducible rfl) | assumption | (simp; done) | (simp [*]; done) | split | (refine (foldl_store _ (fun _ _ => ?_) _ _).trans ?_) | (refine (foldl_store2 _ (fun _ _ => ?_) _ _).trans ?_) | (refine pair_store (by assumption) ?_) | (refine trip_store (by assumption) ?_) | (refine pair1_store (by assumption) ?_) | (dsimp only) | simp)))

@[simp] theorem State.initRead_store (s : State) (a : ℕ) (len : ℕ) :
    (State.initRead s a len).2.store = s.store := by
  simp [State.initRead]

@[simp] theorem State.freeSlot_store (s : State) (n : ℕ) (k : ℕ) : (State.freeSlot s n k).store =
    s.store := (rfl)

@[simp] theorem State.noteRecord_store (s : State) (r : Ring) : (State.noteRecord s r).store = s.store := by
  unfold State.noteRecord
  first
    | rfl
    | (simp; done)
    | ((repeat' split) <;> simp; done)
    | (dsimp only; (repeat' split) <;> simp; done)
    | (repeat' (first | (with_reducible rfl) | assumption | (simp; done) | (simp [*]; done) | split | (refine (foldl_store _ (fun _ _ => ?_) _ _).trans ?_) | (refine (foldl_store2 _ (fun _ _ => ?_) _ _).trans ?_) | (refine pair_store (by assumption) ?_) | (refine trip_store (by assumption) ?_) | (refine pair1_store (by assumption) ?_) | (dsimp only) | simp))

@[simp] theorem State.askRecord_store (s : State) (o : OutRecord) : (State.askRecord s o).2.store = s.store := by
  unfold State.askRecord
  first
    | rfl
    | (simp; done)
    | ((repeat' split) <;> simp; done)
    | (dsimp only; (repeat' split) <;> simp; done)
    | (repeat' (first | (with_reducible rfl) | assumption | (simp; done) | (simp [*]; done) | split | (refine (foldl_store _ (fun _ _ => ?_) _ _).trans ?_) | (refine (foldl_store2 _ (fun _ _ => ?_) _ _).trans ?_) | (refine pair_store (by assumption) ?_) | (refine trip_store (by assumption) ?_) | (refine pair1_store (by assumption) ?_) | (dsimp only) | simp))

@[simp] theorem State.recordWritten_store (s : State) (o : OutRecord) (req : ℕ) : (State.recordWritten s o req).store = s.store := by
  unfold State.recordWritten
  first
    | rfl
    | (simp; done)
    | ((repeat' split) <;> simp; done)
    | (dsimp only; (repeat' split) <;> simp; done)
    | (repeat' (first | (with_reducible rfl) | assumption | (simp; done) | (simp [*]; done) | split | (refine (foldl_store _ (fun _ _ => ?_) _ _).trans ?_) | (refine (foldl_store2 _ (fun _ _ => ?_) _ _).trans ?_) | (refine pair_store (by assumption) ?_) | (refine trip_store (by assumption) ?_) | (refine pair1_store (by assumption) ?_) | (dsimp only) | simp))

@[simp] theorem State.moveRecord_store (s : State) (o : OutRecord) : (State.moveRecord s o).2.store = s.store := by
  unfold State.moveRecord
  first
    | rfl
    | (simp; done)
    | ((repeat' split) <;> simp; done)
    | (dsimp only; (repeat' split) <;> simp; done)
    | (repeat' (first | (with_reducible rfl) | assumption | (simp; done) | (simp [*]; done) | split | (refine (foldl_store _ (fun _ _ => ?_) _ _).trans ?_) | (refine (foldl_store2 _ (fun _ _ => ?_) _ _).trans ?_) | (refine pair_store (by assumption) ?_) | (refine trip_store (by assumption) ?_) | (refine pair1_store (by assumption) ?_) | (dsimp only) | simp))

@[simp] theorem State.moveRecords_store (s : State) (blocked : List ℕ) (y2 : List OutRecord) : (State.moveRecords s blocked y2).2.store = s.store := by
  induction y2 generalizing s blocked with
  | nil => (unfold State.moveRecords; (repeat' (first | (with_reducible rfl) | assumption | (simp; done) | (simp [*]; done) | split | (refine (foldl_store _ (fun _ _ => ?_) _ _).trans ?_) | (refine (foldl_store2 _ (fun _ _ => ?_) _ _).trans ?_) | (refine pair_store (by assumption) ?_) | (refine trip_store (by assumption) ?_) | (refine pair1_store (by assumption) ?_) | (dsimp only) | simp)))
  | cons a1 t1 ih => (unfold State.moveRecords; (repeat' (first | (with_reducible rfl) | assumption | (simp; done) | (simp [*]; done) | split | (refine (foldl_store _ (fun _ _ => ?_) _ _).trans ?_) | (refine (foldl_store2 _ (fun _ _ => ?_) _ _).trans ?_) | (refine pair_store (by assumption) ?_) | (refine trip_store (by assumption) ?_) | (refine pair1_store (by assumption) ?_) | (dsimp only) | simp)))

@[simp] theorem State.flushRecords_store (s : State) : (State.flushRecords s).store = s.store := by
  unfold State.flushRecords
  first
    | rfl
    | (simp; done)
    | ((repeat' split) <;> simp; done)
    | (dsimp only; (repeat' split) <;> simp; done)
    | (repeat' (first | (with_reducible rfl) | assumption | (simp; done) | (simp [*]; done) | split | (refine (foldl_store _ (fun _ _ => ?_) _ _).trans ?_) | (refine (foldl_store2 _ (fun _ _ => ?_) _ _).trans ?_) | (refine pair_store (by assumption) ?_) | (refine trip_store (by assumption) ?_) | (refine pair1_store (by assumption) ?_) | (dsimp only) | simp))

@[simp] theorem State.queueRecord_store (s : State) (n : ℕ) (token : ℕ) (c : Cmd) (r : Result) (final : Bool) : (State.queueRecord s n token c r final).store = s.store := by
  unfold State.queueRecord
  first
    | rfl
    | (simp; done)
    | ((repeat' split) <;> simp; done)
    | (dsimp only; (repeat' split) <;> simp; done)
    | (repeat' (first | (with_reducible rfl) | assumption | (simp; done) | (simp [*]; done) | split | (refine (foldl_store _ (fun _ _ => ?_) _ _).trans ?_) | (refine (foldl_store2 _ (fun _ _ => ?_) _ _).trans ?_) | (refine pair_store (by assumption) ?_) | (refine trip_store (by assumption) ?_) | (refine pair1_store (by assumption) ?_) | (dsimp only) | simp))

@[simp] theorem State.onWindow_store (s : State) (sp : Bool) (f : CmdWindow → CmdWindow) :
    (State.onWindow s sp f).store = s.store := (rfl)

@[simp] theorem State.answerCmd_store (s : State) (p : ℕ) (ctx : ℕ) (tag : ℕ) (st : Status)
    (rec : BitVec 128) : (State.answerCmd s p ctx tag st rec).store = s.store := by
  unfold State.answerCmd; split <;> simp

@[simp] theorem State.interim_store (s : State) (token : ℕ) (c : Cmd) (r : Result) : (State.interim s token c r).store = s.store := by
  unfold State.interim
  split
  · exact State.onWindow_store _ _ _
  · exact State.onWindow_store _ _ _
  · split
    · exact State.freeSlot_store _ _ _
    · exact State.queueRecord_store _ _ _ _ _ _
  · exact State.answerCmd_store _ _ _ _ _ _

@[simp] theorem State.finalTo_store (s : State) (n : ℕ) (k : ℕ) (token : ℕ) (c : Cmd) (r : Result) : (State.finalTo s n k token c r).store = s.store := by
  unfold State.finalTo
  first
    | rfl
    | (simp; done)
    | ((repeat' split) <;> simp; done)
    | (dsimp only; (repeat' split) <;> simp; done)
    | (repeat' (first | (with_reducible rfl) | assumption | (simp; done) | (simp [*]; done) | split | (refine (foldl_store _ (fun _ _ => ?_) _ _).trans ?_) | (refine (foldl_store2 _ (fun _ _ => ?_) _ _).trans ?_) | (refine pair_store (by assumption) ?_) | (refine trip_store (by assumption) ?_) | (refine pair1_store (by assumption) ?_) | (dsimp only) | simp))

@[simp] theorem State.final_store (s : State) (token : ℕ) (c : Cmd) (d : Option Deferred) (r : Result) : (State.final s token c d r).store = s.store := by
  unfold State.final
  first
    | rfl
    | (simp; done)
    | ((repeat' split) <;> simp; done)
    | (dsimp only; (repeat' split) <;> simp; done)
    | (repeat' (first | (with_reducible rfl) | assumption | (simp; done) | (simp [*]; done) | split | (refine (foldl_store _ (fun _ _ => ?_) _ _).trans ?_) | (refine (foldl_store2 _ (fun _ _ => ?_) _ _).trans ?_) | (refine pair_store (by assumption) ?_) | (refine trip_store (by assumption) ?_) | (refine pair1_store (by assumption) ?_) | (dsimp only) | simp))

@[simp] theorem State.signalFor_store (s : State) (token : ℕ) (c : Cmd) : (State.signalFor s token c).store = s.store := by
  unfold State.signalFor
  first
    | rfl
    | (simp; done)
    | ((repeat' split) <;> simp; done)
    | (dsimp only; (repeat' split) <;> simp; done)
    | (repeat' (first | (with_reducible rfl) | assumption | (simp; done) | (simp [*]; done) | split | (refine (foldl_store _ (fun _ _ => ?_) _ _).trans ?_) | (refine (foldl_store2 _ (fun _ _ => ?_) _ _).trans ?_) | (refine pair_store (by assumption) ?_) | (refine trip_store (by assumption) ?_) | (refine pair1_store (by assumption) ?_) | (dsimp only) | simp))

@[simp] theorem State.finish_store (s : State) (token : ℕ) (c : Cmd) (r : Result) : (State.finish s token c r).store = s.store := by
  unfold State.finish
  first
    | rfl
    | (simp; done)
    | ((repeat' split) <;> simp; done)
    | (dsimp only; (repeat' split) <;> simp; done)
    | (repeat' (first | (with_reducible rfl) | assumption | (simp; done) | (simp [*]; done) | split | (refine (foldl_store _ (fun _ _ => ?_) _ _).trans ?_) | (refine (foldl_store2 _ (fun _ _ => ?_) _ _).trans ?_) | (refine pair_store (by assumption) ?_) | (refine trip_store (by assumption) ?_) | (refine pair1_store (by assumption) ?_) | (dsimp only) | simp))

@[simp] theorem State.await_store (s : State) (token : ℕ) (c : Cmd) (half : Option Bool)
    (why : WaitFor) : (State.await s token c half why).store = s.store := (rfl)

@[simp] theorem State.awaitStart_store (s : State) (b : Body) (token : ℕ) (since : ℕ) (c : Cmd) (half : Option Bool) (why : WaitFor) : (State.awaitStart s b token since c half why).store = s.store := by
  unfold State.awaitStart
  first
    | rfl
    | (simp; done)
    | ((repeat' split) <;> simp; done)
    | (dsimp only; (repeat' split) <;> simp; done)
    | (repeat' (first | (with_reducible rfl) | assumption | (simp; done) | (simp [*]; done) | split | (refine (foldl_store _ (fun _ _ => ?_) _ _).trans ?_) | (refine (foldl_store2 _ (fun _ _ => ?_) _ _).trans ?_) | (refine pair_store (by assumption) ?_) | (refine trip_store (by assumption) ?_) | (refine pair1_store (by assumption) ?_) | (dsimp only) | simp))

@[simp] theorem State.defer_store (s : State) (b : Body) (token : ℕ) (since : ℕ) (c : Cmd) : (State.defer s b token since c).store = s.store := by
  unfold State.defer
  first
    | rfl
    | (simp; done)
    | ((repeat' split) <;> simp; done)
    | (dsimp only; (repeat' split) <;> simp; done)
    | (repeat' (first | (with_reducible rfl) | assumption | (simp; done) | (simp [*]; done) | split | (refine (foldl_store _ (fun _ _ => ?_) _ _).trans ?_) | (refine (foldl_store2 _ (fun _ _ => ?_) _ _).trans ?_) | (refine pair_store (by assumption) ?_) | (refine trip_store (by assumption) ?_) | (refine pair1_store (by assumption) ?_) | (dsimp only) | simp))

@[simp] theorem State.judged_store (s : State) (b : Body) (why : Option WaitFor) : (State.judged s b why).store = s.store := by
  unfold State.judged
  first
    | rfl
    | (simp; done)
    | ((repeat' split) <;> simp; done)
    | (dsimp only; (repeat' split) <;> simp; done)
    | (repeat' (first | (with_reducible rfl) | assumption | (simp; done) | (simp [*]; done) | split | (refine (foldl_store _ (fun _ _ => ?_) _ _).trans ?_) | (refine (foldl_store2 _ (fun _ _ => ?_) _ _).trans ?_) | (refine pair_store (by assumption) ?_) | (refine trip_store (by assumption) ?_) | (refine pair1_store (by assumption) ?_) | (dsimp only) | simp))

@[simp] theorem State.noteRange_store (s : State) (r : Result) : (State.noteRange s r).store = s.store := by
  unfold State.noteRange
  first
    | rfl
    | (simp; done)
    | ((repeat' split) <;> simp; done)
    | (dsimp only; (repeat' split) <;> simp; done)
    | (repeat' (first | (with_reducible rfl) | assumption | (simp; done) | (simp [*]; done) | split | (refine (foldl_store _ (fun _ _ => ?_) _ _).trans ?_) | (refine (foldl_store2 _ (fun _ _ => ?_) _ _).trans ?_) | (refine pair_store (by assumption) ?_) | (refine trip_store (by assumption) ?_) | (refine pair1_store (by assumption) ?_) | (dsimp only) | simp))

@[simp] theorem State.refuse_store (s : State) (token : Nat) (c : Cmd) (r : Result) : (State.refuse s token c r).store = s.store := by
  unfold State.refuse
  first
    | rfl
    | (simp; done)
    | ((repeat' split) <;> simp; done)
    | (dsimp only; (repeat' split) <;> simp; done)
    | (repeat' (first | (with_reducible rfl) | assumption | (simp; done) | (simp [*]; done) | split | (refine (foldl_store _ (fun _ _ => ?_) _ _).trans ?_) | (refine (foldl_store2 _ (fun _ _ => ?_) _ _).trans ?_) | (refine pair_store (by assumption) ?_) | (refine trip_store (by assumption) ?_) | (refine pair1_store (by assumption) ?_) | (dsimp only) | simp))

/-! ### Admission -/

@[simp] theorem State.reckon_store (s : State) : (State.reckon s).store = s.store := (rfl)

@[simp] theorem State.guard_store (s : State) : (State.guard s).store = s.store := by
  unfold State.guard
  repeat' (first
    | (with_reducible rfl)
    | assumption
    | (simp; done)
    | (simp [*]; done)
    | split
    | (refine (foldl_store _ (fun _ _ => ?_) _ _).trans ?_)
    | (refine (foldl_store2 _ (fun _ _ => ?_) _ _).trans ?_)
    | (refine pair_store (by assumption) ?_)
    | (refine trip_store (by assumption) ?_)
    | (refine pair1_store (by assumption) ?_)
    | (dsimp only)
    | simp)

/-! ### CmdCrossbar -/

@[simp] theorem Act.ok_store (s : State) : (Act.ok s).state.store = s.store := by
  unfold Act.ok
  first
    | rfl
    | (simp; done)
    | ((repeat' split) <;> simp; done)
    | (dsimp only; (repeat' split) <;> simp; done)
    | (repeat' (first | (with_reducible rfl) | assumption | (simp; done) | (simp [*]; done) | split | (refine (foldl_store _ (fun _ _ => ?_) _ _).trans ?_) | (refine (foldl_store2 _ (fun _ _ => ?_) _ _).trans ?_) | (refine pair_store (by assumption) ?_) | (refine trip_store (by assumption) ?_) | (refine pair1_store (by assumption) ?_) | (dsimp only) | simp))

@[simp] theorem State.endWaitsOf_store (s : State) (ctx : ℕ) : (State.endWaitsOf s ctx).store =
    s.store := (rfl)

@[simp] theorem State.ctxReset_store (s : State) (ctx : ℕ) : (State.ctxReset s ctx).store = s.store := by
  simp [State.ctxReset]

@[simp] theorem State.uncount_store (s : State) (xs : List Piece) : (State.uncount s xs).store =
    s.store := by
  unfold State.uncount
  repeat' (first
    | (with_reducible rfl)
    | assumption
    | (simp; done)
    | (simp [*]; done)
    | split
    | (refine (foldl_store _ (fun _ _ => ?_) _ _).trans ?_)
    | (refine (foldl_store2 _ (fun _ _ => ?_) _ _).trans ?_)
    | (refine pair_store (by assumption) ?_)
    | (refine trip_store (by assumption) ?_)
    | (refine pair1_store (by assumption) ?_)
    | (dsimp only)
    | simp)

@[simp] theorem State.discardSeq_store (s : State) (o : Outst) (lost : List Piece) :
    (State.discardSeq s o lost).store = s.store := by
  unfold State.discardSeq; (repeat' split) <;> simp

@[simp] theorem State.discardQueued_store (s : State) (q : Queued) : (State.discardQueued s q).store
    = s.store := by
  unfold State.discardQueued; (repeat' split) <;> simp

@[simp] theorem State.clearPort_store (s : State) (p : ℕ) : (State.clearPort s p).store = s.store := (rfl)

@[simp] theorem State.dropPortWaits_store (s : State) (p : ℕ) : (State.dropPortWaits s p).store =
    s.store := (rfl)

@[simp] theorem State.portReset_store (s : State) (p : ℕ) : (State.portReset s p).store = s.store := by
  unfold State.portReset
  dsimp only
  rw [State.freeAllDying_store, State.abandonAll_store, State.dropPortWaits_store, State.clearPort_store, State.uncount_store,
    foldl_store _ (fun s q => State.discardQueued_store s q)]
  exact foldl_store _ (fun s o => State.discardSeq_store s o _) _ _

@[simp] theorem State.endReset_store (s : State) (w : Waiting) : (State.endReset s w).store = s.store := by
  unfold State.endReset
  first
    | rfl
    | (simp; done)
    | ((repeat' split) <;> simp; done)
    | (dsimp only; (repeat' split) <;> simp; done)
    | (repeat' (first | (with_reducible rfl) | assumption | (simp; done) | (simp [*]; done) | split | (refine (foldl_store _ (fun _ _ => ?_) _ _).trans ?_) | (refine (foldl_store2 _ (fun _ _ => ?_) _ _).trans ?_) | (refine pair_store (by assumption) ?_) | (refine trip_store (by assumption) ?_) | (refine pair1_store (by assumption) ?_) | (dsimp only) | simp))

@[simp] theorem State.drainComplete_store (s : State) (token : ℕ) : (State.drainComplete s token).store = s.store := by
  unfold State.drainComplete
  first
    | rfl
    | (simp; done)
    | ((repeat' split) <;> simp; done)
    | (dsimp only; (repeat' split) <;> simp; done)
    | (repeat' (first | (with_reducible rfl) | assumption | (simp; done) | (simp [*]; done) | split | (refine (foldl_store _ (fun _ _ => ?_) _ _).trans ?_) | (refine (foldl_store2 _ (fun _ _ => ?_) _ _).trans ?_) | (refine pair_store (by assumption) ?_) | (refine trip_store (by assumption) ?_) | (refine pair1_store (by assumption) ?_) | (dsimp only) | simp))

@[simp] theorem State.markedParams_store (s : State) (as : List Nat) : (State.markedParams s as).store = s.store := by
  unfold State.markedParams
  first
    | rfl
    | (simp; done)
    | ((repeat' split) <;> simp; done)
    | (dsimp only; (repeat' split) <;> simp; done)
    | (repeat' (first | (with_reducible rfl) | assumption | (simp; done) | (simp [*]; done) | split | (refine (foldl_store _ (fun _ _ => ?_) _ _).trans ?_) | (refine (foldl_store2 _ (fun _ _ => ?_) _ _).trans ?_) | (refine pair_store (by assumption) ?_) | (refine trip_store (by assumption) ?_) | (refine pair1_store (by assumption) ?_) | (dsimp only) | simp))

@[simp] theorem State.swapTakeEffect_store (s : State) (n : ℕ) : (State.swapTakeEffect s n).store = s.store := by
  unfold State.swapTakeEffect
  first
    | rfl
    | (simp; done)
    | ((repeat' split) <;> simp; done)
    | (dsimp only; (repeat' split) <;> simp; done)
    | (repeat' (first | (with_reducible rfl) | assumption | (simp; done) | (simp [*]; done) | split | (refine (foldl_store _ (fun _ _ => ?_) _ _).trans ?_) | (refine (foldl_store2 _ (fun _ _ => ?_) _ _).trans ?_) | (refine pair_store (by assumption) ?_) | (refine trip_store (by assumption) ?_) | (refine pair1_store (by assumption) ?_) | (dsimp only) | simp))

@[simp] theorem State.takeTargets_store (s : State) (g : BitVec 256) : (State.takeTargets s g).store
    = s.store := (rfl)

@[simp] theorem State.admitRecords_store (s : State) (set : List (BitVec 256)) : (State.admitRecords s set).store
    = s.store := by
  unfold State.admitRecords
  repeat' (first
    | (with_reducible rfl)
    | assumption
    | (simp; done)
    | (simp [*]; done)
    | split
    | (refine (foldl_store _ (fun _ _ => ?_) _ _).trans ?_)
    | (refine (foldl_store2 _ (fun _ _ => ?_) _ _).trans ?_)
    | (refine pair_store (by assumption) ?_)
    | (refine trip_store (by assumption) ?_)
    | (refine pair1_store (by assumption) ?_)
    | (dsimp only)
    | simp)

@[simp] theorem State.releaseGuarantee_store (s : State) (id : ℕ) :
    (State.releaseGuarantee s id).store = s.store := by
  unfold State.releaseGuarantee; split <;> simp

/-! ### Links -/

@[simp] theorem State.onDest_store (s : State) (chip : ℕ) (f : DestEntry → DestEntry) :
    (State.onDest s chip f).store = s.store := (rfl)

@[simp] theorem State.moveFloor_store (s : State) (chip : ℕ) : (State.moveFloor s chip).store =
    s.store := by
  unfold State.moveFloor; split <;> simp

@[simp] theorem State.makeDest_store (s : State) (chip : ℕ) : (State.makeDest s chip).store =
    s.store := by
  unfold State.makeDest; (repeat' split) <;> simp

@[simp] theorem State.tidyDests_store (s : State) : (State.tidyDests s).store = s.store := by
  unfold State.tidyDests
  first
    | rfl
    | (simp; done)
    | ((repeat' split) <;> simp; done)
    | (dsimp only; (repeat' split) <;> simp; done)
    | (repeat' (first | (with_reducible rfl) | assumption | (simp; done) | (simp [*]; done) | split | (refine (foldl_store _ (fun _ _ => ?_) _ _).trans ?_) | (refine (foldl_store2 _ (fun _ _ => ?_) _ _).trans ?_) | (refine pair_store (by assumption) ?_) | (refine trip_store (by assumption) ?_) | (refine pair1_store (by assumption) ?_) | (dsimp only) | simp))

@[simp] theorem State.onOut_store (s : State) (req : ℕ) (f : OutReq → OutReq) :
    (State.onOut s req f).store = s.store := (rfl)

@[simp] theorem State.outEnds_store (s : State) (o : OutReq) : (State.outEnds s o).store = s.store := by
  simp [State.outEnds]

@[simp] theorem State.refuseRest_store (s : State) (q : Outst) (st : Status) :
    (State.refuseRest s q st).store = s.store := by
  unfold State.refuseRest
  repeat' (first
    | (with_reducible rfl)
    | assumption
    | (simp; done)
    | (simp [*]; done)
    | split
    | (refine (foldl_store _ (fun _ _ => ?_) _ _).trans ?_)
    | (refine (foldl_store2 _ (fun _ _ => ?_) _ _).trans ?_)
    | (refine pair_store (by assumption) ?_)
    | (refine trip_store (by assumption) ?_)
    | (refine pair1_store (by assumption) ?_)
    | (dsimp only)
    | simp)

@[simp] theorem State.writeLost_store (s : State) (q : Outst) : (State.writeLost s q).store = s.store := by
  unfold State.writeLost
  first
    | rfl
    | (simp; done)
    | ((repeat' split) <;> simp; done)
    | (dsimp only; (repeat' split) <;> simp; done)
    | (repeat' (first | (with_reducible rfl) | assumption | (simp; done) | (simp [*]; done) | split | (refine (foldl_store _ (fun _ _ => ?_) _ _).trans ?_) | (refine (foldl_store2 _ (fun _ _ => ?_) _ _).trans ?_) | (refine pair_store (by assumption) ?_) | (refine trip_store (by assumption) ?_) | (refine pair1_store (by assumption) ?_) | (dsimp only) | simp))

@[simp] theorem State.remoteLost_store (s : State) (o : OutReq) : (State.remoteLost s o).store =
    s.store := by
  unfold State.remoteLost; dsimp only; (repeat' split) <;> simp

@[simp] theorem State.sendOut_store (s : State) (o : OutReq) (n : ℕ) (seq : BitVec 16)
    (floor : BitVec 16) (resend : Bool) : (State.sendOut s o n seq floor resend).store = s.store := (rfl)

@[simp] theorem State.linkSend_store (s : State) (chip : ℕ) : (State.linkSend s chip).store =
    s.store := by
  unfold State.linkSend; (repeat' split) <;> simp

@[simp] theorem State.linkResend_store (s : State) (req : ℕ) : (State.linkResend s req).store =
    s.store := by
  unfold State.linkResend; (repeat' split) <;> simp

@[simp] theorem State.linkRemoteLost_store (s : State) (req : ℕ) :
    (State.linkRemoteLost s req).store = s.store := by
  unfold State.linkRemoteLost; split <;> simp

@[simp] theorem State.epochDrop_store (s : State) (n : ℕ) (chip : ℕ) :
    (State.epochDrop s n chip).store = s.store := (rfl)

@[simp] theorem State.misroute_store (s : State) (n : ℕ) (chip : ℕ) :
    (State.misroute s n chip).store = s.store := (rfl)

@[simp] theorem State.stale_store (s : State) (n : ℕ) : (State.stale s n).store = s.store := (rfl)

@[simp] theorem State.gotBeat_store (s : State) (o : OutReq) (beat : Nat) : (State.gotBeat s o beat).store = s.store := by
  unfold State.gotBeat
  first
    | rfl
    | (simp; done)
    | ((repeat' split) <;> simp; done)
    | (dsimp only; (repeat' split) <;> simp; done)
    | (repeat' (first | (with_reducible rfl) | assumption | (simp; done) | (simp [*]; done) | split | (refine (foldl_store _ (fun _ _ => ?_) _ _).trans ?_) | (refine (foldl_store2 _ (fun _ _ => ?_) _ _).trans ?_) | (refine pair_store (by assumption) ?_) | (refine trip_store (by assumption) ?_) | (refine pair1_store (by assumption) ?_) | (dsimp only) | simp))

@[simp] theorem State.answered_store (s : State) (o : OutReq) (r : LinkRsp) :
    (State.answered s o r).store = s.store := by
  unfold State.answered; split <;> simp

@[simp] theorem State.linkResponse_store (s : State) (n : ℕ) (r : LinkRsp) :
    (State.linkResponse s n r).store = s.store := by
  unfold State.linkResponse; dsimp only; (repeat' split) <;> simp

@[simp] theorem State.discardHeld_store (s : State) (p : HeldOp → Bool) (g : State → HeldOp → State)
    (hg : ∀ s0 x0, (g s0 x0).store = s0.store) : (State.discardHeld s p g).store = s.store := by
  unfold State.discardHeld
  repeat' (first
    | (with_reducible rfl)
    | assumption
    | (simp; done)
    | (simp [*]; done)
    | split
    | (refine (foldl_store _ (fun _ _ => ?_) _ _).trans ?_)
    | (refine (foldl_store2 _ (fun _ _ => ?_) _ _).trans ?_)
    | (refine pair_store (by assumption) ?_)
    | (refine trip_store (by assumption) ?_)
    | (refine pair1_store (by assumption) ?_)
    | (dsimp only)
    | simp)

@[simp] theorem State.dropSource_store (s : State) (i : ℕ) : (State.dropSource s i).store = s.store := by
  simp only [State.dropSource, State.onLinks_store]; exact State.discardHeld_store _ _ _ (fun _ _ => by simp)

theorem State.sourceFor_store {s t : State} {c i : ℕ} {b : BitVec 16} {k : ℕ} (h : s.sourceFor c i b = some (k, t)) : t.store = s.store := by
  unfold State.sourceFor at h
  dsimp only at h
  repeat' split at h
  all_goals first | (cases h; rfl) | (cases h; (repeat' (first | (with_reducible rfl) | assumption | (simp; done) | (simp [*]; done) | split | (refine (foldl_store _ (fun _ _ => ?_) _ _).trans ?_) | (refine (foldl_store2 _ (fun _ _ => ?_) _ _).trans ?_) | (refine pair_store (by assumption) ?_) | (refine trip_store (by assumption) ?_) | (refine pair1_store (by assumption) ?_) | (dsimp only) | simp))) | (simp at h)

@[simp] theorem State.repeatAnswer_store (s : State) (n : ℕ) (r : LinkReq) (t : LinkTag)
    (q : SeqRec) (st : Status) : (State.repeatAnswer s n r t q st).store = s.store := by
  simp [State.repeatAnswer]

@[simp] theorem State.takeInbound_store (s : State) (n : ℕ) (r : LinkReq) (t : LinkTag) (again : Bool) : (State.takeInbound s n r t again).store = s.store := by
  unfold State.takeInbound
  first
    | rfl
    | (simp; done)
    | ((repeat' split) <;> simp; done)
    | (dsimp only; (repeat' split) <;> simp; done)
    | (repeat' (first | (with_reducible rfl) | assumption | (simp; done) | (simp [*]; done) | split | (refine (foldl_store _ (fun _ _ => ?_) _ _).trans ?_) | (refine (foldl_store2 _ (fun _ _ => ?_) _ _).trans ?_) | (refine pair_store (by assumption) ?_) | (refine trip_store (by assumption) ?_) | (refine pair1_store (by assumption) ?_) | (dsimp only) | simp))

@[simp] theorem State.inWindow_store (s : State) (n : ℕ) (r : LinkReq) (t : LinkTag) (e : SrcEntry)
    : (State.inWindow s n r t e).store = s.store := by
  unfold State.inWindow; (repeat' split) <;> simp

@[simp] theorem State.headerFault_store (s : State) (p : ℕ) : (State.headerFault s p).store =
    s.store := (rfl)

@[simp] theorem State.linkInbound_store (s : State) (n : ℕ) (r : LinkReq) :
    (State.linkInbound s n r).store = s.store := by
  unfold State.linkInbound
  dsimp only
  repeat' split
  all_goals first | (simp; done) | (have h9 := State.sourceFor_store (by assumption); simp [h9]; done) | (rename_i h _; have h9 := State.sourceFor_store (by assumption); (repeat' (first | (with_reducible rfl) | assumption | (simp; done) | (simp [*]; done) | split | (refine (foldl_store _ (fun _ _ => ?_) _ _).trans ?_) | (refine (foldl_store2 _ (fun _ _ => ?_) _ _).trans ?_) | (refine pair_store (by assumption) ?_) | (refine trip_store (by assumption) ?_) | (refine pair1_store (by assumption) ?_) | (dsimp only) | simp)); done) | (repeat' (first | (with_reducible rfl) | assumption | (simp; done) | (simp [*]; done) | split | (refine (foldl_store _ (fun _ _ => ?_) _ _).trans ?_) | (refine (foldl_store2 _ (fun _ _ => ?_) _ _).trans ?_) | (refine pair_store (by assumption) ?_) | (refine trip_store (by assumption) ?_) | (refine pair1_store (by assumption) ?_) | (dsimp only) | simp))

@[simp] theorem State.linkIn_store (s : State) (n : Nat) (x : LinkIn) : (State.linkIn s n x).store = s.store := by
  unfold State.linkIn
  first
    | rfl
    | (simp; done)
    | ((repeat' split) <;> simp; done)
    | (dsimp only; (repeat' split) <;> simp; done)
    | (repeat' (first | (with_reducible rfl) | assumption | (simp; done) | (simp [*]; done) | split | (refine (foldl_store _ (fun _ _ => ?_) _ _).trans ?_) | (refine (foldl_store2 _ (fun _ _ => ?_) _ _).trans ?_) | (refine pair_store (by assumption) ?_) | (refine trip_store (by assumption) ?_) | (refine pair1_store (by assumption) ?_) | (dsimp only) | simp))

@[simp] theorem State.linkResume_store (s : State) : (State.linkResume s).store = s.store := by
  unfold State.linkResume
  first
    | rfl
    | (simp; done)
    | ((repeat' split) <;> simp; done)
    | (dsimp only; (repeat' split) <;> simp; done)
    | (repeat' (first | (with_reducible rfl) | assumption | (simp; done) | (simp [*]; done) | split | (refine (foldl_store _ (fun _ _ => ?_) _ _).trans ?_) | (refine (foldl_store2 _ (fun _ _ => ?_) _ _).trans ?_) | (refine pair_store (by assumption) ?_) | (refine trip_store (by assumption) ?_) | (refine pair1_store (by assumption) ?_) | (dsimp only) | simp))

@[simp] theorem State.releaseHeldOp_store (s : State) (order : ℕ) :
    (State.releaseHeldOp s order).store = s.store := by
  unfold State.releaseHeldOp; split <;> simp

@[simp] theorem State.heldStale_store (s : State) (order : ℕ) : (State.heldStale s order).store =
    s.store := by
  unfold State.heldStale; split <;> simp

@[simp] theorem State.reclaim_store (s : State) (i : ℕ) : (State.reclaim s i).store = s.store := by
  unfold State.reclaim; split <;> simp

@[simp] theorem State.answerHeld_store (s : State) : (State.answerHeld s).store = s.store := by
  unfold State.answerHeld
  repeat' (first
    | (with_reducible rfl)
    | assumption
    | (simp; done)
    | (simp [*]; done)
    | split
    | (refine (foldl_store _ (fun _ _ => ?_) _ _).trans ?_)
    | (refine (foldl_store2 _ (fun _ _ => ?_) _ _).trans ?_)
    | (refine pair_store (by assumption) ?_)
    | (refine trip_store (by assumption) ?_)
    | (refine pair1_store (by assumption) ?_)
    | (dsimp only)
    | simp)

@[simp] theorem State.linkUpChange_store (s : State) (n : ℕ) (up : Bool) :
    (State.linkUpChange s n up).store = s.store := by
  simp [State.linkUpChange]

/-! ### CmdAddr -/

@[simp] theorem State.markInit_store (s : State) (i : ℕ) : (State.markInit s i).store = s.store := by
  simp [State.markInit]

@[simp] theorem State.invalidateView_store (s : State) (v : ℕ) : (State.invalidateView s v).store =
    s.store := by
  unfold State.invalidateView; split <;> simp

@[simp] theorem State.viewSet_store (s : State) (d : BitVec 512) (owner : ℕ) :
    (State.viewSet s d owner).store = s.store := by
  simp [State.viewSet]

@[simp] theorem State.settleEpoch_store (s : State) (id : ℕ) (r : EpochRec) :
    (State.settleEpoch s id r).store = s.store := by
  unfold State.settleEpoch; split <;> simp

@[simp] theorem State.epochTime_store (s : State) (id : ℕ) : (State.epochTime s id).store = s.store := by
  unfold State.epochTime; split <;> simp

/-! ### CmdFold -/

@[simp] theorem State.foldDestroy_store (s : State) (k : ℕ) : (State.foldDestroy s k).store =
    s.store := by
  simp [State.foldDestroy]

@[simp] theorem State.ringWait_store (s : State) (token : ℕ) (c : Cmd) (k : ℕ) (n : ℕ) (o : FoldOp) : (State.ringWait s token c k n o).state.store = s.store := by
  unfold State.ringWait
  first
    | rfl
    | (simp; done)
    | ((repeat' split) <;> simp; done)
    | (dsimp only; (repeat' split) <;> simp; done)
    | (repeat' (first | (with_reducible rfl) | assumption | (simp; done) | (simp [*]; done) | split | (refine (foldl_store _ (fun _ _ => ?_) _ _).trans ?_) | (refine (foldl_store2 _ (fun _ _ => ?_) _ _).trans ?_) | (refine pair_store (by assumption) ?_) | (refine trip_store (by assumption) ?_) | (refine pair1_store (by assumption) ?_) | (dsimp only) | simp))

@[simp] theorem State.foldCorrects_store (s : State) (k : ℕ) : (State.foldCorrects s k).store = s.store := by
  unfold State.foldCorrects
  first
    | rfl
    | (simp; done)
    | ((repeat' split) <;> simp; done)
    | (dsimp only; (repeat' split) <;> simp; done)
    | (repeat' (first | (with_reducible rfl) | assumption | (simp; done) | (simp [*]; done) | split | (refine (foldl_store _ (fun _ _ => ?_) _ _).trans ?_) | (refine (foldl_store2 _ (fun _ _ => ?_) _ _).trans ?_) | (refine pair_store (by assumption) ?_) | (refine trip_store (by assumption) ?_) | (refine pair1_store (by assumption) ?_) | (dsimp only) | simp))

@[simp] theorem State.svcPush_store (s : State) (bs : List Byte) : (State.svcPush s bs).store =
    s.store := (rfl)

@[simp] theorem State.onDump_store (s : State) (token : ℕ) (f : Dump → Dump) :
    (State.onDump s token f).store = s.store := (rfl)

@[simp] theorem State.endDump_store (s : State) (d : Dump) (r : Result) : (State.endDump s d r).store = s.store := by
  unfold State.endDump
  first
    | rfl
    | (simp; done)
    | ((repeat' split) <;> simp; done)
    | (dsimp only; (repeat' split) <;> simp; done)
    | (repeat' (first | (with_reducible rfl) | assumption | (simp; done) | (simp [*]; done) | split | (refine (foldl_store _ (fun _ _ => ?_) _ _).trans ?_) | (refine (foldl_store2 _ (fun _ _ => ?_) _ _).trans ?_) | (refine pair_store (by assumption) ?_) | (refine trip_store (by assumption) ?_) | (refine pair1_store (by assumption) ?_) | (dsimp only) | simp))

@[simp] theorem State.dumpToSvc_store (s : State) (d : Dump) : (State.dumpToSvc s d).store = s.store := by
  unfold State.dumpToSvc
  first
    | rfl
    | (simp; done)
    | ((repeat' split) <;> simp; done)
    | (dsimp only; (repeat' split) <;> simp; done)
    | (repeat' (first | (with_reducible rfl) | assumption | (simp; done) | (simp [*]; done) | split | (refine (foldl_store _ (fun _ _ => ?_) _ _).trans ?_) | (refine (foldl_store2 _ (fun _ _ => ?_) _ _).trans ?_) | (refine pair_store (by assumption) ?_) | (refine trip_store (by assumption) ?_) | (refine pair1_store (by assumption) ?_) | (dsimp only) | simp))

/-! ### Neurons -/

@[simp] theorem State.evBad_store (s : State) (v : ℕ) (pop : ℕ) (cluster : ℕ) :
    (State.evBad s v pop cluster).store = s.store := (rfl)

@[simp] theorem State.askEvent_store (s : State) (c : ℕ) (op : ℕ) (addr : ℕ) (len : ℕ) (ctx : ℕ) (xs : List Piece) : (State.askEvent s c op addr len ctx xs).2.store = s.store := by
  unfold State.askEvent
  first
    | rfl
    | (simp; done)
    | ((repeat' split) <;> simp; done)
    | (dsimp only; (repeat' split) <;> simp; done)
    | (repeat' (first | (with_reducible rfl) | assumption | (simp; done) | (simp [*]; done) | split | (refine (foldl_store _ (fun _ _ => ?_) _ _).trans ?_) | (refine (foldl_store2 _ (fun _ _ => ?_) _ _).trans ?_) | (refine pair_store (by assumption) ?_) | (refine trip_store (by assumption) ?_) | (refine pair1_store (by assumption) ?_) | (dsimp only) | simp))

@[simp] theorem State.askEventRead_store (s : State) (c : ℕ) (ctx : ℕ) (a : ℕ) (len : ℕ) : (State.askEventRead s c ctx a len).2.store = s.store := by
  unfold State.askEventRead
  first
    | rfl
    | (simp; done)
    | ((repeat' split) <;> simp; done)
    | (dsimp only; (repeat' split) <;> simp; done)
    | (repeat' (first | (with_reducible rfl) | assumption | (simp; done) | (simp [*]; done) | split | (refine (foldl_store _ (fun _ _ => ?_) _ _).trans ?_) | (refine (foldl_store2 _ (fun _ _ => ?_) _ _).trans ?_) | (refine pair_store (by assumption) ?_) | (refine trip_store (by assumption) ?_) | (refine pair1_store (by assumption) ?_) | (dsimp only) | simp))

@[simp] theorem State.tidyEvents_store (s : State) (c : ℕ) : (State.tidyEvents s c).store = s.store := by
  unfold State.tidyEvents
  first
    | rfl
    | (simp; done)
    | ((repeat' split) <;> simp; done)
    | (dsimp only; (repeat' split) <;> simp; done)
    | (repeat' (first | (with_reducible rfl) | assumption | (simp; done) | (simp [*]; done) | split | (refine (foldl_store _ (fun _ _ => ?_) _ _).trans ?_) | (refine (foldl_store2 _ (fun _ _ => ?_) _ _).trans ?_) | (refine pair_store (by assumption) ?_) | (refine trip_store (by assumption) ?_) | (refine pair1_store (by assumption) ?_) | (dsimp only) | simp))

@[simp] theorem State.synapse_store (s : State) (r : SpikeRun) (p : Pop) (e : ℕ × Bool) (w : ℕ × Bool) (k : Found) (fmt : BitVec 512) : (State.synapse s r p e w k fmt).2.store = s.store := by
  unfold State.synapse
  first
    | rfl
    | (simp; done)
    | ((repeat' split) <;> simp; done)
    | (dsimp only; (repeat' split) <;> simp; done)
    | (repeat' (first | (with_reducible rfl) | assumption | (simp; done) | (simp [*]; done) | split | (refine (foldl_store _ (fun _ _ => ?_) _ _).trans ?_) | (refine (foldl_store2 _ (fun _ _ => ?_) _ _).trans ?_) | (refine pair_store (by assumption) ?_) | (refine trip_store (by assumption) ?_) | (refine pair1_store (by assumption) ?_) | (dsimp only) | simp))

@[simp] theorem State.synapses_store (s : State) (c : ℕ) (r : SpikeRun) (p : Pop) (v : View) (base : ℕ) (syn : List Resp) (ws : List Resp) (y8 : List ℕ) : (State.synapses s c r p v base syn ws y8).2.store = s.store := by
  induction y8 generalizing s c r p v base syn ws with
  | nil => (unfold State.synapses; (repeat' (first | (with_reducible rfl) | assumption | (simp; done) | (simp [*]; done) | split | (refine (foldl_store _ (fun _ _ => ?_) _ _).trans ?_) | (refine (foldl_store2 _ (fun _ _ => ?_) _ _).trans ?_) | (refine pair_store (by assumption) ?_) | (refine trip_store (by assumption) ?_) | (refine pair1_store (by assumption) ?_) | (dsimp only) | simp)))
  | cons a1 t1 ih => (unfold State.synapses; (repeat' (first | (with_reducible rfl) | assumption | (simp; done) | (simp [*]; done) | split | (refine (foldl_store _ (fun _ _ => ?_) _ _).trans ?_) | (refine (foldl_store2 _ (fun _ _ => ?_) _ _).trans ?_) | (refine pair_store (by assumption) ?_) | (refine trip_store (by assumption) ?_) | (refine pair1_store (by assumption) ?_) | (dsimp only) | simp)))

@[simp] theorem State.spikeDone_store (s : State) (c : ℕ) (pop : ℕ) : (State.spikeDone s c pop).store = s.store := by
  unfold State.spikeDone
  first
    | rfl
    | (simp; done)
    | ((repeat' split) <;> simp; done)
    | (dsimp only; (repeat' split) <;> simp; done)
    | (repeat' (first | (with_reducible rfl) | assumption | (simp; done) | (simp [*]; done) | split | (refine (foldl_store _ (fun _ _ => ?_) _ _).trans ?_) | (refine (foldl_store2 _ (fun _ _ => ?_) _ _).trans ?_) | (refine pair_store (by assumption) ?_) | (refine trip_store (by assumption) ?_) | (refine pair1_store (by assumption) ?_) | (dsimp only) | simp))

@[simp] theorem State.runStart_store (s : State) (c : ℕ) (r : SpikeRun) (p : Pop) : (State.runStart s c r p).2.store = s.store := by
  unfold State.runStart
  first
    | rfl
    | (simp; done)
    | ((repeat' split) <;> simp; done)
    | (dsimp only; (repeat' split) <;> simp; done)
    | (repeat' (first | (with_reducible rfl) | assumption | (simp; done) | (simp [*]; done) | split | (refine (foldl_store _ (fun _ _ => ?_) _ _).trans ?_) | (refine (foldl_store2 _ (fun _ _ => ?_) _ _).trans ?_) | (refine pair_store (by assumption) ?_) | (refine trip_store (by assumption) ?_) | (refine pair1_store (by assumption) ?_) | (dsimp only) | simp))

@[simp] theorem State.runDirectory_store (s : State) (c : ℕ) (r : SpikeRun) (p : Pop) (rs : List Resp) : (State.runDirectory s c r p rs).2.store = s.store := by
  unfold State.runDirectory
  first
    | rfl
    | (simp; done)
    | ((repeat' split) <;> simp; done)
    | (dsimp only; (repeat' split) <;> simp; done)
    | (repeat' (first | (with_reducible rfl) | assumption | (simp; done) | (simp [*]; done) | split | (refine (foldl_store _ (fun _ _ => ?_) _ _).trans ?_) | (refine (foldl_store2 _ (fun _ _ => ?_) _ _).trans ?_) | (refine pair_store (by assumption) ?_) | (refine trip_store (by assumption) ?_) | (refine pair1_store (by assumption) ?_) | (dsimp only) | simp))

@[simp] theorem State.runChunk_store (s : State) (c : ℕ) (r : SpikeRun) (p : Pop) : (State.runChunk s c r p).2.store = s.store := by
  unfold State.runChunk
  first
    | rfl
    | (simp; done)
    | ((repeat' split) <;> simp; done)
    | (dsimp only; (repeat' split) <;> simp; done)
    | (repeat' (first | (with_reducible rfl) | assumption | (simp; done) | (simp [*]; done) | split | (refine (foldl_store _ (fun _ _ => ?_) _ _).trans ?_) | (refine (foldl_store2 _ (fun _ _ => ?_) _ _).trans ?_) | (refine pair_store (by assumption) ?_) | (refine trip_store (by assumption) ?_) | (refine pair1_store (by assumption) ?_) | (dsimp only) | simp))

@[simp] theorem State.runSynapses_store (s : State) (c : ℕ) (r : SpikeRun) (p : Pop) (syn : List Resp) (ws : List Resp) : (State.runSynapses s c r p syn ws).2.store = s.store := by
  unfold State.runSynapses
  first
    | rfl
    | (simp; done)
    | ((repeat' split) <;> simp; done)
    | (dsimp only; (repeat' split) <;> simp; done)
    | (repeat' (first | (with_reducible rfl) | assumption | (simp; done) | (simp [*]; done) | split | (refine (foldl_store _ (fun _ _ => ?_) _ _).trans ?_) | (refine (foldl_store2 _ (fun _ _ => ?_) _ _).trans ?_) | (refine pair_store (by assumption) ?_) | (refine trip_store (by assumption) ?_) | (refine pair1_store (by assumption) ?_) | (dsimp only) | simp))

@[simp] theorem State.refuseSpike_store (s : State) (c : ℕ) (pop : ℕ) :
    (State.refuseSpike s c pop).store = s.store := by
  simp [State.refuseSpike]

@[simp] theorem State.judgeSpike_store (s : State) (c : ℕ) (e : Event) : (State.judgeSpike s c e).store = s.store := by
  unfold State.judgeSpike
  first
    | rfl
    | (simp; done)
    | ((repeat' split) <;> simp; done)
    | (dsimp only; (repeat' split) <;> simp; done)
    | (repeat' (first | (with_reducible rfl) | assumption | (simp; done) | (simp [*]; done) | split | (refine (foldl_store _ (fun _ _ => ?_) _ _).trans ?_) | (refine (foldl_store2 _ (fun _ _ => ?_) _ _).trans ?_) | (refine pair_store (by assumption) ?_) | (refine trip_store (by assumption) ?_) | (refine pair1_store (by assumption) ?_) | (dsimp only) | simp))

@[simp] theorem State.performMark_store (s : State) (c : ℕ) (e : Event) : (State.performMark s c e).store = s.store := by
  unfold State.performMark
  first
    | rfl
    | (simp; done)
    | ((repeat' split) <;> simp; done)
    | (dsimp only; (repeat' split) <;> simp; done)
    | (repeat' (first | (with_reducible rfl) | assumption | (simp; done) | (simp [*]; done) | split | (refine (foldl_store _ (fun _ _ => ?_) _ _).trans ?_) | (refine (foldl_store2 _ (fun _ _ => ?_) _ _).trans ?_) | (refine pair_store (by assumption) ?_) | (refine trip_store (by assumption) ?_) | (refine pair1_store (by assumption) ?_) | (dsimp only) | simp))

@[simp] theorem State.finalStep_store (s : State) (r : StepRun) : (State.finalStep s r).store = s.store := by
  unfold State.finalStep
  first
    | rfl
    | (simp; done)
    | ((repeat' split) <;> simp; done)
    | (dsimp only; (repeat' split) <;> simp; done)
    | (repeat' (first | (with_reducible rfl) | assumption | (simp; done) | (simp [*]; done) | split | (refine (foldl_store _ (fun _ _ => ?_) _ _).trans ?_) | (refine (foldl_store2 _ (fun _ _ => ?_) _ _).trans ?_) | (refine pair_store (by assumption) ?_) | (refine trip_store (by assumption) ?_) | (refine pair1_store (by assumption) ?_) | (dsimp only) | simp))

@[simp] theorem State.endSteps_store (s : State) : (State.endSteps s).store = s.store := by
  unfold State.endSteps
  first
    | rfl
    | (simp; done)
    | ((repeat' split) <;> simp; done)
    | (dsimp only; (repeat' split) <;> simp; done)
    | (repeat' (first | (with_reducible rfl) | assumption | (simp; done) | (simp [*]; done) | split | (refine (foldl_store _ (fun _ _ => ?_) _ _).trans ?_) | (refine (foldl_store2 _ (fun _ _ => ?_) _ _).trans ?_) | (refine pair_store (by assumption) ?_) | (refine trip_store (by assumption) ?_) | (refine pair1_store (by assumption) ?_) | (dsimp only) | simp))

@[simp] theorem State.releaseMarks_store (s : State) (c : ℕ) (kept : List Event) (y3 : List Event) : (State.releaseMarks s c kept y3).store = s.store := by
  induction y3 generalizing s c kept with
  | nil => (unfold State.releaseMarks; (repeat' (first | (with_reducible rfl) | assumption | (simp; done) | (simp [*]; done) | split | (refine (foldl_store _ (fun _ _ => ?_) _ _).trans ?_) | (refine (foldl_store2 _ (fun _ _ => ?_) _ _).trans ?_) | (refine pair_store (by assumption) ?_) | (refine trip_store (by assumption) ?_) | (refine pair1_store (by assumption) ?_) | (dsimp only) | simp)))
  | cons a1 t1 ih => (unfold State.releaseMarks; (repeat' (first | (with_reducible rfl) | assumption | (simp; done) | (simp [*]; done) | split | (refine (foldl_store _ (fun _ _ => ?_) _ _).trans ?_) | (refine (foldl_store2 _ (fun _ _ => ?_) _ _).trans ?_) | (refine pair_store (by assumption) ?_) | (refine trip_store (by assumption) ?_) | (refine pair1_store (by assumption) ?_) | (dsimp only) | simp)))

@[simp] theorem State.takeEvent_store (s : State) (c : ℕ) (e : Event) :
    (State.takeEvent s c e).store = s.store := (rfl)

@[simp] theorem State.dispatch_store (s : State) (c : ℕ) (kind : ℕ) : (State.dispatch s c kind).store = s.store := by
  unfold State.dispatch
  first
    | rfl
    | (simp; done)
    | ((repeat' split) <;> simp; done)
    | (dsimp only; (repeat' split) <;> simp; done)
    | (repeat' (first | (with_reducible rfl) | assumption | (simp; done) | (simp [*]; done) | split | (refine (foldl_store _ (fun _ _ => ?_) _ _).trans ?_) | (refine (foldl_store2 _ (fun _ _ => ?_) _ _).trans ?_) | (refine pair_store (by assumption) ?_) | (refine trip_store (by assumption) ?_) | (refine pair1_store (by assumption) ?_) | (dsimp only) | simp))

@[simp] theorem State.evParity_store (s : State) (v : ℕ) : (State.evParity s v).store = s.store := (rfl)

@[simp] theorem State.eventIn_store (s : State) (v : ℕ) (w : BitVec 132) :
    (State.eventIn s v w).store = s.store := by
  unfold State.eventIn; dsimp only; (repeat' split) <;> simp

@[simp] theorem State.eventOut_store (s : State) (v : ℕ) : (State.eventOut s v).store = s.store := by
  unfold State.eventOut; (repeat' split) <;> simp

/-! ### CmdEvent -/

@[simp] theorem State.stagedLaps_store (s : State) (ps : List (ℕ × ℕ)) :
    (State.stagedLaps s ps).store = s.store := by
  simp [State.stagedLaps]

@[simp] theorem State.beginStaging_store (s : State) (token : ℕ) (c : Cmd) (unstage : Bool) :
    (State.beginStaging s token c unstage).store = s.store := (rfl)

@[simp] theorem State.endStaging_store (s : State) (g : Staging) (r : Result) : (State.endStaging s g r).store = s.store := by
  unfold State.endStaging
  first
    | rfl
    | (simp; done)
    | ((repeat' split) <;> simp; done)
    | (dsimp only; (repeat' split) <;> simp; done)
    | (repeat' (first | (with_reducible rfl) | assumption | (simp; done) | (simp [*]; done) | split | (refine (foldl_store _ (fun _ _ => ?_) _ _).trans ?_) | (refine (foldl_store2 _ (fun _ _ => ?_) _ _).trans ?_) | (refine pair_store (by assumption) ?_) | (refine trip_store (by assumption) ?_) | (refine pair1_store (by assumption) ?_) | (dsimp only) | simp))

@[simp] theorem State.freeRows_store (s : State) (pop : ℕ) : (State.freeRows s pop).store = s.store := (rfl)

/-! ### CmdLink -/

@[simp] theorem State.chipIdSet_store (s : State) (chip : ℕ) (incarn : BitVec 4) :
    (State.chipIdSet s chip incarn).store = s.store := by
  unfold State.chipIdSet
  repeat' (first
    | (with_reducible rfl)
    | assumption
    | (simp; done)
    | (simp [*]; done)
    | split
    | (refine (foldl_store _ (fun _ _ => ?_) _ _).trans ?_)
    | (refine (foldl_store2 _ (fun _ _ => ?_) _ _).trans ?_)
    | (refine pair_store (by assumption) ?_)
    | (refine trip_store (by assumption) ?_)
    | (refine pair1_store (by assumption) ?_)
    | (dsimp only)
    | simp)

@[simp] theorem State.beginLinkReset_store (s : State) (n : ℕ) (token : ℕ) (c : Cmd) :
    (State.beginLinkReset s n token c).store = s.store := by
  unfold State.beginLinkReset
  repeat' (first
    | (with_reducible rfl)
    | assumption
    | (simp; done)
    | (simp [*]; done)
    | split
    | (refine (foldl_store _ (fun _ _ => ?_) _ _).trans ?_)
    | (refine (foldl_store2 _ (fun _ _ => ?_) _ _).trans ?_)
    | (refine pair_store (by assumption) ?_)
    | (refine trip_store (by assumption) ?_)
    | (refine pair1_store (by assumption) ?_)
    | (dsimp only)
    | simp)

@[simp] theorem State.linkResetComplete_store (s : State) (n : ℕ) : (State.linkResetComplete s n).store = s.store := by
  unfold State.linkResetComplete
  first
    | rfl
    | (simp; done)
    | ((repeat' split) <;> simp; done)
    | (dsimp only; (repeat' split) <;> simp; done)
    | (repeat' (first | (with_reducible rfl) | assumption | (simp; done) | (simp [*]; done) | split | (refine (foldl_store _ (fun _ _ => ?_) _ _).trans ?_) | (refine (foldl_store2 _ (fun _ _ => ?_) _ _).trans ?_) | (refine pair_store (by assumption) ?_) | (refine trip_store (by assumption) ?_) | (refine pair1_store (by assumption) ?_) | (dsimp only) | simp))

/-! ### Drover -/

@[simp] theorem State.queueJob_store (s : State) (j : Job) : (State.queueJob s j).store = s.store := (rfl)

@[simp] theorem State.onJob_store (s : State) (id : ℕ) (f : Job → Job) : (State.onJob s id f).store
    = s.store := (rfl)

@[simp] theorem State.dropJob_store (s : State) (id : ℕ) : (State.dropJob s id).store = s.store := (rfl)

@[simp] theorem State.dropEvacRow_store (s : State) (bank : ℕ) : (State.dropEvacRow s bank).store = s.store := by
  unfold State.dropEvacRow
  first
    | rfl
    | (simp; done)
    | ((repeat' split) <;> simp; done)
    | (dsimp only; (repeat' split) <;> simp; done)
    | (repeat' (first | (with_reducible rfl) | assumption | (simp; done) | (simp [*]; done) | split | (refine (foldl_store _ (fun _ _ => ?_) _ _).trans ?_) | (refine (foldl_store2 _ (fun _ _ => ?_) _ _).trans ?_) | (refine pair_store (by assumption) ?_) | (refine trip_store (by assumption) ?_) | (refine pair1_store (by assumption) ?_) | (dsimp only) | simp))

@[simp] theorem State.stopEvac_store (s : State) (c : ℕ) : (State.stopEvac s c).store = s.store := by
  unfold State.stopEvac; split <;> simp

@[simp] theorem State.endJob_store (s : State) (j : Job) (r : Result) : (State.endJob s j r).store = s.store := by
  unfold State.endJob
  first
    | rfl
    | (simp; done)
    | ((repeat' split) <;> simp; done)
    | (dsimp only; (repeat' split) <;> simp; done)
    | (repeat' (first | (with_reducible rfl) | assumption | (simp; done) | (simp [*]; done) | split | (refine (foldl_store _ (fun _ _ => ?_) _ _).trans ?_) | (refine (foldl_store2 _ (fun _ _ => ?_) _ _).trans ?_) | (refine pair_store (by assumption) ?_) | (refine trip_store (by assumption) ?_) | (refine pair1_store (by assumption) ?_) | (dsimp only) | simp))

@[simp] theorem State.endJobNow_store (s : State) (j : Job) (st : Status) : (State.endJobNow s j st).store = s.store := by
  unfold State.endJobNow
  first
    | rfl
    | (simp; done)
    | ((repeat' split) <;> simp; done)
    | (dsimp only; (repeat' split) <;> simp; done)
    | (repeat' (first | (with_reducible rfl) | assumption | (simp; done) | (simp [*]; done) | split | (refine (foldl_store _ (fun _ _ => ?_) _ _).trans ?_) | (refine (foldl_store2 _ (fun _ _ => ?_) _ _).trans ?_) | (refine pair_store (by assumption) ?_) | (refine trip_store (by assumption) ?_) | (refine pair1_store (by assumption) ?_) | (dsimp only) | simp))

@[simp] theorem State.stopJob_store (s : State) (j : Job) (st : Status) : (State.stopJob s j st).store = s.store := by
  unfold State.stopJob
  first
    | rfl
    | (simp; done)
    | ((repeat' split) <;> simp; done)
    | (dsimp only; (repeat' split) <;> simp; done)
    | (repeat' (first | (with_reducible rfl) | assumption | (simp; done) | (simp [*]; done) | split | (refine (foldl_store _ (fun _ _ => ?_) _ _).trans ?_) | (refine (foldl_store2 _ (fun _ _ => ?_) _ _).trans ?_) | (refine pair_store (by assumption) ?_) | (refine trip_store (by assumption) ?_) | (refine pair1_store (by assumption) ?_) | (dsimp only) | simp))

@[simp] theorem State.takeSpare_store (s : State) (j : Job) : (State.takeSpare s j).store = s.store := by
  unfold State.takeSpare; split <;> simp

@[simp] theorem State.jobStart_store (s : State) (inBank : Bool) : (State.jobStart s inBank).store =
    s.store := by
  unfold State.jobStart; (repeat' split) <;> simp

@[simp] theorem State.failJob_store (s : State) (j : Job) (addr : ℕ) (st : Status) : (State.failJob s j addr st).store = s.store := by
  unfold State.failJob
  first
    | rfl
    | (simp; done)
    | ((repeat' split) <;> simp; done)
    | (dsimp only; (repeat' split) <;> simp; done)
    | (repeat' (first | (with_reducible rfl) | assumption | (simp; done) | (simp [*]; done) | split | (refine (foldl_store _ (fun _ _ => ?_) _ _).trans ?_) | (refine (foldl_store2 _ (fun _ _ => ?_) _ _).trans ?_) | (refine pair_store (by assumption) ?_) | (refine trip_store (by assumption) ?_) | (refine pair1_store (by assumption) ?_) | (dsimp only) | simp))

@[simp] theorem State.wroteRow_store (s : State) (j : Job) (n : ℕ) (m : ℕ) (rs : List Resp) : (State.wroteRow s j n m rs).store = s.store := by
  unfold State.wroteRow
  first
    | rfl
    | (simp; done)
    | ((repeat' split) <;> simp; done)
    | (dsimp only; (repeat' split) <;> simp; done)
    | (repeat' (first | (with_reducible rfl) | assumption | (simp; done) | (simp [*]; done) | split | (refine (foldl_store _ (fun _ _ => ?_) _ _).trans ?_) | (refine (foldl_store2 _ (fun _ _ => ?_) _ _).trans ?_) | (refine pair_store (by assumption) ?_) | (refine trip_store (by assumption) ?_) | (refine pair1_store (by assumption) ?_) | (dsimp only) | simp))

@[simp] theorem State.jobGoes_store (s : State) (id : ℕ) (next : State → Job → State) (hnext : ∀ s0 x0, (next s0 x0).store = s0.store) : (State.jobGoes s id next).store = s.store := by
  unfold State.jobGoes
  first
    | rfl
    | (simp; done)
    | ((repeat' split) <;> simp; done)
    | (dsimp only; (repeat' split) <;> simp; done)
    | (repeat' (first | (with_reducible rfl) | assumption | (simp; done) | (simp [*]; done) | split | (refine (foldl_store _ (fun _ _ => ?_) _ _).trans ?_) | (refine (foldl_store2 _ (fun _ _ => ?_) _ _).trans ?_) | (refine pair_store (by assumption) ?_) | (refine trip_store (by assumption) ?_) | (refine pair1_store (by assumption) ?_) | (dsimp only) | simp))

@[simp] theorem State.readAway_store (s : State) (j : Job) (w : ℕ) (a : ℕ) (n : ℕ) :
    (State.readAway s j w a n).store = s.store := by
  simp [State.readAway]

@[simp] theorem State.writeAway_store (s : State) (j : Job) (w : ℕ) (a : ℕ) (n : ℕ)
    (bs : List (Byte × Bool)) : (State.writeAway s j w a n bs).store = s.store := by
  simp [State.writeAway]

@[simp] theorem State.readHere_store (s : State) (j : Job) (x : Side) (y : Side) (r : Region) (a : ℕ) (n : ℕ) : (State.readHere s j x y r a n).store = s.store := by
  unfold State.readHere
  first
    | rfl
    | (simp; done)
    | ((repeat' split) <;> simp; done)
    | (dsimp only; (repeat' split) <;> simp; done)
    | (repeat' (first | (with_reducible rfl) | assumption | (simp; done) | (simp [*]; done) | split | (refine (foldl_store _ (fun _ _ => ?_) _ _).trans ?_) | (refine (foldl_store2 _ (fun _ _ => ?_) _ _).trans ?_) | (refine pair_store (by assumption) ?_) | (refine trip_store (by assumption) ?_) | (refine pair1_store (by assumption) ?_) | (dsimp only) | simp))

@[simp] theorem State.writeHere_store (s : State) (j : Job) (y : Side) (b : ℕ) (n : ℕ) (m : ℕ) (xs : List Piece) : (State.writeHere s j y b n m xs).store = s.store := by
  unfold State.writeHere
  first
    | rfl
    | (simp; done)
    | ((repeat' split) <;> simp; done)
    | (dsimp only; (repeat' split) <;> simp; done)
    | (repeat' (first | (with_reducible rfl) | assumption | (simp; done) | (simp [*]; done) | split | (refine (foldl_store _ (fun _ _ => ?_) _ _).trans ?_) | (refine (foldl_store2 _ (fun _ _ => ?_) _ _).trans ?_) | (refine pair_store (by assumption) ?_) | (refine trip_store (by assumption) ?_) | (refine pair1_store (by assumption) ?_) | (dsimp only) | simp))

@[simp] theorem State.deliver_store (s : State) (j : Job) (x : Side) (y : Side) : (State.deliver s j x y).store = s.store := by
  unfold State.deliver
  first
    | rfl
    | (simp; done)
    | ((repeat' split) <;> simp; done)
    | (dsimp only; (repeat' split) <;> simp; done)
    | (repeat' (first | (with_reducible rfl) | assumption | (simp; done) | (simp [*]; done) | split | (refine (foldl_store _ (fun _ _ => ?_) _ _).trans ?_) | (refine (foldl_store2 _ (fun _ _ => ?_) _ _).trans ?_) | (refine pair_store (by assumption) ?_) | (refine trip_store (by assumption) ?_) | (refine pair1_store (by assumption) ?_) | (dsimp only) | simp))

@[simp] theorem State.crossNext_store (s : State) (j : Job) : (State.crossNext s j).store = s.store := by
  unfold State.crossNext
  first
    | rfl
    | (simp; done)
    | ((repeat' split) <;> simp; done)
    | (dsimp only; (repeat' split) <;> simp; done)
    | (repeat' (first | (with_reducible rfl) | assumption | (simp; done) | (simp [*]; done) | split | (refine (foldl_store _ (fun _ _ => ?_) _ _).trans ?_) | (refine (foldl_store2 _ (fun _ _ => ?_) _ _).trans ?_) | (refine pair_store (by assumption) ?_) | (refine trip_store (by assumption) ?_) | (refine pair1_store (by assumption) ?_) | (dsimp only) | simp))

@[simp] theorem State.rowRead_store (s : State) (j : Job) (req : ℕ) (n : ℕ) (rs : List Resp) : (State.rowRead s j req n rs).store = s.store := by
  unfold State.rowRead
  first
    | rfl
    | (simp; done)
    | ((repeat' split) <;> simp; done)
    | (dsimp only; (repeat' split) <;> simp; done)
    | (repeat' (first | (with_reducible rfl) | assumption | (simp; done) | (simp [*]; done) | split | (refine (foldl_store _ (fun _ _ => ?_) _ _).trans ?_) | (refine (foldl_store2 _ (fun _ _ => ?_) _ _).trans ?_) | (refine pair_store (by assumption) ?_) | (refine trip_store (by assumption) ?_) | (refine pair1_store (by assumption) ?_) | (dsimp only) | simp))

@[simp] theorem State.rowWritten_store (s : State) (j : Job) (req : ℕ) (n : ℕ) (m : ℕ) (rs : List Resp) (next : State → Job → State) (hnext : ∀ s0 x0, (next s0 x0).store = s0.store) : (State.rowWritten s j req n m rs next).store = s.store := by
  unfold State.rowWritten
  first
    | rfl
    | (simp; done)
    | ((repeat' split) <;> simp; done)
    | (dsimp only; (repeat' split) <;> simp; done)
    | (repeat' (first | (with_reducible rfl) | assumption | (simp; done) | (simp [*]; done) | split | (refine (foldl_store _ (fun _ _ => ?_) _ _).trans ?_) | (refine (foldl_store2 _ (fun _ _ => ?_) _ _).trans ?_) | (refine pair_store (by assumption) ?_) | (refine trip_store (by assumption) ?_) | (refine pair1_store (by assumption) ?_) | (dsimp only) | simp))

@[simp] theorem State.crossRow_store (s : State) (j : Job) : (State.crossRow s j).store = s.store := by
  unfold State.crossRow
  first
    | rfl
    | (simp; done)
    | ((repeat' split) <;> simp; done)
    | (dsimp only; (repeat' split) <;> simp; done)
    | (repeat' (first | (with_reducible rfl) | assumption | (simp; done) | (simp [*]; done) | split | (refine (foldl_store _ (fun _ _ => ?_) _ _).trans ?_) | (refine (foldl_store2 _ (fun _ _ => ?_) _ _).trans ?_) | (refine pair_store (by assumption) ?_) | (refine trip_store (by assumption) ?_) | (refine pair1_store (by assumption) ?_) | (dsimp only) | simp))

@[simp] theorem State.fillNext_store (s : State) (j : Job) : (State.fillNext s j).store = s.store := by
  unfold State.fillNext
  first
    | rfl
    | (simp; done)
    | ((repeat' split) <;> simp; done)
    | (dsimp only; (repeat' split) <;> simp; done)
    | (repeat' (first | (with_reducible rfl) | assumption | (simp; done) | (simp [*]; done) | split | (refine (foldl_store _ (fun _ _ => ?_) _ _).trans ?_) | (refine (foldl_store2 _ (fun _ _ => ?_) _ _).trans ?_) | (refine pair_store (by assumption) ?_) | (refine trip_store (by assumption) ?_) | (refine pair1_store (by assumption) ?_) | (dsimp only) | simp))

@[simp] theorem State.fillStep_store (s : State) (j : Job) : (State.fillStep s j).store = s.store := by
  unfold State.fillStep
  first
    | rfl
    | (simp; done)
    | ((repeat' split) <;> simp; done)
    | (dsimp only; (repeat' split) <;> simp; done)
    | (repeat' (first | (with_reducible rfl) | assumption | (simp; done) | (simp [*]; done) | split | (refine (foldl_store _ (fun _ _ => ?_) _ _).trans ?_) | (refine (foldl_store2 _ (fun _ _ => ?_) _ _).trans ?_) | (refine pair_store (by assumption) ?_) | (refine trip_store (by assumption) ?_) | (refine pair1_store (by assumption) ?_) | (dsimp only) | simp))

@[simp] theorem State.askEvac_store (s : State) (c : ℕ) : (State.askEvac s c).store = s.store := by
  unfold State.askEvac
  first
    | rfl
    | (simp; done)
    | ((repeat' split) <;> simp; done)
    | (dsimp only; (repeat' split) <;> simp; done)
    | (repeat' (first | (with_reducible rfl) | assumption | (simp; done) | (simp [*]; done) | split | (refine (foldl_store _ (fun _ _ => ?_) _ _).trans ?_) | (refine (foldl_store2 _ (fun _ _ => ?_) _ _).trans ?_) | (refine pair_store (by assumption) ?_) | (refine trip_store (by assumption) ?_) | (refine pair1_store (by assumption) ?_) | (dsimp only) | simp))

@[simp] theorem State.jobComplete_store (s : State) (inBank : Bool) : (State.jobComplete s inBank).store = s.store := by
  unfold State.jobComplete
  first
    | rfl
    | (simp; done)
    | ((repeat' split) <;> simp; done)
    | (dsimp only; (repeat' split) <;> simp; done)
    | (repeat' (first | (with_reducible rfl) | assumption | (simp; done) | (simp [*]; done) | split | (refine (foldl_store _ (fun _ _ => ?_) _ _).trans ?_) | (refine (foldl_store2 _ (fun _ _ => ?_) _ _).trans ?_) | (refine pair_store (by assumption) ?_) | (refine trip_store (by assumption) ?_) | (refine pair1_store (by assumption) ?_) | (dsimp only) | simp))

/-! ### CmdInteg -/

@[simp] theorem State.bistEvent_store (s : State) (i : ℕ) (c : ℕ) (slot : ℕ) :
    (State.bistEvent s i c slot).store = s.store := (rfl)

@[simp] theorem State.chargeArray_store (s : State) (c : ℕ) (n : ℕ) :
    (State.chargeArray s c n).store = s.store := by
  simp [State.chargeArray]

@[simp] theorem State.scrubSet_store (s : State) (en : Bool) (interval : BitVec 24) (g : ℕ) :
    (State.scrubSet s en interval g).store = s.store := (rfl)

@[simp] theorem State.retireLane_store (s : State) (g : ℕ) (lane : ℕ) :
    (State.retireLane s g lane).store = s.store := by
  unfold State.retireLane; dsimp only; (repeat' split) <;> simp

@[simp] theorem State.returnLane_store (s : State) (g : ℕ) (lane : ℕ) :
    (State.returnLane s g lane).store = s.store := (rfl)

@[simp] theorem State.armFlip_store (s : State) (c : ℕ) (m : BitVec 288) :
    (State.armFlip s c m).store = s.store := (rfl)

@[simp] theorem State.startTest_store (s : State) (c : ℕ) (slot : ℕ) (test : ℕ) (next : Option ℕ)
    (who : Option (ℕ × Cmd)) : (State.startTest s c slot test next who).store = s.store := by
  simp [State.startTest]

@[simp] theorem State.logSlot_store (s : State) (code : ℕ) (c : ℕ) (slot : ℕ) :
    (State.logSlot s code c slot).store = s.store := by
  simp [State.logSlot]

@[simp] theorem State.takeoverLanes_store (s : State) (g : ℕ) (slot : ℕ) :
    (State.takeoverLanes s g slot).store = s.store := by
  unfold State.takeoverLanes
  repeat' (first
    | (with_reducible rfl)
    | assumption
    | (simp; done)
    | (simp [*]; done)
    | split
    | (refine (foldl_store _ (fun _ _ => ?_) _ _).trans ?_)
    | (refine (foldl_store2 _ (fun _ _ => ?_) _ _).trans ?_)
    | (refine pair_store (by assumption) ?_)
    | (refine trip_store (by assumption) ?_)
    | (refine pair1_store (by assumption) ?_)
    | (dsimp only)
    | simp)

@[simp] theorem State.freeBank_store (s : State) (g : ℕ) : (State.freeBank s g).store = s.store := (rfl)

@[simp] theorem State.openReads_store (s : State) (g : ℕ) : (State.openReads s g).store = s.store := by
  unfold State.openReads
  first
    | rfl
    | (simp; done)
    | ((repeat' split) <;> simp; done)
    | (dsimp only; (repeat' split) <;> simp; done)
    | (repeat' (first | (with_reducible rfl) | assumption | (simp; done) | (simp [*]; done) | split | (refine (foldl_store _ (fun _ _ => ?_) _ _).trans ?_) | (refine (foldl_store2 _ (fun _ _ => ?_) _ _).trans ?_) | (refine pair_store (by assumption) ?_) | (refine trip_store (by assumption) ?_) | (refine pair1_store (by assumption) ?_) | (dsimp only) | simp))

@[simp] theorem State.moveBank_store (s : State) (g : ℕ) (spare : ℕ) :
    (State.moveBank s g spare).store = s.store := by
  simp [State.moveBank]

@[simp] theorem State.takeover_store (s : State) (c : ℕ) : (State.takeover s c).store = s.store := by
  unfold State.takeover
  first
    | rfl
    | (simp; done)
    | ((repeat' split) <;> simp; done)
    | (dsimp only; (repeat' split) <;> simp; done)
    | (repeat' (first | (with_reducible rfl) | assumption | (simp; done) | (simp [*]; done) | split | (refine (foldl_store _ (fun _ _ => ?_) _ _).trans ?_) | (refine (foldl_store2 _ (fun _ _ => ?_) _ _).trans ?_) | (refine pair_store (by assumption) ?_) | (refine trip_store (by assumption) ?_) | (refine pair1_store (by assumption) ?_) | (dsimp only) | simp))

@[simp] theorem State.bankOut_store (s : State) (g : ℕ) : (State.bankOut s g).store = s.store := by
  simp [State.bankOut]

@[simp] theorem State.cutTest_store (s : State) (c : ℕ) (st : Status) : (State.cutTest s c st).store = s.store := by
  unfold State.cutTest
  first
    | rfl
    | (simp; done)
    | ((repeat' split) <;> simp; done)
    | (dsimp only; (repeat' split) <;> simp; done)
    | (repeat' (first | (with_reducible rfl) | assumption | (simp; done) | (simp [*]; done) | split | (refine (foldl_store _ (fun _ _ => ?_) _ _).trans ?_) | (refine (foldl_store2 _ (fun _ _ => ?_) _ _).trans ?_) | (refine pair_store (by assumption) ?_) | (refine trip_store (by assumption) ?_) | (refine pair1_store (by assumption) ?_) | (dsimp only) | simp))

@[simp] theorem State.noteTest_store (s : State) (c : ℕ) (r : TestRun) (f : BistFound) :
    (State.noteTest s c r f).store = s.store := by
  simp [State.noteTest]

@[simp] theorem State.lapEnd_store (s : State) (g : ℕ) : (State.lapEnd s g).store = s.store := (rfl)

@[simp] theorem State.scrubGranule_store (s : State) (g : ℕ) (row : ℕ) (i : ℕ) :
    (State.scrubGranule s g row i).store = s.store := by
  simp [State.scrubGranule]

@[simp] theorem State.scrubRead'_store (s : State) (g : ℕ) (row : ℕ) :
    (State.scrubRead' s g row).store = s.store := by
  unfold State.scrubRead'; dsimp only; (repeat' split) <;> simp

@[simp] theorem State.scrubAt_store (s : State) (g : ℕ) (row : ℕ) : (State.scrubAt s g row).store = s.store := by
  unfold State.scrubAt
  first
    | rfl
    | (simp; done)
    | ((repeat' split) <;> simp; done)
    | (dsimp only; (repeat' split) <;> simp; done)
    | (repeat' (first | (with_reducible rfl) | assumption | (simp; done) | (simp [*]; done) | split | (refine (foldl_store _ (fun _ _ => ?_) _ _).trans ?_) | (refine (foldl_store2 _ (fun _ _ => ?_) _ _).trans ?_) | (refine pair_store (by assumption) ?_) | (refine trip_store (by assumption) ?_) | (refine pair1_store (by assumption) ?_) | (dsimp only) | simp))

@[simp] theorem State.scrubRead_store (s : State) (c : ℕ) (b : ℕ) : (State.scrubRead s c b).store =
    s.store := by
  unfold State.scrubRead; dsimp only; (repeat' split) <;> simp

@[simp] theorem State.clogPop_store (s : State) (c : ℕ) : (State.clogPop s c).store = s.store := (rfl)

/-! ### Governor -/

@[simp] theorem State.setTmax_store (s : State) (t : ℕ) : (State.setTmax s t).store = s.store := by
  simp [State.setTmax]

@[simp] theorem State.replaceFailed_store (s : State) : (State.replaceFailed s).store = s.store := by
  unfold State.replaceFailed
  first
    | rfl
    | (simp; done)
    | ((repeat' split) <;> simp; done)
    | (dsimp only; (repeat' split) <;> simp; done)
    | (repeat' (first | (with_reducible rfl) | assumption | (simp; done) | (simp [*]; done) | split | (refine (foldl_store _ (fun _ _ => ?_) _ _).trans ?_) | (refine (foldl_store2 _ (fun _ _ => ?_) _ _).trans ?_) | (refine pair_store (by assumption) ?_) | (refine trip_store (by assumption) ?_) | (refine pair1_store (by assumption) ?_) | (dsimp only) | simp))

@[simp] theorem State.sensorRead_store (s : State) (rs : List (ℕ × ℤ)) : (State.sensorRead s rs).store = s.store := by
  unfold State.sensorRead
  first
    | rfl
    | (simp; done)
    | ((repeat' split) <;> simp; done)
    | (dsimp only; (repeat' split) <;> simp; done)
    | (repeat' (first | (with_reducible rfl) | assumption | (simp; done) | (simp [*]; done) | split | (refine (foldl_store _ (fun _ _ => ?_) _ _).trans ?_) | (refine (foldl_store2 _ (fun _ _ => ?_) _ _).trans ?_) | (refine pair_store (by assumption) ?_) | (refine trip_store (by assumption) ?_) | (refine pair1_store (by assumption) ?_) | (dsimp only) | simp))

@[simp] theorem State.shedOne_store (s : State) (x : ShedStep) : (State.shedOne s x).store = s.store := by
  simp [State.shedOne]

@[simp] theorem State.shedMore_store (s : State) (y1 : ℕ) : (State.shedMore s y1).store = s.store := by
  induction y1 generalizing s with
  | zero => (unfold State.shedMore; (repeat' (first | (with_reducible rfl) | assumption | (simp; done) | (simp [*]; done) | split | (refine (foldl_store _ (fun _ _ => ?_) _ _).trans ?_) | (refine (foldl_store2 _ (fun _ _ => ?_) _ _).trans ?_) | (refine pair_store (by assumption) ?_) | (refine trip_store (by assumption) ?_) | (refine pair1_store (by assumption) ?_) | (dsimp only) | simp)))
  | succ n1 ih => (unfold State.shedMore; (repeat' (first | (with_reducible rfl) | assumption | (simp; done) | (simp [*]; done) | split | (refine (foldl_store _ (fun _ _ => ?_) _ _).trans ?_) | (refine (foldl_store2 _ (fun _ _ => ?_) _ _).trans ?_) | (refine pair_store (by assumption) ?_) | (refine trip_store (by assumption) ?_) | (refine pair1_store (by assumption) ?_) | (dsimp only) | simp)))

@[simp] theorem State.shedStart_store (s : State) (over_ : Bool) : (State.shedStart s over_).store =
    s.store := by
  unfold State.shedStart; (repeat' split) <;> simp

@[simp] theorem State.restoreStart_store (s : State) : (State.restoreStart s).store = s.store := by
  unfold State.restoreStart; (repeat' split) <;> simp

@[simp] theorem State.closeWindow_store (s : State) : (State.closeWindow s).store = s.store := (rfl)

@[simp] theorem State.ageJobs_store (s : State) : (State.ageJobs s).store = s.store := (rfl)

@[simp] theorem State.seeWindow_store (s : State) : (State.seeWindow s).store = s.store := by
  unfold State.seeWindow
  first
    | rfl
    | (simp; done)
    | ((repeat' split) <;> simp; done)
    | (dsimp only; (repeat' split) <;> simp; done)
    | (repeat' (first | (with_reducible rfl) | assumption | (simp; done) | (simp [*]; done) | split | (refine (foldl_store _ (fun _ _ => ?_) _ _).trans ?_) | (refine (foldl_store2 _ (fun _ _ => ?_) _ _).trans ?_) | (refine pair_store (by assumption) ?_) | (refine trip_store (by assumption) ?_) | (refine pair1_store (by assumption) ?_) | (dsimp only) | simp))

@[simp] theorem State.windowStart_store (s : State) : (State.windowStart s).store = s.store := by
  simp [State.windowStart]

@[simp] theorem State.bellChange_store (s : State) (n : ℕ) (level : ℕ) :
    (State.bellChange s n level).store = s.store := by
  simp [State.bellChange]

/-! ### Time -/

@[simp] theorem State.addTime_store (s : State) (d : ℤ) : (State.addTime s d).store = s.store := (rfl)

@[simp] theorem State.ackTime_store (s : State) : (State.ackTime s).store = s.store := by
  simp [State.ackTime]

@[simp] theorem State.restartClocks_store (s : State) (frequency : Bool) :
    (State.restartClocks s frequency).store = s.store := by
  simp [State.restartClocks]

@[simp] theorem State.stopClocks_store (s : State) : (State.stopClocks s).store = s.store := (rfl)

@[simp] theorem State.tsyncOut_store (s : State) : (State.tsyncOut s).store = s.store := by
  simp [State.tsyncOut]

@[simp] theorem State.tsyncCorrect_store (s : State) (e : ℤ) : (State.tsyncCorrect s e).store =
    s.store := by
  simp [State.tsyncCorrect]

@[simp] theorem State.tsyncLock_store (s : State) (e : ℤ) : (State.tsyncLock s e).store = s.store := by
  simp [State.tsyncLock]

@[simp] theorem State.tsyncIn_store (s : State) : (State.tsyncIn s).store = s.store := by
  simp [State.tsyncIn]

@[simp] theorem State.tsyncMissing_store (s : State) : (State.tsyncMissing s).store = s.store := by
  simp [State.tsyncMissing]

@[simp] theorem State.wakeBlock_store (s : State) : (State.wakeBlock s).store = s.store := by
  simp [State.wakeBlock]

@[simp] theorem State.indicateAt_store (s : State) (c cause : Nat) : (State.indicateAt s c cause).store = s.store := by
  unfold State.indicateAt
  first
    | rfl
    | (simp; done)
    | ((repeat' split) <;> simp; done)
    | (dsimp only; (repeat' split) <;> simp; done)
    | (repeat' (first | (with_reducible rfl) | assumption | (simp; done) | (simp [*]; done) | split | (refine (foldl_store _ (fun _ _ => ?_) _ _).trans ?_) | (refine (foldl_store2 _ (fun _ _ => ?_) _ _).trans ?_) | (refine pair_store (by assumption) ?_) | (refine trip_store (by assumption) ?_) | (refine pair1_store (by assumption) ?_) | (dsimp only) | simp))

@[simp] theorem State.onTimer_store (s : State) (who : ℕ) (f : TimerWake → TimerWake) :
    (State.onTimer s who f).store = s.store := by
  simp [State.onTimer]

@[simp] theorem State.timerFire_store (s : State) (who : ℕ) : (State.timerFire s who).store =
    s.store := by
  simp [State.timerFire]

@[simp] theorem State.ainCrossing_store (s : State) : (State.ainCrossing s).store = s.store := by
  unfold State.ainCrossing
  repeat' (first
    | (with_reducible rfl)
    | assumption
    | (simp; done)
    | (simp [*]; done)
    | split
    | (refine (foldl_store _ (fun _ _ => ?_) _ _).trans ?_)
    | (refine (foldl_store2 _ (fun _ _ => ?_) _ _).trans ?_)
    | (refine pair_store (by assumption) ?_)
    | (refine trip_store (by assumption) ?_)
    | (refine pair1_store (by assumption) ?_)
    | (dsimp only)
    | simp)

@[simp] theorem State.ainRearm_store (s : State) : (State.ainRearm s).store = s.store := by
  simp [State.ainRearm]

@[simp] theorem State.sckCheck_store (s : State) (hz : BitVec 25) : (State.sckCheck s hz).store =
    s.store := by
  simp [State.sckCheck]

/-! ### CmdPower -/

@[simp] theorem State.refuseEntry_store (s : State) (c : Nat) (bs : List Bool) : (State.refuseEntry s c bs).store = s.store := by
  unfold State.refuseEntry
  first
    | rfl
    | (simp; done)
    | ((repeat' split) <;> simp; done)
    | (dsimp only; (repeat' split) <;> simp; done)
    | (repeat' (first | (with_reducible rfl) | assumption | (simp; done) | (simp [*]; done) | split | (refine (foldl_store _ (fun _ _ => ?_) _ _).trans ?_) | (refine (foldl_store2 _ (fun _ _ => ?_) _ _).trans ?_) | (refine pair_store (by assumption) ?_) | (refine trip_store (by assumption) ?_) | (refine pair1_store (by assumption) ?_) | (dsimp only) | simp))

@[simp] theorem State.idleExpire_store (s : State) (c : Nat) : (State.idleExpire s c).store = s.store := by
  unfold State.idleExpire
  first
    | rfl
    | (simp; done)
    | ((repeat' split) <;> simp; done)
    | (dsimp only; (repeat' split) <;> simp; done)
    | (repeat' (first | (with_reducible rfl) | assumption | (simp; done) | (simp [*]; done) | split | (refine (foldl_store _ (fun _ _ => ?_) _ _).trans ?_) | (refine (foldl_store2 _ (fun _ _ => ?_) _ _).trans ?_) | (refine pair_store (by assumption) ?_) | (refine trip_store (by assumption) ?_) | (refine pair1_store (by assumption) ?_) | (dsimp only) | simp))

@[simp] theorem State.clusterRuns_store (s : State) (c : ℕ) : (State.clusterRuns s c).store =
    s.store := by
  simp [State.clusterRuns]

@[simp] theorem State.backToRun_store (s : State) (c : ℕ) : (State.backToRun s c).store = s.store := by
  simp [State.backToRun]

@[simp] theorem State.ackRun_store (s : State) (key : ℕ) : (State.ackRun s key).store = s.store := (rfl)

@[simp] theorem State.switchAck_store (s : State) (c : Nat) : (State.switchAck s c).store = s.store := by
  unfold State.switchAck
  first
    | rfl
    | (simp; done)
    | ((repeat' split) <;> simp; done)
    | (dsimp only; (repeat' split) <;> simp; done)
    | (repeat' (first | (with_reducible rfl) | assumption | (simp; done) | (simp [*]; done) | split | (refine (foldl_store _ (fun _ _ => ?_) _ _).trans ?_) | (refine (foldl_store2 _ (fun _ _ => ?_) _ _).trans ?_) | (refine pair_store (by assumption) ?_) | (refine trip_store (by assumption) ?_) | (refine pair1_store (by assumption) ?_) | (dsimp only) | simp))

@[simp] theorem State.stopCluster_store (s : State) (c : Nat) : (State.stopCluster s c).store = s.store := by
  unfold State.stopCluster
  first
    | rfl
    | (simp; done)
    | ((repeat' split) <;> simp; done)
    | (dsimp only; (repeat' split) <;> simp; done)
    | (repeat' (first | (with_reducible rfl) | assumption | (simp; done) | (simp [*]; done) | split | (refine (foldl_store _ (fun _ _ => ?_) _ _).trans ?_) | (refine (foldl_store2 _ (fun _ _ => ?_) _ _).trans ?_) | (refine pair_store (by assumption) ?_) | (refine trip_store (by assumption) ?_) | (refine pair1_store (by assumption) ?_) | (dsimp only) | simp))

@[simp] theorem State.entryXck_store (s : State) (c : Nat) : (State.entryXck s c).store = s.store := by
  unfold State.entryXck
  first
    | rfl
    | (simp; done)
    | ((repeat' split) <;> simp; done)
    | (dsimp only; (repeat' split) <;> simp; done)
    | (repeat' (first | (with_reducible rfl) | assumption | (simp; done) | (simp [*]; done) | split | (refine (foldl_store _ (fun _ _ => ?_) _ _).trans ?_) | (refine (foldl_store2 _ (fun _ _ => ?_) _ _).trans ?_) | (refine pair_store (by assumption) ?_) | (refine trip_store (by assumption) ?_) | (refine pair1_store (by assumption) ?_) | (dsimp only) | simp))

@[simp] theorem State.powerXck_store (s : State) : (State.powerXck s).store = s.store := by
  unfold State.powerXck
  first
    | rfl
    | (simp; done)
    | ((repeat' split) <;> simp; done)
    | (dsimp only; (repeat' split) <;> simp; done)
    | (repeat' (first | (with_reducible rfl) | assumption | (simp; done) | (simp [*]; done) | split | (refine (foldl_store _ (fun _ _ => ?_) _ _).trans ?_) | (refine (foldl_store2 _ (fun _ _ => ?_) _ _).trans ?_) | (refine pair_store (by assumption) ?_) | (refine trip_store (by assumption) ?_) | (refine pair1_store (by assumption) ?_) | (dsimp only) | simp))

@[simp] theorem State.leaveStop_store (s : State) (c : ℕ) : (State.leaveStop s c).store = s.store := (rfl)

@[simp] theorem State.clusterWake_store (s : State) (c : ℕ) : (State.clusterWake s c).store =
    s.store := by
  unfold State.clusterWake; dsimp only; (repeat' split) <;> simp

@[simp] theorem State.exitComplete_store (s : State) (c : ℕ) : (State.exitComplete s c).store =
    s.store := by
  simp [State.exitComplete]

@[simp] theorem State.enterBlock_store (s : State) : (State.enterBlock s).store = s.store := (rfl)

@[simp] theorem State.writeRail_store (s : State) : (State.writeRail s).store = s.store := by
  unfold State.writeRail
  first
    | rfl
    | (simp; done)
    | ((repeat' split) <;> simp; done)
    | (dsimp only; (repeat' split) <;> simp; done)
    | (repeat' (first | (with_reducible rfl) | assumption | (simp; done) | (simp [*]; done) | split | (refine (foldl_store _ (fun _ _ => ?_) _ _).trans ?_) | (refine (foldl_store2 _ (fun _ _ => ?_) _ _).trans ?_) | (refine pair_store (by assumption) ?_) | (refine trip_store (by assumption) ?_) | (refine pair1_store (by assumption) ?_) | (dsimp only) | simp))

@[simp] theorem State.blockExpire_store (s : State) : (State.blockExpire s).store = s.store := by
  simp [State.blockExpire]

@[simp] theorem State.blockA1_store (s : State) : (State.blockA1 s).store = s.store := by
  unfold State.blockA1
  first
    | rfl
    | (simp; done)
    | ((repeat' split) <;> simp; done)
    | (dsimp only; (repeat' split) <;> simp; done)
    | (repeat' (first | (with_reducible rfl) | assumption | (simp; done) | (simp [*]; done) | split | (refine (foldl_store _ (fun _ _ => ?_) _ _).trans ?_) | (refine (foldl_store2 _ (fun _ _ => ?_) _ _).trans ?_) | (refine pair_store (by assumption) ?_) | (refine trip_store (by assumption) ?_) | (refine pair1_store (by assumption) ?_) | (dsimp only) | simp))

@[simp] theorem State.ainFlag_store (s : State) : (State.ainFlag s).store = s.store := by
  unfold State.ainFlag
  first
    | rfl
    | (simp; done)
    | ((repeat' split) <;> simp; done)
    | (dsimp only; (repeat' split) <;> simp; done)
    | (repeat' (first | (with_reducible rfl) | assumption | (simp; done) | (simp [*]; done) | split | (refine (foldl_store _ (fun _ _ => ?_) _ _).trans ?_) | (refine (foldl_store2 _ (fun _ _ => ?_) _ _).trans ?_) | (refine pair_store (by assumption) ?_) | (refine trip_store (by assumption) ?_) | (refine pair1_store (by assumption) ?_) | (dsimp only) | simp))

@[simp] theorem State.blockRuns_store (s : State) : (State.blockRuns s).store = s.store := by
  simp [State.blockRuns]

@[simp] theorem State.abandonBlock_store (s : State) : (State.abandonBlock s).store = s.store := (rfl)

@[simp] theorem State.blockWake_store (s : State) : (State.blockWake s).store = s.store := by
  simp [State.blockWake]

@[simp] theorem State.endOpp_store (s : State) (st : Status) : (State.endOpp s st).store = s.store := by
  unfold State.endOpp
  first
    | rfl
    | (simp; done)
    | ((repeat' split) <;> simp; done)
    | (dsimp only; (repeat' split) <;> simp; done)
    | (repeat' (first | (with_reducible rfl) | assumption | (simp; done) | (simp [*]; done) | split | (refine (foldl_store _ (fun _ _ => ?_) _ _).trans ?_) | (refine (foldl_store2 _ (fun _ _ => ?_) _ _).trans ?_) | (refine pair_store (by assumption) ?_) | (refine trip_store (by assumption) ?_) | (refine pair1_store (by assumption) ?_) | (dsimp only) | simp))

@[simp] theorem State.beginFrequency_store (s : State) : (State.beginFrequency s).store = s.store := (rfl)

@[simp] theorem State.stopEdge_store (s : State) : (State.stopEdge s).store = s.store := by
  unfold State.stopEdge
  first
    | rfl
    | (simp; done)
    | ((repeat' split) <;> simp; done)
    | (dsimp only; (repeat' split) <;> simp; done)
    | (repeat' (first | (with_reducible rfl) | assumption | (simp; done) | (simp [*]; done) | split | (refine (foldl_store _ (fun _ _ => ?_) _ _).trans ?_) | (refine (foldl_store2 _ (fun _ _ => ?_) _ _).trans ?_) | (refine pair_store (by assumption) ?_) | (refine trip_store (by assumption) ?_) | (refine pair1_store (by assumption) ?_) | (dsimp only) | simp))

@[simp] theorem State.endFrequency_store (s : State) : (State.endFrequency s).store = s.store := by
  simp [State.endFrequency]

@[simp] theorem State.stepDone_store (s : State) : (State.stepDone s).store = s.store := by
  unfold State.stepDone
  first
    | rfl
    | (simp; done)
    | ((repeat' split) <;> simp; done)
    | (dsimp only; (repeat' split) <;> simp; done)
    | (repeat' (first | (with_reducible rfl) | assumption | (simp; done) | (simp [*]; done) | split | (refine (foldl_store _ (fun _ _ => ?_) _ _).trans ?_) | (refine (foldl_store2 _ (fun _ _ => ?_) _ _).trans ?_) | (refine pair_store (by assumption) ?_) | (refine trip_store (by assumption) ?_) | (refine pair1_store (by assumption) ?_) | (dsimp only) | simp))

@[simp] theorem State.nextStepDone_store (s : State) : (State.nextStepDone s).store = s.store := by
  unfold State.nextStepDone
  first
    | rfl
    | (simp; done)
    | ((repeat' split) <;> simp; done)
    | (dsimp only; (repeat' split) <;> simp; done)
    | (repeat' (first | (with_reducible rfl) | assumption | (simp; done) | (simp [*]; done) | split | (refine (foldl_store _ (fun _ _ => ?_) _ _).trans ?_) | (refine (foldl_store2 _ (fun _ _ => ?_) _ _).trans ?_) | (refine pair_store (by assumption) ?_) | (refine trip_store (by assumption) ?_) | (refine pair1_store (by assumption) ?_) | (dsimp only) | simp))

@[simp] theorem State.avsAck_store (s : State) (mv : BitVec 16) : (State.avsAck s mv).store = s.store := by
  unfold State.avsAck
  first
    | rfl
    | (simp; done)
    | ((repeat' split) <;> simp; done)
    | (dsimp only; (repeat' split) <;> simp; done)
    | (repeat' (first | (with_reducible rfl) | assumption | (simp; done) | (simp [*]; done) | split | (refine (foldl_store _ (fun _ _ => ?_) _ _).trans ?_) | (refine (foldl_store2 _ (fun _ _ => ?_) _ _).trans ?_) | (refine pair_store (by assumption) ?_) | (refine trip_store (by assumption) ?_) | (refine pair1_store (by assumption) ?_) | (dsimp only) | simp))

@[simp] theorem State.avsPoll_store (s : State) (crcOk : Bool) (taken : Bool) :
    (State.avsPoll s crcOk taken).store = s.store := by
  unfold State.avsPoll; split <;> simp

@[simp] theorem State.rckFack_store (s : State) (level : Bool) : (State.rckFack s level).store = s.store := by
  unfold State.rckFack
  first
    | rfl
    | (simp; done)
    | ((repeat' split) <;> simp; done)
    | (dsimp only; (repeat' split) <;> simp; done)
    | (repeat' (first | (with_reducible rfl) | assumption | (simp; done) | (simp [*]; done) | split | (refine (foldl_store _ (fun _ _ => ?_) _ _).trans ?_) | (refine (foldl_store2 _ (fun _ _ => ?_) _ _).trans ?_) | (refine pair_store (by assumption) ?_) | (refine trip_store (by assumption) ?_) | (refine pair1_store (by assumption) ?_) | (dsimp only) | simp))

@[simp] theorem State.exitEdge_store (s : State) : (State.exitEdge s).store = s.store := by
  unfold State.exitEdge
  first
    | rfl
    | (simp; done)
    | ((repeat' split) <;> simp; done)
    | (dsimp only; (repeat' split) <;> simp; done)
    | (repeat' (first | (with_reducible rfl) | assumption | (simp; done) | (simp [*]; done) | split | (refine (foldl_store _ (fun _ _ => ?_) _ _).trans ?_) | (refine (foldl_store2 _ (fun _ _ => ?_) _ _).trans ?_) | (refine pair_store (by assumption) ?_) | (refine trip_store (by assumption) ?_) | (refine pair1_store (by assumption) ?_) | (dsimp only) | simp))

@[simp] theorem State.powerTimeout_store (s : State) (step cluster : Nat) : (State.powerTimeout s step cluster).store = s.store := by
  unfold State.powerTimeout
  first
    | rfl
    | (simp; done)
    | ((repeat' split) <;> simp; done)
    | (dsimp only; (repeat' split) <;> simp; done)
    | (repeat' (first | (with_reducible rfl) | assumption | (simp; done) | (simp [*]; done) | split | (refine (foldl_store _ (fun _ _ => ?_) _ _).trans ?_) | (refine (foldl_store2 _ (fun _ _ => ?_) _ _).trans ?_) | (refine pair_store (by assumption) ?_) | (refine trip_store (by assumption) ?_) | (refine pair1_store (by assumption) ?_) | (dsimp only) | simp))

@[simp] theorem State.blockTimeout_store (s : State) (x : PowerStep) : (State.blockTimeout s x).store = s.store := by
  unfold State.blockTimeout
  first
    | rfl
    | (simp; done)
    | ((repeat' split) <;> simp; done)
    | (dsimp only; (repeat' split) <;> simp; done)
    | (repeat' (first | (with_reducible rfl) | assumption | (simp; done) | (simp [*]; done) | split | (refine (foldl_store _ (fun _ _ => ?_) _ _).trans ?_) | (refine (foldl_store2 _ (fun _ _ => ?_) _ _).trans ?_) | (refine pair_store (by assumption) ?_) | (refine trip_store (by assumption) ?_) | (refine pair1_store (by assumption) ?_) | (dsimp only) | simp))

@[simp] theorem State.pwrTimeout_store (s : State) (step c : Nat) : (State.pwrTimeout s step c).store = s.store := by
  unfold State.pwrTimeout
  first
    | rfl
    | (simp; done)
    | ((repeat' split) <;> simp; done)
    | (dsimp only; (repeat' split) <;> simp; done)
    | (repeat' (first | (with_reducible rfl) | assumption | (simp; done) | (simp [*]; done) | split | (refine (foldl_store _ (fun _ _ => ?_) _ _).trans ?_) | (refine (foldl_store2 _ (fun _ _ => ?_) _ _).trans ?_) | (refine pair_store (by assumption) ?_) | (refine trip_store (by assumption) ?_) | (refine pair1_store (by assumption) ?_) | (dsimp only) | simp))

@[simp] theorem State.pwrStateSet_store (s : State) (c : Cmd) : (State.pwrStateSet s c).store =
    s.store := by
  unfold State.pwrStateSet
  repeat' (first
    | (with_reducible rfl)
    | assumption
    | (simp; done)
    | (simp [*]; done)
    | split
    | (refine (foldl_store _ (fun _ _ => ?_) _ _).trans ?_)
    | (refine (foldl_store2 _ (fun _ _ => ?_) _ _).trans ?_)
    | (refine pair_store (by assumption) ?_)
    | (refine trip_store (by assumption) ?_)
    | (refine pair1_store (by assumption) ?_)
    | (dsimp only)
    | simp)

@[simp] theorem State.beginOpp_store (s : State) (token : ℕ) (c : Cmd) (eco : Bool) :
    (State.beginOpp s token c eco).store = s.store := by
  simp [State.beginOpp]

/-! ### FwStore -/

@[simp] theorem State.onImage_store (s : State) (k : ℕ) (f : ImageSlot → ImageSlot) :
    (State.onImage s k f).store = s.store := (rfl)

@[simp] theorem State.writeSettings_store (s : State) (items : List Byte) :
    (State.writeSettings s items).store = s.store := (rfl)

@[simp] theorem State.putItems_store (s : State) (bs : List Byte) : (State.putItems s bs).store =
    s.store := by
  unfold State.putItems
  repeat' (first
    | (with_reducible rfl)
    | assumption
    | (simp; done)
    | (simp [*]; done)
    | split
    | (refine (foldl_store _ (fun _ _ => ?_) _ _).trans ?_)
    | (refine (foldl_store2 _ (fun _ _ => ?_) _ _).trans ?_)
    | (refine pair_store (by assumption) ?_)
    | (refine trip_store (by assumption) ?_)
    | (refine pair1_store (by assumption) ?_)
    | (dsimp only)
    | simp)

@[simp] theorem State.setRepairs_store (s : State) (rs : List (BitVec 64)) :
    (State.setRepairs s rs).store = s.store := (rfl)

/-! ### CmdFw -/

@[simp] theorem State.runImage_store (s : State) (k : ℕ) : (State.runImage s k).store = s.store := (rfl)

@[simp] theorem State.stopFirmware_store (s : State) : (State.stopFirmware s).store = s.store := (rfl)

@[simp] theorem State.armToken_store (s : State) (atOnce : Bool) : (State.armToken s atOnce).store =
    s.store := (rfl)

@[simp] theorem State.fallbackNoted_store (s : State) : (State.fallbackNoted s).store = s.store := by
  simp [State.fallbackNoted]

@[simp] theorem State.startTests_store (s : State) : (State.startTests s).store = s.store := by
  unfold State.startTests
  repeat' (first
    | (with_reducible rfl)
    | assumption
    | (simp; done)
    | (simp [*]; done)
    | split
    | (refine (foldl_store _ (fun _ _ => ?_) _ _).trans ?_)
    | (refine (foldl_store2 _ (fun _ _ => ?_) _ _).trans ?_)
    | (refine pair_store (by assumption) ?_)
    | (refine trip_store (by assumption) ?_)
    | (refine pair1_store (by assumption) ?_)
    | (dsimp only)
    | simp)

@[simp] theorem State.readBoot_store (s : State) : (State.readBoot s).store = s.store := by
  unfold State.readBoot
  first
    | rfl
    | (simp; done)
    | ((repeat' split) <;> simp; done)
    | (dsimp only; (repeat' split) <;> simp; done)
    | (repeat' (first | (with_reducible rfl) | assumption | (simp; done) | (simp [*]; done) | split | (refine (foldl_store _ (fun _ _ => ?_) _ _).trans ?_) | (refine (foldl_store2 _ (fun _ _ => ?_) _ _).trans ?_) | (refine pair_store (by assumption) ?_) | (refine trip_store (by assumption) ?_) | (refine pair1_store (by assumption) ?_) | (dsimp only) | simp))

@[simp] theorem State.beginFallback_store (s : State) : (State.beginFallback s).store = s.store := by
  unfold State.beginFallback; split <;> simp

@[simp] theorem State.windowExpire_store (s : State) : (State.windowExpire s).store = s.store := by
  unfold State.windowExpire; split <;> simp

@[simp] theorem State.endActivation_store (s : State) (a : Activation) (st : Status) : (State.endActivation s a st).store = s.store := by
  unfold State.endActivation
  first
    | rfl
    | (simp; done)
    | ((repeat' split) <;> simp; done)
    | (dsimp only; (repeat' split) <;> simp; done)
    | (repeat' (first | (with_reducible rfl) | assumption | (simp; done) | (simp [*]; done) | split | (refine (foldl_store _ (fun _ _ => ?_) _ _).trans ?_) | (refine (foldl_store2 _ (fun _ _ => ?_) _ _).trans ?_) | (refine pair_store (by assumption) ?_) | (refine trip_store (by assumption) ?_) | (refine pair1_store (by assumption) ?_) | (dsimp only) | simp))

@[simp] theorem State.backToRunning_store (s : State) (edge : Nat) : (State.backToRunning s edge).store = s.store := by
  unfold State.backToRunning
  first
    | rfl
    | (simp; done)
    | ((repeat' split) <;> simp; done)
    | (dsimp only; (repeat' split) <;> simp; done)
    | (repeat' (first | (with_reducible rfl) | assumption | (simp; done) | (simp [*]; done) | split | (refine (foldl_store _ (fun _ _ => ?_) _ _).trans ?_) | (refine (foldl_store2 _ (fun _ _ => ?_) _ _).trans ?_) | (refine pair_store (by assumption) ?_) | (refine trip_store (by assumption) ?_) | (refine pair1_store (by assumption) ?_) | (dsimp only) | simp))

@[simp] theorem State.dropActivation_store (s : State) (a : Activation) (st : Status) : (State.dropActivation s a st).store = s.store := by
  unfold State.dropActivation
  first
    | rfl
    | (simp; done)
    | ((repeat' split) <;> simp; done)
    | (dsimp only; (repeat' split) <;> simp; done)
    | (repeat' (first | (with_reducible rfl) | assumption | (simp; done) | (simp [*]; done) | split | (refine (foldl_store _ (fun _ _ => ?_) _ _).trans ?_) | (refine (foldl_store2 _ (fun _ _ => ?_) _ _).trans ?_) | (refine pair_store (by assumption) ?_) | (refine trip_store (by assumption) ?_) | (refine pair1_store (by assumption) ?_) | (dsimp only) | simp))

@[simp] theorem State.activationEdge_store (s : State) : (State.activationEdge s).store = s.store := by
  unfold State.activationEdge; split <;> simp

@[simp] theorem State.activationSafePoint_store (s : State) : (State.activationSafePoint s).store =
    s.store := by
  unfold State.activationSafePoint; split <;> simp

@[simp] theorem State.activationTimeout_store (s : State) : (State.activationTimeout s).store = s.store := by
  unfold State.activationTimeout
  first
    | rfl
    | (simp; done)
    | ((repeat' split) <;> simp; done)
    | (dsimp only; (repeat' split) <;> simp; done)
    | (repeat' (first | (with_reducible rfl) | assumption | (simp; done) | (simp [*]; done) | split | (refine (foldl_store _ (fun _ _ => ?_) _ _).trans ?_) | (refine (foldl_store2 _ (fun _ _ => ?_) _ _).trans ?_) | (refine pair_store (by assumption) ?_) | (refine trip_store (by assumption) ?_) | (refine pair1_store (by assumption) ?_) | (dsimp only) | simp))

@[simp] theorem State.imageStartTimeout_store (s : State) : (State.imageStartTimeout s).store = s.store := by
  unfold State.imageStartTimeout
  first
    | rfl
    | (simp; done)
    | ((repeat' split) <;> simp; done)
    | (dsimp only; (repeat' split) <;> simp; done)
    | (repeat' (first | (with_reducible rfl) | assumption | (simp; done) | (simp [*]; done) | split | (refine (foldl_store _ (fun _ _ => ?_) _ _).trans ?_) | (refine (foldl_store2 _ (fun _ _ => ?_) _ _).trans ?_) | (refine pair_store (by assumption) ?_) | (refine trip_store (by assumption) ?_) | (refine pair1_store (by assumption) ?_) | (dsimp only) | simp))

@[simp] theorem State.confirm_store (s : State) : (State.confirm s).store = s.store := by
  simp [State.confirm]

@[simp] theorem State.failSettings_store (s : State) : (State.failSettings s).store = s.store := by
  unfold State.failSettings
  first
    | rfl
    | (simp; done)
    | ((repeat' split) <;> simp; done)
    | (dsimp only; (repeat' split) <;> simp; done)
    | (repeat' (first | (with_reducible rfl) | assumption | (simp; done) | (simp [*]; done) | split | (refine (foldl_store _ (fun _ _ => ?_) _ _).trans ?_) | (refine (foldl_store2 _ (fun _ _ => ?_) _ _).trans ?_) | (refine pair_store (by assumption) ?_) | (refine trip_store (by assumption) ?_) | (refine pair1_store (by assumption) ?_) | (dsimp only) | simp))

/-! ### Svc -/

@[simp] theorem State.onSvc_store (s : State) (f : Svc → Svc) : (State.onSvc s f).store = s.store := (rfl)

@[simp] theorem State.svcResult_store (s : State) (r : ℕ) : (State.svcResult s r).store = s.store := (rfl)

@[simp] theorem State.svcFrame_store (s : State) (f : State → State)
    (hf : ∀ s0, (f s0).store = s0.store) : (State.svcFrame s f).store = s.store := by
  unfold State.svcFrame; (repeat' split) <;> simp [*]

@[simp] theorem State.imageFrame_store (s : State) (f : State → State)
    (hf : ∀ s0, (f s0).store = s0.store) : (State.imageFrame s f).store = s.store := by
  unfold State.imageFrame; (repeat' split) <;> simp [*]

@[simp] theorem State.svcStatusFrame_store (s : State) : (State.svcStatusFrame s).store = s.store := by
  simp [State.svcStatusFrame]

@[simp] theorem State.imgOpen_store (s : State) (arg : BitVec 32) (flashOk : Bool) :
    (State.imgOpen s arg flashOk).store = s.store := by
  simp [State.imgOpen]

@[simp] theorem State.imgBlock_store (s : State) (arg : BitVec 32) (data : BitVec 32768) :
    (State.imgBlock s arg data).store = s.store := by
  simp [State.imgBlock]

@[simp] theorem State.imgProgrammed_store (s : State) (flashOk : Bool) :
    (State.imgProgrammed s flashOk).store = s.store := by
  unfold State.imgProgrammed; split <;> simp

@[simp] theorem State.imgClose_store (s : State) (arg : BitVec 32) : (State.imgClose s arg).store =
    s.store := by
  unfold State.imgClose
  apply State.imageFrame_store
  intro s0
  dsimp only
  split
  · simp
  · split <;> simp

@[simp] theorem State.imgCloseEnd_store (s : State) : (State.imgCloseEnd s).store = s.store := by
  unfold State.imgCloseEnd; split <;> simp

@[simp] theorem State.endReadDump_store (s : State) : (State.endReadDump s).store = s.store := by
  unfold State.endReadDump
  first
    | rfl
    | (simp; done)
    | ((repeat' split) <;> simp; done)
    | (dsimp only; (repeat' split) <;> simp; done)
    | (repeat' (first | (with_reducible rfl) | assumption | (simp; done) | (simp [*]; done) | split | (refine (foldl_store _ (fun _ _ => ?_) _ _).trans ?_) | (refine (foldl_store2 _ (fun _ _ => ?_) _ _).trans ?_) | (refine pair_store (by assumption) ?_) | (refine trip_store (by assumption) ?_) | (refine pair1_store (by assumption) ?_) | (dsimp only) | simp))

@[simp] theorem State.svcRead_store (s : State) (len : ℕ) : (State.svcRead s len).store = s.store := by
  unfold State.svcRead
  first
    | rfl
    | (simp; done)
    | ((repeat' split) <;> simp; done)
    | (dsimp only; (repeat' split) <;> simp; done)
    | (repeat' (first | (with_reducible rfl) | assumption | (simp; done) | (simp [*]; done) | split | (refine (foldl_store _ (fun _ _ => ?_) _ _).trans ?_) | (refine (foldl_store2 _ (fun _ _ => ?_) _ _).trans ?_) | (refine pair_store (by assumption) ?_) | (refine trip_store (by assumption) ?_) | (refine pair1_store (by assumption) ?_) | (dsimp only) | simp))

@[simp] theorem State.svcRun_store (s : State) (op : SvcOp) (bs : List Byte) (flashOk : Bool) : (State.svcRun s op bs flashOk).store = s.store := by
  unfold State.svcRun
  first
    | rfl
    | (simp; done)
    | ((repeat' split) <;> simp; done)
    | (dsimp only; (repeat' split) <;> simp; done)
    | (repeat' (first | (with_reducible rfl) | assumption | (simp; done) | (simp [*]; done) | split | (refine (foldl_store _ (fun _ _ => ?_) _ _).trans ?_) | (refine (foldl_store2 _ (fun _ _ => ?_) _ _).trans ?_) | (refine pair_store (by assumption) ?_) | (refine trip_store (by assumption) ?_) | (refine pair1_store (by assumption) ?_) | (dsimp only) | simp))

@[simp] theorem State.svcBytes_store (s : State) (f : SvcFrame) : (State.svcBytes s f).store = s.store := by
  unfold State.svcBytes
  first
    | rfl
    | (simp; done)
    | ((repeat' split) <;> simp; done)
    | (dsimp only; (repeat' split) <;> simp; done)
    | (repeat' (first | (with_reducible rfl) | assumption | (simp; done) | (simp [*]; done) | split | (refine (foldl_store _ (fun _ _ => ?_) _ _).trans ?_) | (refine (foldl_store2 _ (fun _ _ => ?_) _ _).trans ?_) | (refine pair_store (by assumption) ?_) | (refine trip_store (by assumption) ?_) | (refine pair1_store (by assumption) ?_) | (dsimp only) | simp))

@[simp] theorem State.monChar_store (s : State) (ch : Byte) : (State.monChar s ch).store = s.store := by
  simp [State.monChar]

/-! ### FaultData -/

@[simp] theorem State.onHead_store (s : State) (bank : Nat) (f : Piece → Piece) : (State.onHead s bank f).store = s.store := by
  unfold State.onHead
  first
    | rfl
    | (simp; done)
    | ((repeat' split) <;> simp; done)
    | (dsimp only; (repeat' split) <;> simp; done)
    | (repeat' (first | (with_reducible rfl) | assumption | (simp; done) | (simp [*]; done) | split | (refine (foldl_store _ (fun _ _ => ?_) _ _).trans ?_) | (refine (foldl_store2 _ (fun _ _ => ?_) _ _).trans ?_) | (refine pair_store (by assumption) ?_) | (refine trip_store (by assumption) ?_) | (refine pair1_store (by assumption) ?_) | (dsimp only) | simp))

@[simp] theorem State.onFirstRead_store (s : State) (bank : Nat) (f : Piece → Piece) : (State.onFirstRead s bank f).store = s.store := by
  unfold State.onFirstRead
  first
    | rfl
    | (simp; done)
    | ((repeat' split) <;> simp; done)
    | (dsimp only; (repeat' split) <;> simp; done)
    | (repeat' (first | (with_reducible rfl) | assumption | (simp; done) | (simp [*]; done) | split | (refine (foldl_store _ (fun _ _ => ?_) _ _).trans ?_) | (refine (foldl_store2 _ (fun _ _ => ?_) _ _).trans ?_) | (refine pair_store (by assumption) ?_) | (refine trip_store (by assumption) ?_) | (refine pair1_store (by assumption) ?_) | (dsimp only) | simp))

@[simp] theorem State.dropResponse_store (s : State) (p : Nat) : (State.dropResponse s p).store = s.store := by
  unfold State.dropResponse
  first
    | rfl
    | (simp; done)
    | ((repeat' split) <;> simp; done)
    | (dsimp only; (repeat' split) <;> simp; done)
    | (repeat' (first | (with_reducible rfl) | assumption | (simp; done) | (simp [*]; done) | split | (refine (foldl_store _ (fun _ _ => ?_) _ _).trans ?_) | (refine (foldl_store2 _ (fun _ _ => ?_) _ _).trans ?_) | (refine pair_store (by assumption) ?_) | (refine trip_store (by assumption) ?_) | (refine pair1_store (by assumption) ?_) | (dsimp only) | simp))

@[simp] theorem State.levelAtLeast_store (s : State) (l : GovLevel) : (State.levelAtLeast s l).store = s.store := by
  unfold State.levelAtLeast
  first
    | rfl
    | (simp; done)
    | ((repeat' split) <;> simp; done)
    | (dsimp only; (repeat' split) <;> simp; done)
    | (repeat' (first | (with_reducible rfl) | assumption | (simp; done) | (simp [*]; done) | split | (refine (foldl_store _ (fun _ _ => ?_) _ _).trans ?_) | (refine (foldl_store2 _ (fun _ _ => ?_) _ _).trans ?_) | (refine pair_store (by assumption) ?_) | (refine trip_store (by assumption) ?_) | (refine pair1_store (by assumption) ?_) | (dsimp only) | simp))

@[simp] theorem State.shedTo_store (s : State) (k : Nat) (y0 : Nat) : (State.shedTo s k y0).store = s.store := by
  induction y0 generalizing s k with
  | zero => (unfold State.shedTo; (repeat' (first | (with_reducible rfl) | assumption | (simp; done) | (simp [*]; done) | split | (refine (foldl_store _ (fun _ _ => ?_) _ _).trans ?_) | (refine (foldl_store2 _ (fun _ _ => ?_) _ _).trans ?_) | (refine pair_store (by assumption) ?_) | (refine trip_store (by assumption) ?_) | (refine pair1_store (by assumption) ?_) | (dsimp only) | simp)))
  | succ n1 ih => (unfold State.shedTo; (repeat' (first | (with_reducible rfl) | assumption | (simp; done) | (simp [*]; done) | split | (refine (foldl_store _ (fun _ _ => ?_) _ _).trans ?_) | (refine (foldl_store2 _ (fun _ _ => ?_) _ _).trans ?_) | (refine pair_store (by assumption) ?_) | (refine trip_store (by assumption) ?_) | (refine pair1_store (by assumption) ?_) | (dsimp only) | simp)))

@[simp] theorem State.takeStricter_store (s : State) (tb : Nat) (l : GovLevel) (shed : Nat) : (State.takeStricter s tb l shed).store = s.store := by
  unfold State.takeStricter
  first
    | rfl
    | (simp; done)
    | ((repeat' split) <;> simp; done)
    | (dsimp only; (repeat' split) <;> simp; done)
    | (repeat' (first | (with_reducible rfl) | assumption | (simp; done) | (simp [*]; done) | split | (refine (foldl_store _ (fun _ _ => ?_) _ _).trans ?_) | (refine (foldl_store2 _ (fun _ _ => ?_) _ _).trans ?_) | (refine pair_store (by assumption) ?_) | (refine trip_store (by assumption) ?_) | (refine pair1_store (by assumption) ?_) | (dsimp only) | simp))

@[simp] theorem State.losePop_store (s : State) (i : Nat) : (State.losePop s i).store = s.store := by
  unfold State.losePop
  first
    | rfl
    | (simp; done)
    | ((repeat' split) <;> simp; done)
    | (dsimp only; (repeat' split) <;> simp; done)
    | (repeat' (first | (with_reducible rfl) | assumption | (simp; done) | (simp [*]; done) | split | (refine (foldl_store _ (fun _ _ => ?_) _ _).trans ?_) | (refine (foldl_store2 _ (fun _ _ => ?_) _ _).trans ?_) | (refine pair_store (by assumption) ?_) | (refine trip_store (by assumption) ?_) | (refine pair1_store (by assumption) ?_) | (dsimp only) | simp))

@[simp] theorem State.loseEntry_store (s : State) (t : TableEntry) : (State.loseEntry s t).store = s.store := by
  unfold State.loseEntry
  first
    | rfl
    | (simp; done)
    | ((repeat' split) <;> simp; done)
    | (dsimp only; (repeat' split) <;> simp; done)
    | (repeat' (first | (with_reducible rfl) | assumption | (simp; done) | (simp [*]; done) | split | (refine (foldl_store _ (fun _ _ => ?_) _ _).trans ?_) | (refine (foldl_store2 _ (fun _ _ => ?_) _ _).trans ?_) | (refine pair_store (by assumption) ?_) | (refine trip_store (by assumption) ?_) | (refine pair1_store (by assumption) ?_) | (dsimp only) | simp))

@[simp] theorem State.loseLedger_store (s : State) (i : Nat) : (State.loseLedger s i).store = s.store := by
  unfold State.loseLedger
  first
    | rfl
    | (simp; done)
    | ((repeat' split) <;> simp; done)
    | (dsimp only; (repeat' split) <;> simp; done)
    | (repeat' (first | (with_reducible rfl) | assumption | (simp; done) | (simp [*]; done) | split | (refine (foldl_store _ (fun _ _ => ?_) _ _).trans ?_) | (refine (foldl_store2 _ (fun _ _ => ?_) _ _).trans ?_) | (refine pair_store (by assumption) ?_) | (refine trip_store (by assumption) ?_) | (refine pair1_store (by assumption) ?_) | (dsimp only) | simp))

@[simp] theorem State.strikes_store (s : State) (h : FaultHit) : (State.strikes s h).store = s.store := by
  unfold State.strikes
  first
    | rfl
    | (simp; done)
    | ((repeat' split) <;> simp; done)
    | (dsimp only; (repeat' split) <;> simp; done)
    | (repeat' (first | (with_reducible rfl) | assumption | (simp; done) | (simp [*]; done) | split | (refine (foldl_store _ (fun _ _ => ?_) _ _).trans ?_) | (refine (foldl_store2 _ (fun _ _ => ?_) _ _).trans ?_) | (refine pair_store (by assumption) ?_) | (refine trip_store (by assumption) ?_) | (refine pair1_store (by assumption) ?_) | (dsimp only) | simp))

@[simp] theorem State.strike_store (s : State) (f : FaultInfo) : (State.strike s f).store = s.store := by
  unfold State.strike
  first
    | rfl
    | (simp; done)
    | ((repeat' split) <;> simp; done)
    | (dsimp only; (repeat' split) <;> simp; done)
    | (repeat' (first | (with_reducible rfl) | assumption | (simp; done) | (simp [*]; done) | split | (refine (foldl_store _ (fun _ _ => ?_) _ _).trans ?_) | (refine (foldl_store2 _ (fun _ _ => ?_) _ _).trans ?_) | (refine pair_store (by assumption) ?_) | (refine trip_store (by assumption) ?_) | (refine pair1_store (by assumption) ?_) | (dsimp only) | simp))

/-! ### CmdSafety -/

@[simp] theorem State.stopJobsOf_store (s : State) (token : ℕ) (st : Status) : (State.stopJobsOf s token st).store = s.store := by
  unfold State.stopJobsOf
  first
    | rfl
    | (simp; done)
    | ((repeat' split) <;> simp; done)
    | (dsimp only; (repeat' split) <;> simp; done)
    | (repeat' (first | (with_reducible rfl) | assumption | (simp; done) | (simp [*]; done) | split | (refine (foldl_store _ (fun _ _ => ?_) _ _).trans ?_) | (refine (foldl_store2 _ (fun _ _ => ?_) _ _).trans ?_) | (refine pair_store (by assumption) ?_) | (refine trip_store (by assumption) ?_) | (refine pair1_store (by assumption) ?_) | (dsimp only) | simp))

@[simp] theorem State.cutTestsOf_store (s : State) (token : ℕ) (st : Status) : (State.cutTestsOf s token st).store = s.store := by
  unfold State.cutTestsOf
  first
    | rfl
    | (simp; done)
    | ((repeat' split) <;> simp; done)
    | (dsimp only; (repeat' split) <;> simp; done)
    | (repeat' (first | (with_reducible rfl) | assumption | (simp; done) | (simp [*]; done) | split | (refine (foldl_store _ (fun _ _ => ?_) _ _).trans ?_) | (refine (foldl_store2 _ (fun _ _ => ?_) _ _).trans ?_) | (refine pair_store (by assumption) ?_) | (refine trip_store (by assumption) ?_) | (refine pair1_store (by assumption) ?_) | (dsimp only) | simp))

@[simp] theorem State.cutOne_store (s : State) (st : Status) (d : Deferred) : (State.cutOne s st d).store = s.store := by
  unfold State.cutOne
  first
    | rfl
    | (simp; done)
    | ((repeat' split) <;> simp; done)
    | (dsimp only; (repeat' split) <;> simp; done)
    | (repeat' (first | (with_reducible rfl) | assumption | (simp; done) | (simp [*]; done) | split | (refine (foldl_store _ (fun _ _ => ?_) _ _).trans ?_) | (refine (foldl_store2 _ (fun _ _ => ?_) _ _).trans ?_) | (refine pair_store (by assumption) ?_) | (refine trip_store (by assumption) ?_) | (refine pair1_store (by assumption) ?_) | (dsimp only) | simp))

@[simp] theorem State.cutAll_store (s : State) (p : Deferred → Bool) (st : Status) : (State.cutAll s p st).store = s.store := by
  unfold State.cutAll
  first
    | rfl
    | (simp; done)
    | ((repeat' split) <;> simp; done)
    | (dsimp only; (repeat' split) <;> simp; done)
    | (repeat' (first | (with_reducible rfl) | assumption | (simp; done) | (simp [*]; done) | split | (refine (foldl_store _ (fun _ _ => ?_) _ _).trans ?_) | (refine (foldl_store2 _ (fun _ _ => ?_) _ _).trans ?_) | (refine pair_store (by assumption) ?_) | (refine trip_store (by assumption) ?_) | (refine pair1_store (by assumption) ?_) | (dsimp only) | simp))

@[simp] theorem State.beginHold_store (s : State) (code : ℕ) (entry : Bool) : (State.beginHold s code entry).store = s.store := by
  unfold State.beginHold
  first
    | rfl
    | (simp; done)
    | ((repeat' split) <;> simp; done)
    | (dsimp only; (repeat' split) <;> simp; done)
    | (repeat' (first | (with_reducible rfl) | assumption | (simp; done) | (simp [*]; done) | split | (refine (foldl_store _ (fun _ _ => ?_) _ _).trans ?_) | (refine (foldl_store2 _ (fun _ _ => ?_) _ _).trans ?_) | (refine pair_store (by assumption) ?_) | (refine trip_store (by assumption) ?_) | (refine pair1_store (by assumption) ?_) | (dsimp only) | simp))

@[simp] theorem State.enterHold_store (s : State) (code : ℕ) : (State.enterHold s code).store = s.store := by
  unfold State.enterHold
  first
    | rfl
    | (simp; done)
    | ((repeat' split) <;> simp; done)
    | (dsimp only; (repeat' split) <;> simp; done)
    | (repeat' (first | (with_reducible rfl) | assumption | (simp; done) | (simp [*]; done) | split | (refine (foldl_store _ (fun _ _ => ?_) _ _).trans ?_) | (refine (foldl_store2 _ (fun _ _ => ?_) _ _).trans ?_) | (refine pair_store (by assumption) ?_) | (refine trip_store (by assumption) ?_) | (refine pair1_store (by assumption) ?_) | (dsimp only) | simp))

@[simp] theorem State.claimNow_store (s : State) (half : Bool) : (State.claimNow s half).store =
    s.store := (rfl)

@[simp] theorem State.nameHolder_store (s : State) (half : Bool) : (State.nameHolder s half).store =
    s.store := by
  simp [State.nameHolder]

@[simp] theorem State.loseToken_store (s : State) : (State.loseToken s).store = s.store := by
  unfold State.loseToken
  first
    | rfl
    | (simp; done)
    | ((repeat' split) <;> simp; done)
    | (dsimp only; (repeat' split) <;> simp; done)
    | (repeat' (first | (with_reducible rfl) | assumption | (simp; done) | (simp [*]; done) | split | (refine (foldl_store _ (fun _ _ => ?_) _ _).trans ?_) | (refine (foldl_store2 _ (fun _ _ => ?_) _ _).trans ?_) | (refine pair_store (by assumption) ?_) | (refine trip_store (by assumption) ?_) | (refine pair1_store (by assumption) ?_) | (dsimp only) | simp))

@[simp] theorem State.transferToken_store (s : State) : (State.transferToken s).store = s.store := by
  unfold State.transferToken
  first
    | rfl
    | (simp; done)
    | ((repeat' split) <;> simp; done)
    | (dsimp only; (repeat' split) <;> simp; done)
    | (repeat' (first | (with_reducible rfl) | assumption | (simp; done) | (simp [*]; done) | split | (refine (foldl_store _ (fun _ _ => ?_) _ _).trans ?_) | (refine (foldl_store2 _ (fun _ _ => ?_) _ _).trans ?_) | (refine pair_store (by assumption) ?_) | (refine trip_store (by assumption) ?_) | (refine pair1_store (by assumption) ?_) | (dsimp only) | simp))

@[simp] theorem State.stopShepherd_store (s : State) (half : Bool) : (State.stopShepherd s half).store = s.store := by
  unfold State.stopShepherd
  first
    | rfl
    | (simp; done)
    | ((repeat' split) <;> simp; done)
    | (dsimp only; (repeat' split) <;> simp; done)
    | (repeat' (first | (with_reducible rfl) | assumption | (simp; done) | (simp [*]; done) | split | (refine (foldl_store _ (fun _ _ => ?_) _ _).trans ?_) | (refine (foldl_store2 _ (fun _ _ => ?_) _ _).trans ?_) | (refine pair_store (by assumption) ?_) | (refine trip_store (by assumption) ?_) | (refine pair1_store (by assumption) ?_) | (dsimp only) | simp))

@[simp] theorem State.halfReaction_store (s : State) (half : Bool) : (State.halfReaction s half).store = s.store := by
  unfold State.halfReaction
  first
    | rfl
    | (simp; done)
    | ((repeat' split) <;> simp; done)
    | (dsimp only; (repeat' split) <;> simp; done)
    | (repeat' (first | (with_reducible rfl) | assumption | (simp; done) | (simp [*]; done) | split | (refine (foldl_store _ (fun _ _ => ?_) _ _).trans ?_) | (refine (foldl_store2 _ (fun _ _ => ?_) _ _).trans ?_) | (refine pair_store (by assumption) ?_) | (refine trip_store (by assumption) ?_) | (refine pair1_store (by assumption) ?_) | (dsimp only) | simp))

@[simp] theorem State.noteMismatch_store (s : State) (sub : ℕ) : (State.noteMismatch s sub).store =
    s.store := (rfl)

@[simp] theorem State.fault_store (s : State) (f : FaultInfo) : (State.fault s f).store = s.store := by
  unfold State.fault
  first
    | rfl
    | (simp; done)
    | ((repeat' split) <;> simp; done)
    | (dsimp only; (repeat' split) <;> simp; done)
    | (repeat' (first | (with_reducible rfl) | assumption | (simp; done) | (simp [*]; done) | split | (refine (foldl_store _ (fun _ _ => ?_) _ _).trans ?_) | (refine (foldl_store2 _ (fun _ _ => ?_) _ _).trans ?_) | (refine pair_store (by assumption) ?_) | (refine trip_store (by assumption) ?_) | (refine pair1_store (by assumption) ?_) | (dsimp only) | simp))

@[simp] theorem State.collect_store (s : State) (f : FaultInfo) : (State.collect s f).store = s.store := by
  unfold State.collect
  first
    | rfl
    | (simp; done)
    | ((repeat' split) <;> simp; done)
    | (dsimp only; (repeat' split) <;> simp; done)
    | (repeat' (first | (with_reducible rfl) | assumption | (simp; done) | (simp [*]; done) | split | (refine (foldl_store _ (fun _ _ => ?_) _ _).trans ?_) | (refine (foldl_store2 _ (fun _ _ => ?_) _ _).trans ?_) | (refine pair_store (by assumption) ?_) | (refine trip_store (by assumption) ?_) | (refine pair1_store (by assumption) ?_) | (dsimp only) | simp))

@[simp] theorem State.faultReport_store (s : State) (f : FaultInfo) : (State.faultReport s f).store = s.store := by
  unfold State.faultReport
  first
    | rfl
    | (simp; done)
    | ((repeat' split) <;> simp; done)
    | (dsimp only; (repeat' split) <;> simp; done)
    | (repeat' (first | (with_reducible rfl) | assumption | (simp; done) | (simp [*]; done) | split | (refine (foldl_store _ (fun _ _ => ?_) _ _).trans ?_) | (refine (foldl_store2 _ (fun _ _ => ?_) _ _).trans ?_) | (refine pair_store (by assumption) ?_) | (refine trip_store (by assumption) ?_) | (refine pair1_store (by assumption) ?_) | (dsimp only) | simp))

@[simp] theorem State.crookClaim_store (s : State) (half : Bool) : (State.crookClaim s half).store =
    s.store := by
  simp [State.crookClaim]

@[simp] theorem State.tokenRow_store (s : State) : (State.tokenRow s).store = s.store := by
  unfold State.tokenRow
  first
    | rfl
    | (simp; done)
    | ((repeat' split) <;> simp; done)
    | (dsimp only; (repeat' split) <;> simp; done)
    | (repeat' (first | (with_reducible rfl) | assumption | (simp; done) | (simp [*]; done) | split | (refine (foldl_store _ (fun _ _ => ?_) _ _).trans ?_) | (refine (foldl_store2 _ (fun _ _ => ?_) _ _).trans ?_) | (refine pair_store (by assumption) ?_) | (refine trip_store (by assumption) ?_) | (refine pair1_store (by assumption) ?_) | (dsimp only) | simp))

@[simp] theorem State.tokenCheck_store (s : State) (c0 : BitVec 2) (c1 : BitVec 2) (c2 : BitVec 2) : (State.tokenCheck s c0 c1 c2).store = s.store := by
  unfold State.tokenCheck
  first
    | rfl
    | (simp; done)
    | ((repeat' split) <;> simp; done)
    | (dsimp only; (repeat' split) <;> simp; done)
    | (repeat' (first | (with_reducible rfl) | assumption | (simp; done) | (simp [*]; done) | split | (refine (foldl_store _ (fun _ _ => ?_) _ _).trans ?_) | (refine (foldl_store2 _ (fun _ _ => ?_) _ _).trans ?_) | (refine pair_store (by assumption) ?_) | (refine trip_store (by assumption) ?_) | (refine pair1_store (by assumption) ?_) | (dsimp only) | simp))

@[simp] theorem State.watchdogWrite_store (s : State) (half : Bool) :
    (State.watchdogWrite s half).store = s.store := by
  simp [State.watchdogWrite]

@[simp] theorem State.watchdogExpire_store (s : State) (half : Bool) : (State.watchdogExpire s half).store = s.store := by
  unfold State.watchdogExpire
  first
    | rfl
    | (simp; done)
    | ((repeat' split) <;> simp; done)
    | (dsimp only; (repeat' split) <;> simp; done)
    | (repeat' (first | (with_reducible rfl) | assumption | (simp; done) | (simp [*]; done) | split | (refine (foldl_store _ (fun _ _ => ?_) _ _).trans ?_) | (refine (foldl_store2 _ (fun _ _ => ?_) _ _).trans ?_) | (refine pair_store (by assumption) ?_) | (refine trip_store (by assumption) ?_) | (refine pair1_store (by assumption) ?_) | (dsimp only) | simp))

@[simp] theorem State.sequencerMismatch_store (s : State) : (State.sequencerMismatch s).store = s.store := by
  unfold State.sequencerMismatch
  first
    | rfl
    | (simp; done)
    | ((repeat' split) <;> simp; done)
    | (dsimp only; (repeat' split) <;> simp; done)
    | (repeat' (first | (with_reducible rfl) | assumption | (simp; done) | (simp [*]; done) | split | (refine (foldl_store _ (fun _ _ => ?_) _ _).trans ?_) | (refine (foldl_store2 _ (fun _ _ => ?_) _ _).trans ?_) | (refine pair_store (by assumption) ?_) | (refine trip_store (by assumption) ?_) | (refine pair1_store (by assumption) ?_) | (dsimp only) | simp))

@[simp] theorem State.rckLoss_store (s : State) : (State.rckLoss s).store = s.store := by
  simp [State.rckLoss]

@[simp] theorem State.rckReturn_store (s : State) : (State.rckReturn s).store = s.store := by
  unfold State.rckReturn
  first
    | rfl
    | (simp; done)
    | ((repeat' split) <;> simp; done)
    | (dsimp only; (repeat' split) <;> simp; done)
    | (repeat' (first | (with_reducible rfl) | assumption | (simp; done) | (simp [*]; done) | split | (refine (foldl_store _ (fun _ _ => ?_) _ _).trans ?_) | (refine (foldl_store2 _ (fun _ _ => ?_) _ _).trans ?_) | (refine pair_store (by assumption) ?_) | (refine trip_store (by assumption) ?_) | (refine pair1_store (by assumption) ?_) | (dsimp only) | simp))

@[simp] theorem State.outputTest_store (s : State) : (State.outputTest s).store = s.store := by
  simp [State.outputTest]

@[simp] theorem State.outputTestEnd_store (s : State) (padsOk : Bool) : (State.outputTestEnd s padsOk).store = s.store := by
  unfold State.outputTestEnd
  first
    | rfl
    | (simp; done)
    | ((repeat' split) <;> simp; done)
    | (dsimp only; (repeat' split) <;> simp; done)
    | (repeat' (first | (with_reducible rfl) | assumption | (simp; done) | (simp [*]; done) | split | (refine (foldl_store _ (fun _ _ => ?_) _ _).trans ?_) | (refine (foldl_store2 _ (fun _ _ => ?_) _ _).trans ?_) | (refine pair_store (by assumption) ?_) | (refine trip_store (by assumption) ?_) | (refine pair1_store (by assumption) ?_) | (dsimp only) | simp))

@[simp] theorem State.ledgerAck_store (s : State) (seq : BitVec 32) : (State.ledgerAck s seq).store
    = s.store := by
  simp [State.ledgerAck]

@[simp] theorem State.leaveHold_store (s : State) : (State.leaveHold s).store = s.store := by
  unfold State.leaveHold
  first
    | rfl
    | (simp; done)
    | ((repeat' split) <;> simp; done)
    | (dsimp only; (repeat' split) <;> simp; done)
    | (repeat' (first | (with_reducible rfl) | assumption | (simp; done) | (simp [*]; done) | split | (refine (foldl_store _ (fun _ _ => ?_) _ _).trans ?_) | (refine (foldl_store2 _ (fun _ _ => ?_) _ _).trans ?_) | (refine pair_store (by assumption) ?_) | (refine trip_store (by assumption) ?_) | (refine pair1_store (by assumption) ?_) | (dsimp only) | simp))

@[simp] theorem State.beginHalfReset_store (s : State) (half : Bool) (token : ℕ) (c : Cmd) : (State.beginHalfReset s half token c).store = s.store := by
  unfold State.beginHalfReset
  first
    | rfl
    | (simp; done)
    | ((repeat' split) <;> simp; done)
    | (dsimp only; (repeat' split) <;> simp; done)
    | (repeat' (first | (with_reducible rfl) | assumption | (simp; done) | (simp [*]; done) | split | (refine (foldl_store _ (fun _ _ => ?_) _ _).trans ?_) | (refine (foldl_store2 _ (fun _ _ => ?_) _ _).trans ?_) | (refine pair_store (by assumption) ?_) | (refine trip_store (by assumption) ?_) | (refine pair1_store (by assumption) ?_) | (dsimp only) | simp))

@[simp] theorem State.halfResetComplete_store (s : State) (half : Bool) : (State.halfResetComplete s half).store = s.store := by
  unfold State.halfResetComplete
  first
    | rfl
    | (simp; done)
    | ((repeat' split) <;> simp; done)
    | (dsimp only; (repeat' split) <;> simp; done)
    | (repeat' (first | (with_reducible rfl) | assumption | (simp; done) | (simp [*]; done) | split | (refine (foldl_store _ (fun _ _ => ?_) _ _).trans ?_) | (refine (foldl_store2 _ (fun _ _ => ?_) _ _).trans ?_) | (refine pair_store (by assumption) ?_) | (refine trip_store (by assumption) ?_) | (refine pair1_store (by assumption) ?_) | (dsimp only) | simp))

@[simp] theorem State.setReaction_store (s : State) (code : ℕ) (level : ℕ) :
    (State.setReaction s code level).store = s.store := by
  simp [State.setReaction]

@[simp] theorem State.endTableUsers_store (s : State) : (State.endTableUsers s).store = s.store := by
  unfold State.endTableUsers
  first
    | rfl
    | (simp; done)
    | ((repeat' split) <;> simp; done)
    | (dsimp only; (repeat' split) <;> simp; done)
    | (repeat' (first | (with_reducible rfl) | assumption | (simp; done) | (simp [*]; done) | split | (refine (foldl_store _ (fun _ _ => ?_) _ _).trans ?_) | (refine (foldl_store2 _ (fun _ _ => ?_) _ _).trans ?_) | (refine pair_store (by assumption) ?_) | (refine trip_store (by assumption) ?_) | (refine pair1_store (by assumption) ?_) | (dsimp only) | simp))

@[simp] theorem State.setRegionZero_store (s : State) : (State.setRegionZero s).store = s.store := (rfl)

@[simp] theorem State.clearTables_store (s : State) : (State.clearTables s).store = s.store := by
  unfold State.clearTables
  extract_lets s1 s2 s3 s4 s5 s6
  have h1 : s1.store = s.store := State.endTableUsers_store s
  have h2 : s2.store = s.store := (foldl_store _ (fun _ _ => by simp) _ _).trans h1
  have h3 : s3.store = s.store := (State.setRegionZero_store _).trans ((State.mk_addr_store s2 _).trans h2)
  have h4 : s4.store = s.store := (State.onConv_store _ _).trans h3
  have h5 : s5.store = s.store := (State.onFolds_store _ _).trans h4
  have h6 : s6.store = s.store := (State.onEng_store _ _).trans h5
  rw [State.reckon_store, State.onXbar_store, h6]

/-! ### CmdTable -/

@[simp] theorem State.refuseCmd_store (s : State) (o : Outst) (r : Result) :
    (State.refuseCmd s o r).store = s.store := by
  simp [State.refuseCmd]

@[simp] theorem State.noteCmd_store (s : State) (o : Outst) : (State.noteCmd s o).store = s.store := by
  simp [State.noteCmd]

@[simp] theorem State.fetchRefused_store (s : State) (n : ℕ) (a : ℕ) (st : Status) : (State.fetchRefused s n a st).store = s.store := by
  unfold State.fetchRefused
  first
    | rfl
    | (simp; done)
    | ((repeat' split) <;> simp; done)
    | (dsimp only; (repeat' split) <;> simp; done)
    | (repeat' (first | (with_reducible rfl) | assumption | (simp; done) | (simp [*]; done) | split | (refine (foldl_store _ (fun _ _ => ?_) _ _).trans ?_) | (refine (foldl_store2 _ (fun _ _ => ?_) _ _).trans ?_) | (refine pair_store (by assumption) ?_) | (refine trip_store (by assumption) ?_) | (refine pair1_store (by assumption) ?_) | (dsimp only) | simp))

@[simp] theorem State.askFetch_store (s : State) (n : ℕ) (units : ℕ) (f : ℕ → RingFetch) : (State.askFetch s n units f).store = s.store := by
  unfold State.askFetch
  first
    | rfl
    | (simp; done)
    | ((repeat' split) <;> simp; done)
    | (dsimp only; (repeat' split) <;> simp; done)
    | (repeat' (first | (with_reducible rfl) | assumption | (simp; done) | (simp [*]; done) | split | (refine (foldl_store _ (fun _ _ => ?_) _ _).trans ?_) | (refine (foldl_store2 _ (fun _ _ => ?_) _ _).trans ?_) | (refine pair_store (by assumption) ?_) | (refine trip_store (by assumption) ?_) | (refine pair1_store (by assumption) ?_) | (dsimp only) | simp))

@[simp] theorem State.fetchMarked_store (s : State) (n : ℕ) (xs : List (ℕ × ℕ)) (bs : List (Byte × Bool)) : (State.fetchMarked s n xs bs).store = s.store := by
  unfold State.fetchMarked
  first
    | rfl
    | (simp; done)
    | ((repeat' split) <;> simp; done)
    | (dsimp only; (repeat' split) <;> simp; done)
    | (repeat' (first | (with_reducible rfl) | assumption | (simp; done) | (simp [*]; done) | split | (refine (foldl_store _ (fun _ _ => ?_) _ _).trans ?_) | (refine (foldl_store2 _ (fun _ _ => ?_) _ _).trans ?_) | (refine pair_store (by assumption) ?_) | (refine trip_store (by assumption) ?_) | (refine pair1_store (by assumption) ?_) | (dsimp only) | simp))

@[simp] theorem State.fetched_store (s : State) (n : ℕ) (units : ℕ) (req : ℕ) (go : State → List Byte → State) (hgo : ∀ s0 x0, (go s0 x0).store = s0.store) : (State.fetched s n units req go).store = s.store := by
  unfold State.fetched
  first
    | rfl
    | (simp; done)
    | ((repeat' split) <;> simp; done)
    | (dsimp only; (repeat' split) <;> simp; done)
    | (repeat' (first | (with_reducible rfl) | assumption | (simp; done) | (simp [*]; done) | split | (refine (foldl_store _ (fun _ _ => ?_) _ _).trans ?_) | (refine (foldl_store2 _ (fun _ _ => ?_) _ _).trans ?_) | (refine pair_store (by assumption) ?_) | (refine trip_store (by assumption) ?_) | (refine pair1_store (by assumption) ?_) | (dsimp only) | simp))

@[simp] theorem State.headRead_store (s : State) (n : ℕ) (req : ℕ) (bs : List Byte) : (State.headRead s n req bs).store = s.store := by
  unfold State.headRead
  first
    | rfl
    | (simp; done)
    | ((repeat' split) <;> simp; done)
    | (dsimp only; (repeat' split) <;> simp; done)
    | (repeat' (first | (with_reducible rfl) | assumption | (simp; done) | (simp [*]; done) | split | (refine (foldl_store _ (fun _ _ => ?_) _ _).trans ?_) | (refine (foldl_store2 _ (fun _ _ => ?_) _ _).trans ?_) | (refine pair_store (by assumption) ?_) | (refine trip_store (by assumption) ?_) | (refine pair1_store (by assumption) ?_) | (dsimp only) | simp))

@[simp] theorem State.ringFetch_store (s : State) (n : ℕ) : (State.ringFetch s n).store = s.store := by
  unfold State.ringFetch
  first
    | rfl
    | (simp; done)
    | ((repeat' split) <;> simp; done)
    | (dsimp only; (repeat' split) <;> simp; done)
    | (repeat' (first | (with_reducible rfl) | assumption | (simp; done) | (simp [*]; done) | split | (refine (foldl_store _ (fun _ _ => ?_) _ _).trans ?_) | (refine (foldl_store2 _ (fun _ _ => ?_) _ _).trans ?_) | (refine pair_store (by assumption) ?_) | (refine trip_store (by assumption) ?_) | (refine pair1_store (by assumption) ?_) | (dsimp only) | simp))

@[simp] theorem State.windowGo_store (s : State) (sp : Bool) : (State.windowGo s sp).store = s.store := by
  unfold State.windowGo
  split
  · exact State.onWindow_store _ _ _
  · exact State.onWindow_store _ _ _

@[simp] theorem State.mailbox_store (s : State) (p : ℕ) (ctx : ℕ) (tag : ℕ) (c : Cmd) :
    (State.mailbox s p ctx tag c).store = s.store := by
  simp [State.mailbox]

@[simp] theorem State.windowPacket_store (s : State) (sp : Bool) (c : Cmd) : (State.windowPacket s sp c).store = s.store := by
  unfold State.windowPacket
  first
    | rfl
    | (simp; done)
    | ((repeat' split) <;> simp; done)
    | (dsimp only; (repeat' split) <;> simp; done)
    | (repeat' (first | (with_reducible rfl) | assumption | (simp; done) | (simp [*]; done) | split | (refine (foldl_store _ (fun _ _ => ?_) _ _).trans ?_) | (refine (foldl_store2 _ (fun _ _ => ?_) _ _).trans ?_) | (refine pair_store (by assumption) ?_) | (refine trip_store (by assumption) ?_) | (refine pair1_store (by assumption) ?_) | (dsimp only) | simp))

@[simp] theorem State.arrive_store (s : State) (c : Cmd) : (State.arrive s c).store = s.store := by
  unfold State.arrive
  first
    | rfl
    | (simp; done)
    | ((repeat' split) <;> simp; done)
    | (dsimp only; (repeat' split) <;> simp; done)
    | (repeat' (first | (with_reducible rfl) | assumption | (simp; done) | (simp [*]; done) | split | (refine (foldl_store _ (fun _ _ => ?_) _ _).trans ?_) | (refine (foldl_store2 _ (fun _ _ => ?_) _ _).trans ?_) | (refine pair_store (by assumption) ?_) | (refine trip_store (by assumption) ?_) | (refine pair1_store (by assumption) ?_) | (dsimp only) | simp))

/-! ### RegRead -/

@[simp] theorem State.scacheState_store (s : State) (c : ℕ) : (State.scacheState s c).2.store =
    s.store := by
  unfold State.scacheState; dsimp only; (repeat' split) <;> simp

@[simp] theorem State.latchTime_store (s : State) : (State.latchTime s).store = s.store := (rfl)

@[simp] theorem State.regRead_store (s : State) (addr : BitVec 24) : (State.regRead s addr).2.store
    = s.store := by
  unfold State.regRead; split <;> simp

/-! ### RegWrite -/

@[simp] theorem State.writeIrq_store (s : State) (g : ℕ) (enable : Bool) (a : RegAccess) :
    (State.writeIrq s g enable a).store = s.store := by
  simp [State.writeIrq]

@[simp] theorem State.writeCore_store (s : State) (off : ℕ) (a : RegAccess) :
    (State.writeCore s off a).store = s.store := by
  unfold State.writeCore; split <;> simp

@[simp] theorem State.writePortCtx_store (s : State) (p : ℕ) (a : RegAccess) :
    (State.writePortCtx s p a).store = s.store := by
  simp [State.writePortCtx]

@[simp] theorem State.writeBurst_store (s : State) (p : ℕ) (a : RegAccess) :
    (State.writeBurst s p a).store = s.store := by
  simp [State.writeBurst]

@[simp] theorem State.writeMbox_store (s : State) (p : ℕ) (a : RegAccess) :
    (State.writeMbox s p a).store = s.store := by
  simp [State.writeMbox]

@[simp] theorem State.writeXbar_store (s : State) (off : ℕ) (a : RegAccess) :
    (State.writeXbar s off a).store = s.store := by
  simp [State.writeXbar]

@[simp] theorem State.enableRing_store (s : State) (n : ℕ) (v : ℕ) : (State.enableRing s n v).store
    = s.store := by
  simp [State.enableRing]

@[simp] theorem State.writeRingCfg_store (s : State) (n : ℕ) (a : RegAccess) :
    (State.writeRingCfg s n a).store = s.store := by
  simp [State.writeRingCfg]

@[simp] theorem State.writeProd_store (s : State) (n : ℕ) (a : RegAccess) :
    (State.writeProd s n a).store = s.store := by
  simp [State.writeProd]

@[simp] theorem State.writeReplyRd_store (s : State) (n : ℕ) (a : RegAccess) :
    (State.writeReplyRd s n a).store = s.store := by
  simp [State.writeReplyRd]

@[simp] theorem State.writeIdleRing_store (s : State) (n : ℕ) (f : Ring → Ring) :
    (State.writeIdleRing s n f).store = s.store := by
  simp [State.writeIdleRing]

@[simp] theorem State.writeRing_store (s : State) (n : ℕ) (i : ℕ) (a : RegAccess) :
    (State.writeRing s n i a).store = s.store := by
  unfold State.writeRing; split <;> simp

@[simp] theorem State.writeWindow_store (s : State) (sp : Bool) (i : ℕ) (a : RegAccess) : (State.writeWindow s sp i a).store = s.store := by
  unfold State.writeWindow
  first
    | rfl
    | (simp; done)
    | ((repeat' split) <;> simp; done)
    | (dsimp only; (repeat' split) <;> simp; done)
    | (repeat' (first | (with_reducible rfl) | assumption | (simp; done) | (simp [*]; done) | split | (refine (foldl_store _ (fun _ _ => ?_) _ _).trans ?_) | (refine (foldl_store2 _ (fun _ _ => ?_) _ _).trans ?_) | (refine pair_store (by assumption) ?_) | (refine trip_store (by assumption) ?_) | (refine pair1_store (by assumption) ?_) | (dsimp only) | simp))

@[simp] theorem State.writeCmd_store (s : State) (off : ℕ) (a : RegAccess) : (State.writeCmd s off a).store = s.store := by
  unfold State.writeCmd
  first
    | rfl
    | (simp; done)
    | ((repeat' split) <;> simp; done)
    | (dsimp only; (repeat' split) <;> simp; done)
    | (repeat' (first | (with_reducible rfl) | assumption | (simp; done) | (simp [*]; done) | split | (refine (foldl_store _ (fun _ _ => ?_) _ _).trans ?_) | (refine (foldl_store2 _ (fun _ _ => ?_) _ _).trans ?_) | (refine pair_store (by assumption) ?_) | (refine trip_store (by assumption) ?_) | (refine pair1_store (by assumption) ?_) | (dsimp only) | simp))

@[simp] theorem State.writeCluster_store (s : State) (c : ℕ) (off : ℕ) (a : RegAccess) :
    (State.writeCluster s c off a).store = s.store := by
  unfold State.writeCluster; split <;> simp

@[simp] theorem State.writeSafety_store (s : State) (off : ℕ) (a : RegAccess) : (State.writeSafety s off a).store = s.store := by
  unfold State.writeSafety
  first
    | rfl
    | (simp; done)
    | ((repeat' split) <;> simp; done)
    | (dsimp only; (repeat' split) <;> simp; done)
    | (repeat' (first | (with_reducible rfl) | assumption | (simp; done) | (simp [*]; done) | split | (refine (foldl_store _ (fun _ _ => ?_) _ _).trans ?_) | (refine (foldl_store2 _ (fun _ _ => ?_) _ _).trans ?_) | (refine pair_store (by assumption) ?_) | (refine trip_store (by assumption) ?_) | (refine pair1_store (by assumption) ?_) | (dsimp only) | simp))

@[simp] theorem State.regWrite_store (s : State) (a : RegAccess) : (State.regWrite s a).store = s.store := by
  unfold State.regWrite
  first
    | rfl
    | (simp; done)
    | ((repeat' split) <;> simp; done)
    | (dsimp only; (repeat' split) <;> simp; done)
    | (repeat' (first | (with_reducible rfl) | assumption | (simp; done) | (simp [*]; done) | split | (refine (foldl_store _ (fun _ _ => ?_) _ _).trans ?_) | (refine (foldl_store2 _ (fun _ _ => ?_) _ _).trans ?_) | (refine pair_store (by assumption) ?_) | (refine trip_store (by assumption) ?_) | (refine pair1_store (by assumption) ?_) | (dsimp only) | simp))

@[simp] theorem State.answerReg_store (s : State) (a : RegAccess) (data : ℕ) (st : RegStatus) :
    (State.answerReg s a data st).store = s.store := by
  simp [State.answerReg]

@[simp] theorem State.regParity_store (s : State) (a : RegAccess) : (State.regParity s a).store =
    s.store := by
  simp [State.regParity]

@[simp] theorem State.regReaches_store (s : State) (a : RegAccess) : (State.regReaches s a).store = s.store := by
  unfold State.regReaches
  first
    | rfl
    | (simp; done)
    | ((repeat' split) <;> simp; done)
    | (dsimp only; (repeat' split) <;> simp; done)
    | (repeat' (first | (with_reducible rfl) | assumption | (simp; done) | (simp [*]; done) | split | (refine (foldl_store _ (fun _ _ => ?_) _ _).trans ?_) | (refine (foldl_store2 _ (fun _ _ => ?_) _ _).trans ?_) | (refine pair_store (by assumption) ?_) | (refine trip_store (by assumption) ?_) | (refine pair1_store (by assumption) ?_) | (dsimp only) | simp))

@[simp] theorem State.regPerform_store (s : State) (a : RegAccess) : (State.regPerform s a).store = s.store := by
  unfold State.regPerform
  first
    | rfl
    | (simp; done)
    | ((repeat' split) <;> simp; done)
    | (dsimp only; (repeat' split) <;> simp; done)
    | (repeat' (first | (with_reducible rfl) | assumption | (simp; done) | (simp [*]; done) | split | (refine (foldl_store _ (fun _ _ => ?_) _ _).trans ?_) | (refine (foldl_store2 _ (fun _ _ => ?_) _ _).trans ?_) | (refine pair_store (by assumption) ?_) | (refine trip_store (by assumption) ?_) | (refine pair1_store (by assumption) ?_) | (dsimp only) | simp))

@[simp] theorem State.setRegQueue_store (s : State) (sp : Bool) (q : List RegAccess) :
    (State.setRegQueue s sp q).store = s.store := by
  simp [State.setRegQueue]

@[simp] theorem State.drainRegs_store (s : State) (sp : Bool) (y2 : ℕ) : (State.drainRegs s sp y2).store = s.store := by
  induction y2 generalizing s sp with
  | zero => (unfold State.drainRegs; (repeat' (first | (with_reducible rfl) | assumption | (simp; done) | (simp [*]; done) | split | (refine (foldl_store _ (fun _ _ => ?_) _ _).trans ?_) | (refine (foldl_store2 _ (fun _ _ => ?_) _ _).trans ?_) | (refine pair_store (by assumption) ?_) | (refine trip_store (by assumption) ?_) | (refine pair1_store (by assumption) ?_) | (dsimp only) | simp)))
  | succ n1 ih => (unfold State.drainRegs; (repeat' (first | (with_reducible rfl) | assumption | (simp; done) | (simp [*]; done) | split | (refine (foldl_store _ (fun _ _ => ?_) _ _).trans ?_) | (refine (foldl_store2 _ (fun _ _ => ?_) _ _).trans ?_) | (refine pair_store (by assumption) ?_) | (refine trip_store (by assumption) ?_) | (refine pair1_store (by assumption) ?_) | (dsimp only) | simp)))

@[simp] theorem State.drainBoth_store (s : State) : (State.drainBoth s).store = s.store := by
  unfold State.drainBoth
  first
    | rfl
    | (simp; done)
    | ((repeat' split) <;> simp; done)
    | (dsimp only; (repeat' split) <;> simp; done)
    | (repeat' (first | (with_reducible rfl) | assumption | (simp; done) | (simp [*]; done) | split | (refine (foldl_store _ (fun _ _ => ?_) _ _).trans ?_) | (refine (foldl_store2 _ (fun _ _ => ?_) _ _).trans ?_) | (refine pair_store (by assumption) ?_) | (refine trip_store (by assumption) ?_) | (refine pair1_store (by assumption) ?_) | (dsimp only) | simp))

/-! ### FwPolicy -/

@[simp] theorem State.policyThird_store (s : State) (g : ℕ) : (State.policyThird s g).store = s.store := by
  unfold State.policyThird
  split
  · simp
  · split <;> simp

@[simp] theorem State.dropStreak_store (s : State) (g : ℕ) (row : ℕ) (lane : ℕ) : (State.dropStreak s g row lane).store = s.store := by
  unfold State.dropStreak
  first
    | rfl
    | (simp; done)
    | ((repeat' split) <;> simp; done)
    | (dsimp only; (repeat' split) <;> simp; done)
    | (repeat' (first | (with_reducible rfl) | assumption | (simp; done) | (simp [*]; done) | split | (refine (foldl_store _ (fun _ _ => ?_) _ _).trans ?_) | (refine (foldl_store2 _ (fun _ _ => ?_) _ _).trans ?_) | (refine pair_store (by assumption) ?_) | (refine trip_store (by assumption) ?_) | (refine pair1_store (by assumption) ?_) | (dsimp only) | simp))

@[simp] theorem State.serveRequest_store (s : State) (c : ℕ) (b : ℕ) (spare : ℕ) :
    (State.serveRequest s c b spare).store = s.store := by
  simp [State.serveRequest]

@[simp] theorem State.rotate_store (s : State) (c : ℕ) : (State.rotate s c).store = s.store := by
  unfold State.rotate; split <;> simp

@[simp] theorem State.rotateNow_store (s : State) : (State.rotateNow s).store = s.store := by
  unfold State.rotateNow
  first
    | rfl
    | (simp; done)
    | ((repeat' split) <;> simp; done)
    | (dsimp only; (repeat' split) <;> simp; done)
    | (repeat' (first | (with_reducible rfl) | assumption | (simp; done) | (simp [*]; done) | split | (refine (foldl_store _ (fun _ _ => ?_) _ _).trans ?_) | (refine (foldl_store2 _ (fun _ _ => ?_) _ _).trans ?_) | (refine pair_store (by assumption) ?_) | (refine trip_store (by assumption) ?_) | (refine pair1_store (by assumption) ?_) | (dsimp only) | simp))

@[simp] theorem State.rotationStep_store (s : State) : (State.rotationStep s).store = s.store := by
  unfold State.rotationStep
  split
  · rfl
  · dsimp only
    split
    · simp
    · split <;> simp

@[simp] theorem State.analogCheck_store (s : State) (f : AnalogFound) : (State.analogCheck s f).store = s.store := by
  unfold State.analogCheck
  split
  · rfl
  extract_lets s1 s2 s3 s4 s5 unit s6 s7 s8 s9
  have hu : ∀ t c b, (unit t c b).store = t.store := by intro t c b; simp only [unit]; split <;> simp
  have h1 : s1.store = s.store := by simp [s1]
  have h2 : s2.store = s.store := by simp only [s2]; split <;> simp [h1]
  have h3 : s3.store = s.store := by simp [s3, h2]
  have h4 : s4.store = s.store := (foldl_store _ (fun _ _ => by simp) _ _).trans h3
  have h5 : s5.store = s.store := by simp [s5, h4]
  have h6 : s6.store = s.store := (hu _ _ _).trans h5
  have h7 : s7.store = s.store := (foldl_store _ (fun _ _ => hu _ _ _) _ _).trans h6
  have h8 : s8.store = s.store := (hu _ _ _).trans ((hu _ _ _).trans h7)
  have h9 : s9.store = s.store := (hu _ _ _).trans h8
  clear_value s9
  split
  · simp [h9]
  · exact h9

/-! ### Startup -/

@[simp] theorem State.loadRepair_store (s : State) (r : Repair) : (State.loadRepair s r).store =
    s.store := by
  simp [State.loadRepair]

@[simp] theorem State.loadRepairs_store (s : State) (rs : List Repair) (bad : BitVec 8) :
    (State.loadRepairs s rs bad).store = s.store := by
  unfold State.loadRepairs
  repeat' (first
    | (with_reducible rfl)
    | assumption
    | (simp; done)
    | (simp [*]; done)
    | split
    | (refine (foldl_store _ (fun _ _ => ?_) _ _).trans ?_)
    | (refine (foldl_store2 _ (fun _ _ => ?_) _ _).trans ?_)
    | (refine pair_store (by assumption) ?_)
    | (refine trip_store (by assumption) ?_)
    | (refine pair1_store (by assumption) ?_)
    | (dsimp only)
    | simp)

@[simp] theorem State.lostUnit_store (s : State) (c : ℕ) : (State.lostUnit s c).store = s.store := (rfl)

@[simp] theorem State.slotLost_store (s : State) (k : ℕ) : (State.slotLost s k).store = s.store := by
  unfold State.slotLost; dsimp only; (repeat' split) <;> simp

@[simp] theorem State.outOnce_store (s : State) (g : ℕ) : (State.outOnce s g).store = s.store := by
  simp [State.outOnce]

@[simp] theorem State.logUnit_store (s : State) (f : FaultInfo) : (State.logUnit s f).store = s.store := by
  unfold State.logUnit
  first
    | rfl
    | (simp; done)
    | ((repeat' split) <;> simp; done)
    | (dsimp only; (repeat' split) <;> simp; done)
    | (repeat' (first | (with_reducible rfl) | assumption | (simp; done) | (simp [*]; done) | split | (refine (foldl_store _ (fun _ _ => ?_) _ _).trans ?_) | (refine (foldl_store2 _ (fun _ _ => ?_) _ _).trans ?_) | (refine pair_store (by assumption) ?_) | (refine trip_store (by assumption) ?_) | (refine pair1_store (by assumption) ?_) | (dsimp only) | simp))

@[simp] theorem State.subLost_store (s : State) (n : ℕ) : (State.subLost s n).store = s.store := by
  simp [State.subLost]

@[simp] theorem State.badUnit_store (s : State) (i port : Nat) : (State.badUnit s i port).store = s.store := by
  unfold State.badUnit
  first
    | rfl
    | (simp; done)
    | ((repeat' split) <;> simp; done)
    | (dsimp only; (repeat' split) <;> simp; done)
    | (repeat' (first | (with_reducible rfl) | assumption | (simp; done) | (simp [*]; done) | split | (refine (foldl_store _ (fun _ _ => ?_) _ _).trans ?_) | (refine (foldl_store2 _ (fun _ _ => ?_) _ _).trans ?_) | (refine pair_store (by assumption) ?_) | (refine trip_store (by assumption) ?_) | (refine pair1_store (by assumption) ?_) | (dsimp only) | simp))

@[simp] theorem State.clusterLost_store (s : State) (c : ℕ) : (State.clusterLost s c).store =
    s.store := by
  unfold State.clusterLost
  repeat' (first
    | (with_reducible rfl)
    | assumption
    | (simp; done)
    | (simp [*]; done)
    | split
    | (refine (foldl_store _ (fun _ _ => ?_) _ _).trans ?_)
    | (refine (foldl_store2 _ (fun _ _ => ?_) _ _).trans ?_)
    | (refine pair_store (by assumption) ?_)
    | (refine trip_store (by assumption) ?_)
    | (refine pair1_store (by assumption) ?_)
    | (dsimp only)
    | simp)

@[simp] theorem State.consequences_store (s : State) (p : Post) : (State.consequences s p).store = s.store := by
  unfold State.consequences
  first
    | rfl
    | (simp; done)
    | ((repeat' split) <;> simp; done)
    | (dsimp only; (repeat' split) <;> simp; done)
    | (repeat' (first | (with_reducible rfl) | assumption | (simp; done) | (simp [*]; done) | split | (refine (foldl_store _ (fun _ _ => ?_) _ _).trans ?_) | (refine (foldl_store2 _ (fun _ _ => ?_) _ _).trans ?_) | (refine pair_store (by assumption) ?_) | (refine trip_store (by assumption) ?_) | (refine pair1_store (by assumption) ?_) | (dsimp only) | simp))

@[simp] theorem State.postFaults_store (s : State) (p : Post) : (State.postFaults s p).store = s.store := by
  unfold State.postFaults
  first
    | rfl
    | (simp; done)
    | ((repeat' split) <;> simp; done)
    | (dsimp only; (repeat' split) <;> simp; done)
    | (repeat' (first | (with_reducible rfl) | assumption | (simp; done) | (simp [*]; done) | split | (refine (foldl_store _ (fun _ _ => ?_) _ _).trans ?_) | (refine (foldl_store2 _ (fun _ _ => ?_) _ _).trans ?_) | (refine pair_store (by assumption) ?_) | (refine trip_store (by assumption) ?_) | (refine pair1_store (by assumption) ?_) | (dsimp only) | simp))

@[simp] theorem State.hardwareReady_store (s : State) (p : Post) : (State.hardwareReady s p).store = s.store := by
  unfold State.hardwareReady
  first
    | rfl
    | (simp; done)
    | ((repeat' split) <;> simp; done)
    | (dsimp only; (repeat' split) <;> simp; done)
    | (repeat' (first | (with_reducible rfl) | assumption | (simp; done) | (simp [*]; done) | split | (refine (foldl_store _ (fun _ _ => ?_) _ _).trans ?_) | (refine (foldl_store2 _ (fun _ _ => ?_) _ _).trans ?_) | (refine pair_store (by assumption) ?_) | (refine trip_store (by assumption) ?_) | (refine pair1_store (by assumption) ?_) | (dsimp only) | simp))

@[simp] theorem State.groupClock_store (s : State) (p : ℕ) (runs : Bool) :
    (State.groupClock s p runs).store = s.store := by
  simp [State.groupClock]

@[simp] theorem State.freeDr_store (s : State) : (State.freeDr s).store = s.store := by
  rfl

@[simp] theorem State.onOtp_store (s : State) (f : Otp → Otp) : (State.onOtp s f).store = s.store := (rfl)

/-! ### Monitor -/

@[simp] theorem State.onMon_store (s : State) (f : Mon → Mon) : (State.onMon s f).store = s.store := (rfl)

@[simp] theorem State.monAnswer_store (s : State) (xs : List MonItem) (st : Status) :
    (State.monAnswer s xs st).store = s.store := (rfl)

@[simp] theorem State.monNeeds_store (s : State) (cs : List ℕ) (cause : ℕ) (f : State → State)
    (hf : ∀ s0, (f s0).store = s0.store) : (State.monNeeds s cs cause f).store = s.store := by
  unfold State.monNeeds
  split
  · rw [hf]; exact foldl_store _ (fun _ _ => by simp) _ _
  · exact foldl_store _ (fun _ _ => by simp) _ _

@[simp] theorem State.monRegs_store (s : State) (addr : BitVec 24) (y2 : ℕ) :
    (State.monRegs s addr y2).2.store = s.store := by
  induction y2 generalizing s addr with
  | zero => (unfold State.monRegs; (repeat' (first | (with_reducible rfl) | assumption | (simp; done) | (simp [*]; done) | split | (refine (foldl_store _ (fun _ _ => ?_) _ _).trans ?_) | (refine (foldl_store2 _ (fun _ _ => ?_) _ _).trans ?_) | (refine pair_store (by assumption) ?_) | (refine trip_store (by assumption) ?_) | (refine pair1_store (by assumption) ?_) | (dsimp only) | simp)))
  | succ n1 ih => (unfold State.monRegs; (repeat' (first | (with_reducible rfl) | assumption | (simp; done) | (simp [*]; done) | split | (refine (foldl_store _ (fun _ _ => ?_) _ _).trans ?_) | (refine (foldl_store2 _ (fun _ _ => ?_) _ _).trans ?_) | (refine pair_store (by assumption) ?_) | (refine trip_store (by assumption) ?_) | (refine pair1_store (by assumption) ?_) | (dsimp only) | simp)))

@[simp] theorem State.monHelp_store (s : State) : (State.monHelp s).store = s.store := (rfl)

@[simp] theorem State.monPeekR_store (s : State) (addr : BitVec 24) (n : ℕ) :
    (State.monPeekR s addr n).store = s.store := by
  simp [State.monPeekR]

@[simp] theorem State.monPeekM_store (s : State) (a : ℕ) (n : ℕ) : (State.monPeekM s a n).store =
    s.store := by
  unfold State.monPeekM; (repeat' split) <;> simp

@[simp] theorem State.monPokeR_store (s : State) (addr : BitVec 24) (v : BitVec 32) : (State.monPokeR s addr v).store = s.store := by
  unfold State.monPokeR
  first
    | rfl
    | (simp; done)
    | ((repeat' split) <;> simp; done)
    | (dsimp only; (repeat' split) <;> simp; done)
    | (repeat' (first | (with_reducible rfl) | assumption | (simp; done) | (simp [*]; done) | split | (refine (foldl_store _ (fun _ _ => ?_) _ _).trans ?_) | (refine (foldl_store2 _ (fun _ _ => ?_) _ _).trans ?_) | (refine pair_store (by assumption) ?_) | (refine trip_store (by assumption) ?_) | (refine pair1_store (by assumption) ?_) | (dsimp only) | simp))

@[simp] theorem State.monFolds_store (s : State) (k : Option ℕ) : (State.monFolds s k).store =
    s.store := by
  unfold State.monFolds; dsimp only
  split <;> split <;>
    first
    | exact State.monAnswer_store _ _ _
    | exact State.monNeeds_store _ _ _ _ (fun _ => State.monAnswer_store _ _ _)

@[simp] theorem State.monLedger_store (s : State) (n : ℕ) : (State.monLedger s n).store = s.store := by
  simp [State.monLedger]

@[simp] theorem State.monRuns'_store (s : State) (y1 : List (ℕ × ℕ)) : (State.monRuns' s y1).2.store
    = s.store := by
  induction y1 generalizing s with
  | nil => (unfold State.monRuns'; (repeat' (first | (with_reducible rfl) | assumption | (simp; done) | (simp [*]; done) | split | (refine (foldl_store _ (fun _ _ => ?_) _ _).trans ?_) | (refine (foldl_store2 _ (fun _ _ => ?_) _ _).trans ?_) | (refine pair_store (by assumption) ?_) | (refine trip_store (by assumption) ?_) | (refine pair1_store (by assumption) ?_) | (dsimp only) | simp)))
  | cons a1 t1 ih => (unfold State.monRuns'; (repeat' (first | (with_reducible rfl) | assumption | (simp; done) | (simp [*]; done) | split | (refine (foldl_store _ (fun _ _ => ?_) _ _).trans ?_) | (refine (foldl_store2 _ (fun _ _ => ?_) _ _).trans ?_) | (refine pair_store (by assumption) ?_) | (refine trip_store (by assumption) ?_) | (refine pair1_store (by assumption) ?_) | (dsimp only) | simp)))

@[simp] theorem State.monStats_store (s : State) (group : ℕ) : (State.monStats s group).store =
    s.store := by
  simp [State.monStats]

@[simp] theorem State.monBaud_store (s : State) (rate : ℕ) : (State.monBaud s rate).store = s.store := by
  simp [State.monBaud]

/-! ### Tick -/

@[simp] theorem State.idleReset_store (s : State) : (State.idleReset s).store = s.store := by
  unfold State.idleReset
  repeat' (first
    | (with_reducible rfl)
    | assumption
    | (simp; done)
    | (simp [*]; done)
    | split
    | (refine (foldl_store _ (fun _ _ => ?_) _ _).trans ?_)
    | (refine (foldl_store2 _ (fun _ _ => ?_) _ _).trans ?_)
    | (refine pair_store (by assumption) ?_)
    | (refine trip_store (by assumption) ?_)
    | (refine pair1_store (by assumption) ?_)
    | (dsimp only)
    | simp)

@[simp] theorem State.idleCount_store (s : State) : (State.idleCount s).store = s.store := by
  unfold State.idleCount
  repeat' (first
    | (with_reducible rfl)
    | assumption
    | (simp; done)
    | (simp [*]; done)
    | split
    | (refine (foldl_store _ (fun _ _ => ?_) _ _).trans ?_)
    | (refine (foldl_store2 _ (fun _ _ => ?_) _ _).trans ?_)
    | (refine pair_store (by assumption) ?_)
    | (refine trip_store (by assumption) ?_)
    | (refine pair1_store (by assumption) ?_)
    | (dsimp only)
    | simp)

@[simp] theorem State.testTolls_store (s : State) : (State.testTolls s).store = s.store := by
  unfold State.testTolls
  repeat' (first
    | (with_reducible rfl)
    | assumption
    | (simp; done)
    | (simp [*]; done)
    | split
    | (refine (foldl_store _ (fun _ _ => ?_) _ _).trans ?_)
    | (refine (foldl_store2 _ (fun _ _ => ?_) _ _).trans ?_)
    | (refine pair_store (by assumption) ?_)
    | (refine trip_store (by assumption) ?_)
    | (refine pair1_store (by assumption) ?_)
    | (dsimp only)
    | simp)

@[simp] theorem State.ackEdge_store (s : State) : (State.ackEdge s).store = s.store := by
  simp [State.ackEdge]

@[simp] theorem State.blockA2_store (s : State) : (State.blockA2 s).store = s.store := by
  unfold State.blockA2
  first
    | rfl
    | (simp; done)
    | ((repeat' split) <;> simp; done)
    | (dsimp only; (repeat' split) <;> simp; done)
    | (repeat' (first | (with_reducible rfl) | assumption | (simp; done) | (simp [*]; done) | split | (refine (foldl_store _ (fun _ _ => ?_) _ _).trans ?_) | (refine (foldl_store2 _ (fun _ _ => ?_) _ _).trans ?_) | (refine pair_store (by assumption) ?_) | (refine trip_store (by assumption) ?_) | (refine pair1_store (by assumption) ?_) | (dsimp only) | simp))

@[simp] theorem State.tickStood_store (s : State) : (State.tickStood s).store = s.store := by
  unfold State.tickStood
  first
    | rfl
    | (simp; done)
    | ((repeat' split) <;> simp; done)
    | (dsimp only; (repeat' split) <;> simp; done)
    | (repeat' (first | (with_reducible rfl) | assumption | (simp; done) | (simp [*]; done) | split | (refine (foldl_store _ (fun _ _ => ?_) _ _).trans ?_) | (refine (foldl_store2 _ (fun _ _ => ?_) _ _).trans ?_) | (refine pair_store (by assumption) ?_) | (refine trip_store (by assumption) ?_) | (refine pair1_store (by assumption) ?_) | (dsimp only) | simp))

@[simp] theorem State.tickReport_store (s : State) : (State.tickReport s).store = s.store := by
  unfold State.tickReport
  first
    | rfl
    | (simp; done)
    | ((repeat' split) <;> simp; done)
    | (dsimp only; (repeat' split) <;> simp; done)
    | (repeat' (first | (with_reducible rfl) | assumption | (simp; done) | (simp [*]; done) | split | (refine (foldl_store _ (fun _ _ => ?_) _ _).trans ?_) | (refine (foldl_store2 _ (fun _ _ => ?_) _ _).trans ?_) | (refine pair_store (by assumption) ?_) | (refine trip_store (by assumption) ?_) | (refine pair1_store (by assumption) ?_) | (dsimp only) | simp))

/-! ### DataRows -/

@[simp] theorem State.fenceComplete_store (s : State) (id : ℕ) : (State.fenceComplete s id).store =
    s.store := by
  unfold State.fenceComplete; split <;> simp

@[simp] theorem State.acceptAt_store (s : State) (p : ℕ) (n : ℕ) : (State.acceptAt s p n).store = s.store := by
  unfold State.acceptAt
  first
    | rfl
    | (simp; done)
    | ((repeat' split) <;> simp; done)
    | (dsimp only; (repeat' split) <;> simp; done)
    | (repeat' (first | (with_reducible rfl) | assumption | (simp; done) | (simp [*]; done) | split | (refine (foldl_store _ (fun _ _ => ?_) _ _).trans ?_) | (refine (foldl_store2 _ (fun _ _ => ?_) _ _).trans ?_) | (refine pair_store (by assumption) ?_) | (refine trip_store (by assumption) ?_) | (refine pair1_store (by assumption) ?_) | (dsimp only) | simp))

@[simp] theorem State.transfer_store (s : State) (p : ℕ) : (State.transfer s p).store = s.store := by
  unfold State.transfer; (repeat' split) <;> simp

/-! ### EngineRows -/

@[simp] theorem State.wakeEnd_store (s : State) (c : ℕ) : (State.wakeEnd s c).store = s.store := by
  unfold State.wakeEnd
  first
    | rfl
    | (simp; done)
    | ((repeat' split) <;> simp; done)
    | (dsimp only; (repeat' split) <;> simp; done)
    | (repeat' (first | (with_reducible rfl) | assumption | (simp; done) | (simp [*]; done) | split | (refine (foldl_store _ (fun _ _ => ?_) _ _).trans ?_) | (refine (foldl_store2 _ (fun _ _ => ?_) _ _).trans ?_) | (refine pair_store (by assumption) ?_) | (refine trip_store (by assumption) ?_) | (refine pair1_store (by assumption) ?_) | (dsimp only) | simp))

@[simp] theorem State.waiterTimeout_store (s : State) (order : ℕ) :
    (State.waiterTimeout s order).store = s.store := (rfl)

@[simp] theorem State.foldStateUe_store (s : State) (c : ℕ) (i : ℕ) :
    (State.foldStateUe s c i).store = s.store := by
  simp [State.foldStateUe]

/-! ### Step -/

@[simp] theorem State.withFetchWord_store (s : State) (nbits : ℕ) (w : ℕ) : (State.withFetchWord s nbits w).store = s.store := by
  unfold State.withFetchWord
  first
    | rfl
    | (simp; done)
    | ((repeat' split) <;> simp; done)
    | (dsimp only; (repeat' split) <;> simp; done)
    | (repeat' (first | (with_reducible rfl) | assumption | (simp; done) | (simp [*]; done) | split | (refine (foldl_store _ (fun _ _ => ?_) _ _).trans ?_) | (refine (foldl_store2 _ (fun _ _ => ?_) _ _).trans ?_) | (refine pair_store (by assumption) ?_) | (refine trip_store (by assumption) ?_) | (refine pair1_store (by assumption) ?_) | (dsimp only) | simp))

end Sys2Proof.Machine
end

