-- ==== Sys2Proof/Laws/Canon.lean ====
section
/-!
SUPPORT. The canonical form of the memory (`Memory.wf`): every memory operation keeps it, and so
does every function of the machine that writes the arrays.
-/

set_option linter.all false

namespace Sys2Proof.Machine

def canon (p : List Host.Cell × (Nat → Option Byte)) : Prop := Memory.wf p.1 p.2 = true

theorem Memory.rising_iff (m : List Host.Cell) : Memory.rising m = true ↔ m.Pairwise (fun a b => a.1 < b.1) := by
  induction m with
  | nil => simp [Memory.rising]
  | cons a t ih =>
    cases t with
    | nil => simp [Memory.rising]
    | cons b r =>
      simp only [Memory.rising, Bool.and_eq_true, decide_eq_true_eq, ih]
      rw [List.pairwise_cons (a := a)]
      constructor
      · rintro ⟨h1, h2⟩
        refine ⟨?_, h2⟩
        intro c hc
        rcases List.mem_cons.1 hc with rfl | hc
        · exact h1
        · exact lt_trans h1 ((List.pairwise_cons.1 h2).1 c hc)
      · rintro ⟨h1, h2⟩
        exact ⟨h1 b (by simp), h2⟩
theorem Memory.mem_insert {m : List Host.Cell} {a : Nat} {b : Byte} {c : Host.Cell} (h : c ∈ Memory.insert m a b) :
    c = (a, b) ∨ c ∈ m := by
  induction m with
  | nil => simpa [Memory.insert] using h
  | cons x r ih =>
    unfold Memory.insert at h
    split at h
    · simpa using h
    · split at h
      · rcases List.mem_cons.1 h with h | h
        · exact .inl h
        · exact .inr (List.mem_cons_of_mem _ h)
      · rcases List.mem_cons.1 h with h | h
        · exact .inr (h ▸ List.mem_cons_self ..)
        · rcases ih h with h | h
          · exact .inl h
          · exact .inr (List.mem_cons_of_mem _ h)
theorem Memory.mem_erase {m : List Host.Cell} {a : Nat} {c : Host.Cell} (h : c ∈ Memory.erase m a) : c ∈ m := by
  induction m with
  | nil => simpa [Memory.erase] using h
  | cons x r ih =>
    unfold Memory.erase at h
    split at h
    · exact List.mem_cons_of_mem _ h
    · rcases List.mem_cons.1 h with h | h
      · exact h ▸ List.mem_cons_self ..
      · exact List.mem_cons_of_mem _ (ih h)
theorem Memory.pairwise_insert {m : List Host.Cell} (a : Nat) (b : Byte) (h : m.Pairwise (fun a b => a.1 < b.1)) :
    (Memory.insert m a b).Pairwise (fun a b => a.1 < b.1) := by
  induction m with
  | nil => simp [Memory.insert]
  | cons x r ih =>
    obtain ⟨j, c⟩ := x
    obtain ⟨h1, h2⟩ := List.pairwise_cons.1 h
    unfold Memory.insert
    split
    · rename_i hl
      refine List.pairwise_cons.2 ⟨?_, h⟩
      intro y hy
      rcases List.mem_cons.1 hy with rfl | hy
      · exact hl
      · exact lt_trans hl (h1 y hy)
    · split
      · rename_i he; subst he
        exact List.pairwise_cons.2 ⟨h1, h2⟩
      · rename_i hn he
        refine List.pairwise_cons.2 ⟨?_, ih h2⟩
        intro y hy
        rcases Memory.mem_insert hy with rfl | hy
        · simp only; omega
        · exact h1 y hy
theorem Memory.pairwise_erase {m : List Host.Cell} (a : Nat) (h : m.Pairwise (fun a b => a.1 < b.1)) :
    (Memory.erase m a).Pairwise (fun a b => a.1 < b.1) := by
  induction m with
  | nil => simp [Memory.erase]
  | cons x r ih =>
    obtain ⟨h1, h2⟩ := List.pairwise_cons.1 h
    unfold Memory.erase
    split
    · exact h2
    · exact List.pairwise_cons.2 ⟨fun y hy => h1 y (Memory.mem_erase hy), ih h2⟩
theorem Memory.wf_iff (m : List Host.Cell) (d : Nat → Option Byte) :
    Memory.wf m d = true ↔ m.Pairwise (fun a b => a.1 < b.1) ∧ ∀ c ∈ m, d c.1 ≠ some c.2 := by
  simp [Memory.wf, Memory.rising_iff]
theorem Memory.wf_write {m : List Host.Cell} {d : Nat → Option Byte} (a : Nat) (b : Byte) (h : Memory.wf m d = true) :
    Memory.wf (Memory.write m (d a) a b) d = true := by
  rw [Memory.wf_iff] at *
  unfold Memory.write
  split
  · exact ⟨Memory.pairwise_erase a h.1, fun c hc => h.2 c (Memory.mem_erase hc)⟩
  · rename_i hd
    refine ⟨Memory.pairwise_insert a b h.1, fun c hc => ?_⟩
    rcases Memory.mem_insert hc with rfl | hc
    · exact hd
    · exact h.2 c hc
@[simp] theorem State.setSymbol_canon (s : State) (a : Nat) (b : Byte) (h : canon s.store) : canon (s.setSymbol a b).store :=
  Memory.wf_write a b h
theorem Memory.wf_filter {m : List Host.Cell} {d d2 : Nat → Option Byte} (p : Host.Cell → Bool) (h : Memory.wf m d = true)
    (hd : ∀ c ∈ m, p c = true → d2 c.1 = d c.1) : Memory.wf (m.filter p) d2 = true := by
  rw [Memory.wf_iff] at *
  refine ⟨h.1.filter p, fun c hc => ?_⟩
  have hm := List.mem_filter.1 hc
  rw [hd c hm.1 hm.2]; exact h.2 c hm.1
theorem unlisted_slot {s t : State} {a : Nat} (hz : (t.slot (a / (slotRows * 144))).bufZero = (s.slot (a / (slotRows * 144))).bufZero)
    (h : 16448 ≤ a / 144 % slotRows ∨ (t.slot (a / (slotRows * 144))).zeroFor = (s.slot (a / (slotRows * 144))).zeroFor) :
    t.unlisted a = s.unlisted a := by
  unfold State.unlisted; dsimp only
  rw [hz]
  rcases h with h | h
  · simp [h]
  · rw [h]
@[simp] theorem State.zeroSlot_canon (s : State) (k g : Nat) (h : canon s.store) : canon (s.zeroSlot k g).store := by
  refine Memory.wf_filter (d := s.unlisted) _ h fun c hc hp => ?_
  unfold inSlotRows cellAddr slotRows at hp
  simp only [Bool.not_eq_true', Bool.and_eq_false_iff, decide_eq_false_iff_not, not_le, not_lt] at hp
  unfold State.zeroSlot
  apply unlisted_slot
  · rw [State.slot_onSlot]; split
    · rename_i e; rw [e]; rfl
    · rfl
  · rw [State.slot_onSlot]; split
    · rename_i e; left; unfold slotRows at *; omega
    · exact .inr rfl
theorem canon_nil (s : State) (h : s.mem = []) : canon s.store := by
  unfold canon State.store; rw [h]; rfl

@[simp] theorem State.inReset_canon (s : State) : canon s.inReset.store := canon_nil _ rfl
theorem foldl_canon {α : Type} (g : State → α → State) (h : ∀ s a, canon s.store → canon (g s a).store) (l : List α) (s : State) (hs : canon s.store) : canon (l.foldl g s).store := by
  induction l generalizing s with
  | nil => exact hs
  | cons a l ih => exact ih _ (h _ _ hs)
theorem foldl_canon2 {α β : Type} (g : β × State → α → β × State) (h : ∀ s a, canon s.2.store → canon (g s a).2.store) (l : List α) (s : β × State) (hs : canon s.2.store) : canon (l.foldl g s).2.store := by
  induction l generalizing s with
  | nil => exact hs
  | cons a l ih => exact ih _ (h _ _ hs)
theorem pair_canon {α : Type} {p : α × State} {a : α} {t : State} (h : p = (a, t)) (hp : canon p.2.store) : canon t.store := by
  subst h; exact hp
theorem trip_canon {α β : Type} {p : α × β × State} {a : α} {b : β} {t : State} (h : p = (a, b, t)) (hp : canon p.2.2.store) : canon t.store := by
  subst h; exact hp
theorem pair1_canon {α : Type} {p : State × α} {a : α} {t : State} (h : p = (t, a)) (hp : canon p.1.store) : canon t.store := by
  subst h; exact hp

/-! ### Storage -/

@[simp] theorem State.putWord_canon (s : State) (k : ℕ) (prow : ℕ → ℕ) (g : ℕ) (w : List ℕ)
    (h : canon s.store) : canon (State.putWord s k prow g w).store := by
  unfold State.putWord; (repeat' (first | assumption | (simp; done) | (simp [*]; done) | split | (refine foldl_canon _ (fun _ _ h0 => ?_) _ _ ?_) | (refine foldl_canon2 _ (fun _ _ h0 => ?_) _ _ ?_) | (refine pair_canon (by assumption) ?_) | (refine trip_canon (by assumption) ?_) | (refine pair1_canon (by assumption) ?_) | (dsimp only) | (simp (disch := first | assumption | (refine pair_canon (by assumption) ?_; simp [*]; done) | (refine trip_canon (by assumption) ?_; simp [*]; done) | (simp [*]; done)); done) | simp))

@[simp] theorem State.putGranule_canon (s : State) (bank : ℕ) (row : ℕ) (g : ℕ) (w : List ℕ)
    (h : canon s.store) : canon (State.putGranule s bank row g w).store := by
  unfold State.putGranule; dsimp only; (repeat' split) <;> simp [*]

@[simp] theorem State.storeGranule_canon (s : State) (bank : ℕ) (row : ℕ) (g : ℕ) (d : BitVec 256)
    (bad : Bool) (h : canon s.store) : canon (State.storeGranule s bank row g d bad).store := by
  simp [State.storeGranule, *]

@[simp] theorem State.mergeGranule_canon (s : State) (bank : ℕ) (row : ℕ) (g : ℕ) (new : BitVec 256)
    (mask : BitVec 256) (h : canon s.store) : canon
    (State.mergeGranule s bank row g new mask).2.store := by
  unfold State.mergeGranule
  have h1 : canon (s.readGranule bank row g).2.store := by simp [h]
  generalize s.readGranule bank row g = w at *
  obtain ⟨d, u⟩ := w
  dsimp only at *
  split <;> simp [h1]

/-! ### Address -/

@[simp] theorem State.writeGranule_canon (s : State) (bank : ℕ) (row : ℕ) (g : ℕ) (new : BitVec 256)
    (mask : BitVec 256) (bad : Bool) (h : canon s.store) : canon
    (State.writeGranule s bank row g new mask bad).2.store := by
  unfold State.writeGranule; (repeat' split) <;> simp [*]

@[simp] theorem State.writeParts_canon (s : State) (data : List Byte) (y2 : List (ℕ × ℕ))
    (h : canon s.store) : canon (State.writeParts s data y2).2.2.store := by
  induction y2 generalizing s data h with
  | nil => (unfold State.writeParts; (repeat' (first | assumption | (simp; done) | (simp [*]; done) | split | (refine foldl_canon _ (fun _ _ h0 => ?_) _ _ ?_) | (refine foldl_canon2 _ (fun _ _ h0 => ?_) _ _ ?_) | (refine pair_canon (by assumption) ?_) | (refine trip_canon (by assumption) ?_) | (refine pair1_canon (by assumption) ?_) | (dsimp only) | (simp (disch := first | assumption | (refine pair_canon (by assumption) ?_; simp [*]; done) | (refine trip_canon (by assumption) ?_; simp [*]; done) | (simp [*]; done)); done) | simp)))
  | cons a1 t1 ih => (unfold State.writeParts; (repeat' (first | assumption | (simp; done) | (simp [*]; done) | split | (refine foldl_canon _ (fun _ _ h0 => ?_) _ _ ?_) | (refine foldl_canon2 _ (fun _ _ h0 => ?_) _ _ ?_) | (refine pair_canon (by assumption) ?_) | (refine trip_canon (by assumption) ?_) | (refine pair1_canon (by assumption) ?_) | (dsimp only) | (simp (disch := first | assumption | (refine pair_canon (by assumption) ?_; simp [*]; done) | (refine trip_canon (by assumption) ?_; simp [*]; done) | (simp [*]; done)); done) | simp)))

@[simp] theorem State.writeRange_canon (s : State) (a : ℕ) (data : List Byte) (h : canon s.store) :
    canon (State.writeRange s a data).2.2.store := by
  simp [State.writeRange, *]

/-! ### Service -/

@[simp] theorem State.storeFlipped_canon (s : State) (x : Piece) (g : ℕ) (d : BitVec 256)
    (bad : Bool) (h : canon s.store) : canon (State.storeFlipped s x g d bad).store := by
  unfold State.storeFlipped; dsimp only; (repeat' split) <;> simp [*]

@[simp] theorem State.writeOne_canon (s : State) (x : Piece)
    (old : Option (List (BitVec 256 × Bool))) (ps : List Put) (g : ℕ) (h : canon s.store) : canon
    (State.writeOne s x old ps g).2.store := by
  unfold State.writeOne; dsimp only; (repeat' split) <;> simp [*]

@[simp] theorem State.writeAll_canon (s : State) (x : Piece)
    (old : Option (List (BitVec 256 × Bool))) (ps : List Put) (y4 : List ℕ) (h : canon s.store) :
    canon (State.writeAll s x old ps y4).2.store := by
  induction y4 generalizing s x old ps h with
  | nil => (unfold State.writeAll; (repeat' (first | assumption | (simp; done) | (simp [*]; done) | split | (refine foldl_canon _ (fun _ _ h0 => ?_) _ _ ?_) | (refine foldl_canon2 _ (fun _ _ h0 => ?_) _ _ ?_) | (refine pair_canon (by assumption) ?_) | (refine trip_canon (by assumption) ?_) | (refine pair1_canon (by assumption) ?_) | (dsimp only) | (simp (disch := first | assumption | (refine pair_canon (by assumption) ?_; simp [*]; done) | (refine trip_canon (by assumption) ?_; simp [*]; done) | (simp [*]; done)); done) | simp)))
  | cons a1 t1 ih => (unfold State.writeAll; (repeat' (first | assumption | (simp; done) | (simp [*]; done) | split | (refine foldl_canon _ (fun _ _ h0 => ?_) _ _ ?_) | (refine foldl_canon2 _ (fun _ _ h0 => ?_) _ _ ?_) | (refine pair_canon (by assumption) ?_) | (refine trip_canon (by assumption) ?_) | (refine pair1_canon (by assumption) ?_) | (dsimp only) | (simp (disch := first | assumption | (refine pair_canon (by assumption) ?_; simp [*]; done) | (refine trip_canon (by assumption) ?_; simp [*]; done) | (simp [*]; done)); done) | simp)))

@[simp] theorem State.storeMade_canon (s : State) (bank : ℕ) (row : ℕ) (m : RowMade) (h : canon s.store) : canon (State.storeMade s bank row m).store := by
  unfold State.storeMade
  first
    | (simp [*]; done)
    | ((repeat' split) <;> simp [*]; done)
    | (dsimp only; (repeat' split) <;> simp [*]; done)
    | (repeat' (first | assumption | (simp; done) | (simp [*]; done) | split | (refine foldl_canon _ (fun _ _ h0 => ?_) _ _ ?_) | (refine foldl_canon2 _ (fun _ _ h0 => ?_) _ _ ?_) | (refine pair_canon (by assumption) ?_) | (refine trip_canon (by assumption) ?_) | (refine pair1_canon (by assumption) ?_) | (dsimp only) | (simp (disch := first | assumption | (refine pair_canon (by assumption) ?_; simp [*]; done) | (refine trip_canon (by assumption) ?_; simp [*]; done) | (simp [*]; done)); done) | simp))

@[simp] theorem State.storeAdds_canon (s : State) (x : Piece) (old : List (BitVec 256 × Bool)) (h : canon s.store) : canon (State.storeAdds s x old).store := by
  unfold State.storeAdds
  first
    | (simp [*]; done)
    | ((repeat' split) <;> simp [*]; done)
    | (dsimp only; (repeat' split) <;> simp [*]; done)
    | (repeat' (first | assumption | (simp; done) | (simp [*]; done) | split | (refine foldl_canon _ (fun _ _ h0 => ?_) _ _ ?_) | (refine foldl_canon2 _ (fun _ _ h0 => ?_) _ _ ?_) | (refine pair_canon (by assumption) ?_) | (refine trip_canon (by assumption) ?_) | (refine pair1_canon (by assumption) ?_) | (dsimp only) | (simp (disch := first | assumption | (refine pair_canon (by assumption) ?_; simp [*]; done) | (refine trip_canon (by assumption) ?_; simp [*]; done) | (simp [*]; done)); done) | simp))

@[simp] theorem State.storeStep_canon (s : State) (x : Piece) (old : List (BitVec 256 × Bool)) (h : canon s.store) : canon (State.storeStep s x old).store := by
  unfold State.storeStep
  first
    | (simp [*]; done)
    | ((repeat' split) <;> simp [*]; done)
    | (dsimp only; (repeat' split) <;> simp [*]; done)
    | (repeat' (first | assumption | (simp; done) | (simp [*]; done) | split | (refine foldl_canon _ (fun _ _ h0 => ?_) _ _ ?_) | (refine foldl_canon2 _ (fun _ _ h0 => ?_) _ _ ?_) | (refine pair_canon (by assumption) ?_) | (refine trip_canon (by assumption) ?_) | (refine pair1_canon (by assumption) ?_) | (dsimp only) | (simp (disch := first | assumption | (refine pair_canon (by assumption) ?_; simp [*]; done) | (refine trip_canon (by assumption) ?_; simp [*]; done) | (simp [*]; done)); done) | simp))

@[simp] theorem State.storeRecords_canon (s : State) (x : Piece) (old : List (BitVec 256 × Bool)) (h : canon s.store) : canon (State.storeRecords s x old).store := by
  unfold State.storeRecords
  first
    | (simp [*]; done)
    | ((repeat' split) <;> simp [*]; done)
    | (dsimp only; (repeat' split) <;> simp [*]; done)
    | (repeat' (first | assumption | (simp; done) | (simp [*]; done) | split | (refine foldl_canon _ (fun _ _ h0 => ?_) _ _ ?_) | (refine foldl_canon2 _ (fun _ _ h0 => ?_) _ _ ?_) | (refine pair_canon (by assumption) ?_) | (refine trip_canon (by assumption) ?_) | (refine pair1_canon (by assumption) ?_) | (dsimp only) | (simp (disch := first | assumption | (refine pair_canon (by assumption) ?_; simp [*]; done) | (refine trip_canon (by assumption) ?_; simp [*]; done) | (simp [*]; done)); done) | simp))

@[simp] theorem State.storeRow_canon (s : State) (x : Piece) (merge : Option (List (BitVec 256 × Bool))) (ps : List Put) (h : canon s.store) : canon (State.storeRow s x merge ps).2.store := by
  unfold State.storeRow
  first
    | (simp [*]; done)
    | ((repeat' split) <;> simp [*]; done)
    | (dsimp only; (repeat' split) <;> simp [*]; done)
    | (repeat' (first | assumption | (simp; done) | (simp [*]; done) | split | (refine foldl_canon _ (fun _ _ h0 => ?_) _ _ ?_) | (refine foldl_canon2 _ (fun _ _ h0 => ?_) _ _ ?_) | (refine pair_canon (by assumption) ?_) | (refine trip_canon (by assumption) ?_) | (refine pair1_canon (by assumption) ?_) | (dsimp only) | (simp (disch := first | assumption | (refine pair_canon (by assumption) ?_; simp [*]; done) | (refine trip_canon (by assumption) ?_; simp [*]; done) | (simp [*]; done)); done) | simp))

@[simp] theorem State.storePiece_canon (s : State) (x : Piece) (merge : Option (List (BitVec 256 × Bool))) (h : canon s.store) : canon (State.storePiece s x merge).2.store := by
  unfold State.storePiece
  first
    | (simp [*]; done)
    | ((repeat' split) <;> simp [*]; done)
    | (dsimp only; (repeat' split) <;> simp [*]; done)
    | (repeat' (first | assumption | (simp; done) | (simp [*]; done) | split | (refine foldl_canon _ (fun _ _ h0 => ?_) _ _ ?_) | (refine foldl_canon2 _ (fun _ _ h0 => ?_) _ _ ?_) | (refine pair_canon (by assumption) ?_) | (refine trip_canon (by assumption) ?_) | (refine pair1_canon (by assumption) ?_) | (dsimp only) | (simp (disch := first | assumption | (refine pair_canon (by assumption) ?_; simp [*]; done) | (refine trip_canon (by assumption) ?_; simp [*]; done) | (simp [*]; done)); done) | simp))

@[simp] theorem State.finishWrite_canon (s : State) (bank : ℕ) (h : canon s.store) : canon
    (State.finishWrite s bank).store := by
  unfold State.finishWrite; split <;> simp [*]

@[simp] theorem State.lowerFirst_canon (s : State) (bank : ℕ) (h : canon s.store) : canon (State.lowerFirst s bank).store := by
  unfold State.lowerFirst
  first
    | (simp [*]; done)
    | ((repeat' split) <;> simp [*]; done)
    | (dsimp only; (repeat' split) <;> simp [*]; done)
    | (repeat' (first | assumption | (simp; done) | (simp [*]; done) | split | (refine foldl_canon _ (fun _ _ h0 => ?_) _ _ ?_) | (refine foldl_canon2 _ (fun _ _ h0 => ?_) _ _ ?_) | (refine pair_canon (by assumption) ?_) | (refine trip_canon (by assumption) ?_) | (refine pair1_canon (by assumption) ?_) | (dsimp only) | (simp (disch := first | assumption | (refine pair_canon (by assumption) ?_; simp [*]; done) | (refine trip_canon (by assumption) ?_; simp [*]; done) | (simp [*]; done)); done) | simp))

@[simp] theorem State.writeSlot_canon (s : State) (bank : ℕ) (h : canon s.store) : canon
    (State.writeSlot s bank).store := by
  unfold State.writeSlot; dsimp only; (repeat' split) <;> simp [*]

/-! ### Shell -/

@[simp] theorem State.initWrite_canon (s : State) (a : ℕ) (data : List Byte) (h : canon s.store) :
    canon (State.initWrite s a data).store := by
  simp [State.initWrite, *]

def Body.keepsMem (b : Body) : Prop := ∀ n c t, canon t.store → canon (b.act n c t).state.store

@[simp] theorem State.start_canon (s : State) (b : Body) (token since : ℕ) (half : Option Bool) (c : Cmd) (hb : b.keepsMem) (h : canon s.store) :
    canon (State.start s b token since half c).store := by
  unfold State.start
  extract_lets s1
  have h1 : canon s1.store := foldl_canon _ (fun _ _ h0 => by rw [State.wakeCluster_store]; exact h0) _ _ h
  clear_value s1
  split
  · dsimp only; rw [State.onCmd_store, State.askRead_store]; exact h1
  · rename_i s2 _ _
    have h2 : canon s2.store := by
      simp only [s2]; split
      · rw [State.defer_store]; exact h1
      · exact h1
    have h3 := hb token c s2 h2
    split
    · rename_i e; rw [e] at h3; rw [State.finish_store]; exact h3
    · rename_i e; rw [e] at h3; exact h3

@[simp] theorem State.begin_canon (s : State) (b : Body) (token since : ℕ) (queued : Option Bool) (why : Option WaitFor) (c : Cmd) (hb : b.keepsMem) (h : canon s.store) :
    canon (State.begin s b token since queued why c).store := by
  unfold State.begin
  split
  · rw [State.refuse_store]; exact h
  split
  · rw [State.refuse_store, State.count64_store]; exact h
  split
  · refine foldl_canon _ (fun _ _ h0 => ?_) _ _ ?_
    · rw [State.wakeCluster_store]; exact h0
    · rw [State.awaitStart_store]; exact h
  · exact State.start_canon _ _ _ _ _ _ hb h

@[simp] theorem State.accept_canon (s : State) (b : Option Body) (c : Cmd) (hb : ∀ x, b = some x → x.keepsMem) (h : canon s.store) : canon (State.accept s b c).store := by
  unfold State.accept
  extract_lets token s1
  have h1 : canon s1.store := by simp only [s1]; rw [State.onCmd_store]; exact h
  clear_value s1
  split
  · rw [State.finish_store]; exact h1
  split
  · exact h1
  · have hk := hb _ rfl
    split
    · rw [State.awaitStart_store]; exact h1
    split
    · rw [State.awaitStart_store]; exact h1
    · exact State.begin_canon _ _ _ _ _ _ _ hk h1

@[simp] theorem State.resume_canon (s : State) (b : Body) (w : Waiting) (hb : b.keepsMem) (h : canon s.store) : canon (State.resume s b w).store := by
  unfold State.resume
  exact State.begin_canon _ _ _ _ _ _ _ hb (by rw [State.onCmd_store]; exact h)

theorem State.readOver_canon {s t : State} {find : ℕ → Option Body} {w : Waiting}
    (hf : ∀ op b, find op = some b → ∀ g n c t, canon t.store → canon (b.actGot g n c t).state.store)
    (h : s.readOver find w = some t) (hs : canon s.store) : canon t.store := by
  unfold State.readOver at h
  split at h
  · rename_i id b hw hb
    split at h
    · rename_i rs a n _ _
      dsimp only at h
      have h2 : canon ((s.takeAnswers id).onCmd fun k =>
          { k with waiting := k.waiting.filter (fun x => x.token != w.token) }).store := by
        rw [State.onCmd_store, State.takeAnswers_store]; exact hs
      split at h
      · cases h; rw [State.refuse_store]; exact h2
      split at h
      · cases h; rw [State.refuse_store]; exact h2
      · have h3 := hf _ _ hb (gotOf rs a n) w.token w.cmd _ h2
        split at h
        · rename_i e; rw [e] at h3; cases h; rw [State.finish_store]; exact h3
        · rename_i e; rw [e] at h3; cases h; exact h3
    · cases h
  · cases h

@[simp] theorem State.startAfterPrev_canon (s : State) (find : ℕ → Option Body) (token : ℕ) (hf : ∀ op b, find op = some b → b.keepsMem) (h : canon s.store) :
    canon (State.startAfterPrev s find token).store := by
  unfold State.startAfterPrev
  split
  · split
    · split
      · exact State.resume_canon _ _ _ (hf _ _ (by assumption)) h
      · exact h
    · exact h
  · exact h

/-! ### Links -/

@[simp] theorem State.discardHeld_canon (s : State) (p : HeldOp → Bool) (g : State → HeldOp → State) (hg : ∀ s0 x0, canon s0.store → canon (g s0 x0).store) (h : canon s.store) : canon (State.discardHeld s p g).store := by
  unfold State.discardHeld
  first
    | (simp [*]; done)
    | ((repeat' split) <;> simp [*]; done)
    | (dsimp only; (repeat' split) <;> simp [*]; done)
    | (repeat' (first | assumption | (simp; done) | (simp [*]; done) | split | (refine foldl_canon _ (fun _ _ h0 => ?_) _ _ ?_) | (refine foldl_canon2 _ (fun _ _ h0 => ?_) _ _ ?_) | (refine pair_canon (by assumption) ?_) | (refine trip_canon (by assumption) ?_) | (refine pair1_canon (by assumption) ?_) | (dsimp only) | (simp (disch := first | assumption | (refine pair_canon (by assumption) ?_; simp [*]; done) | (refine trip_canon (by assumption) ?_; simp [*]; done) | (simp [*]; done)); done) | simp))

/-! ### CmdAddr -/

@[simp] theorem State.reply_canon (s : State) (c : Cmd) (toMem : Bool) (addr : ℕ) (bs : List Byte)
    (h : canon s.store) : canon (State.reply s c toMem addr bs).store := by
  unfold State.reply; (repeat' split) <;> simp [*]

@[simp] theorem State.viewStats_canon (s : State) (c : Cmd) (h : canon s.store) : canon
    (State.viewStats s c).store := by
  unfold State.viewStats; dsimp only; (repeat' split) <;> simp [*]

@[simp] theorem State.epochSettle_canon (s : State) (id : ℕ) (h : canon s.store) : canon
    (State.epochSettle s id).store := by
  unfold State.epochSettle; (repeat' split) <;> simp [*]

/-! ### CmdFold -/

@[simp] theorem State.dumpToMemory_canon (s : State) (d : Dump) (h : canon s.store) : canon (State.dumpToMemory s d).store := by
  unfold State.dumpToMemory
  first
    | (simp [*]; done)
    | ((repeat' split) <;> simp [*]; done)
    | (dsimp only; (repeat' split) <;> simp [*]; done)
    | (repeat' (first | assumption | (simp; done) | (simp [*]; done) | split | (refine foldl_canon _ (fun _ _ h0 => ?_) _ _ ?_) | (refine foldl_canon2 _ (fun _ _ h0 => ?_) _ _ ?_) | (refine pair_canon (by assumption) ?_) | (refine trip_canon (by assumption) ?_) | (refine pair1_canon (by assumption) ?_) | (dsimp only) | (simp (disch := first | assumption | (refine pair_canon (by assumption) ?_; simp [*]; done) | (refine trip_canon (by assumption) ?_; simp [*]; done) | (simp [*]; done)); done) | simp))

@[simp] theorem State.dumpStep_canon (s : State) (d : Dump) (h : canon s.store) : canon
    (State.dumpStep s d).store := by
  unfold State.dumpStep; (repeat' split) <;> simp [*]

@[simp] theorem State.foldDumpRecord_canon (s : State) (h : canon s.store) : canon
    (State.foldDumpRecord s).store := by
  unfold State.foldDumpRecord; (repeat' split) <;> simp [*]

/-! ### Neurons -/

@[simp] theorem State.bufferWork_canon (s : State) (x : Piece) (h : canon s.store) : canon (State.bufferWork s x).store := by
  unfold State.bufferWork
  first
    | (simp [*]; done)
    | ((repeat' split) <;> simp [*]; done)
    | (dsimp only; (repeat' split) <;> simp [*]; done)
    | (repeat' (first | assumption | (simp; done) | (simp [*]; done) | split | (refine foldl_canon _ (fun _ _ h0 => ?_) _ _ ?_) | (refine foldl_canon2 _ (fun _ _ h0 => ?_) _ _ ?_) | (refine pair_canon (by assumption) ?_) | (refine trip_canon (by assumption) ?_) | (refine pair1_canon (by assumption) ?_) | (dsimp only) | (simp (disch := first | assumption | (refine pair_canon (by assumption) ?_; simp [*]; done) | (refine trip_canon (by assumption) ?_; simp [*]; done) | (simp [*]; done)); done) | simp))

@[simp] theorem State.bufferAll_canon (s : State) (y1 : List Piece) (h : canon s.store) : canon (State.bufferAll s y1).2.store := by
  induction y1 generalizing s h with
  | nil => (unfold State.bufferAll; (repeat' (first | assumption | (simp; done) | (simp [*]; done) | split | (refine foldl_canon _ (fun _ _ h0 => ?_) _ _ ?_) | (refine foldl_canon2 _ (fun _ _ h0 => ?_) _ _ ?_) | (refine pair_canon (by assumption) ?_) | (refine trip_canon (by assumption) ?_) | (refine pair1_canon (by assumption) ?_) | (dsimp only) | (simp (disch := first | assumption | (refine pair_canon (by assumption) ?_; simp [*]; done) | (refine trip_canon (by assumption) ?_; simp [*]; done) | (simp [*]; done)); done) | simp)))
  | cons a1 t1 ih => (unfold State.bufferAll; (repeat' (first | assumption | (simp; done) | (simp [*]; done) | split | (refine foldl_canon _ (fun _ _ h0 => ?_) _ _ ?_) | (refine foldl_canon2 _ (fun _ _ h0 => ?_) _ _ ?_) | (refine pair_canon (by assumption) ?_) | (refine trip_canon (by assumption) ?_) | (refine pair1_canon (by assumption) ?_) | (dsimp only) | (simp (disch := first | assumption | (refine pair_canon (by assumption) ?_; simp [*]; done) | (refine trip_canon (by assumption) ?_; simp [*]; done) | (simp [*]; done)); done) | simp)))

@[simp] theorem State.runReady_canon (s : State) (c : ℕ) (r : SpikeRun) (p : Pop) (adds : List (ℕ × ℤ)) (h : canon s.store) : canon (State.runReady s c r p adds).2.store := by
  unfold State.runReady
  first
    | (simp [*]; done)
    | ((repeat' split) <;> simp [*]; done)
    | (dsimp only; (repeat' split) <;> simp [*]; done)
    | (repeat' (first | assumption | (simp; done) | (simp [*]; done) | split | (refine foldl_canon _ (fun _ _ h0 => ?_) _ _ ?_) | (refine foldl_canon2 _ (fun _ _ h0 => ?_) _ _ ?_) | (refine pair_canon (by assumption) ?_) | (refine trip_canon (by assumption) ?_) | (refine pair1_canon (by assumption) ?_) | (dsimp only) | (simp (disch := first | assumption | (refine pair_canon (by assumption) ?_; simp [*]; done) | (refine trip_canon (by assumption) ?_; simp [*]; done) | (simp [*]; done)); done) | simp))

@[simp] theorem State.moveRun_canon (s : State) (c : ℕ) (r : SpikeRun) (h : canon s.store) : canon (State.moveRun s c r).2.store := by
  unfold State.moveRun
  first
    | (simp [*]; done)
    | ((repeat' split) <;> simp [*]; done)
    | (dsimp only; (repeat' split) <;> simp [*]; done)
    | (repeat' (first | assumption | (simp; done) | (simp [*]; done) | split | (refine foldl_canon _ (fun _ _ h0 => ?_) _ _ ?_) | (refine foldl_canon2 _ (fun _ _ h0 => ?_) _ _ ?_) | (refine pair_canon (by assumption) ?_) | (refine trip_canon (by assumption) ?_) | (refine pair1_canon (by assumption) ?_) | (dsimp only) | (simp (disch := first | assumption | (refine pair_canon (by assumption) ?_; simp [*]; done) | (refine trip_canon (by assumption) ?_; simp [*]; done) | (simp [*]; done)); done) | simp))

@[simp] theorem State.driveRun_canon (s : State) (c : ℕ) (r : SpikeRun) (y3 : ℕ) (h : canon s.store) : canon (State.driveRun s c r y3).2.store := by
  induction y3 generalizing s r with
  | zero => exact h
  | succ n ih =>
    have hm := State.moveRun_canon s c r h
    unfold State.driveRun
    split
    · rename_i e; rw [e] at hm; exact hm
    · rename_i e; rw [e] at hm
      split
      · exact hm
      · exact ih _ _ hm

@[simp] theorem State.driveRuns_canon (s : State) (c : ℕ) (y2 : List SpikeRun) (h : canon s.store) : canon (State.driveRuns s c y2).2.store := by
  induction y2 generalizing s c h with
  | nil => (unfold State.driveRuns; (repeat' (first | assumption | (simp; done) | (simp [*]; done) | split | (refine foldl_canon _ (fun _ _ h0 => ?_) _ _ ?_) | (refine foldl_canon2 _ (fun _ _ h0 => ?_) _ _ ?_) | (refine pair_canon (by assumption) ?_) | (refine trip_canon (by assumption) ?_) | (refine pair1_canon (by assumption) ?_) | (dsimp only) | (simp (disch := first | assumption | (refine pair_canon (by assumption) ?_; simp [*]; done) | (refine trip_canon (by assumption) ?_; simp [*]; done) | (simp [*]; done)); done) | simp)))
  | cons a1 t1 ih => (unfold State.driveRuns; (repeat' (first | assumption | (simp; done) | (simp [*]; done) | split | (refine foldl_canon _ (fun _ _ h0 => ?_) _ _ ?_) | (refine foldl_canon2 _ (fun _ _ h0 => ?_) _ _ ?_) | (refine pair_canon (by assumption) ?_) | (refine trip_canon (by assumption) ?_) | (refine pair1_canon (by assumption) ?_) | (dsimp only) | (simp (disch := first | assumption | (refine pair_canon (by assumption) ?_; simp [*]; done) | (refine trip_canon (by assumption) ?_; simp [*]; done) | (simp [*]; done)); done) | simp)))

@[simp] theorem State.driveAll_canon (s : State) (c : Nat) (h : canon s.store) : canon (State.driveAll s c).store := by
  unfold State.driveAll
  first
    | (simp [*]; done)
    | ((repeat' split) <;> simp [*]; done)
    | (dsimp only; (repeat' split) <;> simp [*]; done)
    | (repeat' (first | assumption | (simp; done) | (simp [*]; done) | split | (refine foldl_canon _ (fun _ _ h0 => ?_) _ _ ?_) | (refine foldl_canon2 _ (fun _ _ h0 => ?_) _ _ ?_) | (refine pair_canon (by assumption) ?_) | (refine trip_canon (by assumption) ?_) | (refine pair1_canon (by assumption) ?_) | (dsimp only) | (simp (disch := first | assumption | (refine pair_canon (by assumption) ?_; simp [*]; done) | (refine trip_canon (by assumption) ?_; simp [*]; done) | (simp [*]; done)); done) | simp))

@[simp] theorem State.releaseSpikes_canon (s : State) (c : Nat) (y0 : Nat) (h : canon s.store) : canon (State.releaseSpikes s c y0).store := by
  induction y0 generalizing s c with
  | zero => (unfold State.releaseSpikes; (repeat' (first | assumption | (simp; done) | (simp [*]; done) | split | (refine foldl_canon _ (fun _ _ h0 => ?_) _ _ ?_) | (refine foldl_canon2 _ (fun _ _ h0 => ?_) _ _ ?_) | (refine pair_canon (by assumption) ?_) | (refine trip_canon (by assumption) ?_) | (refine pair1_canon (by assumption) ?_) | (dsimp only) | (simp (disch := first | assumption | (refine pair_canon (by assumption) ?_; simp [*]; done) | (refine trip_canon (by assumption) ?_; simp [*]; done) | (simp [*]; done)); done) | simp)))
  | succ n1 ih => (unfold State.releaseSpikes; (repeat' (first | assumption | (simp; done) | (simp [*]; done) | split | (refine foldl_canon _ (fun _ _ h0 => ?_) _ _ ?_) | (refine foldl_canon2 _ (fun _ _ h0 => ?_) _ _ ?_) | (refine pair_canon (by assumption) ?_) | (refine trip_canon (by assumption) ?_) | (refine pair1_canon (by assumption) ?_) | (dsimp only) | (simp (disch := first | assumption | (refine pair_canon (by assumption) ?_; simp [*]; done) | (refine trip_canon (by assumption) ?_; simp [*]; done) | (simp [*]; done)); done) | simp)))

@[simp] theorem State.moveDispatcher_canon (s : State) (c : ℕ) (h : canon s.store) : canon (State.moveDispatcher s c).store := by
  unfold State.moveDispatcher
  first
    | (simp [*]; done)
    | ((repeat' split) <;> simp [*]; done)
    | (dsimp only; (repeat' split) <;> simp [*]; done)
    | (repeat' (first | assumption | (simp; done) | (simp [*]; done) | split | (refine foldl_canon _ (fun _ _ h0 => ?_) _ _ ?_) | (refine foldl_canon2 _ (fun _ _ h0 => ?_) _ _ ?_) | (refine pair_canon (by assumption) ?_) | (refine trip_canon (by assumption) ?_) | (refine pair1_canon (by assumption) ?_) | (dsimp only) | (simp (disch := first | assumption | (refine pair_canon (by assumption) ?_; simp [*]; done) | (refine trip_canon (by assumption) ?_; simp [*]; done) | (simp [*]; done)); done) | simp))

@[simp] theorem State.moveRuns_canon (s : State) (h : canon s.store) : canon (State.moveRuns s).store := by
  unfold State.moveRuns
  first
    | (simp [*]; done)
    | ((repeat' split) <;> simp [*]; done)
    | (dsimp only; (repeat' split) <;> simp [*]; done)
    | (repeat' (first | assumption | (simp; done) | (simp [*]; done) | split | (refine foldl_canon _ (fun _ _ h0 => ?_) _ _ ?_) | (refine foldl_canon2 _ (fun _ _ h0 => ?_) _ _ ?_) | (refine pair_canon (by assumption) ?_) | (refine trip_canon (by assumption) ?_) | (refine pair1_canon (by assumption) ?_) | (dsimp only) | (simp (disch := first | assumption | (refine pair_canon (by assumption) ?_; simp [*]; done) | (refine trip_canon (by assumption) ?_; simp [*]; done) | (simp [*]; done)); done) | simp))

@[simp] theorem State.stepRowNext_canon (s : State) (r : StepRun) (p : Pop) (h : canon s.store) : canon (State.stepRowNext s r p).store := by
  unfold State.stepRowNext
  first
    | (simp [*]; done)
    | ((repeat' split) <;> simp [*]; done)
    | (dsimp only; (repeat' split) <;> simp [*]; done)
    | (repeat' (first | assumption | (simp; done) | (simp [*]; done) | split | (refine foldl_canon _ (fun _ _ h0 => ?_) _ _ ?_) | (refine foldl_canon2 _ (fun _ _ h0 => ?_) _ _ ?_) | (refine pair_canon (by assumption) ?_) | (refine trip_canon (by assumption) ?_) | (refine pair1_canon (by assumption) ?_) | (dsimp only) | (simp (disch := first | assumption | (refine pair_canon (by assumption) ?_; simp [*]; done) | (refine trip_canon (by assumption) ?_; simp [*]; done) | (simp [*]; done)); done) | simp))

/-! ### CmdEvent -/

@[simp] theorem State.copyGranule_canon (s : State) (bank : ℕ) (b : BufRow) (toBuf : Bool) (g : ℕ)
    (h : canon s.store) : canon (State.copyGranule s bank b toBuf g).store := by
  simp [State.copyGranule, *]

@[simp] theorem State.copyRows_canon (s : State) (pop : ℕ) (banks : List ℕ) (toBuf : Bool)
    (h : canon s.store) : canon (State.copyRows s pop banks toBuf).store := by
  unfold State.copyRows
  repeat' (first
    | assumption
    | (simp; done)
    | (simp [*]; done)
    | split
    | (refine foldl_canon _ (fun _ _ h0 => ?_) _ _ ?_)
    | (refine foldl_canon2 _ (fun _ _ h0 => ?_) _ _ ?_)
    | (refine pair_canon (by assumption) ?_)
    | (refine trip_canon (by assumption) ?_)
    | (refine pair1_canon (by assumption) ?_)
    | (dsimp only)
    | (simp (disch := first | assumption | (refine pair_canon (by assumption) ?_; simp [*]; done) | (refine trip_canon (by assumption) ?_; simp [*]; done) | (simp [*]; done)); done)
    | simp)

@[simp] theorem State.stageDone_canon (s : State) (pop : ℕ) (h : canon s.store) : canon
    (State.stageDone s pop).store := by
  unfold State.stageDone; (repeat' split) <;> simp [*]

@[simp] theorem State.unstageDone_canon (s : State) (pop : ℕ) (h : canon s.store) : canon
    (State.unstageDone s pop).store := by
  unfold State.unstageDone; (repeat' split) <;> simp [*]

@[simp] theorem State.endStep_canon (s : State) (r : StepRun) (st : Option Status) (h : canon s.store) : canon (State.endStep s r st).store := by
  unfold State.endStep
  first
    | (simp [*]; done)
    | ((repeat' split) <;> simp [*]; done)
    | (dsimp only; (repeat' split) <;> simp [*]; done)
    | (repeat' (first | assumption | (simp; done) | (simp [*]; done) | split | (refine foldl_canon _ (fun _ _ h0 => ?_) _ _ ?_) | (refine foldl_canon2 _ (fun _ _ h0 => ?_) _ _ ?_) | (refine pair_canon (by assumption) ?_) | (refine trip_canon (by assumption) ?_) | (refine pair1_canon (by assumption) ?_) | (dsimp only) | (simp (disch := first | assumption | (refine pair_canon (by assumption) ?_; simp [*]; done) | (refine trip_canon (by assumption) ?_; simp [*]; done) | (simp [*]; done)); done) | simp))

@[simp] theorem State.stepRow_canon (s : State) (pop : ℕ) (h : canon s.store) : canon
    (State.stepRow s pop).store := by
  unfold State.stepRow; dsimp only; (repeat' split) <;> simp [*]

@[simp] theorem State.stepComplete_canon (s : State) (pop : Nat) (h : canon s.store) : canon (State.stepComplete s pop).store := by
  unfold State.stepComplete
  first
    | (simp [*]; done)
    | ((repeat' split) <;> simp [*]; done)
    | (dsimp only; (repeat' split) <;> simp [*]; done)
    | (repeat' (first | assumption | (simp; done) | (simp [*]; done) | split | (refine foldl_canon _ (fun _ _ h0 => ?_) _ _ ?_) | (refine foldl_canon2 _ (fun _ _ h0 => ?_) _ _ ?_) | (refine pair_canon (by assumption) ?_) | (refine trip_canon (by assumption) ?_) | (refine pair1_canon (by assumption) ?_) | (dsimp only) | (simp (disch := first | assumption | (refine pair_canon (by assumption) ?_; simp [*]; done) | (refine trip_canon (by assumption) ?_; simp [*]; done) | (simp [*]; done)); done) | simp))

/-! ### Drover -/

@[simp] theorem State.jobGoes_canon (s : State) (id : ℕ) (next : State → Job → State) (hnext : ∀ s0 x0, canon s0.store → canon (next s0 x0).store) (h : canon s.store) : canon (State.jobGoes s id next).store := by
  unfold State.jobGoes
  first
    | (simp [*]; done)
    | ((repeat' split) <;> simp [*]; done)
    | (dsimp only; (repeat' split) <;> simp [*]; done)
    | (repeat' (first | assumption | (simp; done) | (simp [*]; done) | split | (refine foldl_canon _ (fun _ _ h0 => ?_) _ _ ?_) | (refine foldl_canon2 _ (fun _ _ h0 => ?_) _ _ ?_) | (refine pair_canon (by assumption) ?_) | (refine trip_canon (by assumption) ?_) | (refine pair1_canon (by assumption) ?_) | (dsimp only) | (simp (disch := first | assumption | (refine pair_canon (by assumption) ?_; simp [*]; done) | (refine trip_canon (by assumption) ?_; simp [*]; done) | (simp [*]; done)); done) | simp))

@[simp] theorem State.rowWritten_canon (s : State) (j : Job) (req : ℕ) (n : ℕ) (m : ℕ) (rs : List Resp) (next : State → Job → State) (hnext : ∀ s0 x0, canon s0.store → canon (next s0 x0).store) (h : canon s.store) : canon (State.rowWritten s j req n m rs next).store := by
  unfold State.rowWritten
  first
    | (simp [*]; done)
    | ((repeat' split) <;> simp [*]; done)
    | (dsimp only; (repeat' split) <;> simp [*]; done)
    | (repeat' (first | assumption | (simp; done) | (simp [*]; done) | split | (refine foldl_canon _ (fun _ _ h0 => ?_) _ _ ?_) | (refine foldl_canon2 _ (fun _ _ h0 => ?_) _ _ ?_) | (refine pair_canon (by assumption) ?_) | (refine trip_canon (by assumption) ?_) | (refine pair1_canon (by assumption) ?_) | (dsimp only) | (simp (disch := first | assumption | (refine pair_canon (by assumption) ?_; simp [*]; done) | (refine trip_canon (by assumption) ?_; simp [*]; done) | (simp [*]; done)); done) | simp))

@[simp] theorem State.evacGranule_canon (s : State) (bank : ℕ) (spare : ℕ) (row : ℕ)
    (buf : Option ℕ) (g : ℕ) (h : canon s.store) : canon
    (State.evacGranule s bank spare row buf g).store := by
  simp [State.evacGranule, *]

@[simp] theorem State.copyRow_canon (s : State) (c : ℕ) (e : EvacRun) (row : ℕ) (buf : Option ℕ) (h : canon s.store) : canon (State.copyRow s c e row buf).store := by
  unfold State.copyRow
  first
    | (simp [*]; done)
    | ((repeat' split) <;> simp [*]; done)
    | (dsimp only; (repeat' split) <;> simp [*]; done)
    | (repeat' (first | assumption | (simp; done) | (simp [*]; done) | split | (refine foldl_canon _ (fun _ _ h0 => ?_) _ _ ?_) | (refine foldl_canon2 _ (fun _ _ h0 => ?_) _ _ ?_) | (refine pair_canon (by assumption) ?_) | (refine trip_canon (by assumption) ?_) | (refine pair1_canon (by assumption) ?_) | (dsimp only) | (simp (disch := first | assumption | (refine pair_canon (by assumption) ?_; simp [*]; done) | (refine trip_canon (by assumption) ?_; simp [*]; done) | (simp [*]; done)); done) | simp))

@[simp] theorem State.evacRow_canon (s : State) (c : ℕ) (h : canon s.store) : canon (State.evacRow s c).store := by
  unfold State.evacRow
  first
    | (simp [*]; done)
    | ((repeat' split) <;> simp [*]; done)
    | (dsimp only; (repeat' split) <;> simp [*]; done)
    | (repeat' (first | assumption | (simp; done) | (simp [*]; done) | split | (refine foldl_canon _ (fun _ _ h0 => ?_) _ _ ?_) | (refine foldl_canon2 _ (fun _ _ h0 => ?_) _ _ ?_) | (refine pair_canon (by assumption) ?_) | (refine trip_canon (by assumption) ?_) | (refine pair1_canon (by assumption) ?_) | (dsimp only) | (simp (disch := first | assumption | (refine pair_canon (by assumption) ?_; simp [*]; done) | (refine trip_canon (by assumption) ?_; simp [*]; done) | (simp [*]; done)); done) | simp))

@[simp] theorem State.drvRow_canon (s : State) (inBank : Bool) (h : canon s.store) : canon
    (State.drvRow s inBank).store := by
  unfold State.drvRow; (repeat' split) <;> simp [*]

/-! ### CmdInteg -/

@[simp] theorem State.putArray_canon (s : State) (bank row g : Nat) (w : List Nat) (h : canon s.store) : canon (State.putArray s bank row g w).store := by
  unfold State.putArray
  first
    | (simp [*]; done)
    | ((repeat' split) <;> simp [*]; done)
    | (dsimp only; (repeat' split) <;> simp [*]; done)
    | (repeat' (first | assumption | (simp; done) | (simp [*]; done) | split | (refine foldl_canon _ (fun _ _ h0 => ?_) _ _ ?_) | (refine foldl_canon2 _ (fun _ _ h0 => ?_) _ _ ?_) | (refine pair_canon (by assumption) ?_) | (refine trip_canon (by assumption) ?_) | (refine pair1_canon (by assumption) ?_) | (dsimp only) | (simp (disch := first | assumption | (refine pair_canon (by assumption) ?_; simp [*]; done) | (refine trip_canon (by assumption) ?_; simp [*]; done) | (simp [*]; done)); done) | simp))

@[simp] theorem State.remap_canon (s : State) (g row : ℕ) (f : Slot → Slot) (h3 : ∀ l, (f l).zeroFor = l.zeroFor) (h4 : ∀ l, (f l).bufZero = l.bufZero) (h : canon s.store) : canon (State.remap s g row f).store := by
  unfold State.remap
  extract_lets k ds s1 s2 s3
  have h1 : s1.store = s.store := foldl_store _ (fun _ _ => by simp) _ _
  have h2 : s2.store = s.store := by simp only [s2]; rw [State.takeSlots_store, State.chargeArray_store, h1]
  have h5 : canon s3.store := by simp only [s3]; rw [State.onSlot_store _ _ _ h3 h4, h2]; exact h
  clear_value s3 s2 s1
  exact foldl_canon _ (fun _ _ hh => by dsimp only; rw [State.cancelWriteBack_store]; exact State.putArray_canon _ _ _ _ _ hh) _ _ h5

@[simp] theorem State.installPatch_canon (s : State) (g : ℕ) (i : ℕ) (e : BitVec 32)
    (h : canon s.store) : canon (State.installPatch s g i e).store := by
  simp [State.installPatch, *]

@[simp] theorem State.removePatch_canon (s : State) (g : ℕ) (i : ℕ) (h : canon s.store) : canon
    (State.removePatch s g i).store := by
  unfold State.removePatch; dsimp only; (repeat' split) <;> simp [*]

@[simp] theorem State.endTest_canon (s : State) (c : ℕ) (r : TestRun) (f : BistFound)
    (h : canon s.store) : canon (State.endTest s c r f).store := by
  unfold State.endTest
  extract_lets k v g lane s1 s2 s3
  have h1 : canon s1.store := by simp only [s1, State.noteTest_store]; exact h
  have h2 : canon s2.store := by simp only [s2, State.onCtest_store]; exact h1
  have h3 : canon s3.store := by
    simp only [s3]; split
    · simp [h2]
    · rw [State.bistEvent_store]; have h5 := State.zeroSlot_canon s2 k g h2; generalize s2.zeroSlot k g = u at *; rw [State.onSlot_store]; · exact h5
      · intro l; rfl
      · intro l; rfl
  clear_value s3 s2 s1
  split
  · rw [State.finish_store]; exact h3
  · exact h3

@[simp] theorem State.bistEnd_canon (s : State) (c : ℕ) (f : BistFound) (h : canon s.store) : canon
    (State.bistEnd s c f).store := by
  unfold State.bistEnd; (repeat' split) <;> simp [*]

@[simp] theorem State.putBack_canon (s : State) (g : Nat) (w : WriteBack) (h : canon s.store) : canon (State.putBack s g w).store := by
  unfold State.putBack
  first
    | (simp [*]; done)
    | ((repeat' split) <;> simp [*]; done)
    | (dsimp only; (repeat' split) <;> simp [*]; done)
    | (repeat' (first | assumption | (simp; done) | (simp [*]; done) | split | (refine foldl_canon _ (fun _ _ h0 => ?_) _ _ ?_) | (refine foldl_canon2 _ (fun _ _ h0 => ?_) _ _ ?_) | (refine pair_canon (by assumption) ?_) | (refine trip_canon (by assumption) ?_) | (refine pair1_canon (by assumption) ?_) | (dsimp only) | (simp (disch := first | assumption | (refine pair_canon (by assumption) ?_; simp [*]; done) | (refine trip_canon (by assumption) ?_; simp [*]; done) | (simp [*]; done)); done) | simp))

@[simp] theorem State.scrubWriteBack_canon (s : State) (c b : Nat) (h : canon s.store) : canon (State.scrubWriteBack s c b).store := by
  unfold State.scrubWriteBack
  first
    | (simp [*]; done)
    | ((repeat' split) <;> simp [*]; done)
    | (dsimp only; (repeat' split) <;> simp [*]; done)
    | (repeat' (first | assumption | (simp; done) | (simp [*]; done) | split | (refine foldl_canon _ (fun _ _ h0 => ?_) _ _ ?_) | (refine foldl_canon2 _ (fun _ _ h0 => ?_) _ _ ?_) | (refine pair_canon (by assumption) ?_) | (refine trip_canon (by assumption) ?_) | (refine pair1_canon (by assumption) ?_) | (dsimp only) | (simp (disch := first | assumption | (refine pair_canon (by assumption) ?_; simp [*]; done) | (refine trip_canon (by assumption) ?_; simp [*]; done) | (simp [*]; done)); done) | simp))

/-! ### FwStore -/

@[simp] theorem State.installRepair_canon (s : State) (e : BitVec 64) (h : canon s.store) : canon
    (State.installRepair s e).store := by
  unfold State.installRepair; dsimp only; (repeat' split) <;> simp [*]

@[simp] theorem State.installWaiting_canon (s : State) (h : canon s.store) : canon (State.installWaiting s).store := by
  unfold State.installWaiting
  first
    | (simp [*]; done)
    | ((repeat' split) <;> simp [*]; done)
    | (dsimp only; (repeat' split) <;> simp [*]; done)
    | (repeat' (first | assumption | (simp; done) | (simp [*]; done) | split | (refine foldl_canon _ (fun _ _ h0 => ?_) _ _ ?_) | (refine foldl_canon2 _ (fun _ _ h0 => ?_) _ _ ?_) | (refine pair_canon (by assumption) ?_) | (refine trip_canon (by assumption) ?_) | (refine pair1_canon (by assumption) ?_) | (dsimp only) | (simp (disch := first | assumption | (refine pair_canon (by assumption) ?_; simp [*]; done) | (refine trip_canon (by assumption) ?_; simp [*]; done) | (simp [*]; done)); done) | simp))

@[simp] theorem State.applySettings_canon (s : State) (h : canon s.store) : canon
    (State.applySettings s).store := by
  unfold State.applySettings
  extract_lets found mine bs s1 s2 s3 s4
  have h1 : canon s1.store := by simp [s1, h]
  have h2 : canon s2.store := by simp only [s2]; split <;> simp [h1]
  have h3 : canon s3.store := foldl_canon _ (fun _ _ hh => State.installRepair_canon _ _ hh) _ _ h2
  have h4 : s4.store = s3.store := rfl
  clear_value s4 s3 s2 s1
  split
  · exact h3
  · rw [State.writeSettings_store, h4]; exact h3

/-! ### CmdFw -/

@[simp] theorem State.startBooting_canon (s : State) (h : canon s.store) : canon (State.startBooting s).store := by
  unfold State.startBooting
  first
    | (simp [*]; done)
    | ((repeat' split) <;> simp [*]; done)
    | (dsimp only; (repeat' split) <;> simp [*]; done)
    | (repeat' (first | assumption | (simp; done) | (simp [*]; done) | split | (refine foldl_canon _ (fun _ _ h0 => ?_) _ _ ?_) | (refine foldl_canon2 _ (fun _ _ h0 => ?_) _ _ ?_) | (refine pair_canon (by assumption) ?_) | (refine trip_canon (by assumption) ?_) | (refine pair1_canon (by assumption) ?_) | (dsimp only) | (simp (disch := first | assumption | (refine pair_canon (by assumption) ?_; simp [*]; done) | (refine trip_canon (by assumption) ?_; simp [*]; done) | (simp [*]; done)); done) | simp))

@[simp] theorem State.firmwareBoot_canon (s : State) (flashOk : Bool) (h : canon s.store) : canon (State.firmwareBoot s flashOk).store := by
  unfold State.firmwareBoot
  first
    | (simp [*]; done)
    | ((repeat' split) <;> simp [*]; done)
    | (dsimp only; (repeat' split) <;> simp [*]; done)
    | (repeat' (first | assumption | (simp; done) | (simp [*]; done) | split | (refine foldl_canon _ (fun _ _ h0 => ?_) _ _ ?_) | (refine foldl_canon2 _ (fun _ _ h0 => ?_) _ _ ?_) | (refine pair_canon (by assumption) ?_) | (refine trip_canon (by assumption) ?_) | (refine pair1_canon (by assumption) ?_) | (dsimp only) | (simp (disch := first | assumption | (refine pair_canon (by assumption) ?_; simp [*]; done) | (refine trip_canon (by assumption) ?_; simp [*]; done) | (simp [*]; done)); done) | simp))

@[simp] theorem State.imageRunning_canon (s : State) (h : canon s.store) : canon
    (State.imageRunning s).store := by
  unfold State.imageRunning; (repeat' split) <;> simp [*]

/-! ### Svc -/

@[simp] theorem State.svcFrame_canon (s : State) (f : State → State) (hf : ∀ s0, canon s0.store → canon (f s0).store) (h : canon s.store) : canon (State.svcFrame s f).store := by
  unfold State.svcFrame
  first
    | (simp [*]; done)
    | ((repeat' split) <;> simp [*]; done)
    | (dsimp only; (repeat' split) <;> simp [*]; done)
    | (repeat' (first | assumption | (simp; done) | (simp [*]; done) | split | (refine foldl_canon _ (fun _ _ h0 => ?_) _ _ ?_) | (refine foldl_canon2 _ (fun _ _ h0 => ?_) _ _ ?_) | (refine pair_canon (by assumption) ?_) | (refine trip_canon (by assumption) ?_) | (refine pair1_canon (by assumption) ?_) | (dsimp only) | (simp (disch := first | assumption | (refine pair_canon (by assumption) ?_; simp [*]; done) | (refine trip_canon (by assumption) ?_; simp [*]; done) | (simp [*]; done)); done) | simp))

@[simp] theorem State.imageFrame_canon (s : State) (f : State → State) (hf : ∀ s0, canon s0.store → canon (f s0).store)
    (h : canon s.store) : canon (State.imageFrame s f).store := by
  unfold State.imageFrame
  refine State.svcFrame_canon _ _ (fun t ht => ?_) h
  split
  · rw [State.svcResult_store]; exact ht
  split
  · rw [State.svcResult_store]; exact ht
  · exact hf _ ht

/-! ### CmdSafety -/

@[simp] theorem State.zeroPatch_canon (s : State) (k : Nat) (e : BitVec 32) (h : canon s.store) : canon (State.zeroPatch s k e).store := by
  unfold State.zeroPatch
  first
    | (simp [*]; done)
    | ((repeat' split) <;> simp [*]; done)
    | (dsimp only; (repeat' split) <;> simp [*]; done)
    | (repeat' (first | assumption | (simp; done) | (simp [*]; done) | split | (refine foldl_canon _ (fun _ _ h0 => ?_) _ _ ?_) | (refine foldl_canon2 _ (fun _ _ h0 => ?_) _ _ ?_) | (refine pair_canon (by assumption) ?_) | (refine trip_canon (by assumption) ?_) | (refine pair1_canon (by assumption) ?_) | (dsimp only) | (simp (disch := first | assumption | (refine pair_canon (by assumption) ?_; simp [*]; done) | (refine trip_canon (by assumption) ?_; simp [*]; done) | (simp [*]; done)); done) | simp))

@[simp] theorem State.zeroArrays_canon (s : State) : canon s.zeroArrays.store := by
  unfold State.zeroArrays
  extract_lets ks s1
  have h1 : s1.mem = [] := by
    have : ∀ (l : List Nat) (t : State), t.mem = [] → (l.foldl (fun s k => s.onSlot k fun l =>
        { l with zeroFor := some (16 * (k / 17) + l.logical), bufZero := true
                 patches := l.patches.filter (fun e => patchFactory e.2) }) t).mem = [] := by
      intro l; induction l with
      | nil => exact fun t h => h
      | cons a l ih => intro t h; exact ih _ h
    exact this ks _ rfl
  clear_value s1
  refine foldl_canon _ (fun s k h => foldl_canon _ (fun t e h => ?_) _ _ h) _ _ (canon_nil _ h1)
  split
  · exact State.zeroPatch_canon _ _ _ h
  · exact h

@[simp] theorem State.lifecycleSet_canon (s : State) (new : ℕ) (h : canon s.store) : canon
    (State.lifecycleSet s new).store := by
  unfold State.lifecycleSet
  extract_lets s1
  have h1 : canon s1.store := by
    simp only [s1]; split
    · rw [State.clearTables_store]; exact State.zeroArrays_canon _
    · exact h
  clear_value s1
  simp [h1]

theorem bodyNop_keepsMem : bodyNop.keepsMem := by
  intro n c t h; simp only [bodyNop]; (repeat' (first | assumption | (simp; done) | (simp [*]; done) | split | (refine foldl_canon _ (fun _ _ h0 => ?_) _ _ ?_) | (refine foldl_canon2 _ (fun _ _ h0 => ?_) _ _ ?_) | (refine pair_canon (by assumption) ?_) | (refine trip_canon (by assumption) ?_) | (refine pair1_canon (by assumption) ?_) | (dsimp only) | (simp (disch := first | assumption | (refine pair_canon (by assumption) ?_; simp [*]; done) | (refine trip_canon (by assumption) ?_; simp [*]; done) | (simp [*]; done)); done) | simp))

theorem bodyEcho_keepsMem : bodyEcho.keepsMem := by
  intro n c t h; simp only [bodyEcho]; (repeat' (first | assumption | (simp; done) | (simp [*]; done) | split | (refine foldl_canon _ (fun _ _ h0 => ?_) _ _ ?_) | (refine foldl_canon2 _ (fun _ _ h0 => ?_) _ _ ?_) | (refine pair_canon (by assumption) ?_) | (refine trip_canon (by assumption) ?_) | (refine pair1_canon (by assumption) ?_) | (dsimp only) | (simp (disch := first | assumption | (refine pair_canon (by assumption) ?_; simp [*]; done) | (refine trip_canon (by assumption) ?_; simp [*]; done) | (simp [*]; done)); done) | simp))

theorem bodyQueryState_keepsMem : bodyQueryState.keepsMem := by
  intro n c t h; simp only [bodyQueryState]; (repeat' (first | assumption | (simp; done) | (simp [*]; done) | split | (refine foldl_canon _ (fun _ _ h0 => ?_) _ _ ?_) | (refine foldl_canon2 _ (fun _ _ h0 => ?_) _ _ ?_) | (refine pair_canon (by assumption) ?_) | (refine trip_canon (by assumption) ?_) | (refine pair1_canon (by assumption) ?_) | (dsimp only) | (simp (disch := first | assumption | (refine pair_canon (by assumption) ?_; simp [*]; done) | (refine trip_canon (by assumption) ?_; simp [*]; done) | (simp [*]; done)); done) | simp))

theorem bodyCtxReset_keepsMem : bodyCtxReset.keepsMem := by
  intro n c t h; simp only [bodyCtxReset]; (repeat' (first | assumption | (simp; done) | (simp [*]; done) | split | (refine foldl_canon _ (fun _ _ h0 => ?_) _ _ ?_) | (refine foldl_canon2 _ (fun _ _ h0 => ?_) _ _ ?_) | (refine pair_canon (by assumption) ?_) | (refine trip_canon (by assumption) ?_) | (refine pair1_canon (by assumption) ?_) | (dsimp only) | (simp (disch := first | assumption | (refine pair_canon (by assumption) ?_; simp [*]; done) | (refine trip_canon (by assumption) ?_; simp [*]; done) | (simp [*]; done)); done) | simp))

theorem bodyPortReset_keepsMem : bodyPortReset.keepsMem := by
  intro n c t h; simp only [bodyPortReset]; (repeat' (first | assumption | (simp; done) | (simp [*]; done) | split | (refine foldl_canon _ (fun _ _ h0 => ?_) _ _ ?_) | (refine foldl_canon2 _ (fun _ _ h0 => ?_) _ _ ?_) | (refine pair_canon (by assumption) ?_) | (refine trip_canon (by assumption) ?_) | (refine pair1_canon (by assumption) ?_) | (dsimp only) | (simp (disch := first | assumption | (refine pair_canon (by assumption) ?_; simp [*]; done) | (refine trip_canon (by assumption) ?_; simp [*]; done) | (simp [*]; done)); done) | simp))

theorem bodyDrain_keepsMem : bodyDrain.keepsMem := by
  intro n c t h; simp only [bodyDrain]; (repeat' (first | assumption | (simp; done) | (simp [*]; done) | split | (refine foldl_canon _ (fun _ _ h0 => ?_) _ _ ?_) | (refine foldl_canon2 _ (fun _ _ h0 => ?_) _ _ ?_) | (refine pair_canon (by assumption) ?_) | (refine trip_canon (by assumption) ?_) | (refine pair1_canon (by assumption) ?_) | (dsimp only) | (simp (disch := first | assumption | (refine pair_canon (by assumption) ?_; simp [*]; done) | (refine trip_canon (by assumption) ?_; simp [*]; done) | (simp [*]; done)); done) | simp))

theorem bodyPrioSet_keepsMem : bodyPrioSet.keepsMem := by
  intro n c t h; simp only [bodyPrioSet]; (repeat' (first | assumption | (simp; done) | (simp [*]; done) | split | (refine foldl_canon _ (fun _ _ h0 => ?_) _ _ ?_) | (refine foldl_canon2 _ (fun _ _ h0 => ?_) _ _ ?_) | (refine pair_canon (by assumption) ?_) | (refine trip_canon (by assumption) ?_) | (refine pair1_canon (by assumption) ?_) | (dsimp only) | (simp (disch := first | assumption | (refine pair_canon (by assumption) ?_; simp [*]; done) | (refine trip_canon (by assumption) ?_; simp [*]; done) | (simp [*]; done)); done) | simp))

theorem bodyParkSet_keepsMem : bodyParkSet.keepsMem := by
  intro n c t h; simp only [bodyParkSet]; (repeat' (first | assumption | (simp; done) | (simp [*]; done) | split | (refine foldl_canon _ (fun _ _ h0 => ?_) _ _ ?_) | (refine foldl_canon2 _ (fun _ _ h0 => ?_) _ _ ?_) | (refine pair_canon (by assumption) ?_) | (refine trip_canon (by assumption) ?_) | (refine pair1_canon (by assumption) ?_) | (dsimp only) | (simp (disch := first | assumption | (refine pair_canon (by assumption) ?_; simp [*]; done) | (refine trip_canon (by assumption) ?_; simp [*]; done) | (simp [*]; done)); done) | simp))

theorem bodyStarveSet_keepsMem : bodyStarveSet.keepsMem := by
  intro n c t h; simp only [bodyStarveSet]; (repeat' (first | assumption | (simp; done) | (simp [*]; done) | split | (refine foldl_canon _ (fun _ _ h0 => ?_) _ _ ?_) | (refine foldl_canon2 _ (fun _ _ h0 => ?_) _ _ ?_) | (refine pair_canon (by assumption) ?_) | (refine trip_canon (by assumption) ?_) | (refine pair1_canon (by assumption) ?_) | (dsimp only) | (simp (disch := first | assumption | (refine pair_canon (by assumption) ?_; simp [*]; done) | (refine trip_canon (by assumption) ?_; simp [*]; done) | (simp [*]; done)); done) | simp))

theorem bodyStallLoad_keepsMem : bodyStallLoad.keepsMem := by
  intro n c t h; simp only [bodyStallLoad]; (repeat' (first | assumption | (simp; done) | (simp [*]; done) | split | (refine foldl_canon _ (fun _ _ h0 => ?_) _ _ ?_) | (refine foldl_canon2 _ (fun _ _ h0 => ?_) _ _ ?_) | (refine pair_canon (by assumption) ?_) | (refine trip_canon (by assumption) ?_) | (refine pair1_canon (by assumption) ?_) | (dsimp only) | (simp (disch := first | assumption | (refine pair_canon (by assumption) ?_; simp [*]; done) | (refine trip_canon (by assumption) ?_; simp [*]; done) | (simp [*]; done)); done) | simp))

theorem bodyStallSwap_keepsMem : bodyStallSwap.keepsMem := by
  intro n c t h; simp only [bodyStallSwap]; (repeat' (first | assumption | (simp; done) | (simp [*]; done) | split | (refine foldl_canon _ (fun _ _ h0 => ?_) _ _ ?_) | (refine foldl_canon2 _ (fun _ _ h0 => ?_) _ _ ?_) | (refine pair_canon (by assumption) ?_) | (refine trip_canon (by assumption) ?_) | (refine pair1_canon (by assumption) ?_) | (dsimp only) | (simp (disch := first | assumption | (refine pair_canon (by assumption) ?_; simp [*]; done) | (refine trip_canon (by assumption) ?_; simp [*]; done) | (simp [*]; done)); done) | simp))

theorem bodyStallQuery_keepsMem : bodyStallQuery.keepsMem := by
  intro n c t h; simp only [bodyStallQuery]; (repeat' (first | assumption | (simp; done) | (simp [*]; done) | split | (refine foldl_canon _ (fun _ _ h0 => ?_) _ _ ?_) | (refine foldl_canon2 _ (fun _ _ h0 => ?_) _ _ ?_) | (refine pair_canon (by assumption) ?_) | (refine trip_canon (by assumption) ?_) | (refine pair1_canon (by assumption) ?_) | (dsimp only) | (simp (disch := first | assumption | (refine pair_canon (by assumption) ?_; simp [*]; done) | (refine trip_canon (by assumption) ?_; simp [*]; done) | (simp [*]; done)); done) | simp))

theorem bodyRegionSet_keepsMem : bodyRegionSet.keepsMem := by
  intro n c t h; simp only [bodyRegionSet]; (repeat' (first | assumption | (simp; done) | (simp [*]; done) | split | (refine foldl_canon _ (fun _ _ h0 => ?_) _ _ ?_) | (refine foldl_canon2 _ (fun _ _ h0 => ?_) _ _ ?_) | (refine pair_canon (by assumption) ?_) | (refine trip_canon (by assumption) ?_) | (refine pair1_canon (by assumption) ?_) | (dsimp only) | (simp (disch := first | assumption | (refine pair_canon (by assumption) ?_; simp [*]; done) | (refine trip_canon (by assumption) ?_; simp [*]; done) | (simp [*]; done)); done) | simp))

theorem bodyRegionClear_keepsMem : bodyRegionClear.keepsMem := by
  intro n c t h; simp only [bodyRegionClear]; (repeat' (first | assumption | (simp; done) | (simp [*]; done) | split | (refine foldl_canon _ (fun _ _ h0 => ?_) _ _ ?_) | (refine foldl_canon2 _ (fun _ _ h0 => ?_) _ _ ?_) | (refine pair_canon (by assumption) ?_) | (refine trip_canon (by assumption) ?_) | (refine pair1_canon (by assumption) ?_) | (dsimp only) | (simp (disch := first | assumption | (refine pair_canon (by assumption) ?_; simp [*]; done) | (refine trip_canon (by assumption) ?_; simp [*]; done) | (simp [*]; done)); done) | simp))

theorem bodyRegionQuery_keepsMem : bodyRegionQuery.keepsMem := by
  intro n c t h; simp only [bodyRegionQuery]; (repeat' (first | assumption | (simp; done) | (simp [*]; done) | split | (refine foldl_canon _ (fun _ _ h0 => ?_) _ _ ?_) | (refine foldl_canon2 _ (fun _ _ h0 => ?_) _ _ ?_) | (refine pair_canon (by assumption) ?_) | (refine trip_canon (by assumption) ?_) | (refine pair1_canon (by assumption) ?_) | (dsimp only) | (simp (disch := first | assumption | (refine pair_canon (by assumption) ?_; simp [*]; done) | (refine trip_canon (by assumption) ?_; simp [*]; done) | (simp [*]; done)); done) | simp))

theorem bodyRegionMarkInit_keepsMem : bodyRegionMarkInit.keepsMem := by
  intro n c t h; simp only [bodyRegionMarkInit]; (repeat' (first | assumption | (simp; done) | (simp [*]; done) | split | (refine foldl_canon _ (fun _ _ h0 => ?_) _ _ ?_) | (refine foldl_canon2 _ (fun _ _ h0 => ?_) _ _ ?_) | (refine pair_canon (by assumption) ?_) | (refine trip_canon (by assumption) ?_) | (refine pair1_canon (by assumption) ?_) | (dsimp only) | (simp (disch := first | assumption | (refine pair_canon (by assumption) ?_; simp [*]; done) | (refine trip_canon (by assumption) ?_; simp [*]; done) | (simp [*]; done)); done) | simp))

theorem bodyViewSet_keepsMem : bodyViewSet.keepsMem := by
  intro n c t h; simp only [bodyViewSet]; (repeat' (first | assumption | (simp; done) | (simp [*]; done) | split | (refine foldl_canon _ (fun _ _ h0 => ?_) _ _ ?_) | (refine foldl_canon2 _ (fun _ _ h0 => ?_) _ _ ?_) | (refine pair_canon (by assumption) ?_) | (refine trip_canon (by assumption) ?_) | (refine pair1_canon (by assumption) ?_) | (dsimp only) | (simp (disch := first | assumption | (refine pair_canon (by assumption) ?_; simp [*]; done) | (refine trip_canon (by assumption) ?_; simp [*]; done) | (simp [*]; done)); done) | simp))

theorem bodyViewClear_keepsMem : bodyViewClear.keepsMem := by
  intro n c t h; simp only [bodyViewClear]; (repeat' (first | assumption | (simp; done) | (simp [*]; done) | split | (refine foldl_canon _ (fun _ _ h0 => ?_) _ _ ?_) | (refine foldl_canon2 _ (fun _ _ h0 => ?_) _ _ ?_) | (refine pair_canon (by assumption) ?_) | (refine trip_canon (by assumption) ?_) | (refine pair1_canon (by assumption) ?_) | (dsimp only) | (simp (disch := first | assumption | (refine pair_canon (by assumption) ?_; simp [*]; done) | (refine trip_canon (by assumption) ?_; simp [*]; done) | (simp [*]; done)); done) | simp))

theorem bodyViewQuery_keepsMem : bodyViewQuery.keepsMem := by
  intro n c t h; simp only [bodyViewQuery]; (repeat' (first | assumption | (simp; done) | (simp [*]; done) | split | (refine foldl_canon _ (fun _ _ h0 => ?_) _ _ ?_) | (refine foldl_canon2 _ (fun _ _ h0 => ?_) _ _ ?_) | (refine pair_canon (by assumption) ?_) | (refine trip_canon (by assumption) ?_) | (refine pair1_canon (by assumption) ?_) | (dsimp only) | (simp (disch := first | assumption | (refine pair_canon (by assumption) ?_; simp [*]; done) | (refine trip_canon (by assumption) ?_; simp [*]; done) | (simp [*]; done)); done) | simp))

theorem bodyViewStats_keepsMem : bodyViewStats.keepsMem := by
  intro n c t h; simp only [bodyViewStats]; (repeat' (first | assumption | (simp; done) | (simp [*]; done) | split | (refine foldl_canon _ (fun _ _ h0 => ?_) _ _ ?_) | (refine foldl_canon2 _ (fun _ _ h0 => ?_) _ _ ?_) | (refine pair_canon (by assumption) ?_) | (refine trip_canon (by assumption) ?_) | (refine pair1_canon (by assumption) ?_) | (dsimp only) | (simp (disch := first | assumption | (refine pair_canon (by assumption) ?_; simp [*]; done) | (refine trip_canon (by assumption) ?_; simp [*]; done) | (simp [*]; done)); done) | simp))

theorem bodiesCrossbar_keepMem : ∀ b ∈ bodiesCrossbar, b.keepsMem :=
  all_cons bodyNop_keepsMem <|
  all_cons bodyEcho_keepsMem <|
  all_cons bodyQueryState_keepsMem <|
  all_cons bodyCtxReset_keepsMem <|
  all_cons bodyPortReset_keepsMem <|
  all_cons bodyDrain_keepsMem <|
  all_cons bodyRegionSet_keepsMem <|
  all_cons bodyRegionClear_keepsMem <|
  all_cons bodyRegionQuery_keepsMem <|
  all_cons bodyRegionMarkInit_keepsMem <|
  all_cons bodyViewSet_keepsMem <|
  all_cons bodyViewClear_keepsMem <|
  all_cons bodyViewQuery_keepsMem <|
  all_cons bodyViewStats_keepsMem <|
  all_cons bodyStallLoad_keepsMem <|
  all_cons bodyStallSwap_keepsMem <|
  all_cons bodyStallQuery_keepsMem <|
  all_cons bodyPrioSet_keepsMem <|
  all_cons bodyParkSet_keepsMem <|
  all_cons bodyStarveSet_keepsMem <| all_nil

theorem bodyShareSet_keepsMem : bodyShareSet.keepsMem := by
  intro n c t h; simp only [bodyShareSet]; (repeat' (first | assumption | (simp; done) | (simp [*]; done) | split | (refine foldl_canon _ (fun _ _ h0 => ?_) _ _ ?_) | (refine foldl_canon2 _ (fun _ _ h0 => ?_) _ _ ?_) | (refine pair_canon (by assumption) ?_) | (refine trip_canon (by assumption) ?_) | (refine pair1_canon (by assumption) ?_) | (dsimp only) | (simp (disch := first | assumption | (refine pair_canon (by assumption) ?_; simp [*]; done) | (refine trip_canon (by assumption) ?_; simp [*]; done) | (simp [*]; done)); done) | simp))

theorem bodyUrgencySet_keepsMem : bodyUrgencySet.keepsMem := by
  intro n c t h; simp only [bodyUrgencySet]; (repeat' (first | assumption | (simp; done) | (simp [*]; done) | split | (refine foldl_canon _ (fun _ _ h0 => ?_) _ _ ?_) | (refine foldl_canon2 _ (fun _ _ h0 => ?_) _ _ ?_) | (refine pair_canon (by assumption) ?_) | (refine trip_canon (by assumption) ?_) | (refine pair1_canon (by assumption) ?_) | (dsimp only) | (simp (disch := first | assumption | (refine pair_canon (by assumption) ?_; simp [*]; done) | (refine trip_canon (by assumption) ?_; simp [*]; done) | (simp [*]; done)); done) | simp))

theorem bodyLatencySet_keepsMem : bodyLatencySet.keepsMem := by
  intro n c t h; simp only [bodyLatencySet]; (repeat' (first | assumption | (simp; done) | (simp [*]; done) | split | (refine foldl_canon _ (fun _ _ h0 => ?_) _ _ ?_) | (refine foldl_canon2 _ (fun _ _ h0 => ?_) _ _ ?_) | (refine pair_canon (by assumption) ?_) | (refine trip_canon (by assumption) ?_) | (refine pair1_canon (by assumption) ?_) | (dsimp only) | (simp (disch := first | assumption | (refine pair_canon (by assumption) ?_; simp [*]; done) | (refine trip_canon (by assumption) ?_; simp [*]; done) | (simp [*]; done)); done) | simp))

theorem bodyBudgetSet_keepsMem : bodyBudgetSet.keepsMem := by
  intro n c t h; simp only [bodyBudgetSet]; (repeat' (first | assumption | (simp; done) | (simp [*]; done) | split | (refine foldl_canon _ (fun _ _ h0 => ?_) _ _ ?_) | (refine foldl_canon2 _ (fun _ _ h0 => ?_) _ _ ?_) | (refine pair_canon (by assumption) ?_) | (refine trip_canon (by assumption) ?_) | (refine pair1_canon (by assumption) ?_) | (dsimp only) | (simp (disch := first | assumption | (refine pair_canon (by assumption) ?_; simp [*]; done) | (refine trip_canon (by assumption) ?_; simp [*]; done) | (simp [*]; done)); done) | simp))

theorem bodyAdmit_keepsMem : bodyAdmit.keepsMem := by
  intro n c t h; simp only [bodyAdmit]; (repeat' (first | assumption | (simp; done) | (simp [*]; done) | split | (refine foldl_canon _ (fun _ _ h0 => ?_) _ _ ?_) | (refine foldl_canon2 _ (fun _ _ h0 => ?_) _ _ ?_) | (refine pair_canon (by assumption) ?_) | (refine trip_canon (by assumption) ?_) | (refine pair1_canon (by assumption) ?_) | (dsimp only) | (simp (disch := first | assumption | (refine pair_canon (by assumption) ?_; simp [*]; done) | (refine trip_canon (by assumption) ?_; simp [*]; done) | (simp [*]; done)); done) | simp))

theorem bodyGuaranteeRelease_keepsMem : bodyGuaranteeRelease.keepsMem := by
  intro n c t h; simp only [bodyGuaranteeRelease]; (repeat' (first | assumption | (simp; done) | (simp [*]; done) | split | (refine foldl_canon _ (fun _ _ h0 => ?_) _ _ ?_) | (refine foldl_canon2 _ (fun _ _ h0 => ?_) _ _ ?_) | (refine pair_canon (by assumption) ?_) | (refine trip_canon (by assumption) ?_) | (refine pair1_canon (by assumption) ?_) | (dsimp only) | (simp (disch := first | assumption | (refine pair_canon (by assumption) ?_; simp [*]; done) | (refine trip_canon (by assumption) ?_; simp [*]; done) | (simp [*]; done)); done) | simp))

theorem bodyPowerLimitSet_keepsMem : bodyPowerLimitSet.keepsMem := by
  intro n c t h; simp only [bodyPowerLimitSet]; (repeat' (first | assumption | (simp; done) | (simp [*]; done) | split | (refine foldl_canon _ (fun _ _ h0 => ?_) _ _ ?_) | (refine foldl_canon2 _ (fun _ _ h0 => ?_) _ _ ?_) | (refine pair_canon (by assumption) ?_) | (refine trip_canon (by assumption) ?_) | (refine pair1_canon (by assumption) ?_) | (dsimp only) | (simp (disch := first | assumption | (refine pair_canon (by assumption) ?_; simp [*]; done) | (refine trip_canon (by assumption) ?_; simp [*]; done) | (simp [*]; done)); done) | simp))

theorem bodyShedQuery_keepsMem : bodyShedQuery.keepsMem := by
  intro n c t h; simp only [bodyShedQuery]; (repeat' (first | assumption | (simp; done) | (simp [*]; done) | split | (refine foldl_canon _ (fun _ _ h0 => ?_) _ _ ?_) | (refine foldl_canon2 _ (fun _ _ h0 => ?_) _ _ ?_) | (refine pair_canon (by assumption) ?_) | (refine trip_canon (by assumption) ?_) | (refine pair1_canon (by assumption) ?_) | (dsimp only) | (simp (disch := first | assumption | (refine pair_canon (by assumption) ?_; simp [*]; done) | (refine trip_canon (by assumption) ?_; simp [*]; done) | (simp [*]; done)); done) | simp))

theorem bodyFoldMap_keepsMem : bodyFoldMap.keepsMem := by
  intro n c t h; simp only [bodyFoldMap]; (repeat' (first | assumption | (simp; done) | (simp [*]; done) | split | (refine foldl_canon _ (fun _ _ h0 => ?_) _ _ ?_) | (refine foldl_canon2 _ (fun _ _ h0 => ?_) _ _ ?_) | (refine pair_canon (by assumption) ?_) | (refine trip_canon (by assumption) ?_) | (refine pair1_canon (by assumption) ?_) | (dsimp only) | (simp (disch := first | assumption | (refine pair_canon (by assumption) ?_; simp [*]; done) | (refine trip_canon (by assumption) ?_; simp [*]; done) | (simp [*]; done)); done) | simp))

theorem bodyFoldCreate_keepsMem : bodyFoldCreate.keepsMem := by
  intro n c t h; simp only [bodyFoldCreate]; (repeat' (first | assumption | (simp; done) | (simp [*]; done) | split | (refine foldl_canon _ (fun _ _ h0 => ?_) _ _ ?_) | (refine foldl_canon2 _ (fun _ _ h0 => ?_) _ _ ?_) | (refine pair_canon (by assumption) ?_) | (refine trip_canon (by assumption) ?_) | (refine pair1_canon (by assumption) ?_) | (dsimp only) | (simp (disch := first | assumption | (refine pair_canon (by assumption) ?_; simp [*]; done) | (refine trip_canon (by assumption) ?_; simp [*]; done) | (simp [*]; done)); done) | simp))

theorem bodyFoldDestroy_keepsMem : bodyFoldDestroy.keepsMem := by
  intro n c t h; simp only [bodyFoldDestroy]; (repeat' (first | assumption | (simp; done) | (simp [*]; done) | split | (refine foldl_canon _ (fun _ _ h0 => ?_) _ _ ?_) | (refine foldl_canon2 _ (fun _ _ h0 => ?_) _ _ ?_) | (refine pair_canon (by assumption) ?_) | (refine trip_canon (by assumption) ?_) | (refine pair1_canon (by assumption) ?_) | (dsimp only) | (simp (disch := first | assumption | (refine pair_canon (by assumption) ?_; simp [*]; done) | (refine trip_canon (by assumption) ?_; simp [*]; done) | (simp [*]; done)); done) | simp))

theorem bodyFoldArm_keepsMem : bodyFoldArm.keepsMem := by
  intro n c t h; simp only [bodyFoldArm]; (repeat' (first | assumption | (simp; done) | (simp [*]; done) | split | (refine foldl_canon _ (fun _ _ h0 => ?_) _ _ ?_) | (refine foldl_canon2 _ (fun _ _ h0 => ?_) _ _ ?_) | (refine pair_canon (by assumption) ?_) | (refine trip_canon (by assumption) ?_) | (refine pair1_canon (by assumption) ?_) | (dsimp only) | (simp (disch := first | assumption | (refine pair_canon (by assumption) ?_; simp [*]; done) | (refine trip_canon (by assumption) ?_; simp [*]; done) | (simp [*]; done)); done) | simp))

theorem bodyFoldQuery_keepsMem : bodyFoldQuery.keepsMem := by
  intro n c t h; simp only [bodyFoldQuery]; (repeat' (first | assumption | (simp; done) | (simp [*]; done) | split | (refine foldl_canon _ (fun _ _ h0 => ?_) _ _ ?_) | (refine foldl_canon2 _ (fun _ _ h0 => ?_) _ _ ?_) | (refine pair_canon (by assumption) ?_) | (refine trip_canon (by assumption) ?_) | (refine pair1_canon (by assumption) ?_) | (dsimp only) | (simp (disch := first | assumption | (refine pair_canon (by assumption) ?_; simp [*]; done) | (refine trip_canon (by assumption) ?_; simp [*]; done) | (simp [*]; done)); done) | simp))

theorem bodyFoldOp_keepsMem : bodyFoldOp.keepsMem := by
  intro n c t h; simp only [bodyFoldOp]; (repeat' (first | assumption | (simp; done) | (simp [*]; done) | split | (refine foldl_canon _ (fun _ _ h0 => ?_) _ _ ?_) | (refine foldl_canon2 _ (fun _ _ h0 => ?_) _ _ ?_) | (refine pair_canon (by assumption) ?_) | (refine trip_canon (by assumption) ?_) | (refine pair1_canon (by assumption) ?_) | (dsimp only) | (simp (disch := first | assumption | (refine pair_canon (by assumption) ?_; simp [*]; done) | (refine trip_canon (by assumption) ?_; simp [*]; done) | (simp [*]; done)); done) | simp))

theorem bodyFoldDump_keepsMem : bodyFoldDump.keepsMem := by
  intro n c t h; simp only [bodyFoldDump]; (repeat' (first | assumption | (simp; done) | (simp [*]; done) | split | (refine foldl_canon _ (fun _ _ h0 => ?_) _ _ ?_) | (refine foldl_canon2 _ (fun _ _ h0 => ?_) _ _ ?_) | (refine pair_canon (by assumption) ?_) | (refine trip_canon (by assumption) ?_) | (refine pair1_canon (by assumption) ?_) | (dsimp only) | (simp (disch := first | assumption | (refine pair_canon (by assumption) ?_; simp [*]; done) | (refine trip_canon (by assumption) ?_; simp [*]; done) | (simp [*]; done)); done) | simp))

theorem bodyPopSet_keepsMem : bodyPopSet.keepsMem := by
  intro n c t h; simp only [bodyPopSet]; (repeat' (first | assumption | (simp; done) | (simp [*]; done) | split | (refine foldl_canon _ (fun _ _ h0 => ?_) _ _ ?_) | (refine foldl_canon2 _ (fun _ _ h0 => ?_) _ _ ?_) | (refine pair_canon (by assumption) ?_) | (refine trip_canon (by assumption) ?_) | (refine pair1_canon (by assumption) ?_) | (dsimp only) | (simp (disch := first | assumption | (refine pair_canon (by assumption) ?_; simp [*]; done) | (refine trip_canon (by assumption) ?_; simp [*]; done) | (simp [*]; done)); done) | simp))

theorem bodyPopClear_keepsMem : bodyPopClear.keepsMem := by
  intro n c t h; simp only [bodyPopClear]; (repeat' (first | assumption | (simp; done) | (simp [*]; done) | split | (refine foldl_canon _ (fun _ _ h0 => ?_) _ _ ?_) | (refine foldl_canon2 _ (fun _ _ h0 => ?_) _ _ ?_) | (refine pair_canon (by assumption) ?_) | (refine trip_canon (by assumption) ?_) | (refine pair1_canon (by assumption) ?_) | (dsimp only) | (simp (disch := first | assumption | (refine pair_canon (by assumption) ?_; simp [*]; done) | (refine trip_canon (by assumption) ?_; simp [*]; done) | (simp [*]; done)); done) | simp))

theorem bodyPopUntaint_keepsMem : bodyPopUntaint.keepsMem := by
  intro n c t h; simp only [bodyPopUntaint]; (repeat' (first | assumption | (simp; done) | (simp [*]; done) | split | (refine foldl_canon _ (fun _ _ h0 => ?_) _ _ ?_) | (refine foldl_canon2 _ (fun _ _ h0 => ?_) _ _ ?_) | (refine pair_canon (by assumption) ?_) | (refine trip_canon (by assumption) ?_) | (refine pair1_canon (by assumption) ?_) | (dsimp only) | (simp (disch := first | assumption | (refine pair_canon (by assumption) ?_; simp [*]; done) | (refine trip_canon (by assumption) ?_; simp [*]; done) | (simp [*]; done)); done) | simp))

theorem bodyEvrouteSet_keepsMem : bodyEvrouteSet.keepsMem := by
  intro n c t h; simp only [bodyEvrouteSet]; (repeat' (first | assumption | (simp; done) | (simp [*]; done) | split | (refine foldl_canon _ (fun _ _ h0 => ?_) _ _ ?_) | (refine foldl_canon2 _ (fun _ _ h0 => ?_) _ _ ?_) | (refine pair_canon (by assumption) ?_) | (refine trip_canon (by assumption) ?_) | (refine pair1_canon (by assumption) ?_) | (dsimp only) | (simp (disch := first | assumption | (refine pair_canon (by assumption) ?_; simp [*]; done) | (refine trip_canon (by assumption) ?_; simp [*]; done) | (simp [*]; done)); done) | simp))

theorem bodyPopQuery_keepsMem : bodyPopQuery.keepsMem := by
  intro n c t h; simp only [bodyPopQuery]; (repeat' (first | assumption | (simp; done) | (simp [*]; done) | split | (refine foldl_canon _ (fun _ _ h0 => ?_) _ _ ?_) | (refine foldl_canon2 _ (fun _ _ h0 => ?_) _ _ ?_) | (refine pair_canon (by assumption) ?_) | (refine trip_canon (by assumption) ?_) | (refine pair1_canon (by assumption) ?_) | (dsimp only) | (simp (disch := first | assumption | (refine pair_canon (by assumption) ?_; simp [*]; done) | (refine trip_canon (by assumption) ?_; simp [*]; done) | (simp [*]; done)); done) | simp))

theorem bodyPopStage_keepsMem : bodyPopStage.keepsMem := by
  intro n c t h; simp only [bodyPopStage]; (repeat' (first | assumption | (simp; done) | (simp [*]; done) | split | (refine foldl_canon _ (fun _ _ h0 => ?_) _ _ ?_) | (refine foldl_canon2 _ (fun _ _ h0 => ?_) _ _ ?_) | (refine pair_canon (by assumption) ?_) | (refine trip_canon (by assumption) ?_) | (refine pair1_canon (by assumption) ?_) | (dsimp only) | (simp (disch := first | assumption | (refine pair_canon (by assumption) ?_; simp [*]; done) | (refine trip_canon (by assumption) ?_; simp [*]; done) | (simp [*]; done)); done) | simp))

theorem bodyPopUnstage_keepsMem : bodyPopUnstage.keepsMem := by
  intro n c t h; simp only [bodyPopUnstage]; (repeat' (first | assumption | (simp; done) | (simp [*]; done) | split | (refine foldl_canon _ (fun _ _ h0 => ?_) _ _ ?_) | (refine foldl_canon2 _ (fun _ _ h0 => ?_) _ _ ?_) | (refine pair_canon (by assumption) ?_) | (refine trip_canon (by assumption) ?_) | (refine pair1_canon (by assumption) ?_) | (dsimp only) | (simp (disch := first | assumption | (refine pair_canon (by assumption) ?_; simp [*]; done) | (refine trip_canon (by assumption) ?_; simp [*]; done) | (simp [*]; done)); done) | simp))

theorem bodyStep_keepsMem : bodyStep.keepsMem := by
  intro n c t h; simp only [bodyStep]; (repeat' (first | assumption | (simp; done) | (simp [*]; done) | split | (refine foldl_canon _ (fun _ _ h0 => ?_) _ _ ?_) | (refine foldl_canon2 _ (fun _ _ h0 => ?_) _ _ ?_) | (refine pair_canon (by assumption) ?_) | (refine trip_canon (by assumption) ?_) | (refine pair1_canon (by assumption) ?_) | (dsimp only) | (simp (disch := first | assumption | (refine pair_canon (by assumption) ?_; simp [*]; done) | (refine trip_canon (by assumption) ?_; simp [*]; done) | (simp [*]; done)); done) | simp))

theorem bodiesEngine_keepMem : ∀ b ∈ bodiesEngine, b.keepsMem :=
  all_cons bodyShareSet_keepsMem <|
  all_cons bodyUrgencySet_keepsMem <|
  all_cons bodyLatencySet_keepsMem <|
  all_cons bodyBudgetSet_keepsMem <|
  all_cons bodyAdmit_keepsMem <|
  all_cons bodyGuaranteeRelease_keepsMem <|
  all_cons bodyPowerLimitSet_keepsMem <|
  all_cons bodyShedQuery_keepsMem <|
  all_cons bodyFoldMap_keepsMem <|
  all_cons bodyFoldCreate_keepsMem <|
  all_cons bodyFoldDestroy_keepsMem <|
  all_cons bodyFoldArm_keepsMem <|
  all_cons bodyFoldOp_keepsMem <|
  all_cons bodyFoldQuery_keepsMem <|
  all_cons bodyFoldDump_keepsMem <|
  all_cons bodyPopSet_keepsMem <|
  all_cons bodyPopClear_keepsMem <|
  all_cons bodyPopQuery_keepsMem <|
  all_cons bodyPopStage_keepsMem <|
  all_cons bodyPopUnstage_keepsMem <|
  all_cons bodyStep_keepsMem <|
  all_cons bodyPopUntaint_keepsMem <|
  all_cons bodyEvrouteSet_keepsMem <| all_nil

theorem bodyWindowSet_keepsMem : bodyWindowSet.keepsMem := by
  intro n c t h; simp only [bodyWindowSet]; (repeat' (first | assumption | (simp; done) | (simp [*]; done) | split | (refine foldl_canon _ (fun _ _ h0 => ?_) _ _ ?_) | (refine foldl_canon2 _ (fun _ _ h0 => ?_) _ _ ?_) | (refine pair_canon (by assumption) ?_) | (refine trip_canon (by assumption) ?_) | (refine pair1_canon (by assumption) ?_) | (dsimp only) | (simp (disch := first | assumption | (refine pair_canon (by assumption) ?_; simp [*]; done) | (refine trip_canon (by assumption) ?_; simp [*]; done) | (simp [*]; done)); done) | simp))

theorem bodyWindowClear_keepsMem : bodyWindowClear.keepsMem := by
  intro n c t h; simp only [bodyWindowClear]; (repeat' (first | assumption | (simp; done) | (simp [*]; done) | split | (refine foldl_canon _ (fun _ _ h0 => ?_) _ _ ?_) | (refine foldl_canon2 _ (fun _ _ h0 => ?_) _ _ ?_) | (refine pair_canon (by assumption) ?_) | (refine trip_canon (by assumption) ?_) | (refine pair1_canon (by assumption) ?_) | (dsimp only) | (simp (disch := first | assumption | (refine pair_canon (by assumption) ?_; simp [*]; done) | (refine trip_canon (by assumption) ?_; simp [*]; done) | (simp [*]; done)); done) | simp))

theorem bodyWindowQuery_keepsMem : bodyWindowQuery.keepsMem := by
  intro n c t h; simp only [bodyWindowQuery]; (repeat' (first | assumption | (simp; done) | (simp [*]; done) | split | (refine foldl_canon _ (fun _ _ h0 => ?_) _ _ ?_) | (refine foldl_canon2 _ (fun _ _ h0 => ?_) _ _ ?_) | (refine pair_canon (by assumption) ?_) | (refine trip_canon (by assumption) ?_) | (refine pair1_canon (by assumption) ?_) | (dsimp only) | (simp (disch := first | assumption | (refine pair_canon (by assumption) ?_; simp [*]; done) | (refine trip_canon (by assumption) ?_; simp [*]; done) | (simp [*]; done)); done) | simp))

theorem bodyChipIdSet_keepsMem : bodyChipIdSet.keepsMem := by
  intro n c t h; simp only [bodyChipIdSet]; (repeat' (first | assumption | (simp; done) | (simp [*]; done) | split | (refine foldl_canon _ (fun _ _ h0 => ?_) _ _ ?_) | (refine foldl_canon2 _ (fun _ _ h0 => ?_) _ _ ?_) | (refine pair_canon (by assumption) ?_) | (refine trip_canon (by assumption) ?_) | (refine pair1_canon (by assumption) ?_) | (dsimp only) | (simp (disch := first | assumption | (refine pair_canon (by assumption) ?_; simp [*]; done) | (refine trip_canon (by assumption) ?_; simp [*]; done) | (simp [*]; done)); done) | simp))

theorem bodyEpochSet_keepsMem : bodyEpochSet.keepsMem := by
  intro n c t h; simp only [bodyEpochSet]; (repeat' (first | assumption | (simp; done) | (simp [*]; done) | split | (refine foldl_canon _ (fun _ _ h0 => ?_) _ _ ?_) | (refine foldl_canon2 _ (fun _ _ h0 => ?_) _ _ ?_) | (refine pair_canon (by assumption) ?_) | (refine trip_canon (by assumption) ?_) | (refine pair1_canon (by assumption) ?_) | (dsimp only) | (simp (disch := first | assumption | (refine pair_canon (by assumption) ?_; simp [*]; done) | (refine trip_canon (by assumption) ?_; simp [*]; done) | (simp [*]; done)); done) | simp))

theorem bodyRetrySet_keepsMem : bodyRetrySet.keepsMem := by
  intro n c t h; simp only [bodyRetrySet]; (repeat' (first | assumption | (simp; done) | (simp [*]; done) | split | (refine foldl_canon _ (fun _ _ h0 => ?_) _ _ ?_) | (refine foldl_canon2 _ (fun _ _ h0 => ?_) _ _ ?_) | (refine pair_canon (by assumption) ?_) | (refine trip_canon (by assumption) ?_) | (refine pair1_canon (by assumption) ?_) | (dsimp only) | (simp (disch := first | assumption | (refine pair_canon (by assumption) ?_; simp [*]; done) | (refine trip_canon (by assumption) ?_; simp [*]; done) | (simp [*]; done)); done) | simp))

theorem bodyLinkQuery_keepsMem : bodyLinkQuery.keepsMem := by
  intro n c t h; simp only [bodyLinkQuery]; (repeat' (first | assumption | (simp; done) | (simp [*]; done) | split | (refine foldl_canon _ (fun _ _ h0 => ?_) _ _ ?_) | (refine foldl_canon2 _ (fun _ _ h0 => ?_) _ _ ?_) | (refine pair_canon (by assumption) ?_) | (refine trip_canon (by assumption) ?_) | (refine pair1_canon (by assumption) ?_) | (dsimp only) | (simp (disch := first | assumption | (refine pair_canon (by assumption) ?_; simp [*]; done) | (refine trip_canon (by assumption) ?_; simp [*]; done) | (simp [*]; done)); done) | simp))

theorem bodyLinkReset_keepsMem : bodyLinkReset.keepsMem := by
  intro n c t h; simp only [bodyLinkReset]; (repeat' (first | assumption | (simp; done) | (simp [*]; done) | split | (refine foldl_canon _ (fun _ _ h0 => ?_) _ _ ?_) | (refine foldl_canon2 _ (fun _ _ h0 => ?_) _ _ ?_) | (refine pair_canon (by assumption) ?_) | (refine trip_canon (by assumption) ?_) | (refine pair1_canon (by assumption) ?_) | (dsimp only) | (simp (disch := first | assumption | (refine pair_canon (by assumption) ?_; simp [*]; done) | (refine trip_canon (by assumption) ?_; simp [*]; done) | (simp [*]; done)); done) | simp))

theorem bodyDrvFill_keepsMem : bodyDrvFill.keepsMem := by
  intro n c t h; simp only [bodyDrvFill]; (repeat' (first | assumption | (simp; done) | (simp [*]; done) | split | (refine foldl_canon _ (fun _ _ h0 => ?_) _ _ ?_) | (refine foldl_canon2 _ (fun _ _ h0 => ?_) _ _ ?_) | (refine pair_canon (by assumption) ?_) | (refine trip_canon (by assumption) ?_) | (refine pair1_canon (by assumption) ?_) | (dsimp only) | (simp (disch := first | assumption | (refine pair_canon (by assumption) ?_; simp [*]; done) | (refine trip_canon (by assumption) ?_; simp [*]; done) | (simp [*]; done)); done) | simp))

theorem bodyDrvCopy_keepsMem : bodyDrvCopy.keepsMem := by
  intro n c t h; simp only [bodyDrvCopy]; (repeat' (first | assumption | (simp; done) | (simp [*]; done) | split | (refine foldl_canon _ (fun _ _ h0 => ?_) _ _ ?_) | (refine foldl_canon2 _ (fun _ _ h0 => ?_) _ _ ?_) | (refine pair_canon (by assumption) ?_) | (refine trip_canon (by assumption) ?_) | (refine pair1_canon (by assumption) ?_) | (dsimp only) | (simp (disch := first | assumption | (refine pair_canon (by assumption) ?_; simp [*]; done) | (refine trip_canon (by assumption) ?_; simp [*]; done) | (simp [*]; done)); done) | simp))

theorem bodyDrvConvert_keepsMem : bodyDrvConvert.keepsMem := by
  intro n c t h; simp only [bodyDrvConvert]; (repeat' (first | assumption | (simp; done) | (simp [*]; done) | split | (refine foldl_canon _ (fun _ _ h0 => ?_) _ _ ?_) | (refine foldl_canon2 _ (fun _ _ h0 => ?_) _ _ ?_) | (refine pair_canon (by assumption) ?_) | (refine trip_canon (by assumption) ?_) | (refine pair1_canon (by assumption) ?_) | (dsimp only) | (simp (disch := first | assumption | (refine pair_canon (by assumption) ?_; simp [*]; done) | (refine trip_canon (by assumption) ?_; simp [*]; done) | (simp [*]; done)); done) | simp))

theorem bodyDrvCancel_keepsMem : bodyDrvCancel.keepsMem := by
  intro n c t h; simp only [bodyDrvCancel]; (repeat' (first | assumption | (simp; done) | (simp [*]; done) | split | (refine foldl_canon _ (fun _ _ h0 => ?_) _ _ ?_) | (refine foldl_canon2 _ (fun _ _ h0 => ?_) _ _ ?_) | (refine pair_canon (by assumption) ?_) | (refine trip_canon (by assumption) ?_) | (refine pair1_canon (by assumption) ?_) | (dsimp only) | (simp (disch := first | assumption | (refine pair_canon (by assumption) ?_; simp [*]; done) | (refine trip_canon (by assumption) ?_; simp [*]; done) | (simp [*]; done)); done) | simp))

theorem bodyDrvQuery_keepsMem : bodyDrvQuery.keepsMem := by
  intro n c t h; simp only [bodyDrvQuery]; (repeat' (first | assumption | (simp; done) | (simp [*]; done) | split | (refine foldl_canon _ (fun _ _ h0 => ?_) _ _ ?_) | (refine foldl_canon2 _ (fun _ _ h0 => ?_) _ _ ?_) | (refine pair_canon (by assumption) ?_) | (refine trip_canon (by assumption) ?_) | (refine pair1_canon (by assumption) ?_) | (dsimp only) | (simp (disch := first | assumption | (refine pair_canon (by assumption) ?_; simp [*]; done) | (refine trip_canon (by assumption) ?_; simp [*]; done) | (simp [*]; done)); done) | simp))

theorem bodyScrubSet_keepsMem : bodyScrubSet.keepsMem := by
  intro n c t h; simp only [bodyScrubSet]; (repeat' (first | assumption | (simp; done) | (simp [*]; done) | split | (refine foldl_canon _ (fun _ _ h0 => ?_) _ _ ?_) | (refine foldl_canon2 _ (fun _ _ h0 => ?_) _ _ ?_) | (refine pair_canon (by assumption) ?_) | (refine trip_canon (by assumption) ?_) | (refine pair1_canon (by assumption) ?_) | (dsimp only) | (simp (disch := first | assumption | (refine pair_canon (by assumption) ?_; simp [*]; done) | (refine trip_canon (by assumption) ?_; simp [*]; done) | (simp [*]; done)); done) | simp))

theorem bodyPatchSet_keepsMem : bodyPatchSet.keepsMem := by
  intro n c t h
  change canon (if c.flag 6 0 = true then _ else _ : State).store
  split
  · exact State.installPatch_canon _ _ _ _ h
  · exact State.removePatch_canon _ _ _ h

theorem bodyPatchQuery_keepsMem : bodyPatchQuery.keepsMem := by
  intro n c t h; simp only [bodyPatchQuery]; (repeat' (first | assumption | (simp; done) | (simp [*]; done) | split | (refine foldl_canon _ (fun _ _ h0 => ?_) _ _ ?_) | (refine foldl_canon2 _ (fun _ _ h0 => ?_) _ _ ?_) | (refine pair_canon (by assumption) ?_) | (refine trip_canon (by assumption) ?_) | (refine pair1_canon (by assumption) ?_) | (dsimp only) | (simp (disch := first | assumption | (refine pair_canon (by assumption) ?_; simp [*]; done) | (refine trip_canon (by assumption) ?_; simp [*]; done) | (simp [*]; done)); done) | simp))

theorem bodyLaneRetire_keepsMem : bodyLaneRetire.keepsMem := by
  intro n c t h; simp only [bodyLaneRetire]; (repeat' (first | assumption | (simp; done) | (simp [*]; done) | split | (refine foldl_canon _ (fun _ _ h0 => ?_) _ _ ?_) | (refine foldl_canon2 _ (fun _ _ h0 => ?_) _ _ ?_) | (refine pair_canon (by assumption) ?_) | (refine trip_canon (by assumption) ?_) | (refine pair1_canon (by assumption) ?_) | (dsimp only) | (simp (disch := first | assumption | (refine pair_canon (by assumption) ?_; simp [*]; done) | (refine trip_canon (by assumption) ?_; simp [*]; done) | (simp [*]; done)); done) | simp))

theorem bodyIntegQuery_keepsMem : bodyIntegQuery.keepsMem := by
  intro n c t h; simp only [bodyIntegQuery]; (repeat' (first | assumption | (simp; done) | (simp [*]; done) | split | (refine foldl_canon _ (fun _ _ h0 => ?_) _ _ ?_) | (refine foldl_canon2 _ (fun _ _ h0 => ?_) _ _ ?_) | (refine pair_canon (by assumption) ?_) | (refine trip_canon (by assumption) ?_) | (refine pair1_canon (by assumption) ?_) | (dsimp only) | (simp (disch := first | assumption | (refine pair_canon (by assumption) ?_; simp [*]; done) | (refine trip_canon (by assumption) ?_; simp [*]; done) | (simp [*]; done)); done) | simp))

theorem bodyFlipArm_keepsMem : bodyFlipArm.keepsMem := by
  intro n c t h; simp only [bodyFlipArm]; (repeat' (first | assumption | (simp; done) | (simp [*]; done) | split | (refine foldl_canon _ (fun _ _ h0 => ?_) _ _ ?_) | (refine foldl_canon2 _ (fun _ _ h0 => ?_) _ _ ?_) | (refine pair_canon (by assumption) ?_) | (refine trip_canon (by assumption) ?_) | (refine pair1_canon (by assumption) ?_) | (dsimp only) | (simp (disch := first | assumption | (refine pair_canon (by assumption) ?_; simp [*]; done) | (refine trip_canon (by assumption) ?_; simp [*]; done) | (simp [*]; done)); done) | simp))

theorem bodyDrvEvacuate_keepsMem : bodyDrvEvacuate.keepsMem := by
  intro n c t h; simp only [bodyDrvEvacuate]; (repeat' (first | assumption | (simp; done) | (simp [*]; done) | split | (refine foldl_canon _ (fun _ _ h0 => ?_) _ _ ?_) | (refine foldl_canon2 _ (fun _ _ h0 => ?_) _ _ ?_) | (refine pair_canon (by assumption) ?_) | (refine trip_canon (by assumption) ?_) | (refine pair1_canon (by assumption) ?_) | (dsimp only) | (simp (disch := first | assumption | (refine pair_canon (by assumption) ?_; simp [*]; done) | (refine trip_canon (by assumption) ?_; simp [*]; done) | (simp [*]; done)); done) | simp))

theorem bodyBistRun_keepsMem : bodyBistRun.keepsMem := by
  intro n c t h; simp only [bodyBistRun]; (repeat' (first | assumption | (simp; done) | (simp [*]; done) | split | (refine foldl_canon _ (fun _ _ h0 => ?_) _ _ ?_) | (refine foldl_canon2 _ (fun _ _ h0 => ?_) _ _ ?_) | (refine pair_canon (by assumption) ?_) | (refine trip_canon (by assumption) ?_) | (refine pair1_canon (by assumption) ?_) | (dsimp only) | (simp (disch := first | assumption | (refine pair_canon (by assumption) ?_; simp [*]; done) | (refine trip_canon (by assumption) ?_; simp [*]; done) | (simp [*]; done)); done) | simp))

theorem bodyBistQuery_keepsMem : bodyBistQuery.keepsMem := by
  intro n c t h; simp only [bodyBistQuery]; (repeat' (first | assumption | (simp; done) | (simp [*]; done) | split | (refine foldl_canon _ (fun _ _ h0 => ?_) _ _ ?_) | (refine foldl_canon2 _ (fun _ _ h0 => ?_) _ _ ?_) | (refine pair_canon (by assumption) ?_) | (refine trip_canon (by assumption) ?_) | (refine pair1_canon (by assumption) ?_) | (dsimp only) | (simp (disch := first | assumption | (refine pair_canon (by assumption) ?_; simp [*]; done) | (refine trip_canon (by assumption) ?_; simp [*]; done) | (simp [*]; done)); done) | simp))

theorem bodyPenBank_keepsMem : bodyPenBank.keepsMem := by
  intro n c t h; simp only [bodyPenBank]; (repeat' (first | assumption | (simp; done) | (simp [*]; done) | split | (refine foldl_canon _ (fun _ _ h0 => ?_) _ _ ?_) | (refine foldl_canon2 _ (fun _ _ h0 => ?_) _ _ ?_) | (refine pair_canon (by assumption) ?_) | (refine trip_canon (by assumption) ?_) | (refine pair1_canon (by assumption) ?_) | (dsimp only) | (simp (disch := first | assumption | (refine pair_canon (by assumption) ?_; simp [*]; done) | (refine trip_canon (by assumption) ?_; simp [*]; done) | (simp [*]; done)); done) | simp))

theorem bodiesUpkeep_keepMem : ∀ b ∈ bodiesUpkeep, b.keepsMem :=
  all_cons bodyDrvFill_keepsMem <|
  all_cons bodyDrvCopy_keepsMem <|
  all_cons bodyDrvConvert_keepsMem <|
  all_cons bodyDrvEvacuate_keepsMem <|
  all_cons bodyDrvCancel_keepsMem <|
  all_cons bodyDrvQuery_keepsMem <|
  all_cons bodyWindowSet_keepsMem <|
  all_cons bodyWindowClear_keepsMem <|
  all_cons bodyWindowQuery_keepsMem <|
  all_cons bodyChipIdSet_keepsMem <|
  all_cons bodyEpochSet_keepsMem <|
  all_cons bodyLinkReset_keepsMem <|
  all_cons bodyLinkQuery_keepsMem <|
  all_cons bodyRetrySet_keepsMem <|
  all_cons bodyScrubSet_keepsMem <|
  all_cons bodyPatchSet_keepsMem <|
  all_cons bodyPatchQuery_keepsMem <|
  all_cons bodyLaneRetire_keepsMem <|
  all_cons bodyIntegQuery_keepsMem <|
  all_cons bodyBistRun_keepsMem <|
  all_cons bodyBistQuery_keepsMem <|
  all_cons bodyPenBank_keepsMem <|
  all_cons bodyFlipArm_keepsMem <| all_nil

theorem bodyFlipMaskSet_keepsMem : bodyFlipMaskSet.keepsMem := by
  intro n c t h; simp only [bodyFlipMaskSet]; (repeat' (first | assumption | (simp; done) | (simp [*]; done) | split | (refine foldl_canon _ (fun _ _ h0 => ?_) _ _ ?_) | (refine foldl_canon2 _ (fun _ _ h0 => ?_) _ _ ?_) | (refine pair_canon (by assumption) ?_) | (refine trip_canon (by assumption) ?_) | (refine pair1_canon (by assumption) ?_) | (dsimp only) | (simp (disch := first | assumption | (refine pair_canon (by assumption) ?_; simp [*]; done) | (refine trip_canon (by assumption) ?_; simp [*]; done) | (simp [*]; done)); done) | simp))

theorem bodyPwrStateSet_keepsMem : bodyPwrStateSet.keepsMem := by
  intro n c t h; simp only [bodyPwrStateSet]; (repeat' (first | assumption | (simp; done) | (simp [*]; done) | split | (refine foldl_canon _ (fun _ _ h0 => ?_) _ _ ?_) | (refine foldl_canon2 _ (fun _ _ h0 => ?_) _ _ ?_) | (refine pair_canon (by assumption) ?_) | (refine trip_canon (by assumption) ?_) | (refine pair1_canon (by assumption) ?_) | (dsimp only) | (simp (disch := first | assumption | (refine pair_canon (by assumption) ?_; simp [*]; done) | (refine trip_canon (by assumption) ?_; simp [*]; done) | (simp [*]; done)); done) | simp))

theorem bodyIdleTimerSet_keepsMem : bodyIdleTimerSet.keepsMem := by
  intro n c t h; simp only [bodyIdleTimerSet]; (repeat' (first | assumption | (simp; done) | (simp [*]; done) | split | (refine foldl_canon _ (fun _ _ h0 => ?_) _ _ ?_) | (refine foldl_canon2 _ (fun _ _ h0 => ?_) _ _ ?_) | (refine pair_canon (by assumption) ?_) | (refine trip_canon (by assumption) ?_) | (refine pair1_canon (by assumption) ?_) | (dsimp only) | (simp (disch := first | assumption | (refine pair_canon (by assumption) ?_; simp [*]; done) | (refine trip_canon (by assumption) ?_; simp [*]; done) | (simp [*]; done)); done) | simp))

theorem bodyOppointSet_keepsMem : bodyOppointSet.keepsMem := by
  intro n c t h; simp only [bodyOppointSet]; (repeat' (first | assumption | (simp; done) | (simp [*]; done) | split | (refine foldl_canon _ (fun _ _ h0 => ?_) _ _ ?_) | (refine foldl_canon2 _ (fun _ _ h0 => ?_) _ _ ?_) | (refine pair_canon (by assumption) ?_) | (refine trip_canon (by assumption) ?_) | (refine pair1_canon (by assumption) ?_) | (dsimp only) | (simp (disch := first | assumption | (refine pair_canon (by assumption) ?_; simp [*]; done) | (refine trip_canon (by assumption) ?_; simp [*]; done) | (simp [*]; done)); done) | simp))

theorem bodyPwrQuery_keepsMem : bodyPwrQuery.keepsMem := by
  intro n c t h; simp only [bodyPwrQuery]; (repeat' (first | assumption | (simp; done) | (simp [*]; done) | split | (refine foldl_canon _ (fun _ _ h0 => ?_) _ _ ?_) | (refine foldl_canon2 _ (fun _ _ h0 => ?_) _ _ ?_) | (refine pair_canon (by assumption) ?_) | (refine trip_canon (by assumption) ?_) | (refine pair1_canon (by assumption) ?_) | (dsimp only) | (simp (disch := first | assumption | (refine pair_canon (by assumption) ?_; simp [*]; done) | (refine trip_canon (by assumption) ?_; simp [*]; done) | (simp [*]; done)); done) | simp))

theorem bodyTimeSet_keepsMem : bodyTimeSet.keepsMem := by
  intro n c t h; simp only [bodyTimeSet]; rw [Act.ok_state, State.powerEvent_store, State.onTime_store]; exact h

theorem bodyTimeQuery_keepsMem : bodyTimeQuery.keepsMem := by
  intro n c t h; simp only [bodyTimeQuery]; (repeat' (first | assumption | (simp; done) | (simp [*]; done) | split | (refine foldl_canon _ (fun _ _ h0 => ?_) _ _ ?_) | (refine foldl_canon2 _ (fun _ _ h0 => ?_) _ _ ?_) | (refine pair_canon (by assumption) ?_) | (refine trip_canon (by assumption) ?_) | (refine pair1_canon (by assumption) ?_) | (dsimp only) | (simp (disch := first | assumption | (refine pair_canon (by assumption) ?_; simp [*]; done) | (refine trip_canon (by assumption) ?_; simp [*]; done) | (simp [*]; done)); done) | simp))

theorem bodyTsyncCfg_keepsMem : bodyTsyncCfg.keepsMem := by
  intro n c t h; simp only [bodyTsyncCfg]; (repeat' (first | assumption | (simp; done) | (simp [*]; done) | split | (refine foldl_canon _ (fun _ _ h0 => ?_) _ _ ?_) | (refine foldl_canon2 _ (fun _ _ h0 => ?_) _ _ ?_) | (refine pair_canon (by assumption) ?_) | (refine trip_canon (by assumption) ?_) | (refine pair1_canon (by assumption) ?_) | (dsimp only) | (simp (disch := first | assumption | (refine pair_canon (by assumption) ?_; simp [*]; done) | (refine trip_canon (by assumption) ?_; simp [*]; done) | (simp [*]; done)); done) | simp))

theorem bodyWakeAinCfg_keepsMem : bodyWakeAinCfg.keepsMem := by
  intro n c t h; simp only [bodyWakeAinCfg]; (repeat' (first | assumption | (simp; done) | (simp [*]; done) | split | (refine foldl_canon _ (fun _ _ h0 => ?_) _ _ ?_) | (refine foldl_canon2 _ (fun _ _ h0 => ?_) _ _ ?_) | (refine pair_canon (by assumption) ?_) | (refine trip_canon (by assumption) ?_) | (refine pair1_canon (by assumption) ?_) | (dsimp only) | (simp (disch := first | assumption | (refine pair_canon (by assumption) ?_; simp [*]; done) | (refine trip_canon (by assumption) ?_; simp [*]; done) | (simp [*]; done)); done) | simp))

theorem bodyTimerWakeSet_keepsMem : bodyTimerWakeSet.keepsMem := by
  intro n c t h; simp only [bodyTimerWakeSet]; (repeat' (first | assumption | (simp; done) | (simp [*]; done) | split | (refine foldl_canon _ (fun _ _ h0 => ?_) _ _ ?_) | (refine foldl_canon2 _ (fun _ _ h0 => ?_) _ _ ?_) | (refine pair_canon (by assumption) ?_) | (refine trip_canon (by assumption) ?_) | (refine pair1_canon (by assumption) ?_) | (dsimp only) | (simp (disch := first | assumption | (refine pair_canon (by assumption) ?_; simp [*]; done) | (refine trip_canon (by assumption) ?_; simp [*]; done) | (simp [*]; done)); done) | simp))

theorem bodyFwQuery_keepsMem : bodyFwQuery.keepsMem := by
  intro n c t h; simp only [bodyFwQuery]; (repeat' (first | assumption | (simp; done) | (simp [*]; done) | split | (refine foldl_canon _ (fun _ _ h0 => ?_) _ _ ?_) | (refine foldl_canon2 _ (fun _ _ h0 => ?_) _ _ ?_) | (refine pair_canon (by assumption) ?_) | (refine trip_canon (by assumption) ?_) | (refine pair1_canon (by assumption) ?_) | (dsimp only) | (simp (disch := first | assumption | (refine pair_canon (by assumption) ?_; simp [*]; done) | (refine trip_canon (by assumption) ?_; simp [*]; done) | (simp [*]; done)); done) | simp))

theorem bodyActivateAt_keepsMem : bodyActivateAt.keepsMem := by
  intro n c t h; simp only [bodyActivateAt]; (repeat' (first | assumption | (simp; done) | (simp [*]; done) | split | (refine foldl_canon _ (fun _ _ h0 => ?_) _ _ ?_) | (refine foldl_canon2 _ (fun _ _ h0 => ?_) _ _ ?_) | (refine pair_canon (by assumption) ?_) | (refine trip_canon (by assumption) ?_) | (refine pair1_canon (by assumption) ?_) | (dsimp only) | (simp (disch := first | assumption | (refine pair_canon (by assumption) ?_; simp [*]; done) | (refine trip_canon (by assumption) ?_; simp [*]; done) | (simp [*]; done)); done) | simp))

theorem bodyHealthOk_keepsMem : bodyHealthOk.keepsMem := by
  intro n c t h; simp only [bodyHealthOk]; (repeat' (first | assumption | (simp; done) | (simp [*]; done) | split | (refine foldl_canon _ (fun _ _ h0 => ?_) _ _ ?_) | (refine foldl_canon2 _ (fun _ _ h0 => ?_) _ _ ?_) | (refine pair_canon (by assumption) ?_) | (refine trip_canon (by assumption) ?_) | (refine pair1_canon (by assumption) ?_) | (dsimp only) | (simp (disch := first | assumption | (refine pair_canon (by assumption) ?_; simp [*]; done) | (refine trip_canon (by assumption) ?_; simp [*]; done) | (simp [*]; done)); done) | simp))

theorem bodyConfirmWindowSet_keepsMem : bodyConfirmWindowSet.keepsMem := by
  intro n c t h; simp only [bodyConfirmWindowSet]; (repeat' (first | assumption | (simp; done) | (simp [*]; done) | split | (refine foldl_canon _ (fun _ _ h0 => ?_) _ _ ?_) | (refine foldl_canon2 _ (fun _ _ h0 => ?_) _ _ ?_) | (refine pair_canon (by assumption) ?_) | (refine trip_canon (by assumption) ?_) | (refine pair1_canon (by assumption) ?_) | (dsimp only) | (simp (disch := first | assumption | (refine pair_canon (by assumption) ?_; simp [*]; done) | (refine trip_canon (by assumption) ?_; simp [*]; done) | (simp [*]; done)); done) | simp))

theorem bodySettingsRead_keepsMem : bodySettingsRead.keepsMem := by
  intro n c t h; simp only [bodySettingsRead]; (repeat' (first | assumption | (simp; done) | (simp [*]; done) | split | (refine foldl_canon _ (fun _ _ h0 => ?_) _ _ ?_) | (refine foldl_canon2 _ (fun _ _ h0 => ?_) _ _ ?_) | (refine pair_canon (by assumption) ?_) | (refine trip_canon (by assumption) ?_) | (refine pair1_canon (by assumption) ?_) | (dsimp only) | (simp (disch := first | assumption | (refine pair_canon (by assumption) ?_; simp [*]; done) | (refine trip_canon (by assumption) ?_; simp [*]; done) | (simp [*]; done)); done) | simp))

theorem bodySettingsWrite_keepsMem : bodySettingsWrite.keepsMem := by
  intro n c t h; simp only [bodySettingsWrite]; (repeat' (first | assumption | (simp; done) | (simp [*]; done) | split | (refine foldl_canon _ (fun _ _ h0 => ?_) _ _ ?_) | (refine foldl_canon2 _ (fun _ _ h0 => ?_) _ _ ?_) | (refine pair_canon (by assumption) ?_) | (refine trip_canon (by assumption) ?_) | (refine pair1_canon (by assumption) ?_) | (dsimp only) | (simp (disch := first | assumption | (refine pair_canon (by assumption) ?_; simp [*]; done) | (refine trip_canon (by assumption) ?_; simp [*]; done) | (simp [*]; done)); done) | simp))

theorem bodySettingsDefault_keepsMem : bodySettingsDefault.keepsMem := by
  intro n c t h; simp only [bodySettingsDefault]; (repeat' (first | assumption | (simp; done) | (simp [*]; done) | split | (refine foldl_canon _ (fun _ _ h0 => ?_) _ _ ?_) | (refine foldl_canon2 _ (fun _ _ h0 => ?_) _ _ ?_) | (refine pair_canon (by assumption) ?_) | (refine trip_canon (by assumption) ?_) | (refine pair1_canon (by assumption) ?_) | (dsimp only) | (simp (disch := first | assumption | (refine pair_canon (by assumption) ?_; simp [*]; done) | (refine trip_canon (by assumption) ?_; simp [*]; done) | (simp [*]; done)); done) | simp))

theorem bodySafeHoldExit_keepsMem : bodySafeHoldExit.keepsMem := by
  intro n c t h; simp only [bodySafeHoldExit]; (repeat' (first | assumption | (simp; done) | (simp [*]; done) | split | (refine foldl_canon _ (fun _ _ h0 => ?_) _ _ ?_) | (refine foldl_canon2 _ (fun _ _ h0 => ?_) _ _ ?_) | (refine pair_canon (by assumption) ?_) | (refine trip_canon (by assumption) ?_) | (refine pair1_canon (by assumption) ?_) | (dsimp only) | (simp (disch := first | assumption | (refine pair_canon (by assumption) ?_; simp [*]; done) | (refine trip_canon (by assumption) ?_; simp [*]; done) | (simp [*]; done)); done) | simp))

theorem bodyHalfReset_keepsMem : bodyHalfReset.keepsMem := by
  intro n c t h; simp only [bodyHalfReset]; (repeat' (first | assumption | (simp; done) | (simp [*]; done) | split | (refine foldl_canon _ (fun _ _ h0 => ?_) _ _ ?_) | (refine foldl_canon2 _ (fun _ _ h0 => ?_) _ _ ?_) | (refine pair_canon (by assumption) ?_) | (refine trip_canon (by assumption) ?_) | (refine pair1_canon (by assumption) ?_) | (dsimp only) | (simp (disch := first | assumption | (refine pair_canon (by assumption) ?_; simp [*]; done) | (refine trip_canon (by assumption) ?_; simp [*]; done) | (simp [*]; done)); done) | simp))

theorem bodyCrookAssign_keepsMem : bodyCrookAssign.keepsMem := by
  intro n c t h; simp only [bodyCrookAssign]; (repeat' (first | assumption | (simp; done) | (simp [*]; done) | split | (refine foldl_canon _ (fun _ _ h0 => ?_) _ _ ?_) | (refine foldl_canon2 _ (fun _ _ h0 => ?_) _ _ ?_) | (refine pair_canon (by assumption) ?_) | (refine trip_canon (by assumption) ?_) | (refine pair1_canon (by assumption) ?_) | (dsimp only) | (simp (disch := first | assumption | (refine pair_canon (by assumption) ?_; simp [*]; done) | (refine trip_canon (by assumption) ?_; simp [*]; done) | (simp [*]; done)); done) | simp))

theorem bodyLedgerRead_keepsMem : bodyLedgerRead.keepsMem := by
  intro n c t h; simp only [bodyLedgerRead]; (repeat' (first | assumption | (simp; done) | (simp [*]; done) | split | (refine foldl_canon _ (fun _ _ h0 => ?_) _ _ ?_) | (refine foldl_canon2 _ (fun _ _ h0 => ?_) _ _ ?_) | (refine pair_canon (by assumption) ?_) | (refine trip_canon (by assumption) ?_) | (refine pair1_canon (by assumption) ?_) | (dsimp only) | (simp (disch := first | assumption | (refine pair_canon (by assumption) ?_; simp [*]; done) | (refine trip_canon (by assumption) ?_; simp [*]; done) | (simp [*]; done)); done) | simp))

theorem bodySafetyCfg_keepsMem : bodySafetyCfg.keepsMem := by
  intro n c t h; simp only [bodySafetyCfg]; (repeat' (first | assumption | (simp; done) | (simp [*]; done) | split | (refine foldl_canon _ (fun _ _ h0 => ?_) _ _ ?_) | (refine foldl_canon2 _ (fun _ _ h0 => ?_) _ _ ?_) | (refine pair_canon (by assumption) ?_) | (refine trip_canon (by assumption) ?_) | (refine pair1_canon (by assumption) ?_) | (dsimp only) | (simp (disch := first | assumption | (refine pair_canon (by assumption) ?_; simp [*]; done) | (refine trip_canon (by assumption) ?_; simp [*]; done) | (simp [*]; done)); done) | simp))

theorem bodyLifecycleSet_keepsMem : bodyLifecycleSet.keepsMem := by
  intro n c t h; simp only [bodyLifecycleSet]; (repeat' (first | assumption | (simp; done) | (simp [*]; done) | split | (refine foldl_canon _ (fun _ _ h0 => ?_) _ _ ?_) | (refine foldl_canon2 _ (fun _ _ h0 => ?_) _ _ ?_) | (refine pair_canon (by assumption) ?_) | (refine trip_canon (by assumption) ?_) | (refine pair1_canon (by assumption) ?_) | (dsimp only) | (simp (disch := first | assumption | (refine pair_canon (by assumption) ?_; simp [*]; done) | (refine trip_canon (by assumption) ?_; simp [*]; done) | (simp [*]; done)); done) | simp))

theorem bodiesSystem_keepMem : ∀ b ∈ bodiesSystem, b.keepsMem :=
  all_cons bodyPwrStateSet_keepsMem <|
  all_cons bodyIdleTimerSet_keepsMem <|
  all_cons bodyOppointSet_keepsMem <|
  all_cons bodyPwrQuery_keepsMem <|
  all_cons bodyTimeSet_keepsMem <|
  all_cons bodyTimeQuery_keepsMem <|
  all_cons bodyTsyncCfg_keepsMem <|
  all_cons bodyWakeAinCfg_keepsMem <|
  all_cons bodyTimerWakeSet_keepsMem <|
  all_cons bodyFwQuery_keepsMem <|
  all_cons bodyActivateAt_keepsMem <|
  all_cons bodyHealthOk_keepsMem <|
  all_cons bodyConfirmWindowSet_keepsMem <|
  all_cons bodySettingsRead_keepsMem <|
  all_cons bodySettingsWrite_keepsMem <|
  all_cons bodySettingsDefault_keepsMem <|
  all_cons bodySafeHoldExit_keepsMem <|
  all_cons bodyHalfReset_keepsMem <|
  all_cons bodyCrookAssign_keepsMem <|
  all_cons bodyFlipMaskSet_keepsMem <|
  all_cons bodyLedgerRead_keepsMem <|
  all_cons bodySafetyCfg_keepsMem <|
  all_cons bodyLifecycleSet_keepsMem <| all_nil

theorem bodies_keepMem : ∀ b ∈ bodies, b.keepsMem :=
  all_append (all_append (all_append bodiesCrossbar_keepMem bodiesEngine_keepMem) bodiesUpkeep_keepMem) bodiesSystem_keepMem

theorem bodyOf_keepsMem {op : ℕ} {b : Body} (h : bodyOf op = some b) : b.keepsMem :=
  bodies_keepMem b (List.mem_of_find?_eq_some h)

/-! ### CmdTable -/

@[simp] theorem State.takeCmd_canon (s : State) (id : ℕ) (h : canon s.store) : canon (State.takeCmd s id).store := by
  unfold State.takeCmd
  split
  · exact h
  split
  · rw [State.refuseCmd_store, State.noteCmd_store]; exact h
  · exact State.accept_canon _ _ _ (fun _ h => bodyOf_keepsMem h) h

@[simp] theorem State.takePacket_canon (s : State) (n : ℕ) (c : Cmd) (h : canon s.store) :
    canon (State.takePacket s n c).store := by
  unfold State.takePacket
  exact State.accept_canon _ _ _ (fun _ h => bodyOf_keepsMem h) (by rw [State.onRing_store]; exact h)

@[simp] theorem State.acceptGiven_canon (s : State) (g : Given) (h : canon s.store) : canon (State.acceptGiven s g).store := by
  unfold State.acceptGiven
  split
  · exact State.accept_canon _ _ _ (fun _ h => bodyOf_keepsMem h) (by rw [State.onWindow_store]; exact h)
  · exact State.takePacket_canon _ _ _ h
  · exact State.takeCmd_canon _ _ (by rw [State.onCmd_store]; exact h)

theorem State.acceptOne_canon {s t : State} (h : s.acceptOne = some t) (hs : canon s.store) : canon t.store := by
  unfold State.acceptOne at h
  split at h
  · cases h
  split at h
  · cases h; exact State.acceptGiven_canon _ _ hs
  · cases h

theorem bodyOf_got_canon {op : ℕ} {b : Body} (h : bodyOf op = some b) (g : Got) (n : ℕ) (c : Cmd) (t : State) (ht : canon t.store) :
    canon (b.actGot g n c t).state.store := by
  rcases bodyOf_got h with e | rfl | rfl
  · rw [e]; exact bodyOf_keepsMem h n c t ht
  · simp only [bodyStallLoad]; (repeat' (first | assumption | (simp; done) | (simp [*]; done) | split | (refine foldl_canon _ (fun _ _ h0 => ?_) _ _ ?_) | (refine foldl_canon2 _ (fun _ _ h0 => ?_) _ _ ?_) | (refine pair_canon (by assumption) ?_) | (refine trip_canon (by assumption) ?_) | (refine pair1_canon (by assumption) ?_) | (dsimp only) | (simp (disch := first | assumption | (refine pair_canon (by assumption) ?_; simp [*]; done) | (refine trip_canon (by assumption) ?_; simp [*]; done) | (simp [*]; done)); done) | simp))
  · simp only [bodyAdmit]; (repeat' (first | assumption | (simp; done) | (simp [*]; done) | split | (refine foldl_canon _ (fun _ _ h0 => ?_) _ _ ?_) | (refine foldl_canon2 _ (fun _ _ h0 => ?_) _ _ ?_) | (refine pair_canon (by assumption) ?_) | (refine trip_canon (by assumption) ?_) | (refine pair1_canon (by assumption) ?_) | (dsimp only) | (simp (disch := first | assumption | (refine pair_canon (by assumption) ?_; simp [*]; done) | (refine trip_canon (by assumption) ?_; simp [*]; done) | (simp [*]; done)); done) | simp))

theorem State.settleOne_canon {s t : State} (h : s.settleOne = some t) (hs : canon s.store) : canon t.store := by
  unfold State.settleOne at h
  split at h
  · cases h; exact State.acceptOne_canon (by assumption) hs
  split at h
  · rename_i e
    obtain ⟨w, -, hw⟩ := List.exists_of_findSome?_eq_some e
    cases h; exact State.readOver_canon (fun _ _ hb => bodyOf_got_canon hb) hw hs
  split at h
  · cases h; rw [State.endReset_store]; exact hs
  split at h
  · split at h
    · cases h; exact State.resume_canon _ _ _ (bodyOf_keepsMem (by assumption)) hs
    · cases h
  · cases h

@[simp] theorem State.settleN_canon (s : State) (y1 : ℕ) (h : canon s.store) : canon
    (State.settleN s y1).store := by
  induction y1 generalizing s with
  | zero => exact h
  | succ n1 ih =>
    unfold State.settleN
    split
    · rename_i h1; exact ih _ (State.settleOne_canon h1 h)
    · exact h

@[simp] theorem State.carryOn_canon (s : State) (h : canon s.store) : canon (State.carryOn s).store := by
  unfold State.carryOn
  first
    | (simp [*]; done)
    | ((repeat' split) <;> simp [*]; done)
    | (dsimp only; (repeat' split) <;> simp [*]; done)
    | (repeat' (first | assumption | (simp; done) | (simp [*]; done) | split | (refine foldl_canon _ (fun _ _ h0 => ?_) _ _ ?_) | (refine foldl_canon2 _ (fun _ _ h0 => ?_) _ _ ?_) | (refine pair_canon (by assumption) ?_) | (refine trip_canon (by assumption) ?_) | (refine pair1_canon (by assumption) ?_) | (dsimp only) | (simp (disch := first | assumption | (refine pair_canon (by assumption) ?_; simp [*]; done) | (refine trip_canon (by assumption) ?_; simp [*]; done) | (simp [*]; done)); done) | simp))

@[simp] theorem State.settle_canon (s : State) (h : canon s.store) : canon (State.settle s).store := by
  unfold State.settle
  split
  · refine State.carryOn_canon _ ?_
    cases ha : s.acceptOne with
    | none => exact h
    | some t => exact State.acceptOne_canon ha h
  · exact h

@[simp] theorem State.fetched_canon (s : State) (n : ℕ) (units : ℕ) (req : ℕ) (go : State → List Byte → State) (hgo : ∀ s0 x0, canon s0.store → canon (go s0 x0).store) (h : canon s.store) : canon (State.fetched s n units req go).store := by
  unfold State.fetched
  first
    | (simp [*]; done)
    | ((repeat' split) <;> simp [*]; done)
    | (dsimp only; (repeat' split) <;> simp [*]; done)
    | (repeat' (first | assumption | (simp; done) | (simp [*]; done) | split | (refine foldl_canon _ (fun _ _ h0 => ?_) _ _ ?_) | (refine foldl_canon2 _ (fun _ _ h0 => ?_) _ _ ?_) | (refine pair_canon (by assumption) ?_) | (refine trip_canon (by assumption) ?_) | (refine pair1_canon (by assumption) ?_) | (dsimp only) | (simp (disch := first | assumption | (refine pair_canon (by assumption) ?_; simp [*]; done) | (refine trip_canon (by assumption) ?_; simp [*]; done) | (simp [*]; done)); done) | simp))

@[simp] theorem runRow_canon (b : Body) (c : Cmd) (s : State) (h : canon s.store) : canon
    (runRow b c s).store := by
  unfold runRow; (repeat' split) <;> simp [*]

/-! ### RegWrite -/

@[simp] theorem State.goOn_canon (s : State) (h : canon s.store) : canon (State.goOn s).store := by
  unfold State.goOn
  first
    | (simp [*]; done)
    | ((repeat' split) <;> simp [*]; done)
    | (dsimp only; (repeat' split) <;> simp [*]; done)
    | (repeat' (first | assumption | (simp; done) | (simp [*]; done) | split | (refine foldl_canon _ (fun _ _ h0 => ?_) _ _ ?_) | (refine foldl_canon2 _ (fun _ _ h0 => ?_) _ _ ?_) | (refine pair_canon (by assumption) ?_) | (refine trip_canon (by assumption) ?_) | (refine pair1_canon (by assumption) ?_) | (dsimp only) | (simp (disch := first | assumption | (refine pair_canon (by assumption) ?_; simp [*]; done) | (refine trip_canon (by assumption) ?_; simp [*]; done) | (simp [*]; done)); done) | simp))

@[simp] theorem State.access_canon (s : State) (a : RegAccess) (h : canon s.store) : canon
    (State.access s a).store := by
  unfold State.access; dsimp only; (repeat' split) <;> simp [*]

/-! ### FwPolicy -/

@[simp] theorem State.policyPatch_canon (s : State) (g : ℕ) (row : ℕ) (lane : ℕ) (h : canon s.store)
    : canon (State.policyPatch s g row lane).store := by
  unfold State.policyPatch; (repeat' split) <;> simp [*]

@[simp] theorem State.dropPatches_canon (s : State) (g : ℕ) (lane : ℕ) (h : canon s.store) : canon
    (State.dropPatches s g lane).store := by
  unfold State.dropPatches
  repeat' (first
    | assumption
    | (simp; done)
    | (simp [*]; done)
    | split
    | (refine foldl_canon _ (fun _ _ h0 => ?_) _ _ ?_)
    | (refine foldl_canon2 _ (fun _ _ h0 => ?_) _ _ ?_)
    | (refine pair_canon (by assumption) ?_)
    | (refine trip_canon (by assumption) ?_)
    | (refine pair1_canon (by assumption) ?_)
    | (dsimp only)
    | (simp (disch := first | assumption | (refine pair_canon (by assumption) ?_; simp [*]; done) | (refine trip_canon (by assumption) ?_; simp [*]; done) | (simp [*]; done)); done)
    | simp)

@[simp] theorem State.policyRetire_canon (s : State) (g : ℕ) (lane : ℕ) (h : canon s.store) : canon
    (State.policyRetire s g lane).store := by
  unfold State.policyRetire; (repeat' split) <;> simp [*]

@[simp] theorem State.retireFor_canon (s : State) (g : ℕ) (lane : ℕ) (h : canon s.store) : canon (State.retireFor s g lane).store := by
  unfold State.retireFor
  first
    | (simp [*]; done)
    | ((repeat' split) <;> simp [*]; done)
    | (dsimp only; (repeat' split) <;> simp [*]; done)
    | (repeat' (first | assumption | (simp; done) | (simp [*]; done) | split | (refine foldl_canon _ (fun _ _ h0 => ?_) _ _ ?_) | (refine foldl_canon2 _ (fun _ _ h0 => ?_) _ _ ?_) | (refine pair_canon (by assumption) ?_) | (refine trip_canon (by assumption) ?_) | (refine pair1_canon (by assumption) ?_) | (dsimp only) | (simp (disch := first | assumption | (refine pair_canon (by assumption) ?_; simp [*]; done) | (refine trip_canon (by assumption) ?_; simp [*]; done) | (simp [*]; done)); done) | simp))

@[simp] theorem State.repairPolicy_canon (s : State) (a : RepairAct) (h : canon s.store) : canon
    (State.repairPolicy s a).store := by
  unfold State.repairPolicy; (repeat' split) <;> simp [*]

/-! ### Startup -/

@[simp] theorem State.pwrOkFall_canon (s : State) (h : canon s.store) : canon
    (State.pwrOkFall s).store := by
  unfold State.pwrOkFall; split <;> simp [*]

@[simp] theorem State.pwrOkRise_canon (s : State) (widths : List (ℕ × ℕ)) (repair : List Repair)
    (bad : BitVec 8) (count : ℕ) (h : canon s.store) : canon
    (State.pwrOkRise s widths repair bad count).store := by
  unfold State.pwrOkRise
  split
  · exact h
  · extract_lets straps s1 s2
    split
    · rw [State.loadRepairs_store]; exact canon_nil _ rfl
    · exact h

@[simp] theorem State.jtag_canon (s : State) (i : TapOp) (h : canon s.store) : canon
    (State.jtag s i).store := by
  unfold State.jtag
  split
  · exact h
  · have h1 : canon ({ s with tap := { s.tap with ir := i } } : State).store := h
    generalize ({ s with tap := { s.tap with ir := i } } : State) = u at *
    dsimp only
    split
    · rw [State.mk_tap_store]; exact h1
    · rw [State.mk_tap_store]; exact h1
    · rw [State.freeDr_store]; exact h1
    · rw [State.freeDr_store]; exact h1
    · rw [State.freeDr_store]; exact h1
    · rw [State.mk_tap_store]; exact h1
    · exact foldl_canon _ (fun _ _ hh => State.setSymbol_canon _ _ _ hh) _ _ h1
    · rw [State.mk_tap_store]; exact h1
    · rw [State.onOtp_store]; exact h1
    · rw [State.onOtp_store]; exact h1

/-! ### Monitor -/

theorem State.monNeeds_canon (s : State) (cs : List ℕ) (cause : ℕ) (f : State → State) (hf : ∀ t, canon t.store → canon (f t).store) (h : canon s.store) : canon (s.monNeeds cs cause f).store := by
  unfold State.monNeeds
  split
  · exact hf _ (foldl_canon _ (fun _ _ hh => by rw [State.wakeCluster_store]; exact hh) _ _ h)
  · exact foldl_canon _ (fun _ _ hh => by rw [State.wakeCluster_store]; exact hh) _ _ h

@[simp] theorem State.monPokeM_canon (s : State) (a : ℕ) (v : BitVec 32) (h : canon s.store) : canon
    (State.monPokeM s a v).store := by
  unfold State.monPokeM
  split
  · rw [State.monAnswer_store]; exact h
  split
  · rw [State.monAnswer_store]; exact h
  split
  · rw [State.monAnswer_store, State.count64_store]; exact h
  split
  · rw [State.monAnswer_store]; exact h
  · refine State.monNeeds_canon _ _ _ _ (fun t ht => ?_) h
    split
    · rw [State.monAnswer_store]; exact State.initWrite_canon _ _ _ ht
    · exact ht

@[simp] theorem State.monAct_canon (s : State) (y0 : MonCmd) (h : canon s.store) : canon (State.monAct s y0).store := by
  cases y0 <;> (unfold State.monAct; (repeat' (first | assumption | (simp; done) | (simp [*]; done) | split | (refine foldl_canon _ (fun _ _ h0 => ?_) _ _ ?_) | (refine foldl_canon2 _ (fun _ _ h0 => ?_) _ _ ?_) | (refine pair_canon (by assumption) ?_) | (refine trip_canon (by assumption) ?_) | (refine pair1_canon (by assumption) ?_) | (dsimp only) | (simp (disch := first | assumption | (refine pair_canon (by assumption) ?_; simp [*]; done) | (refine trip_canon (by assumption) ?_; simp [*]; done) | (simp [*]; done)); done) | simp)))

@[simp] theorem State.monServe_canon (s : State) (h : canon s.store) : canon (State.monServe s).store := by
  unfold State.monServe
  first
    | (simp [*]; done)
    | ((repeat' split) <;> simp [*]; done)
    | (dsimp only; (repeat' split) <;> simp [*]; done)
    | (repeat' (first | assumption | (simp; done) | (simp [*]; done) | split | (refine foldl_canon _ (fun _ _ h0 => ?_) _ _ ?_) | (refine foldl_canon2 _ (fun _ _ h0 => ?_) _ _ ?_) | (refine pair_canon (by assumption) ?_) | (refine trip_canon (by assumption) ?_) | (refine pair1_canon (by assumption) ?_) | (dsimp only) | (simp (disch := first | assumption | (refine pair_canon (by assumption) ?_; simp [*]; done) | (refine trip_canon (by assumption) ?_; simp [*]; done) | (simp [*]; done)); done) | simp))

@[simp] theorem State.monitor_canon (s : State) (c : MonCmd) (h : canon s.store) : canon (State.monitor s c).store := by
  unfold State.monitor
  first
    | (simp [*]; done)
    | ((repeat' split) <;> simp [*]; done)
    | (dsimp only; (repeat' split) <;> simp [*]; done)
    | (repeat' (first | assumption | (simp; done) | (simp [*]; done) | split | (refine foldl_canon _ (fun _ _ h0 => ?_) _ _ ?_) | (refine foldl_canon2 _ (fun _ _ h0 => ?_) _ _ ?_) | (refine pair_canon (by assumption) ?_) | (refine trip_canon (by assumption) ?_) | (refine pair1_canon (by assumption) ?_) | (dsimp only) | (simp (disch := first | assumption | (refine pair_canon (by assumption) ?_; simp [*]; done) | (refine trip_canon (by assumption) ?_; simp [*]; done) | (simp [*]; done)); done) | simp))

@[simp] theorem State.monService_canon (s : State) (h : canon s.store) : canon (State.monService s).store := by
  unfold State.monService
  first
    | (simp [*]; done)
    | ((repeat' split) <;> simp [*]; done)
    | (dsimp only; (repeat' split) <;> simp [*]; done)
    | (repeat' (first | assumption | (simp; done) | (simp [*]; done) | split | (refine foldl_canon _ (fun _ _ h0 => ?_) _ _ ?_) | (refine foldl_canon2 _ (fun _ _ h0 => ?_) _ _ ?_) | (refine pair_canon (by assumption) ?_) | (refine trip_canon (by assumption) ?_) | (refine pair1_canon (by assumption) ?_) | (dsimp only) | (simp (disch := first | assumption | (refine pair_canon (by assumption) ?_; simp [*]; done) | (refine trip_canon (by assumption) ?_; simp [*]; done) | (simp [*]; done)); done) | simp))

/-! ### Tick -/

@[simp] theorem State.tickRun_canon (s : State) (h : canon s.store) : canon (State.tickRun s).store := by
  unfold State.tickRun
  extract_lets s1 k s2 s3 s4 s5
  have e2 : s2.store = s.store := State.see_store s
  have e3 : s3.store = s.store := by
    simp only [s3]; rw [State.idleReset_store, State.passEnds_store, State.powerXck_store, e2]
  have e4 : s4.store = s.store := by
    simp only [s4]; split
    · rw [State.testTolls_store, e3]
    · exact e3
  have e5 : s5.store = s.store := by
    simp only [s5]; split
    · rw [State.blockA1_store, State.stopEdge_store, State.ackEdge_store, e4]
    · exact e4
  exact State.goOn_canon _ (State.monService_canon _ (State.installWaiting_canon _ (State.startBooting_canon _ (e5 ▸ h))))

@[simp] theorem State.tick_canon (s : State) (h : canon s.store) : canon (State.tick s).store := by
  have h1 : canon s.tickRun.tickReport.store :=
    (congrArg canon (State.tickReport_store s.tickRun)).mpr (State.tickRun_canon s h)
  have h2 : canon s.tickStood.store := (congrArg canon (State.tickStood_store s)).mpr h
  unfold State.tick
  by_cases hp : (!s.pins.pwrOk) = true
  · rw [if_pos hp]; exact h
  rw [if_neg hp]
  by_cases hr : s.clock.running = true
  · rw [if_pos hr]; exact h1
  · rw [if_neg hr]; exact h2

/-! ### DataRows -/

@[simp] theorem State.live_canon (s : State) (f : State → State)
    (hf : ∀ s0, canon s0.store → canon (f s0).store) (h : canon s.store) : canon
    (State.live s f).store := by
  unfold State.live; split <;> simp [*]

@[simp] theorem State.converted_canon (s : State) (h : canon s.store) : canon (State.converted s).store := by
  unfold State.converted
  first
    | (simp [*]; done)
    | ((repeat' split) <;> simp [*]; done)
    | (dsimp only; (repeat' split) <;> simp [*]; done)
    | (repeat' (first | assumption | (simp; done) | (simp [*]; done) | split | (refine foldl_canon _ (fun _ _ h0 => ?_) _ _ ?_) | (refine foldl_canon2 _ (fun _ _ h0 => ?_) _ _ ?_) | (refine pair_canon (by assumption) ?_) | (refine trip_canon (by assumption) ?_) | (refine pair1_canon (by assumption) ?_) | (dsimp only) | (simp (disch := first | assumption | (refine pair_canon (by assumption) ?_; simp [*]; done) | (refine trip_canon (by assumption) ?_; simp [*]; done) | (simp [*]; done)); done) | simp))

@[simp] theorem State.requestRow_canon (s : State) (p : ℕ) (r : ReqWord) (h : canon s.store) : canon
    (State.requestRow s p r).store := by
  unfold State.requestRow; (repeat' split) <;> simp [*]

@[simp] theorem State.requestOf_canon (s : State) (op : ℕ) (p : ℕ) (r : ReqWord) (h : canon s.store)
    : canon (State.requestOf s op p r).store := by
  unfold State.requestOf; split <;> simp [*]

@[simp] theorem State.until_canon (s : State) (p : State → Bool) (y2 : ℕ) (h : canon s.store) : canon (State.until s p y2).store := by
  induction y2 generalizing s p h with
  | zero => (unfold State.until; (repeat' (first | assumption | (simp; done) | (simp [*]; done) | split | (refine foldl_canon _ (fun _ _ h0 => ?_) _ _ ?_) | (refine foldl_canon2 _ (fun _ _ h0 => ?_) _ _ ?_) | (refine pair_canon (by assumption) ?_) | (refine trip_canon (by assumption) ?_) | (refine pair1_canon (by assumption) ?_) | (dsimp only) | (simp (disch := first | assumption | (refine pair_canon (by assumption) ?_; simp [*]; done) | (refine trip_canon (by assumption) ?_; simp [*]; done) | (simp [*]; done)); done) | simp)))
  | succ n1 ih => (unfold State.until; (repeat' (first | assumption | (simp; done) | (simp [*]; done) | split | (refine foldl_canon _ (fun _ _ h0 => ?_) _ _ ?_) | (refine foldl_canon2 _ (fun _ _ h0 => ?_) _ _ ?_) | (refine pair_canon (by assumption) ?_) | (refine trip_canon (by assumption) ?_) | (refine pair1_canon (by assumption) ?_) | (dsimp only) | (simp (disch := first | assumption | (refine pair_canon (by assumption) ?_; simp [*]; done) | (refine trip_canon (by assumption) ?_; simp [*]; done) | (simp [*]; done)); done) | simp)))

@[simp] theorem State.bankAct_canon (s : State) (k b : ℕ) (now : State → ℕ → Bool) (f : State → ℕ → State)
    (hf : ∀ s0 x, canon s0.store → canon (f s0 x).store) (h : canon s.store) : canon (State.bankAct s k b now f).store := by
  unfold State.bankAct
  refine State.live_canon _ _ (fun t ht => ?_) h
  split
  · have hu := State.until_canon t (fun x => now x (16 * k + b)) 8 ht
    dsimp only
    split
    · exact hf _ _ hu
    · exact hu
  · exact ht

/-! ### RegRows -/

@[simp] theorem State.ringWrite_canon (s : State) (n : ℕ) (off : ℕ) (v : BitVec 32)
    (h : canon s.store) : canon (State.ringWrite s n off v).store := by
  unfold State.ringWrite; split <;> simp [*]

/-! ### SystemRows -/

@[simp] theorem State.event_canon (s : State) (f : State → State)
    (hf : ∀ s0, canon s0.store → canon (f s0).store) (h : canon s.store) : canon
    (State.event s f).store := by
  simp [State.event, *]

/-! ### UpkeepRows -/

@[simp] theorem State.evacRowCopy_canon (s : State) (c : ℕ) (h : canon s.store) : canon
    (State.evacRowCopy s c).store := by
  unfold State.evacRowCopy; (repeat' split) <;> simp [*]

@[simp] theorem State.linkRow_canon (s : State) (n : Nat) (x : LinkIn) (h : canon s.store) : canon (State.linkRow s n x).store := by
  unfold State.linkRow
  first
    | (simp [*]; done)
    | ((repeat' split) <;> simp [*]; done)
    | (dsimp only; (repeat' split) <;> simp [*]; done)
    | (repeat' (first | assumption | (simp; done) | (simp [*]; done) | split | (refine foldl_canon _ (fun _ _ h0 => ?_) _ _ ?_) | (refine foldl_canon2 _ (fun _ _ h0 => ?_) _ _ ?_) | (refine pair_canon (by assumption) ?_) | (refine trip_canon (by assumption) ?_) | (refine pair1_canon (by assumption) ?_) | (dsimp only) | (simp (disch := first | assumption | (refine pair_canon (by assumption) ?_; simp [*]; done) | (refine trip_canon (by assumption) ?_; simp [*]; done) | (simp [*]; done)); done) | simp))

end Sys2Proof.Machine
end

