-- ==== Sys2Proof/Laws/Commands.lean ====
section
/-!
SUPPORT. What a command that a window gives does, said once: where it is refused, where it ends at once,
where it is deferred or has its parameters read (`runRow_refused`, `runRow_done`, `runRow_deferred`, `runRow_fetch`). And what goes on by itself where nothing
waits: nothing (`settle_of_still`, `goOn_of_quiet`).
-/

namespace Sys2Proof.Machine

/-- The source of the packets of a window. -/
def windowSource (sp : Bool) : Source := if sp then .sp else .ctl

/-- Nothing waits in the command interface or in a dispatcher, and no packet stands to be accepted. -/
def State.still (s : State) : Prop :=
  s.cmd.arrived = [] ∧ s.cmd.waiting = [] ∧ s.cmd.records = [] ∧ s.cmd.sp.given = none ∧ s.cmd.ctl.given = none ∧
    s.cmd.fetched = false ∧ s.eventsStill = true

/-- The block is in RUN and does not try to leave it. -/
def State.running (s : State) : Prop := s.power.block = .run ∧ s.power.attempt = false

theorem State.quiet_iff (s : State) : s.quiet = true ↔
    s.ready = true ∧ s.still ∧ s.reg.waitCtl = [] ∧ s.reg.waitSp = [] ∧
      (∀ d ∈ s.cmd.deferred, d.token < s.cmd.accepted) ∧ s.cmd.acceptMck ≠ s.mck + 1 ∧ s.links.waiting = [] ∧
      s.running := by
  simp only [State.quiet, State.still, State.running, Bool.and_eq_true, List.isEmpty_iff, Option.isNone_iff_eq_none, Bool.not_eq_true',
    List.all_eq_true, decide_eq_true_eq]
  tauto

/-- A wake of the block means nothing while it stays in RUN (R372, R373). -/
theorem wakeBlock_running {s : State} (h : s.running) : s.wakeBlock = s := by
  unfold State.wakeBlock
  rw [if_neg (by simp [h.1, h.2])]

theorem Tbl.find?_mem {α : Type} {t : Tbl α} {k : Nat} {a : α} (h : t.find? k = some a) : (k, a) ∈ t := by
  induction t with
  | nil => cases h
  | cons e r ih =>
    obtain ⟨j, b⟩ := e
    simp only [Tbl.find?] at h
    split at h
    · rename_i hj; subst hj; cases h; exact List.mem_cons_self ..
    · exact List.mem_cons_of_mem _ (ih h)

/-- No ring has a packet to give. -/
theorem ringGiven_none {s : State} (h : s.cmd.fetched = false) (n : Nat) : s.ringGiven n = none := by
  unfold State.ringGiven
  have hr : ∀ c, (s.ring n).fetch ≠ .ready c := by
    intro c hc
    unfold State.ring Tbl.get at hc
    cases hf : s.cmd.rings.find? n with
    | none => rw [hf] at hc; cases hc
    | some r =>
      rw [hf] at hc
      have hm := Tbl.find?_mem hf
      have : s.cmd.fetched = true := by
        unfold CmdIf.fetched
        refine List.any_eq_true.2 ⟨_, hm, ?_⟩
        simp only [Option.getD_some] at hc
        simp only [hc]
      rw [this] at h; cases h
  dsimp only
  split
  · rename_i c hc; exact absurd hc (hr c)
  · rfl

theorem mailboxGiven_nil {s : State} (h : s.cmd.arrived = []) : s.mailboxGiven = [] := by
  unfold State.mailboxGiven
  rw [h]
  simp

theorem acceptOne_none {s : State} (h1 : s.cmd.arrived = []) (h2 : s.cmd.sp.given = none) (h3 : s.cmd.ctl.given = none)
    (h4 : s.cmd.fetched = false) : s.acceptOne = none := by
  unfold State.acceptOne
  split
  · rfl
  · have hg : s.givens = [] := by
      unfold State.givens
      rw [mailboxGiven_nil h1]
      have hw : ∀ sp, s.windowGiven sp = none := by
        intro sp; unfold State.windowGiven; cases sp
        · simp [h3]
        · simp [h2]
      simp [hw, ringGiven_none h4]
    rw [hg]

theorem settleOne_none {s : State} (h : s.acceptOne = none) (hw : s.cmd.waiting = []) : s.settleOne = none := by
  unfold State.settleOne
  rw [h, hw]
  rfl

theorem settleN_of_none {s : State} (h : s.settleOne = none) (n : Nat) : s.settleN n = s := by
  cases n with
  | zero => rfl
  | succ n => unfold State.settleN; rw [h]

theorem flushRecords_nil {s : State} (h : s.cmd.records = []) : s.flushRecords = s := by
  unfold State.flushRecords
  rw [h]
  show s.onCmd (fun c => { c with records := [] }) = s
  unfold State.onCmd
  rw [← h]

/-- Nothing starts by itself where nothing waits and the dispatchers stand still. -/
theorem carryOn_of_still {s : State} (h : s.still) : s.carryOn = s := by
  obtain ⟨h1, h2, h3, h4, h5, h6, h7⟩ := h
  unfold State.carryOn
  rw [settleN_of_none (settleOne_none (acceptOne_none h1 h4 h5 h6) h2)]
  unfold State.moveRuns
  rw [if_pos h7, flushRecords_nil h3]

theorem settle_of_still {s : State} (h : s.still) : s.settle = s := by
  have h2 := h
  obtain ⟨h1, _, _, h4, h5, h6, _⟩ := h2
  unfold State.settle
  split
  · rw [acceptOne_none h1 h4 h5 h6]; exact carryOn_of_still h
  · rfl

theorem drainBoth_nil {s : State} (h2 : s.reg.waitCtl = []) (h3 : s.reg.waitSp = []) : s.drainBoth = s := by
  unfold State.drainBoth
  rw [h2, h3]
  rfl

theorem goOn_of_quiet {s : State} (h : s.still) (h2 : s.reg.waitCtl = []) (h3 : s.reg.waitSp = [])
    (h4 : s.links.waiting = []) : s.goOn = s := by
  have hl : s.linkResume = s := by unfold State.linkResume; rw [if_pos h4]
  unfold State.goOn
  split
  · rw [hl, settle_of_still h, drainBoth_nil h2 h3, settle_of_still h]
  · split
    · exact drainBoth_nil h2 h3
    · rfl

theorem onWindow_eq (s : State) (sp : Bool) (f : CmdWindow → CmdWindow) :
    s.onWindow sp f = s.onCmd fun k => k.window sp f := rfl

theorem still_of_cmd {s t : State} (h : s.still) (h1 : t.cmd.arrived = s.cmd.arrived) (h2 : t.cmd.waiting = s.cmd.waiting)
    (h3 : t.cmd.records = s.cmd.records) (h4 : t.cmd.sp.given = s.cmd.sp.given) (h5 : t.cmd.ctl.given = s.cmd.ctl.given)
    (h6 : t.cmd.rings = s.cmd.rings) (h7 : t.eventsStill = true) : t.still := by
  obtain ⟨a, b, c, d, e, f, _⟩ := h
  refine ⟨h1.trans a, h2.trans b, h3.trans c, h4.trans d, h5.trans e, ?_, h7⟩
  unfold CmdIf.fetched at *
  rw [h6]; exact f

theorem given_quiet {s : State} (c : Cmd) (h : s.quiet = true) : (s.given c).still := by
  obtain ⟨_, hs, _⟩ := (State.quiet_iff s).1 h
  have hg := hs
  obtain ⟨_, _, _, h4, h5, _, h7⟩ := hg
  unfold State.given State.onCmd CmdIf.window
  split <;> exact still_of_cmd hs rfl rfl rfl (by first | rfl | exact h4.symm) (by first | rfl | exact h5.symm) rfl h7

theorem given_ready (s : State) (c : Cmd) : (s.given c).ready = s.ready := rfl

/-- Nothing that a later command holds stands in the way of the next command (R53). -/
theorem given_before {s : State} (c : Cmd) (h : s.quiet = true) : (s.given c).before s.cmd.accepted = s.given c := by
  obtain ⟨_, ⟨_, hw, _⟩, _, _, hd, _, _, _⟩ := (State.quiet_iff s).1 h
  have hf : s.cmd.deferred.filter (fun d => decide (d.token < s.cmd.accepted)) = s.cmd.deferred :=
    List.filter_eq_self.2 (fun d hm => decide_eq_true (hd d hm))
  unfold State.before State.given State.onCmd CmdIf.window
  split <;> simp only [hf, hw, List.filter_nil]

/-- A packet that a window gives is the first to be accepted (R42). -/
theorem window_accepted {s : State} (sp : Bool) (p : BitVec 2048) (hn : s.cmd.acceptMck ≠ s.mck + 1)
    (hw : s.cmd.waiting = []) (hg : (if sp then s.cmd.sp else s.cmd.ctl).given = some p)
    (ho : sp = false → s.cmd.sp.given = none) :
    s.acceptOne = some ((s.onWindow sp fun w => { w with given := none }).accept
      (bodyOf ({ src := windowSource sp, pkt := p } : Cmd).op) { src := windowSource sp, pkt := p }) := by
  unfold State.acceptOne
  rw [if_neg hn]
  have hh : ∀ src, s.sourceHeld src = false := by
    intro src; unfold State.sourceHeld State.queueFull; simp [hw]
  have hs : s.givens.head? = some (Given.window sp { src := windowSource sp, pkt := p }) := by
    unfold State.givens
    cases sp with
    | true =>
      have : s.windowGiven true = some { src := .sp, pkt := p } := by unfold State.windowGiven; simp at hg; simp [hg]
      simp [hh, this, windowSource]
    | false =>
      have h1 : s.windowGiven true = none := by unfold State.windowGiven; simp [ho rfl]
      have h2 : s.windowGiven false = some { src := .ctl, pkt := p } := by unfold State.windowGiven; simp at hg; simp [hg]
      simp [hh, h1, h2, windowSource]
  cases hl : s.givens with
  | nil => rw [hl] at hs; cases hs
  | cons a l =>
    rw [hl] at hs
    simp only [List.head?_cons, Option.some.injEq] at hs
    subst hs
    rfl

/-- A packet of a window reaches the checks of R50. -/
theorem runRow_gives {s : State} {b : Body} {c : Cmd} (hb : bodyOf b.code = some b) (h : s.gives b c = true) :
    runRow b c s = (match (s.given c).checkHeader (some b) c with
      | some r => (s.given c).finish s.cmd.accepted c r
      | none => (s.given c).begin b s.cmd.accepted s.clock.xck none none c).carryOn := by
  unfold State.gives at h
  simp only [Bool.and_eq_true, beq_iff_eq, Bool.not_eq_true'] at h
  obtain ⟨⟨⟨⟨hq, hw⟩, hbusy⟩, hop⟩, hprev⟩ := h
  obtain ⟨hr, ⟨h1, h2, h3, h4, h5, h6, h7⟩, h8, h9, h10, h11, _, hrun⟩ := (State.quiet_iff s).1 hq
  have hturn : (s.given c).turnTaken c.src s.cmd.accepted = false := by
    unfold State.turnTaken; rw [(given_quiet c hq).2.1]; rfl
  have hacc : (s.arrive c).acceptOne = some (match (s.given c).checkHeader (some b) c with
      | some r => (s.given c).finish s.cmd.accepted c r
      | none => (s.given c).begin b s.cmd.accepted s.clock.xck none none c) ∧ (s.arrive c).ready = true := by
    have key : ∀ sp, c.src = windowSource sp → s.arrive c = s.windowPacket sp c →
        (s.arrive c).acceptOne = some (match (s.given c).checkHeader (some b) c with
          | some r => (s.given c).finish s.cmd.accepted c r
          | none => (s.given c).begin b s.cmd.accepted s.clock.xck none none c) ∧ (s.arrive c).ready = true := by
      intro sp hs ha
      have hsp : c.src.isSp = sp := by rw [hs]; cases sp <;> rfl
      rw [ha]
      unfold State.windowPacket
      have : (if sp = true then s.reg.waitSp else s.reg.waitCtl).isEmpty = true := by
        cases sp
        · simp [h8]
        · simp [h9]
      rw [if_pos this]
      unfold State.windowGo
      have hb2 : (s.window sp).busy = false := hsp ▸ hbusy
      have hwin : ((s.onWindow sp fun w => { w with buf := c.pkt }).window sp) = { s.window sp with buf := c.pkt } := by
        cases sp <;> rfl
      rw [if_neg (by simp [hwin, hb2])]
      refine ⟨?_, by cases sp <;> exact hr⟩
      rw [window_accepted sp c.pkt (by cases sp <;> exact h11) (by cases sp <;> exact h2) (by cases sp <;> rfl)
        (by intro e; subst e; exact h4)]
      have hc : ({ src := windowSource sp, pkt := c.pkt } : Cmd) = c := by rw [← hs]
      rw [hc, hop, hb]
      have hst : (((s.onWindow sp fun w => { w with buf := c.pkt }).onWindow sp
          fun w => { w with busy := true, done := false, given := some w.buf }).onWindow sp
          fun w => { w with given := none }).onCmd (fun k => { k with accepted := k.accepted + 1, acceptMck := s.mck + 1 }) =
          s.given c := by
        unfold State.given; rw [hsp]; cases sp <;> rfl
      unfold State.accept
      dsimp only
      have e1 : (((s.onWindow sp fun w => { w with buf := c.pkt }).onWindow sp
          fun w => { w with busy := true, done := false, given := some w.buf }).onWindow sp
          fun w => { w with given := none }).mck = s.mck := by cases sp <;> rfl
      have e2 : (((s.onWindow sp fun w => { w with buf := c.pkt }).onWindow sp
          fun w => { w with busy := true, done := false, given := some w.buf }).onWindow sp
          fun w => { w with given := none }).cmd.accepted = s.cmd.accepted := by cases sp <;> rfl
      simp only [e1, e2]
      have e3 : (s.given c).clock = s.clock := by unfold State.given State.onCmd; rfl
      simp only [hst, e3]
      cases hr : (s.given c).checkHeader (some b) c with
      | some r => rfl
      | none => simp only [hprev, hturn, Bool.false_eq_true, if_false]
    cases hs : c.src with
    | sp => exact key true hs (by unfold State.arrive; rw [hs])
    | ctl => exact key false hs (by unfold State.arrive; rw [hs])
    | ring n => rw [hs] at hw; cases hw
    | mbox p x t => rw [hs] at hw; cases hw
  unfold runRow
  rw [if_neg (by simp [hop]), if_pos hr, wakeBlock_running hrun]
  unfold State.settle
  rw [hacc.2, hacc.1]
  rfl

/-- The end of a window command without SIGNAL. -/
theorem finish_window {s t : State} {c : Cmd} (r : Result) (hw : c.src.window = true) (hs : c.signal = false)
    (ht : t.cmd = (s.given c).cmd) (h : s.cmd.waiting = []) :
    t.finish s.cmd.accepted c r = { t with cmd := (s.replied c r).cmd } := by
  unfold State.finish
  dsimp only
  unfold State.signalFor
  rw [hs]
  simp only [Bool.not_false, if_true]
  unfold State.final
  dsimp only
  cases hc : c.src with
  | sp =>
    unfold State.replied State.onWindow State.onCmd
    rw [ht]
    unfold State.given State.onCmd CmdIf.window
    rw [hc]
    simp [Source.isSp, h]
  | ctl =>
    unfold State.replied State.onWindow State.onCmd
    rw [ht]
    unfold State.given State.onCmd CmdIf.window
    rw [hc]
    simp [Source.isSp, h]
  | ring n => rw [hc] at hw; cases hw
  | mbox p x y => rw [hc] at hw; cases hw

theorem replied_still {s t : State} {c : Cmd} {r : Result} (h : s.still) (ht : t.cmd = (s.replied c r).cmd)
    (he : t.eventsStill = true) : t.still := by
  have hs := h
  obtain ⟨_, _, _, h4, h5, _, _⟩ := hs
  refine still_of_cmd h ?_ ?_ ?_ ?_ ?_ ?_ he <;> rw [ht] <;> unfold State.replied State.onCmd CmdIf.window <;> split <;>
    first | rfl | exact h4.symm | exact h5.symm

theorem gives_quiet {s : State} {b : Body} {c : Cmd} (h : s.gives b c = true) : s.quiet = true := by
  unfold State.gives at h
  simp only [Bool.and_eq_true, beq_iff_eq, Bool.not_eq_true'] at h
  exact h.1.1.1.1

theorem gives_window {s : State} {b : Body} {c : Cmd} (h : s.gives b c = true) : c.src.window = true := by
  unfold State.gives at h
  simp only [Bool.and_eq_true, beq_iff_eq, Bool.not_eq_true'] at h
  exact h.1.1.1.2

theorem judged_none (s : State) (b : Body) : s.judged b none = s := by
  unfold State.judged
  rw [if_neg (by rintro ⟨_, h, _⟩; exact h rfl)]

theorem noteRange_cmd (s : State) (r : Result) : (s.noteRange r).cmd = s.cmd := by
  unfold State.noteRange
  split
  · unfold State.safetyRefusal
    split
    · split
      · split <;> rfl
      · rfl
    · rfl
  · rfl

theorem noteRange_still {s : State} (r : Result) (h : s.still) : (s.noteRange r).still := by
  unfold State.noteRange
  split
  · unfold State.safetyRefusal
    split
    · split
      · split <;> exact h
      · exact h
    · exact h
  · exact h

/-- What a refusal reports does not depend on the command interface. -/
theorem noteRange_onCmd (s : State) (k : CmdIf) (r : Result) :
    { s.noteRange r with cmd := k } = State.noteRange { s with cmd := k } r := by
  have ha : ∀ a, State.regionAt { s with cmd := k } a = s.regionAt a := fun _ => rfl
  unfold State.noteRange
  split
  · unfold State.safetyRefusal
    split
    · simp only [ha]
      split
      · split <;> rfl
      · rfl
    · rfl
  · rfl

theorem given_judgment {s : State} {b : Body} {c : Cmd} (h : s.quiet = true) :
    (s.given c).judgment b s.cmd.accepted false none c =
      ((s.given c).checkState b false c).or ((s.given c).checkParams b c) := by
  unfold State.judgment
  rw [judged_none, given_before c h]

theorem checkState_range {s : State} {b : Body} {q : Bool} {c : Cmd} {r : Result} (h : s.checkState b q c = some r) :
    r.refused = none := by
  unfold State.checkState at h
  by_cases h1 : s.safety.hold ∧ (if b.q then b.memory c else decide (c.src ≠ .sp))
  · rw [if_pos h1] at h; cases h; rfl
  · rw [if_neg h1] at h
    by_cases h2 : (!q && !s.executorUp (b.path c s)) = true
    · rw [if_pos h2] at h; cases h; rfl
    · rw [if_neg h2] at h; cases h

/-- A refusal among checks 1 to 8 names no range. -/
theorem checkHeader_range {s : State} {b : Option Body} {c : Cmd} {r : Result} (h : s.checkHeader b c = some r) :
    r.refused = none := by
  unfold State.checkHeader at h
  split at h
  · cases h; rfl
  · split at h
    · cases h; rfl
    · repeat' (split at h; · cases h; rfl)
      exact checkState_range h

theorem noteRange_none {s : State} {r : Result} (h : r.refused = none) : s.noteRange r = s := by
  unfold State.noteRange; rw [h]

/-- A window command that a check refuses: SIGNAL where it asks for one, and its final record (R48, R50, R57). -/
theorem runRow_refusal {s : State} {b : Body} {c : Cmd} {r : Result} (hb : bodyOf b.code = some b)
    (h : s.gives b c = true) (hr : s.refusal b c = some r) :
    runRow b c s = ((s.given c).noteRange r).ends s.cmd.accepted c r := by
  have hq := gives_quiet h
  rw [runRow_gives hb h]
  unfold State.refusal at hr
  unfold State.ends
  cases h1 : (s.given c).checkHeader (some b) c with
  | some r1 =>
    rw [h1] at hr
    cases hr
    simp only [noteRange_none (checkHeader_range h1)]
  | none =>
    rw [h1] at hr
    simp only [Option.none_or] at hr
    simp only
    unfold State.begin
    simp only [Option.isSome_none, given_judgment hq, hr]
    rfl

/-- A window command whose own accesses fail R114. -/
theorem runRow_barred {s : State} {b : Body} {c : Cmd} {r : Result} (hb : bodyOf b.code = some b)
    (h : s.gives b c = true) (hr : s.refusal b c = none) (hx : (s.given c).barredBy b c = some r) :
    runRow b c s = ((s.given c).count64.noteRange r).ends s.cmd.accepted c r := by
  have hq := gives_quiet h
  rw [runRow_gives hb h]
  unfold State.refusal at hr
  rw [Option.or_eq_none_iff] at hr
  unfold State.ends
  rw [hr.1]
  simp only
  unfold State.begin
  simp only [Option.isSome_none, given_judgment hq, hr.2, hx]
  rfl

/-- A window command that a check refuses, and that asks for no SIGNAL, changes nothing but its window, and is reported
where it names a range of a region with SAFETY = 1 (R48, R50, R87). -/
theorem runRow_refused {s : State} {b : Body} {c : Cmd} {r : Result} (hb : bodyOf b.code = some b)
    (h : s.gives b c = true) (hs : c.signal = false) (hr : s.refusal b c = some r) :
    runRow b c s = s.refusedWith c r := by
  have hq := gives_quiet h
  obtain ⟨_, hst, _⟩ := (State.quiet_iff s).1 hq
  rw [runRow_refusal hb h hr]
  have hf : ((s.given c).noteRange r).finish s.cmd.accepted c r = s.refusedWith c r := by
    rw [finish_window r (gives_window h) hs (noteRange_cmd _ r) hst.2.1, noteRange_onCmd]
    rfl
  unfold State.ends
  rw [hf]
  exact carryOn_of_still (noteRange_still r (replied_still hst rfl hst.2.2.2.2.2.2))

theorem takes_gives {s : State} {b : Body} {c : Cmd} (h : s.takes b c = true) :
    s.gives b c = true ∧ c.signal = false ∧ (s.given c).checkHeader (some b) c = none ∧
      (s.given c).checkParams b c = none ∧ (s.given c).barredBy b c = none ∧ (s.given c).mustWait b c = none := by
  unfold State.takes at h
  simp only [Bool.and_eq_true, Bool.not_eq_true', decide_eq_true_eq] at h
  exact ⟨h.1.1.1.1.1, h.1.1.1.1.2, h.1.1.1.2, h.1.1.2, h.1.2, h.2⟩

theorem checkState_of_header {s : State} {b : Body} {c : Cmd} (h : s.checkHeader (some b) c = none) :
    s.checkState b false c = none := by
  unfold State.checkHeader at h
  split at h
  · cases h
  · dsimp only at h
    repeat' (split at h; · cases h)
    exact h

theorem accessed_given (s : State) (c : Cmd) (ks : List Nat) : (s.given c).accessed ks = (s.accessed ks).given c := by
  unfold State.accessed
  induction ks generalizing s with
  | nil => rfl
  | cons k ks ih =>
    simp only [List.foldl_cons]
    have h : (s.given c).wakeCluster k 2 = (s.wakeCluster k 2).given c := by
      unfold State.wakeCluster
      have h2 : (s.given c).cpower k = s.cpower k := rfl
      rw [h2]
      split <;> rfl
    rw [h]; exact ih _

/-- What a window command that passes its checks finds: the clusters that it accesses count as accessed (R364). -/
def State.touched (s : State) (b : Body) (c : Cmd) : State := (s.reached b c).given c

theorem touched_eq (s : State) (b : Body) (c : Cmd) :
    (b.touches c (s.given c)).foldl (fun s k => s.wakeCluster k 2) (s.given c) = s.touched b c :=
  accessed_given s c _

/-- A window command that passes its checks starts. -/
theorem runRow_start {s : State} {b : Body} {c : Cmd} (hb : bodyOf b.code = some b) (h : s.takes b c = true) :
    runRow b c s = ((s.given c).start b s.cmd.accepted s.clock.xck ((s.given c).shepherd (b.path c (s.given c))) c).carryOn := by
  obtain ⟨hg, hs, h1, h2, hx, h3⟩ := takes_gives h
  have hq := gives_quiet hg
  rw [runRow_gives hb hg, h1]
  simp only
  unfold State.begin
  simp only [Option.isSome_none, given_judgment hq, checkState_of_header h1, h2, Option.none_or, hx, given_before c hq, h3]

/-- A window command whose parameters lie in memory has them read first. -/
theorem runRow_fetch {s : State} {b : Body} {c : Cmd} {a n : Nat} (hb : bodyOf b.code = some b)
    (h : s.takes b c = true) (hf : b.fetch c (s.touched b c) = some (a, n)) :
    runRow b c s = (s.fetching b c a n).carryOn := by
  rw [runRow_start hb h]
  unfold State.start
  simp only [touched_eq, hf]
  rfl

/-- A window command that passes its checks and is not deferred. -/
theorem runRow_act {s : State} {b : Body} {c : Cmd} (hb : bodyOf b.code = some b)
    (h : s.takes b c = true) (hd : c.defers = false) (hf : b.fetch c (s.touched b c) = none) :
    runRow b c s = (match b.act s.cmd.accepted c (s.touched b c) with
      | .done r t => t.finish s.cmd.accepted c r
      | .running t => t).carryOn := by
  rw [runRow_start hb h]
  unfold State.start
  simp only [touched_eq, hf, hd, Bool.false_eq_true, if_false]
  all_goals (cases b.act s.cmd.accepted c (s.touched b c) <;> rfl)

theorem touched_none {s : State} {b : Body} {c : Cmd} (h : b.touches c (s.given c) = []) : s.touched b c = s.given c := by
  unfold State.touched State.reached; rw [h]; rfl

theorem accessed_cmd (s : State) (ks : List Nat) : (s.accessed ks).cmd = s.cmd ∧ (s.accessed ks).clock = s.clock := by
  unfold State.accessed
  induction ks generalizing s with
  | nil => exact ⟨rfl, rfl⟩
  | cons k ks ih =>
    simp only [List.foldl_cons]
    have h : (s.wakeCluster k 2).cmd = s.cmd ∧ (s.wakeCluster k 2).clock = s.clock := by
      unfold State.wakeCluster
      split <;> exact ⟨rfl, rfl⟩
    obtain ⟨a, b⟩ := ih (s.wakeCluster k 2)
    exact ⟨a.trans h.1, b.trans h.2⟩

/-- A window command that ends at once, where its effect leaves the command interface alone. -/
theorem runRow_done {s : State} {b : Body} {c : Cmd} {r : Result} {t : State} (hb : bodyOf b.code = some b)
    (h : s.takes b c = true) (hd : c.defers = false) (hf : b.fetch c (s.touched b c) = none)
    (ha : b.act s.cmd.accepted c (s.touched b c) = .done r t) (ht : t.cmd = (s.given c).cmd)
    (he : t.eventsStill = true) :
    runRow b c s = { t with cmd := (s.replied c r).cmd } := by
  obtain ⟨hg, hs, _⟩ := takes_gives h
  rw [runRow_act hb h hd hf, ha]
  obtain ⟨_, hst, _⟩ := (State.quiet_iff s).1 (gives_quiet hg)
  simp only [finish_window r (gives_window hg) hs ht hst.2.1]
  exact carryOn_of_still (replied_still hst rfl he)

/-- A deferred window command has been entered. -/
theorem defer_window {s : State} {b : Body} {c : Cmd} (hw : c.src.window = true) :
    (s.given c).defer b s.cmd.accepted s.clock.xck c = s.deferred b c := by
  unfold State.defer
  cases hc : c.src with
  | sp =>
    simp only
    unfold State.interim State.deferred State.onWindow State.onCmd
    simp only [hc]
    unfold State.given State.onCmd CmdIf.window
    simp [hc, Source.isSp]
  | ctl =>
    simp only
    unfold State.interim State.deferred State.onWindow State.onCmd
    simp only [hc]
    unfold State.given State.onCmd CmdIf.window
    simp [hc, Source.isSp]
  | ring n => rw [hc] at hw; cases hw
  | mbox p x y => rw [hc] at hw; cases hw

/-- A window command that passes its checks and is deferred. -/
theorem runRow_deferred {s : State} {b : Body} {c : Cmd} (hb : bodyOf b.code = some b)
    (h : s.takes b c = true) (hd : c.defers = true) (hf : b.fetch c (s.touched b c) = none) :
    runRow b c s = (match b.act s.cmd.accepted c ((s.reached b c).deferred b c) with
      | .done r t => t.finish s.cmd.accepted c r
      | .running t => t).carryOn := by
  obtain ⟨hg, hs, _⟩ := takes_gives h
  rw [runRow_start hb h]
  unfold State.start
  simp only [touched_eq, hf, hd, if_true]
  have hk := accessed_cmd s (b.touches c (s.given c))
  have e : (s.touched b c).defer b s.cmd.accepted s.clock.xck c = (s.reached b c).deferred b c := by
    have := defer_window (s := s.reached b c) (b := b) (gives_window hg)
    unfold State.reached at this
    rw [hk.1, hk.2] at this
    exact this
  rw [e]
  all_goals (cases b.act s.cmd.accepted c ((s.reached b c).deferred b c) <;> rfl)

theorem takes_op {s : State} {b : Body} {c : Cmd} (h : s.takes b c = true) : c.op = b.code := by
  have := (takes_gives h).1
  unfold State.gives at this
  simp only [Bool.and_eq_true, beq_iff_eq] at this
  exact this.1.2

theorem takes_window {s : State} {b : Body} {c : Cmd} (h : s.takes b c = true) : c.src.window = true := by
  have := (takes_gives h).1
  unfold State.gives at this
  simp only [Bool.and_eq_true, beq_iff_eq] at this
  exact this.1.1.1.2

theorem takes_still {s : State} {b : Body} {c : Cmd} (h : s.takes b c = true) : s.still := by
  have := (takes_gives h).1
  unfold State.gives at this
  simp only [Bool.and_eq_true, beq_iff_eq] at this
  exact ((State.quiet_iff s).1 this.1.1.1.1).2.1

/-- Table 2-9, for a window: which opcodes are deferred. -/
theorem takes_defers {s : State} {b : Body} {c : Cmd} (h : s.takes b c = true) :
    c.defers = [0x005, 0x306, 0x403, 0x404, 0x410, 0x500, 0x501, 0x502, 0x503, 0x612, 0x710, 0x712, 0x802,
      0x901].contains b.code := by
  have hw := takes_window h
  unfold Cmd.defers
  rw [takes_op h]
  cases hc : c.src with
  | sp => simp
  | ctl => simp
  | ring n => rw [hc] at hw; cases hw
  | mbox p x y => rw [hc] at hw; cases hw

/-- A window command that passes its checks and ends at once. -/
theorem runRow_ends {s : State} {b : Body} {c : Cmd} {r : Result} {t : State} (hb : bodyOf b.code = some b)
    (h : s.takes b c = true) (hd : c.defers = false) (hf : b.fetch c (s.touched b c) = none)
    (ha : b.act s.cmd.accepted c (s.touched b c) = .done r t) :
    runRow b c s = t.ends s.cmd.accepted c r := by
  rw [runRow_act hb h hd hf, ha]
  rfl

end Sys2Proof.Machine
end

