-- ==== Sys2Proof/Laws/Fixed.lean ====
section
/-!
SUPPORT. What no command and no event changes: the configuration of the chip, and the queue of
commands that wait. One lemma for each function of the machine that answers a state.
-/

set_option linter.all false

namespace Sys2Proof.Machine

def State.fixed (s : State) : Model × List Instr := (s.cfg, s.pending)
@[simp] theorem State.mk_clock_fixed (s : State) (v) : ({ s with clock := v } : State).fixed = s.fixed := rfl
@[simp] theorem State.mk_time_fixed (s : State) (v) : ({ s with time := v } : State).fixed = s.fixed := rfl
@[simp] theorem State.mk_power_fixed (s : State) (v) : ({ s with power := v } : State).fixed = s.fixed := rfl
@[simp] theorem State.mk_safety_fixed (s : State) (v) : ({ s with safety := v } : State).fixed = s.fixed := rfl
@[simp] theorem State.mk_fw_fixed (s : State) (v) : ({ s with fw := v } : State).fixed = s.fixed := rfl
@[simp] theorem State.mk_reg_fixed (s : State) (v) : ({ s with reg := v } : State).fixed = s.fixed := rfl
@[simp] theorem State.mk_pins_fixed (s : State) (v) : ({ s with pins := v } : State).fixed = s.fixed := rfl
@[simp] theorem State.mk_tap_fixed (s : State) (v) : ({ s with tap := v } : State).fixed = s.fixed := rfl
@[simp] theorem State.mk_cmd_fixed (s : State) (v) : ({ s with cmd := v } : State).fixed = s.fixed := rfl
@[simp] theorem State.mk_addr_fixed (s : State) (v) : ({ s with addr := v } : State).fixed = s.fixed := rfl
@[simp] theorem State.mk_conv_fixed (s : State) (v) : ({ s with conv := v } : State).fixed = s.fixed := rfl
@[simp] theorem State.mk_xbar_fixed (s : State) (v) : ({ s with xbar := v } : State).fixed = s.fixed := rfl
@[simp] theorem State.mk_gov_fixed (s : State) (v) : ({ s with gov := v } : State).fixed = s.fixed := rfl
@[simp] theorem State.mk_eng_fixed (s : State) (v) : ({ s with eng := v } : State).fixed = s.fixed := rfl
@[simp] theorem State.mk_folds_fixed (s : State) (v) : ({ s with folds := v } : State).fixed = s.fixed := rfl
@[simp] theorem State.mk_links_fixed (s : State) (v) : ({ s with links := v } : State).fixed = s.fixed := rfl
@[simp] theorem State.mk_integ_fixed (s : State) (v) : ({ s with integ := v } : State).fixed = s.fixed := rfl
@[simp] theorem State.mk_mem_fixed (s : State) (v) : ({ s with mem := v } : State).fixed = s.fixed := rfl
@[simp] theorem State.mk_powerUps_fixed (s : State) (v) : ({ s with powerUps := v } : State).fixed = s.fixed := rfl
@[simp] theorem State.mk_fresh_fixed (s : State) (v) : ({ s with fresh := v } : State).fixed = s.fixed := rfl
theorem foldl_fixed {α : Type} (g : State → α → State) (h : ∀ s a, (g s a).fixed = s.fixed) (l : List α) (s : State) : (l.foldl g s).fixed = s.fixed := by
  induction l generalizing s with
  | nil => rfl
  | cons a l ih => simp [List.foldl, ih, h]
theorem foldl_fixed2 {α β : Type} (g : β × State → α → β × State) (h : ∀ s a, (g s a).2.fixed = s.2.fixed) (l : List α) (s : β × State) : (l.foldl g s).2.fixed = s.2.fixed := by
  induction l generalizing s with
  | nil => rfl
  | cons a l ih => simp [List.foldl, ih, h]
theorem pair_fixed {α : Type} {p : α × State} {a : α} {t : State} {q} (h : p = (a, t)) (hp : p.2.fixed = q) : t.fixed = q := by
  subst h; exact hp
theorem trip_fixed {α β : Type} {p : α × β × State} {a : α} {b : β} {t : State} {q} (h : p = (a, b, t)) (hp : p.2.2.fixed = q) : t.fixed = q := by
  subst h; exact hp
theorem pair1_fixed {α : Type} {p : State × α} {a : α} {t : State} {q} (h : p = (t, a)) (hp : p.1.fixed = q) : t.fixed = q := by
  subst h; exact hp
@[simp] theorem ite_fixed (c : Prop) [Decidable c] (a b : State) : (if c then a else b).fixed = if c then a.fixed else b.fixed := by split <;> rfl

/-! ### Ops -/

@[simp] theorem State.onPort_fixed (s : State) (p : ℕ) (f : Port → Port) :
    (State.onPort s p f).fixed = s.fixed := rfl

@[simp] theorem State.onSub_fixed (s : State) (n : ℕ) (f : SubPort → SubPort) :
    (State.onSub s n f).fixed = s.fixed := rfl

@[simp] theorem State.onBankq_fixed (s : State) (k : ℕ) (f : BankQueue → BankQueue) :
    (State.onBankq s k f).fixed = s.fixed := rfl

@[simp] theorem State.onSlot_fixed (s : State) (k : ℕ) (f : Slot → Slot) :
    (State.onSlot s k f).fixed = s.fixed := rfl

@[simp] theorem State.onBank_fixed (s : State) (g : ℕ) (f : BankInteg → BankInteg) :
    (State.onBank s g f).fixed = s.fixed := rfl

@[simp] theorem State.onLbank_fixed (s : State) (g : ℕ) (f : LBank → LBank) :
    (State.onLbank s g f).fixed = s.fixed := rfl

@[simp] theorem State.onCtest_fixed (s : State) (c : ℕ) (f : ClusterTest → ClusterTest) :
    (State.onCtest s c f).fixed = s.fixed := rfl

@[simp] theorem State.onCpower_fixed (s : State) (c : ℕ) (f : ClusterPower → ClusterPower) :
    (State.onCpower s c f).fixed = s.fixed := rfl

@[simp] theorem State.onDisp_fixed (s : State) (c : ℕ) (f : Dispatcher → Dispatcher) :
    (State.onDisp s c f).fixed = s.fixed := rfl

@[simp] theorem State.onCache_fixed (s : State) (c : ℕ) (f : ScaleCache → ScaleCache) :
    (State.onCache s c f).fixed = s.fixed := rfl

@[simp] theorem State.onRing_fixed (s : State) (n : ℕ) (f : Ring → Ring) :
    (State.onRing s n f).fixed = s.fixed := rfl

@[simp] theorem State.onView_fixed (s : State) (v : ℕ) (f : View → View) :
    (State.onView s v f).fixed = s.fixed := by
  unfold State.onView; split <;> simp

@[simp] theorem State.onRegion_fixed (s : State) (i : ℕ) (f : Region → Region) :
    (State.onRegion s i f).fixed = s.fixed := by
  unfold State.onRegion; split <;> simp

@[simp] theorem State.onPop_fixed (s : State) (i : ℕ) (f : Pop → Pop) : (State.onPop s i f).fixed =
    s.fixed := by
  unfold State.onPop; split <;> simp

@[simp] theorem State.onFold_fixed (s : State) (k : ℕ) (f : Fold → Fold) :
    (State.onFold s k f).fixed = s.fixed := rfl

@[simp] theorem State.onLink_fixed (s : State) (n : ℕ) (f : LinkPort → LinkPort) :
    (State.onLink s n f).fixed = s.fixed := rfl

@[simp] theorem State.onSafety_fixed (s : State) (f : Safety → Safety) : (State.onSafety s f).fixed
    = s.fixed := rfl

@[simp] theorem State.onPower_fixed (s : State) (f : Power → Power) : (State.onPower s f).fixed =
    s.fixed := rfl

@[simp] theorem State.onTime_fixed (s : State) (f : TimeBase → TimeBase) : (State.onTime s f).fixed
    = s.fixed := rfl

@[simp] theorem State.onFw_fixed (s : State) (f : Firmware → Firmware) : (State.onFw s f).fixed =
    s.fixed := rfl

@[simp] theorem State.onGov_fixed (s : State) (f : Gov → Gov) : (State.onGov s f).fixed = s.fixed := rfl

@[simp] theorem State.onCmd_fixed (s : State) (f : CmdIf → CmdIf) : (State.onCmd s f).fixed =
    s.fixed := rfl

@[simp] theorem State.onEng_fixed (s : State) (f : EventUnit → EventUnit) : (State.onEng s f).fixed
    = s.fixed := rfl

@[simp] theorem State.onFolds_fixed (s : State) (f : FoldUnit → FoldUnit) :
    (State.onFolds s f).fixed = s.fixed := rfl

@[simp] theorem State.onLinks_fixed (s : State) (f : Links → Links) : (State.onLinks s f).fixed =
    s.fixed := rfl

@[simp] theorem State.onInteg_fixed (s : State) (f : Integ → Integ) : (State.onInteg s f).fixed =
    s.fixed := rfl

@[simp] theorem State.onXbar_fixed (s : State) (f : Xbar → Xbar) : (State.onXbar s f).fixed =
    s.fixed := rfl

@[simp] theorem State.onConv_fixed (s : State) (f : Conv → Conv) : (State.onConv s f).fixed =
    s.fixed := rfl

@[simp] theorem State.draw_fixed (s : State) : (State.draw s).2.fixed = s.fixed := rfl

@[simp] theorem State.report_fixed (s : State) (f : FaultInfo) : (State.report s f).fixed = s.fixed := rfl

@[simp] theorem State.entryDetail_fixed (s : State) (f : FaultInfo) :
    (State.entryDetail s f).2.fixed = s.fixed := by
  unfold State.entryDetail; split <;> simp

@[simp] theorem State.newEntry_fixed (s : State) (f : FaultInfo) (level : ℕ) :
    (State.newEntry s f level).fixed = s.fixed := by
  simp [State.newEntry]

@[simp] theorem State.coalesce_fixed (s : State) (e : LedgerEntry) (level : ℕ) :
    (State.coalesce s e level).fixed = s.fixed := rfl

@[simp] theorem State.record_fixed (s : State) (f : FaultInfo) (level : ℕ) :
    (State.record s f level).fixed = s.fixed := by
  unfold State.record; split <;> simp

@[simp] theorem State.log_fixed (s : State) (f : FaultInfo) : (State.log s f).fixed = s.fixed := by
  simp [State.log]

@[simp] theorem State.integEvent_fixed (s : State) (i : ℕ) (bank : ℕ) :
    (State.integEvent s i bank).fixed = s.fixed := rfl

@[simp] theorem State.powerEvent_fixed (s : State) (i : ℕ) (cluster : ℕ) (step : ℕ) :
    (State.powerEvent s i cluster step).fixed = s.fixed := rfl

@[simp] theorem State.govFlag_fixed (s : State) (i : ℕ) : (State.govFlag s i).fixed = s.fixed := rfl

@[simp] theorem State.fwFlag_fixed (s : State) (i : ℕ) : (State.fwFlag s i).fixed = s.fixed := rfl

@[simp] theorem State.evEvent_fixed (s : State) (i : ℕ) (pop : ℕ) (cluster : ℕ) :
    (State.evEvent s i pop cluster).fixed = s.fixed := rfl

@[simp] theorem State.foldEvent_fixed (s : State) (i : ℕ) (k : ℕ) : (State.foldEvent s i k).fixed =
    s.fixed := rfl

@[simp] theorem State.linkEvent_fixed (s : State) (i : ℕ) (chip : ℕ) (port : ℕ) :
    (State.linkEvent s i chip port).fixed = s.fixed := rfl

/-! ### Flags -/

@[simp] theorem State.irqClear_fixed (s : State) (g : ℕ) (w : ℕ) : (State.irqClear s g w).fixed =
    s.fixed := by
  unfold State.irqClear; split <;> simp

@[simp] theorem State.irqSetEnable_fixed (s : State) (g : ℕ) (w : ℕ) :
    (State.irqSetEnable s g w).fixed = s.fixed := by
  unfold State.irqSetEnable; split <;> simp

@[simp] theorem State.holdLines_fixed (s : State) : (State.holdLines s).fixed = s.fixed := rfl

/-! ### Storage -/

@[simp] theorem State.setSymbol_fixed (s : State) (a : ℕ) (b : Byte) : (State.setSymbol s a b).fixed
    = s.fixed := rfl

@[simp] theorem State.clogAdd_fixed (s : State) (c : ℕ) (e : BitVec 32) :
    (State.clogAdd s c e).fixed = s.fixed := by
  simp [State.clogAdd]

@[simp] theorem State.noted_fixed (s : State) (bank : ℕ) (row : ℕ) (g : ℕ) (scrub : Bool)
    (d : Decoded) : (State.noted s bank row g scrub d).fixed = s.fixed := by
  unfold State.noted; (repeat' split) <;> simp

@[simp] theorem State.readGranule_fixed (s : State) (bank : ℕ) (row : ℕ) (g : ℕ) :
    (State.readGranule s bank row g).2.fixed = s.fixed := by
  simp [State.readGranule]

@[simp] theorem State.readGranules_fixed (s : State) (bank : ℕ) (row : ℕ) (y3 : List ℕ) :
    (State.readGranules s bank row y3).2.fixed = s.fixed := by
  induction y3 generalizing s bank row with
  | nil => (unfold State.readGranules; (repeat' (first | (with_reducible rfl) | assumption | (simp; done) | (simp [*]; done) | split | (refine (foldl_fixed _ (fun _ _ => ?_) _ _).trans ?_) | (refine (foldl_fixed2 _ (fun _ _ => ?_) _ _).trans ?_) | (refine pair_fixed (by assumption) ?_) | (refine trip_fixed (by assumption) ?_) | (refine pair1_fixed (by assumption) ?_) | (dsimp only) | simp)))
  | cons a1 t1 ih => (unfold State.readGranules; (repeat' (first | (with_reducible rfl) | assumption | (simp; done) | (simp [*]; done) | split | (refine (foldl_fixed _ (fun _ _ => ?_) _ _).trans ?_) | (refine (foldl_fixed2 _ (fun _ _ => ?_) _ _).trans ?_) | (refine pair_fixed (by assumption) ?_) | (refine trip_fixed (by assumption) ?_) | (refine pair1_fixed (by assumption) ?_) | (dsimp only) | simp)))

@[simp] theorem State.putWord_fixed (s : State) (k : ℕ) (prow : ℕ → ℕ) (g : ℕ) (w : List ℕ) :
    (State.putWord s k prow g w).fixed = s.fixed := by
  unfold State.putWord
  repeat' (first
    | (with_reducible rfl)
    | assumption
    | (simp; done)
    | (simp [*]; done)
    | split
    | (refine (foldl_fixed _ (fun _ _ => ?_) _ _).trans ?_)
    | (refine (foldl_fixed2 _ (fun _ _ => ?_) _ _).trans ?_)
    | (refine pair_fixed (by assumption) ?_)
    | (refine trip_fixed (by assumption) ?_)
    | (refine pair1_fixed (by assumption) ?_)
    | (dsimp only)
    | simp)

@[simp] theorem State.putGranule_fixed (s : State) (bank : ℕ) (row : ℕ) (g : ℕ) (w : List ℕ) :
    (State.putGranule s bank row g w).fixed = s.fixed := by
  unfold State.putGranule; dsimp only; (repeat' split) <;> simp

@[simp] theorem State.cancelWriteBack_fixed (s : State) (bank : ℕ) (row : ℕ) (g : ℕ) :
    (State.cancelWriteBack s bank row g).fixed = s.fixed := by
  simp [State.cancelWriteBack]

@[simp] theorem State.storeGranule_fixed (s : State) (bank : ℕ) (row : ℕ) (g : ℕ) (d : BitVec 256)
    (bad : Bool) : (State.storeGranule s bank row g d bad).fixed = s.fixed := by
  simp [State.storeGranule]

@[simp] theorem State.mergeGranule_fixed (s : State) (bank : ℕ) (row : ℕ) (g : ℕ) (new : BitVec 256)
    (mask : BitVec 256) : (State.mergeGranule s bank row g new mask).2.fixed = s.fixed := by
  unfold State.mergeGranule; dsimp only; (repeat' split) <;> simp

/-! ### Address -/

@[simp] theorem State.partialLaps_fixed (s : State) (p : ℕ → Bool) : (State.partialLaps s p).fixed =
    s.fixed := by
  unfold State.partialLaps
  repeat' (first
    | (with_reducible rfl)
    | assumption
    | (simp; done)
    | (simp [*]; done)
    | split
    | (refine (foldl_fixed _ (fun _ _ => ?_) _ _).trans ?_)
    | (refine (foldl_fixed2 _ (fun _ _ => ?_) _ _).trans ?_)
    | (refine pair_fixed (by assumption) ?_)
    | (refine trip_fixed (by assumption) ?_)
    | (refine pair1_fixed (by assumption) ?_)
    | (dsimp only)
    | simp)

@[simp] theorem State.scrubChange_fixed (s : State) (old : Option Region) (new : Option Region) :
    (State.scrubChange s old new).fixed = s.fixed := by
  simp [State.scrubChange]

@[simp] theorem State.readParts_fixed (s : State) (start : ℕ) (y2 : List (ℕ × ℕ)) :
    (State.readParts s start y2).2.fixed = s.fixed := by
  induction y2 generalizing s start with
  | nil => (unfold State.readParts; (repeat' (first | (with_reducible rfl) | assumption | (simp; done) | (simp [*]; done) | split | (refine (foldl_fixed _ (fun _ _ => ?_) _ _).trans ?_) | (refine (foldl_fixed2 _ (fun _ _ => ?_) _ _).trans ?_) | (refine pair_fixed (by assumption) ?_) | (refine trip_fixed (by assumption) ?_) | (refine pair1_fixed (by assumption) ?_) | (dsimp only) | simp)))
  | cons a1 t1 ih => (unfold State.readParts; (repeat' (first | (with_reducible rfl) | assumption | (simp; done) | (simp [*]; done) | split | (refine (foldl_fixed _ (fun _ _ => ?_) _ _).trans ?_) | (refine (foldl_fixed2 _ (fun _ _ => ?_) _ _).trans ?_) | (refine pair_fixed (by assumption) ?_) | (refine trip_fixed (by assumption) ?_) | (refine pair1_fixed (by assumption) ?_) | (dsimp only) | simp)))

@[simp] theorem State.readRange_fixed (s : State) (a : ℕ) (len : ℕ) :
    (State.readRange s a len).2.fixed = s.fixed := by
  simp [State.readRange]

@[simp] theorem State.writeGranule_fixed (s : State) (bank : ℕ) (row : ℕ) (g : ℕ) (new : BitVec 256)
    (mask : BitVec 256) (bad : Bool) : (State.writeGranule s bank row g new mask bad).2.fixed =
    s.fixed := by
  unfold State.writeGranule; (repeat' split) <;> simp

@[simp] theorem State.writeParts_fixed (s : State) (data : List Byte) (y2 : List (ℕ × ℕ)) :
    (State.writeParts s data y2).2.2.fixed = s.fixed := by
  induction y2 generalizing s data with
  | nil => (unfold State.writeParts; (repeat' (first | (with_reducible rfl) | assumption | (simp; done) | (simp [*]; done) | split | (refine (foldl_fixed _ (fun _ _ => ?_) _ _).trans ?_) | (refine (foldl_fixed2 _ (fun _ _ => ?_) _ _).trans ?_) | (refine pair_fixed (by assumption) ?_) | (refine trip_fixed (by assumption) ?_) | (refine pair1_fixed (by assumption) ?_) | (dsimp only) | simp)))
  | cons a1 t1 ih => (unfold State.writeParts; (repeat' (first | (with_reducible rfl) | assumption | (simp; done) | (simp [*]; done) | split | (refine (foldl_fixed _ (fun _ _ => ?_) _ _).trans ?_) | (refine (foldl_fixed2 _ (fun _ _ => ?_) _ _).trans ?_) | (refine pair_fixed (by assumption) ?_) | (refine trip_fixed (by assumption) ?_) | (refine pair1_fixed (by assumption) ?_) | (dsimp only) | simp)))

@[simp] theorem State.writeRange_fixed (s : State) (a : ℕ) (data : List Byte) :
    (State.writeRange s a data).2.2.fixed = s.fixed := by
  simp [State.writeRange]

/-! ### Request -/

@[simp] theorem State.onOutst_fixed (s : State) (id : ℕ) (f : Outst → Outst) :
    (State.onOutst s id f).fixed = s.fixed := rfl

@[simp] theorem State.dropOutst_fixed (s : State) (id : ℕ) : (State.dropOutst s id).fixed = s.fixed := rfl

@[simp] theorem State.onSeq_fixed (s : State) (t : LinkTag) (f : SeqRec → SeqRec) :
    (State.onSeq s t f).fixed = s.fixed := by
  unfold State.onSeq; (repeat' split) <;> simp

@[simp] theorem State.seqApplied_fixed (s : State) (t : LinkTag) : (State.seqApplied s t).fixed = s.fixed := by
  unfold State.seqApplied
  first
    | rfl
    | (simp; done)
    | ((repeat' split) <;> simp; done)
    | (dsimp only; (repeat' split) <;> simp; done)
    | (repeat' (first | (with_reducible rfl) | assumption | (simp; done) | (simp [*]; done) | split | (refine (foldl_fixed _ (fun _ _ => ?_) _ _).trans ?_) | (refine (foldl_fixed2 _ (fun _ _ => ?_) _ _).trans ?_) | (refine pair_fixed (by assumption) ?_) | (refine trip_fixed (by assumption) ?_) | (refine pair1_fixed (by assumption) ?_) | (dsimp only) | simp))

@[simp] theorem State.indicate_fixed (s : State) (c cause : Nat) : (State.indicate s c cause).fixed = s.fixed := by
  unfold State.indicate
  first
    | rfl
    | (simp; done)
    | ((repeat' split) <;> simp; done)
    | (dsimp only; (repeat' split) <;> simp; done)
    | (repeat' (first | (with_reducible rfl) | assumption | (simp; done) | (simp [*]; done) | split | (refine (foldl_fixed _ (fun _ _ => ?_) _ _).trans ?_) | (refine (foldl_fixed2 _ (fun _ _ => ?_) _ _).trans ?_) | (refine pair_fixed (by assumption) ?_) | (refine trip_fixed (by assumption) ?_) | (refine pair1_fixed (by assumption) ?_) | (dsimp only) | simp))

@[simp] theorem State.wakeCluster_fixed (s : State) (c : ℕ) (cause : ℕ) :
    (State.wakeCluster s c cause).fixed = s.fixed := by
  simp [State.wakeCluster]

@[simp] theorem State.present_fixed (s : State) (o : Outst) (r : Resp) : (State.present s o r).fixed
    = s.fixed := rfl

@[simp] theorem State.ended_fixed (s : State) (o : Outst) (st : Status) : (State.ended s o st).fixed
    = s.fixed := by
  unfold State.ended; split <;> simp

@[simp] theorem State.answer_fixed (s : State) (o : Outst) (st : Status) (token : BitVec 32) :
    (State.answer s o st token).fixed = s.fixed := by
  simp [State.answer]

@[simp] theorem State.refuseRead_fixed (s : State) (o : Outst) (st : Status) :
    (State.refuseRead s o st).fixed = s.fixed := by
  unfold State.refuseRead
  repeat' (first
    | (with_reducible rfl)
    | assumption
    | (simp; done)
    | (simp [*]; done)
    | split
    | (refine (foldl_fixed _ (fun _ _ => ?_) _ _).trans ?_)
    | (refine (foldl_fixed2 _ (fun _ _ => ?_) _ _).trans ?_)
    | (refine pair_fixed (by assumption) ?_)
    | (refine trip_fixed (by assumption) ?_)
    | (refine pair1_fixed (by assumption) ?_)
    | (dsimp only)
    | simp)

@[simp] theorem State.refuseReq_fixed (s : State) (o : Outst) (st : Status) :
    (State.refuseReq s o st).fixed = s.fixed := by
  simp [State.refuseReq]

@[simp] theorem State.sample_fixed (s : State) (p : ℕ) (read : Bool) (lat : ℕ) :
    (State.sample s p read lat).fixed = s.fixed := rfl

@[simp] theorem State.presentReady_fixed (s : State) (id : ℕ) (y2 : ℕ) :
    (State.presentReady s id y2).fixed = s.fixed := by
  induction y2 generalizing s id with
  | zero => (unfold State.presentReady; (repeat' (first | (with_reducible rfl) | assumption | (simp; done) | (simp [*]; done) | split | (refine (foldl_fixed _ (fun _ _ => ?_) _ _).trans ?_) | (refine (foldl_fixed2 _ (fun _ _ => ?_) _ _).trans ?_) | (refine pair_fixed (by assumption) ?_) | (refine trip_fixed (by assumption) ?_) | (refine pair1_fixed (by assumption) ?_) | (dsimp only) | simp)))
  | succ n1 ih => (unfold State.presentReady; (repeat' (first | (with_reducible rfl) | assumption | (simp; done) | (simp [*]; done) | split | (refine (foldl_fixed _ (fun _ _ => ?_) _ _).trans ?_) | (refine (foldl_fixed2 _ (fun _ _ => ?_) _ _).trans ?_) | (refine pair_fixed (by assumption) ?_) | (refine trip_fixed (by assumption) ?_) | (refine pair1_fixed (by assumption) ?_) | (dsimp only) | simp)))

@[simp] theorem State.readBeat_fixed (s : State) (id : ℕ) (r : Resp) : (State.readBeat s id r).fixed
    = s.fixed := by
  simp [State.readBeat]

@[simp] theorem State.writeOver_fixed (s : State) (o : Outst) : (State.writeOver s o).fixed = s.fixed := by
  unfold State.writeOver
  first
    | rfl
    | (simp; done)
    | ((repeat' split) <;> simp; done)
    | (dsimp only; (repeat' split) <;> simp; done)
    | (repeat' (first | (with_reducible rfl) | assumption | (simp; done) | (simp [*]; done) | split | (refine (foldl_fixed _ (fun _ _ => ?_) _ _).trans ?_) | (refine (foldl_fixed2 _ (fun _ _ => ?_) _ _).trans ?_) | (refine pair_fixed (by assumption) ?_) | (refine trip_fixed (by assumption) ?_) | (refine pair1_fixed (by assumption) ?_) | (dsimp only) | simp))

@[simp] theorem State.writePart_fixed (s : State) (id : ℕ) (entry : Bool) (d : Stored) : (State.writePart s id entry d).fixed = s.fixed := by
  unfold State.writePart
  first
    | rfl
    | (simp; done)
    | ((repeat' split) <;> simp; done)
    | (dsimp only; (repeat' split) <;> simp; done)
    | (repeat' (first | (with_reducible rfl) | assumption | (simp; done) | (simp [*]; done) | split | (refine (foldl_fixed _ (fun _ _ => ?_) _ _).trans ?_) | (refine (foldl_fixed2 _ (fun _ _ => ?_) _ _).trans ?_) | (refine pair_fixed (by assumption) ?_) | (refine trip_fixed (by assumption) ?_) | (refine pair1_fixed (by assumption) ?_) | (dsimp only) | simp))

/-! ### Ingress -/

@[simp] theorem State.passEnds_fixed (s : State) : (State.passEnds s).fixed = s.fixed := by
  simp [State.passEnds]

@[simp] theorem State.sendEntries_fixed (s : State) (es : List Piece) : (State.sendEntries s es).fixed = s.fixed := by
  unfold State.sendEntries
  first
    | rfl
    | (simp; done)
    | ((repeat' split) <;> simp; done)
    | (dsimp only; (repeat' split) <;> simp; done)
    | (repeat' (first | (with_reducible rfl) | assumption | (simp; done) | (simp [*]; done) | split | (refine (foldl_fixed _ (fun _ _ => ?_) _ _).trans ?_) | (refine (foldl_fixed2 _ (fun _ _ => ?_) _ _).trans ?_) | (refine pair_fixed (by assumption) ?_) | (refine trip_fixed (by assumption) ?_) | (refine pair1_fixed (by assumption) ?_) | (dsimp only) | simp))

@[simp] theorem State.countPerm_fixed (s : State) (p : Nat) : (State.countPerm s p).fixed = s.fixed := by
  unfold State.countPerm
  first
    | rfl
    | (simp; done)
    | ((repeat' split) <;> simp; done)
    | (dsimp only; (repeat' split) <;> simp; done)
    | (repeat' (first | (with_reducible rfl) | assumption | (simp; done) | (simp [*]; done) | split | (refine (foldl_fixed _ (fun _ _ => ?_) _ _).trans ?_) | (refine (foldl_fixed2 _ (fun _ _ => ?_) _ _).trans ?_) | (refine pair_fixed (by assumption) ?_) | (refine trip_fixed (by assumption) ?_) | (refine pair1_fixed (by assumption) ?_) | (dsimp only) | simp))

@[simp] theorem State.safetyRefusal_fixed (s : State) (p : ℕ) (addr : ℕ) (st : Status) :
    (State.safetyRefusal s p addr st).fixed = s.fixed := by
  unfold State.safetyRefusal; (repeat' split) <;> simp

@[simp] theorem State.noteEntries_fixed (s : State) (b : BoundView) (gs : List GroupScale) : (State.noteEntries s b gs).fixed = s.fixed := by
  unfold State.noteEntries
  first
    | rfl
    | (simp; done)
    | ((repeat' split) <;> simp; done)
    | (dsimp only; (repeat' split) <;> simp; done)
    | (repeat' (first | (with_reducible rfl) | assumption | (simp; done) | (simp [*]; done) | split | (refine (foldl_fixed _ (fun _ _ => ?_) _ _).trans ?_) | (refine (foldl_fixed2 _ (fun _ _ => ?_) _ _).trans ?_) | (refine pair_fixed (by assumption) ?_) | (refine trip_fixed (by assumption) ?_) | (refine pair1_fixed (by assumption) ?_) | (dsimp only) | simp))

@[simp] theorem State.planPieces_fixed (s : State) (o : Outst) (xs : List Piece)
    (v : Option BoundView) (stored : ℕ) : (State.planPieces s o xs v stored).2.fixed = s.fixed := by
  unfold State.planPieces; (repeat' split) <;> simp

@[simp] theorem State.planLocal_fixed (s : State) (o : Outst) (r : Region) (v : Option BoundView)
    (stored : ℕ) : (State.planLocal s o r v stored).2.fixed = s.fixed := by
  simp [State.planLocal]

@[simp] theorem State.planData_fixed (s : State) (o : Outst) : (State.planData s o).2.fixed =
    s.fixed := by
  unfold State.planData; split <;> simp

@[simp] theorem State.payloadFault_fixed (s : State) (p : ℕ) : (State.payloadFault s p).fixed =
    s.fixed := rfl

@[simp] theorem State.planFold_fixed (s : State) (o : Outst) : (State.planFold s o).2.fixed =
    s.fixed := by
  unfold State.planFold
  repeat' (first
    | (with_reducible rfl)
    | assumption
    | (simp; done)
    | (simp [*]; done)
    | split
    | (refine (foldl_fixed _ (fun _ _ => ?_) _ _).trans ?_)
    | (refine (foldl_fixed2 _ (fun _ _ => ?_) _ _).trans ?_)
    | (refine pair_fixed (by assumption) ?_)
    | (refine trip_fixed (by assumption) ?_)
    | (refine pair1_fixed (by assumption) ?_)
    | (dsimp only)
    | simp)

@[simp] theorem State.planFence_fixed (s : State) (o : Outst) : (State.planFence s o).2.fixed =
    s.fixed := by
  unfold State.planFence; dsimp only; (repeat' split) <;> simp

@[simp] theorem State.planOther_fixed (s : State) (o : Outst) : (State.planOther s o).2.fixed = s.fixed := by
  unfold State.planOther
  first
    | rfl
    | (simp; done)
    | ((repeat' split) <;> simp; done)
    | (dsimp only; (repeat' split) <;> simp; done)
    | (repeat' (first | (with_reducible rfl) | assumption | (simp; done) | (simp [*]; done) | split | (refine (foldl_fixed _ (fun _ _ => ?_) _ _).trans ?_) | (refine (foldl_fixed2 _ (fun _ _ => ?_) _ _).trans ?_) | (refine pair_fixed (by assumption) ?_) | (refine trip_fixed (by assumption) ?_) | (refine pair1_fixed (by assumption) ?_) | (dsimp only) | simp))

@[simp] theorem State.plan_fixed (s : State) (o : Outst) : (State.plan s o).2.fixed = s.fixed := by
  unfold State.plan; dsimp only; (repeat' split) <;> simp

/-! ### Pump -/

@[simp] theorem State.forget_fixed (s : State) (o : Outst) : (State.forget s o).fixed = s.fixed := by
  unfold State.forget; dsimp only; (repeat' split) <;> simp

@[simp] theorem State.freeDying_fixed (s : State) (k : ℕ) : (State.freeDying s k).fixed = s.fixed := by
  simp [State.freeDying]

@[simp] theorem State.holdFold_fixed (s : State) (o : Outst) (t : LinkTag) (op : FoldOp) :
    (State.holdFold s o t op).fixed = s.fixed := by
  simp [State.holdFold]

@[simp] theorem State.foldPush_fixed (s : State) (o : FoldOp) : (State.foldPush s o).fixed = s.fixed := by
  simp [State.foldPush]

@[simp] theorem State.send_fixed (s : State) (o : Outst) : (State.send s o).fixed = s.fixed := by
  unfold State.send
  repeat' (first
    | (with_reducible rfl)
    | assumption
    | (simp; done)
    | (simp [*]; done)
    | split
    | (refine (foldl_fixed _ (fun _ _ => ?_) _ _).trans ?_)
    | (refine (foldl_fixed2 _ (fun _ _ => ?_) _ _).trans ?_)
    | (refine pair_fixed (by assumption) ?_)
    | (refine trip_fixed (by assumption) ?_)
    | (refine pair1_fixed (by assumption) ?_)
    | (dsimp only)
    | simp)

@[simp] theorem State.count64_fixed (s : State) : (State.count64 s).fixed = s.fixed := by
  unfold State.count64
  first
    | rfl
    | (simp; done)
    | ((repeat' split) <;> simp; done)
    | (dsimp only; (repeat' split) <;> simp; done)
    | (repeat' (first | (with_reducible rfl) | assumption | (simp; done) | (simp [*]; done) | split | (refine (foldl_fixed _ (fun _ _ => ?_) _ _).trans ?_) | (refine (foldl_fixed2 _ (fun _ _ => ?_) _ _).trans ?_) | (refine pair_fixed (by assumption) ?_) | (refine trip_fixed (by assumption) ?_) | (refine pair1_fixed (by assumption) ?_) | (dsimp only) | simp))

@[simp] theorem State.ask_fixed (s : State) (o : Outst) : (State.ask s o).2.fixed = s.fixed := by
  unfold State.ask
  first
    | rfl
    | (simp; done)
    | ((repeat' split) <;> simp; done)
    | (dsimp only; (repeat' split) <;> simp; done)
    | (repeat' (first | (with_reducible rfl) | assumption | (simp; done) | (simp [*]; done) | split | (refine (foldl_fixed _ (fun _ _ => ?_) _ _).trans ?_) | (refine (foldl_fixed2 _ (fun _ _ => ?_) _ _).trans ?_) | (refine pair_fixed (by assumption) ?_) | (refine trip_fixed (by assumption) ?_) | (refine pair1_fixed (by assumption) ?_) | (dsimp only) | simp))

@[simp] theorem State.askRead_fixed (s : State) (cls : ℕ) (ctx : ℕ) (a : ℕ) (len : ℕ) : (State.askRead s cls ctx a len).2.fixed = s.fixed := by
  unfold State.askRead
  first
    | rfl
    | (simp; done)
    | ((repeat' split) <;> simp; done)
    | (dsimp only; (repeat' split) <;> simp; done)
    | (repeat' (first | (with_reducible rfl) | assumption | (simp; done) | (simp [*]; done) | split | (refine (foldl_fixed _ (fun _ _ => ?_) _ _).trans ?_) | (refine (foldl_fixed2 _ (fun _ _ => ?_) _ _).trans ?_) | (refine pair_fixed (by assumption) ?_) | (refine trip_fixed (by assumption) ?_) | (refine pair1_fixed (by assumption) ?_) | (dsimp only) | simp))

@[simp] theorem State.askWrite_fixed (s : State) (cls : ℕ) (ctx : ℕ) (a : ℕ) (data : List Byte) : (State.askWrite s cls ctx a data).2.fixed = s.fixed := by
  unfold State.askWrite
  first
    | rfl
    | (simp; done)
    | ((repeat' split) <;> simp; done)
    | (dsimp only; (repeat' split) <;> simp; done)
    | (repeat' (first | (with_reducible rfl) | assumption | (simp; done) | (simp [*]; done) | split | (refine (foldl_fixed _ (fun _ _ => ?_) _ _).trans ?_) | (refine (foldl_fixed2 _ (fun _ _ => ?_) _ _).trans ?_) | (refine pair_fixed (by assumption) ?_) | (refine trip_fixed (by assumption) ?_) | (refine pair1_fixed (by assumption) ?_) | (dsimp only) | simp))

@[simp] theorem State.takeAnswers_fixed (s : State) (req : ℕ) : (State.takeAnswers s req).fixed = s.fixed := by
  unfold State.takeAnswers
  first
    | rfl
    | (simp; done)
    | ((repeat' split) <;> simp; done)
    | (dsimp only; (repeat' split) <;> simp; done)
    | (repeat' (first | (with_reducible rfl) | assumption | (simp; done) | (simp [*]; done) | split | (refine (foldl_fixed _ (fun _ _ => ?_) _ _).trans ?_) | (refine (foldl_fixed2 _ (fun _ _ => ?_) _ _).trans ?_) | (refine pair_fixed (by assumption) ?_) | (refine trip_fixed (by assumption) ?_) | (refine pair1_fixed (by assumption) ?_) | (dsimp only) | simp))

@[simp] theorem State.releaseFrom_fixed (s : State) (y1 : List ℕ) : (State.releaseFrom s y1).fixed =
    s.fixed := by
  induction y1 generalizing s with
  | nil => (unfold State.releaseFrom; (repeat' (first | (with_reducible rfl) | assumption | (simp; done) | (simp [*]; done) | split | (refine (foldl_fixed _ (fun _ _ => ?_) _ _).trans ?_) | (refine (foldl_fixed2 _ (fun _ _ => ?_) _ _).trans ?_) | (refine pair_fixed (by assumption) ?_) | (refine trip_fixed (by assumption) ?_) | (refine pair1_fixed (by assumption) ?_) | (dsimp only) | simp)))
  | cons a1 t1 ih => (unfold State.releaseFrom; (repeat' (first | (with_reducible rfl) | assumption | (simp; done) | (simp [*]; done) | split | (refine (foldl_fixed _ (fun _ _ => ?_) _ _).trans ?_) | (refine (foldl_fixed2 _ (fun _ _ => ?_) _ _).trans ?_) | (refine pair_fixed (by assumption) ?_) | (refine trip_fixed (by assumption) ?_) | (refine pair1_fixed (by assumption) ?_) | (dsimp only) | simp)))

@[simp] theorem State.release_fixed (s : State) (p : ℕ) : (State.release s p).fixed = s.fixed := by
  simp [State.release]

@[simp] theorem State.parityFault_fixed (s : State) (p : ℕ) : (State.parityFault s p).fixed =
    s.fixed := rfl

theorem State.acceptHead_fixed {s t : State} {p : ℕ} (h : s.acceptHead p = some t) : t.fixed = s.fixed := by
  unfold State.acceptHead at h
  split at h
  · simp at h
  · dsimp only at h
    split at h
    · simp at h; subst h; (repeat' (first | (with_reducible rfl) | assumption | (simp; done) | (simp [*]; done) | split | (refine (foldl_fixed _ (fun _ _ => ?_) _ _).trans ?_) | (refine (foldl_fixed2 _ (fun _ _ => ?_) _ _).trans ?_) | (refine pair_fixed (by assumption) ?_) | (refine trip_fixed (by assumption) ?_) | (refine pair1_fixed (by assumption) ?_) | (dsimp only) | simp))
    · split at h
      · simp at h
      · simp at h; subst h; (repeat' (first | (with_reducible rfl) | assumption | (simp; done) | (simp [*]; done) | split | (refine (foldl_fixed _ (fun _ _ => ?_) _ _).trans ?_) | (refine (foldl_fixed2 _ (fun _ _ => ?_) _ _).trans ?_) | (refine pair_fixed (by assumption) ?_) | (refine trip_fixed (by assumption) ?_) | (refine pair1_fixed (by assumption) ?_) | (dsimp only) | simp))

@[simp] theorem State.pumpN_fixed (s : State) (p : ℕ) (y2 : ℕ) : (State.pumpN s p y2).fixed =
    s.fixed := by
  induction y2 generalizing s p with
  | zero => rfl
  | succ n1 ih =>
    unfold State.pumpN
    split
    · rename_i h; rw [ih, State.acceptHead_fixed h]
    · rfl

@[simp] theorem State.pump_fixed (s : State) (p : ℕ) : (State.pump s p).fixed = s.fixed := by
  simp [State.pump]

@[simp] theorem State.pumpAll_fixed (s : State) : (State.pumpAll s).fixed = s.fixed := by
  unfold State.pumpAll
  repeat' (first
    | (with_reducible rfl)
    | assumption
    | (simp; done)
    | (simp [*]; done)
    | split
    | (refine (foldl_fixed _ (fun _ _ => ?_) _ _).trans ?_)
    | (refine (foldl_fixed2 _ (fun _ _ => ?_) _ _).trans ?_)
    | (refine pair_fixed (by assumption) ?_)
    | (refine trip_fixed (by assumption) ?_)
    | (refine pair1_fixed (by assumption) ?_)
    | (dsimp only)
    | simp)

@[simp] theorem State.offer_fixed (s : State) (p : ℕ) (q : Queued) : (State.offer s p q).fixed =
    s.fixed := by
  simp [State.offer]

@[simp] theorem State.takeBeat_fixed (s : State) (p : ℕ) (b : WBeat) : (State.takeBeat s p b).fixed
    = s.fixed := by
  simp [State.takeBeat]

/-! ### Regulate -/

@[simp] theorem State.climb_fixed (s : State) : (State.climb s).fixed = s.fixed := by
  simp [State.climb]

@[simp] theorem State.charge_fixed (s : State) (p : ℕ) (c : ℕ) (tolls : ℕ) :
    (State.charge s p c tolls).fixed = s.fixed := by
  simp [State.charge]

@[simp] theorem State.countBytes_fixed (s : State) (p : ℕ) : (State.countBytes s p).fixed = s.fixed := rfl

@[simp] theorem State.touchPorts_fixed (s : State) : (State.touchPorts s).fixed = s.fixed := by
  unfold State.touchPorts
  first
    | rfl
    | (simp; done)
    | ((repeat' split) <;> simp; done)
    | (dsimp only; (repeat' split) <;> simp; done)
    | (repeat' (first | (with_reducible rfl) | assumption | (simp; done) | (simp [*]; done) | split | (refine (foldl_fixed _ (fun _ _ => ?_) _ _).trans ?_) | (refine (foldl_fixed2 _ (fun _ _ => ?_) _ _).trans ?_) | (refine pair_fixed (by assumption) ?_) | (refine trip_fixed (by assumption) ?_) | (refine pair1_fixed (by assumption) ?_) | (dsimp only) | simp))

@[simp] theorem State.see_fixed (s : State) : (State.see s).fixed = s.fixed := by
  unfold State.see
  first
    | rfl
    | (simp; done)
    | ((repeat' split) <;> simp; done)
    | (dsimp only; (repeat' split) <;> simp; done)
    | (repeat' (first | (with_reducible rfl) | assumption | (simp; done) | (simp [*]; done) | split | (refine (foldl_fixed _ (fun _ _ => ?_) _ _).trans ?_) | (refine (foldl_fixed2 _ (fun _ _ => ?_) _ _).trans ?_) | (refine pair_fixed (by assumption) ?_) | (refine trip_fixed (by assumption) ?_) | (refine pair1_fixed (by assumption) ?_) | (dsimp only) | simp))

/-! ### Record -/

@[simp] theorem State.taint_fixed (s : State) (pop : ℕ) : (State.taint s pop).fixed = s.fixed := by
  unfold State.taint; split <;> simp

@[simp] theorem State.onStep_fixed (s : State) (pop : ℕ) (f : StepRun → StepRun) :
    (State.onStep s pop f).fixed = s.fixed := rfl

@[simp] theorem State.emitFrom_fixed (s : State) (c : ℕ) (full : List ℕ) (y3 : List (ℕ × OutEvent)) : (State.emitFrom s c full y3).2.fixed = s.fixed := by
  induction y3 generalizing s c full with
  | nil => (unfold State.emitFrom; (repeat' (first | (with_reducible rfl) | assumption | (simp; done) | (simp [*]; done) | split | (refine (foldl_fixed _ (fun _ _ => ?_) _ _).trans ?_) | (refine (foldl_fixed2 _ (fun _ _ => ?_) _ _).trans ?_) | (refine pair_fixed (by assumption) ?_) | (refine trip_fixed (by assumption) ?_) | (refine pair1_fixed (by assumption) ?_) | (dsimp only) | simp)))
  | cons a1 t1 ih => (unfold State.emitFrom; (repeat' (first | (with_reducible rfl) | assumption | (simp; done) | (simp [*]; done) | split | (refine (foldl_fixed _ (fun _ _ => ?_) _ _).trans ?_) | (refine (foldl_fixed2 _ (fun _ _ => ?_) _ _).trans ?_) | (refine pair_fixed (by assumption) ?_) | (refine trip_fixed (by assumption) ?_) | (refine pair1_fixed (by assumption) ?_) | (dsimp only) | simp)))

@[simp] theorem State.emitAll_fixed (s : State) (c : ℕ) : (State.emitAll s c).fixed = s.fixed := by
  unfold State.emitAll
  repeat' (first
    | (with_reducible rfl)
    | assumption
    | (simp; done)
    | (simp [*]; done)
    | split
    | (refine (foldl_fixed _ (fun _ _ => ?_) _ _).trans ?_)
    | (refine (foldl_fixed2 _ (fun _ _ => ?_) _ _).trans ?_)
    | (refine pair_fixed (by assumption) ?_)
    | (refine trip_fixed (by assumption) ?_)
    | (refine pair1_fixed (by assumption) ?_)
    | (dsimp only)
    | simp)

@[simp] theorem State.emitRows_fixed (s : State) (c : ℕ) (pop : ℕ) (y3 : ℕ) : (State.emitRows s c pop y3).fixed = s.fixed := by
  induction y3 generalizing s c pop with
  | zero => (unfold State.emitRows; (repeat' (first | (with_reducible rfl) | assumption | (simp; done) | (simp [*]; done) | split | (refine (foldl_fixed _ (fun _ _ => ?_) _ _).trans ?_) | (refine (foldl_fixed2 _ (fun _ _ => ?_) _ _).trans ?_) | (refine pair_fixed (by assumption) ?_) | (refine trip_fixed (by assumption) ?_) | (refine pair1_fixed (by assumption) ?_) | (dsimp only) | simp)))
  | succ n1 ih => (unfold State.emitRows; (repeat' (first | (with_reducible rfl) | assumption | (simp; done) | (simp [*]; done) | split | (refine (foldl_fixed _ (fun _ _ => ?_) _ _).trans ?_) | (refine (foldl_fixed2 _ (fun _ _ => ?_) _ _).trans ?_) | (refine pair_fixed (by assumption) ?_) | (refine trip_fixed (by assumption) ?_) | (refine pair1_fixed (by assumption) ?_) | (dsimp only) | simp)))

@[simp] theorem State.stepWritten_fixed (s : State) (pop : ℕ) (row : ℕ) (p : Pop) (spikes : List (ℕ × ℤ)) (sats : ℕ) : (State.stepWritten s pop row p spikes sats).fixed = s.fixed := by
  unfold State.stepWritten
  first
    | rfl
    | (simp; done)
    | ((repeat' split) <;> simp; done)
    | (dsimp only; (repeat' split) <;> simp; done)
    | (repeat' (first | (with_reducible rfl) | assumption | (simp; done) | (simp [*]; done) | split | (refine (foldl_fixed _ (fun _ _ => ?_) _ _).trans ?_) | (refine (foldl_fixed2 _ (fun _ _ => ?_) _ _).trans ?_) | (refine pair_fixed (by assumption) ?_) | (refine trip_fixed (by assumption) ?_) | (refine pair1_fixed (by assumption) ?_) | (dsimp only) | simp))

@[simp] theorem State.noteAdds_fixed (s : State) (pop : ℕ) (bank : ℕ) (m : RowMade) : (State.noteAdds s pop bank m).fixed = s.fixed := by
  unfold State.noteAdds
  first
    | rfl
    | (simp; done)
    | ((repeat' split) <;> simp; done)
    | (dsimp only; (repeat' split) <;> simp; done)
    | (repeat' (first | (with_reducible rfl) | assumption | (simp; done) | (simp [*]; done) | split | (refine (foldl_fixed _ (fun _ _ => ?_) _ _).trans ?_) | (refine (foldl_fixed2 _ (fun _ _ => ?_) _ _).trans ?_) | (refine pair_fixed (by assumption) ?_) | (refine trip_fixed (by assumption) ?_) | (refine pair1_fixed (by assumption) ?_) | (dsimp only) | simp))

@[simp] theorem State.noteStep_fixed (s : State) (pop : ℕ) (addr : ℕ) (bank : ℕ) (row : ℕ) (m : RowMade) : (State.noteStep s pop addr bank row m).fixed = s.fixed := by
  unfold State.noteStep
  first
    | rfl
    | (simp; done)
    | ((repeat' split) <;> simp; done)
    | (dsimp only; (repeat' split) <;> simp; done)
    | (repeat' (first | (with_reducible rfl) | assumption | (simp; done) | (simp [*]; done) | split | (refine (foldl_fixed _ (fun _ _ => ?_) _ _).trans ?_) | (refine (foldl_fixed2 _ (fun _ _ => ?_) _ _).trans ?_) | (refine pair_fixed (by assumption) ?_) | (refine trip_fixed (by assumption) ?_) | (refine pair1_fixed (by assumption) ?_) | (dsimp only) | simp))

/-! ### Arbiter -/

@[simp] theorem State.takeSlots_fixed (s : State) (bank : Nat) (read write : Bool) : (State.takeSlots s bank read write).fixed = s.fixed := by
  unfold State.takeSlots
  first
    | rfl
    | (simp; done)
    | ((repeat' split) <;> simp; done)
    | (dsimp only; (repeat' split) <;> simp; done)
    | (repeat' (first | (with_reducible rfl) | assumption | (simp; done) | (simp [*]; done) | split | (refine (foldl_fixed _ (fun _ _ => ?_) _ _).trans ?_) | (refine (foldl_fixed2 _ (fun _ _ => ?_) _ _).trans ?_) | (refine pair_fixed (by assumption) ?_) | (refine trip_fixed (by assumption) ?_) | (refine pair1_fixed (by assumption) ?_) | (dsimp only) | simp))

@[simp] theorem State.noteAccepted_fixed (s : State) (id : ℕ) : (State.noteAccepted s id).fixed =
    s.fixed := by
  simp [State.noteAccepted]

@[simp] theorem State.enterQueue_fixed (s : State) (p : ℕ) (n : ℕ) : (State.enterQueue s p n).fixed
    = s.fixed := by
  unfold State.enterQueue; dsimp only; (repeat' split) <;> simp

@[simp] theorem State.grantSide_fixed (s : State) (n : ℕ) (read : Bool) (t : ℕ)
    (d : Option (GrantStep × Piece)) : (State.grantSide s n read t d).fixed = s.fixed := by
  unfold State.grantSide; (repeat' split) <;> simp

@[simp] theorem State.decideSide_fixed (s : State) (n : Nat) (read : Bool) (t : Nat) (d : Option (GrantStep × Piece)) : (State.decideSide s n read t d).fixed = s.fixed := by
  unfold State.decideSide
  first
    | rfl
    | (simp; done)
    | ((repeat' split) <;> simp; done)
    | (dsimp only; (repeat' split) <;> simp; done)
    | (repeat' (first | (with_reducible rfl) | assumption | (simp; done) | (simp [*]; done) | split | (refine (foldl_fixed _ (fun _ _ => ?_) _ _).trans ?_) | (refine (foldl_fixed2 _ (fun _ _ => ?_) _ _).trans ?_) | (refine pair_fixed (by assumption) ?_) | (refine trip_fixed (by assumption) ?_) | (refine pair1_fixed (by assumption) ?_) | (dsimp only) | simp))

@[simp] theorem State.grant_fixed (s : State) (n : ℕ) : (State.grant s n).fixed = s.fixed := by
  simp [State.grant]

/-! ### Service -/

@[simp] theorem State.askFill_fixed (s : State) (c : ℕ) (f : CacheFill) : (State.askFill s c f).fixed = s.fixed := by
  unfold State.askFill
  first
    | rfl
    | (simp; done)
    | ((repeat' split) <;> simp; done)
    | (dsimp only; (repeat' split) <;> simp; done)
    | (repeat' (first | (with_reducible rfl) | assumption | (simp; done) | (simp [*]; done) | split | (refine (foldl_fixed _ (fun _ _ => ?_) _ _).trans ?_) | (refine (foldl_fixed2 _ (fun _ _ => ?_) _ _).trans ?_) | (refine pair_fixed (by assumption) ?_) | (refine trip_fixed (by assumption) ?_) | (refine pair1_fixed (by assumption) ?_) | (dsimp only) | simp))

@[simp] theorem State.wantLine_fixed (s : State) (c : ℕ) (owner : ℕ) (a : ℕ) : (State.wantLine s c owner a).fixed = s.fixed := by
  unfold State.wantLine
  first
    | rfl
    | (simp; done)
    | ((repeat' split) <;> simp; done)
    | (dsimp only; (repeat' split) <;> simp; done)
    | (repeat' (first | (with_reducible rfl) | assumption | (simp; done) | (simp [*]; done) | split | (refine (foldl_fixed _ (fun _ _ => ?_) _ _).trans ?_) | (refine (foldl_fixed2 _ (fun _ _ => ?_) _ _).trans ?_) | (refine pair_fixed (by assumption) ?_) | (refine trip_fixed (by assumption) ?_) | (refine pair1_fixed (by assumption) ?_) | (dsimp only) | simp))

@[simp] theorem State.invalidate_fixed (s : State) (p : ℕ → Bool) : (State.invalidate s p).fixed =
    s.fixed := rfl

@[simp] theorem State.lookLines_fixed (s : State) (x : Piece) : (State.lookLines s x).fixed =
    s.fixed := by
  unfold State.lookLines
  repeat' (first
    | (with_reducible rfl)
    | assumption
    | (simp; done)
    | (simp [*]; done)
    | split
    | (refine (foldl_fixed _ (fun _ _ => ?_) _ _).trans ?_)
    | (refine (foldl_fixed2 _ (fun _ _ => ?_) _ _).trans ?_)
    | (refine pair_fixed (by assumption) ?_)
    | (refine trip_fixed (by assumption) ?_)
    | (refine pair1_fixed (by assumption) ?_)
    | (dsimp only)
    | simp)

@[simp] theorem State.storeFlipped_fixed (s : State) (x : Piece) (g : ℕ) (d : BitVec 256)
    (bad : Bool) : (State.storeFlipped s x g d bad).fixed = s.fixed := by
  simp [State.storeFlipped]

@[simp] theorem State.writeOne_fixed (s : State) (x : Piece)
    (old : Option (List (BitVec 256 × Bool))) (ps : List Put) (g : ℕ) :
    (State.writeOne s x old ps g).2.fixed = s.fixed := by
  unfold State.writeOne; dsimp only; (repeat' split) <;> simp

@[simp] theorem State.writeAll_fixed (s : State) (x : Piece)
    (old : Option (List (BitVec 256 × Bool))) (ps : List Put) (y4 : List ℕ) :
    (State.writeAll s x old ps y4).2.fixed = s.fixed := by
  induction y4 generalizing s x old ps with
  | nil => (unfold State.writeAll; (repeat' (first | (with_reducible rfl) | assumption | (simp; done) | (simp [*]; done) | split | (refine (foldl_fixed _ (fun _ _ => ?_) _ _).trans ?_) | (refine (foldl_fixed2 _ (fun _ _ => ?_) _ _).trans ?_) | (refine pair_fixed (by assumption) ?_) | (refine trip_fixed (by assumption) ?_) | (refine pair1_fixed (by assumption) ?_) | (dsimp only) | simp)))
  | cons a1 t1 ih => (unfold State.writeAll; (repeat' (first | (with_reducible rfl) | assumption | (simp; done) | (simp [*]; done) | split | (refine (foldl_fixed _ (fun _ _ => ?_) _ _).trans ?_) | (refine (foldl_fixed2 _ (fun _ _ => ?_) _ _).trans ?_) | (refine pair_fixed (by assumption) ?_) | (refine trip_fixed (by assumption) ?_) | (refine pair1_fixed (by assumption) ?_) | (dsimp only) | simp)))

@[simp] theorem State.unrecord_fixed (s : State) (wr : List (Nat × Nat)) : (State.unrecord s wr).fixed = s.fixed := by
  unfold State.unrecord
  first
    | rfl
    | (simp; done)
    | ((repeat' split) <;> simp; done)
    | (dsimp only; (repeat' split) <;> simp; done)
    | (repeat' (first | (with_reducible rfl) | assumption | (simp; done) | (simp [*]; done) | split | (refine (foldl_fixed _ (fun _ _ => ?_) _ _).trans ?_) | (refine (foldl_fixed2 _ (fun _ _ => ?_) _ _).trans ?_) | (refine pair_fixed (by assumption) ?_) | (refine trip_fixed (by assumption) ?_) | (refine pair1_fixed (by assumption) ?_) | (dsimp only) | simp))

@[simp] theorem State.noteQuant_fixed (s : State) (x : Piece) (b : BoundView) (t : Tally) :
    (State.noteQuant s x b t).fixed = s.fixed := by
  simp [State.noteQuant]

@[simp] theorem State.noteAcc_fixed (s : State) (x : Piece) (m : Made) : (State.noteAcc s x m).fixed
    = s.fixed := by
  simp [State.noteAcc]

@[simp] theorem State.mergeData_fixed (s : State) (bank : ℕ) (row : ℕ) (need : List ℕ) (y4 : List ℕ)
    : (State.mergeData s bank row need y4).2.fixed = s.fixed := by
  induction y4 generalizing s with
  | nil => rfl
  | cons a t ih =>
    unfold State.mergeData
    split
    rename_i one u h2
    have h3 : u.fixed = s.fixed := by
      by_cases h : need.contains a = true
      · rw [if_pos h] at h2; have := State.readGranule_fixed s bank row a
        split at h2; rename_i e; rw [e] at this; cases h2; exact this
      · rw [if_neg h] at h2; cases h2; rfl
    simp [ih, h3]

@[simp] theorem State.mergeRead_fixed (s : State) (bank : Nat) : (State.mergeRead s bank).fixed = s.fixed := by
  unfold State.mergeRead
  first
    | rfl
    | (simp; done)
    | ((repeat' split) <;> simp; done)
    | (dsimp only; (repeat' split) <;> simp; done)
    | (repeat' (first | (with_reducible rfl) | assumption | (simp; done) | (simp [*]; done) | split | (refine (foldl_fixed _ (fun _ _ => ?_) _ _).trans ?_) | (refine (foldl_fixed2 _ (fun _ _ => ?_) _ _).trans ?_) | (refine pair_fixed (by assumption) ?_) | (refine trip_fixed (by assumption) ?_) | (refine pair1_fixed (by assumption) ?_) | (dsimp only) | simp))

@[simp] theorem State.writeThrough_fixed (s : State) (x : Piece) (g : ℕ) (bad : Bool) :
    (State.writeThrough s x g bad).fixed = s.fixed := rfl

@[simp] theorem State.payMirror_fixed (s : State) (p : ℕ) (bank : ℕ) (row : ℕ) :
    (State.payMirror s p bank row).fixed = s.fixed := by
  simp [State.payMirror]

@[simp] theorem State.storeMade_fixed (s : State) (bank : ℕ) (row : ℕ) (m : RowMade) : (State.storeMade s bank row m).fixed = s.fixed := by
  unfold State.storeMade
  first
    | rfl
    | (simp; done)
    | ((repeat' split) <;> simp; done)
    | (dsimp only; (repeat' split) <;> simp; done)
    | (repeat' (first | (with_reducible rfl) | assumption | (simp; done) | (simp [*]; done) | split | (refine (foldl_fixed _ (fun _ _ => ?_) _ _).trans ?_) | (refine (foldl_fixed2 _ (fun _ _ => ?_) _ _).trans ?_) | (refine pair_fixed (by assumption) ?_) | (refine trip_fixed (by assumption) ?_) | (refine pair1_fixed (by assumption) ?_) | (dsimp only) | simp))

@[simp] theorem State.storeAdds_fixed (s : State) (x : Piece) (old : List (BitVec 256 × Bool)) : (State.storeAdds s x old).fixed = s.fixed := by
  unfold State.storeAdds
  first
    | rfl
    | (simp; done)
    | ((repeat' split) <;> simp; done)
    | (dsimp only; (repeat' split) <;> simp; done)
    | (repeat' (first | (with_reducible rfl) | assumption | (simp; done) | (simp [*]; done) | split | (refine (foldl_fixed _ (fun _ _ => ?_) _ _).trans ?_) | (refine (foldl_fixed2 _ (fun _ _ => ?_) _ _).trans ?_) | (refine pair_fixed (by assumption) ?_) | (refine trip_fixed (by assumption) ?_) | (refine pair1_fixed (by assumption) ?_) | (dsimp only) | simp))

@[simp] theorem State.storeStep_fixed (s : State) (x : Piece) (old : List (BitVec 256 × Bool)) : (State.storeStep s x old).fixed = s.fixed := by
  unfold State.storeStep
  first
    | rfl
    | (simp; done)
    | ((repeat' split) <;> simp; done)
    | (dsimp only; (repeat' split) <;> simp; done)
    | (repeat' (first | (with_reducible rfl) | assumption | (simp; done) | (simp [*]; done) | split | (refine (foldl_fixed _ (fun _ _ => ?_) _ _).trans ?_) | (refine (foldl_fixed2 _ (fun _ _ => ?_) _ _).trans ?_) | (refine pair_fixed (by assumption) ?_) | (refine trip_fixed (by assumption) ?_) | (refine pair1_fixed (by assumption) ?_) | (dsimp only) | simp))

@[simp] theorem State.storeRecords_fixed (s : State) (x : Piece) (old : List (BitVec 256 × Bool)) : (State.storeRecords s x old).fixed = s.fixed := by
  unfold State.storeRecords
  first
    | rfl
    | (simp; done)
    | ((repeat' split) <;> simp; done)
    | (dsimp only; (repeat' split) <;> simp; done)
    | (repeat' (first | (with_reducible rfl) | assumption | (simp; done) | (simp [*]; done) | split | (refine (foldl_fixed _ (fun _ _ => ?_) _ _).trans ?_) | (refine (foldl_fixed2 _ (fun _ _ => ?_) _ _).trans ?_) | (refine pair_fixed (by assumption) ?_) | (refine trip_fixed (by assumption) ?_) | (refine pair1_fixed (by assumption) ?_) | (dsimp only) | simp))

@[simp] theorem State.storeRow_fixed (s : State) (x : Piece) (merge : Option (List (BitVec 256 × Bool))) (ps : List Put) : (State.storeRow s x merge ps).2.fixed = s.fixed := by
  unfold State.storeRow
  first
    | rfl
    | (simp; done)
    | ((repeat' split) <;> simp; done)
    | (dsimp only; (repeat' split) <;> simp; done)
    | (repeat' (first | (with_reducible rfl) | assumption | (simp; done) | (simp [*]; done) | split | (refine (foldl_fixed _ (fun _ _ => ?_) _ _).trans ?_) | (refine (foldl_fixed2 _ (fun _ _ => ?_) _ _).trans ?_) | (refine pair_fixed (by assumption) ?_) | (refine trip_fixed (by assumption) ?_) | (refine pair1_fixed (by assumption) ?_) | (dsimp only) | simp))

@[simp] theorem State.storePiece_fixed (s : State) (x : Piece) (merge : Option (List (BitVec 256 × Bool))) : (State.storePiece s x merge).2.fixed = s.fixed := by
  unfold State.storePiece
  first
    | rfl
    | (simp; done)
    | ((repeat' split) <;> simp; done)
    | (dsimp only; (repeat' split) <;> simp; done)
    | (repeat' (first | (with_reducible rfl) | assumption | (simp; done) | (simp [*]; done) | split | (refine (foldl_fixed _ (fun _ _ => ?_) _ _).trans ?_) | (refine (foldl_fixed2 _ (fun _ _ => ?_) _ _).trans ?_) | (refine pair_fixed (by assumption) ?_) | (refine trip_fixed (by assumption) ?_) | (refine pair1_fixed (by assumption) ?_) | (dsimp only) | simp))

@[simp] theorem State.finishWrite_fixed (s : State) (bank : ℕ) : (State.finishWrite s bank).fixed = s.fixed := by
  unfold State.finishWrite
  first
    | rfl
    | (simp; done)
    | ((repeat' split) <;> simp; done)
    | (dsimp only; (repeat' split) <;> simp; done)
    | (repeat' (first | (with_reducible rfl) | assumption | (simp; done) | (simp [*]; done) | split | (refine (foldl_fixed _ (fun _ _ => ?_) _ _).trans ?_) | (refine (foldl_fixed2 _ (fun _ _ => ?_) _ _).trans ?_) | (refine pair_fixed (by assumption) ?_) | (refine trip_fixed (by assumption) ?_) | (refine pair1_fixed (by assumption) ?_) | (dsimp only) | simp))

@[simp] theorem State.lowerFirst_fixed (s : State) (bank : ℕ) : (State.lowerFirst s bank).fixed = s.fixed := by
  unfold State.lowerFirst
  first
    | rfl
    | (simp; done)
    | ((repeat' split) <;> simp; done)
    | (dsimp only; (repeat' split) <;> simp; done)
    | (repeat' (first | (with_reducible rfl) | assumption | (simp; done) | (simp [*]; done) | split | (refine (foldl_fixed _ (fun _ _ => ?_) _ _).trans ?_) | (refine (foldl_fixed2 _ (fun _ _ => ?_) _ _).trans ?_) | (refine pair_fixed (by assumption) ?_) | (refine trip_fixed (by assumption) ?_) | (refine pair1_fixed (by assumption) ?_) | (dsimp only) | simp))

@[simp] theorem State.writeSlot_fixed (s : State) (bank : ℕ) : (State.writeSlot s bank).fixed = s.fixed := by
  unfold State.writeSlot
  first
    | rfl
    | (simp; done)
    | ((repeat' split) <;> simp; done)
    | (dsimp only; (repeat' split) <;> simp; done)
    | (repeat' (first | (with_reducible rfl) | assumption | (simp; done) | (simp [*]; done) | split | (refine (foldl_fixed _ (fun _ _ => ?_) _ _).trans ?_) | (refine (foldl_fixed2 _ (fun _ _ => ?_) _ _).trans ?_) | (refine pair_fixed (by assumption) ?_) | (refine trip_fixed (by assumption) ?_) | (refine pair1_fixed (by assumption) ?_) | (dsimp only) | simp))

@[simp] theorem State.safetyMarks_fixed (s : State) (x : Piece) (bad : List ℕ) :
    (State.safetyMarks s x bad).fixed = s.fixed := by
  unfold State.safetyMarks
  repeat' (first
    | (with_reducible rfl)
    | assumption
    | (simp; done)
    | (simp [*]; done)
    | split
    | (refine (foldl_fixed _ (fun _ _ => ?_) _ _).trans ?_)
    | (refine (foldl_fixed2 _ (fun _ _ => ?_) _ _).trans ?_)
    | (refine pair_fixed (by assumption) ?_)
    | (refine trip_fixed (by assumption) ?_)
    | (refine pair1_fixed (by assumption) ?_)
    | (dsimp only)
    | simp)

@[simp] theorem State.openRow_fixed (s : State) (x : Piece) : (State.openRow s x).2.2.fixed = s.fixed := by
  unfold State.openRow
  first
    | rfl
    | (simp; done)
    | ((repeat' split) <;> simp; done)
    | (dsimp only; (repeat' split) <;> simp; done)
    | (repeat' (first | (with_reducible rfl) | assumption | (simp; done) | (simp [*]; done) | split | (refine (foldl_fixed _ (fun _ _ => ?_) _ _).trans ?_) | (refine (foldl_fixed2 _ (fun _ _ => ?_) _ _).trans ?_) | (refine pair_fixed (by assumption) ?_) | (refine trip_fixed (by assumption) ?_) | (refine pair1_fixed (by assumption) ?_) | (dsimp only) | simp))

@[simp] theorem State.noteBeat_fixed (s : State) (x : Piece) (bad : List ℕ) (out : BeatOut) :
    (State.noteBeat s x bad out).fixed = s.fixed := by
  unfold State.noteBeat; (repeat' split) <;> simp

@[simp] theorem State.finishRead_fixed (s : State) (x : Piece) : (State.finishRead s x).fixed =
    s.fixed := by
  simp [State.finishRead]

@[simp] theorem State.takeRead_fixed (s : State) (bank : ℕ) (x : Piece) : (State.takeRead s bank x).fixed = s.fixed := by
  unfold State.takeRead
  first
    | rfl
    | (simp; done)
    | ((repeat' split) <;> simp; done)
    | (dsimp only; (repeat' split) <;> simp; done)
    | (repeat' (first | (with_reducible rfl) | assumption | (simp; done) | (simp [*]; done) | split | (refine (foldl_fixed _ (fun _ _ => ?_) _ _).trans ?_) | (refine (foldl_fixed2 _ (fun _ _ => ?_) _ _).trans ?_) | (refine pair_fixed (by assumption) ?_) | (refine trip_fixed (by assumption) ?_) | (refine pair1_fixed (by assumption) ?_) | (dsimp only) | simp))

@[simp] theorem State.readSlot_fixed (s : State) (bank : ℕ) : (State.readSlot s bank).fixed = s.fixed := by
  unfold State.readSlot
  first
    | rfl
    | (simp; done)
    | ((repeat' split) <;> simp; done)
    | (dsimp only; (repeat' split) <;> simp; done)
    | (repeat' (first | (with_reducible rfl) | assumption | (simp; done) | (simp [*]; done) | split | (refine (foldl_fixed _ (fun _ _ => ?_) _ _).trans ?_) | (refine (foldl_fixed2 _ (fun _ _ => ?_) _ _).trans ?_) | (refine pair_fixed (by assumption) ?_) | (refine trip_fixed (by assumption) ?_) | (refine pair1_fixed (by assumption) ?_) | (dsimp only) | simp))

@[simp] theorem State.markBadLine_fixed (s : State) (c : ℕ) (a : ℕ) :
    (State.markBadLine s c a).fixed = s.fixed := by
  unfold State.markBadLine
  repeat' (first
    | (with_reducible rfl)
    | assumption
    | (simp; done)
    | (simp [*]; done)
    | split
    | (refine (foldl_fixed _ (fun _ _ => ?_) _ _).trans ?_)
    | (refine (foldl_fixed2 _ (fun _ _ => ?_) _ _).trans ?_)
    | (refine pair_fixed (by assumption) ?_)
    | (refine trip_fixed (by assumption) ?_)
    | (refine pair1_fixed (by assumption) ?_)
    | (dsimp only)
    | simp)

@[simp] theorem State.fillFails_fixed (s : State) (c : ℕ) (a : ℕ) : (State.fillFails s c a).fixed =
    s.fixed := by
  unfold State.fillFails
  repeat' (first
    | (with_reducible rfl)
    | assumption
    | (simp; done)
    | (simp [*]; done)
    | split
    | (refine (foldl_fixed _ (fun _ _ => ?_) _ _).trans ?_)
    | (refine (foldl_fixed2 _ (fun _ _ => ?_) _ _).trans ?_)
    | (refine pair_fixed (by assumption) ?_)
    | (refine trip_fixed (by assumption) ?_)
    | (refine pair1_fixed (by assumption) ?_)
    | (dsimp only)
    | simp)

@[simp] theorem State.fillMark_fixed (s : State) (c : ℕ) (a : ℕ) : (State.fillMark s c a).fixed = s.fixed := by
  unfold State.fillMark
  first
    | rfl
    | (simp; done)
    | ((repeat' split) <;> simp; done)
    | (dsimp only; (repeat' split) <;> simp; done)
    | (repeat' (first | (with_reducible rfl) | assumption | (simp; done) | (simp [*]; done) | split | (refine (foldl_fixed _ (fun _ _ => ?_) _ _).trans ?_) | (refine (foldl_fixed2 _ (fun _ _ => ?_) _ _).trans ?_) | (refine pair_fixed (by assumption) ?_) | (refine trip_fixed (by assumption) ?_) | (refine pair1_fixed (by assumption) ?_) | (dsimp only) | simp))

@[simp] theorem State.fillEnds_fixed (s : State) (c : ℕ) (a : ℕ) (rs : List Resp) : (State.fillEnds s c a rs).fixed = s.fixed := by
  unfold State.fillEnds
  first
    | rfl
    | (simp; done)
    | ((repeat' split) <;> simp; done)
    | (dsimp only; (repeat' split) <;> simp; done)
    | (repeat' (first | (with_reducible rfl) | assumption | (simp; done) | (simp [*]; done) | split | (refine (foldl_fixed _ (fun _ _ => ?_) _ _).trans ?_) | (refine (foldl_fixed2 _ (fun _ _ => ?_) _ _).trans ?_) | (refine pair_fixed (by assumption) ?_) | (refine trip_fixed (by assumption) ?_) | (refine pair1_fixed (by assumption) ?_) | (dsimp only) | simp))

@[simp] theorem State.dropFill_fixed (s : State) (c a : Nat) : (State.dropFill s c a).fixed = s.fixed := by
  unfold State.dropFill
  first
    | rfl
    | (simp; done)
    | ((repeat' split) <;> simp; done)
    | (dsimp only; (repeat' split) <;> simp; done)
    | (repeat' (first | (with_reducible rfl) | assumption | (simp; done) | (simp [*]; done) | split | (refine (foldl_fixed _ (fun _ _ => ?_) _ _).trans ?_) | (refine (foldl_fixed2 _ (fun _ _ => ?_) _ _).trans ?_) | (refine pair_fixed (by assumption) ?_) | (refine trip_fixed (by assumption) ?_) | (refine pair1_fixed (by assumption) ?_) | (dsimp only) | simp))

@[simp] theorem State.beginFill_fixed (s : State) (c : Nat) (f : CacheFill) : (State.beginFill s c f).fixed = s.fixed := by
  unfold State.beginFill
  first
    | rfl
    | (simp; done)
    | ((repeat' split) <;> simp; done)
    | (dsimp only; (repeat' split) <;> simp; done)
    | (repeat' (first | (with_reducible rfl) | assumption | (simp; done) | (simp [*]; done) | split | (refine (foldl_fixed _ (fun _ _ => ?_) _ _).trans ?_) | (refine (foldl_fixed2 _ (fun _ _ => ?_) _ _).trans ?_) | (refine pair_fixed (by assumption) ?_) | (refine trip_fixed (by assumption) ?_) | (refine pair1_fixed (by assumption) ?_) | (dsimp only) | simp))

@[simp] theorem State.fillAgain_fixed (s : State) (c a id : Nat) (f : CacheFill) : (State.fillAgain s c a id f).fixed = s.fixed := by
  unfold State.fillAgain
  first
    | rfl
    | (simp; done)
    | ((repeat' split) <;> simp; done)
    | (dsimp only; (repeat' split) <;> simp; done)
    | (repeat' (first | (with_reducible rfl) | assumption | (simp; done) | (simp [*]; done) | split | (refine (foldl_fixed _ (fun _ _ => ?_) _ _).trans ?_) | (refine (foldl_fixed2 _ (fun _ _ => ?_) _ _).trans ?_) | (refine pair_fixed (by assumption) ?_) | (refine trip_fixed (by assumption) ?_) | (refine pair1_fixed (by assumption) ?_) | (dsimp only) | simp))

@[simp] theorem State.fill_fixed (s : State) (c : ℕ) (a : ℕ) : (State.fill s c a).fixed = s.fixed := by
  unfold State.fill; (repeat' split) <;> simp

/-! ### Folds -/

@[simp] theorem State.satisfy_fixed (s : State) (k : ℕ) : (State.satisfy s k).fixed = s.fixed := rfl

@[simp] theorem State.addWaiter_fixed (s : State) (k : ℕ) (ctx : ℕ) (who : WaitWho) (v : BitVec 32)
    : (State.addWaiter s k ctx who v).fixed = s.fixed := rfl

@[simp] theorem State.portWait_fixed (s : State) (k : ℕ) (p : ℕ) (ctx : ℕ) (v : BitVec 32) :
    (State.portWait s k p ctx v).2.2.fixed = s.fixed := by
  unfold State.portWait; split <;> simp

@[simp] theorem State.dropWaiter_fixed (s : State) (order : ℕ) : (State.dropWaiter s order).fixed =
    s.fixed := rfl

@[simp] theorem State.oweWake_fixed (s : State) (p : ℕ) (token : BitVec 32) (st : Status) :
    (State.oweWake s p token st).fixed = s.fixed := rfl

@[simp] theorem State.endWaiter_fixed (s : State) (w : Waiter) (st : Status) :
    (State.endWaiter s w st).fixed = s.fixed := by
  unfold State.endWaiter; split <;> simp

@[simp] theorem State.endWaiters_fixed (s : State) (k : ℕ) (st : Status) :
    (State.endWaiters s k st).fixed = s.fixed := rfl

@[simp] theorem State.abandon_fixed (s : State) (k : ℕ) (st : Status) : (State.abandon s k st).fixed
    = s.fixed := by
  simp [State.abandon]

@[simp] theorem State.abandonAll_fixed (s : State) (p : Fold → Bool) (st : Status) :
    (State.abandonAll s p st).fixed = s.fixed := by
  unfold State.abandonAll
  repeat' (first
    | (with_reducible rfl)
    | assumption
    | (simp; done)
    | (simp [*]; done)
    | split
    | (refine (foldl_fixed _ (fun _ _ => ?_) _ _).trans ?_)
    | (refine (foldl_fixed2 _ (fun _ _ => ?_) _ _).trans ?_)
    | (refine pair_fixed (by assumption) ?_)
    | (refine trip_fixed (by assumption) ?_)
    | (refine pair1_fixed (by assumption) ?_)
    | (dsimp only)
    | simp)

@[simp] theorem State.abandonPeer_fixed (s : State) (chip : ℕ) : (State.abandonPeer s chip).fixed =
    s.fixed := by
  simp [State.abandonPeer]

@[simp] theorem State.freeAllDying_fixed (s : State) : (State.freeAllDying s).fixed = s.fixed := by
  unfold State.freeAllDying
  first
    | rfl
    | (simp; done)
    | ((repeat' split) <;> simp; done)
    | (dsimp only; (repeat' split) <;> simp; done)
    | (repeat' (first | (with_reducible rfl) | assumption | (simp; done) | (simp [*]; done) | split | (refine (foldl_fixed _ (fun _ _ => ?_) _ _).trans ?_) | (refine (foldl_fixed2 _ (fun _ _ => ?_) _ _).trans ?_) | (refine pair_fixed (by assumption) ?_) | (refine trip_fixed (by assumption) ?_) | (refine pair1_fixed (by assumption) ?_) | (dsimp only) | simp))

@[simp] theorem State.foldApply_fixed (s : State) (o : FoldOp) : (State.foldApply s o).2.2.fixed = s.fixed := by
  unfold State.foldApply
  extract_lets k f r g s1 s2 s3 s4 s5
  have h1 : s1.fixed = s.fixed := by simp only [s1]; split <;> simp
  have h2 : s2.fixed = s.fixed := by simp only [s2]; split <;> simp [h1]
  have h3 : s3.fixed = s.fixed := by simp only [s3]; split <;> simp [h2]
  have h4 : s4.fixed = s.fixed := by simp only [s4]; split <;> simp [h3]
  have h5 : s5.fixed = s.fixed := by simp only [s5]; split <;> simp [h4]
  clear_value s5
  split
  · split
    · split
      · simp [h5]
      · exact h5
    · exact h5
  · exact h5

@[simp] theorem State.markBad_fixed (s : State) (cluster : ℕ) (pop : ℕ) :
    (State.markBad s cluster pop).fixed = s.fixed := rfl

@[simp] theorem State.foldHead_fixed (s : State) (c : ℕ) : (State.foldHead s c).fixed = s.fixed := by
  unfold State.foldHead
  split
  · rfl
  · extract_lets s1
    have h1 : s1.fixed = s.fixed := rfl
    split
    rename_i s2 h2
    have h3 : s2.fixed = s1.fixed := trip_fixed h2 (by simp)
    extract_lets s3
    have h4 : s3.fixed = s2.fixed := by simp only [s3]; (repeat' (first | (with_reducible rfl) | assumption | (simp; done) | (simp [*]; done) | split | (refine (foldl_fixed _ (fun _ _ => ?_) _ _).trans ?_) | (refine (foldl_fixed2 _ (fun _ _ => ?_) _ _).trans ?_) | (refine pair_fixed (by assumption) ?_) | (refine trip_fixed (by assumption) ?_) | (refine pair1_fixed (by assumption) ?_) | (dsimp only) | simp))
    simp [h4, h3, h1]

@[simp] theorem State.foldStep_fixed (s : State) (c : ℕ) (op : ℕ) : (State.foldStep s c op).fixed =
    s.fixed := by
  unfold State.foldStep; split <;> simp

@[simp] theorem State.foldUpTo_fixed (s : State) (c token : Nat) (y0 : Nat) : (State.foldUpTo s c token y0).fixed = s.fixed := by
  induction y0 generalizing s c token with
  | zero => (unfold State.foldUpTo; (repeat' (first | (with_reducible rfl) | assumption | (simp; done) | (simp [*]; done) | split | (refine (foldl_fixed _ (fun _ _ => ?_) _ _).trans ?_) | (refine (foldl_fixed2 _ (fun _ _ => ?_) _ _).trans ?_) | (refine pair_fixed (by assumption) ?_) | (refine trip_fixed (by assumption) ?_) | (refine pair1_fixed (by assumption) ?_) | (dsimp only) | simp)))
  | succ n1 ih => (unfold State.foldUpTo; (repeat' (first | (with_reducible rfl) | assumption | (simp; done) | (simp [*]; done) | split | (refine (foldl_fixed _ (fun _ _ => ?_) _ _).trans ?_) | (refine (foldl_fixed2 _ (fun _ _ => ?_) _ _).trans ?_) | (refine pair_fixed (by assumption) ?_) | (refine trip_fixed (by assumption) ?_) | (refine pair1_fixed (by assumption) ?_) | (dsimp only) | simp)))

@[simp] theorem State.foldTaken_fixed (s : State) (c token : Nat) : (State.foldTaken s c token).fixed = s.fixed := by
  unfold State.foldTaken
  first
    | rfl
    | (simp; done)
    | ((repeat' split) <;> simp; done)
    | (dsimp only; (repeat' split) <;> simp; done)
    | (repeat' (first | (with_reducible rfl) | assumption | (simp; done) | (simp [*]; done) | split | (refine (foldl_fixed _ (fun _ _ => ?_) _ _).trans ?_) | (refine (foldl_fixed2 _ (fun _ _ => ?_) _ _).trans ?_) | (refine pair_fixed (by assumption) ?_) | (refine trip_fixed (by assumption) ?_) | (refine pair1_fixed (by assumption) ?_) | (dsimp only) | simp))

@[simp] theorem State.foldTurn_fixed (s : State) (o : FoldOp) (token : Nat) : (State.foldTurn s o token).fixed = s.fixed := by
  unfold State.foldTurn
  first
    | rfl
    | (simp; done)
    | ((repeat' split) <;> simp; done)
    | (dsimp only; (repeat' split) <;> simp; done)
    | (repeat' (first | (with_reducible rfl) | assumption | (simp; done) | (simp [*]; done) | split | (refine (foldl_fixed _ (fun _ _ => ?_) _ _).trans ?_) | (refine (foldl_fixed2 _ (fun _ _ => ?_) _ _).trans ?_) | (refine pair_fixed (by assumption) ?_) | (refine trip_fixed (by assumption) ?_) | (refine pair1_fixed (by assumption) ?_) | (dsimp only) | simp))

@[simp] theorem State.signalOne_fixed (s : State) (ctx : ℕ) (v : ℕ) (origin : FoldOrigin) (held : Bool) : (State.signalOne s ctx v origin held).2.fixed = s.fixed := by
  unfold State.signalOne
  first
    | rfl
    | (simp; done)
    | ((repeat' split) <;> simp; done)
    | (dsimp only; (repeat' split) <;> simp; done)
    | (repeat' (first | (with_reducible rfl) | assumption | (simp; done) | (simp [*]; done) | split | (refine (foldl_fixed _ (fun _ _ => ?_) _ _).trans ?_) | (refine (foldl_fixed2 _ (fun _ _ => ?_) _ _).trans ?_) | (refine pair_fixed (by assumption) ?_) | (refine trip_fixed (by assumption) ?_) | (refine pair1_fixed (by assumption) ?_) | (dsimp only) | simp))

/-! ### Shell -/

@[simp] theorem State.before_fixed (s : State) (token : ℕ) : (State.before s token).fixed = s.fixed := by
  unfold State.before
  first
    | rfl
    | (simp; done)
    | ((repeat' split) <;> simp; done)
    | (dsimp only; (repeat' split) <;> simp; done)
    | (repeat' (first | (with_reducible rfl) | assumption | (simp; done) | (simp [*]; done) | split | (refine (foldl_fixed _ (fun _ _ => ?_) _ _).trans ?_) | (refine (foldl_fixed2 _ (fun _ _ => ?_) _ _).trans ?_) | (refine pair_fixed (by assumption) ?_) | (refine trip_fixed (by assumption) ?_) | (refine pair1_fixed (by assumption) ?_) | (dsimp only) | simp))

@[simp] theorem State.endFetch_fixed (s : State) (n : ℕ) : (State.endFetch s n).fixed = s.fixed := by
  unfold State.endFetch
  first
    | rfl
    | (simp; done)
    | ((repeat' split) <;> simp; done)
    | (dsimp only; (repeat' split) <;> simp; done)
    | (repeat' (first | (with_reducible rfl) | assumption | (simp; done) | (simp [*]; done) | split | (refine (foldl_fixed _ (fun _ _ => ?_) _ _).trans ?_) | (refine (foldl_fixed2 _ (fun _ _ => ?_) _ _).trans ?_) | (refine pair_fixed (by assumption) ?_) | (refine trip_fixed (by assumption) ?_) | (refine pair1_fixed (by assumption) ?_) | (dsimp only) | simp))

@[simp] theorem State.haltRing_fixed (s : State) (n : ℕ) (h : HaltCause) : (State.haltRing s n h).fixed = s.fixed := by
  unfold State.haltRing
  first
    | rfl
    | (simp; done)
    | ((repeat' split) <;> simp; done)
    | (dsimp only; (repeat' split) <;> simp; done)
    | (repeat' (first | (with_reducible rfl) | assumption | (simp; done) | (simp [*]; done) | split | (refine (foldl_fixed _ (fun _ _ => ?_) _ _).trans ?_) | (refine (foldl_fixed2 _ (fun _ _ => ?_) _ _).trans ?_) | (refine pair_fixed (by assumption) ?_) | (refine trip_fixed (by assumption) ?_) | (refine pair1_fixed (by assumption) ?_) | (dsimp only) | simp))

@[simp] theorem State.payRows_fixed (s : State) (write : Bool) (y2 : List (ℕ × ℕ)) :
    (State.payRows s write y2).fixed = s.fixed := by
  induction y2 generalizing s write with
  | nil => (unfold State.payRows; (repeat' (first | (with_reducible rfl) | assumption | (simp; done) | (simp [*]; done) | split | (refine (foldl_fixed _ (fun _ _ => ?_) _ _).trans ?_) | (refine (foldl_fixed2 _ (fun _ _ => ?_) _ _).trans ?_) | (refine pair_fixed (by assumption) ?_) | (refine trip_fixed (by assumption) ?_) | (refine pair1_fixed (by assumption) ?_) | (dsimp only) | simp)))
  | cons a1 t1 ih => (unfold State.payRows; (repeat' (first | (with_reducible rfl) | assumption | (simp; done) | (simp [*]; done) | split | (refine (foldl_fixed _ (fun _ _ => ?_) _ _).trans ?_) | (refine (foldl_fixed2 _ (fun _ _ => ?_) _ _).trans ?_) | (refine pair_fixed (by assumption) ?_) | (refine trip_fixed (by assumption) ?_) | (refine pair1_fixed (by assumption) ?_) | (dsimp only) | simp)))

@[simp] theorem State.initRead_fixed (s : State) (a : ℕ) (len : ℕ) :
    (State.initRead s a len).2.fixed = s.fixed := by
  simp [State.initRead]

@[simp] theorem State.initWrite_fixed (s : State) (a : ℕ) (data : List Byte) :
    (State.initWrite s a data).fixed = s.fixed := by
  simp [State.initWrite]

@[simp] theorem State.freeSlot_fixed (s : State) (n : ℕ) (k : ℕ) : (State.freeSlot s n k).fixed =
    s.fixed := rfl

@[simp] theorem State.noteRecord_fixed (s : State) (r : Ring) : (State.noteRecord s r).fixed = s.fixed := by
  unfold State.noteRecord
  first
    | rfl
    | (simp; done)
    | ((repeat' split) <;> simp; done)
    | (dsimp only; (repeat' split) <;> simp; done)
    | (repeat' (first | (with_reducible rfl) | assumption | (simp; done) | (simp [*]; done) | split | (refine (foldl_fixed _ (fun _ _ => ?_) _ _).trans ?_) | (refine (foldl_fixed2 _ (fun _ _ => ?_) _ _).trans ?_) | (refine pair_fixed (by assumption) ?_) | (refine trip_fixed (by assumption) ?_) | (refine pair1_fixed (by assumption) ?_) | (dsimp only) | simp))

@[simp] theorem State.askRecord_fixed (s : State) (o : OutRecord) : (State.askRecord s o).2.fixed = s.fixed := by
  unfold State.askRecord
  first
    | rfl
    | (simp; done)
    | ((repeat' split) <;> simp; done)
    | (dsimp only; (repeat' split) <;> simp; done)
    | (repeat' (first | (with_reducible rfl) | assumption | (simp; done) | (simp [*]; done) | split | (refine (foldl_fixed _ (fun _ _ => ?_) _ _).trans ?_) | (refine (foldl_fixed2 _ (fun _ _ => ?_) _ _).trans ?_) | (refine pair_fixed (by assumption) ?_) | (refine trip_fixed (by assumption) ?_) | (refine pair1_fixed (by assumption) ?_) | (dsimp only) | simp))

@[simp] theorem State.recordWritten_fixed (s : State) (o : OutRecord) (req : ℕ) : (State.recordWritten s o req).fixed = s.fixed := by
  unfold State.recordWritten
  first
    | rfl
    | (simp; done)
    | ((repeat' split) <;> simp; done)
    | (dsimp only; (repeat' split) <;> simp; done)
    | (repeat' (first | (with_reducible rfl) | assumption | (simp; done) | (simp [*]; done) | split | (refine (foldl_fixed _ (fun _ _ => ?_) _ _).trans ?_) | (refine (foldl_fixed2 _ (fun _ _ => ?_) _ _).trans ?_) | (refine pair_fixed (by assumption) ?_) | (refine trip_fixed (by assumption) ?_) | (refine pair1_fixed (by assumption) ?_) | (dsimp only) | simp))

@[simp] theorem State.moveRecord_fixed (s : State) (o : OutRecord) : (State.moveRecord s o).2.fixed = s.fixed := by
  unfold State.moveRecord
  first
    | rfl
    | (simp; done)
    | ((repeat' split) <;> simp; done)
    | (dsimp only; (repeat' split) <;> simp; done)
    | (repeat' (first | (with_reducible rfl) | assumption | (simp; done) | (simp [*]; done) | split | (refine (foldl_fixed _ (fun _ _ => ?_) _ _).trans ?_) | (refine (foldl_fixed2 _ (fun _ _ => ?_) _ _).trans ?_) | (refine pair_fixed (by assumption) ?_) | (refine trip_fixed (by assumption) ?_) | (refine pair1_fixed (by assumption) ?_) | (dsimp only) | simp))

@[simp] theorem State.moveRecords_fixed (s : State) (blocked : List ℕ) (y2 : List OutRecord) : (State.moveRecords s blocked y2).2.fixed = s.fixed := by
  induction y2 generalizing s blocked with
  | nil => (unfold State.moveRecords; (repeat' (first | (with_reducible rfl) | assumption | (simp; done) | (simp [*]; done) | split | (refine (foldl_fixed _ (fun _ _ => ?_) _ _).trans ?_) | (refine (foldl_fixed2 _ (fun _ _ => ?_) _ _).trans ?_) | (refine pair_fixed (by assumption) ?_) | (refine trip_fixed (by assumption) ?_) | (refine pair1_fixed (by assumption) ?_) | (dsimp only) | simp)))
  | cons a1 t1 ih => (unfold State.moveRecords; (repeat' (first | (with_reducible rfl) | assumption | (simp; done) | (simp [*]; done) | split | (refine (foldl_fixed _ (fun _ _ => ?_) _ _).trans ?_) | (refine (foldl_fixed2 _ (fun _ _ => ?_) _ _).trans ?_) | (refine pair_fixed (by assumption) ?_) | (refine trip_fixed (by assumption) ?_) | (refine pair1_fixed (by assumption) ?_) | (dsimp only) | simp)))

@[simp] theorem State.flushRecords_fixed (s : State) : (State.flushRecords s).fixed = s.fixed := by
  simp [State.flushRecords]

@[simp] theorem State.queueRecord_fixed (s : State) (n : ℕ) (token : ℕ) (c : Cmd) (r : Result) (final : Bool) : (State.queueRecord s n token c r final).fixed = s.fixed := by
  unfold State.queueRecord
  first
    | rfl
    | (simp; done)
    | ((repeat' split) <;> simp; done)
    | (dsimp only; (repeat' split) <;> simp; done)
    | (repeat' (first | (with_reducible rfl) | assumption | (simp; done) | (simp [*]; done) | split | (refine (foldl_fixed _ (fun _ _ => ?_) _ _).trans ?_) | (refine (foldl_fixed2 _ (fun _ _ => ?_) _ _).trans ?_) | (refine pair_fixed (by assumption) ?_) | (refine trip_fixed (by assumption) ?_) | (refine pair1_fixed (by assumption) ?_) | (dsimp only) | simp))

@[simp] theorem State.onWindow_fixed (s : State) (sp : Bool) (f : CmdWindow → CmdWindow) :
    (State.onWindow s sp f).fixed = s.fixed := rfl

@[simp] theorem State.answerCmd_fixed (s : State) (p : ℕ) (ctx : ℕ) (tag : ℕ) (st : Status)
    (rec : BitVec 128) : (State.answerCmd s p ctx tag st rec).fixed = s.fixed := by
  unfold State.answerCmd; split
  · rw [State.pump_fixed, State.ended_fixed, State.present_fixed]
  · rfl

@[simp] theorem State.interim_fixed (s : State) (token : ℕ) (c : Cmd) (r : Result) : (State.interim s token c r).fixed = s.fixed := by
  unfold State.interim
  split
  · exact State.onWindow_fixed _ _ _
  · exact State.onWindow_fixed _ _ _
  · split
    · exact State.freeSlot_fixed _ _ _
    · exact State.queueRecord_fixed _ _ _ _ _ _
  · exact State.answerCmd_fixed _ _ _ _ _ _

@[simp] theorem State.finalTo_fixed (s : State) (n : ℕ) (k : ℕ) (token : ℕ) (c : Cmd) (r : Result) : (State.finalTo s n k token c r).fixed = s.fixed := by
  unfold State.finalTo
  first
    | rfl
    | (simp; done)
    | ((repeat' split) <;> simp; done)
    | (dsimp only; (repeat' split) <;> simp; done)
    | (repeat' (first | (with_reducible rfl) | assumption | (simp; done) | (simp [*]; done) | split | (refine (foldl_fixed _ (fun _ _ => ?_) _ _).trans ?_) | (refine (foldl_fixed2 _ (fun _ _ => ?_) _ _).trans ?_) | (refine pair_fixed (by assumption) ?_) | (refine trip_fixed (by assumption) ?_) | (refine pair1_fixed (by assumption) ?_) | (dsimp only) | simp))

@[simp] theorem State.final_fixed (s : State) (token : ℕ) (c : Cmd) (d : Option Deferred) (r : Result) : (State.final s token c d r).fixed = s.fixed := by
  unfold State.final
  first
    | rfl
    | (simp; done)
    | ((repeat' split) <;> simp; done)
    | (dsimp only; (repeat' split) <;> simp; done)
    | (repeat' (first | (with_reducible rfl) | assumption | (simp; done) | (simp [*]; done) | split | (refine (foldl_fixed _ (fun _ _ => ?_) _ _).trans ?_) | (refine (foldl_fixed2 _ (fun _ _ => ?_) _ _).trans ?_) | (refine pair_fixed (by assumption) ?_) | (refine trip_fixed (by assumption) ?_) | (refine pair1_fixed (by assumption) ?_) | (dsimp only) | simp))

@[simp] theorem State.signalFor_fixed (s : State) (token : ℕ) (c : Cmd) : (State.signalFor s token c).fixed = s.fixed := by
  unfold State.signalFor
  first
    | rfl
    | (simp; done)
    | ((repeat' split) <;> simp; done)
    | (dsimp only; (repeat' split) <;> simp; done)
    | (repeat' (first | (with_reducible rfl) | assumption | (simp; done) | (simp [*]; done) | split | (refine (foldl_fixed _ (fun _ _ => ?_) _ _).trans ?_) | (refine (foldl_fixed2 _ (fun _ _ => ?_) _ _).trans ?_) | (refine pair_fixed (by assumption) ?_) | (refine trip_fixed (by assumption) ?_) | (refine pair1_fixed (by assumption) ?_) | (dsimp only) | simp))

@[simp] theorem State.finish_fixed (s : State) (token : ℕ) (c : Cmd) (r : Result) : (State.finish s token c r).fixed = s.fixed := by
  unfold State.finish
  first
    | rfl
    | (simp; done)
    | ((repeat' split) <;> simp; done)
    | (dsimp only; (repeat' split) <;> simp; done)
    | (repeat' (first | (with_reducible rfl) | assumption | (simp; done) | (simp [*]; done) | split | (refine (foldl_fixed _ (fun _ _ => ?_) _ _).trans ?_) | (refine (foldl_fixed2 _ (fun _ _ => ?_) _ _).trans ?_) | (refine pair_fixed (by assumption) ?_) | (refine trip_fixed (by assumption) ?_) | (refine pair1_fixed (by assumption) ?_) | (dsimp only) | simp))

@[simp] theorem State.await_fixed (s : State) (token : ℕ) (c : Cmd) (half : Option Bool)
    (why : WaitFor) : (State.await s token c half why).fixed = s.fixed := rfl

@[simp] theorem State.awaitStart_fixed (s : State) (b : Body) (token : ℕ) (since : ℕ) (c : Cmd) (half : Option Bool) (why : WaitFor) : (State.awaitStart s b token since c half why).fixed = s.fixed := by
  unfold State.awaitStart
  first
    | rfl
    | (simp; done)
    | ((repeat' split) <;> simp; done)
    | (dsimp only; (repeat' split) <;> simp; done)
    | (repeat' (first | (with_reducible rfl) | assumption | (simp; done) | (simp [*]; done) | split | (refine (foldl_fixed _ (fun _ _ => ?_) _ _).trans ?_) | (refine (foldl_fixed2 _ (fun _ _ => ?_) _ _).trans ?_) | (refine pair_fixed (by assumption) ?_) | (refine trip_fixed (by assumption) ?_) | (refine pair1_fixed (by assumption) ?_) | (dsimp only) | simp))

@[simp] theorem State.defer_fixed (s : State) (b : Body) (token : ℕ) (since : ℕ) (c : Cmd) : (State.defer s b token since c).fixed = s.fixed := by
  unfold State.defer
  first
    | rfl
    | (simp; done)
    | ((repeat' split) <;> simp; done)
    | (dsimp only; (repeat' split) <;> simp; done)
    | (repeat' (first | (with_reducible rfl) | assumption | (simp; done) | (simp [*]; done) | split | (refine (foldl_fixed _ (fun _ _ => ?_) _ _).trans ?_) | (refine (foldl_fixed2 _ (fun _ _ => ?_) _ _).trans ?_) | (refine pair_fixed (by assumption) ?_) | (refine trip_fixed (by assumption) ?_) | (refine pair1_fixed (by assumption) ?_) | (dsimp only) | simp))

@[simp] theorem State.judged_fixed (s : State) (b : Body) (why : Option WaitFor) : (State.judged s b why).fixed = s.fixed := by
  unfold State.judged
  first
    | rfl
    | (simp; done)
    | ((repeat' split) <;> simp; done)
    | (dsimp only; (repeat' split) <;> simp; done)
    | (repeat' (first | (with_reducible rfl) | assumption | (simp; done) | (simp [*]; done) | split | (refine (foldl_fixed _ (fun _ _ => ?_) _ _).trans ?_) | (refine (foldl_fixed2 _ (fun _ _ => ?_) _ _).trans ?_) | (refine pair_fixed (by assumption) ?_) | (refine trip_fixed (by assumption) ?_) | (refine pair1_fixed (by assumption) ?_) | (dsimp only) | simp))

@[simp] theorem State.noteRange_fixed (s : State) (r : Result) : (State.noteRange s r).fixed = s.fixed := by
  unfold State.noteRange
  first
    | rfl
    | (simp; done)
    | ((repeat' split) <;> simp; done)
    | (dsimp only; (repeat' split) <;> simp; done)
    | (repeat' (first | (with_reducible rfl) | assumption | (simp; done) | (simp [*]; done) | split | (refine (foldl_fixed _ (fun _ _ => ?_) _ _).trans ?_) | (refine (foldl_fixed2 _ (fun _ _ => ?_) _ _).trans ?_) | (refine pair_fixed (by assumption) ?_) | (refine trip_fixed (by assumption) ?_) | (refine pair1_fixed (by assumption) ?_) | (dsimp only) | simp))

@[simp] theorem State.refuse_fixed (s : State) (token : Nat) (c : Cmd) (r : Result) : (State.refuse s token c r).fixed = s.fixed := by
  unfold State.refuse
  first
    | rfl
    | (simp; done)
    | ((repeat' split) <;> simp; done)
    | (dsimp only; (repeat' split) <;> simp; done)
    | (repeat' (first | (with_reducible rfl) | assumption | (simp; done) | (simp [*]; done) | split | (refine (foldl_fixed _ (fun _ _ => ?_) _ _).trans ?_) | (refine (foldl_fixed2 _ (fun _ _ => ?_) _ _).trans ?_) | (refine pair_fixed (by assumption) ?_) | (refine trip_fixed (by assumption) ?_) | (refine pair1_fixed (by assumption) ?_) | (dsimp only) | simp))

def Body.keeps (b : Body) : Prop := ∀ n c t, (b.act n c t).state.fixed = t.fixed

@[simp] theorem State.start_fixed (s : State) (b : Body) (token since : ℕ) (half : Option Bool) (c : Cmd) (hb : b.keeps) :
    (State.start s b token since half c).fixed = s.fixed := by
  unfold State.start
  extract_lets s1
  have h1 : s1.fixed = s.fixed := foldl_fixed _ (fun _ _ => by simp) _ _
  clear_value s1
  split
  · dsimp only; simp [h1]
  · rename_i s2 _ _
    have h2 : s2.fixed = s.fixed := by simp only [s2]; split <;> simp [h1]
    have h3 := hb token c s2
    split
    · rename_i h; rw [h] at h3; simp only [Act.state_done] at h3; simp [h3, h2]
    · rename_i h; rw [h] at h3; simp only [Act.state_running] at h3; simp [h3, h2]

@[simp] theorem State.begin_fixed (s : State) (b : Body) (token since : ℕ) (queued : Option Bool) (why : Option WaitFor) (c : Cmd) (hb : b.keeps) :
    (State.begin s b token since queued why c).fixed = s.fixed := by
  unfold State.begin
  split
  · simp
  split
  · simp
  split
  · exact (foldl_fixed _ (fun _ _ => by simp) _ _).trans (by simp)
  · exact State.start_fixed _ _ _ _ _ _ hb

@[simp] theorem State.accept_fixed (s : State) (b : Option Body) (c : Cmd) (hb : ∀ x, b = some x → x.keeps) : (State.accept s b c).fixed = s.fixed := by
  unfold State.accept
  extract_lets token s1
  have h1 : s1.fixed = s.fixed := rfl
  clear_value s1
  split
  · simp [h1]
  split
  · exact h1
  · have hk := hb _ rfl
    split
    · exact h1
    split
    · exact h1
    · rw [State.begin_fixed _ _ _ _ _ _ _ hk, h1]

@[simp] theorem State.resume_fixed (s : State) (b : Body) (w : Waiting) (hb : b.keeps) : (State.resume s b w).fixed = s.fixed := by
  unfold State.resume; rw [State.begin_fixed _ _ _ _ _ _ _ hb]; rfl

theorem State.readOver_fixed {s t : State} {find : ℕ → Option Body} {w : Waiting}
    (hf : ∀ op b, find op = some b → ∀ g n c t, (b.actGot g n c t).state.fixed = t.fixed)
    (h : s.readOver find w = some t) : t.fixed = s.fixed := by
  unfold State.readOver at h
  split at h
  · rename_i id b hw hb
    split at h
    · rename_i rs a n _ _
      dsimp only at h
      split at h
      · cases h; simp
      split at h
      · cases h; simp
      · have h3 := hf _ _ hb (gotOf rs a n) w.token w.cmd ((s.takeAnswers id).onCmd fun k =>
          { k with waiting := k.waiting.filter (fun x => x.token != w.token) })
        split at h
        · rename_i e; rw [e] at h3; cases h; simpa using h3
        · rename_i e; rw [e] at h3; cases h; simpa using h3
    · cases h
  · cases h

@[simp] theorem State.startAfterPrev_fixed (s : State) (find : ℕ → Option Body) (token : ℕ) (hf : ∀ op b, find op = some b → b.keeps) :
    (State.startAfterPrev s find token).fixed = s.fixed := by
  unfold State.startAfterPrev
  split
  · split
    · split
      · exact State.resume_fixed _ _ _ (hf _ _ (by assumption))
      · rfl
    · rfl
  · rfl

/-! ### Admission -/

@[simp] theorem State.reckon_fixed (s : State) : (State.reckon s).fixed = s.fixed := rfl

@[simp] theorem State.guard_fixed (s : State) : (State.guard s).fixed = s.fixed := by
  unfold State.guard
  repeat' (first
    | (with_reducible rfl)
    | assumption
    | (simp; done)
    | (simp [*]; done)
    | split
    | (refine (foldl_fixed _ (fun _ _ => ?_) _ _).trans ?_)
    | (refine (foldl_fixed2 _ (fun _ _ => ?_) _ _).trans ?_)
    | (refine pair_fixed (by assumption) ?_)
    | (refine trip_fixed (by assumption) ?_)
    | (refine pair1_fixed (by assumption) ?_)
    | (dsimp only)
    | simp)

/-! ### CmdCrossbar -/

@[simp] theorem Act.ok_fixed (s : State) : (Act.ok s).state.fixed = s.fixed := by
  unfold Act.ok
  first
    | rfl
    | (simp; done)
    | ((repeat' split) <;> simp; done)
    | (dsimp only; (repeat' split) <;> simp; done)
    | (repeat' (first | (with_reducible rfl) | assumption | (simp; done) | (simp [*]; done) | split | (refine (foldl_fixed _ (fun _ _ => ?_) _ _).trans ?_) | (refine (foldl_fixed2 _ (fun _ _ => ?_) _ _).trans ?_) | (refine pair_fixed (by assumption) ?_) | (refine trip_fixed (by assumption) ?_) | (refine pair1_fixed (by assumption) ?_) | (dsimp only) | simp))

@[simp] theorem State.endWaitsOf_fixed (s : State) (ctx : ℕ) : (State.endWaitsOf s ctx).fixed =
    s.fixed := rfl

@[simp] theorem State.ctxReset_fixed (s : State) (ctx : ℕ) : (State.ctxReset s ctx).fixed = s.fixed := by
  simp [State.ctxReset]

@[simp] theorem State.uncount_fixed (s : State) (xs : List Piece) : (State.uncount s xs).fixed =
    s.fixed := by
  unfold State.uncount
  repeat' (first
    | (with_reducible rfl)
    | assumption
    | (simp; done)
    | (simp [*]; done)
    | split
    | (refine (foldl_fixed _ (fun _ _ => ?_) _ _).trans ?_)
    | (refine (foldl_fixed2 _ (fun _ _ => ?_) _ _).trans ?_)
    | (refine pair_fixed (by assumption) ?_)
    | (refine trip_fixed (by assumption) ?_)
    | (refine pair1_fixed (by assumption) ?_)
    | (dsimp only)
    | simp)

@[simp] theorem State.discardSeq_fixed (s : State) (o : Outst) (lost : List Piece) :
    (State.discardSeq s o lost).fixed = s.fixed := by
  unfold State.discardSeq; (repeat' split) <;> simp

@[simp] theorem State.discardQueued_fixed (s : State) (q : Queued) : (State.discardQueued s q).fixed
    = s.fixed := by
  unfold State.discardQueued; (repeat' split) <;> simp

@[simp] theorem State.clearPort_fixed (s : State) (p : ℕ) : (State.clearPort s p).fixed = s.fixed := rfl

@[simp] theorem State.dropPortWaits_fixed (s : State) (p : ℕ) : (State.dropPortWaits s p).fixed =
    s.fixed := rfl

@[simp] theorem State.portReset_fixed (s : State) (p : ℕ) : (State.portReset s p).fixed = s.fixed := by
  unfold State.portReset
  dsimp only
  rw [State.freeAllDying_fixed, State.abandonAll_fixed, State.dropPortWaits_fixed, State.clearPort_fixed, State.uncount_fixed,
    foldl_fixed _ (fun s q => State.discardQueued_fixed s q)]
  exact foldl_fixed _ (fun s o => State.discardSeq_fixed s o _) _ _

@[simp] theorem State.endReset_fixed (s : State) (w : Waiting) : (State.endReset s w).fixed = s.fixed := by
  unfold State.endReset
  first
    | rfl
    | (simp; done)
    | ((repeat' split) <;> simp; done)
    | (dsimp only; (repeat' split) <;> simp; done)
    | (repeat' (first | (with_reducible rfl) | assumption | (simp; done) | (simp [*]; done) | split | (refine (foldl_fixed _ (fun _ _ => ?_) _ _).trans ?_) | (refine (foldl_fixed2 _ (fun _ _ => ?_) _ _).trans ?_) | (refine pair_fixed (by assumption) ?_) | (refine trip_fixed (by assumption) ?_) | (refine pair1_fixed (by assumption) ?_) | (dsimp only) | simp))

@[simp] theorem State.drainComplete_fixed (s : State) (token : ℕ) :
    (State.drainComplete s token).fixed = s.fixed := by
  unfold State.drainComplete; split <;> simp

@[simp] theorem State.markedParams_fixed (s : State) (as : List Nat) : (State.markedParams s as).fixed = s.fixed := by
  unfold State.markedParams
  first
    | rfl
    | (simp; done)
    | ((repeat' split) <;> simp; done)
    | (dsimp only; (repeat' split) <;> simp; done)
    | (repeat' (first | (with_reducible rfl) | assumption | (simp; done) | (simp [*]; done) | split | (refine (foldl_fixed _ (fun _ _ => ?_) _ _).trans ?_) | (refine (foldl_fixed2 _ (fun _ _ => ?_) _ _).trans ?_) | (refine pair_fixed (by assumption) ?_) | (refine trip_fixed (by assumption) ?_) | (refine pair1_fixed (by assumption) ?_) | (dsimp only) | simp))

@[simp] theorem State.swapTakeEffect_fixed (s : State) (n : ℕ) : (State.swapTakeEffect s n).fixed =
    s.fixed := by
  unfold State.swapTakeEffect; dsimp only; (repeat' split) <;> simp

@[simp] theorem State.takeTargets_fixed (s : State) (g : BitVec 256) : (State.takeTargets s g).fixed
    = s.fixed := rfl

@[simp] theorem State.admitRecords_fixed (s : State) (set : List (BitVec 256)) : (State.admitRecords s set).fixed
    = s.fixed := by
  unfold State.admitRecords
  repeat' (first
    | (with_reducible rfl)
    | assumption
    | (simp; done)
    | (simp [*]; done)
    | split
    | (refine (foldl_fixed _ (fun _ _ => ?_) _ _).trans ?_)
    | (refine (foldl_fixed2 _ (fun _ _ => ?_) _ _).trans ?_)
    | (refine pair_fixed (by assumption) ?_)
    | (refine trip_fixed (by assumption) ?_)
    | (refine pair1_fixed (by assumption) ?_)
    | (dsimp only)
    | simp)

@[simp] theorem State.releaseGuarantee_fixed (s : State) (id : ℕ) :
    (State.releaseGuarantee s id).fixed = s.fixed := by
  unfold State.releaseGuarantee; split <;> simp

/-! ### Links -/

@[simp] theorem State.onDest_fixed (s : State) (chip : ℕ) (f : DestEntry → DestEntry) :
    (State.onDest s chip f).fixed = s.fixed := rfl

@[simp] theorem State.moveFloor_fixed (s : State) (chip : ℕ) : (State.moveFloor s chip).fixed =
    s.fixed := by
  unfold State.moveFloor; split <;> simp

@[simp] theorem State.makeDest_fixed (s : State) (chip : ℕ) : (State.makeDest s chip).fixed =
    s.fixed := by
  unfold State.makeDest; (repeat' split) <;> simp

@[simp] theorem State.tidyDests_fixed (s : State) : (State.tidyDests s).fixed = s.fixed := by
  unfold State.tidyDests
  first
    | rfl
    | (simp; done)
    | ((repeat' split) <;> simp; done)
    | (dsimp only; (repeat' split) <;> simp; done)
    | (repeat' (first | (with_reducible rfl) | assumption | (simp; done) | (simp [*]; done) | split | (refine (foldl_fixed _ (fun _ _ => ?_) _ _).trans ?_) | (refine (foldl_fixed2 _ (fun _ _ => ?_) _ _).trans ?_) | (refine pair_fixed (by assumption) ?_) | (refine trip_fixed (by assumption) ?_) | (refine pair1_fixed (by assumption) ?_) | (dsimp only) | simp))

@[simp] theorem State.onOut_fixed (s : State) (req : ℕ) (f : OutReq → OutReq) :
    (State.onOut s req f).fixed = s.fixed := rfl

@[simp] theorem State.outEnds_fixed (s : State) (o : OutReq) : (State.outEnds s o).fixed = s.fixed := by
  simp [State.outEnds]

@[simp] theorem State.refuseRest_fixed (s : State) (q : Outst) (st : Status) :
    (State.refuseRest s q st).fixed = s.fixed := by
  unfold State.refuseRest
  repeat' (first
    | (with_reducible rfl)
    | assumption
    | (simp; done)
    | (simp [*]; done)
    | split
    | (refine (foldl_fixed _ (fun _ _ => ?_) _ _).trans ?_)
    | (refine (foldl_fixed2 _ (fun _ _ => ?_) _ _).trans ?_)
    | (refine pair_fixed (by assumption) ?_)
    | (refine trip_fixed (by assumption) ?_)
    | (refine pair1_fixed (by assumption) ?_)
    | (dsimp only)
    | simp)

@[simp] theorem State.writeLost_fixed (s : State) (q : Outst) : (State.writeLost s q).fixed = s.fixed := by
  unfold State.writeLost
  first
    | rfl
    | (simp; done)
    | ((repeat' split) <;> simp; done)
    | (dsimp only; (repeat' split) <;> simp; done)
    | (repeat' (first | (with_reducible rfl) | assumption | (simp; done) | (simp [*]; done) | split | (refine (foldl_fixed _ (fun _ _ => ?_) _ _).trans ?_) | (refine (foldl_fixed2 _ (fun _ _ => ?_) _ _).trans ?_) | (refine pair_fixed (by assumption) ?_) | (refine trip_fixed (by assumption) ?_) | (refine pair1_fixed (by assumption) ?_) | (dsimp only) | simp))

@[simp] theorem State.remoteLost_fixed (s : State) (o : OutReq) : (State.remoteLost s o).fixed =
    s.fixed := by
  unfold State.remoteLost; dsimp only; (repeat' split) <;> simp

@[simp] theorem State.sendOut_fixed (s : State) (o : OutReq) (n : ℕ) (seq : BitVec 16)
    (floor : BitVec 16) (resend : Bool) : (State.sendOut s o n seq floor resend).fixed = s.fixed := rfl

@[simp] theorem State.linkSend_fixed (s : State) (chip : ℕ) : (State.linkSend s chip).fixed =
    s.fixed := by
  unfold State.linkSend; (repeat' split) <;> simp

@[simp] theorem State.linkResend_fixed (s : State) (req : ℕ) : (State.linkResend s req).fixed =
    s.fixed := by
  unfold State.linkResend; (repeat' split) <;> simp

@[simp] theorem State.linkRemoteLost_fixed (s : State) (req : ℕ) :
    (State.linkRemoteLost s req).fixed = s.fixed := by
  unfold State.linkRemoteLost; split <;> simp

@[simp] theorem State.epochDrop_fixed (s : State) (n : ℕ) (chip : ℕ) :
    (State.epochDrop s n chip).fixed = s.fixed := rfl

@[simp] theorem State.misroute_fixed (s : State) (n : ℕ) (chip : ℕ) :
    (State.misroute s n chip).fixed = s.fixed := rfl

@[simp] theorem State.stale_fixed (s : State) (n : ℕ) : (State.stale s n).fixed = s.fixed := rfl

@[simp] theorem State.gotBeat_fixed (s : State) (o : OutReq) (beat : Nat) : (State.gotBeat s o beat).fixed = s.fixed := by
  unfold State.gotBeat
  first
    | rfl
    | (simp; done)
    | ((repeat' split) <;> simp; done)
    | (dsimp only; (repeat' split) <;> simp; done)
    | (repeat' (first | (with_reducible rfl) | assumption | (simp; done) | (simp [*]; done) | split | (refine (foldl_fixed _ (fun _ _ => ?_) _ _).trans ?_) | (refine (foldl_fixed2 _ (fun _ _ => ?_) _ _).trans ?_) | (refine pair_fixed (by assumption) ?_) | (refine trip_fixed (by assumption) ?_) | (refine pair1_fixed (by assumption) ?_) | (dsimp only) | simp))

@[simp] theorem State.answered_fixed (s : State) (o : OutReq) (r : LinkRsp) :
    (State.answered s o r).fixed = s.fixed := by
  unfold State.answered; split <;> simp

@[simp] theorem State.linkResponse_fixed (s : State) (n : ℕ) (r : LinkRsp) :
    (State.linkResponse s n r).fixed = s.fixed := by
  unfold State.linkResponse; dsimp only; (repeat' split) <;> simp

@[simp] theorem State.discardHeld_fixed (s : State) (p : HeldOp → Bool) (g : State → HeldOp → State)
    (hg : ∀ s0 x0, (g s0 x0).fixed = s0.fixed) : (State.discardHeld s p g).fixed = s.fixed := by
  unfold State.discardHeld
  repeat' (first
    | (with_reducible rfl)
    | assumption
    | (simp; done)
    | (simp [*]; done)
    | split
    | (refine (foldl_fixed _ (fun _ _ => ?_) _ _).trans ?_)
    | (refine (foldl_fixed2 _ (fun _ _ => ?_) _ _).trans ?_)
    | (refine pair_fixed (by assumption) ?_)
    | (refine trip_fixed (by assumption) ?_)
    | (refine pair1_fixed (by assumption) ?_)
    | (dsimp only)
    | simp)

@[simp] theorem State.dropSource_fixed (s : State) (i : ℕ) : (State.dropSource s i).fixed = s.fixed := by
  simp only [State.dropSource, State.onLinks_fixed]; exact State.discardHeld_fixed _ _ _ (fun _ _ => by simp)

theorem State.sourceFor_fixed {s t : State} {c i : ℕ} {b : BitVec 16} {k : ℕ} (h : s.sourceFor c i b = some (k, t)) : t.fixed = s.fixed := by
  unfold State.sourceFor at h
  dsimp only at h
  repeat' split at h
  all_goals first | (cases h; rfl) | (cases h; (repeat' (first | (with_reducible rfl) | assumption | (simp; done) | (simp [*]; done) | split | (refine (foldl_fixed _ (fun _ _ => ?_) _ _).trans ?_) | (refine (foldl_fixed2 _ (fun _ _ => ?_) _ _).trans ?_) | (refine pair_fixed (by assumption) ?_) | (refine trip_fixed (by assumption) ?_) | (refine pair1_fixed (by assumption) ?_) | (dsimp only) | simp))) | (simp at h)

@[simp] theorem State.repeatAnswer_fixed (s : State) (n : ℕ) (r : LinkReq) (t : LinkTag)
    (q : SeqRec) (st : Status) : (State.repeatAnswer s n r t q st).fixed = s.fixed := by
  simp [State.repeatAnswer]

@[simp] theorem State.takeInbound_fixed (s : State) (n : ℕ) (r : LinkReq) (t : LinkTag) (again : Bool) : (State.takeInbound s n r t again).fixed = s.fixed := by
  unfold State.takeInbound
  first
    | rfl
    | (simp; done)
    | ((repeat' split) <;> simp; done)
    | (dsimp only; (repeat' split) <;> simp; done)
    | (repeat' (first | (with_reducible rfl) | assumption | (simp; done) | (simp [*]; done) | split | (refine (foldl_fixed _ (fun _ _ => ?_) _ _).trans ?_) | (refine (foldl_fixed2 _ (fun _ _ => ?_) _ _).trans ?_) | (refine pair_fixed (by assumption) ?_) | (refine trip_fixed (by assumption) ?_) | (refine pair1_fixed (by assumption) ?_) | (dsimp only) | simp))

@[simp] theorem State.inWindow_fixed (s : State) (n : ℕ) (r : LinkReq) (t : LinkTag) (e : SrcEntry)
    : (State.inWindow s n r t e).fixed = s.fixed := by
  unfold State.inWindow; (repeat' split) <;> simp

@[simp] theorem State.headerFault_fixed (s : State) (p : ℕ) : (State.headerFault s p).fixed =
    s.fixed := rfl

@[simp] theorem State.linkInbound_fixed (s : State) (n : ℕ) (r : LinkReq) :
    (State.linkInbound s n r).fixed = s.fixed := by
  unfold State.linkInbound
  dsimp only
  repeat' split
  all_goals first | (simp; done) | (have h9 := State.sourceFor_fixed (by assumption); simp [h9]; done) | (rename_i h _; have h9 := State.sourceFor_fixed (by assumption); (repeat' (first | (with_reducible rfl) | assumption | (simp; done) | (simp [*]; done) | split | (refine (foldl_fixed _ (fun _ _ => ?_) _ _).trans ?_) | (refine (foldl_fixed2 _ (fun _ _ => ?_) _ _).trans ?_) | (refine pair_fixed (by assumption) ?_) | (refine trip_fixed (by assumption) ?_) | (refine pair1_fixed (by assumption) ?_) | (dsimp only) | simp)); done) | (repeat' (first | (with_reducible rfl) | assumption | (simp; done) | (simp [*]; done) | split | (refine (foldl_fixed _ (fun _ _ => ?_) _ _).trans ?_) | (refine (foldl_fixed2 _ (fun _ _ => ?_) _ _).trans ?_) | (refine pair_fixed (by assumption) ?_) | (refine trip_fixed (by assumption) ?_) | (refine pair1_fixed (by assumption) ?_) | (dsimp only) | simp))

@[simp] theorem State.linkIn_fixed (s : State) (n : Nat) (x : LinkIn) : (State.linkIn s n x).fixed = s.fixed := by
  unfold State.linkIn
  first
    | rfl
    | (simp; done)
    | ((repeat' split) <;> simp; done)
    | (dsimp only; (repeat' split) <;> simp; done)
    | (repeat' (first | (with_reducible rfl) | assumption | (simp; done) | (simp [*]; done) | split | (refine (foldl_fixed _ (fun _ _ => ?_) _ _).trans ?_) | (refine (foldl_fixed2 _ (fun _ _ => ?_) _ _).trans ?_) | (refine pair_fixed (by assumption) ?_) | (refine trip_fixed (by assumption) ?_) | (refine pair1_fixed (by assumption) ?_) | (dsimp only) | simp))

@[simp] theorem State.linkResume_fixed (s : State) : (State.linkResume s).fixed = s.fixed := by
  unfold State.linkResume
  first
    | rfl
    | (simp; done)
    | ((repeat' split) <;> simp; done)
    | (dsimp only; (repeat' split) <;> simp; done)
    | (repeat' (first | (with_reducible rfl) | assumption | (simp; done) | (simp [*]; done) | split | (refine (foldl_fixed _ (fun _ _ => ?_) _ _).trans ?_) | (refine (foldl_fixed2 _ (fun _ _ => ?_) _ _).trans ?_) | (refine pair_fixed (by assumption) ?_) | (refine trip_fixed (by assumption) ?_) | (refine pair1_fixed (by assumption) ?_) | (dsimp only) | simp))

@[simp] theorem State.releaseHeldOp_fixed (s : State) (order : ℕ) :
    (State.releaseHeldOp s order).fixed = s.fixed := by
  unfold State.releaseHeldOp; split <;> simp

@[simp] theorem State.heldStale_fixed (s : State) (order : ℕ) : (State.heldStale s order).fixed =
    s.fixed := by
  unfold State.heldStale; split <;> simp

@[simp] theorem State.reclaim_fixed (s : State) (i : ℕ) : (State.reclaim s i).fixed = s.fixed := by
  unfold State.reclaim; split <;> simp

@[simp] theorem State.answerHeld_fixed (s : State) : (State.answerHeld s).fixed = s.fixed := by
  unfold State.answerHeld
  repeat' (first
    | (with_reducible rfl)
    | assumption
    | (simp; done)
    | (simp [*]; done)
    | split
    | (refine (foldl_fixed _ (fun _ _ => ?_) _ _).trans ?_)
    | (refine (foldl_fixed2 _ (fun _ _ => ?_) _ _).trans ?_)
    | (refine pair_fixed (by assumption) ?_)
    | (refine trip_fixed (by assumption) ?_)
    | (refine pair1_fixed (by assumption) ?_)
    | (dsimp only)
    | simp)

@[simp] theorem State.linkUpChange_fixed (s : State) (n : ℕ) (up : Bool) :
    (State.linkUpChange s n up).fixed = s.fixed := by
  simp [State.linkUpChange]

/-! ### CmdAddr -/

@[simp] theorem State.reply_fixed (s : State) (c : Cmd) (toMem : Bool) (addr : ℕ) (bs : List Byte) :
    (State.reply s c toMem addr bs).fixed = s.fixed := by
  unfold State.reply; (repeat' split) <;> simp

@[simp] theorem State.markInit_fixed (s : State) (i : ℕ) : (State.markInit s i).fixed = s.fixed := by
  simp [State.markInit]

@[simp] theorem State.invalidateView_fixed (s : State) (v : ℕ) : (State.invalidateView s v).fixed =
    s.fixed := by
  unfold State.invalidateView; split <;> simp

@[simp] theorem State.viewSet_fixed (s : State) (d : BitVec 512) (owner : ℕ) :
    (State.viewSet s d owner).fixed = s.fixed := by
  simp [State.viewSet]

@[simp] theorem State.viewStats_fixed (s : State) (c : Cmd) : (State.viewStats s c).fixed = s.fixed := by
  unfold State.viewStats; dsimp only; (repeat' split) <;> simp

@[simp] theorem State.settleEpoch_fixed (s : State) (id : ℕ) (r : EpochRec) :
    (State.settleEpoch s id r).fixed = s.fixed := by
  unfold State.settleEpoch; split <;> simp

@[simp] theorem State.epochSettle_fixed (s : State) (id : ℕ) : (State.epochSettle s id).fixed =
    s.fixed := by
  unfold State.epochSettle; (repeat' split) <;> simp

@[simp] theorem State.epochTime_fixed (s : State) (id : ℕ) : (State.epochTime s id).fixed = s.fixed := by
  unfold State.epochTime; split <;> simp

/-! ### CmdFold -/

@[simp] theorem State.foldDestroy_fixed (s : State) (k : ℕ) : (State.foldDestroy s k).fixed =
    s.fixed := by
  simp [State.foldDestroy]

@[simp] theorem State.ringWait_fixed (s : State) (token : ℕ) (c : Cmd) (k n : ℕ) (o : FoldOp) : (s.ringWait token c k n o).state.fixed = s.fixed := by
  unfold State.ringWait; (repeat' (first | (with_reducible rfl) | assumption | (simp; done) | (simp [*]; done) | split | (refine (foldl_fixed _ (fun _ _ => ?_) _ _).trans ?_) | (refine (foldl_fixed2 _ (fun _ _ => ?_) _ _).trans ?_) | (refine pair_fixed (by assumption) ?_) | (refine trip_fixed (by assumption) ?_) | (refine pair1_fixed (by assumption) ?_) | (dsimp only) | simp))

@[simp] theorem State.foldCorrects_fixed (s : State) (k : ℕ) : (State.foldCorrects s k).fixed = s.fixed := by
  unfold State.foldCorrects
  first
    | rfl
    | (simp; done)
    | ((repeat' split) <;> simp; done)
    | (dsimp only; (repeat' split) <;> simp; done)
    | (repeat' (first | (with_reducible rfl) | assumption | (simp; done) | (simp [*]; done) | split | (refine (foldl_fixed _ (fun _ _ => ?_) _ _).trans ?_) | (refine (foldl_fixed2 _ (fun _ _ => ?_) _ _).trans ?_) | (refine pair_fixed (by assumption) ?_) | (refine trip_fixed (by assumption) ?_) | (refine pair1_fixed (by assumption) ?_) | (dsimp only) | simp))

@[simp] theorem State.svcPush_fixed (s : State) (bs : List Byte) : (State.svcPush s bs).fixed =
    s.fixed := rfl

@[simp] theorem State.onDump_fixed (s : State) (token : ℕ) (f : Dump → Dump) :
    (State.onDump s token f).fixed = s.fixed := rfl

@[simp] theorem State.endDump_fixed (s : State) (d : Dump) (r : Result) :
    (State.endDump s d r).fixed = s.fixed := by
  simp [State.endDump]

@[simp] theorem State.dumpToSvc_fixed (s : State) (d : Dump) : (State.dumpToSvc s d).fixed = s.fixed := by
  unfold State.dumpToSvc; split <;> simp

@[simp] theorem State.dumpToMemory_fixed (s : State) (d : Dump) : (State.dumpToMemory s d).fixed =
    s.fixed := by
  unfold State.dumpToMemory; dsimp only; (repeat' split) <;> simp

@[simp] theorem State.dumpStep_fixed (s : State) (d : Dump) : (State.dumpStep s d).fixed = s.fixed := by
  simp [State.dumpStep]

@[simp] theorem State.foldDumpRecord_fixed (s : State) : (State.foldDumpRecord s).fixed = s.fixed := by
  unfold State.foldDumpRecord; (repeat' split) <;> simp

/-! ### Neurons -/

@[simp] theorem State.evBad_fixed (s : State) (v : ℕ) (pop : ℕ) (cluster : ℕ) :
    (State.evBad s v pop cluster).fixed = s.fixed := rfl

@[simp] theorem State.askEvent_fixed (s : State) (c : ℕ) (op : ℕ) (addr : ℕ) (len : ℕ) (ctx : ℕ) (xs : List Piece) : (State.askEvent s c op addr len ctx xs).2.fixed = s.fixed := by
  unfold State.askEvent
  first
    | rfl
    | (simp; done)
    | ((repeat' split) <;> simp; done)
    | (dsimp only; (repeat' split) <;> simp; done)
    | (repeat' (first | (with_reducible rfl) | assumption | (simp; done) | (simp [*]; done) | split | (refine (foldl_fixed _ (fun _ _ => ?_) _ _).trans ?_) | (refine (foldl_fixed2 _ (fun _ _ => ?_) _ _).trans ?_) | (refine pair_fixed (by assumption) ?_) | (refine trip_fixed (by assumption) ?_) | (refine pair1_fixed (by assumption) ?_) | (dsimp only) | simp))

@[simp] theorem State.askEventRead_fixed (s : State) (c : ℕ) (ctx : ℕ) (a : ℕ) (len : ℕ) : (State.askEventRead s c ctx a len).2.fixed = s.fixed := by
  unfold State.askEventRead
  first
    | rfl
    | (simp; done)
    | ((repeat' split) <;> simp; done)
    | (dsimp only; (repeat' split) <;> simp; done)
    | (repeat' (first | (with_reducible rfl) | assumption | (simp; done) | (simp [*]; done) | split | (refine (foldl_fixed _ (fun _ _ => ?_) _ _).trans ?_) | (refine (foldl_fixed2 _ (fun _ _ => ?_) _ _).trans ?_) | (refine pair_fixed (by assumption) ?_) | (refine trip_fixed (by assumption) ?_) | (refine pair1_fixed (by assumption) ?_) | (dsimp only) | simp))

@[simp] theorem State.tidyEvents_fixed (s : State) (c : ℕ) : (State.tidyEvents s c).fixed = s.fixed := by
  unfold State.tidyEvents
  first
    | rfl
    | (simp; done)
    | ((repeat' split) <;> simp; done)
    | (dsimp only; (repeat' split) <;> simp; done)
    | (repeat' (first | (with_reducible rfl) | assumption | (simp; done) | (simp [*]; done) | split | (refine (foldl_fixed _ (fun _ _ => ?_) _ _).trans ?_) | (refine (foldl_fixed2 _ (fun _ _ => ?_) _ _).trans ?_) | (refine pair_fixed (by assumption) ?_) | (refine trip_fixed (by assumption) ?_) | (refine pair1_fixed (by assumption) ?_) | (dsimp only) | simp))

@[simp] theorem State.synapse_fixed (s : State) (r : SpikeRun) (p : Pop) (e : ℕ × Bool) (w : ℕ × Bool) (k : Found) (fmt : BitVec 512) : (State.synapse s r p e w k fmt).2.fixed = s.fixed := by
  unfold State.synapse
  first
    | rfl
    | (simp; done)
    | ((repeat' split) <;> simp; done)
    | (dsimp only; (repeat' split) <;> simp; done)
    | (repeat' (first | (with_reducible rfl) | assumption | (simp; done) | (simp [*]; done) | split | (refine (foldl_fixed _ (fun _ _ => ?_) _ _).trans ?_) | (refine (foldl_fixed2 _ (fun _ _ => ?_) _ _).trans ?_) | (refine pair_fixed (by assumption) ?_) | (refine trip_fixed (by assumption) ?_) | (refine pair1_fixed (by assumption) ?_) | (dsimp only) | simp))

@[simp] theorem State.synapses_fixed (s : State) (c : ℕ) (r : SpikeRun) (p : Pop) (v : View) (base : ℕ) (syn : List Resp) (ws : List Resp) (y8 : List ℕ) : (State.synapses s c r p v base syn ws y8).2.fixed = s.fixed := by
  induction y8 generalizing s c r p v base syn ws with
  | nil => (unfold State.synapses; (repeat' (first | (with_reducible rfl) | assumption | (simp; done) | (simp [*]; done) | split | (refine (foldl_fixed _ (fun _ _ => ?_) _ _).trans ?_) | (refine (foldl_fixed2 _ (fun _ _ => ?_) _ _).trans ?_) | (refine pair_fixed (by assumption) ?_) | (refine trip_fixed (by assumption) ?_) | (refine pair1_fixed (by assumption) ?_) | (dsimp only) | simp)))
  | cons a1 t1 ih => (unfold State.synapses; (repeat' (first | (with_reducible rfl) | assumption | (simp; done) | (simp [*]; done) | split | (refine (foldl_fixed _ (fun _ _ => ?_) _ _).trans ?_) | (refine (foldl_fixed2 _ (fun _ _ => ?_) _ _).trans ?_) | (refine pair_fixed (by assumption) ?_) | (refine trip_fixed (by assumption) ?_) | (refine pair1_fixed (by assumption) ?_) | (dsimp only) | simp)))

@[simp] theorem State.spikeDone_fixed (s : State) (c : ℕ) (pop : ℕ) : (State.spikeDone s c pop).fixed = s.fixed := by
  unfold State.spikeDone
  first
    | rfl
    | (simp; done)
    | ((repeat' split) <;> simp; done)
    | (dsimp only; (repeat' split) <;> simp; done)
    | (repeat' (first | (with_reducible rfl) | assumption | (simp; done) | (simp [*]; done) | split | (refine (foldl_fixed _ (fun _ _ => ?_) _ _).trans ?_) | (refine (foldl_fixed2 _ (fun _ _ => ?_) _ _).trans ?_) | (refine pair_fixed (by assumption) ?_) | (refine trip_fixed (by assumption) ?_) | (refine pair1_fixed (by assumption) ?_) | (dsimp only) | simp))

@[simp] theorem State.runStart_fixed (s : State) (c : ℕ) (r : SpikeRun) (p : Pop) : (State.runStart s c r p).2.fixed = s.fixed := by
  unfold State.runStart
  first
    | rfl
    | (simp; done)
    | ((repeat' split) <;> simp; done)
    | (dsimp only; (repeat' split) <;> simp; done)
    | (repeat' (first | (with_reducible rfl) | assumption | (simp; done) | (simp [*]; done) | split | (refine (foldl_fixed _ (fun _ _ => ?_) _ _).trans ?_) | (refine (foldl_fixed2 _ (fun _ _ => ?_) _ _).trans ?_) | (refine pair_fixed (by assumption) ?_) | (refine trip_fixed (by assumption) ?_) | (refine pair1_fixed (by assumption) ?_) | (dsimp only) | simp))

@[simp] theorem State.runDirectory_fixed (s : State) (c : ℕ) (r : SpikeRun) (p : Pop) (rs : List Resp) : (State.runDirectory s c r p rs).2.fixed = s.fixed := by
  unfold State.runDirectory
  first
    | rfl
    | (simp; done)
    | ((repeat' split) <;> simp; done)
    | (dsimp only; (repeat' split) <;> simp; done)
    | (repeat' (first | (with_reducible rfl) | assumption | (simp; done) | (simp [*]; done) | split | (refine (foldl_fixed _ (fun _ _ => ?_) _ _).trans ?_) | (refine (foldl_fixed2 _ (fun _ _ => ?_) _ _).trans ?_) | (refine pair_fixed (by assumption) ?_) | (refine trip_fixed (by assumption) ?_) | (refine pair1_fixed (by assumption) ?_) | (dsimp only) | simp))

@[simp] theorem State.runChunk_fixed (s : State) (c : ℕ) (r : SpikeRun) (p : Pop) : (State.runChunk s c r p).2.fixed = s.fixed := by
  unfold State.runChunk
  first
    | rfl
    | (simp; done)
    | ((repeat' split) <;> simp; done)
    | (dsimp only; (repeat' split) <;> simp; done)
    | (repeat' (first | (with_reducible rfl) | assumption | (simp; done) | (simp [*]; done) | split | (refine (foldl_fixed _ (fun _ _ => ?_) _ _).trans ?_) | (refine (foldl_fixed2 _ (fun _ _ => ?_) _ _).trans ?_) | (refine pair_fixed (by assumption) ?_) | (refine trip_fixed (by assumption) ?_) | (refine pair1_fixed (by assumption) ?_) | (dsimp only) | simp))

@[simp] theorem State.runSynapses_fixed (s : State) (c : ℕ) (r : SpikeRun) (p : Pop) (syn : List Resp) (ws : List Resp) : (State.runSynapses s c r p syn ws).2.fixed = s.fixed := by
  unfold State.runSynapses
  first
    | rfl
    | (simp; done)
    | ((repeat' split) <;> simp; done)
    | (dsimp only; (repeat' split) <;> simp; done)
    | (repeat' (first | (with_reducible rfl) | assumption | (simp; done) | (simp [*]; done) | split | (refine (foldl_fixed _ (fun _ _ => ?_) _ _).trans ?_) | (refine (foldl_fixed2 _ (fun _ _ => ?_) _ _).trans ?_) | (refine pair_fixed (by assumption) ?_) | (refine trip_fixed (by assumption) ?_) | (refine pair1_fixed (by assumption) ?_) | (dsimp only) | simp))

@[simp] theorem State.bufferWork_fixed (s : State) (x : Piece) : (State.bufferWork s x).fixed = s.fixed := by
  unfold State.bufferWork
  first
    | rfl
    | (simp; done)
    | ((repeat' split) <;> simp; done)
    | (dsimp only; (repeat' split) <;> simp; done)
    | (repeat' (first | (with_reducible rfl) | assumption | (simp; done) | (simp [*]; done) | split | (refine (foldl_fixed _ (fun _ _ => ?_) _ _).trans ?_) | (refine (foldl_fixed2 _ (fun _ _ => ?_) _ _).trans ?_) | (refine pair_fixed (by assumption) ?_) | (refine trip_fixed (by assumption) ?_) | (refine pair1_fixed (by assumption) ?_) | (dsimp only) | simp))

@[simp] theorem State.bufferAll_fixed (s : State) (y1 : List Piece) : (State.bufferAll s y1).2.fixed = s.fixed := by
  induction y1 generalizing s with
  | nil => (unfold State.bufferAll; (repeat' (first | (with_reducible rfl) | assumption | (simp; done) | (simp [*]; done) | split | (refine (foldl_fixed _ (fun _ _ => ?_) _ _).trans ?_) | (refine (foldl_fixed2 _ (fun _ _ => ?_) _ _).trans ?_) | (refine pair_fixed (by assumption) ?_) | (refine trip_fixed (by assumption) ?_) | (refine pair1_fixed (by assumption) ?_) | (dsimp only) | simp)))
  | cons a1 t1 ih => (unfold State.bufferAll; (repeat' (first | (with_reducible rfl) | assumption | (simp; done) | (simp [*]; done) | split | (refine (foldl_fixed _ (fun _ _ => ?_) _ _).trans ?_) | (refine (foldl_fixed2 _ (fun _ _ => ?_) _ _).trans ?_) | (refine pair_fixed (by assumption) ?_) | (refine trip_fixed (by assumption) ?_) | (refine pair1_fixed (by assumption) ?_) | (dsimp only) | simp)))

@[simp] theorem State.runReady_fixed (s : State) (c : ℕ) (r : SpikeRun) (p : Pop) (adds : List (ℕ × ℤ)) : (State.runReady s c r p adds).2.fixed = s.fixed := by
  unfold State.runReady
  first
    | rfl
    | (simp; done)
    | ((repeat' split) <;> simp; done)
    | (dsimp only; (repeat' split) <;> simp; done)
    | (repeat' (first | (with_reducible rfl) | assumption | (simp; done) | (simp [*]; done) | split | (refine (foldl_fixed _ (fun _ _ => ?_) _ _).trans ?_) | (refine (foldl_fixed2 _ (fun _ _ => ?_) _ _).trans ?_) | (refine pair_fixed (by assumption) ?_) | (refine trip_fixed (by assumption) ?_) | (refine pair1_fixed (by assumption) ?_) | (dsimp only) | simp))

@[simp] theorem State.moveRun_fixed (s : State) (c : ℕ) (r : SpikeRun) : (State.moveRun s c r).2.fixed = s.fixed := by
  unfold State.moveRun
  first
    | rfl
    | (simp; done)
    | ((repeat' split) <;> simp; done)
    | (dsimp only; (repeat' split) <;> simp; done)
    | (repeat' (first | (with_reducible rfl) | assumption | (simp; done) | (simp [*]; done) | split | (refine (foldl_fixed _ (fun _ _ => ?_) _ _).trans ?_) | (refine (foldl_fixed2 _ (fun _ _ => ?_) _ _).trans ?_) | (refine pair_fixed (by assumption) ?_) | (refine trip_fixed (by assumption) ?_) | (refine pair1_fixed (by assumption) ?_) | (dsimp only) | simp))

@[simp] theorem State.driveRun_fixed (s : State) (c : ℕ) (r : SpikeRun) (y3 : ℕ) : (State.driveRun s c r y3).2.fixed = s.fixed := by
  induction y3 generalizing s r with
  | zero => rfl
  | succ n ih =>
    have h := State.moveRun_fixed s c r
    unfold State.driveRun
    split
    · rename_i hm; rw [hm] at h; exact h
    · rename_i hm; rw [hm] at h
      split
      · exact h
      · exact (ih _ _).trans h

@[simp] theorem State.driveRuns_fixed (s : State) (c : ℕ) (y2 : List SpikeRun) : (State.driveRuns s c y2).2.fixed = s.fixed := by
  induction y2 generalizing s c with
  | nil => (unfold State.driveRuns; (repeat' (first | (with_reducible rfl) | assumption | (simp; done) | (simp [*]; done) | split | (refine (foldl_fixed _ (fun _ _ => ?_) _ _).trans ?_) | (refine (foldl_fixed2 _ (fun _ _ => ?_) _ _).trans ?_) | (refine pair_fixed (by assumption) ?_) | (refine trip_fixed (by assumption) ?_) | (refine pair1_fixed (by assumption) ?_) | (dsimp only) | simp)))
  | cons a1 t1 ih => (unfold State.driveRuns; (repeat' (first | (with_reducible rfl) | assumption | (simp; done) | (simp [*]; done) | split | (refine (foldl_fixed _ (fun _ _ => ?_) _ _).trans ?_) | (refine (foldl_fixed2 _ (fun _ _ => ?_) _ _).trans ?_) | (refine pair_fixed (by assumption) ?_) | (refine trip_fixed (by assumption) ?_) | (refine pair1_fixed (by assumption) ?_) | (dsimp only) | simp)))

@[simp] theorem State.refuseSpike_fixed (s : State) (c : ℕ) (pop : ℕ) :
    (State.refuseSpike s c pop).fixed = s.fixed := by
  simp [State.refuseSpike]

@[simp] theorem State.judgeSpike_fixed (s : State) (c : ℕ) (e : Event) :
    (State.judgeSpike s c e).fixed = s.fixed := by
  unfold State.judgeSpike; dsimp only; (repeat' split) <;> simp

@[simp] theorem State.performMark_fixed (s : State) (c : ℕ) (e : Event) : (State.performMark s c e).fixed = s.fixed := by
  unfold State.performMark
  first
    | rfl
    | (simp; done)
    | ((repeat' split) <;> simp; done)
    | (dsimp only; (repeat' split) <;> simp; done)
    | (repeat' (first | (with_reducible rfl) | assumption | (simp; done) | (simp [*]; done) | split | (refine (foldl_fixed _ (fun _ _ => ?_) _ _).trans ?_) | (refine (foldl_fixed2 _ (fun _ _ => ?_) _ _).trans ?_) | (refine pair_fixed (by assumption) ?_) | (refine trip_fixed (by assumption) ?_) | (refine pair1_fixed (by assumption) ?_) | (dsimp only) | simp))

@[simp] theorem State.driveAll_fixed (s : State) (c : Nat) : (State.driveAll s c).fixed = s.fixed := by
  unfold State.driveAll
  first
    | rfl
    | (simp; done)
    | ((repeat' split) <;> simp; done)
    | (dsimp only; (repeat' split) <;> simp; done)
    | (repeat' (first | (with_reducible rfl) | assumption | (simp; done) | (simp [*]; done) | split | (refine (foldl_fixed _ (fun _ _ => ?_) _ _).trans ?_) | (refine (foldl_fixed2 _ (fun _ _ => ?_) _ _).trans ?_) | (refine pair_fixed (by assumption) ?_) | (refine trip_fixed (by assumption) ?_) | (refine pair1_fixed (by assumption) ?_) | (dsimp only) | simp))

@[simp] theorem State.releaseSpikes_fixed (s : State) (c : Nat) (y0 : Nat) : (State.releaseSpikes s c y0).fixed = s.fixed := by
  induction y0 generalizing s c with
  | zero => (unfold State.releaseSpikes; (repeat' (first | (with_reducible rfl) | assumption | (simp; done) | (simp [*]; done) | split | (refine (foldl_fixed _ (fun _ _ => ?_) _ _).trans ?_) | (refine (foldl_fixed2 _ (fun _ _ => ?_) _ _).trans ?_) | (refine pair_fixed (by assumption) ?_) | (refine trip_fixed (by assumption) ?_) | (refine pair1_fixed (by assumption) ?_) | (dsimp only) | simp)))
  | succ n1 ih => (unfold State.releaseSpikes; (repeat' (first | (with_reducible rfl) | assumption | (simp; done) | (simp [*]; done) | split | (refine (foldl_fixed _ (fun _ _ => ?_) _ _).trans ?_) | (refine (foldl_fixed2 _ (fun _ _ => ?_) _ _).trans ?_) | (refine pair_fixed (by assumption) ?_) | (refine trip_fixed (by assumption) ?_) | (refine pair1_fixed (by assumption) ?_) | (dsimp only) | simp)))

@[simp] theorem State.finalStep_fixed (s : State) (r : StepRun) : (State.finalStep s r).fixed = s.fixed := by
  unfold State.finalStep
  first
    | rfl
    | (simp; done)
    | ((repeat' split) <;> simp; done)
    | (dsimp only; (repeat' split) <;> simp; done)
    | (repeat' (first | (with_reducible rfl) | assumption | (simp; done) | (simp [*]; done) | split | (refine (foldl_fixed _ (fun _ _ => ?_) _ _).trans ?_) | (refine (foldl_fixed2 _ (fun _ _ => ?_) _ _).trans ?_) | (refine pair_fixed (by assumption) ?_) | (refine trip_fixed (by assumption) ?_) | (refine pair1_fixed (by assumption) ?_) | (dsimp only) | simp))

@[simp] theorem State.endSteps_fixed (s : State) : (State.endSteps s).fixed = s.fixed := by
  unfold State.endSteps
  first
    | rfl
    | (simp; done)
    | ((repeat' split) <;> simp; done)
    | (dsimp only; (repeat' split) <;> simp; done)
    | (repeat' (first | (with_reducible rfl) | assumption | (simp; done) | (simp [*]; done) | split | (refine (foldl_fixed _ (fun _ _ => ?_) _ _).trans ?_) | (refine (foldl_fixed2 _ (fun _ _ => ?_) _ _).trans ?_) | (refine pair_fixed (by assumption) ?_) | (refine trip_fixed (by assumption) ?_) | (refine pair1_fixed (by assumption) ?_) | (dsimp only) | simp))

@[simp] theorem State.releaseMarks_fixed (s : State) (c : ℕ) (kept : List Event) (y3 : List Event) : (State.releaseMarks s c kept y3).fixed = s.fixed := by
  induction y3 generalizing s c kept with
  | nil => (unfold State.releaseMarks; (repeat' (first | (with_reducible rfl) | assumption | (simp; done) | (simp [*]; done) | split | (refine (foldl_fixed _ (fun _ _ => ?_) _ _).trans ?_) | (refine (foldl_fixed2 _ (fun _ _ => ?_) _ _).trans ?_) | (refine pair_fixed (by assumption) ?_) | (refine trip_fixed (by assumption) ?_) | (refine pair1_fixed (by assumption) ?_) | (dsimp only) | simp)))
  | cons a1 t1 ih => (unfold State.releaseMarks; (repeat' (first | (with_reducible rfl) | assumption | (simp; done) | (simp [*]; done) | split | (refine (foldl_fixed _ (fun _ _ => ?_) _ _).trans ?_) | (refine (foldl_fixed2 _ (fun _ _ => ?_) _ _).trans ?_) | (refine pair_fixed (by assumption) ?_) | (refine trip_fixed (by assumption) ?_) | (refine pair1_fixed (by assumption) ?_) | (dsimp only) | simp)))

@[simp] theorem State.moveDispatcher_fixed (s : State) (c : Nat) : (State.moveDispatcher s c).fixed = s.fixed := by
  unfold State.moveDispatcher
  first
    | rfl
    | (simp; done)
    | ((repeat' split) <;> simp; done)
    | (dsimp only; (repeat' split) <;> simp; done)
    | (repeat' (first | (with_reducible rfl) | assumption | (simp; done) | (simp [*]; done) | split | (refine (foldl_fixed _ (fun _ _ => ?_) _ _).trans ?_) | (refine (foldl_fixed2 _ (fun _ _ => ?_) _ _).trans ?_) | (refine pair_fixed (by assumption) ?_) | (refine trip_fixed (by assumption) ?_) | (refine pair1_fixed (by assumption) ?_) | (dsimp only) | simp))

@[simp] theorem State.moveRuns_fixed (s : State) : (State.moveRuns s).fixed = s.fixed := by
  unfold State.moveRuns
  first
    | rfl
    | (simp; done)
    | ((repeat' split) <;> simp; done)
    | (dsimp only; (repeat' split) <;> simp; done)
    | (repeat' (first | (with_reducible rfl) | assumption | (simp; done) | (simp [*]; done) | split | (refine (foldl_fixed _ (fun _ _ => ?_) _ _).trans ?_) | (refine (foldl_fixed2 _ (fun _ _ => ?_) _ _).trans ?_) | (refine pair_fixed (by assumption) ?_) | (refine trip_fixed (by assumption) ?_) | (refine pair1_fixed (by assumption) ?_) | (dsimp only) | simp))

@[simp] theorem State.takeEvent_fixed (s : State) (c : ℕ) (e : Event) :
    (State.takeEvent s c e).fixed = s.fixed := rfl

@[simp] theorem State.dispatch_fixed (s : State) (c : ℕ) (kind : ℕ) :
    (State.dispatch s c kind).fixed = s.fixed := by
  unfold State.dispatch; (repeat' split) <;> simp

@[simp] theorem State.evParity_fixed (s : State) (v : ℕ) : (State.evParity s v).fixed = s.fixed := rfl

@[simp] theorem State.eventIn_fixed (s : State) (v : ℕ) (w : BitVec 132) :
    (State.eventIn s v w).fixed = s.fixed := by
  unfold State.eventIn; dsimp only; (repeat' split) <;> simp

@[simp] theorem State.eventOut_fixed (s : State) (v : ℕ) : (State.eventOut s v).fixed = s.fixed := by
  unfold State.eventOut; (repeat' split) <;> simp

@[simp] theorem State.stepRowNext_fixed (s : State) (r : StepRun) (p : Pop) : (State.stepRowNext s r p).fixed = s.fixed := by
  unfold State.stepRowNext
  first
    | rfl
    | (simp; done)
    | ((repeat' split) <;> simp; done)
    | (dsimp only; (repeat' split) <;> simp; done)
    | (repeat' (first | (with_reducible rfl) | assumption | (simp; done) | (simp [*]; done) | split | (refine (foldl_fixed _ (fun _ _ => ?_) _ _).trans ?_) | (refine (foldl_fixed2 _ (fun _ _ => ?_) _ _).trans ?_) | (refine pair_fixed (by assumption) ?_) | (refine trip_fixed (by assumption) ?_) | (refine pair1_fixed (by assumption) ?_) | (dsimp only) | simp))

/-! ### CmdEvent -/

@[simp] theorem State.stagedLaps_fixed (s : State) (ps : List (ℕ × ℕ)) :
    (State.stagedLaps s ps).fixed = s.fixed := by
  simp [State.stagedLaps]

@[simp] theorem State.beginStaging_fixed (s : State) (token : ℕ) (c : Cmd) (unstage : Bool) :
    (State.beginStaging s token c unstage).fixed = s.fixed := rfl

@[simp] theorem State.copyGranule_fixed (s : State) (bank : ℕ) (b : BufRow) (toBuf : Bool) (g : ℕ) :
    (State.copyGranule s bank b toBuf g).fixed = s.fixed := by
  simp [State.copyGranule]

@[simp] theorem State.copyRows_fixed (s : State) (pop : ℕ) (banks : List ℕ) (toBuf : Bool) :
    (State.copyRows s pop banks toBuf).fixed = s.fixed := by
  unfold State.copyRows
  repeat' (first
    | (with_reducible rfl)
    | assumption
    | (simp; done)
    | (simp [*]; done)
    | split
    | (refine (foldl_fixed _ (fun _ _ => ?_) _ _).trans ?_)
    | (refine (foldl_fixed2 _ (fun _ _ => ?_) _ _).trans ?_)
    | (refine pair_fixed (by assumption) ?_)
    | (refine trip_fixed (by assumption) ?_)
    | (refine pair1_fixed (by assumption) ?_)
    | (dsimp only)
    | simp)

@[simp] theorem State.endStaging_fixed (s : State) (g : Staging) (r : Result) :
    (State.endStaging s g r).fixed = s.fixed := by
  simp [State.endStaging]

@[simp] theorem State.freeRows_fixed (s : State) (pop : ℕ) : (State.freeRows s pop).fixed = s.fixed := rfl

@[simp] theorem State.stageDone_fixed (s : State) (pop : ℕ) : (State.stageDone s pop).fixed =
    s.fixed := by
  unfold State.stageDone; (repeat' split) <;> simp

@[simp] theorem State.unstageDone_fixed (s : State) (pop : ℕ) : (State.unstageDone s pop).fixed =
    s.fixed := by
  unfold State.unstageDone; (repeat' split) <;> simp

@[simp] theorem State.endStep_fixed (s : State) (r : StepRun) (st : Option Status) : (State.endStep s r st).fixed = s.fixed := by
  unfold State.endStep
  first
    | rfl
    | (simp; done)
    | ((repeat' split) <;> simp; done)
    | (dsimp only; (repeat' split) <;> simp; done)
    | (repeat' (first | (with_reducible rfl) | assumption | (simp; done) | (simp [*]; done) | split | (refine (foldl_fixed _ (fun _ _ => ?_) _ _).trans ?_) | (refine (foldl_fixed2 _ (fun _ _ => ?_) _ _).trans ?_) | (refine pair_fixed (by assumption) ?_) | (refine trip_fixed (by assumption) ?_) | (refine pair1_fixed (by assumption) ?_) | (dsimp only) | simp))

@[simp] theorem State.stepRow_fixed (s : State) (pop : Nat) : (State.stepRow s pop).fixed = s.fixed := by
  unfold State.stepRow
  first
    | rfl
    | (simp; done)
    | ((repeat' split) <;> simp; done)
    | (dsimp only; (repeat' split) <;> simp; done)
    | (repeat' (first | (with_reducible rfl) | assumption | (simp; done) | (simp [*]; done) | split | (refine (foldl_fixed _ (fun _ _ => ?_) _ _).trans ?_) | (refine (foldl_fixed2 _ (fun _ _ => ?_) _ _).trans ?_) | (refine pair_fixed (by assumption) ?_) | (refine trip_fixed (by assumption) ?_) | (refine pair1_fixed (by assumption) ?_) | (dsimp only) | simp))

@[simp] theorem State.stepComplete_fixed (s : State) (pop : Nat) : (State.stepComplete s pop).fixed = s.fixed := by
  unfold State.stepComplete
  first
    | rfl
    | (simp; done)
    | ((repeat' split) <;> simp; done)
    | (dsimp only; (repeat' split) <;> simp; done)
    | (repeat' (first | (with_reducible rfl) | assumption | (simp; done) | (simp [*]; done) | split | (refine (foldl_fixed _ (fun _ _ => ?_) _ _).trans ?_) | (refine (foldl_fixed2 _ (fun _ _ => ?_) _ _).trans ?_) | (refine pair_fixed (by assumption) ?_) | (refine trip_fixed (by assumption) ?_) | (refine pair1_fixed (by assumption) ?_) | (dsimp only) | simp))

/-! ### CmdLink -/

@[simp] theorem State.chipIdSet_fixed (s : State) (chip : ℕ) (incarn : BitVec 4) :
    (State.chipIdSet s chip incarn).fixed = s.fixed := by
  unfold State.chipIdSet
  repeat' (first
    | (with_reducible rfl)
    | assumption
    | (simp; done)
    | (simp [*]; done)
    | split
    | (refine (foldl_fixed _ (fun _ _ => ?_) _ _).trans ?_)
    | (refine (foldl_fixed2 _ (fun _ _ => ?_) _ _).trans ?_)
    | (refine pair_fixed (by assumption) ?_)
    | (refine trip_fixed (by assumption) ?_)
    | (refine pair1_fixed (by assumption) ?_)
    | (dsimp only)
    | simp)

@[simp] theorem State.beginLinkReset_fixed (s : State) (n : ℕ) (token : ℕ) (c : Cmd) :
    (State.beginLinkReset s n token c).fixed = s.fixed := by
  unfold State.beginLinkReset
  repeat' (first
    | (with_reducible rfl)
    | assumption
    | (simp; done)
    | (simp [*]; done)
    | split
    | (refine (foldl_fixed _ (fun _ _ => ?_) _ _).trans ?_)
    | (refine (foldl_fixed2 _ (fun _ _ => ?_) _ _).trans ?_)
    | (refine pair_fixed (by assumption) ?_)
    | (refine trip_fixed (by assumption) ?_)
    | (refine pair1_fixed (by assumption) ?_)
    | (dsimp only)
    | simp)

@[simp] theorem State.linkResetComplete_fixed (s : State) (n : ℕ) :
    (State.linkResetComplete s n).fixed = s.fixed := by
  unfold State.linkResetComplete; (repeat' split) <;> simp

/-! ### Drover -/

@[simp] theorem State.queueJob_fixed (s : State) (j : Job) : (State.queueJob s j).fixed = s.fixed := rfl

@[simp] theorem State.onJob_fixed (s : State) (id : ℕ) (f : Job → Job) : (State.onJob s id f).fixed
    = s.fixed := rfl

@[simp] theorem State.dropJob_fixed (s : State) (id : ℕ) : (State.dropJob s id).fixed = s.fixed := rfl

@[simp] theorem State.dropEvacRow_fixed (s : State) (bank : ℕ) : (State.dropEvacRow s bank).fixed = s.fixed := by
  unfold State.dropEvacRow
  first
    | rfl
    | (simp; done)
    | ((repeat' split) <;> simp; done)
    | (dsimp only; (repeat' split) <;> simp; done)
    | (repeat' (first | (with_reducible rfl) | assumption | (simp; done) | (simp [*]; done) | split | (refine (foldl_fixed _ (fun _ _ => ?_) _ _).trans ?_) | (refine (foldl_fixed2 _ (fun _ _ => ?_) _ _).trans ?_) | (refine pair_fixed (by assumption) ?_) | (refine trip_fixed (by assumption) ?_) | (refine pair1_fixed (by assumption) ?_) | (dsimp only) | simp))

@[simp] theorem State.stopEvac_fixed (s : State) (c : ℕ) : (State.stopEvac s c).fixed = s.fixed := by
  unfold State.stopEvac; split <;> simp

@[simp] theorem State.endJob_fixed (s : State) (j : Job) (r : Result) : (State.endJob s j r).fixed =
    s.fixed := by
  unfold State.endJob; (repeat' split) <;> simp

@[simp] theorem State.endJobNow_fixed (s : State) (j : Job) (st : Status) : (State.endJobNow s j st).fixed = s.fixed := by
  unfold State.endJobNow
  first
    | rfl
    | (simp; done)
    | ((repeat' split) <;> simp; done)
    | (dsimp only; (repeat' split) <;> simp; done)
    | (repeat' (first | (with_reducible rfl) | assumption | (simp; done) | (simp [*]; done) | split | (refine (foldl_fixed _ (fun _ _ => ?_) _ _).trans ?_) | (refine (foldl_fixed2 _ (fun _ _ => ?_) _ _).trans ?_) | (refine pair_fixed (by assumption) ?_) | (refine trip_fixed (by assumption) ?_) | (refine pair1_fixed (by assumption) ?_) | (dsimp only) | simp))

@[simp] theorem State.stopJob_fixed (s : State) (j : Job) (st : Status) :
    (State.stopJob s j st).fixed = s.fixed := by
  simp [State.stopJob]

@[simp] theorem State.takeSpare_fixed (s : State) (j : Job) : (State.takeSpare s j).fixed = s.fixed := by
  unfold State.takeSpare; split <;> simp

@[simp] theorem State.jobStart_fixed (s : State) (inBank : Bool) : (State.jobStart s inBank).fixed =
    s.fixed := by
  unfold State.jobStart; (repeat' split) <;> simp

@[simp] theorem State.failJob_fixed (s : State) (j : Job) (addr : ℕ) (st : Status) : (State.failJob s j addr st).fixed = s.fixed := by
  unfold State.failJob
  first
    | rfl
    | (simp; done)
    | ((repeat' split) <;> simp; done)
    | (dsimp only; (repeat' split) <;> simp; done)
    | (repeat' (first | (with_reducible rfl) | assumption | (simp; done) | (simp [*]; done) | split | (refine (foldl_fixed _ (fun _ _ => ?_) _ _).trans ?_) | (refine (foldl_fixed2 _ (fun _ _ => ?_) _ _).trans ?_) | (refine pair_fixed (by assumption) ?_) | (refine trip_fixed (by assumption) ?_) | (refine pair1_fixed (by assumption) ?_) | (dsimp only) | simp))

@[simp] theorem State.wroteRow_fixed (s : State) (j : Job) (n : ℕ) (m : ℕ) (rs : List Resp) : (State.wroteRow s j n m rs).fixed = s.fixed := by
  unfold State.wroteRow
  first
    | rfl
    | (simp; done)
    | ((repeat' split) <;> simp; done)
    | (dsimp only; (repeat' split) <;> simp; done)
    | (repeat' (first | (with_reducible rfl) | assumption | (simp; done) | (simp [*]; done) | split | (refine (foldl_fixed _ (fun _ _ => ?_) _ _).trans ?_) | (refine (foldl_fixed2 _ (fun _ _ => ?_) _ _).trans ?_) | (refine pair_fixed (by assumption) ?_) | (refine trip_fixed (by assumption) ?_) | (refine pair1_fixed (by assumption) ?_) | (dsimp only) | simp))

@[simp] theorem State.jobGoes_fixed (s : State) (id : ℕ) (next : State → Job → State) (hnext : ∀ s0 x0, (next s0 x0).fixed = s0.fixed) : (State.jobGoes s id next).fixed = s.fixed := by
  unfold State.jobGoes
  first
    | rfl
    | (simp; done)
    | ((repeat' split) <;> simp; done)
    | (dsimp only; (repeat' split) <;> simp; done)
    | (repeat' (first | (with_reducible rfl) | assumption | (simp; done) | (simp [*]; done) | split | (refine (foldl_fixed _ (fun _ _ => ?_) _ _).trans ?_) | (refine (foldl_fixed2 _ (fun _ _ => ?_) _ _).trans ?_) | (refine pair_fixed (by assumption) ?_) | (refine trip_fixed (by assumption) ?_) | (refine pair1_fixed (by assumption) ?_) | (dsimp only) | simp))

@[simp] theorem State.readAway_fixed (s : State) (j : Job) (w : ℕ) (a : ℕ) (n : ℕ) :
    (State.readAway s j w a n).fixed = s.fixed := by
  simp [State.readAway]

@[simp] theorem State.writeAway_fixed (s : State) (j : Job) (w : ℕ) (a : ℕ) (n : ℕ)
    (bs : List (Byte × Bool)) : (State.writeAway s j w a n bs).fixed = s.fixed := by
  simp [State.writeAway]

@[simp] theorem State.readHere_fixed (s : State) (j : Job) (x : Side) (y : Side) (r : Region) (a : ℕ) (n : ℕ) : (State.readHere s j x y r a n).fixed = s.fixed := by
  unfold State.readHere
  first
    | rfl
    | (simp; done)
    | ((repeat' split) <;> simp; done)
    | (dsimp only; (repeat' split) <;> simp; done)
    | (repeat' (first | (with_reducible rfl) | assumption | (simp; done) | (simp [*]; done) | split | (refine (foldl_fixed _ (fun _ _ => ?_) _ _).trans ?_) | (refine (foldl_fixed2 _ (fun _ _ => ?_) _ _).trans ?_) | (refine pair_fixed (by assumption) ?_) | (refine trip_fixed (by assumption) ?_) | (refine pair1_fixed (by assumption) ?_) | (dsimp only) | simp))

@[simp] theorem State.writeHere_fixed (s : State) (j : Job) (y : Side) (b : ℕ) (n : ℕ) (m : ℕ) (xs : List Piece) : (State.writeHere s j y b n m xs).fixed = s.fixed := by
  unfold State.writeHere
  first
    | rfl
    | (simp; done)
    | ((repeat' split) <;> simp; done)
    | (dsimp only; (repeat' split) <;> simp; done)
    | (repeat' (first | (with_reducible rfl) | assumption | (simp; done) | (simp [*]; done) | split | (refine (foldl_fixed _ (fun _ _ => ?_) _ _).trans ?_) | (refine (foldl_fixed2 _ (fun _ _ => ?_) _ _).trans ?_) | (refine pair_fixed (by assumption) ?_) | (refine trip_fixed (by assumption) ?_) | (refine pair1_fixed (by assumption) ?_) | (dsimp only) | simp))

@[simp] theorem State.deliver_fixed (s : State) (j : Job) (x : Side) (y : Side) : (State.deliver s j x y).fixed = s.fixed := by
  unfold State.deliver
  first
    | rfl
    | (simp; done)
    | ((repeat' split) <;> simp; done)
    | (dsimp only; (repeat' split) <;> simp; done)
    | (repeat' (first | (with_reducible rfl) | assumption | (simp; done) | (simp [*]; done) | split | (refine (foldl_fixed _ (fun _ _ => ?_) _ _).trans ?_) | (refine (foldl_fixed2 _ (fun _ _ => ?_) _ _).trans ?_) | (refine pair_fixed (by assumption) ?_) | (refine trip_fixed (by assumption) ?_) | (refine pair1_fixed (by assumption) ?_) | (dsimp only) | simp))

@[simp] theorem State.crossNext_fixed (s : State) (j : Job) : (State.crossNext s j).fixed = s.fixed := by
  unfold State.crossNext
  first
    | rfl
    | (simp; done)
    | ((repeat' split) <;> simp; done)
    | (dsimp only; (repeat' split) <;> simp; done)
    | (repeat' (first | (with_reducible rfl) | assumption | (simp; done) | (simp [*]; done) | split | (refine (foldl_fixed _ (fun _ _ => ?_) _ _).trans ?_) | (refine (foldl_fixed2 _ (fun _ _ => ?_) _ _).trans ?_) | (refine pair_fixed (by assumption) ?_) | (refine trip_fixed (by assumption) ?_) | (refine pair1_fixed (by assumption) ?_) | (dsimp only) | simp))

@[simp] theorem State.rowRead_fixed (s : State) (j : Job) (req : ℕ) (n : ℕ) (rs : List Resp) : (State.rowRead s j req n rs).fixed = s.fixed := by
  unfold State.rowRead
  first
    | rfl
    | (simp; done)
    | ((repeat' split) <;> simp; done)
    | (dsimp only; (repeat' split) <;> simp; done)
    | (repeat' (first | (with_reducible rfl) | assumption | (simp; done) | (simp [*]; done) | split | (refine (foldl_fixed _ (fun _ _ => ?_) _ _).trans ?_) | (refine (foldl_fixed2 _ (fun _ _ => ?_) _ _).trans ?_) | (refine pair_fixed (by assumption) ?_) | (refine trip_fixed (by assumption) ?_) | (refine pair1_fixed (by assumption) ?_) | (dsimp only) | simp))

@[simp] theorem State.rowWritten_fixed (s : State) (j : Job) (req : ℕ) (n : ℕ) (m : ℕ) (rs : List Resp) (next : State → Job → State) (hnext : ∀ s0 x0, (next s0 x0).fixed = s0.fixed) : (State.rowWritten s j req n m rs next).fixed = s.fixed := by
  unfold State.rowWritten
  first
    | rfl
    | (simp; done)
    | ((repeat' split) <;> simp; done)
    | (dsimp only; (repeat' split) <;> simp; done)
    | (repeat' (first | (with_reducible rfl) | assumption | (simp; done) | (simp [*]; done) | split | (refine (foldl_fixed _ (fun _ _ => ?_) _ _).trans ?_) | (refine (foldl_fixed2 _ (fun _ _ => ?_) _ _).trans ?_) | (refine pair_fixed (by assumption) ?_) | (refine trip_fixed (by assumption) ?_) | (refine pair1_fixed (by assumption) ?_) | (dsimp only) | simp))

@[simp] theorem State.crossRow_fixed (s : State) (j : Job) : (State.crossRow s j).fixed = s.fixed := by
  unfold State.crossRow
  first
    | rfl
    | (simp; done)
    | ((repeat' split) <;> simp; done)
    | (dsimp only; (repeat' split) <;> simp; done)
    | (repeat' (first | (with_reducible rfl) | assumption | (simp; done) | (simp [*]; done) | split | (refine (foldl_fixed _ (fun _ _ => ?_) _ _).trans ?_) | (refine (foldl_fixed2 _ (fun _ _ => ?_) _ _).trans ?_) | (refine pair_fixed (by assumption) ?_) | (refine trip_fixed (by assumption) ?_) | (refine pair1_fixed (by assumption) ?_) | (dsimp only) | simp))

@[simp] theorem State.fillNext_fixed (s : State) (j : Job) : (State.fillNext s j).fixed = s.fixed := by
  unfold State.fillNext
  first
    | rfl
    | (simp; done)
    | ((repeat' split) <;> simp; done)
    | (dsimp only; (repeat' split) <;> simp; done)
    | (repeat' (first | (with_reducible rfl) | assumption | (simp; done) | (simp [*]; done) | split | (refine (foldl_fixed _ (fun _ _ => ?_) _ _).trans ?_) | (refine (foldl_fixed2 _ (fun _ _ => ?_) _ _).trans ?_) | (refine pair_fixed (by assumption) ?_) | (refine trip_fixed (by assumption) ?_) | (refine pair1_fixed (by assumption) ?_) | (dsimp only) | simp))

@[simp] theorem State.fillStep_fixed (s : State) (j : Job) : (State.fillStep s j).fixed = s.fixed := by
  unfold State.fillStep
  first
    | rfl
    | (simp; done)
    | ((repeat' split) <;> simp; done)
    | (dsimp only; (repeat' split) <;> simp; done)
    | (repeat' (first | (with_reducible rfl) | assumption | (simp; done) | (simp [*]; done) | split | (refine (foldl_fixed _ (fun _ _ => ?_) _ _).trans ?_) | (refine (foldl_fixed2 _ (fun _ _ => ?_) _ _).trans ?_) | (refine pair_fixed (by assumption) ?_) | (refine trip_fixed (by assumption) ?_) | (refine pair1_fixed (by assumption) ?_) | (dsimp only) | simp))

@[simp] theorem State.evacGranule_fixed (s : State) (bank : ℕ) (spare : ℕ) (row : ℕ)
    (buf : Option ℕ) (g : ℕ) : (State.evacGranule s bank spare row buf g).fixed = s.fixed := by
  simp [State.evacGranule]

@[simp] theorem State.askEvac_fixed (s : State) (c : ℕ) : (State.askEvac s c).fixed = s.fixed := by
  unfold State.askEvac
  first
    | rfl
    | (simp; done)
    | ((repeat' split) <;> simp; done)
    | (dsimp only; (repeat' split) <;> simp; done)
    | (repeat' (first | (with_reducible rfl) | assumption | (simp; done) | (simp [*]; done) | split | (refine (foldl_fixed _ (fun _ _ => ?_) _ _).trans ?_) | (refine (foldl_fixed2 _ (fun _ _ => ?_) _ _).trans ?_) | (refine pair_fixed (by assumption) ?_) | (refine trip_fixed (by assumption) ?_) | (refine pair1_fixed (by assumption) ?_) | (dsimp only) | simp))

@[simp] theorem State.copyRow_fixed (s : State) (c : ℕ) (e : EvacRun) (row : ℕ) (buf : Option ℕ) : (State.copyRow s c e row buf).fixed = s.fixed := by
  unfold State.copyRow
  first
    | rfl
    | (simp; done)
    | ((repeat' split) <;> simp; done)
    | (dsimp only; (repeat' split) <;> simp; done)
    | (repeat' (first | (with_reducible rfl) | assumption | (simp; done) | (simp [*]; done) | split | (refine (foldl_fixed _ (fun _ _ => ?_) _ _).trans ?_) | (refine (foldl_fixed2 _ (fun _ _ => ?_) _ _).trans ?_) | (refine pair_fixed (by assumption) ?_) | (refine trip_fixed (by assumption) ?_) | (refine pair1_fixed (by assumption) ?_) | (dsimp only) | simp))

@[simp] theorem State.evacRow_fixed (s : State) (c : ℕ) : (State.evacRow s c).fixed = s.fixed := by
  unfold State.evacRow
  first
    | rfl
    | (simp; done)
    | ((repeat' split) <;> simp; done)
    | (dsimp only; (repeat' split) <;> simp; done)
    | (repeat' (first | (with_reducible rfl) | assumption | (simp; done) | (simp [*]; done) | split | (refine (foldl_fixed _ (fun _ _ => ?_) _ _).trans ?_) | (refine (foldl_fixed2 _ (fun _ _ => ?_) _ _).trans ?_) | (refine pair_fixed (by assumption) ?_) | (refine trip_fixed (by assumption) ?_) | (refine pair1_fixed (by assumption) ?_) | (dsimp only) | simp))

@[simp] theorem State.drvRow_fixed (s : State) (inBank : Bool) : (State.drvRow s inBank).fixed =
    s.fixed := by
  unfold State.drvRow; (repeat' split) <;> simp

@[simp] theorem State.jobComplete_fixed (s : State) (inBank : Bool) :
    (State.jobComplete s inBank).fixed = s.fixed := by
  unfold State.jobComplete
  repeat' (first
    | (with_reducible rfl)
    | assumption
    | (simp; done)
    | (simp [*]; done)
    | split
    | (refine (foldl_fixed _ (fun _ _ => ?_) _ _).trans ?_)
    | (refine (foldl_fixed2 _ (fun _ _ => ?_) _ _).trans ?_)
    | (refine pair_fixed (by assumption) ?_)
    | (refine trip_fixed (by assumption) ?_)
    | (refine pair1_fixed (by assumption) ?_)
    | (dsimp only)
    | simp)

/-! ### CmdInteg -/

@[simp] theorem State.bistEvent_fixed (s : State) (i : ℕ) (c : ℕ) (slot : ℕ) :
    (State.bistEvent s i c slot).fixed = s.fixed := rfl

@[simp] theorem State.chargeArray_fixed (s : State) (c : ℕ) (n : ℕ) :
    (State.chargeArray s c n).fixed = s.fixed := by
  simp [State.chargeArray]

@[simp] theorem State.scrubSet_fixed (s : State) (en : Bool) (interval : BitVec 24) (g : ℕ) :
    (State.scrubSet s en interval g).fixed = s.fixed := rfl

@[simp] theorem State.putArray_fixed (s : State) (bank row g : Nat) (w : List Nat) : (State.putArray s bank row g w).fixed = s.fixed := by
  unfold State.putArray
  first
    | rfl
    | (simp; done)
    | ((repeat' split) <;> simp; done)
    | (dsimp only; (repeat' split) <;> simp; done)
    | (repeat' (first | (with_reducible rfl) | assumption | (simp; done) | (simp [*]; done) | split | (refine (foldl_fixed _ (fun _ _ => ?_) _ _).trans ?_) | (refine (foldl_fixed2 _ (fun _ _ => ?_) _ _).trans ?_) | (refine pair_fixed (by assumption) ?_) | (refine trip_fixed (by assumption) ?_) | (refine pair1_fixed (by assumption) ?_) | (dsimp only) | simp))

@[simp] theorem State.remap_fixed (s : State) (g : ℕ) (row : ℕ) (f : Slot → Slot) :
    (State.remap s g row f).fixed = s.fixed := by
  unfold State.remap
  repeat' (first
    | (with_reducible rfl)
    | assumption
    | (simp; done)
    | (simp [*]; done)
    | split
    | (refine (foldl_fixed _ (fun _ _ => ?_) _ _).trans ?_)
    | (refine (foldl_fixed2 _ (fun _ _ => ?_) _ _).trans ?_)
    | (refine pair_fixed (by assumption) ?_)
    | (refine trip_fixed (by assumption) ?_)
    | (refine pair1_fixed (by assumption) ?_)
    | (dsimp only)
    | simp)

@[simp] theorem State.installPatch_fixed (s : State) (g : ℕ) (i : ℕ) (e : BitVec 32) :
    (State.installPatch s g i e).fixed = s.fixed := by
  simp [State.installPatch]

@[simp] theorem State.removePatch_fixed (s : State) (g : ℕ) (i : ℕ) :
    (State.removePatch s g i).fixed = s.fixed := by
  simp [State.removePatch]

@[simp] theorem State.retireLane_fixed (s : State) (g : ℕ) (lane : ℕ) :
    (State.retireLane s g lane).fixed = s.fixed := by
  unfold State.retireLane; dsimp only; (repeat' split) <;> simp

@[simp] theorem State.returnLane_fixed (s : State) (g : ℕ) (lane : ℕ) :
    (State.returnLane s g lane).fixed = s.fixed := rfl

@[simp] theorem State.armFlip_fixed (s : State) (c : ℕ) (m : BitVec 288) :
    (State.armFlip s c m).fixed = s.fixed := rfl

@[simp] theorem State.startTest_fixed (s : State) (c : ℕ) (slot : ℕ) (test : ℕ) (next : Option ℕ)
    (who : Option (ℕ × Cmd)) : (State.startTest s c slot test next who).fixed = s.fixed := rfl

@[simp] theorem State.logSlot_fixed (s : State) (code : ℕ) (c : ℕ) (slot : ℕ) :
    (State.logSlot s code c slot).fixed = s.fixed := by
  simp [State.logSlot]

@[simp] theorem State.takeoverLanes_fixed (s : State) (g : ℕ) (slot : ℕ) :
    (State.takeoverLanes s g slot).fixed = s.fixed := by
  unfold State.takeoverLanes
  repeat' (first
    | (with_reducible rfl)
    | assumption
    | (simp; done)
    | (simp [*]; done)
    | split
    | (refine (foldl_fixed _ (fun _ _ => ?_) _ _).trans ?_)
    | (refine (foldl_fixed2 _ (fun _ _ => ?_) _ _).trans ?_)
    | (refine pair_fixed (by assumption) ?_)
    | (refine trip_fixed (by assumption) ?_)
    | (refine pair1_fixed (by assumption) ?_)
    | (dsimp only)
    | simp)

@[simp] theorem State.freeBank_fixed (s : State) (g : ℕ) : (State.freeBank s g).fixed = s.fixed := rfl

@[simp] theorem State.openReads_fixed (s : State) (g : ℕ) : (State.openReads s g).fixed = s.fixed := by
  unfold State.openReads
  first
    | rfl
    | (simp; done)
    | ((repeat' split) <;> simp; done)
    | (dsimp only; (repeat' split) <;> simp; done)
    | (repeat' (first | (with_reducible rfl) | assumption | (simp; done) | (simp [*]; done) | split | (refine (foldl_fixed _ (fun _ _ => ?_) _ _).trans ?_) | (refine (foldl_fixed2 _ (fun _ _ => ?_) _ _).trans ?_) | (refine pair_fixed (by assumption) ?_) | (refine trip_fixed (by assumption) ?_) | (refine pair1_fixed (by assumption) ?_) | (dsimp only) | simp))

@[simp] theorem State.moveBank_fixed (s : State) (g : ℕ) (spare : ℕ) :
    (State.moveBank s g spare).fixed = s.fixed := by
  simp [State.moveBank]

@[simp] theorem State.takeover_fixed (s : State) (c : ℕ) : (State.takeover s c).fixed = s.fixed := by
  unfold State.takeover; (repeat' split) <;> simp

@[simp] theorem State.bankOut_fixed (s : State) (g : ℕ) : (State.bankOut s g).fixed = s.fixed := by
  simp [State.bankOut]

@[simp] theorem State.cutTest_fixed (s : State) (c : ℕ) (st : Status) : (State.cutTest s c st).fixed
    = s.fixed := by
  unfold State.cutTest; (repeat' split) <;> simp

@[simp] theorem State.zeroSlot_fixed (s : State) (k : ℕ) (g : ℕ) : (State.zeroSlot s k g).fixed =
    s.fixed := rfl

@[simp] theorem State.noteTest_fixed (s : State) (c : ℕ) (r : TestRun) (f : BistFound) :
    (State.noteTest s c r f).fixed = s.fixed := rfl

@[simp] theorem State.endTest_fixed (s : State) (c : ℕ) (r : TestRun) (f : BistFound) :
    (State.endTest s c r f).fixed = s.fixed := by
  unfold State.endTest; split <;> simp

@[simp] theorem State.bistEnd_fixed (s : State) (c : ℕ) (f : BistFound) :
    (State.bistEnd s c f).fixed = s.fixed := by
  unfold State.bistEnd; (repeat' split) <;> simp

@[simp] theorem State.lapEnd_fixed (s : State) (g : ℕ) : (State.lapEnd s g).fixed = s.fixed := rfl

@[simp] theorem State.scrubGranule_fixed (s : State) (g : ℕ) (row : ℕ) (i : ℕ) :
    (State.scrubGranule s g row i).fixed = s.fixed := by
  simp [State.scrubGranule]

@[simp] theorem State.scrubRead'_fixed (s : State) (g : ℕ) (row : ℕ) :
    (State.scrubRead' s g row).fixed = s.fixed := by
  unfold State.scrubRead'; dsimp only; (repeat' split) <;> simp

@[simp] theorem State.scrubAt_fixed (s : State) (g : ℕ) (row : ℕ) : (State.scrubAt s g row).fixed = s.fixed := by
  unfold State.scrubAt
  first
    | rfl
    | (simp; done)
    | ((repeat' split) <;> simp; done)
    | (dsimp only; (repeat' split) <;> simp; done)
    | (repeat' (first | (with_reducible rfl) | assumption | (simp; done) | (simp [*]; done) | split | (refine (foldl_fixed _ (fun _ _ => ?_) _ _).trans ?_) | (refine (foldl_fixed2 _ (fun _ _ => ?_) _ _).trans ?_) | (refine pair_fixed (by assumption) ?_) | (refine trip_fixed (by assumption) ?_) | (refine pair1_fixed (by assumption) ?_) | (dsimp only) | simp))

@[simp] theorem State.scrubRead_fixed (s : State) (c : ℕ) (b : ℕ) : (State.scrubRead s c b).fixed =
    s.fixed := by
  unfold State.scrubRead; dsimp only; (repeat' split) <;> simp

@[simp] theorem State.putBack_fixed (s : State) (g : Nat) (w : WriteBack) : (State.putBack s g w).fixed = s.fixed := by
  unfold State.putBack
  first
    | rfl
    | (simp; done)
    | ((repeat' split) <;> simp; done)
    | (dsimp only; (repeat' split) <;> simp; done)
    | (repeat' (first | (with_reducible rfl) | assumption | (simp; done) | (simp [*]; done) | split | (refine (foldl_fixed _ (fun _ _ => ?_) _ _).trans ?_) | (refine (foldl_fixed2 _ (fun _ _ => ?_) _ _).trans ?_) | (refine pair_fixed (by assumption) ?_) | (refine trip_fixed (by assumption) ?_) | (refine pair1_fixed (by assumption) ?_) | (dsimp only) | simp))

@[simp] theorem State.scrubWriteBack_fixed (s : State) (c b : Nat) : (State.scrubWriteBack s c b).fixed = s.fixed := by
  unfold State.scrubWriteBack
  first
    | rfl
    | (simp; done)
    | ((repeat' split) <;> simp; done)
    | (dsimp only; (repeat' split) <;> simp; done)
    | (repeat' (first | (with_reducible rfl) | assumption | (simp; done) | (simp [*]; done) | split | (refine (foldl_fixed _ (fun _ _ => ?_) _ _).trans ?_) | (refine (foldl_fixed2 _ (fun _ _ => ?_) _ _).trans ?_) | (refine pair_fixed (by assumption) ?_) | (refine trip_fixed (by assumption) ?_) | (refine pair1_fixed (by assumption) ?_) | (dsimp only) | simp))

@[simp] theorem State.clogPop_fixed (s : State) (c : ℕ) : (State.clogPop s c).fixed = s.fixed := rfl

/-! ### Governor -/

@[simp] theorem State.setTmax_fixed (s : State) (t : ℕ) : (State.setTmax s t).fixed = s.fixed := by
  simp [State.setTmax]

@[simp] theorem State.replaceFailed_fixed (s : State) : (State.replaceFailed s).fixed = s.fixed := by
  unfold State.replaceFailed
  first
    | rfl
    | (simp; done)
    | ((repeat' split) <;> simp; done)
    | (dsimp only; (repeat' split) <;> simp; done)
    | (repeat' (first | (with_reducible rfl) | assumption | (simp; done) | (simp [*]; done) | split | (refine (foldl_fixed _ (fun _ _ => ?_) _ _).trans ?_) | (refine (foldl_fixed2 _ (fun _ _ => ?_) _ _).trans ?_) | (refine pair_fixed (by assumption) ?_) | (refine trip_fixed (by assumption) ?_) | (refine pair1_fixed (by assumption) ?_) | (dsimp only) | simp))

@[simp] theorem State.sensorRead_fixed (s : State) (rs : List (ℕ × ℤ)) : (State.sensorRead s rs).fixed = s.fixed := by
  unfold State.sensorRead
  first
    | rfl
    | (simp; done)
    | ((repeat' split) <;> simp; done)
    | (dsimp only; (repeat' split) <;> simp; done)
    | (repeat' (first | (with_reducible rfl) | assumption | (simp; done) | (simp [*]; done) | split | (refine (foldl_fixed _ (fun _ _ => ?_) _ _).trans ?_) | (refine (foldl_fixed2 _ (fun _ _ => ?_) _ _).trans ?_) | (refine pair_fixed (by assumption) ?_) | (refine trip_fixed (by assumption) ?_) | (refine pair1_fixed (by assumption) ?_) | (dsimp only) | simp))

@[simp] theorem State.shedOne_fixed (s : State) (x : ShedStep) : (State.shedOne s x).fixed = s.fixed := by
  simp [State.shedOne]

@[simp] theorem State.shedMore_fixed (s : State) (y1 : ℕ) : (State.shedMore s y1).fixed = s.fixed := by
  induction y1 generalizing s with
  | zero => (unfold State.shedMore; (repeat' (first | (with_reducible rfl) | assumption | (simp; done) | (simp [*]; done) | split | (refine (foldl_fixed _ (fun _ _ => ?_) _ _).trans ?_) | (refine (foldl_fixed2 _ (fun _ _ => ?_) _ _).trans ?_) | (refine pair_fixed (by assumption) ?_) | (refine trip_fixed (by assumption) ?_) | (refine pair1_fixed (by assumption) ?_) | (dsimp only) | simp)))
  | succ n1 ih => (unfold State.shedMore; (repeat' (first | (with_reducible rfl) | assumption | (simp; done) | (simp [*]; done) | split | (refine (foldl_fixed _ (fun _ _ => ?_) _ _).trans ?_) | (refine (foldl_fixed2 _ (fun _ _ => ?_) _ _).trans ?_) | (refine pair_fixed (by assumption) ?_) | (refine trip_fixed (by assumption) ?_) | (refine pair1_fixed (by assumption) ?_) | (dsimp only) | simp)))

@[simp] theorem State.shedStart_fixed (s : State) (over_ : Bool) : (State.shedStart s over_).fixed =
    s.fixed := by
  unfold State.shedStart; (repeat' split) <;> simp

@[simp] theorem State.restoreStart_fixed (s : State) : (State.restoreStart s).fixed = s.fixed := by
  unfold State.restoreStart; (repeat' split) <;> simp

@[simp] theorem State.closeWindow_fixed (s : State) : (State.closeWindow s).fixed = s.fixed := rfl

@[simp] theorem State.ageJobs_fixed (s : State) : (State.ageJobs s).fixed = s.fixed := rfl

@[simp] theorem State.seeWindow_fixed (s : State) : (State.seeWindow s).fixed = s.fixed := by
  unfold State.seeWindow
  first
    | rfl
    | (simp; done)
    | ((repeat' split) <;> simp; done)
    | (dsimp only; (repeat' split) <;> simp; done)
    | (repeat' (first | (with_reducible rfl) | assumption | (simp; done) | (simp [*]; done) | split | (refine (foldl_fixed _ (fun _ _ => ?_) _ _).trans ?_) | (refine (foldl_fixed2 _ (fun _ _ => ?_) _ _).trans ?_) | (refine pair_fixed (by assumption) ?_) | (refine trip_fixed (by assumption) ?_) | (refine pair1_fixed (by assumption) ?_) | (dsimp only) | simp))

@[simp] theorem State.windowStart_fixed (s : State) : (State.windowStart s).fixed = s.fixed := by
  simp [State.windowStart]

@[simp] theorem State.bellChange_fixed (s : State) (n : ℕ) (level : ℕ) :
    (State.bellChange s n level).fixed = s.fixed := by
  simp [State.bellChange]

/-! ### Time -/

@[simp] theorem State.addTime_fixed (s : State) (d : ℤ) : (State.addTime s d).fixed = s.fixed := rfl

@[simp] theorem State.ackTime_fixed (s : State) : (State.ackTime s).fixed = s.fixed := by
  simp [State.ackTime]

@[simp] theorem State.restartClocks_fixed (s : State) (frequency : Bool) :
    (State.restartClocks s frequency).fixed = s.fixed := by
  unfold State.restartClocks
  extract_lets n k s1 s2 s3
  have h1 : s1.fixed = s.fixed := rfl
  have h2 : s2.fixed = s.fixed := by simp only [s2]; split <;> simp [h1]
  have h3 : s3.fixed = s.fixed := by
    simp only [s3]; split
    · rw [State.onTime_fixed]; exact h2
    · rw [State.onTime_fixed, State.addTime_fixed]; exact h2
  clear_value s1 s2 s3
  rw [State.windowStart_fixed, State.onGov_fixed, State.onTime_fixed]; exact h3

@[simp] theorem State.stopClocks_fixed (s : State) : (State.stopClocks s).fixed = s.fixed := rfl

@[simp] theorem State.tsyncOut_fixed (s : State) : (State.tsyncOut s).fixed = s.fixed := by
  simp [State.tsyncOut]

@[simp] theorem State.tsyncCorrect_fixed (s : State) (e : ℤ) : (State.tsyncCorrect s e).fixed =
    s.fixed := by
  simp [State.tsyncCorrect]

@[simp] theorem State.tsyncLock_fixed (s : State) (e : ℤ) : (State.tsyncLock s e).fixed = s.fixed := by
  simp [State.tsyncLock]

@[simp] theorem State.tsyncIn_fixed (s : State) : (State.tsyncIn s).fixed = s.fixed := by
  simp [State.tsyncIn]

@[simp] theorem State.tsyncMissing_fixed (s : State) : (State.tsyncMissing s).fixed = s.fixed := by
  simp [State.tsyncMissing]

@[simp] theorem State.wakeBlock_fixed (s : State) : (State.wakeBlock s).fixed = s.fixed := by
  simp [State.wakeBlock]

@[simp] theorem State.indicateAt_fixed (s : State) (c cause : Nat) : (State.indicateAt s c cause).fixed = s.fixed := by
  unfold State.indicateAt
  first
    | rfl
    | (simp; done)
    | ((repeat' split) <;> simp; done)
    | (dsimp only; (repeat' split) <;> simp; done)
    | (repeat' (first | (with_reducible rfl) | assumption | (simp; done) | (simp [*]; done) | split | (refine (foldl_fixed _ (fun _ _ => ?_) _ _).trans ?_) | (refine (foldl_fixed2 _ (fun _ _ => ?_) _ _).trans ?_) | (refine pair_fixed (by assumption) ?_) | (refine trip_fixed (by assumption) ?_) | (refine pair1_fixed (by assumption) ?_) | (dsimp only) | simp))

@[simp] theorem State.onTimer_fixed (s : State) (who : ℕ) (f : TimerWake → TimerWake) :
    (State.onTimer s who f).fixed = s.fixed := by
  simp [State.onTimer]

@[simp] theorem State.timerFire_fixed (s : State) (who : ℕ) : (State.timerFire s who).fixed =
    s.fixed := by
  simp [State.timerFire]

@[simp] theorem State.ainCrossing_fixed (s : State) : (State.ainCrossing s).fixed = s.fixed := by
  unfold State.ainCrossing
  repeat' (first
    | (with_reducible rfl)
    | assumption
    | (simp; done)
    | (simp [*]; done)
    | split
    | (refine (foldl_fixed _ (fun _ _ => ?_) _ _).trans ?_)
    | (refine (foldl_fixed2 _ (fun _ _ => ?_) _ _).trans ?_)
    | (refine pair_fixed (by assumption) ?_)
    | (refine trip_fixed (by assumption) ?_)
    | (refine pair1_fixed (by assumption) ?_)
    | (dsimp only)
    | simp)

@[simp] theorem State.ainRearm_fixed (s : State) : (State.ainRearm s).fixed = s.fixed := by
  simp [State.ainRearm]

@[simp] theorem State.sckCheck_fixed (s : State) (hz : BitVec 25) : (State.sckCheck s hz).fixed =
    s.fixed := by
  simp [State.sckCheck]

/-! ### CmdPower -/

@[simp] theorem State.refuseEntry_fixed (s : State) (c : Nat) (bs : List Bool) : (State.refuseEntry s c bs).fixed = s.fixed := by
  unfold State.refuseEntry
  first
    | rfl
    | (simp; done)
    | ((repeat' split) <;> simp; done)
    | (dsimp only; (repeat' split) <;> simp; done)
    | (repeat' (first | (with_reducible rfl) | assumption | (simp; done) | (simp [*]; done) | split | (refine (foldl_fixed _ (fun _ _ => ?_) _ _).trans ?_) | (refine (foldl_fixed2 _ (fun _ _ => ?_) _ _).trans ?_) | (refine pair_fixed (by assumption) ?_) | (refine trip_fixed (by assumption) ?_) | (refine pair1_fixed (by assumption) ?_) | (dsimp only) | simp))

@[simp] theorem State.idleExpire_fixed (s : State) (c : Nat) : (State.idleExpire s c).fixed = s.fixed := by
  unfold State.idleExpire
  first
    | rfl
    | (simp; done)
    | ((repeat' split) <;> simp; done)
    | (dsimp only; (repeat' split) <;> simp; done)
    | (repeat' (first | (with_reducible rfl) | assumption | (simp; done) | (simp [*]; done) | split | (refine (foldl_fixed _ (fun _ _ => ?_) _ _).trans ?_) | (refine (foldl_fixed2 _ (fun _ _ => ?_) _ _).trans ?_) | (refine pair_fixed (by assumption) ?_) | (refine trip_fixed (by assumption) ?_) | (refine pair1_fixed (by assumption) ?_) | (dsimp only) | simp))

@[simp] theorem State.clusterRuns_fixed (s : State) (c : ℕ) : (State.clusterRuns s c).fixed =
    s.fixed := by
  simp [State.clusterRuns]

@[simp] theorem State.backToRun_fixed (s : State) (c : ℕ) : (State.backToRun s c).fixed = s.fixed := by
  simp [State.backToRun]

@[simp] theorem State.ackRun_fixed (s : State) (key : ℕ) : (State.ackRun s key).fixed = s.fixed := rfl

@[simp] theorem State.switchAck_fixed (s : State) (c : Nat) : (State.switchAck s c).fixed = s.fixed := by
  unfold State.switchAck
  first
    | rfl
    | (simp; done)
    | ((repeat' split) <;> simp; done)
    | (dsimp only; (repeat' split) <;> simp; done)
    | (repeat' (first | (with_reducible rfl) | assumption | (simp; done) | (simp [*]; done) | split | (refine (foldl_fixed _ (fun _ _ => ?_) _ _).trans ?_) | (refine (foldl_fixed2 _ (fun _ _ => ?_) _ _).trans ?_) | (refine pair_fixed (by assumption) ?_) | (refine trip_fixed (by assumption) ?_) | (refine pair1_fixed (by assumption) ?_) | (dsimp only) | simp))

@[simp] theorem State.stopCluster_fixed (s : State) (c : Nat) : (State.stopCluster s c).fixed = s.fixed := by
  unfold State.stopCluster
  first
    | rfl
    | (simp; done)
    | ((repeat' split) <;> simp; done)
    | (dsimp only; (repeat' split) <;> simp; done)
    | (repeat' (first | (with_reducible rfl) | assumption | (simp; done) | (simp [*]; done) | split | (refine (foldl_fixed _ (fun _ _ => ?_) _ _).trans ?_) | (refine (foldl_fixed2 _ (fun _ _ => ?_) _ _).trans ?_) | (refine pair_fixed (by assumption) ?_) | (refine trip_fixed (by assumption) ?_) | (refine pair1_fixed (by assumption) ?_) | (dsimp only) | simp))

@[simp] theorem State.entryXck_fixed (s : State) (c : Nat) : (State.entryXck s c).fixed = s.fixed := by
  unfold State.entryXck
  first
    | rfl
    | (simp; done)
    | ((repeat' split) <;> simp; done)
    | (dsimp only; (repeat' split) <;> simp; done)
    | (repeat' (first | (with_reducible rfl) | assumption | (simp; done) | (simp [*]; done) | split | (refine (foldl_fixed _ (fun _ _ => ?_) _ _).trans ?_) | (refine (foldl_fixed2 _ (fun _ _ => ?_) _ _).trans ?_) | (refine pair_fixed (by assumption) ?_) | (refine trip_fixed (by assumption) ?_) | (refine pair1_fixed (by assumption) ?_) | (dsimp only) | simp))

@[simp] theorem State.powerXck_fixed (s : State) : (State.powerXck s).fixed = s.fixed := by
  unfold State.powerXck
  first
    | rfl
    | (simp; done)
    | ((repeat' split) <;> simp; done)
    | (dsimp only; (repeat' split) <;> simp; done)
    | (repeat' (first | (with_reducible rfl) | assumption | (simp; done) | (simp [*]; done) | split | (refine (foldl_fixed _ (fun _ _ => ?_) _ _).trans ?_) | (refine (foldl_fixed2 _ (fun _ _ => ?_) _ _).trans ?_) | (refine pair_fixed (by assumption) ?_) | (refine trip_fixed (by assumption) ?_) | (refine pair1_fixed (by assumption) ?_) | (dsimp only) | simp))

@[simp] theorem State.leaveStop_fixed (s : State) (c : ℕ) : (State.leaveStop s c).fixed = s.fixed := rfl

@[simp] theorem State.clusterWake_fixed (s : State) (c : ℕ) : (State.clusterWake s c).fixed =
    s.fixed := by
  unfold State.clusterWake; dsimp only; (repeat' split) <;> simp

@[simp] theorem State.exitComplete_fixed (s : State) (c : ℕ) : (State.exitComplete s c).fixed =
    s.fixed := by
  simp [State.exitComplete]

@[simp] theorem State.enterBlock_fixed (s : State) : (State.enterBlock s).fixed = s.fixed := rfl

@[simp] theorem State.writeRail_fixed (s : State) : (State.writeRail s).fixed = s.fixed := by
  unfold State.writeRail
  first
    | rfl
    | (simp; done)
    | ((repeat' split) <;> simp; done)
    | (dsimp only; (repeat' split) <;> simp; done)
    | (repeat' (first | (with_reducible rfl) | assumption | (simp; done) | (simp [*]; done) | split | (refine (foldl_fixed _ (fun _ _ => ?_) _ _).trans ?_) | (refine (foldl_fixed2 _ (fun _ _ => ?_) _ _).trans ?_) | (refine pair_fixed (by assumption) ?_) | (refine trip_fixed (by assumption) ?_) | (refine pair1_fixed (by assumption) ?_) | (dsimp only) | simp))

@[simp] theorem State.blockExpire_fixed (s : State) : (State.blockExpire s).fixed = s.fixed := by
  simp [State.blockExpire]

@[simp] theorem State.blockA1_fixed (s : State) : (State.blockA1 s).fixed = s.fixed := by
  unfold State.blockA1
  first
    | rfl
    | (simp; done)
    | ((repeat' split) <;> simp; done)
    | (dsimp only; (repeat' split) <;> simp; done)
    | (repeat' (first | (with_reducible rfl) | assumption | (simp; done) | (simp [*]; done) | split | (refine (foldl_fixed _ (fun _ _ => ?_) _ _).trans ?_) | (refine (foldl_fixed2 _ (fun _ _ => ?_) _ _).trans ?_) | (refine pair_fixed (by assumption) ?_) | (refine trip_fixed (by assumption) ?_) | (refine pair1_fixed (by assumption) ?_) | (dsimp only) | simp))

@[simp] theorem State.ainFlag_fixed (s : State) : (State.ainFlag s).fixed = s.fixed := by
  unfold State.ainFlag
  first
    | rfl
    | (simp; done)
    | ((repeat' split) <;> simp; done)
    | (dsimp only; (repeat' split) <;> simp; done)
    | (repeat' (first | (with_reducible rfl) | assumption | (simp; done) | (simp [*]; done) | split | (refine (foldl_fixed _ (fun _ _ => ?_) _ _).trans ?_) | (refine (foldl_fixed2 _ (fun _ _ => ?_) _ _).trans ?_) | (refine pair_fixed (by assumption) ?_) | (refine trip_fixed (by assumption) ?_) | (refine pair1_fixed (by assumption) ?_) | (dsimp only) | simp))

@[simp] theorem State.blockRuns_fixed (s : State) : (State.blockRuns s).fixed = s.fixed := by
  simp [State.blockRuns]

@[simp] theorem State.abandonBlock_fixed (s : State) : (State.abandonBlock s).fixed = s.fixed := rfl

@[simp] theorem State.blockWake_fixed (s : State) : (State.blockWake s).fixed = s.fixed := by
  simp [State.blockWake]

@[simp] theorem State.endOpp_fixed (s : State) (st : Status) : (State.endOpp s st).fixed = s.fixed := by
  unfold State.endOpp; dsimp only; (repeat' split) <;> simp

@[simp] theorem State.beginFrequency_fixed (s : State) : (State.beginFrequency s).fixed = s.fixed := rfl

@[simp] theorem State.stopEdge_fixed (s : State) : (State.stopEdge s).fixed = s.fixed := by
  unfold State.stopEdge
  first
    | rfl
    | (simp; done)
    | ((repeat' split) <;> simp; done)
    | (dsimp only; (repeat' split) <;> simp; done)
    | (repeat' (first | (with_reducible rfl) | assumption | (simp; done) | (simp [*]; done) | split | (refine (foldl_fixed _ (fun _ _ => ?_) _ _).trans ?_) | (refine (foldl_fixed2 _ (fun _ _ => ?_) _ _).trans ?_) | (refine pair_fixed (by assumption) ?_) | (refine trip_fixed (by assumption) ?_) | (refine pair1_fixed (by assumption) ?_) | (dsimp only) | simp))

@[simp] theorem State.endFrequency_fixed (s : State) : (State.endFrequency s).fixed = s.fixed := by
  simp [State.endFrequency]

@[simp] theorem State.stepDone_fixed (s : State) : (State.stepDone s).fixed = s.fixed := by
  unfold State.stepDone
  first
    | rfl
    | (simp; done)
    | ((repeat' split) <;> simp; done)
    | (dsimp only; (repeat' split) <;> simp; done)
    | (repeat' (first | (with_reducible rfl) | assumption | (simp; done) | (simp [*]; done) | split | (refine (foldl_fixed _ (fun _ _ => ?_) _ _).trans ?_) | (refine (foldl_fixed2 _ (fun _ _ => ?_) _ _).trans ?_) | (refine pair_fixed (by assumption) ?_) | (refine trip_fixed (by assumption) ?_) | (refine pair1_fixed (by assumption) ?_) | (dsimp only) | simp))

@[simp] theorem State.nextStepDone_fixed (s : State) : (State.nextStepDone s).fixed = s.fixed := by
  unfold State.nextStepDone
  first
    | rfl
    | (simp; done)
    | ((repeat' split) <;> simp; done)
    | (dsimp only; (repeat' split) <;> simp; done)
    | (repeat' (first | (with_reducible rfl) | assumption | (simp; done) | (simp [*]; done) | split | (refine (foldl_fixed _ (fun _ _ => ?_) _ _).trans ?_) | (refine (foldl_fixed2 _ (fun _ _ => ?_) _ _).trans ?_) | (refine pair_fixed (by assumption) ?_) | (refine trip_fixed (by assumption) ?_) | (refine pair1_fixed (by assumption) ?_) | (dsimp only) | simp))

@[simp] theorem State.avsAck_fixed (s : State) (mv : BitVec 16) : (State.avsAck s mv).fixed =
    s.fixed := by
  unfold State.avsAck; split <;> simp

@[simp] theorem State.avsPoll_fixed (s : State) (crcOk : Bool) (taken : Bool) :
    (State.avsPoll s crcOk taken).fixed = s.fixed := by
  unfold State.avsPoll; split <;> simp

@[simp] theorem State.rckFack_fixed (s : State) (level : Bool) : (State.rckFack s level).fixed =
    s.fixed := by
  unfold State.rckFack; dsimp only; (repeat' split) <;> simp

@[simp] theorem State.exitEdge_fixed (s : State) : (State.exitEdge s).fixed = s.fixed := by
  unfold State.exitEdge
  first
    | rfl
    | (simp; done)
    | ((repeat' split) <;> simp; done)
    | (dsimp only; (repeat' split) <;> simp; done)
    | (repeat' (first | (with_reducible rfl) | assumption | (simp; done) | (simp [*]; done) | split | (refine (foldl_fixed _ (fun _ _ => ?_) _ _).trans ?_) | (refine (foldl_fixed2 _ (fun _ _ => ?_) _ _).trans ?_) | (refine pair_fixed (by assumption) ?_) | (refine trip_fixed (by assumption) ?_) | (refine pair1_fixed (by assumption) ?_) | (dsimp only) | simp))

@[simp] theorem State.powerTimeout_fixed (s : State) (step cluster : Nat) : (State.powerTimeout s step cluster).fixed = s.fixed := by
  unfold State.powerTimeout
  first
    | rfl
    | (simp; done)
    | ((repeat' split) <;> simp; done)
    | (dsimp only; (repeat' split) <;> simp; done)
    | (repeat' (first | (with_reducible rfl) | assumption | (simp; done) | (simp [*]; done) | split | (refine (foldl_fixed _ (fun _ _ => ?_) _ _).trans ?_) | (refine (foldl_fixed2 _ (fun _ _ => ?_) _ _).trans ?_) | (refine pair_fixed (by assumption) ?_) | (refine trip_fixed (by assumption) ?_) | (refine pair1_fixed (by assumption) ?_) | (dsimp only) | simp))

@[simp] theorem State.blockTimeout_fixed (s : State) (x : PowerStep) : (State.blockTimeout s x).fixed = s.fixed := by
  unfold State.blockTimeout
  first
    | rfl
    | (simp; done)
    | ((repeat' split) <;> simp; done)
    | (dsimp only; (repeat' split) <;> simp; done)
    | (repeat' (first | (with_reducible rfl) | assumption | (simp; done) | (simp [*]; done) | split | (refine (foldl_fixed _ (fun _ _ => ?_) _ _).trans ?_) | (refine (foldl_fixed2 _ (fun _ _ => ?_) _ _).trans ?_) | (refine pair_fixed (by assumption) ?_) | (refine trip_fixed (by assumption) ?_) | (refine pair1_fixed (by assumption) ?_) | (dsimp only) | simp))

@[simp] theorem State.pwrTimeout_fixed (s : State) (step c : Nat) : (State.pwrTimeout s step c).fixed = s.fixed := by
  unfold State.pwrTimeout
  first
    | rfl
    | (simp; done)
    | ((repeat' split) <;> simp; done)
    | (dsimp only; (repeat' split) <;> simp; done)
    | (repeat' (first | (with_reducible rfl) | assumption | (simp; done) | (simp [*]; done) | split | (refine (foldl_fixed _ (fun _ _ => ?_) _ _).trans ?_) | (refine (foldl_fixed2 _ (fun _ _ => ?_) _ _).trans ?_) | (refine pair_fixed (by assumption) ?_) | (refine trip_fixed (by assumption) ?_) | (refine pair1_fixed (by assumption) ?_) | (dsimp only) | simp))

@[simp] theorem State.pwrStateSet_fixed (s : State) (c : Cmd) : (State.pwrStateSet s c).fixed =
    s.fixed := by
  unfold State.pwrStateSet
  repeat' (first
    | (with_reducible rfl)
    | assumption
    | (simp; done)
    | (simp [*]; done)
    | split
    | (refine (foldl_fixed _ (fun _ _ => ?_) _ _).trans ?_)
    | (refine (foldl_fixed2 _ (fun _ _ => ?_) _ _).trans ?_)
    | (refine pair_fixed (by assumption) ?_)
    | (refine trip_fixed (by assumption) ?_)
    | (refine pair1_fixed (by assumption) ?_)
    | (dsimp only)
    | simp)

@[simp] theorem State.beginOpp_fixed (s : State) (token : ℕ) (c : Cmd) (eco : Bool) :
    (State.beginOpp s token c eco).fixed = s.fixed := by
  simp [State.beginOpp]

/-! ### FwStore -/

@[simp] theorem State.onImage_fixed (s : State) (k : ℕ) (f : ImageSlot → ImageSlot) :
    (State.onImage s k f).fixed = s.fixed := rfl

@[simp] theorem State.writeSettings_fixed (s : State) (items : List Byte) :
    (State.writeSettings s items).fixed = s.fixed := rfl

@[simp] theorem State.installRepair_fixed (s : State) (e : BitVec 64) :
    (State.installRepair s e).fixed = s.fixed := by
  simp [State.installRepair]

@[simp] theorem State.installWaiting_fixed (s : State) : (State.installWaiting s).fixed = s.fixed := by
  unfold State.installWaiting
  first
    | rfl
    | (simp; done)
    | ((repeat' split) <;> simp; done)
    | (dsimp only; (repeat' split) <;> simp; done)
    | (repeat' (first | (with_reducible rfl) | assumption | (simp; done) | (simp [*]; done) | split | (refine (foldl_fixed _ (fun _ _ => ?_) _ _).trans ?_) | (refine (foldl_fixed2 _ (fun _ _ => ?_) _ _).trans ?_) | (refine pair_fixed (by assumption) ?_) | (refine trip_fixed (by assumption) ?_) | (refine pair1_fixed (by assumption) ?_) | (dsimp only) | simp))

@[simp] theorem State.putItems_fixed (s : State) (bs : List Byte) : (State.putItems s bs).fixed =
    s.fixed := by
  unfold State.putItems
  repeat' (first
    | (with_reducible rfl)
    | assumption
    | (simp; done)
    | (simp [*]; done)
    | split
    | (refine (foldl_fixed _ (fun _ _ => ?_) _ _).trans ?_)
    | (refine (foldl_fixed2 _ (fun _ _ => ?_) _ _).trans ?_)
    | (refine pair_fixed (by assumption) ?_)
    | (refine trip_fixed (by assumption) ?_)
    | (refine pair1_fixed (by assumption) ?_)
    | (dsimp only)
    | simp)

@[simp] theorem State.applySettings_fixed (s : State) : (State.applySettings s).fixed = s.fixed := by
  unfold State.applySettings
  extract_lets found mine bs s1 s2 s3 s4
  have h1 : s1.fixed = s.fixed := by simp [s1]
  have h2 : s2.fixed = s1.fixed := by simp only [s2]; split <;> simp
  have h3 : s3.fixed = s2.fixed := foldl_fixed _ (fun _ _ => by simp) _ _
  have h4 : s4.fixed = s3.fixed := rfl
  clear_value s4 s3 s2 s1
  split
  · rw [h3, h2, h1]
  · simp [h1, h2, h3, h4]

@[simp] theorem State.setRepairs_fixed (s : State) (rs : List (BitVec 64)) :
    (State.setRepairs s rs).fixed = s.fixed := rfl

/-! ### CmdFw -/

@[simp] theorem State.runImage_fixed (s : State) (k : ℕ) : (State.runImage s k).fixed = s.fixed := rfl

@[simp] theorem State.stopFirmware_fixed (s : State) : (State.stopFirmware s).fixed = s.fixed := rfl

@[simp] theorem State.armToken_fixed (s : State) (atOnce : Bool) : (State.armToken s atOnce).fixed =
    s.fixed := rfl

@[simp] theorem State.fallbackNoted_fixed (s : State) : (State.fallbackNoted s).fixed = s.fixed := by
  simp [State.fallbackNoted]

@[simp] theorem State.startTests_fixed (s : State) : (State.startTests s).fixed = s.fixed := by
  unfold State.startTests
  repeat' (first
    | (with_reducible rfl)
    | assumption
    | (simp; done)
    | (simp [*]; done)
    | split
    | (refine (foldl_fixed _ (fun _ _ => ?_) _ _).trans ?_)
    | (refine (foldl_fixed2 _ (fun _ _ => ?_) _ _).trans ?_)
    | (refine pair_fixed (by assumption) ?_)
    | (refine trip_fixed (by assumption) ?_)
    | (refine pair1_fixed (by assumption) ?_)
    | (dsimp only)
    | simp)

@[simp] theorem State.readBoot_fixed (s : State) : (State.readBoot s).fixed = s.fixed := by
  unfold State.readBoot
  first
    | rfl
    | (simp; done)
    | ((repeat' split) <;> simp; done)
    | (dsimp only; (repeat' split) <;> simp; done)
    | (repeat' (first | (with_reducible rfl) | assumption | (simp; done) | (simp [*]; done) | split | (refine (foldl_fixed _ (fun _ _ => ?_) _ _).trans ?_) | (refine (foldl_fixed2 _ (fun _ _ => ?_) _ _).trans ?_) | (refine pair_fixed (by assumption) ?_) | (refine trip_fixed (by assumption) ?_) | (refine pair1_fixed (by assumption) ?_) | (dsimp only) | simp))

@[simp] theorem State.startBooting_fixed (s : State) : (State.startBooting s).fixed = s.fixed := by
  unfold State.startBooting
  first
    | rfl
    | (simp; done)
    | ((repeat' split) <;> simp; done)
    | (dsimp only; (repeat' split) <;> simp; done)
    | (repeat' (first | (with_reducible rfl) | assumption | (simp; done) | (simp [*]; done) | split | (refine (foldl_fixed _ (fun _ _ => ?_) _ _).trans ?_) | (refine (foldl_fixed2 _ (fun _ _ => ?_) _ _).trans ?_) | (refine pair_fixed (by assumption) ?_) | (refine trip_fixed (by assumption) ?_) | (refine pair1_fixed (by assumption) ?_) | (dsimp only) | simp))

@[simp] theorem State.firmwareBoot_fixed (s : State) (flashOk : Bool) : (State.firmwareBoot s flashOk).fixed = s.fixed := by
  unfold State.firmwareBoot
  first
    | rfl
    | (simp; done)
    | ((repeat' split) <;> simp; done)
    | (dsimp only; (repeat' split) <;> simp; done)
    | (repeat' (first | (with_reducible rfl) | assumption | (simp; done) | (simp [*]; done) | split | (refine (foldl_fixed _ (fun _ _ => ?_) _ _).trans ?_) | (refine (foldl_fixed2 _ (fun _ _ => ?_) _ _).trans ?_) | (refine pair_fixed (by assumption) ?_) | (refine trip_fixed (by assumption) ?_) | (refine pair1_fixed (by assumption) ?_) | (dsimp only) | simp))

@[simp] theorem State.beginFallback_fixed (s : State) : (State.beginFallback s).fixed = s.fixed := by
  unfold State.beginFallback; split <;> simp

@[simp] theorem State.windowExpire_fixed (s : State) : (State.windowExpire s).fixed = s.fixed := by
  unfold State.windowExpire; split <;> simp

@[simp] theorem State.endActivation_fixed (s : State) (a : Activation) (st : Status) :
    (State.endActivation s a st).fixed = s.fixed := by
  unfold State.endActivation; split <;> simp

@[simp] theorem State.backToRunning_fixed (s : State) (edge : Nat) : (State.backToRunning s edge).fixed = s.fixed := by
  unfold State.backToRunning
  first
    | rfl
    | (simp; done)
    | ((repeat' split) <;> simp; done)
    | (dsimp only; (repeat' split) <;> simp; done)
    | (repeat' (first | (with_reducible rfl) | assumption | (simp; done) | (simp [*]; done) | split | (refine (foldl_fixed _ (fun _ _ => ?_) _ _).trans ?_) | (refine (foldl_fixed2 _ (fun _ _ => ?_) _ _).trans ?_) | (refine pair_fixed (by assumption) ?_) | (refine trip_fixed (by assumption) ?_) | (refine pair1_fixed (by assumption) ?_) | (dsimp only) | simp))

@[simp] theorem State.dropActivation_fixed (s : State) (a : Activation) (st : Status) : (State.dropActivation s a st).fixed = s.fixed := by
  unfold State.dropActivation
  first
    | rfl
    | (simp; done)
    | ((repeat' split) <;> simp; done)
    | (dsimp only; (repeat' split) <;> simp; done)
    | (repeat' (first | (with_reducible rfl) | assumption | (simp; done) | (simp [*]; done) | split | (refine (foldl_fixed _ (fun _ _ => ?_) _ _).trans ?_) | (refine (foldl_fixed2 _ (fun _ _ => ?_) _ _).trans ?_) | (refine pair_fixed (by assumption) ?_) | (refine trip_fixed (by assumption) ?_) | (refine pair1_fixed (by assumption) ?_) | (dsimp only) | simp))

@[simp] theorem State.activationEdge_fixed (s : State) : (State.activationEdge s).fixed = s.fixed := by
  unfold State.activationEdge; split <;> simp

@[simp] theorem State.activationSafePoint_fixed (s : State) : (State.activationSafePoint s).fixed =
    s.fixed := by
  unfold State.activationSafePoint; split <;> simp

@[simp] theorem State.activationTimeout_fixed (s : State) : (State.activationTimeout s).fixed =
    s.fixed := by
  unfold State.activationTimeout; (repeat' split) <;> simp

@[simp] theorem State.imageRunning_fixed (s : State) : (State.imageRunning s).fixed = s.fixed := by
  unfold State.imageRunning; split <;> simp

@[simp] theorem State.imageStartTimeout_fixed (s : State) : (State.imageStartTimeout s).fixed =
    s.fixed := by
  unfold State.imageStartTimeout; (repeat' split) <;> simp

@[simp] theorem State.confirm_fixed (s : State) : (State.confirm s).fixed = s.fixed := by
  simp [State.confirm]

@[simp] theorem State.failSettings_fixed (s : State) : (State.failSettings s).fixed = s.fixed := by
  unfold State.failSettings
  first
    | rfl
    | (simp; done)
    | ((repeat' split) <;> simp; done)
    | (dsimp only; (repeat' split) <;> simp; done)
    | (repeat' (first | (with_reducible rfl) | assumption | (simp; done) | (simp [*]; done) | split | (refine (foldl_fixed _ (fun _ _ => ?_) _ _).trans ?_) | (refine (foldl_fixed2 _ (fun _ _ => ?_) _ _).trans ?_) | (refine pair_fixed (by assumption) ?_) | (refine trip_fixed (by assumption) ?_) | (refine pair1_fixed (by assumption) ?_) | (dsimp only) | simp))

/-! ### Svc -/

@[simp] theorem State.onSvc_fixed (s : State) (f : Svc → Svc) : (State.onSvc s f).fixed = s.fixed := rfl

@[simp] theorem State.svcResult_fixed (s : State) (r : ℕ) : (State.svcResult s r).fixed = s.fixed := rfl

@[simp] theorem State.svcFrame_fixed (s : State) (f : State → State)
    (hf : ∀ s0, (f s0).fixed = s0.fixed) : (State.svcFrame s f).fixed = s.fixed := by
  unfold State.svcFrame; (repeat' split) <;> simp [*]

@[simp] theorem State.imageFrame_fixed (s : State) (f : State → State)
    (hf : ∀ s0, (f s0).fixed = s0.fixed) : (State.imageFrame s f).fixed = s.fixed := by
  unfold State.imageFrame; (repeat' split) <;> simp [*]

@[simp] theorem State.svcStatusFrame_fixed (s : State) : (State.svcStatusFrame s).fixed = s.fixed := by
  simp [State.svcStatusFrame]

@[simp] theorem State.imgOpen_fixed (s : State) (arg : BitVec 32) (flashOk : Bool) :
    (State.imgOpen s arg flashOk).fixed = s.fixed := by
  simp [State.imgOpen]

@[simp] theorem State.imgBlock_fixed (s : State) (arg : BitVec 32) (data : BitVec 32768) :
    (State.imgBlock s arg data).fixed = s.fixed := by
  simp [State.imgBlock]

@[simp] theorem State.imgProgrammed_fixed (s : State) (flashOk : Bool) :
    (State.imgProgrammed s flashOk).fixed = s.fixed := by
  unfold State.imgProgrammed; split <;> simp

@[simp] theorem State.imgClose_fixed (s : State) (arg : BitVec 32) : (State.imgClose s arg).fixed =
    s.fixed := by
  unfold State.imgClose
  apply State.imageFrame_fixed
  intro s0
  dsimp only
  split
  · simp
  · split <;> simp

@[simp] theorem State.imgCloseEnd_fixed (s : State) : (State.imgCloseEnd s).fixed = s.fixed := by
  unfold State.imgCloseEnd; split <;> simp

@[simp] theorem State.endReadDump_fixed (s : State) : (State.endReadDump s).fixed = s.fixed := by
  unfold State.endReadDump; split <;> simp

@[simp] theorem State.svcRead_fixed (s : State) (len : ℕ) : (State.svcRead s len).fixed = s.fixed := by
  simp [State.svcRead]

@[simp] theorem State.svcRun_fixed (s : State) (op : SvcOp) (bs : List Byte) (flashOk : Bool) : (State.svcRun s op bs flashOk).fixed = s.fixed := by
  unfold State.svcRun
  first
    | rfl
    | (simp; done)
    | ((repeat' split) <;> simp; done)
    | (dsimp only; (repeat' split) <;> simp; done)
    | (repeat' (first | (with_reducible rfl) | assumption | (simp; done) | (simp [*]; done) | split | (refine (foldl_fixed _ (fun _ _ => ?_) _ _).trans ?_) | (refine (foldl_fixed2 _ (fun _ _ => ?_) _ _).trans ?_) | (refine pair_fixed (by assumption) ?_) | (refine trip_fixed (by assumption) ?_) | (refine pair1_fixed (by assumption) ?_) | (dsimp only) | simp))

@[simp] theorem State.svcBytes_fixed (s : State) (f : SvcFrame) : (State.svcBytes s f).fixed = s.fixed := by
  have h (n : ℕ) : (s.svcFrame fun x => x.svcResult n).fixed = s.fixed := State.svcFrame_fixed _ _ fun _ => by simp
  unfold State.svcBytes; (repeat' split) <;> simp [h]

@[simp] theorem State.monChar_fixed (s : State) (ch : Byte) : (State.monChar s ch).fixed = s.fixed := by
  simp [State.monChar]

/-! ### FaultData -/

@[simp] theorem State.onHead_fixed (s : State) (bank : Nat) (f : Piece → Piece) : (State.onHead s bank f).fixed = s.fixed := by
  unfold State.onHead
  first
    | rfl
    | (simp; done)
    | ((repeat' split) <;> simp; done)
    | (dsimp only; (repeat' split) <;> simp; done)
    | (repeat' (first | (with_reducible rfl) | assumption | (simp; done) | (simp [*]; done) | split | (refine (foldl_fixed _ (fun _ _ => ?_) _ _).trans ?_) | (refine (foldl_fixed2 _ (fun _ _ => ?_) _ _).trans ?_) | (refine pair_fixed (by assumption) ?_) | (refine trip_fixed (by assumption) ?_) | (refine pair1_fixed (by assumption) ?_) | (dsimp only) | simp))

@[simp] theorem State.onFirstRead_fixed (s : State) (bank : Nat) (f : Piece → Piece) : (State.onFirstRead s bank f).fixed = s.fixed := by
  unfold State.onFirstRead
  first
    | rfl
    | (simp; done)
    | ((repeat' split) <;> simp; done)
    | (dsimp only; (repeat' split) <;> simp; done)
    | (repeat' (first | (with_reducible rfl) | assumption | (simp; done) | (simp [*]; done) | split | (refine (foldl_fixed _ (fun _ _ => ?_) _ _).trans ?_) | (refine (foldl_fixed2 _ (fun _ _ => ?_) _ _).trans ?_) | (refine pair_fixed (by assumption) ?_) | (refine trip_fixed (by assumption) ?_) | (refine pair1_fixed (by assumption) ?_) | (dsimp only) | simp))

@[simp] theorem State.dropResponse_fixed (s : State) (p : Nat) : (State.dropResponse s p).fixed = s.fixed := by
  unfold State.dropResponse
  first
    | rfl
    | (simp; done)
    | ((repeat' split) <;> simp; done)
    | (dsimp only; (repeat' split) <;> simp; done)
    | (repeat' (first | (with_reducible rfl) | assumption | (simp; done) | (simp [*]; done) | split | (refine (foldl_fixed _ (fun _ _ => ?_) _ _).trans ?_) | (refine (foldl_fixed2 _ (fun _ _ => ?_) _ _).trans ?_) | (refine pair_fixed (by assumption) ?_) | (refine trip_fixed (by assumption) ?_) | (refine pair1_fixed (by assumption) ?_) | (dsimp only) | simp))

@[simp] theorem State.levelAtLeast_fixed (s : State) (l : GovLevel) : (State.levelAtLeast s l).fixed = s.fixed := by
  unfold State.levelAtLeast
  first
    | rfl
    | (simp; done)
    | ((repeat' split) <;> simp; done)
    | (dsimp only; (repeat' split) <;> simp; done)
    | (repeat' (first | (with_reducible rfl) | assumption | (simp; done) | (simp [*]; done) | split | (refine (foldl_fixed _ (fun _ _ => ?_) _ _).trans ?_) | (refine (foldl_fixed2 _ (fun _ _ => ?_) _ _).trans ?_) | (refine pair_fixed (by assumption) ?_) | (refine trip_fixed (by assumption) ?_) | (refine pair1_fixed (by assumption) ?_) | (dsimp only) | simp))

@[simp] theorem State.shedTo_fixed (s : State) (k : Nat) (y0 : Nat) : (State.shedTo s k y0).fixed = s.fixed := by
  induction y0 generalizing s k with
  | zero => (unfold State.shedTo; (repeat' (first | (with_reducible rfl) | assumption | (simp; done) | (simp [*]; done) | split | (refine (foldl_fixed _ (fun _ _ => ?_) _ _).trans ?_) | (refine (foldl_fixed2 _ (fun _ _ => ?_) _ _).trans ?_) | (refine pair_fixed (by assumption) ?_) | (refine trip_fixed (by assumption) ?_) | (refine pair1_fixed (by assumption) ?_) | (dsimp only) | simp)))
  | succ n1 ih => (unfold State.shedTo; (repeat' (first | (with_reducible rfl) | assumption | (simp; done) | (simp [*]; done) | split | (refine (foldl_fixed _ (fun _ _ => ?_) _ _).trans ?_) | (refine (foldl_fixed2 _ (fun _ _ => ?_) _ _).trans ?_) | (refine pair_fixed (by assumption) ?_) | (refine trip_fixed (by assumption) ?_) | (refine pair1_fixed (by assumption) ?_) | (dsimp only) | simp)))

@[simp] theorem State.takeStricter_fixed (s : State) (tb : Nat) (l : GovLevel) (shed : Nat) : (State.takeStricter s tb l shed).fixed = s.fixed := by
  unfold State.takeStricter
  first
    | rfl
    | (simp; done)
    | ((repeat' split) <;> simp; done)
    | (dsimp only; (repeat' split) <;> simp; done)
    | (repeat' (first | (with_reducible rfl) | assumption | (simp; done) | (simp [*]; done) | split | (refine (foldl_fixed _ (fun _ _ => ?_) _ _).trans ?_) | (refine (foldl_fixed2 _ (fun _ _ => ?_) _ _).trans ?_) | (refine pair_fixed (by assumption) ?_) | (refine trip_fixed (by assumption) ?_) | (refine pair1_fixed (by assumption) ?_) | (dsimp only) | simp))

@[simp] theorem State.losePop_fixed (s : State) (i : Nat) : (State.losePop s i).fixed = s.fixed := by
  unfold State.losePop
  first
    | rfl
    | (simp; done)
    | ((repeat' split) <;> simp; done)
    | (dsimp only; (repeat' split) <;> simp; done)
    | (repeat' (first | (with_reducible rfl) | assumption | (simp; done) | (simp [*]; done) | split | (refine (foldl_fixed _ (fun _ _ => ?_) _ _).trans ?_) | (refine (foldl_fixed2 _ (fun _ _ => ?_) _ _).trans ?_) | (refine pair_fixed (by assumption) ?_) | (refine trip_fixed (by assumption) ?_) | (refine pair1_fixed (by assumption) ?_) | (dsimp only) | simp))

@[simp] theorem State.loseEntry_fixed (s : State) (t : TableEntry) : (State.loseEntry s t).fixed = s.fixed := by
  unfold State.loseEntry
  first
    | rfl
    | (simp; done)
    | ((repeat' split) <;> simp; done)
    | (dsimp only; (repeat' split) <;> simp; done)
    | (repeat' (first | (with_reducible rfl) | assumption | (simp; done) | (simp [*]; done) | split | (refine (foldl_fixed _ (fun _ _ => ?_) _ _).trans ?_) | (refine (foldl_fixed2 _ (fun _ _ => ?_) _ _).trans ?_) | (refine pair_fixed (by assumption) ?_) | (refine trip_fixed (by assumption) ?_) | (refine pair1_fixed (by assumption) ?_) | (dsimp only) | simp))

@[simp] theorem State.loseLedger_fixed (s : State) (i : Nat) : (State.loseLedger s i).fixed = s.fixed := by
  unfold State.loseLedger
  first
    | rfl
    | (simp; done)
    | ((repeat' split) <;> simp; done)
    | (dsimp only; (repeat' split) <;> simp; done)
    | (repeat' (first | (with_reducible rfl) | assumption | (simp; done) | (simp [*]; done) | split | (refine (foldl_fixed _ (fun _ _ => ?_) _ _).trans ?_) | (refine (foldl_fixed2 _ (fun _ _ => ?_) _ _).trans ?_) | (refine pair_fixed (by assumption) ?_) | (refine trip_fixed (by assumption) ?_) | (refine pair1_fixed (by assumption) ?_) | (dsimp only) | simp))

@[simp] theorem State.strikes_fixed (s : State) (h : FaultHit) : (State.strikes s h).fixed = s.fixed := by
  unfold State.strikes
  first
    | rfl
    | (simp; done)
    | ((repeat' split) <;> simp; done)
    | (dsimp only; (repeat' split) <;> simp; done)
    | (repeat' (first | (with_reducible rfl) | assumption | (simp; done) | (simp [*]; done) | split | (refine (foldl_fixed _ (fun _ _ => ?_) _ _).trans ?_) | (refine (foldl_fixed2 _ (fun _ _ => ?_) _ _).trans ?_) | (refine pair_fixed (by assumption) ?_) | (refine trip_fixed (by assumption) ?_) | (refine pair1_fixed (by assumption) ?_) | (dsimp only) | simp))

@[simp] theorem State.strike_fixed (s : State) (f : FaultInfo) : (State.strike s f).fixed = s.fixed := by
  unfold State.strike
  first
    | rfl
    | (simp; done)
    | ((repeat' split) <;> simp; done)
    | (dsimp only; (repeat' split) <;> simp; done)
    | (repeat' (first | (with_reducible rfl) | assumption | (simp; done) | (simp [*]; done) | split | (refine (foldl_fixed _ (fun _ _ => ?_) _ _).trans ?_) | (refine (foldl_fixed2 _ (fun _ _ => ?_) _ _).trans ?_) | (refine pair_fixed (by assumption) ?_) | (refine trip_fixed (by assumption) ?_) | (refine pair1_fixed (by assumption) ?_) | (dsimp only) | simp))

/-! ### CmdSafety -/

@[simp] theorem State.stopJobsOf_fixed (s : State) (token : ℕ) (st : Status) :
    (State.stopJobsOf s token st).fixed = s.fixed := by
  unfold State.stopJobsOf
  repeat' (first
    | (with_reducible rfl)
    | assumption
    | (simp; done)
    | (simp [*]; done)
    | split
    | (refine (foldl_fixed _ (fun _ _ => ?_) _ _).trans ?_)
    | (refine (foldl_fixed2 _ (fun _ _ => ?_) _ _).trans ?_)
    | (refine pair_fixed (by assumption) ?_)
    | (refine trip_fixed (by assumption) ?_)
    | (refine pair1_fixed (by assumption) ?_)
    | (dsimp only)
    | simp)

@[simp] theorem State.cutTestsOf_fixed (s : State) (token : ℕ) (st : Status) :
    (State.cutTestsOf s token st).fixed = s.fixed := by
  unfold State.cutTestsOf
  repeat' (first
    | (with_reducible rfl)
    | assumption
    | (simp; done)
    | (simp [*]; done)
    | split
    | (refine (foldl_fixed _ (fun _ _ => ?_) _ _).trans ?_)
    | (refine (foldl_fixed2 _ (fun _ _ => ?_) _ _).trans ?_)
    | (refine pair_fixed (by assumption) ?_)
    | (refine trip_fixed (by assumption) ?_)
    | (refine pair1_fixed (by assumption) ?_)
    | (dsimp only)
    | simp)

@[simp] theorem State.cutOne_fixed (s : State) (st : Status) (d : Deferred) :
    (State.cutOne s st d).fixed = s.fixed := by
  unfold State.cutOne; dsimp only; (repeat' split) <;> simp

@[simp] theorem State.cutAll_fixed (s : State) (p : Deferred → Bool) (st : Status) :
    (State.cutAll s p st).fixed = s.fixed := by
  unfold State.cutAll
  repeat' (first
    | (with_reducible rfl)
    | assumption
    | (simp; done)
    | (simp [*]; done)
    | split
    | (refine (foldl_fixed _ (fun _ _ => ?_) _ _).trans ?_)
    | (refine (foldl_fixed2 _ (fun _ _ => ?_) _ _).trans ?_)
    | (refine pair_fixed (by assumption) ?_)
    | (refine trip_fixed (by assumption) ?_)
    | (refine pair1_fixed (by assumption) ?_)
    | (dsimp only)
    | simp)

@[simp] theorem State.beginHold_fixed (s : State) (code : ℕ) (entry : Bool) :
    (State.beginHold s code entry).fixed = s.fixed := by
  unfold State.beginHold
  repeat' (first
    | (with_reducible rfl)
    | assumption
    | (simp; done)
    | (simp [*]; done)
    | split
    | (refine (foldl_fixed _ (fun _ _ => ?_) _ _).trans ?_)
    | (refine (foldl_fixed2 _ (fun _ _ => ?_) _ _).trans ?_)
    | (refine pair_fixed (by assumption) ?_)
    | (refine trip_fixed (by assumption) ?_)
    | (refine pair1_fixed (by assumption) ?_)
    | (dsimp only)
    | simp)

@[simp] theorem State.enterHold_fixed (s : State) (code : ℕ) : (State.enterHold s code).fixed =
    s.fixed := by
  simp [State.enterHold]

@[simp] theorem State.claimNow_fixed (s : State) (half : Bool) : (State.claimNow s half).fixed =
    s.fixed := rfl

@[simp] theorem State.nameHolder_fixed (s : State) (half : Bool) : (State.nameHolder s half).fixed =
    s.fixed := by
  simp [State.nameHolder]

@[simp] theorem State.loseToken_fixed (s : State) : (State.loseToken s).fixed = s.fixed := by
  simp [State.loseToken]

@[simp] theorem State.transferToken_fixed (s : State) : (State.transferToken s).fixed = s.fixed := by
  unfold State.transferToken; split <;> simp

@[simp] theorem State.stopShepherd_fixed (s : State) (half : Bool) :
    (State.stopShepherd s half).fixed = s.fixed := by
  unfold State.stopShepherd
  repeat' (first
    | (with_reducible rfl)
    | assumption
    | (simp; done)
    | (simp [*]; done)
    | split
    | (refine (foldl_fixed _ (fun _ _ => ?_) _ _).trans ?_)
    | (refine (foldl_fixed2 _ (fun _ _ => ?_) _ _).trans ?_)
    | (refine pair_fixed (by assumption) ?_)
    | (refine trip_fixed (by assumption) ?_)
    | (refine pair1_fixed (by assumption) ?_)
    | (dsimp only)
    | simp)

@[simp] theorem State.halfReaction_fixed (s : State) (half : Bool) :
    (State.halfReaction s half).fixed = s.fixed := by
  simp [State.halfReaction]

@[simp] theorem State.noteMismatch_fixed (s : State) (sub : ℕ) : (State.noteMismatch s sub).fixed =
    s.fixed := rfl

@[simp] theorem State.fault_fixed (s : State) (f : FaultInfo) : (State.fault s f).fixed = s.fixed := by
  unfold State.fault; dsimp only; (repeat' split) <;> simp

@[simp] theorem State.collect_fixed (s : State) (f : FaultInfo) : (State.collect s f).fixed = s.fixed := by
  unfold State.collect
  first
    | rfl
    | (simp; done)
    | ((repeat' split) <;> simp; done)
    | (dsimp only; (repeat' split) <;> simp; done)
    | (repeat' (first | (with_reducible rfl) | assumption | (simp; done) | (simp [*]; done) | split | (refine (foldl_fixed _ (fun _ _ => ?_) _ _).trans ?_) | (refine (foldl_fixed2 _ (fun _ _ => ?_) _ _).trans ?_) | (refine pair_fixed (by assumption) ?_) | (refine trip_fixed (by assumption) ?_) | (refine pair1_fixed (by assumption) ?_) | (dsimp only) | simp))

@[simp] theorem State.faultReport_fixed (s : State) (f : FaultInfo) : (State.faultReport s f).fixed
    = s.fixed := by
  simp [State.faultReport]

@[simp] theorem State.crookClaim_fixed (s : State) (half : Bool) : (State.crookClaim s half).fixed =
    s.fixed := by
  simp [State.crookClaim]

@[simp] theorem State.tokenRow_fixed (s : State) : (State.tokenRow s).fixed = s.fixed := by
  unfold State.tokenRow; split <;> simp

@[simp] theorem State.tokenCheck_fixed (s : State) (c0 : BitVec 2) (c1 : BitVec 2) (c2 : BitVec 2) :
    (State.tokenCheck s c0 c1 c2).fixed = s.fixed := by
  unfold State.tokenCheck; dsimp only; (repeat' split) <;> simp

@[simp] theorem State.watchdogWrite_fixed (s : State) (half : Bool) :
    (State.watchdogWrite s half).fixed = s.fixed := by
  simp [State.watchdogWrite]

@[simp] theorem State.watchdogExpire_fixed (s : State) (half : Bool) :
    (State.watchdogExpire s half).fixed = s.fixed := by
  simp [State.watchdogExpire]

@[simp] theorem State.sequencerMismatch_fixed (s : State) : (State.sequencerMismatch s).fixed =
    s.fixed := by
  simp [State.sequencerMismatch]

@[simp] theorem State.rckLoss_fixed (s : State) : (State.rckLoss s).fixed = s.fixed := by
  simp [State.rckLoss]

@[simp] theorem State.rckReturn_fixed (s : State) : (State.rckReturn s).fixed = s.fixed := by
  simp [State.rckReturn]

@[simp] theorem State.outputTest_fixed (s : State) : (State.outputTest s).fixed = s.fixed := by
  simp [State.outputTest]

@[simp] theorem State.outputTestEnd_fixed (s : State) (padsOk : Bool) :
    (State.outputTestEnd s padsOk).fixed = s.fixed := by
  unfold State.outputTestEnd; split <;> simp

@[simp] theorem State.ledgerAck_fixed (s : State) (seq : BitVec 32) : (State.ledgerAck s seq).fixed
    = s.fixed := by
  simp [State.ledgerAck]

@[simp] theorem State.leaveHold_fixed (s : State) : (State.leaveHold s).fixed = s.fixed := by
  unfold State.leaveHold
  first
    | rfl
    | (simp; done)
    | ((repeat' split) <;> simp; done)
    | (dsimp only; (repeat' split) <;> simp; done)
    | (repeat' (first | (with_reducible rfl) | assumption | (simp; done) | (simp [*]; done) | split | (refine (foldl_fixed _ (fun _ _ => ?_) _ _).trans ?_) | (refine (foldl_fixed2 _ (fun _ _ => ?_) _ _).trans ?_) | (refine pair_fixed (by assumption) ?_) | (refine trip_fixed (by assumption) ?_) | (refine pair1_fixed (by assumption) ?_) | (dsimp only) | simp))

@[simp] theorem State.beginHalfReset_fixed (s : State) (half : Bool) (token : ℕ) (c : Cmd) :
    (State.beginHalfReset s half token c).fixed = s.fixed := by
  simp [State.beginHalfReset]

@[simp] theorem State.halfResetComplete_fixed (s : State) (half : Bool) :
    (State.halfResetComplete s half).fixed = s.fixed := by
  unfold State.halfResetComplete; split <;> simp

@[simp] theorem State.setReaction_fixed (s : State) (code : ℕ) (level : ℕ) :
    (State.setReaction s code level).fixed = s.fixed := by
  simp [State.setReaction]

@[simp] theorem State.zeroPatch_fixed (s : State) (k : Nat) (e : BitVec 32) : (State.zeroPatch s k e).fixed = s.fixed := by
  unfold State.zeroPatch
  first
    | rfl
    | (simp; done)
    | ((repeat' split) <;> simp; done)
    | (dsimp only; (repeat' split) <;> simp; done)
    | (repeat' (first | (with_reducible rfl) | assumption | (simp; done) | (simp [*]; done) | split | (refine (foldl_fixed _ (fun _ _ => ?_) _ _).trans ?_) | (refine (foldl_fixed2 _ (fun _ _ => ?_) _ _).trans ?_) | (refine pair_fixed (by assumption) ?_) | (refine trip_fixed (by assumption) ?_) | (refine pair1_fixed (by assumption) ?_) | (dsimp only) | simp))

@[simp] theorem State.zeroArrays_fixed (s : State) : (State.zeroArrays s).fixed = s.fixed := by
  unfold State.zeroArrays
  repeat' (first
    | (with_reducible rfl)
    | assumption
    | (simp; done)
    | (simp [*]; done)
    | split
    | (refine (foldl_fixed _ (fun _ _ => ?_) _ _).trans ?_)
    | (refine (foldl_fixed2 _ (fun _ _ => ?_) _ _).trans ?_)
    | (refine pair_fixed (by assumption) ?_)
    | (refine trip_fixed (by assumption) ?_)
    | (refine pair1_fixed (by assumption) ?_)
    | (dsimp only)
    | simp)

@[simp] theorem State.endTableUsers_fixed (s : State) : (State.endTableUsers s).fixed = s.fixed := by
  unfold State.endTableUsers
  repeat' (first
    | (with_reducible rfl)
    | assumption
    | (simp; done)
    | (simp [*]; done)
    | split
    | (refine (foldl_fixed _ (fun _ _ => ?_) _ _).trans ?_)
    | (refine (foldl_fixed2 _ (fun _ _ => ?_) _ _).trans ?_)
    | (refine pair_fixed (by assumption) ?_)
    | (refine trip_fixed (by assumption) ?_)
    | (refine pair1_fixed (by assumption) ?_)
    | (dsimp only)
    | simp)

@[simp] theorem State.setRegionZero_fixed (s : State) : (State.setRegionZero s).fixed = s.fixed := rfl

@[simp] theorem State.clearTables_fixed (s : State) : (State.clearTables s).fixed = s.fixed := by
  unfold State.clearTables
  extract_lets s1 s2 s3 s4 s5 s6
  have h1 : s1.fixed = s.fixed := by simp [s1]
  have h2 : s2.fixed = s1.fixed := foldl_fixed _ (fun _ _ => by simp) _ _
  have h3 : s3.fixed = s2.fixed := rfl
  have h4 : s4.fixed = s3.fixed := State.onConv_fixed _ _
  have h5 : s5.fixed = s4.fixed := State.onFolds_fixed _ _
  have h6 : s6.fixed = s5.fixed := State.onEng_fixed _ _
  clear_value s1 s2 s3 s4 s5 s6
  simp [h1, h2, h3, h4, h5, h6]

@[simp] theorem State.lifecycleSet_fixed (s : State) (new : ℕ) : (State.lifecycleSet s new).fixed =
    s.fixed := by
  simp [State.lifecycleSet]

/-! ### CmdTable -/

@[simp] theorem State.refuseCmd_fixed (s : State) (o : Outst) (r : Result) :
    (State.refuseCmd s o r).fixed = s.fixed := by
  simp [State.refuseCmd]

@[simp] theorem State.noteCmd_fixed (s : State) (o : Outst) : (State.noteCmd s o).fixed = s.fixed := by
  simp [State.noteCmd]

theorem bodyNop_keeps : bodyNop.keeps := by
  intro n c t; simp only [bodyNop]; (repeat' (first | (with_reducible rfl) | assumption | (simp; done) | (simp [*]; done) | split | (refine (foldl_fixed _ (fun _ _ => ?_) _ _).trans ?_) | (refine (foldl_fixed2 _ (fun _ _ => ?_) _ _).trans ?_) | (refine pair_fixed (by assumption) ?_) | (refine trip_fixed (by assumption) ?_) | (refine pair1_fixed (by assumption) ?_) | (dsimp only) | simp))

theorem bodyEcho_keeps : bodyEcho.keeps := by
  intro n c t; simp only [bodyEcho]; (repeat' (first | (with_reducible rfl) | assumption | (simp; done) | (simp [*]; done) | split | (refine (foldl_fixed _ (fun _ _ => ?_) _ _).trans ?_) | (refine (foldl_fixed2 _ (fun _ _ => ?_) _ _).trans ?_) | (refine pair_fixed (by assumption) ?_) | (refine trip_fixed (by assumption) ?_) | (refine pair1_fixed (by assumption) ?_) | (dsimp only) | simp))

theorem bodyQueryState_keeps : bodyQueryState.keeps := by
  intro n c t; simp only [bodyQueryState]; (repeat' (first | (with_reducible rfl) | assumption | (simp; done) | (simp [*]; done) | split | (refine (foldl_fixed _ (fun _ _ => ?_) _ _).trans ?_) | (refine (foldl_fixed2 _ (fun _ _ => ?_) _ _).trans ?_) | (refine pair_fixed (by assumption) ?_) | (refine trip_fixed (by assumption) ?_) | (refine pair1_fixed (by assumption) ?_) | (dsimp only) | simp))

theorem bodyCtxReset_keeps : bodyCtxReset.keeps := by
  intro n c t; simp only [bodyCtxReset]; (repeat' (first | (with_reducible rfl) | assumption | (simp; done) | (simp [*]; done) | split | (refine (foldl_fixed _ (fun _ _ => ?_) _ _).trans ?_) | (refine (foldl_fixed2 _ (fun _ _ => ?_) _ _).trans ?_) | (refine pair_fixed (by assumption) ?_) | (refine trip_fixed (by assumption) ?_) | (refine pair1_fixed (by assumption) ?_) | (dsimp only) | simp))

theorem bodyPortReset_keeps : bodyPortReset.keeps := by
  intro n c t; simp only [bodyPortReset]; (repeat' (first | (with_reducible rfl) | assumption | (simp; done) | (simp [*]; done) | split | (refine (foldl_fixed _ (fun _ _ => ?_) _ _).trans ?_) | (refine (foldl_fixed2 _ (fun _ _ => ?_) _ _).trans ?_) | (refine pair_fixed (by assumption) ?_) | (refine trip_fixed (by assumption) ?_) | (refine pair1_fixed (by assumption) ?_) | (dsimp only) | simp))

theorem bodyDrain_keeps : bodyDrain.keeps := by
  intro n c t; simp only [bodyDrain]; (repeat' (first | (with_reducible rfl) | assumption | (simp; done) | (simp [*]; done) | split | (refine (foldl_fixed _ (fun _ _ => ?_) _ _).trans ?_) | (refine (foldl_fixed2 _ (fun _ _ => ?_) _ _).trans ?_) | (refine pair_fixed (by assumption) ?_) | (refine trip_fixed (by assumption) ?_) | (refine pair1_fixed (by assumption) ?_) | (dsimp only) | simp))

theorem bodyPrioSet_keeps : bodyPrioSet.keeps := by
  intro n c t; simp only [bodyPrioSet]; (repeat' (first | (with_reducible rfl) | assumption | (simp; done) | (simp [*]; done) | split | (refine (foldl_fixed _ (fun _ _ => ?_) _ _).trans ?_) | (refine (foldl_fixed2 _ (fun _ _ => ?_) _ _).trans ?_) | (refine pair_fixed (by assumption) ?_) | (refine trip_fixed (by assumption) ?_) | (refine pair1_fixed (by assumption) ?_) | (dsimp only) | simp))

theorem bodyParkSet_keeps : bodyParkSet.keeps := by
  intro n c t; simp only [bodyParkSet]; (repeat' (first | (with_reducible rfl) | assumption | (simp; done) | (simp [*]; done) | split | (refine (foldl_fixed _ (fun _ _ => ?_) _ _).trans ?_) | (refine (foldl_fixed2 _ (fun _ _ => ?_) _ _).trans ?_) | (refine pair_fixed (by assumption) ?_) | (refine trip_fixed (by assumption) ?_) | (refine pair1_fixed (by assumption) ?_) | (dsimp only) | simp))

theorem bodyStarveSet_keeps : bodyStarveSet.keeps := by
  intro n c t; simp only [bodyStarveSet]; (repeat' (first | (with_reducible rfl) | assumption | (simp; done) | (simp [*]; done) | split | (refine (foldl_fixed _ (fun _ _ => ?_) _ _).trans ?_) | (refine (foldl_fixed2 _ (fun _ _ => ?_) _ _).trans ?_) | (refine pair_fixed (by assumption) ?_) | (refine trip_fixed (by assumption) ?_) | (refine pair1_fixed (by assumption) ?_) | (dsimp only) | simp))

theorem bodyStallLoad_keeps : bodyStallLoad.keeps := by
  intro n c t; simp only [bodyStallLoad]; (repeat' (first | (with_reducible rfl) | assumption | (simp; done) | (simp [*]; done) | split | (refine (foldl_fixed _ (fun _ _ => ?_) _ _).trans ?_) | (refine (foldl_fixed2 _ (fun _ _ => ?_) _ _).trans ?_) | (refine pair_fixed (by assumption) ?_) | (refine trip_fixed (by assumption) ?_) | (refine pair1_fixed (by assumption) ?_) | (dsimp only) | simp))

theorem bodyStallSwap_keeps : bodyStallSwap.keeps := by
  intro n c t; simp only [bodyStallSwap]; (repeat' (first | (with_reducible rfl) | assumption | (simp; done) | (simp [*]; done) | split | (refine (foldl_fixed _ (fun _ _ => ?_) _ _).trans ?_) | (refine (foldl_fixed2 _ (fun _ _ => ?_) _ _).trans ?_) | (refine pair_fixed (by assumption) ?_) | (refine trip_fixed (by assumption) ?_) | (refine pair1_fixed (by assumption) ?_) | (dsimp only) | simp))

theorem bodyStallQuery_keeps : bodyStallQuery.keeps := by
  intro n c t; simp only [bodyStallQuery]; (repeat' (first | (with_reducible rfl) | assumption | (simp; done) | (simp [*]; done) | split | (refine (foldl_fixed _ (fun _ _ => ?_) _ _).trans ?_) | (refine (foldl_fixed2 _ (fun _ _ => ?_) _ _).trans ?_) | (refine pair_fixed (by assumption) ?_) | (refine trip_fixed (by assumption) ?_) | (refine pair1_fixed (by assumption) ?_) | (dsimp only) | simp))

theorem bodyRegionSet_keeps : bodyRegionSet.keeps := by
  intro n c t; simp only [bodyRegionSet]; (repeat' (first | (with_reducible rfl) | assumption | (simp; done) | (simp [*]; done) | split | (refine (foldl_fixed _ (fun _ _ => ?_) _ _).trans ?_) | (refine (foldl_fixed2 _ (fun _ _ => ?_) _ _).trans ?_) | (refine pair_fixed (by assumption) ?_) | (refine trip_fixed (by assumption) ?_) | (refine pair1_fixed (by assumption) ?_) | (dsimp only) | simp))

theorem bodyRegionClear_keeps : bodyRegionClear.keeps := by
  intro n c t; simp only [bodyRegionClear]; (repeat' (first | (with_reducible rfl) | assumption | (simp; done) | (simp [*]; done) | split | (refine (foldl_fixed _ (fun _ _ => ?_) _ _).trans ?_) | (refine (foldl_fixed2 _ (fun _ _ => ?_) _ _).trans ?_) | (refine pair_fixed (by assumption) ?_) | (refine trip_fixed (by assumption) ?_) | (refine pair1_fixed (by assumption) ?_) | (dsimp only) | simp))

theorem bodyRegionQuery_keeps : bodyRegionQuery.keeps := by
  intro n c t; simp only [bodyRegionQuery]; (repeat' (first | (with_reducible rfl) | assumption | (simp; done) | (simp [*]; done) | split | (refine (foldl_fixed _ (fun _ _ => ?_) _ _).trans ?_) | (refine (foldl_fixed2 _ (fun _ _ => ?_) _ _).trans ?_) | (refine pair_fixed (by assumption) ?_) | (refine trip_fixed (by assumption) ?_) | (refine pair1_fixed (by assumption) ?_) | (dsimp only) | simp))

theorem bodyRegionMarkInit_keeps : bodyRegionMarkInit.keeps := by
  intro n c t; simp only [bodyRegionMarkInit]; (repeat' (first | (with_reducible rfl) | assumption | (simp; done) | (simp [*]; done) | split | (refine (foldl_fixed _ (fun _ _ => ?_) _ _).trans ?_) | (refine (foldl_fixed2 _ (fun _ _ => ?_) _ _).trans ?_) | (refine pair_fixed (by assumption) ?_) | (refine trip_fixed (by assumption) ?_) | (refine pair1_fixed (by assumption) ?_) | (dsimp only) | simp))

theorem bodyViewSet_keeps : bodyViewSet.keeps := by
  intro n c t; simp only [bodyViewSet]; (repeat' (first | (with_reducible rfl) | assumption | (simp; done) | (simp [*]; done) | split | (refine (foldl_fixed _ (fun _ _ => ?_) _ _).trans ?_) | (refine (foldl_fixed2 _ (fun _ _ => ?_) _ _).trans ?_) | (refine pair_fixed (by assumption) ?_) | (refine trip_fixed (by assumption) ?_) | (refine pair1_fixed (by assumption) ?_) | (dsimp only) | simp))

theorem bodyViewClear_keeps : bodyViewClear.keeps := by
  intro n c t; simp only [bodyViewClear]; (repeat' (first | (with_reducible rfl) | assumption | (simp; done) | (simp [*]; done) | split | (refine (foldl_fixed _ (fun _ _ => ?_) _ _).trans ?_) | (refine (foldl_fixed2 _ (fun _ _ => ?_) _ _).trans ?_) | (refine pair_fixed (by assumption) ?_) | (refine trip_fixed (by assumption) ?_) | (refine pair1_fixed (by assumption) ?_) | (dsimp only) | simp))

theorem bodyViewQuery_keeps : bodyViewQuery.keeps := by
  intro n c t; simp only [bodyViewQuery]; (repeat' (first | (with_reducible rfl) | assumption | (simp; done) | (simp [*]; done) | split | (refine (foldl_fixed _ (fun _ _ => ?_) _ _).trans ?_) | (refine (foldl_fixed2 _ (fun _ _ => ?_) _ _).trans ?_) | (refine pair_fixed (by assumption) ?_) | (refine trip_fixed (by assumption) ?_) | (refine pair1_fixed (by assumption) ?_) | (dsimp only) | simp))

theorem bodyViewStats_keeps : bodyViewStats.keeps := by
  intro n c t; simp only [bodyViewStats]; (repeat' (first | (with_reducible rfl) | assumption | (simp; done) | (simp [*]; done) | split | (refine (foldl_fixed _ (fun _ _ => ?_) _ _).trans ?_) | (refine (foldl_fixed2 _ (fun _ _ => ?_) _ _).trans ?_) | (refine pair_fixed (by assumption) ?_) | (refine trip_fixed (by assumption) ?_) | (refine pair1_fixed (by assumption) ?_) | (dsimp only) | simp))

theorem bodiesCrossbar_keep : ∀ b ∈ bodiesCrossbar, b.keeps :=
  all_cons bodyNop_keeps <|
  all_cons bodyEcho_keeps <|
  all_cons bodyQueryState_keeps <|
  all_cons bodyCtxReset_keeps <|
  all_cons bodyPortReset_keeps <|
  all_cons bodyDrain_keeps <|
  all_cons bodyRegionSet_keeps <|
  all_cons bodyRegionClear_keeps <|
  all_cons bodyRegionQuery_keeps <|
  all_cons bodyRegionMarkInit_keeps <|
  all_cons bodyViewSet_keeps <|
  all_cons bodyViewClear_keeps <|
  all_cons bodyViewQuery_keeps <|
  all_cons bodyViewStats_keeps <|
  all_cons bodyStallLoad_keeps <|
  all_cons bodyStallSwap_keeps <|
  all_cons bodyStallQuery_keeps <|
  all_cons bodyPrioSet_keeps <|
  all_cons bodyParkSet_keeps <|
  all_cons bodyStarveSet_keeps <| all_nil

theorem bodyShareSet_keeps : bodyShareSet.keeps := by
  intro n c t; simp only [bodyShareSet]; (repeat' (first | (with_reducible rfl) | assumption | (simp; done) | (simp [*]; done) | split | (refine (foldl_fixed _ (fun _ _ => ?_) _ _).trans ?_) | (refine (foldl_fixed2 _ (fun _ _ => ?_) _ _).trans ?_) | (refine pair_fixed (by assumption) ?_) | (refine trip_fixed (by assumption) ?_) | (refine pair1_fixed (by assumption) ?_) | (dsimp only) | simp))

theorem bodyUrgencySet_keeps : bodyUrgencySet.keeps := by
  intro n c t; simp only [bodyUrgencySet]; (repeat' (first | (with_reducible rfl) | assumption | (simp; done) | (simp [*]; done) | split | (refine (foldl_fixed _ (fun _ _ => ?_) _ _).trans ?_) | (refine (foldl_fixed2 _ (fun _ _ => ?_) _ _).trans ?_) | (refine pair_fixed (by assumption) ?_) | (refine trip_fixed (by assumption) ?_) | (refine pair1_fixed (by assumption) ?_) | (dsimp only) | simp))

theorem bodyLatencySet_keeps : bodyLatencySet.keeps := by
  intro n c t; simp only [bodyLatencySet]; (repeat' (first | (with_reducible rfl) | assumption | (simp; done) | (simp [*]; done) | split | (refine (foldl_fixed _ (fun _ _ => ?_) _ _).trans ?_) | (refine (foldl_fixed2 _ (fun _ _ => ?_) _ _).trans ?_) | (refine pair_fixed (by assumption) ?_) | (refine trip_fixed (by assumption) ?_) | (refine pair1_fixed (by assumption) ?_) | (dsimp only) | simp))

theorem bodyBudgetSet_keeps : bodyBudgetSet.keeps := by
  intro n c t; simp only [bodyBudgetSet]; (repeat' (first | (with_reducible rfl) | assumption | (simp; done) | (simp [*]; done) | split | (refine (foldl_fixed _ (fun _ _ => ?_) _ _).trans ?_) | (refine (foldl_fixed2 _ (fun _ _ => ?_) _ _).trans ?_) | (refine pair_fixed (by assumption) ?_) | (refine trip_fixed (by assumption) ?_) | (refine pair1_fixed (by assumption) ?_) | (dsimp only) | simp))

theorem bodyAdmit_keeps : bodyAdmit.keeps := by
  intro n c t; simp only [bodyAdmit]; (repeat' (first | (with_reducible rfl) | assumption | (simp; done) | (simp [*]; done) | split | (refine (foldl_fixed _ (fun _ _ => ?_) _ _).trans ?_) | (refine (foldl_fixed2 _ (fun _ _ => ?_) _ _).trans ?_) | (refine pair_fixed (by assumption) ?_) | (refine trip_fixed (by assumption) ?_) | (refine pair1_fixed (by assumption) ?_) | (dsimp only) | simp))

theorem bodyGuaranteeRelease_keeps : bodyGuaranteeRelease.keeps := by
  intro n c t; simp only [bodyGuaranteeRelease]; (repeat' (first | (with_reducible rfl) | assumption | (simp; done) | (simp [*]; done) | split | (refine (foldl_fixed _ (fun _ _ => ?_) _ _).trans ?_) | (refine (foldl_fixed2 _ (fun _ _ => ?_) _ _).trans ?_) | (refine pair_fixed (by assumption) ?_) | (refine trip_fixed (by assumption) ?_) | (refine pair1_fixed (by assumption) ?_) | (dsimp only) | simp))

theorem bodyPowerLimitSet_keeps : bodyPowerLimitSet.keeps := by
  intro n c t; simp only [bodyPowerLimitSet]; (repeat' (first | (with_reducible rfl) | assumption | (simp; done) | (simp [*]; done) | split | (refine (foldl_fixed _ (fun _ _ => ?_) _ _).trans ?_) | (refine (foldl_fixed2 _ (fun _ _ => ?_) _ _).trans ?_) | (refine pair_fixed (by assumption) ?_) | (refine trip_fixed (by assumption) ?_) | (refine pair1_fixed (by assumption) ?_) | (dsimp only) | simp))

theorem bodyShedQuery_keeps : bodyShedQuery.keeps := by
  intro n c t; simp only [bodyShedQuery]; (repeat' (first | (with_reducible rfl) | assumption | (simp; done) | (simp [*]; done) | split | (refine (foldl_fixed _ (fun _ _ => ?_) _ _).trans ?_) | (refine (foldl_fixed2 _ (fun _ _ => ?_) _ _).trans ?_) | (refine pair_fixed (by assumption) ?_) | (refine trip_fixed (by assumption) ?_) | (refine pair1_fixed (by assumption) ?_) | (dsimp only) | simp))

theorem bodyFoldMap_keeps : bodyFoldMap.keeps := by
  intro n c t; simp only [bodyFoldMap]; (repeat' (first | (with_reducible rfl) | assumption | (simp; done) | (simp [*]; done) | split | (refine (foldl_fixed _ (fun _ _ => ?_) _ _).trans ?_) | (refine (foldl_fixed2 _ (fun _ _ => ?_) _ _).trans ?_) | (refine pair_fixed (by assumption) ?_) | (refine trip_fixed (by assumption) ?_) | (refine pair1_fixed (by assumption) ?_) | (dsimp only) | simp))

theorem bodyFoldCreate_keeps : bodyFoldCreate.keeps := by
  intro n c t; simp only [bodyFoldCreate]; (repeat' (first | (with_reducible rfl) | assumption | (simp; done) | (simp [*]; done) | split | (refine (foldl_fixed _ (fun _ _ => ?_) _ _).trans ?_) | (refine (foldl_fixed2 _ (fun _ _ => ?_) _ _).trans ?_) | (refine pair_fixed (by assumption) ?_) | (refine trip_fixed (by assumption) ?_) | (refine pair1_fixed (by assumption) ?_) | (dsimp only) | simp))

theorem bodyFoldDestroy_keeps : bodyFoldDestroy.keeps := by
  intro n c t; simp only [bodyFoldDestroy]; (repeat' (first | (with_reducible rfl) | assumption | (simp; done) | (simp [*]; done) | split | (refine (foldl_fixed _ (fun _ _ => ?_) _ _).trans ?_) | (refine (foldl_fixed2 _ (fun _ _ => ?_) _ _).trans ?_) | (refine pair_fixed (by assumption) ?_) | (refine trip_fixed (by assumption) ?_) | (refine pair1_fixed (by assumption) ?_) | (dsimp only) | simp))

theorem bodyFoldArm_keeps : bodyFoldArm.keeps := by
  intro n c t; simp only [bodyFoldArm]; (repeat' (first | (with_reducible rfl) | assumption | (simp; done) | (simp [*]; done) | split | (refine (foldl_fixed _ (fun _ _ => ?_) _ _).trans ?_) | (refine (foldl_fixed2 _ (fun _ _ => ?_) _ _).trans ?_) | (refine pair_fixed (by assumption) ?_) | (refine trip_fixed (by assumption) ?_) | (refine pair1_fixed (by assumption) ?_) | (dsimp only) | simp))

theorem bodyFoldQuery_keeps : bodyFoldQuery.keeps := by
  intro n c t; simp only [bodyFoldQuery]; (repeat' (first | (with_reducible rfl) | assumption | (simp; done) | (simp [*]; done) | split | (refine (foldl_fixed _ (fun _ _ => ?_) _ _).trans ?_) | (refine (foldl_fixed2 _ (fun _ _ => ?_) _ _).trans ?_) | (refine pair_fixed (by assumption) ?_) | (refine trip_fixed (by assumption) ?_) | (refine pair1_fixed (by assumption) ?_) | (dsimp only) | simp))

theorem bodyFoldOp_keeps : bodyFoldOp.keeps := by
  intro n c t; simp only [bodyFoldOp]; (repeat' (first | (with_reducible rfl) | assumption | (simp; done) | (simp [*]; done) | split | (refine (foldl_fixed _ (fun _ _ => ?_) _ _).trans ?_) | (refine (foldl_fixed2 _ (fun _ _ => ?_) _ _).trans ?_) | (refine pair_fixed (by assumption) ?_) | (refine trip_fixed (by assumption) ?_) | (refine pair1_fixed (by assumption) ?_) | (dsimp only) | simp))

theorem bodyFoldDump_keeps : bodyFoldDump.keeps := by
  intro n c t; simp only [bodyFoldDump]; (repeat' (first | (with_reducible rfl) | assumption | (simp; done) | (simp [*]; done) | split | (refine (foldl_fixed _ (fun _ _ => ?_) _ _).trans ?_) | (refine (foldl_fixed2 _ (fun _ _ => ?_) _ _).trans ?_) | (refine pair_fixed (by assumption) ?_) | (refine trip_fixed (by assumption) ?_) | (refine pair1_fixed (by assumption) ?_) | (dsimp only) | simp))

theorem bodyPopSet_keeps : bodyPopSet.keeps := by
  intro n c t; simp only [bodyPopSet]; (repeat' (first | (with_reducible rfl) | assumption | (simp; done) | (simp [*]; done) | split | (refine (foldl_fixed _ (fun _ _ => ?_) _ _).trans ?_) | (refine (foldl_fixed2 _ (fun _ _ => ?_) _ _).trans ?_) | (refine pair_fixed (by assumption) ?_) | (refine trip_fixed (by assumption) ?_) | (refine pair1_fixed (by assumption) ?_) | (dsimp only) | simp))

theorem bodyPopClear_keeps : bodyPopClear.keeps := by
  intro n c t; simp only [bodyPopClear]; (repeat' (first | (with_reducible rfl) | assumption | (simp; done) | (simp [*]; done) | split | (refine (foldl_fixed _ (fun _ _ => ?_) _ _).trans ?_) | (refine (foldl_fixed2 _ (fun _ _ => ?_) _ _).trans ?_) | (refine pair_fixed (by assumption) ?_) | (refine trip_fixed (by assumption) ?_) | (refine pair1_fixed (by assumption) ?_) | (dsimp only) | simp))

theorem bodyPopUntaint_keeps : bodyPopUntaint.keeps := by
  intro n c t; simp only [bodyPopUntaint]; (repeat' (first | (with_reducible rfl) | assumption | (simp; done) | (simp [*]; done) | split | (refine (foldl_fixed _ (fun _ _ => ?_) _ _).trans ?_) | (refine (foldl_fixed2 _ (fun _ _ => ?_) _ _).trans ?_) | (refine pair_fixed (by assumption) ?_) | (refine trip_fixed (by assumption) ?_) | (refine pair1_fixed (by assumption) ?_) | (dsimp only) | simp))

theorem bodyEvrouteSet_keeps : bodyEvrouteSet.keeps := by
  intro n c t; simp only [bodyEvrouteSet]; (repeat' (first | (with_reducible rfl) | assumption | (simp; done) | (simp [*]; done) | split | (refine (foldl_fixed _ (fun _ _ => ?_) _ _).trans ?_) | (refine (foldl_fixed2 _ (fun _ _ => ?_) _ _).trans ?_) | (refine pair_fixed (by assumption) ?_) | (refine trip_fixed (by assumption) ?_) | (refine pair1_fixed (by assumption) ?_) | (dsimp only) | simp))

theorem bodyPopQuery_keeps : bodyPopQuery.keeps := by
  intro n c t; simp only [bodyPopQuery]; (repeat' (first | (with_reducible rfl) | assumption | (simp; done) | (simp [*]; done) | split | (refine (foldl_fixed _ (fun _ _ => ?_) _ _).trans ?_) | (refine (foldl_fixed2 _ (fun _ _ => ?_) _ _).trans ?_) | (refine pair_fixed (by assumption) ?_) | (refine trip_fixed (by assumption) ?_) | (refine pair1_fixed (by assumption) ?_) | (dsimp only) | simp))

theorem bodyPopStage_keeps : bodyPopStage.keeps := by
  intro n c t; simp only [bodyPopStage]; (repeat' (first | (with_reducible rfl) | assumption | (simp; done) | (simp [*]; done) | split | (refine (foldl_fixed _ (fun _ _ => ?_) _ _).trans ?_) | (refine (foldl_fixed2 _ (fun _ _ => ?_) _ _).trans ?_) | (refine pair_fixed (by assumption) ?_) | (refine trip_fixed (by assumption) ?_) | (refine pair1_fixed (by assumption) ?_) | (dsimp only) | simp))

theorem bodyPopUnstage_keeps : bodyPopUnstage.keeps := by
  intro n c t; simp only [bodyPopUnstage]; (repeat' (first | (with_reducible rfl) | assumption | (simp; done) | (simp [*]; done) | split | (refine (foldl_fixed _ (fun _ _ => ?_) _ _).trans ?_) | (refine (foldl_fixed2 _ (fun _ _ => ?_) _ _).trans ?_) | (refine pair_fixed (by assumption) ?_) | (refine trip_fixed (by assumption) ?_) | (refine pair1_fixed (by assumption) ?_) | (dsimp only) | simp))

theorem bodyStep_keeps : bodyStep.keeps := by
  intro n c t; simp only [bodyStep]; (repeat' (first | (with_reducible rfl) | assumption | (simp; done) | (simp [*]; done) | split | (refine (foldl_fixed _ (fun _ _ => ?_) _ _).trans ?_) | (refine (foldl_fixed2 _ (fun _ _ => ?_) _ _).trans ?_) | (refine pair_fixed (by assumption) ?_) | (refine trip_fixed (by assumption) ?_) | (refine pair1_fixed (by assumption) ?_) | (dsimp only) | simp))

theorem bodiesEngine_keep : ∀ b ∈ bodiesEngine, b.keeps :=
  all_cons bodyShareSet_keeps <|
  all_cons bodyUrgencySet_keeps <|
  all_cons bodyLatencySet_keeps <|
  all_cons bodyBudgetSet_keeps <|
  all_cons bodyAdmit_keeps <|
  all_cons bodyGuaranteeRelease_keeps <|
  all_cons bodyPowerLimitSet_keeps <|
  all_cons bodyShedQuery_keeps <|
  all_cons bodyFoldMap_keeps <|
  all_cons bodyFoldCreate_keeps <|
  all_cons bodyFoldDestroy_keeps <|
  all_cons bodyFoldArm_keeps <|
  all_cons bodyFoldOp_keeps <|
  all_cons bodyFoldQuery_keeps <|
  all_cons bodyFoldDump_keeps <|
  all_cons bodyPopSet_keeps <|
  all_cons bodyPopClear_keeps <|
  all_cons bodyPopQuery_keeps <|
  all_cons bodyPopStage_keeps <|
  all_cons bodyPopUnstage_keeps <|
  all_cons bodyStep_keeps <|
  all_cons bodyPopUntaint_keeps <|
  all_cons bodyEvrouteSet_keeps <| all_nil

theorem bodyWindowSet_keeps : bodyWindowSet.keeps := by
  intro n c t; simp only [bodyWindowSet]; (repeat' (first | (with_reducible rfl) | assumption | (simp; done) | (simp [*]; done) | split | (refine (foldl_fixed _ (fun _ _ => ?_) _ _).trans ?_) | (refine (foldl_fixed2 _ (fun _ _ => ?_) _ _).trans ?_) | (refine pair_fixed (by assumption) ?_) | (refine trip_fixed (by assumption) ?_) | (refine pair1_fixed (by assumption) ?_) | (dsimp only) | simp))

theorem bodyWindowClear_keeps : bodyWindowClear.keeps := by
  intro n c t; simp only [bodyWindowClear]; (repeat' (first | (with_reducible rfl) | assumption | (simp; done) | (simp [*]; done) | split | (refine (foldl_fixed _ (fun _ _ => ?_) _ _).trans ?_) | (refine (foldl_fixed2 _ (fun _ _ => ?_) _ _).trans ?_) | (refine pair_fixed (by assumption) ?_) | (refine trip_fixed (by assumption) ?_) | (refine pair1_fixed (by assumption) ?_) | (dsimp only) | simp))

theorem bodyWindowQuery_keeps : bodyWindowQuery.keeps := by
  intro n c t; simp only [bodyWindowQuery]; (repeat' (first | (with_reducible rfl) | assumption | (simp; done) | (simp [*]; done) | split | (refine (foldl_fixed _ (fun _ _ => ?_) _ _).trans ?_) | (refine (foldl_fixed2 _ (fun _ _ => ?_) _ _).trans ?_) | (refine pair_fixed (by assumption) ?_) | (refine trip_fixed (by assumption) ?_) | (refine pair1_fixed (by assumption) ?_) | (dsimp only) | simp))

theorem bodyChipIdSet_keeps : bodyChipIdSet.keeps := by
  intro n c t; simp only [bodyChipIdSet]; (repeat' (first | (with_reducible rfl) | assumption | (simp; done) | (simp [*]; done) | split | (refine (foldl_fixed _ (fun _ _ => ?_) _ _).trans ?_) | (refine (foldl_fixed2 _ (fun _ _ => ?_) _ _).trans ?_) | (refine pair_fixed (by assumption) ?_) | (refine trip_fixed (by assumption) ?_) | (refine pair1_fixed (by assumption) ?_) | (dsimp only) | simp))

theorem bodyEpochSet_keeps : bodyEpochSet.keeps := by
  intro n c t; simp only [bodyEpochSet]; (repeat' (first | (with_reducible rfl) | assumption | (simp; done) | (simp [*]; done) | split | (refine (foldl_fixed _ (fun _ _ => ?_) _ _).trans ?_) | (refine (foldl_fixed2 _ (fun _ _ => ?_) _ _).trans ?_) | (refine pair_fixed (by assumption) ?_) | (refine trip_fixed (by assumption) ?_) | (refine pair1_fixed (by assumption) ?_) | (dsimp only) | simp))

theorem bodyRetrySet_keeps : bodyRetrySet.keeps := by
  intro n c t; simp only [bodyRetrySet]; (repeat' (first | (with_reducible rfl) | assumption | (simp; done) | (simp [*]; done) | split | (refine (foldl_fixed _ (fun _ _ => ?_) _ _).trans ?_) | (refine (foldl_fixed2 _ (fun _ _ => ?_) _ _).trans ?_) | (refine pair_fixed (by assumption) ?_) | (refine trip_fixed (by assumption) ?_) | (refine pair1_fixed (by assumption) ?_) | (dsimp only) | simp))

theorem bodyLinkQuery_keeps : bodyLinkQuery.keeps := by
  intro n c t; simp only [bodyLinkQuery]; (repeat' (first | (with_reducible rfl) | assumption | (simp; done) | (simp [*]; done) | split | (refine (foldl_fixed _ (fun _ _ => ?_) _ _).trans ?_) | (refine (foldl_fixed2 _ (fun _ _ => ?_) _ _).trans ?_) | (refine pair_fixed (by assumption) ?_) | (refine trip_fixed (by assumption) ?_) | (refine pair1_fixed (by assumption) ?_) | (dsimp only) | simp))

theorem bodyLinkReset_keeps : bodyLinkReset.keeps := by
  intro n c t; simp only [bodyLinkReset]; (repeat' (first | (with_reducible rfl) | assumption | (simp; done) | (simp [*]; done) | split | (refine (foldl_fixed _ (fun _ _ => ?_) _ _).trans ?_) | (refine (foldl_fixed2 _ (fun _ _ => ?_) _ _).trans ?_) | (refine pair_fixed (by assumption) ?_) | (refine trip_fixed (by assumption) ?_) | (refine pair1_fixed (by assumption) ?_) | (dsimp only) | simp))

theorem bodyDrvFill_keeps : bodyDrvFill.keeps := by
  intro n c t; simp only [bodyDrvFill]; (repeat' (first | (with_reducible rfl) | assumption | (simp; done) | (simp [*]; done) | split | (refine (foldl_fixed _ (fun _ _ => ?_) _ _).trans ?_) | (refine (foldl_fixed2 _ (fun _ _ => ?_) _ _).trans ?_) | (refine pair_fixed (by assumption) ?_) | (refine trip_fixed (by assumption) ?_) | (refine pair1_fixed (by assumption) ?_) | (dsimp only) | simp))

theorem bodyDrvCopy_keeps : bodyDrvCopy.keeps := by
  intro n c t; simp only [bodyDrvCopy]; (repeat' (first | (with_reducible rfl) | assumption | (simp; done) | (simp [*]; done) | split | (refine (foldl_fixed _ (fun _ _ => ?_) _ _).trans ?_) | (refine (foldl_fixed2 _ (fun _ _ => ?_) _ _).trans ?_) | (refine pair_fixed (by assumption) ?_) | (refine trip_fixed (by assumption) ?_) | (refine pair1_fixed (by assumption) ?_) | (dsimp only) | simp))

theorem bodyDrvConvert_keeps : bodyDrvConvert.keeps := by
  intro n c t; simp only [bodyDrvConvert]; (repeat' (first | (with_reducible rfl) | assumption | (simp; done) | (simp [*]; done) | split | (refine (foldl_fixed _ (fun _ _ => ?_) _ _).trans ?_) | (refine (foldl_fixed2 _ (fun _ _ => ?_) _ _).trans ?_) | (refine pair_fixed (by assumption) ?_) | (refine trip_fixed (by assumption) ?_) | (refine pair1_fixed (by assumption) ?_) | (dsimp only) | simp))

theorem bodyDrvCancel_keeps : bodyDrvCancel.keeps := by
  intro n c t; simp only [bodyDrvCancel]; (repeat' (first | (with_reducible rfl) | assumption | (simp; done) | (simp [*]; done) | split | (refine (foldl_fixed _ (fun _ _ => ?_) _ _).trans ?_) | (refine (foldl_fixed2 _ (fun _ _ => ?_) _ _).trans ?_) | (refine pair_fixed (by assumption) ?_) | (refine trip_fixed (by assumption) ?_) | (refine pair1_fixed (by assumption) ?_) | (dsimp only) | simp))

theorem bodyDrvQuery_keeps : bodyDrvQuery.keeps := by
  intro n c t; simp only [bodyDrvQuery]; (repeat' (first | (with_reducible rfl) | assumption | (simp; done) | (simp [*]; done) | split | (refine (foldl_fixed _ (fun _ _ => ?_) _ _).trans ?_) | (refine (foldl_fixed2 _ (fun _ _ => ?_) _ _).trans ?_) | (refine pair_fixed (by assumption) ?_) | (refine trip_fixed (by assumption) ?_) | (refine pair1_fixed (by assumption) ?_) | (dsimp only) | simp))

theorem bodyScrubSet_keeps : bodyScrubSet.keeps := by
  intro n c t; simp only [bodyScrubSet]; (repeat' (first | (with_reducible rfl) | assumption | (simp; done) | (simp [*]; done) | split | (refine (foldl_fixed _ (fun _ _ => ?_) _ _).trans ?_) | (refine (foldl_fixed2 _ (fun _ _ => ?_) _ _).trans ?_) | (refine pair_fixed (by assumption) ?_) | (refine trip_fixed (by assumption) ?_) | (refine pair1_fixed (by assumption) ?_) | (dsimp only) | simp))

theorem bodyPatchSet_keeps : bodyPatchSet.keeps := by
  intro n c t; simp only [bodyPatchSet]; (repeat' (first | (with_reducible rfl) | assumption | (simp; done) | (simp [*]; done) | split | (refine (foldl_fixed _ (fun _ _ => ?_) _ _).trans ?_) | (refine (foldl_fixed2 _ (fun _ _ => ?_) _ _).trans ?_) | (refine pair_fixed (by assumption) ?_) | (refine trip_fixed (by assumption) ?_) | (refine pair1_fixed (by assumption) ?_) | (dsimp only) | simp))

theorem bodyPatchQuery_keeps : bodyPatchQuery.keeps := by
  intro n c t; simp only [bodyPatchQuery]; (repeat' (first | (with_reducible rfl) | assumption | (simp; done) | (simp [*]; done) | split | (refine (foldl_fixed _ (fun _ _ => ?_) _ _).trans ?_) | (refine (foldl_fixed2 _ (fun _ _ => ?_) _ _).trans ?_) | (refine pair_fixed (by assumption) ?_) | (refine trip_fixed (by assumption) ?_) | (refine pair1_fixed (by assumption) ?_) | (dsimp only) | simp))

theorem bodyLaneRetire_keeps : bodyLaneRetire.keeps := by
  intro n c t; simp only [bodyLaneRetire]; (repeat' (first | (with_reducible rfl) | assumption | (simp; done) | (simp [*]; done) | split | (refine (foldl_fixed _ (fun _ _ => ?_) _ _).trans ?_) | (refine (foldl_fixed2 _ (fun _ _ => ?_) _ _).trans ?_) | (refine pair_fixed (by assumption) ?_) | (refine trip_fixed (by assumption) ?_) | (refine pair1_fixed (by assumption) ?_) | (dsimp only) | simp))

theorem bodyIntegQuery_keeps : bodyIntegQuery.keeps := by
  intro n c t; simp only [bodyIntegQuery]; (repeat' (first | (with_reducible rfl) | assumption | (simp; done) | (simp [*]; done) | split | (refine (foldl_fixed _ (fun _ _ => ?_) _ _).trans ?_) | (refine (foldl_fixed2 _ (fun _ _ => ?_) _ _).trans ?_) | (refine pair_fixed (by assumption) ?_) | (refine trip_fixed (by assumption) ?_) | (refine pair1_fixed (by assumption) ?_) | (dsimp only) | simp))

theorem bodyFlipArm_keeps : bodyFlipArm.keeps := by
  intro n c t; simp only [bodyFlipArm]; (repeat' (first | (with_reducible rfl) | assumption | (simp; done) | (simp [*]; done) | split | (refine (foldl_fixed _ (fun _ _ => ?_) _ _).trans ?_) | (refine (foldl_fixed2 _ (fun _ _ => ?_) _ _).trans ?_) | (refine pair_fixed (by assumption) ?_) | (refine trip_fixed (by assumption) ?_) | (refine pair1_fixed (by assumption) ?_) | (dsimp only) | simp))

theorem bodyDrvEvacuate_keeps : bodyDrvEvacuate.keeps := by
  intro n c t; simp only [bodyDrvEvacuate]; (repeat' (first | (with_reducible rfl) | assumption | (simp; done) | (simp [*]; done) | split | (refine (foldl_fixed _ (fun _ _ => ?_) _ _).trans ?_) | (refine (foldl_fixed2 _ (fun _ _ => ?_) _ _).trans ?_) | (refine pair_fixed (by assumption) ?_) | (refine trip_fixed (by assumption) ?_) | (refine pair1_fixed (by assumption) ?_) | (dsimp only) | simp))

theorem bodyBistRun_keeps : bodyBistRun.keeps := by
  intro n c t; simp only [bodyBistRun]; (repeat' (first | (with_reducible rfl) | assumption | (simp; done) | (simp [*]; done) | split | (refine (foldl_fixed _ (fun _ _ => ?_) _ _).trans ?_) | (refine (foldl_fixed2 _ (fun _ _ => ?_) _ _).trans ?_) | (refine pair_fixed (by assumption) ?_) | (refine trip_fixed (by assumption) ?_) | (refine pair1_fixed (by assumption) ?_) | (dsimp only) | simp))

theorem bodyBistQuery_keeps : bodyBistQuery.keeps := by
  intro n c t; simp only [bodyBistQuery]; (repeat' (first | (with_reducible rfl) | assumption | (simp; done) | (simp [*]; done) | split | (refine (foldl_fixed _ (fun _ _ => ?_) _ _).trans ?_) | (refine (foldl_fixed2 _ (fun _ _ => ?_) _ _).trans ?_) | (refine pair_fixed (by assumption) ?_) | (refine trip_fixed (by assumption) ?_) | (refine pair1_fixed (by assumption) ?_) | (dsimp only) | simp))

theorem bodyPenBank_keeps : bodyPenBank.keeps := by
  intro n c t; simp only [bodyPenBank]; (repeat' (first | (with_reducible rfl) | assumption | (simp; done) | (simp [*]; done) | split | (refine (foldl_fixed _ (fun _ _ => ?_) _ _).trans ?_) | (refine (foldl_fixed2 _ (fun _ _ => ?_) _ _).trans ?_) | (refine pair_fixed (by assumption) ?_) | (refine trip_fixed (by assumption) ?_) | (refine pair1_fixed (by assumption) ?_) | (dsimp only) | simp))

theorem bodiesUpkeep_keep : ∀ b ∈ bodiesUpkeep, b.keeps :=
  all_cons bodyDrvFill_keeps <|
  all_cons bodyDrvCopy_keeps <|
  all_cons bodyDrvConvert_keeps <|
  all_cons bodyDrvEvacuate_keeps <|
  all_cons bodyDrvCancel_keeps <|
  all_cons bodyDrvQuery_keeps <|
  all_cons bodyWindowSet_keeps <|
  all_cons bodyWindowClear_keeps <|
  all_cons bodyWindowQuery_keeps <|
  all_cons bodyChipIdSet_keeps <|
  all_cons bodyEpochSet_keeps <|
  all_cons bodyLinkReset_keeps <|
  all_cons bodyLinkQuery_keeps <|
  all_cons bodyRetrySet_keeps <|
  all_cons bodyScrubSet_keeps <|
  all_cons bodyPatchSet_keeps <|
  all_cons bodyPatchQuery_keeps <|
  all_cons bodyLaneRetire_keeps <|
  all_cons bodyIntegQuery_keeps <|
  all_cons bodyBistRun_keeps <|
  all_cons bodyBistQuery_keeps <|
  all_cons bodyPenBank_keeps <|
  all_cons bodyFlipArm_keeps <| all_nil

theorem bodyFlipMaskSet_keeps : bodyFlipMaskSet.keeps := by
  intro n c t; simp only [bodyFlipMaskSet]; (repeat' (first | (with_reducible rfl) | assumption | (simp; done) | (simp [*]; done) | split | (refine (foldl_fixed _ (fun _ _ => ?_) _ _).trans ?_) | (refine (foldl_fixed2 _ (fun _ _ => ?_) _ _).trans ?_) | (refine pair_fixed (by assumption) ?_) | (refine trip_fixed (by assumption) ?_) | (refine pair1_fixed (by assumption) ?_) | (dsimp only) | simp))

theorem bodyPwrStateSet_keeps : bodyPwrStateSet.keeps := by
  intro n c t; simp only [bodyPwrStateSet]; (repeat' (first | (with_reducible rfl) | assumption | (simp; done) | (simp [*]; done) | split | (refine (foldl_fixed _ (fun _ _ => ?_) _ _).trans ?_) | (refine (foldl_fixed2 _ (fun _ _ => ?_) _ _).trans ?_) | (refine pair_fixed (by assumption) ?_) | (refine trip_fixed (by assumption) ?_) | (refine pair1_fixed (by assumption) ?_) | (dsimp only) | simp))

theorem bodyIdleTimerSet_keeps : bodyIdleTimerSet.keeps := by
  intro n c t; simp only [bodyIdleTimerSet]; (repeat' (first | (with_reducible rfl) | assumption | (simp; done) | (simp [*]; done) | split | (refine (foldl_fixed _ (fun _ _ => ?_) _ _).trans ?_) | (refine (foldl_fixed2 _ (fun _ _ => ?_) _ _).trans ?_) | (refine pair_fixed (by assumption) ?_) | (refine trip_fixed (by assumption) ?_) | (refine pair1_fixed (by assumption) ?_) | (dsimp only) | simp))

theorem bodyOppointSet_keeps : bodyOppointSet.keeps := by
  intro n c t; simp only [bodyOppointSet]; (repeat' (first | (with_reducible rfl) | assumption | (simp; done) | (simp [*]; done) | split | (refine (foldl_fixed _ (fun _ _ => ?_) _ _).trans ?_) | (refine (foldl_fixed2 _ (fun _ _ => ?_) _ _).trans ?_) | (refine pair_fixed (by assumption) ?_) | (refine trip_fixed (by assumption) ?_) | (refine pair1_fixed (by assumption) ?_) | (dsimp only) | simp))

theorem bodyPwrQuery_keeps : bodyPwrQuery.keeps := by
  intro n c t; simp only [bodyPwrQuery]; (repeat' (first | (with_reducible rfl) | assumption | (simp; done) | (simp [*]; done) | split | (refine (foldl_fixed _ (fun _ _ => ?_) _ _).trans ?_) | (refine (foldl_fixed2 _ (fun _ _ => ?_) _ _).trans ?_) | (refine pair_fixed (by assumption) ?_) | (refine trip_fixed (by assumption) ?_) | (refine pair1_fixed (by assumption) ?_) | (dsimp only) | simp))

theorem bodyTimeSet_keeps : bodyTimeSet.keeps := by
  intro n c t; show (State.powerEvent (State.onTime _ _) _ _ _).fixed = _; rw [State.powerEvent_fixed, State.onTime_fixed]

theorem bodyTimeQuery_keeps : bodyTimeQuery.keeps := by
  intro n c t; simp only [bodyTimeQuery]; (repeat' (first | (with_reducible rfl) | assumption | (simp; done) | (simp [*]; done) | split | (refine (foldl_fixed _ (fun _ _ => ?_) _ _).trans ?_) | (refine (foldl_fixed2 _ (fun _ _ => ?_) _ _).trans ?_) | (refine pair_fixed (by assumption) ?_) | (refine trip_fixed (by assumption) ?_) | (refine pair1_fixed (by assumption) ?_) | (dsimp only) | simp))

theorem bodyTsyncCfg_keeps : bodyTsyncCfg.keeps := by
  intro n c t; simp only [bodyTsyncCfg]; (repeat' (first | (with_reducible rfl) | assumption | (simp; done) | (simp [*]; done) | split | (refine (foldl_fixed _ (fun _ _ => ?_) _ _).trans ?_) | (refine (foldl_fixed2 _ (fun _ _ => ?_) _ _).trans ?_) | (refine pair_fixed (by assumption) ?_) | (refine trip_fixed (by assumption) ?_) | (refine pair1_fixed (by assumption) ?_) | (dsimp only) | simp))

theorem bodyWakeAinCfg_keeps : bodyWakeAinCfg.keeps := by
  intro n c t; simp only [bodyWakeAinCfg]; (repeat' (first | (with_reducible rfl) | assumption | (simp; done) | (simp [*]; done) | split | (refine (foldl_fixed _ (fun _ _ => ?_) _ _).trans ?_) | (refine (foldl_fixed2 _ (fun _ _ => ?_) _ _).trans ?_) | (refine pair_fixed (by assumption) ?_) | (refine trip_fixed (by assumption) ?_) | (refine pair1_fixed (by assumption) ?_) | (dsimp only) | simp))

theorem bodyTimerWakeSet_keeps : bodyTimerWakeSet.keeps := by
  intro n c t; simp only [bodyTimerWakeSet]; (repeat' (first | (with_reducible rfl) | assumption | (simp; done) | (simp [*]; done) | split | (refine (foldl_fixed _ (fun _ _ => ?_) _ _).trans ?_) | (refine (foldl_fixed2 _ (fun _ _ => ?_) _ _).trans ?_) | (refine pair_fixed (by assumption) ?_) | (refine trip_fixed (by assumption) ?_) | (refine pair1_fixed (by assumption) ?_) | (dsimp only) | simp))

theorem bodyFwQuery_keeps : bodyFwQuery.keeps := by
  intro n c t; simp only [bodyFwQuery]; (repeat' (first | (with_reducible rfl) | assumption | (simp; done) | (simp [*]; done) | split | (refine (foldl_fixed _ (fun _ _ => ?_) _ _).trans ?_) | (refine (foldl_fixed2 _ (fun _ _ => ?_) _ _).trans ?_) | (refine pair_fixed (by assumption) ?_) | (refine trip_fixed (by assumption) ?_) | (refine pair1_fixed (by assumption) ?_) | (dsimp only) | simp))

theorem bodyActivateAt_keeps : bodyActivateAt.keeps := by
  intro n c t; simp only [bodyActivateAt]; (repeat' (first | (with_reducible rfl) | assumption | (simp; done) | (simp [*]; done) | split | (refine (foldl_fixed _ (fun _ _ => ?_) _ _).trans ?_) | (refine (foldl_fixed2 _ (fun _ _ => ?_) _ _).trans ?_) | (refine pair_fixed (by assumption) ?_) | (refine trip_fixed (by assumption) ?_) | (refine pair1_fixed (by assumption) ?_) | (dsimp only) | simp))

theorem bodyHealthOk_keeps : bodyHealthOk.keeps := by
  intro n c t; simp only [bodyHealthOk]; (repeat' (first | (with_reducible rfl) | assumption | (simp; done) | (simp [*]; done) | split | (refine (foldl_fixed _ (fun _ _ => ?_) _ _).trans ?_) | (refine (foldl_fixed2 _ (fun _ _ => ?_) _ _).trans ?_) | (refine pair_fixed (by assumption) ?_) | (refine trip_fixed (by assumption) ?_) | (refine pair1_fixed (by assumption) ?_) | (dsimp only) | simp))

theorem bodyConfirmWindowSet_keeps : bodyConfirmWindowSet.keeps := by
  intro n c t; simp only [bodyConfirmWindowSet]; (repeat' (first | (with_reducible rfl) | assumption | (simp; done) | (simp [*]; done) | split | (refine (foldl_fixed _ (fun _ _ => ?_) _ _).trans ?_) | (refine (foldl_fixed2 _ (fun _ _ => ?_) _ _).trans ?_) | (refine pair_fixed (by assumption) ?_) | (refine trip_fixed (by assumption) ?_) | (refine pair1_fixed (by assumption) ?_) | (dsimp only) | simp))

theorem bodySettingsRead_keeps : bodySettingsRead.keeps := by
  intro n c t; simp only [bodySettingsRead]; (repeat' (first | (with_reducible rfl) | assumption | (simp; done) | (simp [*]; done) | split | (refine (foldl_fixed _ (fun _ _ => ?_) _ _).trans ?_) | (refine (foldl_fixed2 _ (fun _ _ => ?_) _ _).trans ?_) | (refine pair_fixed (by assumption) ?_) | (refine trip_fixed (by assumption) ?_) | (refine pair1_fixed (by assumption) ?_) | (dsimp only) | simp))

theorem bodySettingsWrite_keeps : bodySettingsWrite.keeps := by
  intro n c t; simp only [bodySettingsWrite]; (repeat' (first | (with_reducible rfl) | assumption | (simp; done) | (simp [*]; done) | split | (refine (foldl_fixed _ (fun _ _ => ?_) _ _).trans ?_) | (refine (foldl_fixed2 _ (fun _ _ => ?_) _ _).trans ?_) | (refine pair_fixed (by assumption) ?_) | (refine trip_fixed (by assumption) ?_) | (refine pair1_fixed (by assumption) ?_) | (dsimp only) | simp))

theorem bodySettingsDefault_keeps : bodySettingsDefault.keeps := by
  intro n c t; simp only [bodySettingsDefault]; (repeat' (first | (with_reducible rfl) | assumption | (simp; done) | (simp [*]; done) | split | (refine (foldl_fixed _ (fun _ _ => ?_) _ _).trans ?_) | (refine (foldl_fixed2 _ (fun _ _ => ?_) _ _).trans ?_) | (refine pair_fixed (by assumption) ?_) | (refine trip_fixed (by assumption) ?_) | (refine pair1_fixed (by assumption) ?_) | (dsimp only) | simp))

theorem bodySafeHoldExit_keeps : bodySafeHoldExit.keeps := by
  intro n c t; simp only [bodySafeHoldExit]; (repeat' (first | (with_reducible rfl) | assumption | (simp; done) | (simp [*]; done) | split | (refine (foldl_fixed _ (fun _ _ => ?_) _ _).trans ?_) | (refine (foldl_fixed2 _ (fun _ _ => ?_) _ _).trans ?_) | (refine pair_fixed (by assumption) ?_) | (refine trip_fixed (by assumption) ?_) | (refine pair1_fixed (by assumption) ?_) | (dsimp only) | simp))

theorem bodyHalfReset_keeps : bodyHalfReset.keeps := by
  intro n c t; simp only [bodyHalfReset]; (repeat' (first | (with_reducible rfl) | assumption | (simp; done) | (simp [*]; done) | split | (refine (foldl_fixed _ (fun _ _ => ?_) _ _).trans ?_) | (refine (foldl_fixed2 _ (fun _ _ => ?_) _ _).trans ?_) | (refine pair_fixed (by assumption) ?_) | (refine trip_fixed (by assumption) ?_) | (refine pair1_fixed (by assumption) ?_) | (dsimp only) | simp))

theorem bodyCrookAssign_keeps : bodyCrookAssign.keeps := by
  intro n c t; simp only [bodyCrookAssign]; (repeat' (first | (with_reducible rfl) | assumption | (simp; done) | (simp [*]; done) | split | (refine (foldl_fixed _ (fun _ _ => ?_) _ _).trans ?_) | (refine (foldl_fixed2 _ (fun _ _ => ?_) _ _).trans ?_) | (refine pair_fixed (by assumption) ?_) | (refine trip_fixed (by assumption) ?_) | (refine pair1_fixed (by assumption) ?_) | (dsimp only) | simp))

theorem bodyLedgerRead_keeps : bodyLedgerRead.keeps := by
  intro n c t; simp only [bodyLedgerRead]; (repeat' (first | (with_reducible rfl) | assumption | (simp; done) | (simp [*]; done) | split | (refine (foldl_fixed _ (fun _ _ => ?_) _ _).trans ?_) | (refine (foldl_fixed2 _ (fun _ _ => ?_) _ _).trans ?_) | (refine pair_fixed (by assumption) ?_) | (refine trip_fixed (by assumption) ?_) | (refine pair1_fixed (by assumption) ?_) | (dsimp only) | simp))

theorem bodySafetyCfg_keeps : bodySafetyCfg.keeps := by
  intro n c t; simp only [bodySafetyCfg]; (repeat' (first | (with_reducible rfl) | assumption | (simp; done) | (simp [*]; done) | split | (refine (foldl_fixed _ (fun _ _ => ?_) _ _).trans ?_) | (refine (foldl_fixed2 _ (fun _ _ => ?_) _ _).trans ?_) | (refine pair_fixed (by assumption) ?_) | (refine trip_fixed (by assumption) ?_) | (refine pair1_fixed (by assumption) ?_) | (dsimp only) | simp))

theorem bodyLifecycleSet_keeps : bodyLifecycleSet.keeps := by
  intro n c t; simp only [bodyLifecycleSet]; (repeat' (first | (with_reducible rfl) | assumption | (simp; done) | (simp [*]; done) | split | (refine (foldl_fixed _ (fun _ _ => ?_) _ _).trans ?_) | (refine (foldl_fixed2 _ (fun _ _ => ?_) _ _).trans ?_) | (refine pair_fixed (by assumption) ?_) | (refine trip_fixed (by assumption) ?_) | (refine pair1_fixed (by assumption) ?_) | (dsimp only) | simp))

theorem bodiesSystem_keep : ∀ b ∈ bodiesSystem, b.keeps :=
  all_cons bodyPwrStateSet_keeps <|
  all_cons bodyIdleTimerSet_keeps <|
  all_cons bodyOppointSet_keeps <|
  all_cons bodyPwrQuery_keeps <|
  all_cons bodyTimeSet_keeps <|
  all_cons bodyTimeQuery_keeps <|
  all_cons bodyTsyncCfg_keeps <|
  all_cons bodyWakeAinCfg_keeps <|
  all_cons bodyTimerWakeSet_keeps <|
  all_cons bodyFwQuery_keeps <|
  all_cons bodyActivateAt_keeps <|
  all_cons bodyHealthOk_keeps <|
  all_cons bodyConfirmWindowSet_keeps <|
  all_cons bodySettingsRead_keeps <|
  all_cons bodySettingsWrite_keeps <|
  all_cons bodySettingsDefault_keeps <|
  all_cons bodySafeHoldExit_keeps <|
  all_cons bodyHalfReset_keeps <|
  all_cons bodyCrookAssign_keeps <|
  all_cons bodyFlipMaskSet_keeps <|
  all_cons bodyLedgerRead_keeps <|
  all_cons bodySafetyCfg_keeps <|
  all_cons bodyLifecycleSet_keeps <| all_nil

theorem bodies_keep : ∀ b ∈ bodies, b.keeps :=
  all_append (all_append (all_append bodiesCrossbar_keep bodiesEngine_keep) bodiesUpkeep_keep) bodiesSystem_keep

theorem bodyOf_keeps {op : ℕ} {b : Body} (h : bodyOf op = some b) : b.keeps :=
  bodies_keep b (List.mem_of_find?_eq_some h)

@[simp] theorem State.takeCmd_fixed (s : State) (id : ℕ) : (State.takeCmd s id).fixed = s.fixed := by
  unfold State.takeCmd
  split
  · rfl
  split
  · simp
  · exact State.accept_fixed _ _ _ (fun _ h => bodyOf_keeps h)

@[simp] theorem State.takePacket_fixed (s : State) (n : ℕ) (c : Cmd) :
    (State.takePacket s n c).fixed = s.fixed := by
  unfold State.takePacket
  rw [State.accept_fixed _ _ _ (fun _ h => bodyOf_keeps h)]; rfl

@[simp] theorem State.acceptGiven_fixed (s : State) (g : Given) : (State.acceptGiven s g).fixed = s.fixed := by
  unfold State.acceptGiven
  split
  · rw [State.accept_fixed _ _ _ (fun _ h => bodyOf_keeps h)]; exact State.onWindow_fixed _ _ _
  · simp
  · simp

theorem State.acceptOne_fixed {s t : State} (h : s.acceptOne = some t) : t.fixed = s.fixed := by
  unfold State.acceptOne at h
  split at h
  · cases h
  split at h
  · cases h; simp
  · cases h

theorem bodyOf_got_fixed {op : ℕ} {b : Body} (h : bodyOf op = some b) (g : Got) (n : ℕ) (c : Cmd) (t : State) :
    (b.actGot g n c t).state.fixed = t.fixed := by
  rcases bodyOf_got h with e | rfl | rfl
  · rw [e]; exact bodyOf_keeps h n c t
  · simp only [bodyStallLoad]; (repeat' (first | (with_reducible rfl) | assumption | (simp; done) | (simp [*]; done) | split | (refine (foldl_fixed _ (fun _ _ => ?_) _ _).trans ?_) | (refine (foldl_fixed2 _ (fun _ _ => ?_) _ _).trans ?_) | (refine pair_fixed (by assumption) ?_) | (refine trip_fixed (by assumption) ?_) | (refine pair1_fixed (by assumption) ?_) | (dsimp only) | simp))
  · simp only [bodyAdmit]; (repeat' (first | (with_reducible rfl) | assumption | (simp; done) | (simp [*]; done) | split | (refine (foldl_fixed _ (fun _ _ => ?_) _ _).trans ?_) | (refine (foldl_fixed2 _ (fun _ _ => ?_) _ _).trans ?_) | (refine pair_fixed (by assumption) ?_) | (refine trip_fixed (by assumption) ?_) | (refine pair1_fixed (by assumption) ?_) | (dsimp only) | simp))

theorem State.settleOne_fixed {s t : State} (h : s.settleOne = some t) : t.fixed = s.fixed := by
  unfold State.settleOne at h
  split at h
  · cases h; exact State.acceptOne_fixed (by assumption)
  split at h
  · rename_i e
    obtain ⟨w, -, hw⟩ := List.exists_of_findSome?_eq_some e
    cases h; exact State.readOver_fixed (fun _ _ hb => bodyOf_got_fixed hb) hw
  split at h
  · cases h; simp
  split at h
  · split at h
    · cases h; exact State.resume_fixed _ _ _ (bodyOf_keeps (by assumption))
    · cases h
  · cases h

@[simp] theorem State.settleN_fixed (s : State) (y1 : ℕ) : (State.settleN s y1).fixed = s.fixed := by
  induction y1 generalizing s with
  | zero => rfl
  | succ n1 ih =>
    unfold State.settleN
    split
    · rename_i h; rw [ih, State.settleOne_fixed h]
    · rfl

@[simp] theorem State.carryOn_fixed (s : State) : (State.carryOn s).fixed = s.fixed := by
  unfold State.carryOn
  first
    | rfl
    | (simp; done)
    | ((repeat' split) <;> simp; done)
    | (dsimp only; (repeat' split) <;> simp; done)
    | (repeat' (first | (with_reducible rfl) | assumption | (simp; done) | (simp [*]; done) | split | (refine (foldl_fixed _ (fun _ _ => ?_) _ _).trans ?_) | (refine (foldl_fixed2 _ (fun _ _ => ?_) _ _).trans ?_) | (refine pair_fixed (by assumption) ?_) | (refine trip_fixed (by assumption) ?_) | (refine pair1_fixed (by assumption) ?_) | (dsimp only) | simp))

@[simp] theorem State.settle_fixed (s : State) : (State.settle s).fixed = s.fixed := by
  unfold State.settle
  split
  · rw [State.carryOn_fixed]
    cases h : s.acceptOne with
    | none => rfl
    | some t => exact State.acceptOne_fixed h
  · rfl

@[simp] theorem State.fetchRefused_fixed (s : State) (n : ℕ) (a : ℕ) (st : Status) : (State.fetchRefused s n a st).fixed = s.fixed := by
  unfold State.fetchRefused
  first
    | rfl
    | (simp; done)
    | ((repeat' split) <;> simp; done)
    | (dsimp only; (repeat' split) <;> simp; done)
    | (repeat' (first | (with_reducible rfl) | assumption | (simp; done) | (simp [*]; done) | split | (refine (foldl_fixed _ (fun _ _ => ?_) _ _).trans ?_) | (refine (foldl_fixed2 _ (fun _ _ => ?_) _ _).trans ?_) | (refine pair_fixed (by assumption) ?_) | (refine trip_fixed (by assumption) ?_) | (refine pair1_fixed (by assumption) ?_) | (dsimp only) | simp))

@[simp] theorem State.askFetch_fixed (s : State) (n : ℕ) (units : ℕ) (f : ℕ → RingFetch) : (State.askFetch s n units f).fixed = s.fixed := by
  unfold State.askFetch
  first
    | rfl
    | (simp; done)
    | ((repeat' split) <;> simp; done)
    | (dsimp only; (repeat' split) <;> simp; done)
    | (repeat' (first | (with_reducible rfl) | assumption | (simp; done) | (simp [*]; done) | split | (refine (foldl_fixed _ (fun _ _ => ?_) _ _).trans ?_) | (refine (foldl_fixed2 _ (fun _ _ => ?_) _ _).trans ?_) | (refine pair_fixed (by assumption) ?_) | (refine trip_fixed (by assumption) ?_) | (refine pair1_fixed (by assumption) ?_) | (dsimp only) | simp))

@[simp] theorem State.fetchMarked_fixed (s : State) (n : ℕ) (xs : List (ℕ × ℕ)) (bs : List (Byte × Bool)) : (State.fetchMarked s n xs bs).fixed = s.fixed := by
  unfold State.fetchMarked
  first
    | rfl
    | (simp; done)
    | ((repeat' split) <;> simp; done)
    | (dsimp only; (repeat' split) <;> simp; done)
    | (repeat' (first | (with_reducible rfl) | assumption | (simp; done) | (simp [*]; done) | split | (refine (foldl_fixed _ (fun _ _ => ?_) _ _).trans ?_) | (refine (foldl_fixed2 _ (fun _ _ => ?_) _ _).trans ?_) | (refine pair_fixed (by assumption) ?_) | (refine trip_fixed (by assumption) ?_) | (refine pair1_fixed (by assumption) ?_) | (dsimp only) | simp))

@[simp] theorem State.fetched_fixed (s : State) (n : ℕ) (units : ℕ) (req : ℕ) (go : State → List Byte → State) (hgo : ∀ s0 x0, (go s0 x0).fixed = s0.fixed) : (State.fetched s n units req go).fixed = s.fixed := by
  unfold State.fetched
  first
    | rfl
    | (simp; done)
    | ((repeat' split) <;> simp; done)
    | (dsimp only; (repeat' split) <;> simp; done)
    | (repeat' (first | (with_reducible rfl) | assumption | (simp; done) | (simp [*]; done) | split | (refine (foldl_fixed _ (fun _ _ => ?_) _ _).trans ?_) | (refine (foldl_fixed2 _ (fun _ _ => ?_) _ _).trans ?_) | (refine pair_fixed (by assumption) ?_) | (refine trip_fixed (by assumption) ?_) | (refine pair1_fixed (by assumption) ?_) | (dsimp only) | simp))

@[simp] theorem State.headRead_fixed (s : State) (n : ℕ) (req : ℕ) (bs : List Byte) : (State.headRead s n req bs).fixed = s.fixed := by
  unfold State.headRead
  first
    | rfl
    | (simp; done)
    | ((repeat' split) <;> simp; done)
    | (dsimp only; (repeat' split) <;> simp; done)
    | (repeat' (first | (with_reducible rfl) | assumption | (simp; done) | (simp [*]; done) | split | (refine (foldl_fixed _ (fun _ _ => ?_) _ _).trans ?_) | (refine (foldl_fixed2 _ (fun _ _ => ?_) _ _).trans ?_) | (refine pair_fixed (by assumption) ?_) | (refine trip_fixed (by assumption) ?_) | (refine pair1_fixed (by assumption) ?_) | (dsimp only) | simp))

@[simp] theorem State.ringFetch_fixed (s : State) (n : ℕ) : (State.ringFetch s n).fixed = s.fixed := by
  unfold State.ringFetch
  dsimp only
  split
  · rfl
  split
  · rfl
  · exact State.fetched_fixed _ _ _ _ _ (fun _ _ => by simp)
  · exact State.fetched_fixed _ _ _ _ _ (fun _ _ => by simp)
  · (repeat' split) <;> simp

@[simp] theorem State.windowGo_fixed (s : State) (sp : Bool) : (State.windowGo s sp).fixed = s.fixed := by
  unfold State.windowGo
  split
  · exact State.onWindow_fixed _ _ _
  · exact State.onWindow_fixed _ _ _

@[simp] theorem State.mailbox_fixed (s : State) (p : ℕ) (ctx : ℕ) (tag : ℕ) (c : Cmd) :
    (State.mailbox s p ctx tag c).fixed = s.fixed := by
  simp [State.mailbox]

@[simp] theorem State.windowPacket_fixed (s : State) (sp : Bool) (c : Cmd) :
    (State.windowPacket s sp c).fixed = s.fixed := by
  simp [State.windowPacket]

@[simp] theorem State.arrive_fixed (s : State) (c : Cmd) : (State.arrive s c).fixed = s.fixed := by
  unfold State.arrive; split <;> simp

@[simp] theorem runRow_fixed (b : Body) (c : Cmd) (s : State) : (runRow b c s).fixed = s.fixed := by
  unfold runRow
  first
    | rfl
    | (simp; done)
    | ((repeat' split) <;> simp; done)
    | (dsimp only; (repeat' split) <;> simp; done)
    | (repeat' (first | (with_reducible rfl) | assumption | (simp; done) | (simp [*]; done) | split | (refine (foldl_fixed _ (fun _ _ => ?_) _ _).trans ?_) | (refine (foldl_fixed2 _ (fun _ _ => ?_) _ _).trans ?_) | (refine pair_fixed (by assumption) ?_) | (refine trip_fixed (by assumption) ?_) | (refine pair1_fixed (by assumption) ?_) | (dsimp only) | simp))

/-! ### RegRead -/

@[simp] theorem State.scacheState_fixed (s : State) (c : ℕ) : (State.scacheState s c).2.fixed =
    s.fixed := by
  unfold State.scacheState; dsimp only; (repeat' split) <;> simp

@[simp] theorem State.latchTime_fixed (s : State) : (State.latchTime s).fixed = s.fixed := rfl

@[simp] theorem State.regRead_fixed (s : State) (addr : BitVec 24) : (State.regRead s addr).2.fixed
    = s.fixed := by
  unfold State.regRead; split <;> simp

/-! ### RegWrite -/

@[simp] theorem State.writeIrq_fixed (s : State) (g : ℕ) (enable : Bool) (a : RegAccess) :
    (State.writeIrq s g enable a).fixed = s.fixed := by
  simp [State.writeIrq]

@[simp] theorem State.writeCore_fixed (s : State) (off : ℕ) (a : RegAccess) :
    (State.writeCore s off a).fixed = s.fixed := by
  unfold State.writeCore; split <;> simp

@[simp] theorem State.writePortCtx_fixed (s : State) (p : ℕ) (a : RegAccess) :
    (State.writePortCtx s p a).fixed = s.fixed := by
  simp [State.writePortCtx]

@[simp] theorem State.writeBurst_fixed (s : State) (p : ℕ) (a : RegAccess) :
    (State.writeBurst s p a).fixed = s.fixed := by
  simp [State.writeBurst]

@[simp] theorem State.writeMbox_fixed (s : State) (p : ℕ) (a : RegAccess) :
    (State.writeMbox s p a).fixed = s.fixed := by
  simp [State.writeMbox]

@[simp] theorem State.writeXbar_fixed (s : State) (off : ℕ) (a : RegAccess) :
    (State.writeXbar s off a).fixed = s.fixed := by
  simp [State.writeXbar]

@[simp] theorem State.enableRing_fixed (s : State) (n : ℕ) (v : ℕ) : (State.enableRing s n v).fixed
    = s.fixed := by
  simp [State.enableRing]

@[simp] theorem State.writeRingCfg_fixed (s : State) (n : ℕ) (a : RegAccess) :
    (State.writeRingCfg s n a).fixed = s.fixed := by
  simp [State.writeRingCfg]

@[simp] theorem State.writeProd_fixed (s : State) (n : ℕ) (a : RegAccess) :
    (State.writeProd s n a).fixed = s.fixed := by
  simp [State.writeProd]

@[simp] theorem State.writeReplyRd_fixed (s : State) (n : ℕ) (a : RegAccess) :
    (State.writeReplyRd s n a).fixed = s.fixed := by
  simp [State.writeReplyRd]

@[simp] theorem State.writeIdleRing_fixed (s : State) (n : ℕ) (f : Ring → Ring) :
    (State.writeIdleRing s n f).fixed = s.fixed := by
  simp [State.writeIdleRing]

@[simp] theorem State.writeRing_fixed (s : State) (n : ℕ) (i : ℕ) (a : RegAccess) :
    (State.writeRing s n i a).fixed = s.fixed := by
  unfold State.writeRing; split <;> simp

@[simp] theorem State.writeWindow_fixed (s : State) (sp : Bool) (i : ℕ) (a : RegAccess) :
    (State.writeWindow s sp i a).fixed = s.fixed := by
  simp [State.writeWindow]

@[simp] theorem State.writeCmd_fixed (s : State) (off : ℕ) (a : RegAccess) :
    (State.writeCmd s off a).fixed = s.fixed := by
  simp [State.writeCmd]

@[simp] theorem State.writeCluster_fixed (s : State) (c : ℕ) (off : ℕ) (a : RegAccess) :
    (State.writeCluster s c off a).fixed = s.fixed := by
  unfold State.writeCluster; split <;> simp

@[simp] theorem State.writeSafety_fixed (s : State) (off : ℕ) (a : RegAccess) :
    (State.writeSafety s off a).fixed = s.fixed := by
  simp [State.writeSafety]

@[simp] theorem State.regWrite_fixed (s : State) (a : RegAccess) : (State.regWrite s a).fixed =
    s.fixed := by
  unfold State.regWrite; dsimp only; (repeat' split) <;> simp

@[simp] theorem State.answerReg_fixed (s : State) (a : RegAccess) (data : ℕ) (st : RegStatus) :
    (State.answerReg s a data st).fixed = s.fixed := by
  simp [State.answerReg]

@[simp] theorem State.regParity_fixed (s : State) (a : RegAccess) : (State.regParity s a).fixed =
    s.fixed := by
  simp [State.regParity]

@[simp] theorem State.regReaches_fixed (s : State) (a : RegAccess) : (State.regReaches s a).fixed = s.fixed := by
  unfold State.regReaches
  first
    | rfl
    | (simp; done)
    | ((repeat' split) <;> simp; done)
    | (dsimp only; (repeat' split) <;> simp; done)
    | (repeat' (first | (with_reducible rfl) | assumption | (simp; done) | (simp [*]; done) | split | (refine (foldl_fixed _ (fun _ _ => ?_) _ _).trans ?_) | (refine (foldl_fixed2 _ (fun _ _ => ?_) _ _).trans ?_) | (refine pair_fixed (by assumption) ?_) | (refine trip_fixed (by assumption) ?_) | (refine pair1_fixed (by assumption) ?_) | (dsimp only) | simp))

@[simp] theorem State.regPerform_fixed (s : State) (a : RegAccess) : (State.regPerform s a).fixed =
    s.fixed := by
  simp [State.regPerform]

@[simp] theorem State.setRegQueue_fixed (s : State) (sp : Bool) (q : List RegAccess) :
    (State.setRegQueue s sp q).fixed = s.fixed := by
  simp [State.setRegQueue]

@[simp] theorem State.drainRegs_fixed (s : State) (sp : Bool) (y2 : ℕ) :
    (State.drainRegs s sp y2).fixed = s.fixed := by
  induction y2 generalizing s sp with
  | zero => (unfold State.drainRegs; (repeat' (first | (with_reducible rfl) | assumption | (simp; done) | (simp [*]; done) | split | (refine (foldl_fixed _ (fun _ _ => ?_) _ _).trans ?_) | (refine (foldl_fixed2 _ (fun _ _ => ?_) _ _).trans ?_) | (refine pair_fixed (by assumption) ?_) | (refine trip_fixed (by assumption) ?_) | (refine pair1_fixed (by assumption) ?_) | (dsimp only) | simp)))
  | succ n1 ih => (unfold State.drainRegs; (repeat' (first | (with_reducible rfl) | assumption | (simp; done) | (simp [*]; done) | split | (refine (foldl_fixed _ (fun _ _ => ?_) _ _).trans ?_) | (refine (foldl_fixed2 _ (fun _ _ => ?_) _ _).trans ?_) | (refine pair_fixed (by assumption) ?_) | (refine trip_fixed (by assumption) ?_) | (refine pair1_fixed (by assumption) ?_) | (dsimp only) | simp)))

@[simp] theorem State.drainBoth_fixed (s : State) : (State.drainBoth s).fixed = s.fixed := by
  unfold State.drainBoth
  first
    | rfl
    | (simp; done)
    | ((repeat' split) <;> simp; done)
    | (dsimp only; (repeat' split) <;> simp; done)
    | (repeat' (first | (with_reducible rfl) | assumption | (simp; done) | (simp [*]; done) | split | (refine (foldl_fixed _ (fun _ _ => ?_) _ _).trans ?_) | (refine (foldl_fixed2 _ (fun _ _ => ?_) _ _).trans ?_) | (refine pair_fixed (by assumption) ?_) | (refine trip_fixed (by assumption) ?_) | (refine pair1_fixed (by assumption) ?_) | (dsimp only) | simp))

@[simp] theorem State.goOn_fixed (s : State) : (State.goOn s).fixed = s.fixed := by
  simp [State.goOn]

@[simp] theorem State.access_fixed (s : State) (a : RegAccess) : (State.access s a).fixed = s.fixed := by
  simp [State.access]

/-! ### FwPolicy -/

@[simp] theorem State.policyPatch_fixed (s : State) (g : ℕ) (row : ℕ) (lane : ℕ) :
    (State.policyPatch s g row lane).fixed = s.fixed := by
  unfold State.policyPatch
  split
  · rfl
  split
  · simp
  · extract_lets slot s1
    have h1 : s1.fixed = s.fixed := by simp [s1]
    clear_value s1
    simp [h1]

@[simp] theorem State.dropPatches_fixed (s : State) (g : ℕ) (lane : ℕ) :
    (State.dropPatches s g lane).fixed = s.fixed := by
  unfold State.dropPatches
  repeat' (first
    | (with_reducible rfl)
    | assumption
    | (simp; done)
    | (simp [*]; done)
    | split
    | (refine (foldl_fixed _ (fun _ _ => ?_) _ _).trans ?_)
    | (refine (foldl_fixed2 _ (fun _ _ => ?_) _ _).trans ?_)
    | (refine pair_fixed (by assumption) ?_)
    | (refine trip_fixed (by assumption) ?_)
    | (refine pair1_fixed (by assumption) ?_)
    | (dsimp only)
    | simp)

@[simp] theorem State.policyThird_fixed (s : State) (g : ℕ) : (State.policyThird s g).fixed = s.fixed := by
  unfold State.policyThird
  split
  · simp
  · split <;> simp

@[simp] theorem State.policyRetire_fixed (s : State) (g : ℕ) (lane : ℕ) :
    (State.policyRetire s g lane).fixed = s.fixed := by
  simp [State.policyRetire]

@[simp] theorem State.dropStreak_fixed (s : State) (g : ℕ) (row : ℕ) (lane : ℕ) : (State.dropStreak s g row lane).fixed = s.fixed := by
  unfold State.dropStreak
  first
    | rfl
    | (simp; done)
    | ((repeat' split) <;> simp; done)
    | (dsimp only; (repeat' split) <;> simp; done)
    | (repeat' (first | (with_reducible rfl) | assumption | (simp; done) | (simp [*]; done) | split | (refine (foldl_fixed _ (fun _ _ => ?_) _ _).trans ?_) | (refine (foldl_fixed2 _ (fun _ _ => ?_) _ _).trans ?_) | (refine pair_fixed (by assumption) ?_) | (refine trip_fixed (by assumption) ?_) | (refine pair1_fixed (by assumption) ?_) | (dsimp only) | simp))

@[simp] theorem State.retireFor_fixed (s : State) (g : ℕ) (lane : ℕ) : (State.retireFor s g lane).fixed = s.fixed := by
  unfold State.retireFor
  first
    | rfl
    | (simp; done)
    | ((repeat' split) <;> simp; done)
    | (dsimp only; (repeat' split) <;> simp; done)
    | (repeat' (first | (with_reducible rfl) | assumption | (simp; done) | (simp [*]; done) | split | (refine (foldl_fixed _ (fun _ _ => ?_) _ _).trans ?_) | (refine (foldl_fixed2 _ (fun _ _ => ?_) _ _).trans ?_) | (refine pair_fixed (by assumption) ?_) | (refine trip_fixed (by assumption) ?_) | (refine pair1_fixed (by assumption) ?_) | (dsimp only) | simp))

@[simp] theorem State.repairPolicy_fixed (s : State) (a : RepairAct) :
    (State.repairPolicy s a).fixed = s.fixed := by
  unfold State.repairPolicy
  split
  · rfl
  split
  · split
    · simp
    · rfl
  · split
    · simp
    · rfl

@[simp] theorem State.serveRequest_fixed (s : State) (c : ℕ) (b : ℕ) (spare : ℕ) :
    (State.serveRequest s c b spare).fixed = s.fixed := by
  simp [State.serveRequest]

@[simp] theorem State.rotate_fixed (s : State) (c : ℕ) : (State.rotate s c).fixed = s.fixed := by
  unfold State.rotate; split <;> simp

@[simp] theorem State.rotateNow_fixed (s : State) : (State.rotateNow s).fixed = s.fixed := by
  unfold State.rotateNow
  first
    | rfl
    | (simp; done)
    | ((repeat' split) <;> simp; done)
    | (dsimp only; (repeat' split) <;> simp; done)
    | (repeat' (first | (with_reducible rfl) | assumption | (simp; done) | (simp [*]; done) | split | (refine (foldl_fixed _ (fun _ _ => ?_) _ _).trans ?_) | (refine (foldl_fixed2 _ (fun _ _ => ?_) _ _).trans ?_) | (refine pair_fixed (by assumption) ?_) | (refine trip_fixed (by assumption) ?_) | (refine pair1_fixed (by assumption) ?_) | (dsimp only) | simp))

@[simp] theorem State.rotationStep_fixed (s : State) : (State.rotationStep s).fixed = s.fixed := by
  unfold State.rotationStep
  split
  · rfl
  · dsimp only
    split
    · simp
    · split <;> simp

@[simp] theorem State.analogCheck_fixed (s : State) (f : AnalogFound) : (State.analogCheck s f).fixed = s.fixed := by
  unfold State.analogCheck
  split
  · rfl
  extract_lets s1 s2 s3 s4 s5 unit s6 s7 s8 s9
  have hu : ∀ t c b, (unit t c b).fixed = t.fixed := by intro t c b; simp only [unit]; split <;> simp
  have h1 : s1.fixed = s.fixed := by simp [s1]
  have h2 : s2.fixed = s.fixed := by simp only [s2]; split <;> simp [h1]
  have h3 : s3.fixed = s.fixed := by simp [s3, h2]
  have h4 : s4.fixed = s.fixed := (foldl_fixed _ (fun _ _ => by simp) _ _).trans h3
  have h5 : s5.fixed = s.fixed := by simp [s5, h4]
  have h6 : s6.fixed = s.fixed := (hu _ _ _).trans h5
  have h7 : s7.fixed = s.fixed := (foldl_fixed _ (fun _ _ => hu _ _ _) _ _).trans h6
  have h8 : s8.fixed = s.fixed := (hu _ _ _).trans ((hu _ _ _).trans h7)
  have h9 : s9.fixed = s.fixed := (hu _ _ _).trans h8
  clear_value s9
  split
  · simp [h9]
  · exact h9

/-! ### Startup -/

@[simp] theorem State.inReset_fixed (s : State) : (State.inReset s).fixed = s.fixed := by
  rfl

@[simp] theorem State.pwrOkFall_fixed (s : State) : (State.pwrOkFall s).fixed = s.fixed := by
  simp [State.pwrOkFall]

@[simp] theorem State.loadRepair_fixed (s : State) (r : Repair) : (State.loadRepair s r).fixed =
    s.fixed := by
  simp [State.loadRepair]

@[simp] theorem State.loadRepairs_fixed (s : State) (rs : List Repair) (bad : BitVec 8) :
    (State.loadRepairs s rs bad).fixed = s.fixed := by
  unfold State.loadRepairs
  repeat' (first
    | (with_reducible rfl)
    | assumption
    | (simp; done)
    | (simp [*]; done)
    | split
    | (refine (foldl_fixed _ (fun _ _ => ?_) _ _).trans ?_)
    | (refine (foldl_fixed2 _ (fun _ _ => ?_) _ _).trans ?_)
    | (refine pair_fixed (by assumption) ?_)
    | (refine trip_fixed (by assumption) ?_)
    | (refine pair1_fixed (by assumption) ?_)
    | (dsimp only)
    | simp)

@[simp] theorem State.pwrOkRise_fixed (s : State) (widths : List (ℕ × ℕ)) (repair : List Repair)
    (bad : BitVec 8) (count : ℕ) : (State.pwrOkRise s widths repair bad count).fixed = s.fixed := by
  unfold State.pwrOkRise
  split
  · rfl
  · extract_lets straps s1 s2
    split
    · rw [State.loadRepairs_fixed]; rfl
    · rfl

@[simp] theorem State.lostUnit_fixed (s : State) (c : ℕ) : (State.lostUnit s c).fixed = s.fixed := rfl

@[simp] theorem State.slotLost_fixed (s : State) (k : ℕ) : (State.slotLost s k).fixed = s.fixed := by
  unfold State.slotLost; dsimp only; (repeat' split) <;> simp

@[simp] theorem State.outOnce_fixed (s : State) (g : ℕ) : (State.outOnce s g).fixed = s.fixed := by
  simp [State.outOnce]

@[simp] theorem State.logUnit_fixed (s : State) (f : FaultInfo) : (State.logUnit s f).fixed = s.fixed := by
  unfold State.logUnit
  first
    | rfl
    | (simp; done)
    | ((repeat' split) <;> simp; done)
    | (dsimp only; (repeat' split) <;> simp; done)
    | (repeat' (first | (with_reducible rfl) | assumption | (simp; done) | (simp [*]; done) | split | (refine (foldl_fixed _ (fun _ _ => ?_) _ _).trans ?_) | (refine (foldl_fixed2 _ (fun _ _ => ?_) _ _).trans ?_) | (refine pair_fixed (by assumption) ?_) | (refine trip_fixed (by assumption) ?_) | (refine pair1_fixed (by assumption) ?_) | (dsimp only) | simp))

@[simp] theorem State.subLost_fixed (s : State) (n : ℕ) : (State.subLost s n).fixed = s.fixed := by
  simp [State.subLost]

@[simp] theorem State.badUnit_fixed (s : State) (i port : Nat) : (State.badUnit s i port).fixed = s.fixed := by
  unfold State.badUnit
  first
    | rfl
    | (simp; done)
    | ((repeat' split) <;> simp; done)
    | (dsimp only; (repeat' split) <;> simp; done)
    | (repeat' (first | (with_reducible rfl) | assumption | (simp; done) | (simp [*]; done) | split | (refine (foldl_fixed _ (fun _ _ => ?_) _ _).trans ?_) | (refine (foldl_fixed2 _ (fun _ _ => ?_) _ _).trans ?_) | (refine pair_fixed (by assumption) ?_) | (refine trip_fixed (by assumption) ?_) | (refine pair1_fixed (by assumption) ?_) | (dsimp only) | simp))

@[simp] theorem State.clusterLost_fixed (s : State) (c : ℕ) : (State.clusterLost s c).fixed =
    s.fixed := by
  unfold State.clusterLost
  repeat' (first
    | (with_reducible rfl)
    | assumption
    | (simp; done)
    | (simp [*]; done)
    | split
    | (refine (foldl_fixed _ (fun _ _ => ?_) _ _).trans ?_)
    | (refine (foldl_fixed2 _ (fun _ _ => ?_) _ _).trans ?_)
    | (refine pair_fixed (by assumption) ?_)
    | (refine trip_fixed (by assumption) ?_)
    | (refine pair1_fixed (by assumption) ?_)
    | (dsimp only)
    | simp)

@[simp] theorem State.consequences_fixed (s : State) (p : Post) : (State.consequences s p).fixed = s.fixed := by
  unfold State.consequences
  first
    | rfl
    | (simp; done)
    | ((repeat' split) <;> simp; done)
    | (dsimp only; (repeat' split) <;> simp; done)
    | (repeat' (first | (with_reducible rfl) | assumption | (simp; done) | (simp [*]; done) | split | (refine (foldl_fixed _ (fun _ _ => ?_) _ _).trans ?_) | (refine (foldl_fixed2 _ (fun _ _ => ?_) _ _).trans ?_) | (refine pair_fixed (by assumption) ?_) | (refine trip_fixed (by assumption) ?_) | (refine pair1_fixed (by assumption) ?_) | (dsimp only) | simp))

@[simp] theorem State.postFaults_fixed (s : State) (p : Post) : (State.postFaults s p).fixed =
    s.fixed := by
  simp [State.postFaults]

@[simp] theorem State.hardwareReady_fixed (s : State) (p : Post) : (State.hardwareReady s p).fixed =
    s.fixed := by
  simp [State.hardwareReady]

@[simp] theorem State.groupClock_fixed (s : State) (p : ℕ) (runs : Bool) :
    (State.groupClock s p runs).fixed = s.fixed := by
  simp [State.groupClock]

@[simp] theorem State.freeDr_fixed (s : State) : (State.freeDr s).fixed = s.fixed := by
  rfl

@[simp] theorem State.onOtp_fixed (s : State) (f : Otp → Otp) : (State.onOtp s f).fixed = s.fixed := rfl

@[simp] theorem State.jtag_fixed (s : State) (i : TapOp) : (State.jtag s i).fixed = s.fixed := by
  unfold State.jtag
  repeat' (first
    | (with_reducible rfl)
    | assumption
    | (simp; done)
    | (simp [*]; done)
    | split
    | (refine (foldl_fixed _ (fun _ _ => ?_) _ _).trans ?_)
    | (refine (foldl_fixed2 _ (fun _ _ => ?_) _ _).trans ?_)
    | (refine pair_fixed (by assumption) ?_)
    | (refine trip_fixed (by assumption) ?_)
    | (refine pair1_fixed (by assumption) ?_)
    | (dsimp only)
    | simp)

/-! ### Monitor -/

@[simp] theorem State.onMon_fixed (s : State) (f : Mon → Mon) : (State.onMon s f).fixed = s.fixed := rfl

@[simp] theorem State.monAnswer_fixed (s : State) (xs : List MonItem) (st : Status) :
    (State.monAnswer s xs st).fixed = s.fixed := rfl

@[simp] theorem State.monNeeds_fixed (s : State) (cs : List ℕ) (cause : ℕ) (f : State → State)
    (hf : ∀ s0, (f s0).fixed = s0.fixed) : (State.monNeeds s cs cause f).fixed = s.fixed := by
  unfold State.monNeeds
  split
  · rw [hf]; exact foldl_fixed _ (fun _ _ => by simp) _ _
  · exact foldl_fixed _ (fun _ _ => by simp) _ _

@[simp] theorem State.monRegs_fixed (s : State) (addr : BitVec 24) (y2 : ℕ) :
    (State.monRegs s addr y2).2.fixed = s.fixed := by
  induction y2 generalizing s addr with
  | zero => (unfold State.monRegs; (repeat' (first | (with_reducible rfl) | assumption | (simp; done) | (simp [*]; done) | split | (refine (foldl_fixed _ (fun _ _ => ?_) _ _).trans ?_) | (refine (foldl_fixed2 _ (fun _ _ => ?_) _ _).trans ?_) | (refine pair_fixed (by assumption) ?_) | (refine trip_fixed (by assumption) ?_) | (refine pair1_fixed (by assumption) ?_) | (dsimp only) | simp)))
  | succ n1 ih => (unfold State.monRegs; (repeat' (first | (with_reducible rfl) | assumption | (simp; done) | (simp [*]; done) | split | (refine (foldl_fixed _ (fun _ _ => ?_) _ _).trans ?_) | (refine (foldl_fixed2 _ (fun _ _ => ?_) _ _).trans ?_) | (refine pair_fixed (by assumption) ?_) | (refine trip_fixed (by assumption) ?_) | (refine pair1_fixed (by assumption) ?_) | (dsimp only) | simp)))

@[simp] theorem State.monHelp_fixed (s : State) : (State.monHelp s).fixed = s.fixed := rfl

@[simp] theorem State.monPeekR_fixed (s : State) (addr : BitVec 24) (n : ℕ) :
    (State.monPeekR s addr n).fixed = s.fixed := by
  simp [State.monPeekR]

@[simp] theorem State.monPeekM_fixed (s : State) (a : ℕ) (n : ℕ) : (State.monPeekM s a n).fixed =
    s.fixed := by
  unfold State.monPeekM; (repeat' split) <;> simp

@[simp] theorem State.monPokeR_fixed (s : State) (addr : BitVec 24) (v : BitVec 32) :
    (State.monPokeR s addr v).fixed = s.fixed := by
  simp [State.monPokeR]

@[simp] theorem State.monPokeM_fixed (s : State) (a : ℕ) (v : BitVec 32) :
    (State.monPokeM s a v).fixed = s.fixed := by
  unfold State.monPokeM; (repeat' split) <;> simp

@[simp] theorem State.monFolds_fixed (s : State) (k : Option ℕ) : (State.monFolds s k).fixed =
    s.fixed := by
  unfold State.monFolds; dsimp only
  split <;> split <;>
    first
    | exact State.monAnswer_fixed _ _ _
    | exact State.monNeeds_fixed _ _ _ _ (fun _ => State.monAnswer_fixed _ _ _)

@[simp] theorem State.monLedger_fixed (s : State) (n : ℕ) : (State.monLedger s n).fixed = s.fixed := by
  simp [State.monLedger]

@[simp] theorem State.monRuns'_fixed (s : State) (y1 : List (ℕ × ℕ)) : (State.monRuns' s y1).2.fixed
    = s.fixed := by
  induction y1 generalizing s with
  | nil => (unfold State.monRuns'; (repeat' (first | (with_reducible rfl) | assumption | (simp; done) | (simp [*]; done) | split | (refine (foldl_fixed _ (fun _ _ => ?_) _ _).trans ?_) | (refine (foldl_fixed2 _ (fun _ _ => ?_) _ _).trans ?_) | (refine pair_fixed (by assumption) ?_) | (refine trip_fixed (by assumption) ?_) | (refine pair1_fixed (by assumption) ?_) | (dsimp only) | simp)))
  | cons a1 t1 ih => (unfold State.monRuns'; (repeat' (first | (with_reducible rfl) | assumption | (simp; done) | (simp [*]; done) | split | (refine (foldl_fixed _ (fun _ _ => ?_) _ _).trans ?_) | (refine (foldl_fixed2 _ (fun _ _ => ?_) _ _).trans ?_) | (refine pair_fixed (by assumption) ?_) | (refine trip_fixed (by assumption) ?_) | (refine pair1_fixed (by assumption) ?_) | (dsimp only) | simp)))

@[simp] theorem State.monStats_fixed (s : State) (group : ℕ) : (State.monStats s group).fixed =
    s.fixed := by
  simp [State.monStats]

@[simp] theorem State.monBaud_fixed (s : State) (rate : ℕ) : (State.monBaud s rate).fixed = s.fixed := by
  simp [State.monBaud]

@[simp] theorem State.monAct_fixed (s : State) (y0 : MonCmd) : (State.monAct s y0).fixed = s.fixed := by
  cases y0 <;> (unfold State.monAct; (repeat' (first | (with_reducible rfl) | assumption | (simp; done) | (simp [*]; done) | split | (refine (foldl_fixed _ (fun _ _ => ?_) _ _).trans ?_) | (refine (foldl_fixed2 _ (fun _ _ => ?_) _ _).trans ?_) | (refine pair_fixed (by assumption) ?_) | (refine trip_fixed (by assumption) ?_) | (refine pair1_fixed (by assumption) ?_) | (dsimp only) | simp)))

@[simp] theorem State.monServe_fixed (s : State) : (State.monServe s).fixed = s.fixed := by
  unfold State.monServe
  first
    | rfl
    | (simp; done)
    | ((repeat' split) <;> simp; done)
    | (dsimp only; (repeat' split) <;> simp; done)
    | (repeat' (first | (with_reducible rfl) | assumption | (simp; done) | (simp [*]; done) | split | (refine (foldl_fixed _ (fun _ _ => ?_) _ _).trans ?_) | (refine (foldl_fixed2 _ (fun _ _ => ?_) _ _).trans ?_) | (refine pair_fixed (by assumption) ?_) | (refine trip_fixed (by assumption) ?_) | (refine pair1_fixed (by assumption) ?_) | (dsimp only) | simp))

@[simp] theorem State.monitor_fixed (s : State) (c : MonCmd) : (State.monitor s c).fixed = s.fixed := by
  unfold State.monitor
  first
    | rfl
    | (simp; done)
    | ((repeat' split) <;> simp; done)
    | (dsimp only; (repeat' split) <;> simp; done)
    | (repeat' (first | (with_reducible rfl) | assumption | (simp; done) | (simp [*]; done) | split | (refine (foldl_fixed _ (fun _ _ => ?_) _ _).trans ?_) | (refine (foldl_fixed2 _ (fun _ _ => ?_) _ _).trans ?_) | (refine pair_fixed (by assumption) ?_) | (refine trip_fixed (by assumption) ?_) | (refine pair1_fixed (by assumption) ?_) | (dsimp only) | simp))

@[simp] theorem State.monService_fixed (s : State) : (State.monService s).fixed = s.fixed := by
  unfold State.monService
  first
    | rfl
    | (simp; done)
    | ((repeat' split) <;> simp; done)
    | (dsimp only; (repeat' split) <;> simp; done)
    | (repeat' (first | (with_reducible rfl) | assumption | (simp; done) | (simp [*]; done) | split | (refine (foldl_fixed _ (fun _ _ => ?_) _ _).trans ?_) | (refine (foldl_fixed2 _ (fun _ _ => ?_) _ _).trans ?_) | (refine pair_fixed (by assumption) ?_) | (refine trip_fixed (by assumption) ?_) | (refine pair1_fixed (by assumption) ?_) | (dsimp only) | simp))

/-! ### Tick -/

@[simp] theorem State.idleReset_fixed (s : State) : (State.idleReset s).fixed = s.fixed := by
  unfold State.idleReset
  repeat' (first
    | (with_reducible rfl)
    | assumption
    | (simp; done)
    | (simp [*]; done)
    | split
    | (refine (foldl_fixed _ (fun _ _ => ?_) _ _).trans ?_)
    | (refine (foldl_fixed2 _ (fun _ _ => ?_) _ _).trans ?_)
    | (refine pair_fixed (by assumption) ?_)
    | (refine trip_fixed (by assumption) ?_)
    | (refine pair1_fixed (by assumption) ?_)
    | (dsimp only)
    | simp)

@[simp] theorem State.idleCount_fixed (s : State) : (State.idleCount s).fixed = s.fixed := by
  unfold State.idleCount
  repeat' (first
    | (with_reducible rfl)
    | assumption
    | (simp; done)
    | (simp [*]; done)
    | split
    | (refine (foldl_fixed _ (fun _ _ => ?_) _ _).trans ?_)
    | (refine (foldl_fixed2 _ (fun _ _ => ?_) _ _).trans ?_)
    | (refine pair_fixed (by assumption) ?_)
    | (refine trip_fixed (by assumption) ?_)
    | (refine pair1_fixed (by assumption) ?_)
    | (dsimp only)
    | simp)

@[simp] theorem State.testTolls_fixed (s : State) : (State.testTolls s).fixed = s.fixed := by
  unfold State.testTolls
  repeat' (first
    | (with_reducible rfl)
    | assumption
    | (simp; done)
    | (simp [*]; done)
    | split
    | (refine (foldl_fixed _ (fun _ _ => ?_) _ _).trans ?_)
    | (refine (foldl_fixed2 _ (fun _ _ => ?_) _ _).trans ?_)
    | (refine pair_fixed (by assumption) ?_)
    | (refine trip_fixed (by assumption) ?_)
    | (refine pair1_fixed (by assumption) ?_)
    | (dsimp only)
    | simp)

@[simp] theorem State.ackEdge_fixed (s : State) : (State.ackEdge s).fixed = s.fixed := by
  simp [State.ackEdge]

@[simp] theorem State.tickRun_fixed (s : State) : (State.tickRun s).fixed = s.fixed := by
  simp [State.tickRun]

@[simp] theorem State.blockA2_fixed (s : State) : (State.blockA2 s).fixed = s.fixed := by
  unfold State.blockA2
  first
    | rfl
    | (simp; done)
    | ((repeat' split) <;> simp; done)
    | (dsimp only; (repeat' split) <;> simp; done)
    | (repeat' (first | (with_reducible rfl) | assumption | (simp; done) | (simp [*]; done) | split | (refine (foldl_fixed _ (fun _ _ => ?_) _ _).trans ?_) | (refine (foldl_fixed2 _ (fun _ _ => ?_) _ _).trans ?_) | (refine pair_fixed (by assumption) ?_) | (refine trip_fixed (by assumption) ?_) | (refine pair1_fixed (by assumption) ?_) | (dsimp only) | simp))

@[simp] theorem State.tickStood_fixed (s : State) : (State.tickStood s).fixed = s.fixed := by
  unfold State.tickStood
  first
    | rfl
    | (simp; done)
    | ((repeat' split) <;> simp; done)
    | (dsimp only; (repeat' split) <;> simp; done)
    | (repeat' (first | (with_reducible rfl) | assumption | (simp; done) | (simp [*]; done) | split | (refine (foldl_fixed _ (fun _ _ => ?_) _ _).trans ?_) | (refine (foldl_fixed2 _ (fun _ _ => ?_) _ _).trans ?_) | (refine pair_fixed (by assumption) ?_) | (refine trip_fixed (by assumption) ?_) | (refine pair1_fixed (by assumption) ?_) | (dsimp only) | simp))

@[simp] theorem State.tickReport_fixed (s : State) : (State.tickReport s).fixed = s.fixed := by
  unfold State.tickReport; split <;> simp

@[simp] theorem State.tick_fixed (s : State) : (State.tick s).fixed = s.fixed := by
  simp [State.tick]

/-! ### DataRows -/

@[simp] theorem State.live_fixed (s : State) (f : State → State)
    (hf : ∀ s0, (f s0).fixed = s0.fixed) : (State.live s f).fixed = s.fixed := by
  unfold State.live; (repeat' split) <;> simp [*]

@[simp] theorem State.converted_fixed (s : State) : (State.converted s).fixed = s.fixed := by
  unfold State.converted
  first
    | rfl
    | (simp; done)
    | ((repeat' split) <;> simp; done)
    | (dsimp only; (repeat' split) <;> simp; done)
    | (repeat' (first | (with_reducible rfl) | assumption | (simp; done) | (simp [*]; done) | split | (refine (foldl_fixed _ (fun _ _ => ?_) _ _).trans ?_) | (refine (foldl_fixed2 _ (fun _ _ => ?_) _ _).trans ?_) | (refine pair_fixed (by assumption) ?_) | (refine trip_fixed (by assumption) ?_) | (refine pair1_fixed (by assumption) ?_) | (dsimp only) | simp))

@[simp] theorem State.requestRow_fixed (s : State) (p : ℕ) (r : ReqWord) :
    (State.requestRow s p r).fixed = s.fixed := by
  simp [State.requestRow]

@[simp] theorem State.requestOf_fixed (s : State) (op : ℕ) (p : ℕ) (r : ReqWord) :
    (State.requestOf s op p r).fixed = s.fixed := by
  simp [State.requestOf]

@[simp] theorem State.fenceComplete_fixed (s : State) (id : ℕ) : (State.fenceComplete s id).fixed =
    s.fixed := by
  unfold State.fenceComplete; split <;> simp

@[simp] theorem State.acceptAt_fixed (s : State) (p : ℕ) (n : ℕ) : (State.acceptAt s p n).fixed = s.fixed := by
  unfold State.acceptAt
  first
    | rfl
    | (simp; done)
    | ((repeat' split) <;> simp; done)
    | (dsimp only; (repeat' split) <;> simp; done)
    | (repeat' (first | (with_reducible rfl) | assumption | (simp; done) | (simp [*]; done) | split | (refine (foldl_fixed _ (fun _ _ => ?_) _ _).trans ?_) | (refine (foldl_fixed2 _ (fun _ _ => ?_) _ _).trans ?_) | (refine pair_fixed (by assumption) ?_) | (refine trip_fixed (by assumption) ?_) | (refine pair1_fixed (by assumption) ?_) | (dsimp only) | simp))

@[simp] theorem State.until_fixed (s : State) (p : State → Bool) (y2 : ℕ) : (State.until s p y2).fixed = s.fixed := by
  induction y2 generalizing s p with
  | zero => (unfold State.until; (repeat' (first | (with_reducible rfl) | assumption | (simp; done) | (simp [*]; done) | split | (refine (foldl_fixed _ (fun _ _ => ?_) _ _).trans ?_) | (refine (foldl_fixed2 _ (fun _ _ => ?_) _ _).trans ?_) | (refine pair_fixed (by assumption) ?_) | (refine trip_fixed (by assumption) ?_) | (refine pair1_fixed (by assumption) ?_) | (dsimp only) | simp)))
  | succ n1 ih => (unfold State.until; (repeat' (first | (with_reducible rfl) | assumption | (simp; done) | (simp [*]; done) | split | (refine (foldl_fixed _ (fun _ _ => ?_) _ _).trans ?_) | (refine (foldl_fixed2 _ (fun _ _ => ?_) _ _).trans ?_) | (refine pair_fixed (by assumption) ?_) | (refine trip_fixed (by assumption) ?_) | (refine pair1_fixed (by assumption) ?_) | (dsimp only) | simp)))

@[simp] theorem State.bankAct_fixed (s : State) (k b : ℕ) (now : State → ℕ → Bool) (f : State → ℕ → State)
    (hf : ∀ s0 x, (f s0 x).fixed = s0.fixed) : (State.bankAct s k b now f).fixed = s.fixed := by
  unfold State.bankAct
  refine State.live_fixed _ _ (fun t => ?_)
  split
  · dsimp only
    split
    · rw [hf]; simp
    · simp
  · rfl

@[simp] theorem State.transfer_fixed (s : State) (p : ℕ) : (State.transfer s p).fixed = s.fixed := by
  unfold State.transfer; (repeat' split) <;> simp

/-! ### EngineRows -/

@[simp] theorem State.wakeEnd_fixed (s : State) (c : ℕ) : (State.wakeEnd s c).fixed = s.fixed := by
  unfold State.wakeEnd; dsimp only; (repeat' split) <;> simp

@[simp] theorem State.waiterTimeout_fixed (s : State) (order : ℕ) :
    (State.waiterTimeout s order).fixed = s.fixed := rfl

@[simp] theorem State.foldStateUe_fixed (s : State) (c : ℕ) (i : ℕ) :
    (State.foldStateUe s c i).fixed = s.fixed := by
  simp [State.foldStateUe]

/-! ### RegRows -/

@[simp] theorem State.ringWrite_fixed (s : State) (n : ℕ) (off : ℕ) (v : BitVec 32) :
    (State.ringWrite s n off v).fixed = s.fixed := by
  simp [State.ringWrite]

/-! ### SystemRows -/

@[simp] theorem State.event_fixed (s : State) (f : State → State)
    (hf : ∀ s0, (f s0).fixed = s0.fixed) : (State.event s f).fixed = s.fixed := by
  unfold State.event; (repeat' split) <;> simp [*]

/-! ### UpkeepRows -/

@[simp] theorem State.evacRowCopy_fixed (s : State) (c : ℕ) : (State.evacRowCopy s c).fixed =
    s.fixed := by
  unfold State.evacRowCopy; split <;> simp

@[simp] theorem State.linkRow_fixed (s : State) (n : Nat) (x : LinkIn) : (State.linkRow s n x).fixed = s.fixed := by
  unfold State.linkRow
  first
    | rfl
    | (simp; done)
    | ((repeat' split) <;> simp; done)
    | (dsimp only; (repeat' split) <;> simp; done)
    | (repeat' (first | (with_reducible rfl) | assumption | (simp; done) | (simp [*]; done) | split | (refine (foldl_fixed _ (fun _ _ => ?_) _ _).trans ?_) | (refine (foldl_fixed2 _ (fun _ _ => ?_) _ _).trans ?_) | (refine pair_fixed (by assumption) ?_) | (refine trip_fixed (by assumption) ?_) | (refine pair1_fixed (by assumption) ?_) | (dsimp only) | simp))

/-! ### Step -/

@[simp] theorem State.withFetchWord_fixed (s : State) (nbits : ℕ) (w : ℕ) : (State.withFetchWord s nbits w).fixed = s.fixed := by
  unfold State.withFetchWord
  first
    | rfl
    | (simp; done)
    | ((repeat' split) <;> simp; done)
    | (dsimp only; (repeat' split) <;> simp; done)
    | (repeat' (first | (with_reducible rfl) | assumption | (simp; done) | (simp [*]; done) | split | (refine (foldl_fixed _ (fun _ _ => ?_) _ _).trans ?_) | (refine (foldl_fixed2 _ (fun _ _ => ?_) _ _).trans ?_) | (refine pair_fixed (by assumption) ?_) | (refine trip_fixed (by assumption) ?_) | (refine pair1_fixed (by assumption) ?_) | (dsimp only) | simp))

end Sys2Proof.Machine
end

