-- ==== Sys2Proof/Laws/State.lean ====
section
/-!
SUPPORT. What each update of State leaves in each field, so that no proof unfolds a record update: one lemma for each
field, and for a unit of a table what is read there after the update.
-/

namespace Sys2Proof.Machine

/-! ### Updates of one block -/

@[simp] theorem State.onSafety_cfg (s : State) (f : Safety → Safety) : (s.onSafety f).cfg = s.cfg := rfl
@[simp] theorem State.onSafety_clock (s : State) (f : Safety → Safety) : (s.onSafety f).clock = s.clock := rfl
@[simp] theorem State.onSafety_time (s : State) (f : Safety → Safety) : (s.onSafety f).time = s.time := rfl
@[simp] theorem State.onSafety_power (s : State) (f : Safety → Safety) : (s.onSafety f).power = s.power := rfl
@[simp] theorem State.onSafety_safety (s : State) (f : Safety → Safety) : (s.onSafety f).safety = f s.safety := rfl
@[simp] theorem State.onSafety_fw (s : State) (f : Safety → Safety) : (s.onSafety f).fw = s.fw := rfl
@[simp] theorem State.onSafety_reg (s : State) (f : Safety → Safety) : (s.onSafety f).reg = s.reg := rfl
@[simp] theorem State.onSafety_pins (s : State) (f : Safety → Safety) : (s.onSafety f).pins = s.pins := rfl
@[simp] theorem State.onSafety_tap (s : State) (f : Safety → Safety) : (s.onSafety f).tap = s.tap := rfl
@[simp] theorem State.onSafety_cmd (s : State) (f : Safety → Safety) : (s.onSafety f).cmd = s.cmd := rfl
@[simp] theorem State.onSafety_addr (s : State) (f : Safety → Safety) : (s.onSafety f).addr = s.addr := rfl
@[simp] theorem State.onSafety_conv (s : State) (f : Safety → Safety) : (s.onSafety f).conv = s.conv := rfl
@[simp] theorem State.onSafety_xbar (s : State) (f : Safety → Safety) : (s.onSafety f).xbar = s.xbar := rfl
@[simp] theorem State.onSafety_gov (s : State) (f : Safety → Safety) : (s.onSafety f).gov = s.gov := rfl
@[simp] theorem State.onSafety_eng (s : State) (f : Safety → Safety) : (s.onSafety f).eng = s.eng := rfl
@[simp] theorem State.onSafety_folds (s : State) (f : Safety → Safety) : (s.onSafety f).folds = s.folds := rfl
@[simp] theorem State.onSafety_links (s : State) (f : Safety → Safety) : (s.onSafety f).links = s.links := rfl
@[simp] theorem State.onSafety_integ (s : State) (f : Safety → Safety) : (s.onSafety f).integ = s.integ := rfl
@[simp] theorem State.onSafety_mem (s : State) (f : Safety → Safety) : (s.onSafety f).mem = s.mem := rfl
@[simp] theorem State.onSafety_powerUps (s : State) (f : Safety → Safety) : (s.onSafety f).powerUps = s.powerUps := rfl
@[simp] theorem State.onSafety_fresh (s : State) (f : Safety → Safety) : (s.onSafety f).fresh = s.fresh := rfl
@[simp] theorem State.onSafety_pending (s : State) (f : Safety → Safety) : (s.onSafety f).pending = s.pending := rfl

@[simp] theorem State.onPower_cfg (s : State) (f : Power → Power) : (s.onPower f).cfg = s.cfg := rfl
@[simp] theorem State.onPower_clock (s : State) (f : Power → Power) : (s.onPower f).clock = s.clock := rfl
@[simp] theorem State.onPower_time (s : State) (f : Power → Power) : (s.onPower f).time = s.time := rfl
@[simp] theorem State.onPower_power (s : State) (f : Power → Power) : (s.onPower f).power = f s.power := rfl
@[simp] theorem State.onPower_safety (s : State) (f : Power → Power) : (s.onPower f).safety = s.safety := rfl
@[simp] theorem State.onPower_fw (s : State) (f : Power → Power) : (s.onPower f).fw = s.fw := rfl
@[simp] theorem State.onPower_reg (s : State) (f : Power → Power) : (s.onPower f).reg = s.reg := rfl
@[simp] theorem State.onPower_pins (s : State) (f : Power → Power) : (s.onPower f).pins = s.pins := rfl
@[simp] theorem State.onPower_tap (s : State) (f : Power → Power) : (s.onPower f).tap = s.tap := rfl
@[simp] theorem State.onPower_cmd (s : State) (f : Power → Power) : (s.onPower f).cmd = s.cmd := rfl
@[simp] theorem State.onPower_addr (s : State) (f : Power → Power) : (s.onPower f).addr = s.addr := rfl
@[simp] theorem State.onPower_conv (s : State) (f : Power → Power) : (s.onPower f).conv = s.conv := rfl
@[simp] theorem State.onPower_xbar (s : State) (f : Power → Power) : (s.onPower f).xbar = s.xbar := rfl
@[simp] theorem State.onPower_gov (s : State) (f : Power → Power) : (s.onPower f).gov = s.gov := rfl
@[simp] theorem State.onPower_eng (s : State) (f : Power → Power) : (s.onPower f).eng = s.eng := rfl
@[simp] theorem State.onPower_folds (s : State) (f : Power → Power) : (s.onPower f).folds = s.folds := rfl
@[simp] theorem State.onPower_links (s : State) (f : Power → Power) : (s.onPower f).links = s.links := rfl
@[simp] theorem State.onPower_integ (s : State) (f : Power → Power) : (s.onPower f).integ = s.integ := rfl
@[simp] theorem State.onPower_mem (s : State) (f : Power → Power) : (s.onPower f).mem = s.mem := rfl
@[simp] theorem State.onPower_powerUps (s : State) (f : Power → Power) : (s.onPower f).powerUps = s.powerUps := rfl
@[simp] theorem State.onPower_fresh (s : State) (f : Power → Power) : (s.onPower f).fresh = s.fresh := rfl
@[simp] theorem State.onPower_pending (s : State) (f : Power → Power) : (s.onPower f).pending = s.pending := rfl

@[simp] theorem State.onTime_cfg (s : State) (f : TimeBase → TimeBase) : (s.onTime f).cfg = s.cfg := rfl
@[simp] theorem State.onTime_clock (s : State) (f : TimeBase → TimeBase) : (s.onTime f).clock = s.clock := rfl
@[simp] theorem State.onTime_time (s : State) (f : TimeBase → TimeBase) : (s.onTime f).time = f s.time := rfl
@[simp] theorem State.onTime_power (s : State) (f : TimeBase → TimeBase) : (s.onTime f).power = s.power := rfl
@[simp] theorem State.onTime_safety (s : State) (f : TimeBase → TimeBase) : (s.onTime f).safety = s.safety := rfl
@[simp] theorem State.onTime_fw (s : State) (f : TimeBase → TimeBase) : (s.onTime f).fw = s.fw := rfl
@[simp] theorem State.onTime_reg (s : State) (f : TimeBase → TimeBase) : (s.onTime f).reg = s.reg := rfl
@[simp] theorem State.onTime_pins (s : State) (f : TimeBase → TimeBase) : (s.onTime f).pins = s.pins := rfl
@[simp] theorem State.onTime_tap (s : State) (f : TimeBase → TimeBase) : (s.onTime f).tap = s.tap := rfl
@[simp] theorem State.onTime_cmd (s : State) (f : TimeBase → TimeBase) : (s.onTime f).cmd = s.cmd := rfl
@[simp] theorem State.onTime_addr (s : State) (f : TimeBase → TimeBase) : (s.onTime f).addr = s.addr := rfl
@[simp] theorem State.onTime_conv (s : State) (f : TimeBase → TimeBase) : (s.onTime f).conv = s.conv := rfl
@[simp] theorem State.onTime_xbar (s : State) (f : TimeBase → TimeBase) : (s.onTime f).xbar = s.xbar := rfl
@[simp] theorem State.onTime_gov (s : State) (f : TimeBase → TimeBase) : (s.onTime f).gov = s.gov := rfl
@[simp] theorem State.onTime_eng (s : State) (f : TimeBase → TimeBase) : (s.onTime f).eng = s.eng := rfl
@[simp] theorem State.onTime_folds (s : State) (f : TimeBase → TimeBase) : (s.onTime f).folds = s.folds := rfl
@[simp] theorem State.onTime_links (s : State) (f : TimeBase → TimeBase) : (s.onTime f).links = s.links := rfl
@[simp] theorem State.onTime_integ (s : State) (f : TimeBase → TimeBase) : (s.onTime f).integ = s.integ := rfl
@[simp] theorem State.onTime_mem (s : State) (f : TimeBase → TimeBase) : (s.onTime f).mem = s.mem := rfl
@[simp] theorem State.onTime_powerUps (s : State) (f : TimeBase → TimeBase) : (s.onTime f).powerUps = s.powerUps := rfl
@[simp] theorem State.onTime_fresh (s : State) (f : TimeBase → TimeBase) : (s.onTime f).fresh = s.fresh := rfl
@[simp] theorem State.onTime_pending (s : State) (f : TimeBase → TimeBase) : (s.onTime f).pending = s.pending := rfl

@[simp] theorem State.onFw_cfg (s : State) (f : Firmware → Firmware) : (s.onFw f).cfg = s.cfg := rfl
@[simp] theorem State.onFw_clock (s : State) (f : Firmware → Firmware) : (s.onFw f).clock = s.clock := rfl
@[simp] theorem State.onFw_time (s : State) (f : Firmware → Firmware) : (s.onFw f).time = s.time := rfl
@[simp] theorem State.onFw_power (s : State) (f : Firmware → Firmware) : (s.onFw f).power = s.power := rfl
@[simp] theorem State.onFw_safety (s : State) (f : Firmware → Firmware) : (s.onFw f).safety = s.safety := rfl
@[simp] theorem State.onFw_fw (s : State) (f : Firmware → Firmware) : (s.onFw f).fw = f s.fw := rfl
@[simp] theorem State.onFw_reg (s : State) (f : Firmware → Firmware) : (s.onFw f).reg = s.reg := rfl
@[simp] theorem State.onFw_pins (s : State) (f : Firmware → Firmware) : (s.onFw f).pins = s.pins := rfl
@[simp] theorem State.onFw_tap (s : State) (f : Firmware → Firmware) : (s.onFw f).tap = s.tap := rfl
@[simp] theorem State.onFw_cmd (s : State) (f : Firmware → Firmware) : (s.onFw f).cmd = s.cmd := rfl
@[simp] theorem State.onFw_addr (s : State) (f : Firmware → Firmware) : (s.onFw f).addr = s.addr := rfl
@[simp] theorem State.onFw_conv (s : State) (f : Firmware → Firmware) : (s.onFw f).conv = s.conv := rfl
@[simp] theorem State.onFw_xbar (s : State) (f : Firmware → Firmware) : (s.onFw f).xbar = s.xbar := rfl
@[simp] theorem State.onFw_gov (s : State) (f : Firmware → Firmware) : (s.onFw f).gov = s.gov := rfl
@[simp] theorem State.onFw_eng (s : State) (f : Firmware → Firmware) : (s.onFw f).eng = s.eng := rfl
@[simp] theorem State.onFw_folds (s : State) (f : Firmware → Firmware) : (s.onFw f).folds = s.folds := rfl
@[simp] theorem State.onFw_links (s : State) (f : Firmware → Firmware) : (s.onFw f).links = s.links := rfl
@[simp] theorem State.onFw_integ (s : State) (f : Firmware → Firmware) : (s.onFw f).integ = s.integ := rfl
@[simp] theorem State.onFw_mem (s : State) (f : Firmware → Firmware) : (s.onFw f).mem = s.mem := rfl
@[simp] theorem State.onFw_powerUps (s : State) (f : Firmware → Firmware) : (s.onFw f).powerUps = s.powerUps := rfl
@[simp] theorem State.onFw_fresh (s : State) (f : Firmware → Firmware) : (s.onFw f).fresh = s.fresh := rfl
@[simp] theorem State.onFw_pending (s : State) (f : Firmware → Firmware) : (s.onFw f).pending = s.pending := rfl

@[simp] theorem State.onGov_cfg (s : State) (f : Gov → Gov) : (s.onGov f).cfg = s.cfg := rfl
@[simp] theorem State.onGov_clock (s : State) (f : Gov → Gov) : (s.onGov f).clock = s.clock := rfl
@[simp] theorem State.onGov_time (s : State) (f : Gov → Gov) : (s.onGov f).time = s.time := rfl
@[simp] theorem State.onGov_power (s : State) (f : Gov → Gov) : (s.onGov f).power = s.power := rfl
@[simp] theorem State.onGov_safety (s : State) (f : Gov → Gov) : (s.onGov f).safety = s.safety := rfl
@[simp] theorem State.onGov_fw (s : State) (f : Gov → Gov) : (s.onGov f).fw = s.fw := rfl
@[simp] theorem State.onGov_reg (s : State) (f : Gov → Gov) : (s.onGov f).reg = s.reg := rfl
@[simp] theorem State.onGov_pins (s : State) (f : Gov → Gov) : (s.onGov f).pins = s.pins := rfl
@[simp] theorem State.onGov_tap (s : State) (f : Gov → Gov) : (s.onGov f).tap = s.tap := rfl
@[simp] theorem State.onGov_cmd (s : State) (f : Gov → Gov) : (s.onGov f).cmd = s.cmd := rfl
@[simp] theorem State.onGov_addr (s : State) (f : Gov → Gov) : (s.onGov f).addr = s.addr := rfl
@[simp] theorem State.onGov_conv (s : State) (f : Gov → Gov) : (s.onGov f).conv = s.conv := rfl
@[simp] theorem State.onGov_xbar (s : State) (f : Gov → Gov) : (s.onGov f).xbar = s.xbar := rfl
@[simp] theorem State.onGov_gov (s : State) (f : Gov → Gov) : (s.onGov f).gov = f s.gov := rfl
@[simp] theorem State.onGov_eng (s : State) (f : Gov → Gov) : (s.onGov f).eng = s.eng := rfl
@[simp] theorem State.onGov_folds (s : State) (f : Gov → Gov) : (s.onGov f).folds = s.folds := rfl
@[simp] theorem State.onGov_links (s : State) (f : Gov → Gov) : (s.onGov f).links = s.links := rfl
@[simp] theorem State.onGov_integ (s : State) (f : Gov → Gov) : (s.onGov f).integ = s.integ := rfl
@[simp] theorem State.onGov_mem (s : State) (f : Gov → Gov) : (s.onGov f).mem = s.mem := rfl
@[simp] theorem State.onGov_powerUps (s : State) (f : Gov → Gov) : (s.onGov f).powerUps = s.powerUps := rfl
@[simp] theorem State.onGov_fresh (s : State) (f : Gov → Gov) : (s.onGov f).fresh = s.fresh := rfl
@[simp] theorem State.onGov_pending (s : State) (f : Gov → Gov) : (s.onGov f).pending = s.pending := rfl

@[simp] theorem State.onCmd_cfg (s : State) (f : CmdIf → CmdIf) : (s.onCmd f).cfg = s.cfg := rfl
@[simp] theorem State.onCmd_clock (s : State) (f : CmdIf → CmdIf) : (s.onCmd f).clock = s.clock := rfl
@[simp] theorem State.onCmd_time (s : State) (f : CmdIf → CmdIf) : (s.onCmd f).time = s.time := rfl
@[simp] theorem State.onCmd_power (s : State) (f : CmdIf → CmdIf) : (s.onCmd f).power = s.power := rfl
@[simp] theorem State.onCmd_safety (s : State) (f : CmdIf → CmdIf) : (s.onCmd f).safety = s.safety := rfl
@[simp] theorem State.onCmd_fw (s : State) (f : CmdIf → CmdIf) : (s.onCmd f).fw = s.fw := rfl
@[simp] theorem State.onCmd_reg (s : State) (f : CmdIf → CmdIf) : (s.onCmd f).reg = s.reg := rfl
@[simp] theorem State.onCmd_pins (s : State) (f : CmdIf → CmdIf) : (s.onCmd f).pins = s.pins := rfl
@[simp] theorem State.onCmd_tap (s : State) (f : CmdIf → CmdIf) : (s.onCmd f).tap = s.tap := rfl
@[simp] theorem State.onCmd_cmd (s : State) (f : CmdIf → CmdIf) : (s.onCmd f).cmd = f s.cmd := rfl
@[simp] theorem State.onCmd_addr (s : State) (f : CmdIf → CmdIf) : (s.onCmd f).addr = s.addr := rfl
@[simp] theorem State.onCmd_conv (s : State) (f : CmdIf → CmdIf) : (s.onCmd f).conv = s.conv := rfl
@[simp] theorem State.onCmd_xbar (s : State) (f : CmdIf → CmdIf) : (s.onCmd f).xbar = s.xbar := rfl
@[simp] theorem State.onCmd_gov (s : State) (f : CmdIf → CmdIf) : (s.onCmd f).gov = s.gov := rfl
@[simp] theorem State.onCmd_eng (s : State) (f : CmdIf → CmdIf) : (s.onCmd f).eng = s.eng := rfl
@[simp] theorem State.onCmd_folds (s : State) (f : CmdIf → CmdIf) : (s.onCmd f).folds = s.folds := rfl
@[simp] theorem State.onCmd_links (s : State) (f : CmdIf → CmdIf) : (s.onCmd f).links = s.links := rfl
@[simp] theorem State.onCmd_integ (s : State) (f : CmdIf → CmdIf) : (s.onCmd f).integ = s.integ := rfl
@[simp] theorem State.onCmd_mem (s : State) (f : CmdIf → CmdIf) : (s.onCmd f).mem = s.mem := rfl
@[simp] theorem State.onCmd_powerUps (s : State) (f : CmdIf → CmdIf) : (s.onCmd f).powerUps = s.powerUps := rfl
@[simp] theorem State.onCmd_fresh (s : State) (f : CmdIf → CmdIf) : (s.onCmd f).fresh = s.fresh := rfl
@[simp] theorem State.onCmd_pending (s : State) (f : CmdIf → CmdIf) : (s.onCmd f).pending = s.pending := rfl

@[simp] theorem State.onEng_cfg (s : State) (f : EventUnit → EventUnit) : (s.onEng f).cfg = s.cfg := rfl
@[simp] theorem State.onEng_clock (s : State) (f : EventUnit → EventUnit) : (s.onEng f).clock = s.clock := rfl
@[simp] theorem State.onEng_time (s : State) (f : EventUnit → EventUnit) : (s.onEng f).time = s.time := rfl
@[simp] theorem State.onEng_power (s : State) (f : EventUnit → EventUnit) : (s.onEng f).power = s.power := rfl
@[simp] theorem State.onEng_safety (s : State) (f : EventUnit → EventUnit) : (s.onEng f).safety = s.safety := rfl
@[simp] theorem State.onEng_fw (s : State) (f : EventUnit → EventUnit) : (s.onEng f).fw = s.fw := rfl
@[simp] theorem State.onEng_reg (s : State) (f : EventUnit → EventUnit) : (s.onEng f).reg = s.reg := rfl
@[simp] theorem State.onEng_pins (s : State) (f : EventUnit → EventUnit) : (s.onEng f).pins = s.pins := rfl
@[simp] theorem State.onEng_tap (s : State) (f : EventUnit → EventUnit) : (s.onEng f).tap = s.tap := rfl
@[simp] theorem State.onEng_cmd (s : State) (f : EventUnit → EventUnit) : (s.onEng f).cmd = s.cmd := rfl
@[simp] theorem State.onEng_addr (s : State) (f : EventUnit → EventUnit) : (s.onEng f).addr = s.addr := rfl
@[simp] theorem State.onEng_conv (s : State) (f : EventUnit → EventUnit) : (s.onEng f).conv = s.conv := rfl
@[simp] theorem State.onEng_xbar (s : State) (f : EventUnit → EventUnit) : (s.onEng f).xbar = s.xbar := rfl
@[simp] theorem State.onEng_gov (s : State) (f : EventUnit → EventUnit) : (s.onEng f).gov = s.gov := rfl
@[simp] theorem State.onEng_eng (s : State) (f : EventUnit → EventUnit) : (s.onEng f).eng = f s.eng := rfl
@[simp] theorem State.onEng_folds (s : State) (f : EventUnit → EventUnit) : (s.onEng f).folds = s.folds := rfl
@[simp] theorem State.onEng_links (s : State) (f : EventUnit → EventUnit) : (s.onEng f).links = s.links := rfl
@[simp] theorem State.onEng_integ (s : State) (f : EventUnit → EventUnit) : (s.onEng f).integ = s.integ := rfl
@[simp] theorem State.onEng_mem (s : State) (f : EventUnit → EventUnit) : (s.onEng f).mem = s.mem := rfl
@[simp] theorem State.onEng_powerUps (s : State) (f : EventUnit → EventUnit) : (s.onEng f).powerUps = s.powerUps := rfl
@[simp] theorem State.onEng_fresh (s : State) (f : EventUnit → EventUnit) : (s.onEng f).fresh = s.fresh := rfl
@[simp] theorem State.onEng_pending (s : State) (f : EventUnit → EventUnit) : (s.onEng f).pending = s.pending := rfl

@[simp] theorem State.onFolds_cfg (s : State) (f : FoldUnit → FoldUnit) : (s.onFolds f).cfg = s.cfg := rfl
@[simp] theorem State.onFolds_clock (s : State) (f : FoldUnit → FoldUnit) : (s.onFolds f).clock = s.clock := rfl
@[simp] theorem State.onFolds_time (s : State) (f : FoldUnit → FoldUnit) : (s.onFolds f).time = s.time := rfl
@[simp] theorem State.onFolds_power (s : State) (f : FoldUnit → FoldUnit) : (s.onFolds f).power = s.power := rfl
@[simp] theorem State.onFolds_safety (s : State) (f : FoldUnit → FoldUnit) : (s.onFolds f).safety = s.safety := rfl
@[simp] theorem State.onFolds_fw (s : State) (f : FoldUnit → FoldUnit) : (s.onFolds f).fw = s.fw := rfl
@[simp] theorem State.onFolds_reg (s : State) (f : FoldUnit → FoldUnit) : (s.onFolds f).reg = s.reg := rfl
@[simp] theorem State.onFolds_pins (s : State) (f : FoldUnit → FoldUnit) : (s.onFolds f).pins = s.pins := rfl
@[simp] theorem State.onFolds_tap (s : State) (f : FoldUnit → FoldUnit) : (s.onFolds f).tap = s.tap := rfl
@[simp] theorem State.onFolds_cmd (s : State) (f : FoldUnit → FoldUnit) : (s.onFolds f).cmd = s.cmd := rfl
@[simp] theorem State.onFolds_addr (s : State) (f : FoldUnit → FoldUnit) : (s.onFolds f).addr = s.addr := rfl
@[simp] theorem State.onFolds_conv (s : State) (f : FoldUnit → FoldUnit) : (s.onFolds f).conv = s.conv := rfl
@[simp] theorem State.onFolds_xbar (s : State) (f : FoldUnit → FoldUnit) : (s.onFolds f).xbar = s.xbar := rfl
@[simp] theorem State.onFolds_gov (s : State) (f : FoldUnit → FoldUnit) : (s.onFolds f).gov = s.gov := rfl
@[simp] theorem State.onFolds_eng (s : State) (f : FoldUnit → FoldUnit) : (s.onFolds f).eng = s.eng := rfl
@[simp] theorem State.onFolds_folds (s : State) (f : FoldUnit → FoldUnit) : (s.onFolds f).folds = f s.folds := rfl
@[simp] theorem State.onFolds_links (s : State) (f : FoldUnit → FoldUnit) : (s.onFolds f).links = s.links := rfl
@[simp] theorem State.onFolds_integ (s : State) (f : FoldUnit → FoldUnit) : (s.onFolds f).integ = s.integ := rfl
@[simp] theorem State.onFolds_mem (s : State) (f : FoldUnit → FoldUnit) : (s.onFolds f).mem = s.mem := rfl
@[simp] theorem State.onFolds_powerUps (s : State) (f : FoldUnit → FoldUnit) : (s.onFolds f).powerUps = s.powerUps := rfl
@[simp] theorem State.onFolds_fresh (s : State) (f : FoldUnit → FoldUnit) : (s.onFolds f).fresh = s.fresh := rfl
@[simp] theorem State.onFolds_pending (s : State) (f : FoldUnit → FoldUnit) : (s.onFolds f).pending = s.pending := rfl

@[simp] theorem State.onLinks_cfg (s : State) (f : Links → Links) : (s.onLinks f).cfg = s.cfg := rfl
@[simp] theorem State.onLinks_clock (s : State) (f : Links → Links) : (s.onLinks f).clock = s.clock := rfl
@[simp] theorem State.onLinks_time (s : State) (f : Links → Links) : (s.onLinks f).time = s.time := rfl
@[simp] theorem State.onLinks_power (s : State) (f : Links → Links) : (s.onLinks f).power = s.power := rfl
@[simp] theorem State.onLinks_safety (s : State) (f : Links → Links) : (s.onLinks f).safety = s.safety := rfl
@[simp] theorem State.onLinks_fw (s : State) (f : Links → Links) : (s.onLinks f).fw = s.fw := rfl
@[simp] theorem State.onLinks_reg (s : State) (f : Links → Links) : (s.onLinks f).reg = s.reg := rfl
@[simp] theorem State.onLinks_pins (s : State) (f : Links → Links) : (s.onLinks f).pins = s.pins := rfl
@[simp] theorem State.onLinks_tap (s : State) (f : Links → Links) : (s.onLinks f).tap = s.tap := rfl
@[simp] theorem State.onLinks_cmd (s : State) (f : Links → Links) : (s.onLinks f).cmd = s.cmd := rfl
@[simp] theorem State.onLinks_addr (s : State) (f : Links → Links) : (s.onLinks f).addr = s.addr := rfl
@[simp] theorem State.onLinks_conv (s : State) (f : Links → Links) : (s.onLinks f).conv = s.conv := rfl
@[simp] theorem State.onLinks_xbar (s : State) (f : Links → Links) : (s.onLinks f).xbar = s.xbar := rfl
@[simp] theorem State.onLinks_gov (s : State) (f : Links → Links) : (s.onLinks f).gov = s.gov := rfl
@[simp] theorem State.onLinks_eng (s : State) (f : Links → Links) : (s.onLinks f).eng = s.eng := rfl
@[simp] theorem State.onLinks_folds (s : State) (f : Links → Links) : (s.onLinks f).folds = s.folds := rfl
@[simp] theorem State.onLinks_links (s : State) (f : Links → Links) : (s.onLinks f).links = f s.links := rfl
@[simp] theorem State.onLinks_integ (s : State) (f : Links → Links) : (s.onLinks f).integ = s.integ := rfl
@[simp] theorem State.onLinks_mem (s : State) (f : Links → Links) : (s.onLinks f).mem = s.mem := rfl
@[simp] theorem State.onLinks_powerUps (s : State) (f : Links → Links) : (s.onLinks f).powerUps = s.powerUps := rfl
@[simp] theorem State.onLinks_fresh (s : State) (f : Links → Links) : (s.onLinks f).fresh = s.fresh := rfl
@[simp] theorem State.onLinks_pending (s : State) (f : Links → Links) : (s.onLinks f).pending = s.pending := rfl

@[simp] theorem State.onInteg_cfg (s : State) (f : Integ → Integ) : (s.onInteg f).cfg = s.cfg := rfl
@[simp] theorem State.onInteg_clock (s : State) (f : Integ → Integ) : (s.onInteg f).clock = s.clock := rfl
@[simp] theorem State.onInteg_time (s : State) (f : Integ → Integ) : (s.onInteg f).time = s.time := rfl
@[simp] theorem State.onInteg_power (s : State) (f : Integ → Integ) : (s.onInteg f).power = s.power := rfl
@[simp] theorem State.onInteg_safety (s : State) (f : Integ → Integ) : (s.onInteg f).safety = s.safety := rfl
@[simp] theorem State.onInteg_fw (s : State) (f : Integ → Integ) : (s.onInteg f).fw = s.fw := rfl
@[simp] theorem State.onInteg_reg (s : State) (f : Integ → Integ) : (s.onInteg f).reg = s.reg := rfl
@[simp] theorem State.onInteg_pins (s : State) (f : Integ → Integ) : (s.onInteg f).pins = s.pins := rfl
@[simp] theorem State.onInteg_tap (s : State) (f : Integ → Integ) : (s.onInteg f).tap = s.tap := rfl
@[simp] theorem State.onInteg_cmd (s : State) (f : Integ → Integ) : (s.onInteg f).cmd = s.cmd := rfl
@[simp] theorem State.onInteg_addr (s : State) (f : Integ → Integ) : (s.onInteg f).addr = s.addr := rfl
@[simp] theorem State.onInteg_conv (s : State) (f : Integ → Integ) : (s.onInteg f).conv = s.conv := rfl
@[simp] theorem State.onInteg_xbar (s : State) (f : Integ → Integ) : (s.onInteg f).xbar = s.xbar := rfl
@[simp] theorem State.onInteg_gov (s : State) (f : Integ → Integ) : (s.onInteg f).gov = s.gov := rfl
@[simp] theorem State.onInteg_eng (s : State) (f : Integ → Integ) : (s.onInteg f).eng = s.eng := rfl
@[simp] theorem State.onInteg_folds (s : State) (f : Integ → Integ) : (s.onInteg f).folds = s.folds := rfl
@[simp] theorem State.onInteg_links (s : State) (f : Integ → Integ) : (s.onInteg f).links = s.links := rfl
@[simp] theorem State.onInteg_integ (s : State) (f : Integ → Integ) : (s.onInteg f).integ = f s.integ := rfl
@[simp] theorem State.onInteg_mem (s : State) (f : Integ → Integ) : (s.onInteg f).mem = s.mem := rfl
@[simp] theorem State.onInteg_powerUps (s : State) (f : Integ → Integ) : (s.onInteg f).powerUps = s.powerUps := rfl
@[simp] theorem State.onInteg_fresh (s : State) (f : Integ → Integ) : (s.onInteg f).fresh = s.fresh := rfl
@[simp] theorem State.onInteg_pending (s : State) (f : Integ → Integ) : (s.onInteg f).pending = s.pending := rfl

@[simp] theorem State.onXbar_cfg (s : State) (f : Xbar → Xbar) : (s.onXbar f).cfg = s.cfg := rfl
@[simp] theorem State.onXbar_clock (s : State) (f : Xbar → Xbar) : (s.onXbar f).clock = s.clock := rfl
@[simp] theorem State.onXbar_time (s : State) (f : Xbar → Xbar) : (s.onXbar f).time = s.time := rfl
@[simp] theorem State.onXbar_power (s : State) (f : Xbar → Xbar) : (s.onXbar f).power = s.power := rfl
@[simp] theorem State.onXbar_safety (s : State) (f : Xbar → Xbar) : (s.onXbar f).safety = s.safety := rfl
@[simp] theorem State.onXbar_fw (s : State) (f : Xbar → Xbar) : (s.onXbar f).fw = s.fw := rfl
@[simp] theorem State.onXbar_reg (s : State) (f : Xbar → Xbar) : (s.onXbar f).reg = s.reg := rfl
@[simp] theorem State.onXbar_pins (s : State) (f : Xbar → Xbar) : (s.onXbar f).pins = s.pins := rfl
@[simp] theorem State.onXbar_tap (s : State) (f : Xbar → Xbar) : (s.onXbar f).tap = s.tap := rfl
@[simp] theorem State.onXbar_cmd (s : State) (f : Xbar → Xbar) : (s.onXbar f).cmd = s.cmd := rfl
@[simp] theorem State.onXbar_addr (s : State) (f : Xbar → Xbar) : (s.onXbar f).addr = s.addr := rfl
@[simp] theorem State.onXbar_conv (s : State) (f : Xbar → Xbar) : (s.onXbar f).conv = s.conv := rfl
@[simp] theorem State.onXbar_xbar (s : State) (f : Xbar → Xbar) : (s.onXbar f).xbar = f s.xbar := rfl
@[simp] theorem State.onXbar_gov (s : State) (f : Xbar → Xbar) : (s.onXbar f).gov = s.gov := rfl
@[simp] theorem State.onXbar_eng (s : State) (f : Xbar → Xbar) : (s.onXbar f).eng = s.eng := rfl
@[simp] theorem State.onXbar_folds (s : State) (f : Xbar → Xbar) : (s.onXbar f).folds = s.folds := rfl
@[simp] theorem State.onXbar_links (s : State) (f : Xbar → Xbar) : (s.onXbar f).links = s.links := rfl
@[simp] theorem State.onXbar_integ (s : State) (f : Xbar → Xbar) : (s.onXbar f).integ = s.integ := rfl
@[simp] theorem State.onXbar_mem (s : State) (f : Xbar → Xbar) : (s.onXbar f).mem = s.mem := rfl
@[simp] theorem State.onXbar_powerUps (s : State) (f : Xbar → Xbar) : (s.onXbar f).powerUps = s.powerUps := rfl
@[simp] theorem State.onXbar_fresh (s : State) (f : Xbar → Xbar) : (s.onXbar f).fresh = s.fresh := rfl
@[simp] theorem State.onXbar_pending (s : State) (f : Xbar → Xbar) : (s.onXbar f).pending = s.pending := rfl

@[simp] theorem State.onConv_cfg (s : State) (f : Conv → Conv) : (s.onConv f).cfg = s.cfg := rfl
@[simp] theorem State.onConv_clock (s : State) (f : Conv → Conv) : (s.onConv f).clock = s.clock := rfl
@[simp] theorem State.onConv_time (s : State) (f : Conv → Conv) : (s.onConv f).time = s.time := rfl
@[simp] theorem State.onConv_power (s : State) (f : Conv → Conv) : (s.onConv f).power = s.power := rfl
@[simp] theorem State.onConv_safety (s : State) (f : Conv → Conv) : (s.onConv f).safety = s.safety := rfl
@[simp] theorem State.onConv_fw (s : State) (f : Conv → Conv) : (s.onConv f).fw = s.fw := rfl
@[simp] theorem State.onConv_reg (s : State) (f : Conv → Conv) : (s.onConv f).reg = s.reg := rfl
@[simp] theorem State.onConv_pins (s : State) (f : Conv → Conv) : (s.onConv f).pins = s.pins := rfl
@[simp] theorem State.onConv_tap (s : State) (f : Conv → Conv) : (s.onConv f).tap = s.tap := rfl
@[simp] theorem State.onConv_cmd (s : State) (f : Conv → Conv) : (s.onConv f).cmd = s.cmd := rfl
@[simp] theorem State.onConv_addr (s : State) (f : Conv → Conv) : (s.onConv f).addr = s.addr := rfl
@[simp] theorem State.onConv_conv (s : State) (f : Conv → Conv) : (s.onConv f).conv = f s.conv := rfl
@[simp] theorem State.onConv_xbar (s : State) (f : Conv → Conv) : (s.onConv f).xbar = s.xbar := rfl
@[simp] theorem State.onConv_gov (s : State) (f : Conv → Conv) : (s.onConv f).gov = s.gov := rfl
@[simp] theorem State.onConv_eng (s : State) (f : Conv → Conv) : (s.onConv f).eng = s.eng := rfl
@[simp] theorem State.onConv_folds (s : State) (f : Conv → Conv) : (s.onConv f).folds = s.folds := rfl
@[simp] theorem State.onConv_links (s : State) (f : Conv → Conv) : (s.onConv f).links = s.links := rfl
@[simp] theorem State.onConv_integ (s : State) (f : Conv → Conv) : (s.onConv f).integ = s.integ := rfl
@[simp] theorem State.onConv_mem (s : State) (f : Conv → Conv) : (s.onConv f).mem = s.mem := rfl
@[simp] theorem State.onConv_powerUps (s : State) (f : Conv → Conv) : (s.onConv f).powerUps = s.powerUps := rfl
@[simp] theorem State.onConv_fresh (s : State) (f : Conv → Conv) : (s.onConv f).fresh = s.fresh := rfl
@[simp] theorem State.onConv_pending (s : State) (f : Conv → Conv) : (s.onConv f).pending = s.pending := rfl

/-! ### Updates of one unit -/

@[simp] theorem State.onPort_cfg (s : State) (k : Nat) (f : Port → Port) : (s.onPort k f).cfg = s.cfg := rfl
@[simp] theorem State.onPort_clock (s : State) (k : Nat) (f : Port → Port) : (s.onPort k f).clock = s.clock := rfl
@[simp] theorem State.onPort_time (s : State) (k : Nat) (f : Port → Port) : (s.onPort k f).time = s.time := rfl
@[simp] theorem State.onPort_power (s : State) (k : Nat) (f : Port → Port) : (s.onPort k f).power = s.power := rfl
@[simp] theorem State.onPort_safety (s : State) (k : Nat) (f : Port → Port) : (s.onPort k f).safety = s.safety := rfl
@[simp] theorem State.onPort_fw (s : State) (k : Nat) (f : Port → Port) : (s.onPort k f).fw = s.fw := rfl
@[simp] theorem State.onPort_reg (s : State) (k : Nat) (f : Port → Port) : (s.onPort k f).reg = s.reg := rfl
@[simp] theorem State.onPort_pins (s : State) (k : Nat) (f : Port → Port) : (s.onPort k f).pins = s.pins := rfl
@[simp] theorem State.onPort_tap (s : State) (k : Nat) (f : Port → Port) : (s.onPort k f).tap = s.tap := rfl
@[simp] theorem State.onPort_cmd (s : State) (k : Nat) (f : Port → Port) : (s.onPort k f).cmd = s.cmd := rfl
@[simp] theorem State.onPort_addr (s : State) (k : Nat) (f : Port → Port) : (s.onPort k f).addr = s.addr := rfl
@[simp] theorem State.onPort_conv (s : State) (k : Nat) (f : Port → Port) : (s.onPort k f).conv = s.conv := rfl
@[simp] theorem State.onPort_gov (s : State) (k : Nat) (f : Port → Port) : (s.onPort k f).gov = s.gov := rfl
@[simp] theorem State.onPort_eng (s : State) (k : Nat) (f : Port → Port) : (s.onPort k f).eng = s.eng := rfl
@[simp] theorem State.onPort_folds (s : State) (k : Nat) (f : Port → Port) : (s.onPort k f).folds = s.folds := rfl
@[simp] theorem State.onPort_links (s : State) (k : Nat) (f : Port → Port) : (s.onPort k f).links = s.links := rfl
@[simp] theorem State.onPort_integ (s : State) (k : Nat) (f : Port → Port) : (s.onPort k f).integ = s.integ := rfl
@[simp] theorem State.onPort_mem (s : State) (k : Nat) (f : Port → Port) : (s.onPort k f).mem = s.mem := rfl
@[simp] theorem State.onPort_powerUps (s : State) (k : Nat) (f : Port → Port) : (s.onPort k f).powerUps = s.powerUps := rfl
@[simp] theorem State.onPort_fresh (s : State) (k : Nat) (f : Port → Port) : (s.onPort k f).fresh = s.fresh := rfl
@[simp] theorem State.onPort_pending (s : State) (k : Nat) (f : Port → Port) : (s.onPort k f).pending = s.pending := rfl
theorem State.port_onPort_eq (s : State) (k j : Nat) (f : Port → Port) :
    (s.onPort k f).port j = if j = k then f (s.port k) else s.port j := by
  unfold State.port State.onPort
  simp only [Tbl.get_set]
  split <;> simp_all [State.port]

@[simp] theorem State.onSub_cfg (s : State) (k : Nat) (f : SubPort → SubPort) : (s.onSub k f).cfg = s.cfg := rfl
@[simp] theorem State.onSub_clock (s : State) (k : Nat) (f : SubPort → SubPort) : (s.onSub k f).clock = s.clock := rfl
@[simp] theorem State.onSub_time (s : State) (k : Nat) (f : SubPort → SubPort) : (s.onSub k f).time = s.time := rfl
@[simp] theorem State.onSub_power (s : State) (k : Nat) (f : SubPort → SubPort) : (s.onSub k f).power = s.power := rfl
@[simp] theorem State.onSub_safety (s : State) (k : Nat) (f : SubPort → SubPort) : (s.onSub k f).safety = s.safety := rfl
@[simp] theorem State.onSub_fw (s : State) (k : Nat) (f : SubPort → SubPort) : (s.onSub k f).fw = s.fw := rfl
@[simp] theorem State.onSub_reg (s : State) (k : Nat) (f : SubPort → SubPort) : (s.onSub k f).reg = s.reg := rfl
@[simp] theorem State.onSub_pins (s : State) (k : Nat) (f : SubPort → SubPort) : (s.onSub k f).pins = s.pins := rfl
@[simp] theorem State.onSub_tap (s : State) (k : Nat) (f : SubPort → SubPort) : (s.onSub k f).tap = s.tap := rfl
@[simp] theorem State.onSub_cmd (s : State) (k : Nat) (f : SubPort → SubPort) : (s.onSub k f).cmd = s.cmd := rfl
@[simp] theorem State.onSub_addr (s : State) (k : Nat) (f : SubPort → SubPort) : (s.onSub k f).addr = s.addr := rfl
@[simp] theorem State.onSub_conv (s : State) (k : Nat) (f : SubPort → SubPort) : (s.onSub k f).conv = s.conv := rfl
@[simp] theorem State.onSub_gov (s : State) (k : Nat) (f : SubPort → SubPort) : (s.onSub k f).gov = s.gov := rfl
@[simp] theorem State.onSub_eng (s : State) (k : Nat) (f : SubPort → SubPort) : (s.onSub k f).eng = s.eng := rfl
@[simp] theorem State.onSub_folds (s : State) (k : Nat) (f : SubPort → SubPort) : (s.onSub k f).folds = s.folds := rfl
@[simp] theorem State.onSub_links (s : State) (k : Nat) (f : SubPort → SubPort) : (s.onSub k f).links = s.links := rfl
@[simp] theorem State.onSub_integ (s : State) (k : Nat) (f : SubPort → SubPort) : (s.onSub k f).integ = s.integ := rfl
@[simp] theorem State.onSub_mem (s : State) (k : Nat) (f : SubPort → SubPort) : (s.onSub k f).mem = s.mem := rfl
@[simp] theorem State.onSub_powerUps (s : State) (k : Nat) (f : SubPort → SubPort) : (s.onSub k f).powerUps = s.powerUps := rfl
@[simp] theorem State.onSub_fresh (s : State) (k : Nat) (f : SubPort → SubPort) : (s.onSub k f).fresh = s.fresh := rfl
@[simp] theorem State.onSub_pending (s : State) (k : Nat) (f : SubPort → SubPort) : (s.onSub k f).pending = s.pending := rfl
theorem State.sub_onSub_eq (s : State) (k j : Nat) (f : SubPort → SubPort) :
    (s.onSub k f).sub j = if j = k then f (s.sub k) else s.sub j := by
  unfold State.sub State.onSub
  simp only [Tbl.get_set]
  split <;> simp_all [State.sub]

@[simp] theorem State.onBankq_cfg (s : State) (k : Nat) (f : BankQueue → BankQueue) : (s.onBankq k f).cfg = s.cfg := rfl
@[simp] theorem State.onBankq_clock (s : State) (k : Nat) (f : BankQueue → BankQueue) : (s.onBankq k f).clock = s.clock := rfl
@[simp] theorem State.onBankq_time (s : State) (k : Nat) (f : BankQueue → BankQueue) : (s.onBankq k f).time = s.time := rfl
@[simp] theorem State.onBankq_power (s : State) (k : Nat) (f : BankQueue → BankQueue) : (s.onBankq k f).power = s.power := rfl
@[simp] theorem State.onBankq_safety (s : State) (k : Nat) (f : BankQueue → BankQueue) : (s.onBankq k f).safety = s.safety := rfl
@[simp] theorem State.onBankq_fw (s : State) (k : Nat) (f : BankQueue → BankQueue) : (s.onBankq k f).fw = s.fw := rfl
@[simp] theorem State.onBankq_reg (s : State) (k : Nat) (f : BankQueue → BankQueue) : (s.onBankq k f).reg = s.reg := rfl
@[simp] theorem State.onBankq_pins (s : State) (k : Nat) (f : BankQueue → BankQueue) : (s.onBankq k f).pins = s.pins := rfl
@[simp] theorem State.onBankq_tap (s : State) (k : Nat) (f : BankQueue → BankQueue) : (s.onBankq k f).tap = s.tap := rfl
@[simp] theorem State.onBankq_cmd (s : State) (k : Nat) (f : BankQueue → BankQueue) : (s.onBankq k f).cmd = s.cmd := rfl
@[simp] theorem State.onBankq_addr (s : State) (k : Nat) (f : BankQueue → BankQueue) : (s.onBankq k f).addr = s.addr := rfl
@[simp] theorem State.onBankq_conv (s : State) (k : Nat) (f : BankQueue → BankQueue) : (s.onBankq k f).conv = s.conv := rfl
@[simp] theorem State.onBankq_gov (s : State) (k : Nat) (f : BankQueue → BankQueue) : (s.onBankq k f).gov = s.gov := rfl
@[simp] theorem State.onBankq_eng (s : State) (k : Nat) (f : BankQueue → BankQueue) : (s.onBankq k f).eng = s.eng := rfl
@[simp] theorem State.onBankq_folds (s : State) (k : Nat) (f : BankQueue → BankQueue) : (s.onBankq k f).folds = s.folds := rfl
@[simp] theorem State.onBankq_links (s : State) (k : Nat) (f : BankQueue → BankQueue) : (s.onBankq k f).links = s.links := rfl
@[simp] theorem State.onBankq_integ (s : State) (k : Nat) (f : BankQueue → BankQueue) : (s.onBankq k f).integ = s.integ := rfl
@[simp] theorem State.onBankq_mem (s : State) (k : Nat) (f : BankQueue → BankQueue) : (s.onBankq k f).mem = s.mem := rfl
@[simp] theorem State.onBankq_powerUps (s : State) (k : Nat) (f : BankQueue → BankQueue) : (s.onBankq k f).powerUps = s.powerUps := rfl
@[simp] theorem State.onBankq_fresh (s : State) (k : Nat) (f : BankQueue → BankQueue) : (s.onBankq k f).fresh = s.fresh := rfl
@[simp] theorem State.onBankq_pending (s : State) (k : Nat) (f : BankQueue → BankQueue) : (s.onBankq k f).pending = s.pending := rfl
theorem State.bankq_onBankq_eq (s : State) (k j : Nat) (f : BankQueue → BankQueue) :
    (s.onBankq k f).bankq j = if j = k then f (s.bankq k) else s.bankq j := by
  unfold State.bankq State.onBankq
  simp only [Tbl.get_set]
  split <;> simp_all [State.bankq]

@[simp] theorem State.onSlot_cfg (s : State) (k : Nat) (f : Slot → Slot) : (s.onSlot k f).cfg = s.cfg := rfl
@[simp] theorem State.onSlot_clock (s : State) (k : Nat) (f : Slot → Slot) : (s.onSlot k f).clock = s.clock := rfl
@[simp] theorem State.onSlot_time (s : State) (k : Nat) (f : Slot → Slot) : (s.onSlot k f).time = s.time := rfl
@[simp] theorem State.onSlot_power (s : State) (k : Nat) (f : Slot → Slot) : (s.onSlot k f).power = s.power := rfl
@[simp] theorem State.onSlot_safety (s : State) (k : Nat) (f : Slot → Slot) : (s.onSlot k f).safety = s.safety := rfl
@[simp] theorem State.onSlot_fw (s : State) (k : Nat) (f : Slot → Slot) : (s.onSlot k f).fw = s.fw := rfl
@[simp] theorem State.onSlot_reg (s : State) (k : Nat) (f : Slot → Slot) : (s.onSlot k f).reg = s.reg := rfl
@[simp] theorem State.onSlot_pins (s : State) (k : Nat) (f : Slot → Slot) : (s.onSlot k f).pins = s.pins := rfl
@[simp] theorem State.onSlot_tap (s : State) (k : Nat) (f : Slot → Slot) : (s.onSlot k f).tap = s.tap := rfl
@[simp] theorem State.onSlot_cmd (s : State) (k : Nat) (f : Slot → Slot) : (s.onSlot k f).cmd = s.cmd := rfl
@[simp] theorem State.onSlot_addr (s : State) (k : Nat) (f : Slot → Slot) : (s.onSlot k f).addr = s.addr := rfl
@[simp] theorem State.onSlot_conv (s : State) (k : Nat) (f : Slot → Slot) : (s.onSlot k f).conv = s.conv := rfl
@[simp] theorem State.onSlot_xbar (s : State) (k : Nat) (f : Slot → Slot) : (s.onSlot k f).xbar = s.xbar := rfl
@[simp] theorem State.onSlot_gov (s : State) (k : Nat) (f : Slot → Slot) : (s.onSlot k f).gov = s.gov := rfl
@[simp] theorem State.onSlot_eng (s : State) (k : Nat) (f : Slot → Slot) : (s.onSlot k f).eng = s.eng := rfl
@[simp] theorem State.onSlot_folds (s : State) (k : Nat) (f : Slot → Slot) : (s.onSlot k f).folds = s.folds := rfl
@[simp] theorem State.onSlot_links (s : State) (k : Nat) (f : Slot → Slot) : (s.onSlot k f).links = s.links := rfl
@[simp] theorem State.onSlot_mem (s : State) (k : Nat) (f : Slot → Slot) : (s.onSlot k f).mem = s.mem := rfl
@[simp] theorem State.onSlot_powerUps (s : State) (k : Nat) (f : Slot → Slot) : (s.onSlot k f).powerUps = s.powerUps := rfl
@[simp] theorem State.onSlot_fresh (s : State) (k : Nat) (f : Slot → Slot) : (s.onSlot k f).fresh = s.fresh := rfl
@[simp] theorem State.onSlot_pending (s : State) (k : Nat) (f : Slot → Slot) : (s.onSlot k f).pending = s.pending := rfl
@[simp] theorem State.onBank_cfg (s : State) (k : Nat) (f : BankInteg → BankInteg) : (s.onBank k f).cfg = s.cfg := rfl
@[simp] theorem State.onBank_clock (s : State) (k : Nat) (f : BankInteg → BankInteg) : (s.onBank k f).clock = s.clock := rfl
@[simp] theorem State.onBank_time (s : State) (k : Nat) (f : BankInteg → BankInteg) : (s.onBank k f).time = s.time := rfl
@[simp] theorem State.onBank_power (s : State) (k : Nat) (f : BankInteg → BankInteg) : (s.onBank k f).power = s.power := rfl
@[simp] theorem State.onBank_safety (s : State) (k : Nat) (f : BankInteg → BankInteg) : (s.onBank k f).safety = s.safety := rfl
@[simp] theorem State.onBank_fw (s : State) (k : Nat) (f : BankInteg → BankInteg) : (s.onBank k f).fw = s.fw := rfl
@[simp] theorem State.onBank_reg (s : State) (k : Nat) (f : BankInteg → BankInteg) : (s.onBank k f).reg = s.reg := rfl
@[simp] theorem State.onBank_pins (s : State) (k : Nat) (f : BankInteg → BankInteg) : (s.onBank k f).pins = s.pins := rfl
@[simp] theorem State.onBank_tap (s : State) (k : Nat) (f : BankInteg → BankInteg) : (s.onBank k f).tap = s.tap := rfl
@[simp] theorem State.onBank_cmd (s : State) (k : Nat) (f : BankInteg → BankInteg) : (s.onBank k f).cmd = s.cmd := rfl
@[simp] theorem State.onBank_addr (s : State) (k : Nat) (f : BankInteg → BankInteg) : (s.onBank k f).addr = s.addr := rfl
@[simp] theorem State.onBank_conv (s : State) (k : Nat) (f : BankInteg → BankInteg) : (s.onBank k f).conv = s.conv := rfl
@[simp] theorem State.onBank_xbar (s : State) (k : Nat) (f : BankInteg → BankInteg) : (s.onBank k f).xbar = s.xbar := rfl
@[simp] theorem State.onBank_gov (s : State) (k : Nat) (f : BankInteg → BankInteg) : (s.onBank k f).gov = s.gov := rfl
@[simp] theorem State.onBank_eng (s : State) (k : Nat) (f : BankInteg → BankInteg) : (s.onBank k f).eng = s.eng := rfl
@[simp] theorem State.onBank_folds (s : State) (k : Nat) (f : BankInteg → BankInteg) : (s.onBank k f).folds = s.folds := rfl
@[simp] theorem State.onBank_links (s : State) (k : Nat) (f : BankInteg → BankInteg) : (s.onBank k f).links = s.links := rfl
@[simp] theorem State.onBank_mem (s : State) (k : Nat) (f : BankInteg → BankInteg) : (s.onBank k f).mem = s.mem := rfl
@[simp] theorem State.onBank_powerUps (s : State) (k : Nat) (f : BankInteg → BankInteg) : (s.onBank k f).powerUps = s.powerUps := rfl
@[simp] theorem State.onBank_fresh (s : State) (k : Nat) (f : BankInteg → BankInteg) : (s.onBank k f).fresh = s.fresh := rfl
@[simp] theorem State.onBank_pending (s : State) (k : Nat) (f : BankInteg → BankInteg) : (s.onBank k f).pending = s.pending := rfl
theorem State.bank_onBank_eq (s : State) (k j : Nat) (f : BankInteg → BankInteg) :
    (s.onBank k f).bank j = if j = k ∧ (s.lbank k).out = false then f (s.bank k) else s.bank j := by
  unfold State.onBank
  cases h : (s.lbank k).out <;> unfold State.bank <;> simp only [Tbl.get_set] <;> split <;> simp_all [State.bank]

@[simp] theorem State.onLbank_cfg (s : State) (k : Nat) (f : LBank → LBank) : (s.onLbank k f).cfg = s.cfg := rfl
@[simp] theorem State.onLbank_clock (s : State) (k : Nat) (f : LBank → LBank) : (s.onLbank k f).clock = s.clock := rfl
@[simp] theorem State.onLbank_time (s : State) (k : Nat) (f : LBank → LBank) : (s.onLbank k f).time = s.time := rfl
@[simp] theorem State.onLbank_power (s : State) (k : Nat) (f : LBank → LBank) : (s.onLbank k f).power = s.power := rfl
@[simp] theorem State.onLbank_safety (s : State) (k : Nat) (f : LBank → LBank) : (s.onLbank k f).safety = s.safety := rfl
@[simp] theorem State.onLbank_fw (s : State) (k : Nat) (f : LBank → LBank) : (s.onLbank k f).fw = s.fw := rfl
@[simp] theorem State.onLbank_reg (s : State) (k : Nat) (f : LBank → LBank) : (s.onLbank k f).reg = s.reg := rfl
@[simp] theorem State.onLbank_pins (s : State) (k : Nat) (f : LBank → LBank) : (s.onLbank k f).pins = s.pins := rfl
@[simp] theorem State.onLbank_tap (s : State) (k : Nat) (f : LBank → LBank) : (s.onLbank k f).tap = s.tap := rfl
@[simp] theorem State.onLbank_cmd (s : State) (k : Nat) (f : LBank → LBank) : (s.onLbank k f).cmd = s.cmd := rfl
@[simp] theorem State.onLbank_addr (s : State) (k : Nat) (f : LBank → LBank) : (s.onLbank k f).addr = s.addr := rfl
@[simp] theorem State.onLbank_conv (s : State) (k : Nat) (f : LBank → LBank) : (s.onLbank k f).conv = s.conv := rfl
@[simp] theorem State.onLbank_xbar (s : State) (k : Nat) (f : LBank → LBank) : (s.onLbank k f).xbar = s.xbar := rfl
@[simp] theorem State.onLbank_gov (s : State) (k : Nat) (f : LBank → LBank) : (s.onLbank k f).gov = s.gov := rfl
@[simp] theorem State.onLbank_eng (s : State) (k : Nat) (f : LBank → LBank) : (s.onLbank k f).eng = s.eng := rfl
@[simp] theorem State.onLbank_folds (s : State) (k : Nat) (f : LBank → LBank) : (s.onLbank k f).folds = s.folds := rfl
@[simp] theorem State.onLbank_links (s : State) (k : Nat) (f : LBank → LBank) : (s.onLbank k f).links = s.links := rfl
@[simp] theorem State.onLbank_mem (s : State) (k : Nat) (f : LBank → LBank) : (s.onLbank k f).mem = s.mem := rfl
@[simp] theorem State.onLbank_powerUps (s : State) (k : Nat) (f : LBank → LBank) : (s.onLbank k f).powerUps = s.powerUps := rfl
@[simp] theorem State.onLbank_fresh (s : State) (k : Nat) (f : LBank → LBank) : (s.onLbank k f).fresh = s.fresh := rfl
@[simp] theorem State.onLbank_pending (s : State) (k : Nat) (f : LBank → LBank) : (s.onLbank k f).pending = s.pending := rfl
theorem State.lbank_onLbank_eq (s : State) (k j : Nat) (f : LBank → LBank) :
    (s.onLbank k f).lbank j = if j = k then f (s.lbank k) else s.lbank j := by
  unfold State.lbank State.onLbank
  simp only [Tbl.get_set]
  split <;> simp_all [State.lbank]

@[simp] theorem State.onCtest_cfg (s : State) (k : Nat) (f : ClusterTest → ClusterTest) : (s.onCtest k f).cfg = s.cfg := rfl
@[simp] theorem State.onCtest_clock (s : State) (k : Nat) (f : ClusterTest → ClusterTest) : (s.onCtest k f).clock = s.clock := rfl
@[simp] theorem State.onCtest_time (s : State) (k : Nat) (f : ClusterTest → ClusterTest) : (s.onCtest k f).time = s.time := rfl
@[simp] theorem State.onCtest_power (s : State) (k : Nat) (f : ClusterTest → ClusterTest) : (s.onCtest k f).power = s.power := rfl
@[simp] theorem State.onCtest_safety (s : State) (k : Nat) (f : ClusterTest → ClusterTest) : (s.onCtest k f).safety = s.safety := rfl
@[simp] theorem State.onCtest_fw (s : State) (k : Nat) (f : ClusterTest → ClusterTest) : (s.onCtest k f).fw = s.fw := rfl
@[simp] theorem State.onCtest_reg (s : State) (k : Nat) (f : ClusterTest → ClusterTest) : (s.onCtest k f).reg = s.reg := rfl
@[simp] theorem State.onCtest_pins (s : State) (k : Nat) (f : ClusterTest → ClusterTest) : (s.onCtest k f).pins = s.pins := rfl
@[simp] theorem State.onCtest_tap (s : State) (k : Nat) (f : ClusterTest → ClusterTest) : (s.onCtest k f).tap = s.tap := rfl
@[simp] theorem State.onCtest_cmd (s : State) (k : Nat) (f : ClusterTest → ClusterTest) : (s.onCtest k f).cmd = s.cmd := rfl
@[simp] theorem State.onCtest_addr (s : State) (k : Nat) (f : ClusterTest → ClusterTest) : (s.onCtest k f).addr = s.addr := rfl
@[simp] theorem State.onCtest_conv (s : State) (k : Nat) (f : ClusterTest → ClusterTest) : (s.onCtest k f).conv = s.conv := rfl
@[simp] theorem State.onCtest_xbar (s : State) (k : Nat) (f : ClusterTest → ClusterTest) : (s.onCtest k f).xbar = s.xbar := rfl
@[simp] theorem State.onCtest_gov (s : State) (k : Nat) (f : ClusterTest → ClusterTest) : (s.onCtest k f).gov = s.gov := rfl
@[simp] theorem State.onCtest_eng (s : State) (k : Nat) (f : ClusterTest → ClusterTest) : (s.onCtest k f).eng = s.eng := rfl
@[simp] theorem State.onCtest_folds (s : State) (k : Nat) (f : ClusterTest → ClusterTest) : (s.onCtest k f).folds = s.folds := rfl
@[simp] theorem State.onCtest_links (s : State) (k : Nat) (f : ClusterTest → ClusterTest) : (s.onCtest k f).links = s.links := rfl
@[simp] theorem State.onCtest_mem (s : State) (k : Nat) (f : ClusterTest → ClusterTest) : (s.onCtest k f).mem = s.mem := rfl
@[simp] theorem State.onCtest_powerUps (s : State) (k : Nat) (f : ClusterTest → ClusterTest) : (s.onCtest k f).powerUps = s.powerUps := rfl
@[simp] theorem State.onCtest_fresh (s : State) (k : Nat) (f : ClusterTest → ClusterTest) : (s.onCtest k f).fresh = s.fresh := rfl
@[simp] theorem State.onCtest_pending (s : State) (k : Nat) (f : ClusterTest → ClusterTest) : (s.onCtest k f).pending = s.pending := rfl
theorem State.ctest_onCtest_eq (s : State) (k j : Nat) (f : ClusterTest → ClusterTest) :
    (s.onCtest k f).ctest j = if j = k then f (s.ctest k) else s.ctest j := by
  unfold State.ctest State.onCtest
  simp only [Tbl.get_set]
  split <;> simp_all [State.ctest]

@[simp] theorem State.onCpower_cfg (s : State) (k : Nat) (f : ClusterPower → ClusterPower) : (s.onCpower k f).cfg = s.cfg := rfl
@[simp] theorem State.onCpower_clock (s : State) (k : Nat) (f : ClusterPower → ClusterPower) : (s.onCpower k f).clock = s.clock := rfl
@[simp] theorem State.onCpower_time (s : State) (k : Nat) (f : ClusterPower → ClusterPower) : (s.onCpower k f).time = s.time := rfl
@[simp] theorem State.onCpower_safety (s : State) (k : Nat) (f : ClusterPower → ClusterPower) : (s.onCpower k f).safety = s.safety := rfl
@[simp] theorem State.onCpower_fw (s : State) (k : Nat) (f : ClusterPower → ClusterPower) : (s.onCpower k f).fw = s.fw := rfl
@[simp] theorem State.onCpower_reg (s : State) (k : Nat) (f : ClusterPower → ClusterPower) : (s.onCpower k f).reg = s.reg := rfl
@[simp] theorem State.onCpower_pins (s : State) (k : Nat) (f : ClusterPower → ClusterPower) : (s.onCpower k f).pins = s.pins := rfl
@[simp] theorem State.onCpower_tap (s : State) (k : Nat) (f : ClusterPower → ClusterPower) : (s.onCpower k f).tap = s.tap := rfl
@[simp] theorem State.onCpower_cmd (s : State) (k : Nat) (f : ClusterPower → ClusterPower) : (s.onCpower k f).cmd = s.cmd := rfl
@[simp] theorem State.onCpower_addr (s : State) (k : Nat) (f : ClusterPower → ClusterPower) : (s.onCpower k f).addr = s.addr := rfl
@[simp] theorem State.onCpower_conv (s : State) (k : Nat) (f : ClusterPower → ClusterPower) : (s.onCpower k f).conv = s.conv := rfl
@[simp] theorem State.onCpower_xbar (s : State) (k : Nat) (f : ClusterPower → ClusterPower) : (s.onCpower k f).xbar = s.xbar := rfl
@[simp] theorem State.onCpower_gov (s : State) (k : Nat) (f : ClusterPower → ClusterPower) : (s.onCpower k f).gov = s.gov := rfl
@[simp] theorem State.onCpower_eng (s : State) (k : Nat) (f : ClusterPower → ClusterPower) : (s.onCpower k f).eng = s.eng := rfl
@[simp] theorem State.onCpower_folds (s : State) (k : Nat) (f : ClusterPower → ClusterPower) : (s.onCpower k f).folds = s.folds := rfl
@[simp] theorem State.onCpower_links (s : State) (k : Nat) (f : ClusterPower → ClusterPower) : (s.onCpower k f).links = s.links := rfl
@[simp] theorem State.onCpower_integ (s : State) (k : Nat) (f : ClusterPower → ClusterPower) : (s.onCpower k f).integ = s.integ := rfl
@[simp] theorem State.onCpower_mem (s : State) (k : Nat) (f : ClusterPower → ClusterPower) : (s.onCpower k f).mem = s.mem := rfl
@[simp] theorem State.onCpower_powerUps (s : State) (k : Nat) (f : ClusterPower → ClusterPower) : (s.onCpower k f).powerUps = s.powerUps := rfl
@[simp] theorem State.onCpower_fresh (s : State) (k : Nat) (f : ClusterPower → ClusterPower) : (s.onCpower k f).fresh = s.fresh := rfl
@[simp] theorem State.onCpower_pending (s : State) (k : Nat) (f : ClusterPower → ClusterPower) : (s.onCpower k f).pending = s.pending := rfl
theorem State.cpower_onCpower_eq (s : State) (k j : Nat) (f : ClusterPower → ClusterPower) :
    (s.onCpower k f).cpower j = if j = k then f (s.cpower k) else s.cpower j := by
  unfold State.cpower State.onCpower
  simp only [Tbl.get_set]
  split <;> simp_all [State.cpower]

@[simp] theorem State.onDisp_cfg (s : State) (k : Nat) (f : Dispatcher → Dispatcher) : (s.onDisp k f).cfg = s.cfg := rfl
@[simp] theorem State.onDisp_clock (s : State) (k : Nat) (f : Dispatcher → Dispatcher) : (s.onDisp k f).clock = s.clock := rfl
@[simp] theorem State.onDisp_time (s : State) (k : Nat) (f : Dispatcher → Dispatcher) : (s.onDisp k f).time = s.time := rfl
@[simp] theorem State.onDisp_power (s : State) (k : Nat) (f : Dispatcher → Dispatcher) : (s.onDisp k f).power = s.power := rfl
@[simp] theorem State.onDisp_safety (s : State) (k : Nat) (f : Dispatcher → Dispatcher) : (s.onDisp k f).safety = s.safety := rfl
@[simp] theorem State.onDisp_fw (s : State) (k : Nat) (f : Dispatcher → Dispatcher) : (s.onDisp k f).fw = s.fw := rfl
@[simp] theorem State.onDisp_reg (s : State) (k : Nat) (f : Dispatcher → Dispatcher) : (s.onDisp k f).reg = s.reg := rfl
@[simp] theorem State.onDisp_pins (s : State) (k : Nat) (f : Dispatcher → Dispatcher) : (s.onDisp k f).pins = s.pins := rfl
@[simp] theorem State.onDisp_tap (s : State) (k : Nat) (f : Dispatcher → Dispatcher) : (s.onDisp k f).tap = s.tap := rfl
@[simp] theorem State.onDisp_cmd (s : State) (k : Nat) (f : Dispatcher → Dispatcher) : (s.onDisp k f).cmd = s.cmd := rfl
@[simp] theorem State.onDisp_addr (s : State) (k : Nat) (f : Dispatcher → Dispatcher) : (s.onDisp k f).addr = s.addr := rfl
@[simp] theorem State.onDisp_conv (s : State) (k : Nat) (f : Dispatcher → Dispatcher) : (s.onDisp k f).conv = s.conv := rfl
@[simp] theorem State.onDisp_xbar (s : State) (k : Nat) (f : Dispatcher → Dispatcher) : (s.onDisp k f).xbar = s.xbar := rfl
@[simp] theorem State.onDisp_gov (s : State) (k : Nat) (f : Dispatcher → Dispatcher) : (s.onDisp k f).gov = s.gov := rfl
@[simp] theorem State.onDisp_folds (s : State) (k : Nat) (f : Dispatcher → Dispatcher) : (s.onDisp k f).folds = s.folds := rfl
@[simp] theorem State.onDisp_links (s : State) (k : Nat) (f : Dispatcher → Dispatcher) : (s.onDisp k f).links = s.links := rfl
@[simp] theorem State.onDisp_integ (s : State) (k : Nat) (f : Dispatcher → Dispatcher) : (s.onDisp k f).integ = s.integ := rfl
@[simp] theorem State.onDisp_mem (s : State) (k : Nat) (f : Dispatcher → Dispatcher) : (s.onDisp k f).mem = s.mem := rfl
@[simp] theorem State.onDisp_powerUps (s : State) (k : Nat) (f : Dispatcher → Dispatcher) : (s.onDisp k f).powerUps = s.powerUps := rfl
@[simp] theorem State.onDisp_fresh (s : State) (k : Nat) (f : Dispatcher → Dispatcher) : (s.onDisp k f).fresh = s.fresh := rfl
@[simp] theorem State.onDisp_pending (s : State) (k : Nat) (f : Dispatcher → Dispatcher) : (s.onDisp k f).pending = s.pending := rfl
theorem State.disp_onDisp_eq (s : State) (k j : Nat) (f : Dispatcher → Dispatcher) :
    (s.onDisp k f).disp j = if j = k then f (s.disp k) else s.disp j := by
  unfold State.disp State.onDisp
  simp only [Tbl.get_set]
  split <;> simp_all [State.disp]

@[simp] theorem State.onCache_cfg (s : State) (k : Nat) (f : ScaleCache → ScaleCache) : (s.onCache k f).cfg = s.cfg := rfl
@[simp] theorem State.onCache_clock (s : State) (k : Nat) (f : ScaleCache → ScaleCache) : (s.onCache k f).clock = s.clock := rfl
@[simp] theorem State.onCache_time (s : State) (k : Nat) (f : ScaleCache → ScaleCache) : (s.onCache k f).time = s.time := rfl
@[simp] theorem State.onCache_power (s : State) (k : Nat) (f : ScaleCache → ScaleCache) : (s.onCache k f).power = s.power := rfl
@[simp] theorem State.onCache_safety (s : State) (k : Nat) (f : ScaleCache → ScaleCache) : (s.onCache k f).safety = s.safety := rfl
@[simp] theorem State.onCache_fw (s : State) (k : Nat) (f : ScaleCache → ScaleCache) : (s.onCache k f).fw = s.fw := rfl
@[simp] theorem State.onCache_reg (s : State) (k : Nat) (f : ScaleCache → ScaleCache) : (s.onCache k f).reg = s.reg := rfl
@[simp] theorem State.onCache_pins (s : State) (k : Nat) (f : ScaleCache → ScaleCache) : (s.onCache k f).pins = s.pins := rfl
@[simp] theorem State.onCache_tap (s : State) (k : Nat) (f : ScaleCache → ScaleCache) : (s.onCache k f).tap = s.tap := rfl
@[simp] theorem State.onCache_cmd (s : State) (k : Nat) (f : ScaleCache → ScaleCache) : (s.onCache k f).cmd = s.cmd := rfl
@[simp] theorem State.onCache_addr (s : State) (k : Nat) (f : ScaleCache → ScaleCache) : (s.onCache k f).addr = s.addr := rfl
@[simp] theorem State.onCache_xbar (s : State) (k : Nat) (f : ScaleCache → ScaleCache) : (s.onCache k f).xbar = s.xbar := rfl
@[simp] theorem State.onCache_gov (s : State) (k : Nat) (f : ScaleCache → ScaleCache) : (s.onCache k f).gov = s.gov := rfl
@[simp] theorem State.onCache_eng (s : State) (k : Nat) (f : ScaleCache → ScaleCache) : (s.onCache k f).eng = s.eng := rfl
@[simp] theorem State.onCache_folds (s : State) (k : Nat) (f : ScaleCache → ScaleCache) : (s.onCache k f).folds = s.folds := rfl
@[simp] theorem State.onCache_links (s : State) (k : Nat) (f : ScaleCache → ScaleCache) : (s.onCache k f).links = s.links := rfl
@[simp] theorem State.onCache_integ (s : State) (k : Nat) (f : ScaleCache → ScaleCache) : (s.onCache k f).integ = s.integ := rfl
@[simp] theorem State.onCache_mem (s : State) (k : Nat) (f : ScaleCache → ScaleCache) : (s.onCache k f).mem = s.mem := rfl
@[simp] theorem State.onCache_powerUps (s : State) (k : Nat) (f : ScaleCache → ScaleCache) : (s.onCache k f).powerUps = s.powerUps := rfl
@[simp] theorem State.onCache_fresh (s : State) (k : Nat) (f : ScaleCache → ScaleCache) : (s.onCache k f).fresh = s.fresh := rfl
@[simp] theorem State.onCache_pending (s : State) (k : Nat) (f : ScaleCache → ScaleCache) : (s.onCache k f).pending = s.pending := rfl
theorem State.cache_onCache_eq (s : State) (k j : Nat) (f : ScaleCache → ScaleCache) :
    (s.onCache k f).cache j = if j = k then f (s.cache k) else s.cache j := by
  unfold State.cache State.onCache
  simp only [Tbl.get_set]
  split <;> simp_all [State.cache]

@[simp] theorem State.onRing_cfg (s : State) (k : Nat) (f : Ring → Ring) : (s.onRing k f).cfg = s.cfg := rfl
@[simp] theorem State.onRing_clock (s : State) (k : Nat) (f : Ring → Ring) : (s.onRing k f).clock = s.clock := rfl
@[simp] theorem State.onRing_time (s : State) (k : Nat) (f : Ring → Ring) : (s.onRing k f).time = s.time := rfl
@[simp] theorem State.onRing_power (s : State) (k : Nat) (f : Ring → Ring) : (s.onRing k f).power = s.power := rfl
@[simp] theorem State.onRing_safety (s : State) (k : Nat) (f : Ring → Ring) : (s.onRing k f).safety = s.safety := rfl
@[simp] theorem State.onRing_fw (s : State) (k : Nat) (f : Ring → Ring) : (s.onRing k f).fw = s.fw := rfl
@[simp] theorem State.onRing_reg (s : State) (k : Nat) (f : Ring → Ring) : (s.onRing k f).reg = s.reg := rfl
@[simp] theorem State.onRing_pins (s : State) (k : Nat) (f : Ring → Ring) : (s.onRing k f).pins = s.pins := rfl
@[simp] theorem State.onRing_tap (s : State) (k : Nat) (f : Ring → Ring) : (s.onRing k f).tap = s.tap := rfl
@[simp] theorem State.onRing_addr (s : State) (k : Nat) (f : Ring → Ring) : (s.onRing k f).addr = s.addr := rfl
@[simp] theorem State.onRing_conv (s : State) (k : Nat) (f : Ring → Ring) : (s.onRing k f).conv = s.conv := rfl
@[simp] theorem State.onRing_xbar (s : State) (k : Nat) (f : Ring → Ring) : (s.onRing k f).xbar = s.xbar := rfl
@[simp] theorem State.onRing_gov (s : State) (k : Nat) (f : Ring → Ring) : (s.onRing k f).gov = s.gov := rfl
@[simp] theorem State.onRing_eng (s : State) (k : Nat) (f : Ring → Ring) : (s.onRing k f).eng = s.eng := rfl
@[simp] theorem State.onRing_folds (s : State) (k : Nat) (f : Ring → Ring) : (s.onRing k f).folds = s.folds := rfl
@[simp] theorem State.onRing_links (s : State) (k : Nat) (f : Ring → Ring) : (s.onRing k f).links = s.links := rfl
@[simp] theorem State.onRing_integ (s : State) (k : Nat) (f : Ring → Ring) : (s.onRing k f).integ = s.integ := rfl
@[simp] theorem State.onRing_mem (s : State) (k : Nat) (f : Ring → Ring) : (s.onRing k f).mem = s.mem := rfl
@[simp] theorem State.onRing_powerUps (s : State) (k : Nat) (f : Ring → Ring) : (s.onRing k f).powerUps = s.powerUps := rfl
@[simp] theorem State.onRing_fresh (s : State) (k : Nat) (f : Ring → Ring) : (s.onRing k f).fresh = s.fresh := rfl
@[simp] theorem State.onRing_pending (s : State) (k : Nat) (f : Ring → Ring) : (s.onRing k f).pending = s.pending := rfl
theorem State.ring_onRing_eq (s : State) (k j : Nat) (f : Ring → Ring) :
    (s.onRing k f).ring j = if j = k then f (s.ring k) else s.ring j := by
  unfold State.ring State.onRing
  simp only [Tbl.get_set]
  split <;> simp_all [State.ring]

@[simp] theorem State.onFold_cfg (s : State) (k : Nat) (f : Fold → Fold) : (s.onFold k f).cfg = s.cfg := rfl
@[simp] theorem State.onFold_clock (s : State) (k : Nat) (f : Fold → Fold) : (s.onFold k f).clock = s.clock := rfl
@[simp] theorem State.onFold_time (s : State) (k : Nat) (f : Fold → Fold) : (s.onFold k f).time = s.time := rfl
@[simp] theorem State.onFold_power (s : State) (k : Nat) (f : Fold → Fold) : (s.onFold k f).power = s.power := rfl
@[simp] theorem State.onFold_safety (s : State) (k : Nat) (f : Fold → Fold) : (s.onFold k f).safety = s.safety := rfl
@[simp] theorem State.onFold_fw (s : State) (k : Nat) (f : Fold → Fold) : (s.onFold k f).fw = s.fw := rfl
@[simp] theorem State.onFold_reg (s : State) (k : Nat) (f : Fold → Fold) : (s.onFold k f).reg = s.reg := rfl
@[simp] theorem State.onFold_pins (s : State) (k : Nat) (f : Fold → Fold) : (s.onFold k f).pins = s.pins := rfl
@[simp] theorem State.onFold_tap (s : State) (k : Nat) (f : Fold → Fold) : (s.onFold k f).tap = s.tap := rfl
@[simp] theorem State.onFold_cmd (s : State) (k : Nat) (f : Fold → Fold) : (s.onFold k f).cmd = s.cmd := rfl
@[simp] theorem State.onFold_addr (s : State) (k : Nat) (f : Fold → Fold) : (s.onFold k f).addr = s.addr := rfl
@[simp] theorem State.onFold_conv (s : State) (k : Nat) (f : Fold → Fold) : (s.onFold k f).conv = s.conv := rfl
@[simp] theorem State.onFold_xbar (s : State) (k : Nat) (f : Fold → Fold) : (s.onFold k f).xbar = s.xbar := rfl
@[simp] theorem State.onFold_gov (s : State) (k : Nat) (f : Fold → Fold) : (s.onFold k f).gov = s.gov := rfl
@[simp] theorem State.onFold_eng (s : State) (k : Nat) (f : Fold → Fold) : (s.onFold k f).eng = s.eng := rfl
@[simp] theorem State.onFold_links (s : State) (k : Nat) (f : Fold → Fold) : (s.onFold k f).links = s.links := rfl
@[simp] theorem State.onFold_integ (s : State) (k : Nat) (f : Fold → Fold) : (s.onFold k f).integ = s.integ := rfl
@[simp] theorem State.onFold_mem (s : State) (k : Nat) (f : Fold → Fold) : (s.onFold k f).mem = s.mem := rfl
@[simp] theorem State.onFold_powerUps (s : State) (k : Nat) (f : Fold → Fold) : (s.onFold k f).powerUps = s.powerUps := rfl
@[simp] theorem State.onFold_fresh (s : State) (k : Nat) (f : Fold → Fold) : (s.onFold k f).fresh = s.fresh := rfl
@[simp] theorem State.onFold_pending (s : State) (k : Nat) (f : Fold → Fold) : (s.onFold k f).pending = s.pending := rfl
theorem State.fold_onFold_eq (s : State) (k j : Nat) (f : Fold → Fold) :
    (s.onFold k f).fold j = if j = k then f (s.fold k) else s.fold j := by
  unfold State.fold State.onFold
  simp only [Tbl.get_set]
  split <;> simp_all [State.fold]

@[simp] theorem State.onLink_cfg (s : State) (k : Nat) (f : LinkPort → LinkPort) : (s.onLink k f).cfg = s.cfg := rfl
@[simp] theorem State.onLink_clock (s : State) (k : Nat) (f : LinkPort → LinkPort) : (s.onLink k f).clock = s.clock := rfl
@[simp] theorem State.onLink_time (s : State) (k : Nat) (f : LinkPort → LinkPort) : (s.onLink k f).time = s.time := rfl
@[simp] theorem State.onLink_power (s : State) (k : Nat) (f : LinkPort → LinkPort) : (s.onLink k f).power = s.power := rfl
@[simp] theorem State.onLink_safety (s : State) (k : Nat) (f : LinkPort → LinkPort) : (s.onLink k f).safety = s.safety := rfl
@[simp] theorem State.onLink_fw (s : State) (k : Nat) (f : LinkPort → LinkPort) : (s.onLink k f).fw = s.fw := rfl
@[simp] theorem State.onLink_reg (s : State) (k : Nat) (f : LinkPort → LinkPort) : (s.onLink k f).reg = s.reg := rfl
@[simp] theorem State.onLink_pins (s : State) (k : Nat) (f : LinkPort → LinkPort) : (s.onLink k f).pins = s.pins := rfl
@[simp] theorem State.onLink_tap (s : State) (k : Nat) (f : LinkPort → LinkPort) : (s.onLink k f).tap = s.tap := rfl
@[simp] theorem State.onLink_cmd (s : State) (k : Nat) (f : LinkPort → LinkPort) : (s.onLink k f).cmd = s.cmd := rfl
@[simp] theorem State.onLink_addr (s : State) (k : Nat) (f : LinkPort → LinkPort) : (s.onLink k f).addr = s.addr := rfl
@[simp] theorem State.onLink_conv (s : State) (k : Nat) (f : LinkPort → LinkPort) : (s.onLink k f).conv = s.conv := rfl
@[simp] theorem State.onLink_xbar (s : State) (k : Nat) (f : LinkPort → LinkPort) : (s.onLink k f).xbar = s.xbar := rfl
@[simp] theorem State.onLink_gov (s : State) (k : Nat) (f : LinkPort → LinkPort) : (s.onLink k f).gov = s.gov := rfl
@[simp] theorem State.onLink_eng (s : State) (k : Nat) (f : LinkPort → LinkPort) : (s.onLink k f).eng = s.eng := rfl
@[simp] theorem State.onLink_folds (s : State) (k : Nat) (f : LinkPort → LinkPort) : (s.onLink k f).folds = s.folds := rfl
@[simp] theorem State.onLink_integ (s : State) (k : Nat) (f : LinkPort → LinkPort) : (s.onLink k f).integ = s.integ := rfl
@[simp] theorem State.onLink_mem (s : State) (k : Nat) (f : LinkPort → LinkPort) : (s.onLink k f).mem = s.mem := rfl
@[simp] theorem State.onLink_powerUps (s : State) (k : Nat) (f : LinkPort → LinkPort) : (s.onLink k f).powerUps = s.powerUps := rfl
@[simp] theorem State.onLink_fresh (s : State) (k : Nat) (f : LinkPort → LinkPort) : (s.onLink k f).fresh = s.fresh := rfl
@[simp] theorem State.onLink_pending (s : State) (k : Nat) (f : LinkPort → LinkPort) : (s.onLink k f).pending = s.pending := rfl
theorem State.link_onLink_eq (s : State) (k j : Nat) (f : LinkPort → LinkPort) :
    (s.onLink k f).link j = if j = k then f (s.link k) else s.link j := by
  unfold State.link State.onLink
  simp only [Tbl.get_set]
  split <;> simp_all [State.link]

@[simp] theorem State.onView_cfg (s : State) (k : Nat) (f : View → View) : (s.onView k f).cfg = s.cfg := by
  unfold State.onView; split <;> rfl
@[simp] theorem State.onView_clock (s : State) (k : Nat) (f : View → View) : (s.onView k f).clock = s.clock := by
  unfold State.onView; split <;> rfl
@[simp] theorem State.onView_time (s : State) (k : Nat) (f : View → View) : (s.onView k f).time = s.time := by
  unfold State.onView; split <;> rfl
@[simp] theorem State.onView_power (s : State) (k : Nat) (f : View → View) : (s.onView k f).power = s.power := by
  unfold State.onView; split <;> rfl
@[simp] theorem State.onView_safety (s : State) (k : Nat) (f : View → View) : (s.onView k f).safety = s.safety := by
  unfold State.onView; split <;> rfl
@[simp] theorem State.onView_fw (s : State) (k : Nat) (f : View → View) : (s.onView k f).fw = s.fw := by
  unfold State.onView; split <;> rfl
@[simp] theorem State.onView_reg (s : State) (k : Nat) (f : View → View) : (s.onView k f).reg = s.reg := by
  unfold State.onView; split <;> rfl
@[simp] theorem State.onView_pins (s : State) (k : Nat) (f : View → View) : (s.onView k f).pins = s.pins := by
  unfold State.onView; split <;> rfl
@[simp] theorem State.onView_tap (s : State) (k : Nat) (f : View → View) : (s.onView k f).tap = s.tap := by
  unfold State.onView; split <;> rfl
@[simp] theorem State.onView_cmd (s : State) (k : Nat) (f : View → View) : (s.onView k f).cmd = s.cmd := by
  unfold State.onView; split <;> rfl
@[simp] theorem State.onView_addr (s : State) (k : Nat) (f : View → View) : (s.onView k f).addr = s.addr := by
  unfold State.onView; split <;> rfl
@[simp] theorem State.onView_xbar (s : State) (k : Nat) (f : View → View) : (s.onView k f).xbar = s.xbar := by
  unfold State.onView; split <;> rfl
@[simp] theorem State.onView_gov (s : State) (k : Nat) (f : View → View) : (s.onView k f).gov = s.gov := by
  unfold State.onView; split <;> rfl
@[simp] theorem State.onView_eng (s : State) (k : Nat) (f : View → View) : (s.onView k f).eng = s.eng := by
  unfold State.onView; split <;> rfl
@[simp] theorem State.onView_folds (s : State) (k : Nat) (f : View → View) : (s.onView k f).folds = s.folds := by
  unfold State.onView; split <;> rfl
@[simp] theorem State.onView_links (s : State) (k : Nat) (f : View → View) : (s.onView k f).links = s.links := by
  unfold State.onView; split <;> rfl
@[simp] theorem State.onView_integ (s : State) (k : Nat) (f : View → View) : (s.onView k f).integ = s.integ := by
  unfold State.onView; split <;> rfl
@[simp] theorem State.onView_mem (s : State) (k : Nat) (f : View → View) : (s.onView k f).mem = s.mem := by
  unfold State.onView; split <;> rfl
@[simp] theorem State.onView_powerUps (s : State) (k : Nat) (f : View → View) : (s.onView k f).powerUps = s.powerUps := by
  unfold State.onView; split <;> rfl
@[simp] theorem State.onView_fresh (s : State) (k : Nat) (f : View → View) : (s.onView k f).fresh = s.fresh := by
  unfold State.onView; split <;> rfl
@[simp] theorem State.onView_pending (s : State) (k : Nat) (f : View → View) : (s.onView k f).pending = s.pending := by
  unfold State.onView; split <;> rfl

@[simp] theorem State.onRegion_cfg (s : State) (k : Nat) (f : Region → Region) : (s.onRegion k f).cfg = s.cfg := by
  unfold State.onRegion; split <;> rfl
@[simp] theorem State.onRegion_clock (s : State) (k : Nat) (f : Region → Region) : (s.onRegion k f).clock = s.clock := by
  unfold State.onRegion; split <;> rfl
@[simp] theorem State.onRegion_time (s : State) (k : Nat) (f : Region → Region) : (s.onRegion k f).time = s.time := by
  unfold State.onRegion; split <;> rfl
@[simp] theorem State.onRegion_power (s : State) (k : Nat) (f : Region → Region) : (s.onRegion k f).power = s.power := by
  unfold State.onRegion; split <;> rfl
@[simp] theorem State.onRegion_safety (s : State) (k : Nat) (f : Region → Region) : (s.onRegion k f).safety = s.safety := by
  unfold State.onRegion; split <;> rfl
@[simp] theorem State.onRegion_fw (s : State) (k : Nat) (f : Region → Region) : (s.onRegion k f).fw = s.fw := by
  unfold State.onRegion; split <;> rfl
@[simp] theorem State.onRegion_reg (s : State) (k : Nat) (f : Region → Region) : (s.onRegion k f).reg = s.reg := by
  unfold State.onRegion; split <;> rfl
@[simp] theorem State.onRegion_pins (s : State) (k : Nat) (f : Region → Region) : (s.onRegion k f).pins = s.pins := by
  unfold State.onRegion; split <;> rfl
@[simp] theorem State.onRegion_tap (s : State) (k : Nat) (f : Region → Region) : (s.onRegion k f).tap = s.tap := by
  unfold State.onRegion; split <;> rfl
@[simp] theorem State.onRegion_cmd (s : State) (k : Nat) (f : Region → Region) : (s.onRegion k f).cmd = s.cmd := by
  unfold State.onRegion; split <;> rfl
@[simp] theorem State.onRegion_conv (s : State) (k : Nat) (f : Region → Region) : (s.onRegion k f).conv = s.conv := by
  unfold State.onRegion; split <;> rfl
@[simp] theorem State.onRegion_xbar (s : State) (k : Nat) (f : Region → Region) : (s.onRegion k f).xbar = s.xbar := by
  unfold State.onRegion; split <;> rfl
@[simp] theorem State.onRegion_gov (s : State) (k : Nat) (f : Region → Region) : (s.onRegion k f).gov = s.gov := by
  unfold State.onRegion; split <;> rfl
@[simp] theorem State.onRegion_eng (s : State) (k : Nat) (f : Region → Region) : (s.onRegion k f).eng = s.eng := by
  unfold State.onRegion; split <;> rfl
@[simp] theorem State.onRegion_folds (s : State) (k : Nat) (f : Region → Region) : (s.onRegion k f).folds = s.folds := by
  unfold State.onRegion; split <;> rfl
@[simp] theorem State.onRegion_links (s : State) (k : Nat) (f : Region → Region) : (s.onRegion k f).links = s.links := by
  unfold State.onRegion; split <;> rfl
@[simp] theorem State.onRegion_integ (s : State) (k : Nat) (f : Region → Region) : (s.onRegion k f).integ = s.integ := by
  unfold State.onRegion; split <;> rfl
@[simp] theorem State.onRegion_mem (s : State) (k : Nat) (f : Region → Region) : (s.onRegion k f).mem = s.mem := by
  unfold State.onRegion; split <;> rfl
@[simp] theorem State.onRegion_powerUps (s : State) (k : Nat) (f : Region → Region) : (s.onRegion k f).powerUps = s.powerUps := by
  unfold State.onRegion; split <;> rfl
@[simp] theorem State.onRegion_fresh (s : State) (k : Nat) (f : Region → Region) : (s.onRegion k f).fresh = s.fresh := by
  unfold State.onRegion; split <;> rfl
@[simp] theorem State.onRegion_pending (s : State) (k : Nat) (f : Region → Region) : (s.onRegion k f).pending = s.pending := by
  unfold State.onRegion; split <;> rfl

@[simp] theorem State.onPop_cfg (s : State) (k : Nat) (f : Pop → Pop) : (s.onPop k f).cfg = s.cfg := by
  unfold State.onPop; split <;> rfl
@[simp] theorem State.onPop_clock (s : State) (k : Nat) (f : Pop → Pop) : (s.onPop k f).clock = s.clock := by
  unfold State.onPop; split <;> rfl
@[simp] theorem State.onPop_time (s : State) (k : Nat) (f : Pop → Pop) : (s.onPop k f).time = s.time := by
  unfold State.onPop; split <;> rfl
@[simp] theorem State.onPop_power (s : State) (k : Nat) (f : Pop → Pop) : (s.onPop k f).power = s.power := by
  unfold State.onPop; split <;> rfl
@[simp] theorem State.onPop_safety (s : State) (k : Nat) (f : Pop → Pop) : (s.onPop k f).safety = s.safety := by
  unfold State.onPop; split <;> rfl
@[simp] theorem State.onPop_fw (s : State) (k : Nat) (f : Pop → Pop) : (s.onPop k f).fw = s.fw := by
  unfold State.onPop; split <;> rfl
@[simp] theorem State.onPop_reg (s : State) (k : Nat) (f : Pop → Pop) : (s.onPop k f).reg = s.reg := by
  unfold State.onPop; split <;> rfl
@[simp] theorem State.onPop_pins (s : State) (k : Nat) (f : Pop → Pop) : (s.onPop k f).pins = s.pins := by
  unfold State.onPop; split <;> rfl
@[simp] theorem State.onPop_tap (s : State) (k : Nat) (f : Pop → Pop) : (s.onPop k f).tap = s.tap := by
  unfold State.onPop; split <;> rfl
@[simp] theorem State.onPop_cmd (s : State) (k : Nat) (f : Pop → Pop) : (s.onPop k f).cmd = s.cmd := by
  unfold State.onPop; split <;> rfl
@[simp] theorem State.onPop_addr (s : State) (k : Nat) (f : Pop → Pop) : (s.onPop k f).addr = s.addr := by
  unfold State.onPop; split <;> rfl
@[simp] theorem State.onPop_conv (s : State) (k : Nat) (f : Pop → Pop) : (s.onPop k f).conv = s.conv := by
  unfold State.onPop; split <;> rfl
@[simp] theorem State.onPop_xbar (s : State) (k : Nat) (f : Pop → Pop) : (s.onPop k f).xbar = s.xbar := by
  unfold State.onPop; split <;> rfl
@[simp] theorem State.onPop_gov (s : State) (k : Nat) (f : Pop → Pop) : (s.onPop k f).gov = s.gov := by
  unfold State.onPop; split <;> rfl
@[simp] theorem State.onPop_folds (s : State) (k : Nat) (f : Pop → Pop) : (s.onPop k f).folds = s.folds := by
  unfold State.onPop; split <;> rfl
@[simp] theorem State.onPop_links (s : State) (k : Nat) (f : Pop → Pop) : (s.onPop k f).links = s.links := by
  unfold State.onPop; split <;> rfl
@[simp] theorem State.onPop_integ (s : State) (k : Nat) (f : Pop → Pop) : (s.onPop k f).integ = s.integ := by
  unfold State.onPop; split <;> rfl
@[simp] theorem State.onPop_mem (s : State) (k : Nat) (f : Pop → Pop) : (s.onPop k f).mem = s.mem := by
  unfold State.onPop; split <;> rfl
@[simp] theorem State.onPop_powerUps (s : State) (k : Nat) (f : Pop → Pop) : (s.onPop k f).powerUps = s.powerUps := by
  unfold State.onPop; split <;> rfl
@[simp] theorem State.onPop_fresh (s : State) (k : Nat) (f : Pop → Pop) : (s.onPop k f).fresh = s.fresh := by
  unfold State.onPop; split <;> rfl
@[simp] theorem State.onPop_pending (s : State) (k : Nat) (f : Pop → Pop) : (s.onPop k f).pending = s.pending := by
  unfold State.onPop; split <;> rfl

end Sys2Proof.Machine
end

