-- ==== Sys2Proof/Tests/Slice0.lean ====
section
/-!
SUPPORT. The model's own tests: ill-formed terms that WellFormed refuses, and for each statement with hypotheses a
state and operands that meet them.
-/

namespace Sys2Proof.Tests

open Sys2Proof Sys2Proof.Machine

set_option Elab.async false

/-! ### Small states -/

/-- A region over a range of addresses, with every permission. -/
def region (word0 base limit rowBase : Nat) : Region :=
  { desc := BitVec.ofNat 384
      (word0 + base * 2 ^ 32 + limit * 2 ^ 64 + rowBase * 2 ^ 96 + 0xFFFE * 2 ^ 112 + 0x777 * 2 ^ 140)
    init := true, degraded := false }

/-- A block that runs: firmware on both Shepherds, the token with A, region 0 in STRIPE mode and region 1 in bank 0 of
cluster 0. -/
def up : State :=
  { State.reset with
    pins := { pwrOk := true }
    clock := { running := true, xck := 1000, elapsed := 10 ^ 12 }
    integ := { postDone := true, slots := [(0, { logical := 0, state := .inService, zeroFor := some 0 })] }
    fw := { State.reset.fw with state := .running, runA := true, runB := true }
    addr := { regions := [(0, region 0 0 (2 ^ 27 - 1) 0), (1, region 0x200 (2 ^ 27) (2 ^ 27 + 2 ^ 20 - 1) 8192)] } }

/-- `n` bytes of value `v` at byte `i` of the parameters. -/
def pb (i v : Nat) : Nat := v * 2 ^ (8 * i)

/-- A packet given through the SP window. -/
def cmd (op units par : Nat) : Cmd := { src := .sp, pkt := BitVec.ofNat 2048 (op + units * 2 ^ 12 + par * 2 ^ 128) }

/-- A descriptor of REGION_SET. -/
def desc384 (word0 base limit rowBase : Nat) : Nat :=
  word0 + base * 2 ^ 32 + limit * 2 ^ 64 + rowBase * 2 ^ 96 + 0xFFFE * 2 ^ 112 + 0x777 * 2 ^ 140

/-- With views 0 and 3 and remote window 3. -/
def up1 : State :=
  { up with
    conv := { views := [(0, { desc := 0, owner := 0 }), (3, { desc := BitVec.ofNat 512 3, owner := 0 })] }
    addr := { up.addr with windows := [(3, BitVec.ofNat 256 (3 + 2 ^ 32 * 2 ^ 12 + 2 ^ 64 * 2 ^ 12 + 2 ^ 144))] } }

/-- A population of eight neurons in cluster 0, whose weights view 0x10 shows. -/
def popDesc : Nat :=
  5 + 2 ^ 32 * 7 + 2 ^ 64 * 2 ^ 27 + 2 ^ 96 * (2 ^ 27 + 1024) + 2 ^ 128 * 4 + 2 ^ 160 * (2 ^ 27 + 2048) +
    2 ^ 192 * 3 + 2 ^ 224 * (2 ^ 27 + 4096) + 2 ^ 352 * 8

/-- With a guarantee, two folds and that population. -/
def up4 : State :=
  ((up1.onGov fun g => { g with guarantees := [5 + 2 ^ 16] }).onFolds fun u =>
    { u with maps := [(0, { en := true, base := 0, limit := 9 })], entries := [(0, 0), (1, 2048)]
             folds := [(0, { state := .active, count := 2 }),
               (2048, { state := .active, tally := true, entry := 1 })] }).onEng fun e =>
    { e with pops := [(5, { desc := BitVec.ofNat 512 popDesc, owner := 0, p := 9 })] }

/-- A case of `takes`. -/
abbrev Case := State × Body × Cmd

/-- The packet passes its checks. -/
def Case.ok (x : Case) : Bool := x.1.takes x.2.1 x.2.2
/-- A write-data beat. -/
def beat : WBeat := { data := 5, strb := BitVec.allOnes 128, spoil := 0, last := true }

/-! ### Ill-formed terms -/

/-- Every row that is a packet refuses a packet of another opcode. -/
theorem test_wf_opcode :
    (([
     .nop, .echo, .queryState, .ctxReset, .portReset, .drain, .regionSet, .regionClear, .regionQuery,
     .regionMarkInit, .viewSet, .viewClear, .viewQuery, .viewStats, .stallLoad, .stallSwap, .stallQuery,
     .prioSet, .parkSet, .starveSet, .shareSet, .urgencySet, .latencySet, .budgetSet, .govAdmit,
     .guaranteeRelease, .powerLimitSet, .shedQuery, .foldMap, .foldCreate, .foldDestroy, .foldArm, .foldOp,
     .foldQuery, .foldDump, .popSet, .popClear, .popQuery, .popStage, .popUnstage, .step, .popUntaint,
     .evrouteSet, .drvFill, .drvCopy, .drvConvert, .drvEvacuate, .drvCancel, .drvQuery, .windowSet] : List (Cmd → Instr)) ++
      ([
     .windowClear, .windowQuery, .chipIdSet, .epochSet, .linkReset, .linkQuery, .retrySet, .scrubSet,
     .patchSet, .patchQuery, .laneRetire, .integQuery, .bistRun, .bistQuery, .penBank, .flipArm, .pwrStateSet,
     .idleTimerSet, .oppointSet, .pwrQuery, .timeSet, .timeQuery, .tsyncCfg, .wakeAinCfg, .timerWakeSet,
     .fwQuery, .activateAt, .healthOk, .confirmWindowSet, .settingsRead, .settingsWrite, .settingsDefault,
     .safeHoldExit, .halfReset, .crookAssign, .flipMaskSet, .ledgerRead, .safetyCfg, .lifecycleSet] : List (Cmd → Instr))).all
      (fun f => !(f (cmd 0xFFF 0 0)).wf) = true := by decide +kernel

/-- A packet from a source that does not exist, an object or a ring out of range. -/
theorem test_wf_packet :
    ([
     .nop { src := .ring 16, pkt := 0 }, .nop { src := .mbox 64 0 0, pkt := 0 },
     .nop { src := .mbox 0 1024 0, pkt := 0 }, .nop { src := .mbox 0 0 1024, pkt := 0 },
     .stallSwapTakeEffect 64, .popStageDone 4096, .popUnstageDone 4096, .stepRow 4096, .stepComplete 4096,
     .linkResetComplete 8, .doorbell 16 0, .ringFetch 16, .ringEnable 16 0, .ringDisable 16, .replyRdWrite 16 0] : List Instr).all
      (fun i => !i.wf) = true := by decide +kernel

/-- A request at a link port or of another row, a bank, a sub-port out of range. -/
theorem test_wf_port :
    ([
     .nopRequest 56 (goodWord 0), .nopRequest 0 (goodWord 1), .rd 56 (goodWord 1), .rd 0 (goodWord 2),
     .wr 56 (goodWord 2), .wr 0 (goodWord 3), .wrm 56 (goodWord 3), .wrm 0 (goodWord 4), .acc 56 (goodWord 4),
     .acc 0 (goodWord 5), .foldRequest 56 (goodWord 5), .foldRequest 0 (goodWord 6), .fence 56 (goodWord 6),
     .fence 0 (goodWord 7), .cmdRequest 56 (goodWord 7), .cmdRequest 0 (goodWord 0), .writeDataBeat 56 beat,
     .pieceQueueAccept 65 0, .pieceQueueAccept 0 64, .subportGrant 64, .mergeRead 8 0, .mergeRead 0 16,
     .bankWriteSlot 8 0, .bankWriteSlot 0 16, .readBeatComplete 8 0, .readBeatComplete 0 16, .scrubRead 8 0,
     .scrubRead 0 16, .scrubWriteBack 8 0, .scrubWriteBack 0 16] : List Instr).all
      (fun i => !i.wf) = true := by decide +kernel

/-- A unit, an entry or a reading out of range. -/
theorem test_wf_unit :
    ([
     .scaleCacheFill 8 0, .scaleCacheFill 0 (2 ^ 28), .epochTimeBoundary 4096, .epochSettle 4096, .arrive 8,
     .signal 8, .consume 8, .wait 8, .read 8, .wakeSequencerEnd 8, .spike 8, .mark 8, .evacRowCopy 8,
     .takeover 8, .clogPop 8, .clusterIdleExpire 8, .retentionSwitchAck 8, .clusterWake 8,
     .clusterExitComplete 8, .foldStateUe 8 0, .foldStateUe 0 2048, .eventIngress 4 0, .eventEgress 4,
     .bistTestEnd 8 {}, .repairPolicyAction (.patch 128 0 0), .repairPolicyAction (.patch 0 16384 0),
     .repairPolicyAction (.patch 0 0 36), .repairPolicyAction (.retire 128 0),
     .repairPolicyAction (.retire 0 36), .sensorRead [(9, 0)], .sensorRead [(0, 256)], .sensorRead [(0, -256)],
     .bellLevelChange 8 0, .linkSend 4096] : List Instr).all
      (fun i => !i.wf) = true := by decide +kernel

/-- An operand out of its field or its list. -/
theorem test_wf_operand :
    ([
     .linkResponse 8 { lh := 0, status := 0 }, .linkResponse 0 { lh := 0, status := 64 },
     .linkInboundRequest 8 { req := goodWord 0, lh := 0, lpar := 0 },
     .linkInboundRequest 0 { req := goodWord 0, lh := 0, lpar := 0, beats := List.replicate 33 beat },
     .sourceEntryReclaim 64, .linkUpChange 8 true, .pwrTimeout 0 0, .pwrTimeout 8 0, .pwrTimeout 6 8,
     .timerWakeFire 8, .faultReport { code := 256 }, .faultReport { code := 0, cluster := 16 },
     .faultReport { code := 0, bank := 32 }, .faultReport { code := 0, port := 128 },
     .faultReport { code := 0x16, hit := some (.row 128) }, .faultReport { code := 0x17, hit := some (.granule 0 true 4) },
     .faultReport { code := 0x19, hit := some (.records 4096 0) }, .faultReport { code := 0x18, hit := some (.response 64) },
     .faultReport { code := 0x20, hit := some (.request 64) }, .faultReport { code := 0x21, hit := some (.grant 64 true) },
     .faultReport { code := 0x22, hit := some (.governor 0 .normal 4) },
     .faultReport { code := 0xFF, hit := some (.ledger 1024) }, .svcRead 4097,
     .peekR 0 0, .peekR 0 65, .peekM (2 ^ 40) 1, .peekM 0 0, .peekM 0 4097, .pokeM (2 ^ 40) 0, .pokeM 2 0,
     .folds (some 8), .ledger 0, .ledger 1025, .stats 9, .baud 9599, .baud 3000001,
     .pwrOkRise [(64, 0)] [] 0 500, .pwrOkRise [(0, 4)] [] 0 500, .pwrOkRise [] [{ slot := 136 }] 0 500,
     .hardwareReady { slots := [136] }, .hardwareReady { subs := [64] }, .hardwareReady { clusters := [8] },
     .hardwareReady { ports := [64] }, .hardwareReady { events := [4] }, .hardwareReady { sensors := [9] },
     .portCtxWrite 65 0, .burstWrite 65 0, .mboxCfgWrite 64 0, .statCfgWrite 8 0,
     .registerWrite { sp := false, write := false, addr := 0 },
     .registerRead { sp := false, write := true, addr := 0 }, .portGroupClockChange 64 true,
     .responseTransfer 64, .jtagInstruction (.rawRead 136 0), .jtagInstruction (.rawRead 0 16704),
     .jtagInstruction (.rawWrite 136 0 0), .jtagInstruction (.rawWrite 0 16704 0),
     .jtagInstruction (.repairFuse { slot := 136 }), .jtagInstruction (.otpKey 4 0)] : List Instr).all
      (fun i => !i.wf) = true := by decide +kernel

/-- A table's entry out of its table. -/
theorem test_wf_entry :
    ([.region 256, .view 4096, .window 64, .stall 64 0 false, .stall 0 1024 false, .fold 32768,
      .population 4096] : List TableEntry).all
      (fun e => !(Instr.faultReport { code := 0x23, hit := some (.entry e) }).wf) = true := by decide +kernel

/-- Terms at the edge of their ranges are well formed. -/
theorem test_wf_good :
    ([
     .nop (cmd 0 0 0), .cmdRequest 3 (goodWord 7), .pieceQueueAccept 64 63, .linkSend 4095,
     .timerWakeFire 0xFE, .pwrTimeout 7 0xF, .jtagInstruction .bypass, .ledger 1024, .pokeM 4 0] : List Instr).all
      (fun i => i.wf) = true := by decide +kernel

/-- No row of the table gives bits. -/
theorem test_decode_none (nbits w : Nat) : decodeTableWord nbits w = none := rfl

/-- The check value of CRC-32C, and the SHA-384 of the empty message (FIPS 180-4). -/
theorem test_digests :
    crc32c (toBytes 9 0x393837363534333231) = 0xE3069283 ∧
      sha384 [] = 0x38b060a751ac96384cd9327eb1b1e36a21fdb71114be07434c0cc7bf63f6e1da274edebfe76f65fbd51ad2f14898b95b := by
  decide +kernel

/-! ### The queue and the shell -/

/-- StepTakesFront, IdleStep. -/
theorem test_queue_witness :
    ({ up with pending := [.govWindowStart] } : State).pending = [.govWindowStart] ∧
      up.quiet = true ∧ up.pins.pwrOk = true ∧ up.pending = [] ∧ up.safety.reports = [] ∧ up.fw.toInstall = [] ∧
      up.fw.mon.fifo = [] ∧ up.fw.mon.lines = [] := by decide +kernel

/-- RefusedCommandChangesNothing: a reserved parameter bit, a packet of another length, a fold of no map,
and a REGION_SET in Safe Hold; with a SIGNAL, whose fold translates or does not; a packet of an unlisted opcode; a query
whose reply initiator 64 may not write in its context. -/
theorem test_refusal_witness :
    ([(up, bodyRegionQuery, cmd 0x102 1 (2 ^ 40)), (up, bodyEcho, cmd 1 2 0), (up, bodyFoldArm, cmd 0x303 1 0),
      (up.onSafety fun y => { y with hold := true }, bodyRegionSet, cmd 0x100 3 0)] : List Case).all (fun x =>
      bodies.any (fun b => b.code == x.2.1.code) && x.1.gives x.2.1 x.2.2 && !x.2.2.signal &&
        (x.1.refusal x.2.1 x.2.2).isSome) = true ∧
    ([(up4, bodyRegionQuery, cmd (0x102 + 2 ^ 67) 1 (2 ^ 40)),
      (up4, bodyRegionQuery, cmd (0x102 + 2 ^ 67 + 2 ^ 96 * 12) 1 0)] : List Case).all (fun x =>
      x.1.gives x.2.1 x.2.2 && x.2.2.signal && (x.1.refusal x.2.1 x.2.2).isSome) = true ∧
    (let c := cmd (0x102 + 2 ^ 67 + 2 ^ 96 * 12) 1 0
     up4.translate c.ctx c.fold = none ∧ (up4.given c).checkHeader (some bodyRegionQuery) c = none ∧
       up4.safety.hold = false) ∧
    (let c := cmd 0xFFF 0 0
     up.quiet = true ∧ c.src.window = true ∧ (up.window c.src.isSp).busy = false ∧ bodyOf c.op = none ∧
       (up.checkHeader none c).isSome = true) ∧
    (let s := up1.onPort 64 fun p => { p with ctxBase := 5 }
     let c := cmd 0x102 1 (2 ^ 8 + pb 8 0x1000)
     s.gives bodyRegionQuery c = true ∧ s.refusal bodyRegionQuery c = none ∧
       ((s.given c).barredBy bodyRegionQuery c).isSome = true) := by decide +kernel

/-- OpcodeIndex. -/
theorem test_opcode_witness :
    bodies.all (fun b => b.code != (cmd 0xFFF 0 0).op) = true ∧ (cmd 0xFFF 0 0).headerBad = none ∧
      (cmd 0x001 3 0).op = bodyEcho.code ∧ (cmd 0x001 3 0).headerBad = none ∧ up.contextOk (cmd 0x001 3 0) = true ∧
      up.systemSource .sp = true ∧ (cmd 0x001 3 0).units ≠ bodyEcho.units := by decide +kernel

/-- ControlAndResetCommands. -/
theorem test_control_witness :
    ([(up, bodyNop, cmd 0 0 0), (up, bodyEcho, cmd 1 1 0x1234), (up, bodyQueryState, cmd 2 0 0),
      (up, bodyCtxReset, cmd 3 1 0), (up, bodyPortReset, cmd 4 1 0), (up, bodyDrain, cmd 5 1 1)] : List Case).all
      Case.ok = true := by decide +kernel

/-- AddressTableCommands. -/
theorem test_address_witness :
    ([(up, bodyRegionSet,
        cmd 0x100 3 (desc384 (5 + 0x200 + 2 ^ 13) (2 ^ 27 + 2 ^ 20) (2 ^ 27 + 2 ^ 20 + 127) 8192)),
      (up, bodyRegionClear, cmd 0x101 1 1), (up, bodyRegionMarkInit, cmd 0x103 1 1),
      (up, bodyViewSet, cmd 0x110 4 (7 + 2 ^ 16 * 0x100)), (up1, bodyViewClear, cmd 0x111 1 3),
      (up, bodyWindowSet, cmd 0x600 2 (2 ^ 32 * 2 ^ 12 + 2 ^ 64 * 2 ^ 12 + 2 ^ 144)),
      (up1, bodyWindowClear, cmd 0x601 1 3)] : List Case).all Case.ok = true := by decide +kernel

/-- QueryCommands, with the reply in the buffer and in memory. -/
theorem test_query_witness :
    ([(up1, bodyRegionQuery, cmd 0x102 1 0), (up1, bodyViewQuery, cmd 0x112 1 3), (up1, bodyWindowQuery, cmd 0x602 1 3),
      (up1, bodyPopQuery, cmd 0x402 1 0), (up1, bodyLinkQuery, cmd 0x613 1 0), (up1, bodyPatchQuery, cmd 0x702 1 0),
      (up1, bodyBistQuery, cmd 0x711 1 0), (up1, bodyLedgerRead, cmd 0xA04 1 (pb 4 1))] : List Case).all Case.ok = true ∧
    ([(up1, bodyRegionQuery, cmd 0x102 1 (2 ^ 8 + pb 8 0x1000)),
      (up1, bodyViewQuery, cmd 0x112 1 (3 + 2 ^ 16 + pb 8 0x1000)),
      (up1, bodyWindowQuery, cmd 0x602 1 (3 + 2 ^ 8 + pb 8 0x1000)),
      (up1, bodyPopQuery, cmd 0x402 1 (2 ^ 16 + pb 8 0x1000)),
      (up1, bodyStallQuery, cmd 0x202 1 (pb 4 1 + pb 8 0x1000)), (up1, bodyIntegQuery, cmd 0x704 1 (pb 8 0x1000)),
      (up1, bodySettingsRead, cmd 0x910 1 (pb 8 0x1000))] : List Case).all Case.ok = true ∧
    (cmd 0x102 1 0).flag 1 0 = false ∧ (cmd 0x102 1 (2 ^ 8 + pb 8 0x1000)).flag 1 0 = true ∧
    (cmd 0x112 1 (3 + 2 ^ 16 + pb 8 0x1000)).flag 2 0 = true := by decide +kernel

/-- ArbitrationCommands. -/
theorem test_arbitration_witness :
    ([(up1, bodyPrioSet, cmd 0x210 1 (pb 4 0x11)), (up1, bodyParkSet, cmd 0x211 1 (1 + pb 1 2 + pb 2 1)),
      (up1, bodyStarveSet, cmd 0x212 1 (1 + pb 1 2)), (up1, bodyShareSet, cmd 0x220 1 (1 + pb 1 8 + pb 2 4 + pb 3 1)),
      (up1, bodyUrgencySet, cmd 0x221 1 (1 + pb 1 8 + pb 2 4 + pb 3 1)), (up1, bodyLatencySet, cmd 0x222 1 (1 + pb 6 1)),
      (up1, bodyBudgetSet, cmd 0x223 1 (1 + pb 4 128)), (up1, bodyPowerLimitSet, cmd 0x240 1 62000),
      (up1, bodyShedQuery, cmd 0x241 0 0)] : List Case).all Case.ok = true := by decide +kernel

/-- A command that has asked initiator 64 for its parameters, and is answered so. -/
def asking (c : Cmd) (st : Status) (data : Nat) : State :=
  (up1.onCmd fun k => { k with waiting := [{ token := 3, cmd := c, why := .reading 7 }] }).onPort 64 fun p =>
    { p with resp := [{ tag := 0, status := st, data := BitVec.ofNat 1024 data, req := 7 }] }

/-- What stands when its answer has been taken. -/
def asked (c : Cmd) (st : Status) (data : Nat) : State :=
  ((asking c st data).takeAnswers 7).onCmd fun k => { k with waiting := k.waiting.filter (fun x => x.token != 3) }

/-- StallCommands. -/
theorem test_stall_witness :
    let c := cmd 0x200 1 (pb 4 1)
    let t := asked c .ok 0
    up1.takes bodyStallLoad c = true ∧ up1.takes bodyStallSwap (cmd 0x201 1 1) = true ∧
      c.op = 0x200 ∧ (asking c .ok 0).acceptOne = none ∧
      ((asking c .ok 0).asked 7).any (fun rs =>
        let bs := gotOf rs (c.par 8 5) (4 * c.par 4 2)
        let k := (t.sub (c.par 0 1)).shd.load (c.par 2 2) (c.par 4 2) (c.par 6 2) bs.bytes
        let book := { t.book with copy := fun m sh => if m = c.par 0 1 ∧ sh then k else t.book.copy m sh }
        (answerFault rs).isNone && bs.marked == [] &&
        (List.range (c.par 4 2)).all (fun i => stallEntryOk up1.cfg (entryAt bs.bytes i)) &&
        book.checkStalls.isNone && book.checkTolls.isNone) = true ∧
      t.judgment bodyStallLoad 3 false (some (.reading 7)) c = none ∧
      (asking c .decerr 0).acceptOne = none ∧
      ((asking c .decerr 0).asked 7).any (fun rs => (answerFault rs).isSome) = true := by
  decide +kernel

/-- A guarantee's record (Table 6-4). -/
def rec1 : Nat := 7 + 2 ^ 16 + 2 ^ 18 * 3 + 2 ^ 96

/-- AdmissionCommands. -/
theorem test_admission_witness :
    let c := cmd 0x230 1 (pb 0 0x2000 + pb 8 1)
    let t := asked c .ok rec1
    up1.takes bodyAdmit c = true ∧ up4.takes bodyGuaranteeRelease (cmd 0x231 1 5) = true ∧
      c.op = 0x230 ∧ (asking c .ok rec1).acceptOne = none ∧
      ((asking c .ok rec1).asked 7).any (fun rs =>
        let bs := gotOf rs (c.par 0 5) (32 * c.par 8 2)
        let set := (List.range (c.par 8 2)).map (recordAt bs.bytes)
        (answerFault rs).isNone && bs.marked == [] && (setBad up1.cfg up1.gov.guarantees set).isNone &&
        ({ t.book with admitted := up1.gov.guarantees, set := set } : Book).check.isNone) = true ∧
      t.judgment bodyAdmit 3 false (some (.reading 7)) c = none ∧
      ((asking c .decerr 0).asked 7).any (fun rs => (answerFault rs).isSome) = true := by decide +kernel

/-- ViewStatsCommand. -/
theorem test_view_stats_witness :
    up1.takes bodyViewStats (cmd 0x113 1 3) = true ∧
      up1.takes bodyViewStats (cmd 0x113 1 (3 + 2 ^ 17)) = true := by decide +kernel

/-- FoldCommands. -/
theorem test_fold_witness :
    ([(up4, bodyFoldMap, cmd 0x300 1 (pb 4 5 + 2 ^ 48)),
      (up4, bodyFoldCreate, cmd 0x301 1 (2 + pb 3 0xFF + pb 4 2 + pb 12 0x7F)),
      (up4, bodyFoldDestroy, cmd 0x302 1 1), (up4, bodyFoldArm, cmd 0x303 1 (1 + pb 4 5)),
      (up4, bodyFoldQuery, cmd 0x305 1 1), (up4, bodyFoldOp, cmd 0x304 1 (1 + pb 2 1 + pb 4 3)),
      (up4, bodyFoldDump, cmd 0x306 1 1)] : List Case).all Case.ok = true ∧
    (up4.foldEntry 0 2).isSome = true ∧
    (up4.freeIndex (up4.foldHome (cmd 0x301 1 (2 + pb 3 0xFF + pb 4 2 + pb 12 0x7F)))).isSome = true ∧
    up4.foldOf (cmd 0x304 1 1) = some 2048 ∧ up4.folds.queues.get [] 1 = [] := by decide +kernel

/-- EngineCommands: the population is staged or not; POP_SET needs a view of weights in the descriptor's region. -/
theorem test_engine_witness :
    ([(up4.onConv fun k => { k with views := k.views.set 3 { desc := BitVec.ofNat 512 (3 + 2 ^ 16), owner := 0 } },
        bodyPopSet, cmd 0x400 4 popDesc), (up4, bodyPopClear, cmd 0x401 1 5),
      (up4, bodyPopUntaint, cmd 0x411 1 5), (up4, bodyEvrouteSet, cmd 0x420 1 5), (up4, bodyPopStage, cmd 0x403 1 5),
      (up4, bodyPopUnstage, cmd 0x404 1 5), (up4, bodyStep, cmd 0x410 1 (5 + pb 4 9))] : List Case).all Case.ok = true ∧
    (up4.pop? (cmd 0x403 1 5).pop).isSome = true ∧
    (up4.onPop 5 fun p => { p with staged := true }).takes bodyPopUnstage (cmd 0x404 1 5) = true := by decide +kernel

/-- With a view that converts: FP32 at the port, E4M3 in memory. -/
def converting : State :=
  up4.onConv fun k => { k with views := k.views.set 6 { desc := BitVec.ofNat 512 (6 + 2 ^ 32 * 0x15), owner := 0 } }

/-- With a fill in the Drover's queue. -/
def up5 : State := up1.onCmd fun k => { k with jobs := [{ id := 0, kind := .fill, len := 64 }] }

/-- With no spare, and with a penned slot. -/
def noSpare : State := up.onSlot 16 fun l => { l with state := .retired }

def penned : State := up.onSlot 16 fun l => { l with state := .penned }

/-- DroverAndTestCommands. -/
theorem test_drover_witness :
    ([(up4, bodyDrvFill, cmd 0x500 2 (pb 8 64)), (up4, bodyDrvCopy, cmd 0x501 2 (pb 8 0x1000 + pb 16 64 + pb 20 0xFFFEFFFE)),
      (converting, bodyDrvConvert, cmd 0x502 2 (pb 8 0x1000 + pb 16 64 + pb 20 0xFFFE0006)),
      (up4, bodyDrvEvacuate, cmd 0x503 1 0), (up5, bodyDrvCancel, cmd 0x504 1 0), (up5, bodyDrvQuery, cmd 0x505 1 0),
      (up, bodyBistRun, cmd 0x710 1 (pb 1 16 + pb 2 1)), (up, bodyPenBank, cmd 0x712 1 (pb 2 1)),
      (noSpare, bodyPenBank, cmd 0x712 1 (pb 2 1 + pb 3 1)),
      (penned, bodyPenBank, cmd 0x712 1 (pb 1 0x1F + pb 2 1))] : List Case).all Case.ok = true ∧
    (up5.job? 0).isSome = true ∧ penAgain (cmd 0x712 1 (pb 2 1)) = false ∧ (up.spareOf 0).isSome = true ∧
    penAgain (cmd 0x712 1 (pb 2 1 + pb 3 1)) = false ∧ noSpare.spareOf 0 = none ∧
    penAgain (cmd 0x712 1 (pb 1 0x1F + pb 2 1)) = true ∧ (penned.pennedOf 0).isSome = true := by decide +kernel

/-- LinkAndIntegrityCommands. -/
theorem test_link_witness :
    ([(up, bodyChipIdSet, cmd 0x610 1 5), (up, bodyEpochSet, cmd 0x611 1 1), (up, bodyRetrySet, cmd 0x614 1 (pb 1 1 + pb 2 5)),
      (up, bodyLinkReset, cmd 0x612 1 0), (up, bodyScrubSet, cmd 0x700 1 (pb 2 3 + pb 8 5)),
      (up, bodyPatchSet, cmd 0x701 1 (pb 2 3 + pb 4 5 + pb 6 1)), (up, bodyLaneRetire, cmd 0x703 1 (pb 1 3)),
      (up, bodyFlipArm, cmd 0x713 3 (pb 4 1)), (up, bodyFlipMaskSet, cmd 0xA03 3 (pb 4 1))] : List Case).all
      Case.ok = true := by decide +kernel

/-- PowerAndTimeCommands and TimeSet. -/
theorem test_power_witness :
    ([(up, bodyPwrStateSet, cmd 0x800 1 (1 + pb 1 1)), (up, bodyIdleTimerSet, cmd 0x801 1 (1 + pb 4 100)),
      (up, bodyOppointSet, cmd 0x802 1 1), (up, bodyOppointSet, cmd 0x802 1 0), (up, bodyPwrQuery, cmd 0x803 0 0),
      (up, bodyTimeQuery, cmd 0x811 0 0), (up, bodyTimeSet, cmd 0x810 1 77),
      (up, bodyTsyncCfg, cmd 0x812 1 (1 + pb 2 1 + pb 4 1 + pb 6 1)),
      (up, bodyWakeAinCfg, cmd 0x813 1 (1 + pb 6 1)), (up, bodyTimerWakeSet, cmd 0x814 1 (1 + pb 8 1))] : List Case).all
      Case.ok = true := by decide +kernel

/-- With a settings record in memory. -/
def rec2 : State := up1.initWrite 0x2000 (settingsRecord 1 1 (defaultItems .tm256))

/-- FirmwareAndSafetyCommands; ACTIVATE_AT needs a signed image and has no case here. -/
theorem test_firmware_witness :
    ([(up, bodyFwQuery, cmd 0x900 0 0), (up, bodyHealthOk, cmd 0x902 0 0), (up, bodyConfirmWindowSet, cmd 0x903 1 5),
      (up, bodySettingsDefault, cmd 0x912 0 0), (up, bodySafeHoldExit, cmd 0xA00 0 0),
      (up.onSafety fun y => { y with hold := true }, bodySafeHoldExit, cmd 0xA00 0 0),
      (up, bodyHalfReset, cmd 0xA01 1 0), (up, bodyCrookAssign, cmd 0xA02 1 1),
      (up, bodySafetyCfg, cmd 0xA05 1 (pb 1 1 + pb 2 1)), (up, bodySafetyCfg, cmd 0xA05 1 (1 + pb 2 5 + pb 4 1)),
      (up, bodySafetyCfg, cmd 0xA05 1 2), (up, bodyLifecycleSet, cmd 0xA06 1 1)] : List Case).all Case.ok = true ∧
    (let c := cmd 0x911 1 ((settingsRecord 1 1 (defaultItems .tm256)).length + pb 8 0x2000)
     let got := ((rec2.given c).initRead (c.par 8 5) (c.par 0 4)).1
     let t := ((rec2.given c).initRead (c.par 8 5) (c.par 0 4)).2
     rec2.takes bodySettingsWrite c = true ∧ got.marked = [] ∧ t.settingsGood got.bytes = true) := by decide +kernel

/-! ### Ports, crossbar, banks -/

/-- A FENCE that has left the ingress and covers nothing. -/
def fenced : State :=
  up.onXbar fun x =>
    { x with outst := [{ id := 7, port := 0, word := 6, since := 900, plan := .fence, dest := .ingress, sent := true }] }

/-- PortRows, NopAnswered, RequestParityFault. -/
theorem test_port_witness :
    up.portOpen 0 = true ∧ up.fifoRoom 0 = true ∧ up.reqHeld 0 = false ∧ (up.port 0).resetting = none ∧
      (List.range 8).all (fun k => rqOp (goodWord (BitVec.ofNat 128 k)).word == k) = true ∧
      (up.port 0).wd.length < wdSize 0 ∧ beat.badCtl = false ∧ beat.badBytes = 0 ∧
      ({ beat with badCtl := true } : WBeat).badCtl = true ∧ up.portLive 0 = true ∧
      ((up.onPort 0 fun q => { q with wakes := [{ tag := 0, wake := true, status := .wake }] }).port 0).wakeReady.isSome
        = true ∧
      ((up.onPort 0 fun q => { q with resp := [{ tag := 3, status := .ok }] }).port 0).wakeReady = none ∧
      fenced.ready = true ∧ (fenced.outst? 7).isSome = true ∧
      (goodWord 0).good = true ∧ (up.port 0).fifo = [] ∧ up.xbar.outst = [] ∧ (up.port 0).parityHold = false ∧
      (up.port 0).allows (rqCtx (goodWord 0).word) = true ∧ ({ word := 1, par := 0 } : ReqWord).good = false := by
  decide +kernel

/-- A read of one row of bank 1. -/
def piece : Piece :=
  { req := 9, port := 3, kind := .rd, cls := 0, cluster := 0, bank := 1, row := 5, off := 0, len := 32, addr := 0, lane := 0
    lanes := 32, queuedAt := 990 }

/-- With that read in the queue of sub-port 0. -/
def queued (u : SubPort) : State := up.onSub 0 fun _ => { u with queue := [piece] }

/-- The step of a decision. -/
def stepOf (s : State) : Option GrantStep := (s.choice 0 true 1000).map Prod.fst

/-- SubportRows, GrantOrder: each step of R140 decides somewhere. -/
theorem test_grant_witness :
    (let s := up.onPort 3 fun q => { q with pieces := [piece] }
     s.ready = true ∧ s.cfg.hasSubport 0 = true ∧ firstPiece (s.port 3).pieces 0 = some piece ∧ piece.bank / 2 = 0 ∧
       s.atQueue 3 0 = some piece ∧ s.firstIn 0 piece = true ∧
       s.inRun 0 = true ∧ (s.sub 0).unusable = false ∧ s.queueTakes 0 3 = true ∧ (s.sub 0).acceptXck ≠ s.clock.xck ∧
       (s.sub 0).rd.decided ≠ s.clock.xck + 1) ∧
    (let s := up.onPort 65 fun q => { q with pieces := [{ piece with port := 64 }] }
     s.atQueue 64 0 = none ∧ (s.atQueue 65 0).any (fun x => s.queueTakes 0 x.port && s.firstIn 0 x) = true) ∧
    stepOf (queued { act := { entries := [(0, 0x83), (1, 0x83)] } }) = some .stall ∧
    stepOf (queued { rd := { starve := 7 } }) = some .waiter ∧
    stepOf (queued { rd := { tenure := some { holder := 3, beats := 1 } } }) = some .tenure ∧
    stepOf (queued {}) = some (.ranking true) ∧ stepOf up = none ∧
    ((queued { wr := { muted := true } }).sub 0).wr.muted = true ∧ ((queued {}).sub 0).wr.muted = false := by
  decide +kernel

/-- BankRows. -/
theorem test_bank_witness :
    let e : WEntry := { piece := { piece with kind := .wrm } }
    let f : WEntry := { piece := { piece with kind := .wr, len := 128, lanes := 128 } }
    let s := up.onBankq 1 fun q => { q with wbuf := [e], reads := [piece] }
    let t := up.onBankq 1 fun q => { q with wbuf := [f] }
    s.ready = true ∧ s.hasCluster 0 = true ∧ s.inRun 0 = true ∧ mergeDue (s.bankq 1).wbuf = some 0 ∧
      (t.bankq 1).wbuf = [f] ∧ f.piece.needsMerge = false ∧ f.piece.lines = [] ∧
      (let s := { s with clock := { s.clock with xck := 1001 } }
       s.readOpen 1 = true) ∧ (t.bankq 1).mayWrite t.clock.xck t.bck = true ∧
      t.linesReady f.piece = true ∧ (t.ctest 0).flipMask = 0 ∧
      (let u := t.onCtest 0 fun c => { c with flipMask := 1 }
       (u.ctest 0).flipMask ≠ 0 ∧ u.flipDefers 1 = false) ∧
      (let late : WEntry := { f with piece := { f.piece with slot := 1001 } }
       let head : WEntry := { f with piece := { f.piece with bank := 2 } }
       let u := ((up.onBankq 1 fun q => { q with wbuf := [late] }).onBankq 2 fun q => { q with wbuf := [head] }).onCtest 0
         fun c => { c with flipMask := 1 }
       (u.bankq 2).mayWrite u.clock.xck u.bck = true ∧ u.linesReady head.piece = true ∧ u.flipDefers 2 = true ∧
         u.tick.ready = true ∧ u.tick.writeNow 2 = true) ∧
      s.nextRead 1 = some piece ∧ piece.looked = false ∧ piece.lines = [] ∧ (s.bankq 1).mayRead s.bck = true ∧
      (let x := { piece with looked := true }
       (up.onBankq 1 fun q => { q with reads := [x] }).nextRead 1 = some x) := by decide +kernel

/-- GranuleFrame, GranuleReadBack: a granule of bank 0 is written and the symbols of another row stay. -/
theorem test_granule_witness :
    (List.replicate 36 7).length = 36 ∧ up.mirror 0 5 = none ∧ Memory.wf up.mem up.unlisted = true ∧
      (List.range 36).all (fun l => decide (cellAddr (up.slotOf 0) (up.servedRow (up.slotOf 0) 6 0) 0 0 ≠
        cellAddr (up.slotOf 0) (up.servedRow (up.slotOf 0) 5 l) 0 l)) = true ∧
      (let s := up.onCtest 0 fun t => { t with evac := some { bank := 0, spare := 16, copied := 100 } }
       (s.mirror 0 5).isSome = true) := by decide +kernel

/-! ### Conversion, the shell, folds -/

/-- A view whose span has ended and whose last epoch settles, a scale line that is filled, a swap that is due. -/
def viewed : State :=
  { (up.onSub 0 fun u => { u with swapAt := some (990, 3) }) with
    conv :=
      { views := [(4, { desc := BitVec.ofNat 512 (4 + 2 ^ 296 + 2 ^ 319), owner := 0
                        ended := [{ count := 1, ended := true }], cur := { count := 2 } })]
        caches := [(0, { fills := [{ addr := 2 ^ 27 + 0x40, owner := 0 }] })] } }

/-- The fill has been asked for, and is answered so. -/
def filled (st : Status) (spoil : BitVec 4) : State :=
  (viewed.onCache 0 fun c => { c with fills := [{ addr := 2 ^ 27 + 0x40, owner := 0, req := some 7 }] }).onPort 64 fun p =>
    { p with resp := [{ tag := 0, status := st, token := 0, spoil := spoil, req := 7 }] }

/-- ConversionRows. -/
theorem test_conversion_witness :
    let w : Waiting := { token := 1, cmd := cmd 0x113 1 (4 + 2 ^ 17), why := .settle 4 1 }
    let t := viewed.onCmd fun k => { k with waiting := [w] }
    viewed.ready = true ∧ viewed.hasCluster 0 = true ∧
      ((viewed.cache 0).fills.find? (fun f => f.addr == 2 ^ 27 + 0x40)).isSome = true ∧
      (let s := ((filled .ok 0).onCache 0 fun c => { c with fills := c.fills.map fun f => { f with stale := true } })
       (s.cache 0).fills.all (fun f => f.stale && f.req == some 7) = true ∧ (s.asked 7).isSome = true) ∧
      ((filled .ok 0).cache 0).fills.all (fun f => !f.stale) = true ∧
      viewed.owns64 0 = true ∧ viewed.rangeFails 0 [.r] false (2 ^ 27 + 0x40) 32 = none ∧ viewed.mayAsk true = true ∧
      ([(filled .ok 0, true, true), (filled .ok 4, true, false), (filled .perm 0, false, true)] :
          List (State × Bool × Bool)).all (fun x =>
        (x.1.asked 7).any fun rs => (answerFault rs).isNone == x.2.1 && rs.any (fun r => (r.spoil == 0) == x.2.2)) = true ∧
      (viewed.view? 4).any (fun v => epochMode v.desc == 2 && serialGe64 viewed.now v.boundary &&
        !serialGe64 viewed.now 5 && v.settles.any (fun r => (viewed.statsWaiting 4 r.count).isNone && (t.statsWaiting 4 r.count).isSome)) = true ∧
      t.sleeping (replyTouches t (w.cmd.flag 2 0) (w.cmd.par 8 5) 96) = [] ∧ w.cmd.flag 2 0 = false ∧
      viewed.spanFree 0x1000 96 true = true ∧
      (viewed.sub 0).swapAt = some (990, 3) ∧ 990 ≤ viewed.clock.xck := by decide +kernel

/-- Ring 0 with one unit at the start of region 1, and memory that reads zero there. -/
def ringed (r : Ring → Ring) : State :=
  up.onCmd fun k =>
    { k with rings := [(0, r { base := 2 ^ 19, en := true, sizeLog2 := 6, system := true, ctxCount := 1024, prod := 1
                               replyLog2 := 6, replyBase := 2 ^ 19 + 16 })] }

/-- The fetch of ring 0's next packet has asked for its first unit, or for so many units, and is answered so. -/
def fetching (f : RingFetch) (st : Status) (spoil : BitVec 4) (data : Nat) : State :=
  (ringed fun r => { r with prod := 2, fetch := f }).onPort 64 fun p =>
    { p with resp := [{ tag := 0, status := st, token := 0, spoil := spoil, data := BitVec.ofNat 1024 data, req := 7 }] }

/-- The answer to the fetch: whether it is a refusal, whether it is marked, and the units of the packet. -/
def fetchSays (s : State) : Option (Bool × Bool × Nat) :=
  (s.asked 7).map fun rs =>
    let bs := spanBytes rs ((s.ring 0).spans 1)
    ((answerFault rs).isSome, bs.any Prod.snd, headUnits (bs.map Prod.fst))

/-- ShellRows. -/
theorem test_shell_witness :
    (let s := ringed id
     s.ready = true ∧ (s.ring 0).halted = false ∧ (s.ring 0).fetch = .none ∧ (s.ring 0).en = true ∧
      (s.ring 0).present = 1 ∧ s.sourceHeld (.ring 0) = false ∧
      s.cmd.waiting.any (fun w => w.cmd.src.code == 0) = false ∧ s.safety.hold = false ∧
      s.turnTaken (.ring 0) s.cmd.accepted = false) ∧
    ([(Status.decerr, (0 : BitVec 4), true, false), (.ok, 1, false, true)] : List (Status × BitVec 4 × Bool × Bool)).all
      (fun x => let s := fetching (.body 7 2) x.1 x.2.1 (2 ^ 12)
        (s.asked 7).any fun rs => (answerFault rs).isSome == x.2.2.1 &&
          (x.2.2.1 || (spanBytes rs ((s.ring 0).spans 2)).any Prod.snd == x.2.2.2)) = true ∧
    (let r := (ringed fun r => { r with prod := 100 }).ring 0
     r.halted = false ∧ 2 ^ r.sizeLog2.toNat < r.present) ∧ (up.ring 0).en = false ∧
    fetchSays (fetching (.head 7) .decerr 0 0) = some (true, false, 1) ∧
    fetchSays (fetching (.head 7) .ok 1 0) = some (false, true, 1) ∧
    fetchSays (fetching (.head 7) .ok 0 0) = some (false, false, 1) ∧
    fetchSays (fetching (.head 7) .ok 0 (2 ^ 12)) = some (false, false, 2) ∧
    ((fetching (.body 7 2) .ok 0 (2 ^ 12)).asked 7).any (fun rs => (answerFault rs).isNone &&
      !(spanBytes rs (((fetching (.body 7 2) .ok 0 (2 ^ 12)).ring 0).spans 2)).any Prod.snd) = true ∧
    (let s := ringed fun r => { r with fetch := .ready (packetOf 0 []) }
     s.givens = [.ring 0 (packetOf 0 [])] ∧ s.cmd.acceptMck ≠ s.mck + 1) ∧
    (let w : Waiting := { token := 0, cmd := cmd 0 0 (2 ^ 20), why := .prev }
     let s := up.onCmd fun k => { k with waiting := [w], accepted := 1 }
     s.prevRuns w.cmd.src 0 = false ∧ (bodyOf w.cmd.op).isSome = true) ∧
    (let s := up.onCmd fun k => { k with deferred := [{ token := 0, cmd := cmd 5 1 1, holds := [] }] }
     s.drained (cmd 5 1 1) 0 = true ∧ (cmd 5 1 1).op = 0x005) := by decide +kernel

/-- FoldOperations, TallyOrderFree, FoldApplied. -/
theorem test_fold_operation_witness :
    (let b : Fold := { state := .active, count := 2 }
     let t : Fold := { state := .active, tally := true, value := 5 }
     foldValid b 2 1 = false ∧ b.arrived + 1 < b.count ∧
      ({ b with arrived := 1 } : Fold).arrived + 1 = b.count ∧ 0 < b.count ∧ t.value.toNat ≤ tallyMax ∧
      foldValid { t with state := .error } 1 3 = true ∧ 7 ≤ tallyMax ∧ 3 ≤ t.value.toNat ∧ t.value.toNat < 7 ∧
      ({ t with value := BitVec.ofNat 32 tallyMax } : Fold).value.toNat + 1 > tallyMax ∧
      (let run := fun (f : Fold) (l : List (Bool × Nat)) =>
        l.foldl (fun f o => if o.1 then (f.signal256 o.2).1 else (f.consume256 o.2).1) f
       [[], [(true, 3)], [(true, 3), (false, 9)], [(false, 9)], [(false, 9), (true, 3)]].all (fun l =>
        decide ((run t l).value.toNat < tallyMax) && !(run t l).deficitSat) = true)) ∧
    (let o : FoldOp := { origin := .flag 3, op := 2, value := 9, cluster := 1, index := 0, ctx := 0 }
     let x := up4.onFolds fun u => { u with queues := [(1, [o])] }
     x.ready = true ∧ x.inRun 1 = true ∧ x.folds.queues.get [] 1 = [o] ∧
      ((up4.fold 2048).apply .tm128 2 9).status ≠ .defer) := by decide +kernel

/-- Waiters of a port and of a ring, both over, and a dump at its second record. -/
def waited : State :=
  (up4.onFolds fun u =>
    { u with waiters := [{ order := 1, cluster := 0, index := 0, ctx := 0, who := .port 3 5, v := 1, deadline := none, ended := some .wake },
               { order := 2, cluster := 1, index := 0, ctx := 0, who := .ring 0 0 4, v := 1, deadline := some 20, ended := some .wake }]
             dumps := [{ token := 6, cmd := cmd 0x306 1 (pb 8 0x1000), next := 1 }] }).onCmd fun k =>
    { k with deferred := [{ token := 4, cmd := cmd 0x304 1 (1 + pb 2 3), holds := [] },
               { token := 6, cmd := cmd 0x306 1 (pb 8 0x1000), holds := [] }] }

/-- With a dump to memory or to the service port at some record. -/
def dumping (svc : Bool) (n : Nat) : State :=
  waited.onFolds fun u =>
    { u with dumps := [{ token := 6, cmd := cmd 0x306 1 (if svc then 1 else pb 8 0x1000), next := n }] }

/-- WaiterRows. -/
theorem test_waiter_witness :
    ([(dumping false 0, true, false), (dumping false (up.foldCount - 1), false, true)] : List (State × Bool × Bool)).all
      (fun x => (x.1.folds.dumps.find? (fun d => !x.1.dumpPaused d)).any (fun d =>
        decide (d.next = 0) == x.2.1 && decide (d.next + 1 = x.1.foldCount) == x.2.2 &&
        x.1.inRun (d.next / 2048) && !d.cmd.dumpSvc && (x.1.cut d.token).isNone &&
        x.1.sleeping (x.1.clustersOf (d.cmd.par 8 5 + 64 + 32 * d.next) 32 ++ x.1.clustersOf (d.cmd.par 8 5) 64) == [] &&
        x.1.spanFree (d.cmd.par 8 5 + 64 + 32 * d.next) 32 true && x.1.spanFree (d.cmd.par 8 5) 64 true)) = true ∧
    up.foldCount ≠ 0 ∧ up.foldCount ≠ 1 ∧
    ([0, 5, up.foldCount - 1] : List Nat).all (fun n =>
      let s := dumping true n
      (s.folds.dumps.find? (fun d => !s.dumpPaused d)).any (fun d =>
        let t := s.foldCorrects d.next
        let bs := (if d.next = 0 then t.dumpHeader else []) ++ t.dumpRecord d.next
        d.cmd.dumpSvc && (s.cut d.token).isNone && s.inRun (d.next / 2048) && d.next != s.foldCount &&
          decide (((if d.next = 0 then toBytes 4 (64 + 32 * s.foldCount + 16) else []) ++ bs ++
            (if d.next + 1 = s.foldCount then t.svcTrailer (crcFold d.crc bs) else [])).length ≤
              65536 - t.fw.svc.out.length))) = true ∧
    (waited.nextWake 0).map Waiter.who = some (.port 3 5) ∧ (waited.nextWake 1).map Waiter.who = some (.ring 0 0 4) ∧
      (waited.cmd.deferred.find? (fun d => d.token == 4)).isSome = true ∧
      waited.ready = true ∧ waited.hasCluster 0 = true ∧ waited.inRun 0 = true ∧ waited.inRun 1 = true ∧
      (waited.fold 0).state = .active ∧
      (waited.folds.dumps.find? (fun d => !waited.dumpPaused d)).any (fun d => d.next != waited.foldCount &&
        waited.inRun (d.next / 2048) && !d.cmd.dumpSvc && (waited.cut d.token).isNone &&
        d.next + 1 != waited.foldCount && decide (0 < d.next) &&
        waited.spanFree (d.cmd.par 8 5 + 64 + 32 * d.next) 32 true &&
        waited.sleeping (waited.clustersOf (d.cmd.par 8 5 + 64 + 32 * d.next) 32) == []) = true := by decide +kernel

/-! ### Events and STEP -/

/-- A SPIKE for population 5 with a step tag, and a MARK. -/
def spikeWord (step : Nat) : BitVec 128 := BitVec.ofNat 128 (5 + 2 ^ 32 * 1 + 2 ^ 64 * step)

def markWord : BitVec 128 := BitVec.ofNat 128 (5 + 2 ^ 12 + 2 ^ 96 * 1)

/-- With an event in path 0 of cluster 0's dispatcher. -/
def evented (w : BitVec 128) : State :=
  up4.onDisp 0 fun d => { d with paths := [(0, [{ word := w, port := 0 }])] }

/-- EventIngress. -/
theorem test_ingress_witness :
    let w := evWithParity (spikeWord 9)
    let full := up4.onDisp 0 fun d => { d with paths := [(0, List.replicate 16 { word := 5, port := 0 })] }
    up4.quiet = true ∧ bitOf up4.eng.unusable.toNat 0 = false ∧ evParityOk 0 = false ∧ evParityOk w = true ∧
      (up4.pop? (evPop (w.setWidth 128))).any (fun p => decide (evSource (w.setWidth 128) < popDirCount p.desc) &&
        decide (((up4.disp (popCluster p.desc)).paths.get [] 0).length < 16) &&
        decide (16 ≤ ((full.disp (popCluster p.desc)).paths.get [] 0).length)) = true ∧
      up4.safety.hold = false ∧ evMalformed (w.setWidth 128) = false ∧ evKind (w.setWidth 128) = 0 ∧
      up.pop? (evPop (w.setWidth 128)) = none := by decide +kernel

/-- DispatchRows, StepWindow. -/
theorem test_dispatch_witness :
    (let p : Pop := { desc := BitVec.ofNat 512 popDesc, owner := 0, p := 9 }
     p.window 9 = .apply ∧ ({ p with running := true } : Pop).window 11 = .hold ∧ p.window 12 = .refuse) ∧
    (evented (spikeWord 9)).ready = true ∧ (evented (spikeWord 9)).hasCluster 0 = true ∧
      (evented (spikeWord 9)).inRun 0 = true ∧
      ((evented (spikeWord 9)).nextEvent 0).any (fun e => evKind e.word == 0 && !(evented (spikeWord 9)).evStale 0 e.word)
        = true ∧
      ((evented markWord).nextEvent 0).any (fun e => evKind e.word == 1 && !(evented markWord).evStale 0 e.word)
        = true ∧ ((evented markWord).disp 0).hold = [] ∧
      ((evented 6).nextEvent 0).any (fun e => evKind e.word == 0 && (evented 6).evStale 0 e.word) = true ∧
      (let s := up4.onDisp 0 fun d => { d with egress := [(2, [{ word := 5, token := 5 }])] }
       s.ready = true ∧ s.egressNext 2 = some 0) := by decide +kernel

/-- StepNeuron: a neuron that is disabled, one that is refractory, one that fires and one that does not. -/
theorem test_neuron_witness :
    let d := BitVec.ofNat 512 (popDesc + 2 ^ 288 * 100)
    bitOf (2 ^ 114) 114 = true ∧ 0 < bitsOf (2 ^ 96 * 3) 96 16 ∧
      popThreshold d ≤ clamp32 200 ∧ clamp32 50 < popThreshold d ∧
      (stepNeuron d 0 (200 * 2 ^ 32)).spike = some 200 ∧ (stepNeuron d 0 (50 * 2 ^ 32)).spike = none := by decide +kernel

/-- A population with a staging and a STEP under way. -/
def stepping (rows : Nat) (unstage : Bool) : State :=
  (up4.onEng fun e =>
    { e with stagings := [{ pop := 5, token := 1, cmd := cmd 0x403 1 5, unstage := unstage }]
             steps := [{ pop := 5, token := 2, cmd := cmd 0x410 1 5, tag := 10, route := {}, rows := rows }] }).onCmd fun k =>
    { k with deferred := [{ token := 1, cmd := cmd 0x403 1 5, holds := [] }, { token := 2, cmd := cmd 0x410 1 5, holds := [] }] }

/-- With a row of it in the accumulator buffer, which a read under way reaches. -/
def copying (unstage : Bool) : State :=
  ((stepping 0 unstage).onEng fun e => { e with abuf := [(0, [{ row := 5, buf := 0, pop := 5 }])] }).onBankq 0 fun q =>
    { q with reads := [{ piece with bank := 0 }] }

/-- Its STEP is over; an event of it is held, or none. -/
def stepped (l : List Event) : State :=
  ((stepping 9 false).onStep 5 fun r => { r with ended := true }).onDisp 0 fun d => { d with hold := l }

/-- StepRows. -/
theorem test_step_witness :
    (copying false).copyFree 0 5 = false ∧ (copying true).copyFree 0 5 = false ∧
      (copying false).inRun 0 = true ∧ ((copying false).staging? 5 false).isSome = true ∧
      ((copying true).staging? 5 true).isSome = true ∧
      (stepping 0 false).copyFree 0 5 = true ∧ (stepping 0 true).copyFree 0 5 = true ∧
      ((stepping 0 false).stepRun? 5).any (fun r => !r.ended && ((stepping 0 false).cut r.token).isNone) = true ∧
      ((stepping 9 false).stepRun? 5).any (fun r => !r.ended) = true ∧
      (stepped []).ready = true ∧ (stepped []).heldDone 0 5 = true ∧ ((stepped []).stepRun? 5).any (·.ended) = true ∧
      (stepped [{ word := spikeWord 10, port := 0 }]).heldDone 0 5 = false ∧
    (stepping 0 false).ready = true ∧ ((stepping 0 false).pop? 5).isSome = true ∧
      ((stepping 0 false).staging? 5 false).any (fun g => ((stepping 0 false).cut g.token).isNone) = true ∧
      ((stepping 0 true).staging? 5 true).any (fun g => ((stepping 0 true).cut g.token).isNone) = true ∧
      (stepping 0 false).inRun 0 = true ∧
      ((stepping 0 false).stepRun? 5).any (fun r => ((stepping 0 false).pop? 5).any (fun p => !r.rowsDone p) &&
        (stepping 0 false).stepRoom 0 r) = true ∧
      (stepping 0 false).eventRoom 0 1 = true ∧ popState (BitVec.ofNat 512 popDesc) = 2 ^ 27 ∧
      (stepping 0 false).rangeFails 0 [.r, .w, .a] false (2 ^ 27) 128 = none ∧
      (stepping 0 false).locate (2 ^ 27) = some (0, 8192, 0) ∧
      (let s := (stepping 0 false).onPop 5 fun p => { p with staged := true }
       (s.pop? 5).any (fun p => p.staged) = true ∧ (s.bankq 0).holdsRow 8192 = false) ∧
      ((stepping 9 false).stepRun? 5).any (fun r => ((stepping 9 false).pop? 5).any (fun p => r.rowsDone p) &&
        r.left == 0 && r.inFlight == 0) = true := by decide +kernel

/-! ### The Drover's rows, tests, links -/

/-- With jobs in the queue or running, and a budget for them. -/
def jobs (f : CmdIf → CmdIf) : State := (up.onCmd f).onGov fun g => { g with tb := 10 ^ 9 }

/-- Jobs on region 1. -/
def fillJob : Job := { id := 1, kind := .fill, dst := 2 ^ 27, len := 128 }

def copyJob : Job := { id := 2, kind := .copy, src := 2 ^ 27, dst := 2 ^ 27 + 4096, len := 128 }

def evacJob : Job := { id := 3, kind := .evacuate }

/-- An evacuation of bank 0 with so many rows copied. -/
def evacuating (n : Nat) : State :=
  (jobs fun k => { k with bankJob := some evacJob }).onCtest 0 fun t =>
    { t with evac := some { bank := 0, spare := 16, copied := n } }

/-- A job that waits for request 7, which is answered. -/
def answered (bank : Bool) (j : Job) (w : JobWait) : State :=
  (jobs fun k => if bank then { k with bankJob := some { j with wait := w } } else
      { k with xbarJob := some { j with wait := w } }).onPort 64 fun p =>
    { p with resp := [{ tag := 0, status := .ok, token := 0, req := 7 }] }

/-- DroverRows, Takeover. -/
theorem test_drover_rows_witness :
    (let s := jobs fun k => { k with jobs := [fillJob, copyJob] }
     s.ready = true ∧ s.safety.hold = false ∧ s.cmd.bankJob = none ∧ s.nextJob true = some fillJob ∧
      s.jobToll fillJob + s.gov.spent ≤ s.gov.tb ∧ s.cmd.xbarJob = none ∧ s.nextJob false = some copyJob ∧
      s.jobToll copyJob + s.gov.spent ≤ s.gov.tb) ∧
    (let s := jobs fun k => { k with bankJob := some fillJob, xbarJob := some copyJob }
     fillJob.wait = .none ∧ fillJob.done < fillJob.len ∧ s.reachFails 0 .wr (2 ^ 27) 128 = none ∧ s.mayAsk false = true ∧
      s.windowAt (2 ^ 27) = none ∧ s.cmd.xbarJob = some copyJob ∧ copyJob.wait = .none) ∧
    ([answered true fillJob (.writing 7 128 128), answered false copyJob (.writing 7 128 128),
      answered false copyJob (.reading 7 128)] : List State).all (fun s =>
      (s.asked 7).any (fun rs => (answerFault rs).isNone)) = true ∧
    (let s := evacuating 5
     (s.ctest 0).evac.any (fun e => s.evacPlace 0 e == some (5, none)) = true ∧ (s.bankq 0).copy = none) ∧
    (let x : Piece := { piece with bank := 0, slot := 990 }
     let s := (evacuating 5).onBankq 0 fun q => { q with copy := some x }
     s.evacReady 0 x = true) ∧
    ({ fillJob with done := 128 } : Job).over = true ∧ ({ copyJob with done := 128 } : Job).over = true ∧
    (let s := evacuating 16384
     s.closing 0 = true ∧ (s.bankq 0).wbuf = [] ∧ (s.bankq 0).writeBck ≤ s.bck) ∧
    (up.lbank 0).slot = 0 := by decide +kernel

/-- A memory test that runs, alone or before another. -/
def tested (next : Option Nat) : State :=
  up.onCtest 0 fun t => { t with run := some { slot := 16, test := 0, next := next, who := none } }

/-- A write-back whose time is still to come, or has passed. -/
def writeBack (t : Nat) : State :=
  up.onBank 0 fun b => { b with pending := [{ row := 5, granule := 0, data := 0, deadline := t }] }

/-- A cluster whose rotation is due: spares tested, ROTATE_PERIOD long past. -/
def rotating : State :=
  ({ up with clock := { up.clock with elapsed := 10 ^ 14 } } : State).onFw fun w =>
    { w with items := { w.items with startTest := 7 } }

/-- TestAndScrubRows. -/
theorem test_test_witness :
    (up.ready = true ∧ (up.fw.state = .running ∧ up.power.block = .run ∧ up.quiet = true ∧ up.analogDue = true) ∧
      ((tested none).ctest 0).run.any (fun r => r.next.isNone) = true ∧
      ((tested (some 2)).ctest 0).run.any (fun r => r.next == some 2) = true) ∧
    (ones 36 (3 : BitVec 36).toNat = 2 ∧ ones 36 (1 : BitVec 36).toNat = 1 ∧
      32 < ones 64 (2 ^ 33 - 1 : BitVec 64).toNat) ∧
    (let s := ({ up with addr := { regions := [(0, region 0x200000 0 (2 ^ 27 - 1) 0)] } } : State).onBank 0 fun b =>
      { b with scrubEn := true }
     s.scrubFree 0 = true ∧ s.scrubNext 0 300 (s.bank 0).scrubRow.toNat = some 0 ∧ (s.bankq 0).holdsRow 0 = false) ∧
    (up.bckOf 0 ≤ 600 ∧ 400 < up.bckOf 0 ∧ up.stagedAt (up.slotOf 0) 5 = none ∧ up.inRun 0 = true ∧ up.mirror 0 5 = none ∧
      ((writeBack 600).bank 0).pending.length = 1 ∧ (writeBack 600).writeFree 0 5 = true ∧
      ((writeBack 600).lbank 0).out = false ∧ (writeBack 600).safety.hold = false ∧
      (let s := (writeBack 600).onBank 0 fun b =>
        { b with pending := b.pending ++ [{ row := 5, granule := 2, data := 1, deadline := 600 }] }
       (s.bank 0).pending.all (fun w => w.row == 5) = true ∧ s.writeFree 0 5 = true)) ∧
    (up.policyOn = true ∧ up.policyBank 0 = true ∧ up.rowFree 0 9 true = true ∧ up.patchesFree 0 5 = true ∧ (up.retired 0).contains 5 = false ∧ (up.retired 0).length < 2 ∧
      (up.onBank 0 fun b => { b with laneLap := [(5, 10 ^ 6)] }).retireCause 0 5 = true ∧
      (up.onBank 0 fun b => { b with streak := [(64 * 9 + 5, 100)] }).patchCause 0 9 5 = true) ∧
    (let u := rotating.startTests
     rotating.fwActs = true ∧ u.droverFull = false ∧ u.requestNow = none ∧ u.policyOn = true ∧
      u.fw.items.rotateEn = true ∧ u.requestWaits = false ∧ u.safety.lifecycle ≠ 4 ∧ u.turnOf.isSome = true) ∧
    ((rotating.onBank 3 fun b => { b with evacReq := true }).startTests).requestNow = some (0, 3, 16) := by decide +kernel

/-- Chip 5 with a destination, a source entry, link 0 up, and a request to chip 7 that waits or was sent. -/
def linked (o : OutReq → OutReq) : State :=
  (up.onLinks fun l =>
    { l with chip := 5, ports := [(0, { up := true })], dests := [(0, { chip := 7, nextSeq := 1 })]
             srcs := [(0, { chip := 7, incarn := 0, base := 0 })]
             out := [o { req := 3, window := 0, chip := 7, op := 1, addr := 0, len := 32, ctx := 0, view := 0
                         word := 1, mask := 1, adaptive := false, takenAt := 0 }] }).onTime fun t =>
    { t with advance := 2 ^ 60 }

/-- It was sent with sequence number 0. -/
def sent (o : OutReq) : OutReq := { o with seq := some 0, limit := 4, interval := 20 }

/-- LinkOutRows. -/
theorem test_link_out_witness :
    (let s := linked id
     s.ready = true ∧ (s.dest? 7).isSome = true ∧ s.links.chip ≠ 0xFFF ∧ (s.inFlight 7).length < 256 ∧
      (s.links.out.find? (fun o => o.chip == 7 && o.seq.isNone)).any (fun o =>
        s.portFor o == some 0 && s.portRoom 0 o) = true ∧
      (s.dest? 7).any (fun d => decide ((d.2.nextSeq - d.2.floor).toNat < 1024)) = true) ∧
    (let s := linked sent
     (s.out? 3).any (fun o => decide (o.sentAt + o.interval * 1000 ≤ s.ns) && decide (o.resends < o.limit) &&
        s.portFor o == some 0 && s.portRoom 0 o) = true) ∧
    (let s := linked fun o => { sent o with resends := 4 }
     (s.out? 3).any (fun o => s.outLost o) = true) ∧
    (let s := up.onLink 0 fun l => { l with resetting := some (0, cmd 0x612 1 0) }
     (s.link 0).resetting.isSome = true ∧ s.cut 0 = none ∧ s.sentOn 0 = []) ∧ 0 < up.cfg.links := by decide +kernel

/-- A link header from a chip to a chip, with sequence number 1. -/
def linkHeader (src dst : Nat) : BitVec 64 := BitVec.ofNat 64 (src + dst * 2 ^ 12 + 2 ^ 32)

/-- A request over a link: a NOP with that header. -/
def linkReq (dst : Nat) : LinkReq :=
  { req := goodWord 0, lh := linkHeader 7 dst
    lpar := BitVec.ofNat 2 (if ones 32 (7 + dst * 2 ^ 12) % 2 = 0 then 1 else 0) }

/-- With a SIGNAL held for a fold, which what it announces has reached or not. -/
def heldBack (span : Nat) : State :=
  (linked id).onLinks fun l =>
    { l with held := [{ req := 9, port := 56, order := 4, arrived := 0
                        link := { src := 0, chip := 7, incarn := 0, seq := 3, span := span, ce := false, tclass := true }
                        op := { origin := .port 9, op := 1, value := 1, cluster := 0, index := 0, ctx := 0 } }] }

/-- LinkInRows: the link stands while the block is in STOP; the rest needs a block that runs. -/
theorem test_link_in_witness :
    (let s := ({ linked id with
        power := { up.power with block := .stop }, clock := { up.clock with running := false } } : State)
     let r := linkReq 5
     s.portOpen 56 = true ∧ s.ready = false ∧ s.takesRequest 56 = true ∧
      (s.port 56).fifo.length + ((s.outstOf 56).filter (fun o => !o.sent)).length + (s.linkWaits 0).2 < fifoSize 56 ∧
      (s.port 56).wd.length + (s.linkWaits 0).1 + r.beats.length ≤ wdSize 56) ∧
    (let s := linked id
     s.portOpen 56 = true ∧ s.ready = true ∧ s.power.block = .run ∧ s.power.attempt = false ∧ s.links.waiting = [] ∧
      s.takesRequest 56 = true ∧ s.portLive 56 = true ∧
      ({ lh := 0, parityOk := false, status := 0 } : LinkRsp).parityOk = false) ∧
    (let s := linked sent
     let r : LinkRsp := { lh := BitVec.ofNat 64 (7 + 5 * 2 ^ 12), status := 0 }
     s.portLive 56 = true ∧ bitsOf r.lh.toNat 12 12 = s.links.chip ∧ s.epochOk r.lh = true ∧
      ((s.inFlight (bitsOf r.lh.toNat 0 12)).find? (fun o =>
        o.seq == some (BitVec.ofNat 16 (bitsOf r.lh.toNat 32 16)))).isSome = true ∧
      (s.dest? (bitsOf r.lh.toNat 0 12)).isSome = true ∧ r.last = true) ∧
    (let s := linked id
     let r := linkReq 5
     s.fifoRoom 56 = true ∧ (s.port 56).wd.length + r.beats.length ≤ wdSize 56 ∧ r.req.good = true ∧
      r.headerGood = true ∧ bitsOf r.lh.toNat 12 12 = s.links.chip ∧ bitsOf r.lh.toNat 0 12 ≠ s.links.chip ∧
      (s.sourceFor 7 0 1).any (fun p => (p.2.links.srcs.find? p.1).any fun e => decide ((1 - e.base).toNat < 1024))
        = true ∧
      (linkReq 6).headerGood = true ∧ bitsOf (linkReq 6).lh.toNat 12 12 ≠ s.links.chip) ∧
    (let s := heldBack 0
     (s.links.held.find? (fun h => h.order == 4)).any (fun h => s.releasable h) = true ∧
      (s.folds.queues.get [] 0).length < 64) ∧
    (let s := heldBack 2
     (s.links.held.find? (fun h => h.order == 4)).any (fun h => !s.releasable h &&
        decide (h.arrived + 100000000 ≤ s.ns)) = true) ∧
    (let s := linked id
     (s.links.srcs.find? 0).any (fun e => decide (e.last + 100000000 ≤ s.ns) && e.recs.all (fun r => r.2.done.isSome))
       = true) := by decide +kernel

/-! ### Registers, the governor, power, time -/

/-- RegisterRows, StrobesAndInterruptRegisters. -/
theorem test_register_witness :
    up.quiet = true ∧ up.pins.pwrOk = true ∧
      (let w : RegAccess := { sp := false, write := true, addr := 0x000010, data := 7 }
       up.regCluster? w = none ∧ w.parityOk = true ∧ w.safety = false) ∧
      (let w : RegAccess := { sp := false, write := true, addr := 0x800008, data := 7 }
       up.regCluster? w = none ∧ w.safety = true ∧ w.sp = false) ∧
      (let w : RegAccess := { sp := true, write := true, addr := 0x000010, parityOk := false }
       up.regCluster? w = none ∧ w.parityOk = false) ∧
      (let r : RegAccess := { sp := true, write := false, addr := 0x000010, parityOk := false }
       up.regCluster? r = none ∧ r.parityOk = false) ∧
      (let s := up.onCpower 0 fun p => { p with attempt := some 990 }
       (s.cpower 0).attempt.isSome = true ∧ (up.cpower 0).attempt = none ∧ s.inRun 0 = true ∧
         (regPlace s.cfg 0x080408).cluster? = some 0) ∧
      (let r : RegAccess := { sp := true, write := false, addr := 0x000010 }
       up.regCluster? r = none ∧ r.write = false ∧ (regPlace up.cfg r.addr).cluster? = none) ∧
      (let r : RegAccess := { sp := true, write := false, addr := 0x080408 }
       up.regCluster? r = none ∧ (regPlace up.cfg r.addr).cluster? = some 0 ∧ up.inRun 0 = true) := by decide +kernel

/-- RingAndWindowRows, NamedRegisterRows. -/
theorem test_ring_witness :
    (up.ring 0).halted = false ∧ (up.ring 0).en = false ∧ ((ringed id).ring 0).en = true ∧
      ((ringed id).ring 0).unread 0 ≤ 2 ^ ((ringed id).ring 0).replyLog2.toNat ∧
      2 ^ ((ringed id).ring 0).replyLog2.toNat < ((ringed id).ring 0).unread 1 ∧ (up.window true).busy = false ∧
      ((up.onWindow true fun w => { w with busy := true }).window true).busy = true ∧
      up.cfg.hasInitiator 64 = true ∧ up.hasCluster 0 = true ∧ up.inRun 0 = true ∧ up.safety.test = none := by
  decide +kernel

/-- GovernorRows. -/
theorem test_governor_witness :
    up.ready = true ∧ up.sensorsOf.contains 8 = true ∧ up.sensorsOf.all (fun j => !(up.sensor j).failed) = true ∧
      up.portPresent (48 + 3) = true ∧ (up.bell 3).level ≠ 3 ∧ up.windowReady = true ∧ up.sensorsDue = true ∧
      (up.onGov fun g => { g with windows := 1, windowAt := 990 }).windowReady = false ∧
      up.pins.clockStopped.get false (48 + 3) = false ∧ bellLevel 0b10 = 3 ∧ bellLevel 0b11 = 2 := by decide +kernel

/-- Cluster 0 in a mode, with a wake or none. -/
def cmode (m : PowerMode) (w : Option (Nat × Nat)) : State :=
  up.onCpower 0 fun p => { p with mode := m, wake := w, ticks := 5, count := 5 }

/-- The block in a mode, at work on a step. -/
def bmode (m : PowerMode) (w : PowerWork) (l : List PowerStep) : State :=
  ({ up with power := { up.power with
      block := m, work := w, steps := l, ticks := 5, count := 5, wake := decide (m = .stop)
      clusters := (List.range 8).map fun k => (k, { mode := .stop }) } } : State)

/-- PowerRows. -/
theorem test_power_rows_witness :
    (let s := cmode .run none
     s.ready = true ∧ s.hasCluster 0 = true ∧ (s.cpower 0).mode = .run ∧ (s.cpower 0).attempt = none ∧
      s.clusterIdle 0 = true ∧ (s.cpower 0).ticks ≠ 0 ∧ (s.cpower 0).ticks ≤ (s.cpower 0).count ∧
      (s.refusers 0).any id = false ∧
      (let t := (s.onGov fun g => { g with guarantees := [5 + 2 ^ 16] }).onCpower 0 fun p => { p with refusedAt := some 900 }
       t.clusterIdle 0 = true ∧ (t.refusers 0).any id = true ∧ (t.cpower 0).stopReq = false ∧ t.clock.xck < 900 + 4096 ∧
         ((t.onCpower 0 fun p => { p with stopReq := true }).cpower 0).stopReq = true)) ∧
    (let s := up.onCpower 0 fun p => { p with attempt := some 999 }
     (s.cpower 0).attempt = some 999 ∧ (s.cpower 0).mode = .run) ∧
    (let s := (cmode .entering none).onCpower 0 fun p => { p with entryAt := 999 }
     (s.cpower 0).mode = .entering ∧ s.clock.xck ≤ (s.cpower 0).entryAt + 1) ∧
    (let s := (cmode .entering (some (1, 990))).onCpower 0 fun p => { p with entryAt := 988 }
     (s.cpower 0).wake = some (1, 990) ∧ 990 ≤ (s.cpower 0).entryAt + 4 ∧ (s.cpower 0).entryAt + 4 ≤ s.clock.xck) ∧
    (let s := cmode .entering none
     s.ready = true ∧ s.switchesAsked 0 = true ∧ (s.cpower 0).since + 240000 ≤ s.clock.elapsed ∧
      (let t := s.onCpower 0 fun p => { p with since := 10 ^ 12 }
       t.switchesAsked 0 = true ∧ t.clock.elapsed ≤ (t.cpower 0).since + 240000)) ∧
    ([none, some (1, 990)] : List (Option (Nat × Nat))).all (fun w =>
      let s := (cmode .entering w).onCpower 0 fun p => { p with acked := true }
      decide ((s.cpower 0).mode = .entering) && (s.cpower 0).attempt.isNone && (s.cpower 0).acked &&
        (s.cpower 0).wake == w) = true ∧
    ((cmode .stop (some (1, 990))).ready = true ∧ ((cmode .exiting none).cpower 0).mode = .exiting) ∧
    (let s := bmode .run .none []
     s.ready = true ∧ s.power.work = .none ∧ s.power.attempt = false ∧ s.power.ticks ≠ 0 ∧ s.power.ticks ≤ s.power.count ∧
      s.blockMayStop = true ∧ s.blockRefusers.any id = false) ∧
    ([false, true].all fun w =>
      let s := (bmode .run .none []).onPower fun p => { p with attempt := true, wake := w }
      s.power.attempt && s.power.wake == w) = true ∧
    (let s := ((({ bmode .entering .entry [.logLower, .arrLower] with
        clock := { up.clock with running := false } } : State)).onPower fun p => { p with beforeA2 := true, wake := true })
     s.power.wake = true ∧ s.power.block = .entering ∧ s.power.beforeA2 = true ∧ s.clock.running = false) ∧
    ((bmode .stop .none []).power.wake = true ∧ (bmode .exiting .exit [.rckFack]).power.work = .exit ∧
      PowerStep.logRaise.rail = true ∧ (bmode .exiting .exit [.logRaise, .rckFack]).power.stopDue = false ∧
      (bmode .exiting .exit [.logRaise, .rckFack]).power.beforeA2 = false ∧
      (let s := (bmode .exiting .exit [.logRaise, .rckFack]).onPower fun p => { p with since := 10 ^ 12 }
       s.clock.elapsed ≤ s.power.since + 4800000) ∧
      ([0, 3] : List Nat).all (fun n =>
        let s := (({ bmode .exiting .exit [.rckFack] with pins := { up.pins with rckFack := true } } : State)).onPower fun p =>
          { p with fackEdges := n }
        s.pins.rckFack && !s.safety.rckLost && s.power.fackEdges == n) = true) ∧
    (let s := (bmode .run .opPoint [.rckFack]).onPower fun p => { p with fackLow := true }
     let t := ({ s with clock := { s.clock with running := false } } : State)
     t.power.work = .opPoint ∧ t.power.fackLow = true ∧ t.clock.running = false) := by decide +kernel

/-- Time in a mode of TSYNC, with its time set. -/
def timed (mode : Nat) : State :=
  up.onTime fun t => { t with mode := mode, unset := false, period := 1, now := BitVec.ofNat 96 (1001 * 2 ^ 32), lastPulse := 0
                              advance := 10 ^ 15 }

/-- On an ACK edge. -/
def onEdge (s : State) : State := { s with clock := { s.clock with xck := 1024, acks := 32 } }

/-- TimeRows. -/
theorem test_time_witness :
    (let s := (onEdge up).onCpower 0 fun p => { p with timer := { p.timer with en := true } }
     s.ready = true ∧ s.hasCluster 0 = true ∧ (s.cpower 0).timer.en = true ∧ s.clock.xck % 32 = 0 ∧
      (s.cpower 0).timer.setAt < s.clock.acks ∧ serialGe64 s.now (s.cpower 0).timer.target = true) ∧
    (let s := (onEdge up).onPower fun p => { p with timer := { p.timer with en := true } }
     s.ready = true ∧ s.power.timer.en = true ∧ s.power.timer.setAt < s.clock.acks ∧
      serialGe64 s.now s.power.timer.target = true) ∧ up.clock.xck % 32 ≠ 0 ∧
    (let s := up.onPower fun p => { p with ain := { p.ain with en := true, irq := true } }
     s.power.ain.armed = true ∧ s.power.ain.disabled = false ∧ s.power.block = .run ∧
      (s.onPower fun p => { p with block := .entering }).power.block ≠ .run) ∧
    (let s := ((List.range 8).foldl (fun s k => s.onCpower k fun p => { p with mode := .stop }) up).onPower fun p =>
      { p with ain := { p.ain with due := some 1000, clusters := 1 } }
     s.ready = true ∧ s.power.ain.due = some 1000 ∧ 1000 ≤ s.clock.xck ∧
      (List.range 16).all (fun c => !s.hasCluster c || (decide ((s.cpower c).mode = .stop) && (s.cpower c).attempt.isNone &&
        (s.cpower c).wake.isNone)) = true ∧ s.hasCluster 0 = true ∧ bitOf s.power.ain.clusters.toNat 0 = true) ∧
    (24875000 ≤ (25000000 : BitVec 25).toNat ∧ (25000000 : BitVec 25).toNat ≤ 25125000 ∧
      (24000000 : BitVec 25).toNat < 24875000 ∧ 25125000 < (26000000 : BitVec 25).toNat ∧ up.power.block = .run ∧
      up.sckDue = true) ∧
    (let s := timed 1
     let t := (onEdge s).onTime fun b => { b with edge := b.now, edgeBefore := 0 }
     t.ready = true ∧ t.time.unset = false ∧ t.time.periodUnits ≠ 0 ∧ t.time.outHigh = 0 ∧ t.clock.xck % 32 = 0 ∧
      t.time.edge ≠ t.time.edgeBefore ∧ (t.time.edge - t.time.edgeBefore).toNat < 2 ^ 95 ∧
      t.time.edge.toNat / t.time.periodUnits ≠ t.time.edgeBefore.toNat / t.time.periodUnits) ∧
    (let s := timed 2
     s.time.lost = false ∧ s.time.tsLost = false ∧ s.power.block = .run ∧
      s.time.lastPulse + 2 * (s.time.periodUnits : Int) ≤ s.time.advance) := by decide +kernel

/-! ### Safety, firmware, service port, monitor, boundary -/

/-- An entry of the ledger, of now. -/
def entry (seq : BitVec 32) (code reaction : Nat) : LedgerEntry :=
  { seq := seq, time := up.now, code := code, reaction := reaction, inHold := false, lastTime := up.now.setWidth 32 }

/-- The newest entry of the ledger, number 1, is of code 8; older ones stand beside it. -/
def ledgered (l : Tbl LedgerEntry) : State :=
  up4.onSafety fun y => { y with head := 1, ack := 2 - 1025, ledger := (1, entry 1 8 0) :: l }

/-- With something for every fault to strike. -/
def struck : State :=
  ((ledgered []).onBankq 1 fun q =>
    { q with wbuf := [{ piece := { piece with kind := .wr } }], reads := [piece] }).onPort 3 fun q =>
      { q with resp := [{ tag := 3, status := .ok }] }

/-- FaultReaction, LedgerEntry: reports of each level. -/
theorem test_fault_witness :
    (let f : FaultInfo := { code := 0x60 }
     listedCode f.code = true ∧ up.levelOf f < 2) ∧
    (let f : FaultInfo := { code := 0x35, port := 0x4A }
     listedCode f.code = true ∧ up.levelOf f = 2 ∧ f.shepherd = some false) ∧
    (let f : FaultInfo := { code := 0x33 }
     listedCode f.code = true ∧ up.levelOf f = 3) ∧ up.safety.newest = none ∧
    ([(.row 1, 0x17), (.ledger 0, 0x23)] : List (FaultHit × Nat)).all (fun x => !x.1.fits x.2) = true ∧
    ([(.row 1, 0x16), (.granule 1 false 0, 0x19), (.granule 1 false 0, 0x17), (.granule 1 true 0, 0x19), (.response 3, 0x18),
      (.request 3, 0x20), (.grant 0 true, 0x21), (.entry (.fold 0), 0x23), (.entry (.region 1), 0x23),
      (.entry (.view 0), 0x23), (.entry (.population 5), 0x23), (.ledger 1, 0xFF)] : List (FaultHit × Nat)).all (fun x =>
      x.1.fits x.2 && (struck.strike { code := x.2, hit := some x.1 } != struck)) = true ∧
    (let t := ledgered []
     t.safety.newest.any (fun e => !t.safety.coalesces t.now { code := 0x46 } e) = true ∧
       (t.safety.ledger.find? ((t.safety.head + 1).toNat % 1024)) = none ∧
     let o := ledgered [(2, entry (2 - 1024) 0x33 3)]
     (o.safety.ledger.find? 2).any (fun e => decide (1 ≤ e.reaction) && !o.safety.acked e) = true ∧
     (let q : FaultInfo := { code := 8 }
      t.safety.newest.any (fun e => e.code == q.code && e.cluster == q.cluster && e.bank == q.bank && e.port == q.port &&
        q.sameStep e && !e.bad && !t.safety.acked e &&
        decide (((t.now.setWidth 32 : BitVec 32) - e.lastTime).toNat ≤ 1000000)) = true)) := by decide +kernel

/-- The token is checked from the start; Shepherd A's claim is so old, B's flag stands or not, and these are in reset. -/
def token (age : Nat) (claimedB outA outB : Bool) : State :=
  up.onSafety fun y =>
    { y with crookFrom := some 0, claimA := some (up.worked - age), claimedB := claimedB, halfA := outA, halfB := outB }

/-- SafetyRows. -/
theorem test_safety_witness :
    majority 1 1 2 = some false ∧ majority 1 2 0 = none ∧ tokenCode false = 1 ∧
      (let s := token 0 true false false
       s.safety.claimed true = true ∧ s.inService false = true ∧ s.claimAge false < claimLimit) ∧
      (let s := token claimLimit false false false
       s.inService false = true ∧ claimLimit ≤ s.claimAge false) ∧
      (let s := token 0 false true false
       s.inService false = false ∧ s.inService true = true) ∧
      (let s := token 0 false true true
       s.inService false = false ∧ s.inService true = false ∧ s.safety.tokenLost = false) ∧
      (State.reset.safety.crookFrom = none ∧ up.safety.rckLost = false ∧ up.pins.pwrOk = true) ∧
      (let s := ({ up with clock := { up.clock with running := false } } : State).onSafety fun y => { y with rckLost := true }
       s.safety.rckLost = true ∧ s.safety.rckStood = false ∧ s.clock.running = false ∧
         (s.onSafety fun y => { y with rckStood := true }).safety.rckStood = true) ∧
    up.ready = true ∧ up.runs false = true ∧ up.inService false = true ∧ up.power.rckIdle = false ∧
      (let s := up.onSafety fun y => { y with crookFrom := some 0, claimA := some up.worked, test := some 0 }
       s.safety.claimed true = false ∧ s.claimAge false < claimLimit ∧ 0 + 240000 ≤ s.clock.elapsed) ∧
      (up.safety.wdogEn = true ∧ up.fw.state ≠ .switching ∧ up.safety.wdogA + up.safety.wdogMs * msec ≤ up.worked) ∧
      (let s := (up.onSafety fun y => { y with resetA := some { token := 0, cmd := cmd 0xA01 1 0 } }).onFw fun w =>
        { w with slotA := { state := .confirmed } }
       (s.resetOf false).isSome = true ∧ (s.image s.fw.active).state ≠ .empty) := by decide +kernel

/-- Image 1 is to be activated; its edge and safe point have passed or not. -/
def act (edge safe : Option Nat) (st : FwState) : State :=
  up.onFw fun w =>
    { w.setBoot { active := 0, trial := some 0 } with
             state := st, trialAt := some 0
             pendingAct := some { slot := 1, target := 0, cmd := some (0, cmd 0x901 1 1), edge := edge, safe := safe } }

/-- ActivationRows, but for what a signed image needs. -/
theorem test_activation_witness :
    (let s := act none none .running
     s.ready = true ∧ serialGe64 s.now 0 = true) ∧
    (let s := act (some 0) none .switching
     s.ready = true ∧ s.fw.pendingAct.any (fun a => s.safePoint a && a.edge.isSome && a.safe.isNone && a.cmd.isSome) = true ∧
      s.fw.fallback = none ∧ 0 + 1000 * msec ≤ s.worked) ∧
    (let s := act (some 0) (some 0) .switching
     0 + 30 * msec ≤ s.worked ∧ s.fw.boot.trial = some 0) ∧
    (let s := (act none none .running).onTime fun t => { t with advance := 2 ^ 70 }
     (0 : Int) + s.fw.windowNs * 2 ^ 32 ≤ s.time.advance) ∧
    (let s := up.onFw fun w => { w with state := .off }
     s.integ.postDone = true ∧ s.fw.state = .off ∧ s.readBoot.bootChoice = none) ∧
    (let s := up.onFw fun w => { w with state := .booting }
     s.integ.postDone = true ∧ s.fw.state = .booting) := by decide +kernel

/-- ActivationRows: a boot record that is written, twice. -/
theorem test_boot_witness :
    (let r : BootRecord := { active := 1, trial := some 0, confA := true }
     r.active < 2 ∧ r.trial.all (fun k => decide (k < 2)) = true ∧ (up.fw.setBoot r).boot = r ∧
       ((up.fw.setBoot r).setBoot { r with confB := true }).boot = { r with confB := true }) := by decide +kernel

/-- A frame of the service port with an OP, an argument, no payload and its CRC (Table 15-4). -/
def svcFrame (op arg : Nat) : List Byte :=
  let bs := toBytes 4 op ++ toBytes 4 arg
  bs ++ toBytes 4 (crc32c bs)

/-- ServiceAndMonitorRows: frames, lines, and the ends of IMG_CLOSE that do not verify. -/
theorem test_frame_witness :
    (({ up with integ := { up.integ with postDone := false } } : State).svcReady = false) ∧
    svcOp 0x77 = none ∧ svcOp 1 = some .status ∧ frameOk .status (svcFrame 1 0) = true ∧
      frameOk .status (svcFrame 1 0 ++ [0]) = false ∧ frameOk .status ((svcFrame 1 0).take 11 ++ [0x5A]) = false ∧
      svcFrame 1 0 ≠ [] ∧
    up.fw.mon.lines = [] ∧ up.power.attempt = false ∧
      (([0x66, 0x6F, 0x6C, 0x64, 0x73] : List Byte).foldl Mon.take ({} : Mon)).line.length = 5 ∧
      ((([0x66, 0x6F, 0x6C, 0x64, 0x73, 0x0D] : List Byte).foldl Mon.take ({} : Mon)).lines = [.folds none]) ∧
      ((List.replicate 130 (0x41 : Byte)).foldl Mon.take ({} : Mon)).line.length = 128 ∧
    (up.sleeping (List.range up.cfg.clusters) = [] ∧ up.sleeping [] = [] ∧
      (List.range up.cfg.clusters).all (fun c => up.hasCluster c && up.inRun c) = true) ∧
    (let s := up.onSvc fun v => { v with closing := some (1, 1) }
     s.fw.svc.closing = some (1, 1) ∧ (s.image 1).formOk = false ∧ (s.image 1).length ≠ 4096 * 1) ∧
    (let s := (up.onFw fun w => { w with slotB := { state := .verified, blocks := [(0, BitVec.ofNat 32768 (4096 * 2 ^ 128))] } }).onSvc
        fun v => { v with closing := some (1, 1) }
     (s.image 1).length = 4096 * 1 ∧ s.verify 1 ≠ 0) := by decide +kernel

/-- ServiceAndMonitorRows, but for what a signed image needs. -/
theorem test_service_witness :
    (up.svcReady = true ∧ up.safety.lifecycle ≠ 4 ∧ up.fw.svc.busy = false ∧ up.slotLocked 1 = false) ∧
    (let s := up.onSvc fun v => { v with open_ := some 1, staging := [(0, 5)], done := [0] }
     s.fw.svc.open_ = some 1 ∧ s.fw.svc.staging = [(0, 5)] ∧ ∀ i, i < 1 ↔ i ∈ s.fw.svc.done) ∧
    (up.pins.pwrOk = true ∧ up.fw.mon.fifo.length < 64 ∧ up.power.block = .run ∧ up.monRuns = true) ∧
    ["help", "peek r", "peek m", "poke r", "poke m", "folds", "ledger", "stats", "baud"].all
      (fun n => (monAllowed up.safety.lifecycle).contains n) = true ∧
    (up.sleeping (up.regClusters 0 1) = [] ∧ up.rangeFails 0 [.r] false 0 1 = none ∧ up.sleeping (up.clustersOf 0 1) = [] ∧
      up.rangeFails 0 [.w] false 0 4 = none ∧ up.sleeping (up.clustersOf 0 4) = [] ∧ up.safety.hold = false ∧
      up.owns64 0 = true ∧ (up.onPort 64 fun p => { p with ctxBase := 5 }).owns64 0 = false ∧
      ((up.clustersOf 0 4).foldl (fun s c => s.wakeCluster c 1) up).spanFree 0 4 true = true ∧
      ((up.clustersOf 0 1).foldl (fun s c => s.wakeCluster c 1) up).spanFree 0 1 false = true) ∧
    (monAllowed 4).contains "poke m" = false := by
  refine ⟨by decide +kernel, ⟨by decide +kernel, by decide +kernel, fun i => ?_⟩, by decide +kernel, by decide +kernel,
    by decide +kernel, by decide +kernel⟩
  show i < 1 ↔ i ∈ [0]
  simp

/-- BoundaryRows. -/
theorem test_boundary_witness :
    (State.reset.integ.postDone = false ∧ State.reset.clock.running = false ∧ State.reset.pins.pwrOk = false) ∧
    (let s := { State.reset with pins := { pwrOk := true }, clock := { running := true } }
     s.integ.postDone = false) ∧ up.pins.pwrOk = true ∧ up.ready = true ∧
    up.tapAllows .bypass = true ∧ up.tapAllows .idcode = true := by decide +kernel

/-- MemoryCanonical: a step from a state whose memory is in its form; ResetState needs no hypothesis. -/
theorem test_memory_witness :
    Memory.wf up.mem up.unlisted = true ∧
      (match step { up with pending := [.nop (cmd 0 0 0)] } with | .next _ => true | _ => false) = true := by decide +kernel

/-- Interleave. -/
theorem test_interleave_witness :
    (region 0 0 (2 ^ 27 - 1) 0).mode = 0 ∧ (region 0x100 0 (2 ^ 27 - 1) 0).mode = 1 ∧
      (region 0x200 0 (2 ^ 27 - 1) 0).mode = 2 := by decide +kernel

/-! ### Rows by themselves: each takes its effect on a state that meets its statement's hypotheses -/

/-- A row that answers a next state other than the one it started from. -/
def acts (x : Instr × State) : Bool := match exec x.1 x.2 with | .next t => decide (t ≠ x.2) | _ => false

theorem test_shell_rows :
    ([(.drainComplete 0, up.onCmd fun k => { k with deferred := [{ token := 0, cmd := cmd 5 1 1, holds := [] }] }),
      (.commandStartAfterPrev 0, up.onCmd fun k =>
        { k with waiting := [{ token := 0, cmd := cmd 0 0 (2 ^ 20), why := .prev }], accepted := 1 }),
      (.cmdwGo true, up), (.cmdwGo false, up), (.fenceComplete 7, fenced), (.foldDumpRecord, waited),
      (.waiterTimeout 2, ({ waited with clock := { waited.clock with acks := 31 } } : State).onFolds fun u =>
        { u with waiters := u.waiters.map fun w => { w with ended := none } }),
      (.viewStats (cmd 0x113 1 3), up1), (.timeLoRead false, up), (.outputTest, up), (.ledgerAck 5, up)] :
        List (Instr × State)).all acts = true := by decide +kernel

theorem test_event_rows :
    ([(.spike 0, evented (spikeWord 9)), (.spike 0, evented 6), (.mark 0, evented markWord),
      (.eventEgress 2, up4.onDisp 0 fun d => { d with egress := [(2, [{ word := 5, token := 5 }])] }),
      (.stepRow 5, stepping 0 false), (.stepComplete 5, stepping 9 false), (.popStageDone 5, stepping 0 false),
      (.popUnstageDone 5, stepping 0 true)] : List (Instr × State)).all acts = true := by decide +kernel

theorem test_upkeep_rows :
    ([(.drvJobStart true, jobs fun k => { k with jobs := [fillJob, copyJob] }),
      (.drvRow true, jobs fun k => { k with bankJob := some fillJob }),
      (.drvRow false, jobs fun k => { k with xbarJob := some copyJob }),
      (.drvJobComplete true, jobs fun k => { k with bankJob := some { fillJob with done := 128 } }),
      (.rotationStep, rotating), (.linkResend 3, linked sent),
      (.linkRemoteLost 3, linked fun o => { sent o with resends := 4 }), (.pendingSignalRelease 4, heldBack 0),
      (.heldOpStale 4, heldBack 2), (.analogCheck { sensors := 1 }, up)] : List (Instr × State)).all acts = true := by
  decide +kernel

theorem test_power_rows :
    ([(.blockIdleExpire, bmode .run .none []), (.blockWake, bmode .stop .none []),
      (.avsStatusPoll false true, bmode .exiting .exit [.logRaise, .rckFack]),
      (.avsVoltageAck 750, (bmode .exiting .exit [.logRaise, .rckFack]).onPower fun p => { p with since := 10 ^ 12 }),
      (.rckFackChange true, bmode .exiting .exit [.rckFack]),
      (.wakeAinCrossing, up.onPower fun p => { p with ain := { p.ain with en := true, irq := true } }),
      (.wakeAinRearm, up.onPower fun p => { p with ain := { p.ain with armed := false } }),
      (.sckCheck 25000000, up), (.sckCheck 26000000, up), (.tsyncPulseIn, timed 2),
      (.tsyncPulseOut, (onEdge (timed 1)).onTime fun b => { b with edge := b.now, edgeBefore := 0 }),
      (.tsyncPulseMissing, timed 2)] : List (Instr × State)).all acts = true := by decide +kernel

theorem test_safety_rows :
    (let tested := up.onSafety fun y => { y with test := some 0 }
     let resetting := (up.onSafety fun y => { y with resetA := some { token := 0, cmd := cmd 0xA01 1 0 } }).onFw fun w =>
       { w with slotA := { state := .confirmed } }
     ([(.crookClaim false, up), (.crookClaim true, up), (.watchdogWrite false, up), (.watchdogExpire false, up),
       (.crookTokenCheck 1 1 1, up.onSafety fun y => { y with crookFrom := some 0, claimA := some up.worked, claimedA := true }),
       (.sequencerMismatch, up), (.rckLoss, up), (.rckReturn, up.onSafety fun y => { y with rckLost := true }),
       (.outputTestEnd true, tested), (.outputTestEnd false, tested), (.halfReset (cmd 0xA01 1 0), up),
       (.halfResetComplete false, resetting)] : List (Instr × State)).all acts) = true := by decide +kernel

theorem test_firmware_rows :
    ([(.activationEdge, act none none .running), (.activationSafePoint, act (some 0) none .switching),
      (.activationTimeout, act (some 0) none .switching), (.imageStartTimeout, act (some 0) (some 0) .switching),
      (.confirmWindowExpire, (act none none .running).onTime fun t => { t with advance := 2 ^ 70 }),
      (.firmwareBoot false, up.onFw fun w => { w with state := .off }), (.svcStatus, up), (.svcBadFrame { mosi := [] }, up),
      (.svcBadFrame { mosi := svcFrame 1 0 }, up),
      (.imgOpen 1 true, up), (.imgBlock 0 0, up.onSvc fun v => { v with open_ := some 1 }),
      (.imgBlockProgrammed true, up.onSvc fun v => { v with open_ := some 1, staging := [(0, 5)] }),
      (.imgClose 1, up.onSvc fun v => { v with open_ := some 1, done := [0] }),
      (.imgCloseEnd, up.onSvc fun v => { v with closing := some (1, 1) }), (.monCharRx 5, up), (.help, up),
      (.pokeR 0x012400 3, up), (.peekM 0 4, up), (.pokeM 0 4, up), (.pwrOkFall, up)] : List (Instr × State)).all acts
      = true := by decide +kernel

/-! ### A signed image -/

/-- An image of one block: the header of Table 15-2 and zeros. Its key is the base point (the private key is 1), its
signature was computed outside Lean with the one-time number 1, over the SHA-384 of the bytes that R419 names. -/
def signedImage : ImageSlot :=
  { state := .verified
    blocks := [(0, BitVec.ofNat 32768
      (0x474D494A + 2 ^ 32 + 2 ^ 48 + 4096 * 2 ^ 128 +
        0xb70a7672385e543a6c2955bf5df20255382a5482e041f759989ba78b623b1d6e74ad20f31ec7b18e37058bbe22ca87aa * 2 ^ 192 +
        0x5f0eea907c1d437a9d817e1dceb1600ac0b8f0b51331dae97c149a28bd1df4f829dc9292bf989e5d6f2c26964ade1736 * 2 ^ 576 +
        0xb70a7672385e543a6c2955bf5df20255382a5482e041f759989ba78b623b1d6e74ad20f31ec7b18e37058bbe22ca87aa * 2 ^ 960 +
        0x4c4e4e5f899453aae9243fca6ca16fb667217800468c7161d2f98450b7ce92f83a873c501c48e5c80ab9d169a31a4c9a * 2 ^ 1344))] }

/-- The OTP that holds the digest of its key. -/
def keyOtp : Otp :=
  { rmaCode := 0, unique := 0, maker := 0, stepping := 0
    digests := [(0, 0xa19d4db171b582eb8052b0cfe555e17894aa22d1c8a9770950697dd8f796d2fa4bf0a56ad80006b7ea08e1191f814b65)] }

theorem image_form : signedImage.formOk = true := by decide +kernel

theorem image_key : keyOtp.keyOk signedImage = true := by decide +kernel

/-- The bytes that the signature covers (R419). -/
def imageMessage : List Byte :=
  (signedImage.bytes (signedImage.length / 4096)).take 120 ++
    ((signedImage.bytes (signedImage.length / 4096)).drop 216).take (signedImage.length - 216)

/-- Blocks one after another. -/
theorem shaBlocks_add (n k : Nat) (h : List (BitVec 64)) (m : List Byte) :
    shaBlocks (n + k) h m = shaBlocks k (shaBlocks n h m) (m.drop (128 * n)) := by
  induction n generalizing h m with
  | zero => simp [shaBlocks]
  | succ n ih =>
    rw [Nat.add_right_comm]
    simp only [shaBlocks, ih, List.drop_drop]
    congr 2
    omega

/-- The hash value of the image after every fourth block. -/
def imageStates : List (List (BitVec 64)) :=
  [[0xcbbb9d5dc1059ed8, 0x629a292a367cd507, 0x9159015a3070dd17, 0x152fecd8f70e5939,
     0x67332667ffc00b31, 0x8eb44a8768581511, 0xdb0c2e0d64f98fa7, 0x47b5481dbefa4fa4],
   [0xb9e4cefbc95088b3, 0x837ee6179e38113d, 0x390c9246336f52a3, 0x14ac51ef7699ec94,
     0x64e37e2cd615fb06, 0x57cf7e5c73fb9fb1, 0xd6d57faec0971fbe, 0xa0a139bd3acbb31e],
   [0xb5784f61ebd4166d, 0xa7bd94d85c0f0bf3, 0x94b056bff789a7d, 0x82f34ab4da91e4e,
     0xe2168611505af83d, 0x12e677f362c80bc7, 0x2b2a3133a88d483d, 0x192601ef2215fd],
   [0xa08dfe769a40563a, 0x8b53f1684e2fd548, 0x9ee35289406cc79f, 0x8f65671db1e4ae03,
     0x4933b5964365cb76, 0x18061d0082cb1bd8, 0x8e79405dcacfe44e, 0xda1e2bc9470aefc9],
   [0xa3b4409432b00faa, 0x988359e57470932a, 0x514892a6610a418b, 0xdca094c8267baed,
     0xc31fc41190a6cb66, 0x7127c0c669c80317, 0x971768cf809f0e1b, 0x56cd2b7049815fb7],
   [0xba3bde7ac6470d2a, 0x11169c88972b71bc, 0x93fae15b1adbcc3f, 0xbd803864bd297b68,
     0x2fd8453bb711dd02, 0xbae7b6ce631ad23d, 0x93a5703dbf9b7cab, 0x3967ede508c6323],
   [0x56ff768bf4ea7000, 0xa196cacfc3e5393a, 0x5c7aa3577e6c11d4, 0xf3a798292ed971c6,
     0xb5844f853eeebb97, 0x50e311160ac7e1a3, 0x22b1cfaec357d481, 0xbb07a1f7b8d25200],
   [0xc845eb60617ffcb8, 0x43087f2642640b8a, 0x4547a576c467db99, 0x8061021da47b579b,
     0xa54354952ce8eead, 0x4086809b9e6c44c3, 0x84cd6a0fcb23faac, 0x6a0fdefc83b7becd],
   [0xefc45080ab46b3d3, 0x3a3380fd5d1bd9c6, 0x8a759354c4dd5e39, 0xcedd97e7725b250e,
     0xb986bcc1539aa2f8, 0x5ceb4fbbb99d6d08, 0x79c65ace87d17900, 0xb2411a92721f1d27]]

/-- Four blocks of the image, from block 4i on. -/
def imagePart (i : Nat) : Bool :=
  shaBlocks 4 (imageStates.getD i []) ((shaPad imageMessage).drop (512 * i)) == imageStates.getD (i + 1) []

theorem image_part0 : imagePart 0 = true := by decide +kernel

theorem image_part1 : imagePart 1 = true := by decide +kernel

theorem image_part2 : imagePart 2 = true := by decide +kernel

theorem image_part3 : imagePart 3 = true := by decide +kernel

theorem image_part4 : imagePart 4 = true := by decide +kernel

theorem image_part5 : imagePart 5 = true := by decide +kernel

theorem image_part6 : imagePart 6 = true := by decide +kernel

theorem image_part7 : imagePart 7 = true := by decide +kernel

theorem image_start : shaInit = imageStates.getD 0 [] := by decide +kernel

theorem image_blocks : (shaPad imageMessage).length / 128 = 32 := by decide +kernel

/-- The hash value after the first blocks, from one part to the next. -/
theorem image_next {n i : Nat} (hn : n = 4 * i) (hp : imagePart i = true)
    (h : shaBlocks n shaInit (shaPad imageMessage) = imageStates.getD i []) :
    shaBlocks (n + 4) shaInit (shaPad imageMessage) = imageStates.getD (i + 1) [] := by
  subst hn
  rw [shaBlocks_add, h, show 128 * (4 * i) = 512 * i by omega]
  exact eq_of_beq hp

/-- The SHA-384 of the image, as hashlib gives it. -/
theorem image_hash :
    sha384 imageMessage =
      0xefc45080ab46b3d33a3380fd5d1bd9c68a759354c4dd5e39cedd97e7725b250eb986bcc1539aa2f85ceb4fbbb99d6d08 := by
  have h0 : shaBlocks 0 shaInit (shaPad imageMessage) = imageStates.getD 0 [] := image_start
  have h1 := image_next (i := 0) rfl image_part0 h0
  have h2 := image_next (i := 1) rfl image_part1 h1
  have h3 := image_next (i := 2) rfl image_part2 h2
  have h4 := image_next (i := 3) rfl image_part3 h3
  have h5 := image_next (i := 4) rfl image_part4 h4
  have h6 := image_next (i := 5) rfl image_part5 h5
  have h7 := image_next (i := 6) rfl image_part6 h6
  have h8 := image_next (i := 7) rfl image_part7 h7
  rw [sha384, image_blocks, h8]
  decide +kernel

theorem image_fields :
    (([24, 72, 120, 168] : List Nat).map fun i => ofBig ((signedImage.header.drop i).take 48)) =
      [g384.1, g384.2,
        0xaa87ca22be8b05378eb1c71ef320ad746e1d3b628ba79b9859f741e082542a385502f25dbf55296c3a545e3872760ab7,
        0x9a4c1aa369d1b90ac8e5481c503c873af892ceb75084f9d261718c4600782167b66fa16cca3f24e9aa5394895f4e4e4c] := by
  decide +kernel

/-- The inverse of s, and the two multiples of the base point that the check adds. -/
theorem image_inverse :
    invMod n384 0x9a4c1aa369d1b90ac8e5481c503c873af892ceb75084f9d261718c4600782167b66fa16cca3f24e9aa5394895f4e4e4c =
      0xc5d2f23c26a4bbf81dfc58a188ba670d385998c6d1f9f399f752cf50d4b04e00f111136a9c15638ffdf9d7770b18d41b := by
  decide +kernel

theorem image_multiple1 :
    Point.mul 384
        (0xefc45080ab46b3d33a3380fd5d1bd9c68a759354c4dd5e39cedd97e7725b250eb986bcc1539aa2f85ceb4fbbb99d6d08 *
          0xc5d2f23c26a4bbf81dfc58a188ba670d385998c6d1f9f399f752cf50d4b04e00f111136a9c15638ffdf9d7770b18d41b %
          n384) (some g384) =
      some
        (0xb864cb022eab8cf2fadfd92d398208791f74ee3e071f50b9eee9562d510ae89ee6ef362dada234b8e2439416b01bece3,
         0xb3aa9ae3cd95f232261dbf4b60bc55e1650073e00a6b30410d4c4ae0c4165a55e4327bbe799daa8f3b164410885ab607) := by
  decide +kernel

theorem image_multiple2 :
    Point.mul 384
        (0xaa87ca22be8b05378eb1c71ef320ad746e1d3b628ba79b9859f741e082542a385502f25dbf55296c3a545e3872760ab7 *
          0xc5d2f23c26a4bbf81dfc58a188ba670d385998c6d1f9f399f752cf50d4b04e00f111136a9c15638ffdf9d7770b18d41b %
          n384) (some (g384.1, g384.2)) =
      some
        (0x1221ab2066f77317a94b464e2be0902d3008549675a9806a4a19e6067a54c70b4ca522a6e9af1c2d3169de3ed39ffa36,
         0xdf5e9f4f4a1b6e832871579c715c6ae3c09edaafd3c06e91a3c2fd6612c0fd600f51cdfacc57379aaaff244cc87b5e40) := by
  decide +kernel

theorem image_signature :
    ecdsaOk g384.1 g384.2
      0xaa87ca22be8b05378eb1c71ef320ad746e1d3b628ba79b9859f741e082542a385502f25dbf55296c3a545e3872760ab7
      0x9a4c1aa369d1b90ac8e5481c503c873af892ceb75084f9d261718c4600782167b66fa16cca3f24e9aa5394895f4e4e4c
      0xefc45080ab46b3d33a3380fd5d1bd9c68a759354c4dd5e39cedd97e7725b250eb986bcc1539aa2f85ceb4fbbb99d6d08 = true := by
  simp only [ecdsaOk, image_inverse, image_multiple1, image_multiple2]
  decide +kernel

/-- Every check of R419 passes. -/
theorem image_verifies : keyOtp.verify signedImage = 0 := by
  have hf := image_fields
  simp only [List.map_cons, List.map_nil, List.cons.injEq, and_true] at hf
  have hs : signedImage.signed = true := by
    simp only [ImageSlot.signed]
    rw [← imageMessage, image_hash, hf.1, hf.2.1, hf.2.2.1, hf.2.2.2]
    exact image_signature
  have hc : ¬ signedImage.svn < keyOtp.counter := Nat.not_lt_zero _
  simp only [Otp.verify, image_form, image_key, hs, hc, Bool.not_true, Bool.false_eq_true, if_false]

/-- With that image in slot B. -/
def imaged (f : Firmware → Firmware) : State :=
  up.onFw fun w => { f w with slotB := signedImage, otp := keyOtp }

/-- ActivationRows and ServiceAndMonitorRows, with a signed image. -/
theorem test_image_witness :
    (let s := imaged fun w =>
      { w with state := .switching, pendingAct := some { slot := 1, target := 0, edge := some 0, safe := some (10 ^ 12) } }
     s.fw.state = .switching ∧ s.worked ≤ 10 ^ 12 + 30 * msec ∧ s.verify 1 = 0) ∧
    (let s := imaged fun w => { w with svc := { w.svc with closing := some (1, 1) } }
     s.fw.svc.closing = some (1, 1) ∧ (s.image 1).length = 4096 * 1 ∧ s.verify 1 = 0) ∧
    (let s := imaged fun w => { w with svc := { w.svc with closing := some (1, 2) } }
     s.fw.svc.closing = some (1, 2) ∧ (s.image 1).formOk = true ∧ (s.image 1).length ≠ 4096 * 2) := by
  have hv : ∀ f, (imaged f).verify 1 = 0 := fun f => image_verifies
  exact ⟨⟨by decide +kernel, by decide +kernel, hv _⟩, ⟨by decide +kernel, by decide +kernel, hv _⟩, by decide +kernel⟩

/-- That image in slot B, and a boot record. -/
def booted (r : BootRecord) : State := imaged fun w => { w.setBoot r with state := .booting }

/-- ActivationRows, the choice of R427: a trial falls back to a good slot; the named slot is good; the other is; none is. -/
theorem test_boot_choice_witness :
    (booted {}).integ.postDone = true ∧ (booted {}).fw.state = .booting ∧ (∀ r, (booted r).verify 1 = 0) ∧
      ((booted { trial := some 1, confB := true }).fw.boot.trial = some 1 ∧
        (booted { trial := some 1, confB := true }).fw.boot.confirmed 1 = true) ∧
      ((booted { active := 1, confB := true }).fw.boot.trial = none ∧
        (booted { active := 1, confB := true }).fw.boot.active = 1 ∧
        (booted { active := 1, confB := true }).fw.boot.confirmed 1 = true) ∧
      ((booted { confB := true }).fw.boot.trial = none ∧ (booted { confB := true }).fw.boot.active = 0 ∧
        (booted { confB := true }).fw.boot.confirmed 0 = false ∧ (booted { confB := true }).fw.boot.confirmed 1 = true) ∧
      (let s := up.onFw fun w => { w.setBoot { confA := true } with state := .booting }
       s.fw.boot.trial = none ∧ s.verify 0 ≠ 0 ∧ s.fw.boot.confirmed 1 = false ∧ s.fw.boot.confA = true) := by
  refine ⟨by decide +kernel, by decide +kernel, fun _ => image_verifies, ?_⟩
  decide +kernel

/-- ActivationRows: of a blank device the marked slot that is verified is tried. -/
theorem test_boot_fresh_witness :
    (booted { active := 1 }).fw.boot.trial = none ∧ (booted { active := 1 }).readBoot.bootChoice = some (1, some 0, false) := by
  have hb : (booted { active := 1 }).readBoot.fw.boot = { active := 1 } := by decide +kernel
  have hs : (booted { active := 1 }).readBoot.image 1 = signedImage := by decide +kernel
  have ho : (booted { active := 1 }).readBoot.fw.otp = keyOtp := by decide +kernel
  have hv : (booted { active := 1 }).readBoot.verify 1 = 0 := by rw [State.verify, ho, hs, image_verifies]
  have hi : signedImage.state = .verified := rfl
  refine ⟨by decide +kernel, ?_⟩
  simp [State.bootChoice, hb, hs, hi, hv, BootRecord.confirmed]

/-- FirmwareAndSafetyCommands: an ACTIVATE_AT of that image passes every check. -/
theorem test_activate_witness : (imaged id).takes bodyActivateAt (cmd 0x901 1 1) = true := by
  have hv : ((imaged id).given (cmd 0x901 1 1)).verify ((cmd 0x901 1 1).par 0 1) = 0 := by
    rw [show (cmd 0x901 1 1).par 0 1 = 1 by decide +kernel]
    exact image_verifies
  simp only [State.takes, State.checkParams, bodyActivateAt, hv]
  decide +kernel

end Sys2Proof.Tests
end

section
/-!
PROOFS. The statement of 00_scope.md: every row of the table answers a next state and leaves the configuration and
the queue as they are (R2). Laws/Fixed.lean has a frame lemma for each function of the machine, about the pair
`State.fixed`; here the rows of `exec` are gone through by the way in which they act.
-/

namespace Sys2Proof.Machine

/-! ### Outcomes that keep the configuration and the queue -/

/-- An outcome of a step from `s` is a next state with the configuration and the queue of `s`. -/
def Keeps (s : State) (o : Host.Outcome State Fault Refusal) : Prop :=
  ∃ t : State, o = .next t ∧ t.fixed = s.fixed

theorem fixed_eq_iff {s t : State} : t.fixed = s.fixed ↔ t.cfg = s.cfg ∧ t.pending = s.pending :=
  Prod.mk_inj

theorem next_keeps {s t : State} (h : t.fixed = s.fixed) : Keeps s (.next t) := ⟨t, rfl, h⟩

/-- A row may act from a later state that has the same configuration and queue. -/
theorem Keeps.of_fixed {s u : State} {o : Host.Outcome State Fault Refusal} (hu : u.fixed = s.fixed) (h : Keeps u o) :
    Keeps s o := by
  obtain ⟨t, ho, ht⟩ := h
  exact ⟨t, ho, ht.trans hu⟩

/-! ### The ways in which a row acts -/

theorem live_keeps (s : State) {f : State → State} (hf : ∀ u, (f u).fixed = u.fixed) : Keeps s (.next (s.live f)) :=
  next_keeps (State.live_fixed s f hf)

theorem event_keeps (s : State) {f : State → State} (hf : ∀ u, (f u).fixed = u.fixed) : Keeps s (.next (s.event f)) :=
  next_keeps (State.event_fixed s f hf)

/-- A row that acts under a guard. -/
theorem guarded_keeps {s t : State} {p : Prop} [Decidable p] (h : t.fixed = s.fixed) :
    Keeps s (.next (if p then t else s)) :=
  next_keeps (by split <;> [exact h; rfl])

/-- Four pieces enter a queue in one XCK at most (R155) and a sub-port decides once in it (R140): what comes too early
is left to the next XCK. -/
theorem tickIf_fixed (s : State) (p : Prop) [Decidable p] : (if p then s.tick else s).fixed = s.fixed := by
  split
  · exact State.tick_fixed s
  · rfl

theorem bellChange_lines_fixed (s : State) (n : Nat) (lines : BitVec 2) : (s.bellChange n lines).fixed = s.fixed := by
  simp [State.bellChange]

/-- The commands that COMMAND_START_AFTER_PREV may start are those of the table, each of which keeps what is fixed. -/
theorem startAfterPrev_bodyOf_fixed (s : State) (token : Nat) : (s.startAfterPrev bodyOf token).fixed = s.fixed :=
  State.startAfterPrev_fixed s bodyOf token fun _ _ => bodyOf_keeps

/-! ### Every row -/

theorem exec_keeps (i : Instr) (s : State) : Keeps s (exec i s) := by
  cases i with
  -- The opcodes of Table 2-9: a packet arrives.
  | nop | echo | queryState | ctxReset | portReset | drain | regionSet | regionClear | regionQuery |
      regionMarkInit | viewSet | viewClear | viewQuery | viewStats | stallLoad | stallSwap | stallQuery | prioSet |
      parkSet | starveSet | shareSet | urgencySet | latencySet | budgetSet | govAdmit | guaranteeRelease |
      powerLimitSet | shedQuery | foldMap | foldCreate | foldDestroy | foldArm | foldOp | foldQuery | foldDump |
      popSet | popClear | popQuery | popStage | popUnstage | step | popUntaint | evrouteSet | drvFill | drvCopy |
      drvConvert | drvEvacuate | drvCancel | drvQuery | windowSet | windowClear | windowQuery | chipIdSet |
      epochSet | linkReset | linkQuery | retrySet | scrubSet | patchSet | patchQuery | laneRetire | integQuery |
      bistRun | bistQuery | penBank | flipArm | pwrStateSet | idleTimerSet | oppointSet | pwrQuery | timeSet |
      timeQuery | tsyncCfg | wakeAinCfg | timerWakeSet | fwQuery | activateAt | healthOk | confirmWindowSet |
      settingsRead | settingsWrite | settingsDefault | safeHoldExit | halfReset | crookAssign | flipMaskSet |
      ledgerRead | safetyCfg | lifecycleSet =>
    exact next_keeps (runRow_fixed _ _ s)
  -- Requests and write data at a port, and what crosses back (R102 to R124).
  | cmdRequest | nopRequest | rd | wr | wrm | acc | fence | foldRequest =>
    exact next_keeps (State.requestOf_fixed s _ _ _)
  | writeDataBeat | responseTransfer => exact guarded_keeps (by simp)
  -- The crossbar, where an XCK may pass first.
  | pieceQueueAccept =>
    exact .of_fixed (tickIf_fixed s _) (guarded_keeps (State.live_fixed _ _ fun u => State.acceptAt_fixed u _ _))
  | subportGrant => exact .of_fixed (tickIf_fixed s _) (live_keeps _ fun u => State.grant_fixed u _)
  -- The actions of a bank, in the first XCK in which its slot can be used.
  | mergeRead => exact next_keeps (State.bankAct_fixed s _ _ _ _ State.mergeRead_fixed)
  | bankWriteSlot => exact next_keeps (State.bankAct_fixed s _ _ _ _ State.writeSlot_fixed)
  | readBeatComplete => exact next_keeps (State.bankAct_fixed s _ _ _ _ State.readSlot_fixed)
  -- Effects of the running block: each has its frame lemma.
  | commandStartAfterPrev => exact live_keeps s fun u => startAfterPrev_bodyOf_fixed u _
  | drainComplete | ringFetch | fenceComplete | stallSwapTakeEffect | scaleCacheFill | epochTimeBoundary | epochSettle |
      arrive | signal | consume | wait | read | wakeSequencerEnd | waiterTimeout | foldStateUe | foldDumpRecord |
      spike | mark | eventEgress | popStageDone | popUnstageDone | stepRow | stepComplete |
      drvJobStart | drvRow | drvJobComplete | evacRowCopy | takeover | bistTestEnd | rotationStep | analogCheck |
      scrubRead | scrubWriteBack | repairPolicyAction | linkSend | linkResend | linkRemoteLost | linkResetComplete |
      pendingSignalRelease | heldOpStale | sourceEntryReclaim =>
    exact live_keeps s fun u => by simp
  -- What comes in at an event port or a link port wakes the block (R373).
  | eventIngress => exact next_keeps (by simp)
  | linkResponse | linkInboundRequest => exact next_keeps (State.linkRow_fixed s _ _)
  -- Accesses on CTL or SP.
  | doorbell | ringEnable | ringDisable | replyRdWrite => exact next_keeps (State.ringWrite_fixed s _ _ _)
  | cmdwGo | timeLoRead | outputTest | ledgerAck => exact next_keeps (State.access_fixed s _)
  | portCtxWrite | burstWrite | mboxCfgWrite | statCfgWrite | clogPop | registerWrite =>
    exact guarded_keeps (State.access_fixed s _)
  | registerRead => exact next_keeps (by split <;> [rfl; exact State.access_fixed s _])
  -- Events of power, safety and firmware, with what follows in the control path.
  | clusterIdleExpire | retentionSwitchAck | clusterWake | clusterExitComplete | blockIdleExpire | blockWake |
      avsStatusPoll | avsVoltageAck | pwrTimeout | rckFackChange | faultReport | crookTokenCheck | watchdogExpire |
      sequencerMismatch | rckReturn | outputTestEnd | halfResetComplete | activationEdge | activationSafePoint |
      activationTimeout | imageRunning | imageStartTimeout | confirmWindowExpire | firmwareBoot | svcBadFrame |
      svcRead =>
    exact event_keeps s fun u => by simp
  -- The monitor (R432).
  | help | peekR | peekM | pokeR | pokeM | folds | ledger | stats | baud => exact next_keeps (State.monitor_fixed s _)
  -- One function of a unit is the whole effect: the governor, time, safety, firmware, the links, the boundary.
  | bellLevelChange => exact next_keeps (bellChange_lines_fixed s _ _)
  | govWindowStart | sensorRead | timerWakeFire | wakeAinCrossing | wakeAinRearm | sckCheck | tsyncPulseOut |
      tsyncPulseIn | tsyncPulseMissing | crookClaim | watchdogWrite | rckLoss | svcStatus | imgOpen | imgBlock |
      imgBlockProgrammed | imgClose | imgCloseEnd | monCharRx | linkUpChange | pwrOkRise | hardwareReady | pwrOkFall |
      portGroupClockChange | jtagInstruction =>
    exact next_keeps (by simp)

/-- Settles O58: each row keeps the pair of configuration and queue (`exec_keeps`). -/
theorem configAndQueueKept : Obligations.ConfigAndQueueKept := by
  intro i s
  obtain ⟨t, hnext, hfixed⟩ := exec_keeps i s
  exact ⟨t, hnext, fixed_eq_iff.1 hfixed⟩

end Sys2Proof.Machine
end

section
/-!
PROOFS. Every step keeps the memory in its form (log entry 8). Laws/Canon.lean has the lemma for each function that
writes the arrays and Laws/Store.lean that for each function that leaves them alone; here the rows of `exec` are gone
through by the way in which they act.
-/

namespace Sys2Proof.Machine

/-! ### Outcomes whose memory is in its form -/

/-- The memory that an outcome leaves is in its form. -/
def CanonOut (o : Host.Outcome State Fault Refusal) : Prop := ∀ t : State, o = .next t → canon t.store

theorem next_canonOut {t : State} (h : canon t.store) : CanonOut (.next t) := by
  rintro _ ⟨⟩
  exact h

theorem live_canonOut {s : State} {f : State → State} (hs : canon s.store)
    (hf : ∀ u : State, canon u.store → canon (f u).store) : CanonOut (.next (s.live f)) :=
  next_canonOut (State.live_canon s f hf hs)

theorem event_canonOut {s : State} {f : State → State} (hs : canon s.store)
    (hf : ∀ u : State, canon u.store → canon (f u).store) : CanonOut (.next (s.event f)) :=
  next_canonOut (State.event_canon s f hf hs)

theorem guarded_canonOut {s t : State} {p : Prop} [Decidable p] (hs : canon s.store) (ht : canon t.store) :
    CanonOut (.next (if p then t else s)) :=
  next_canonOut (by split <;> assumption)

theorem tickIf_canon {s : State} (p : Prop) [Decidable p] (h : canon s.store) :
    canon (if p then s.tick else s).store := by
  split
  · exact State.tick_canon s h
  · exact h

theorem bellChange_lines_store (s : State) (n : Nat) (lines : BitVec 2) : (s.bellChange n lines).store = s.store := by
  simp [State.bellChange]

/-- The commands that COMMAND_START_AFTER_PREV may start are those of the table. -/
theorem startAfterPrev_bodyOf_canon (s : State) (token : Nat) (h : canon s.store) :
    canon (s.startAfterPrev bodyOf token).store :=
  State.startAfterPrev_canon s bodyOf token (fun _ _ => bodyOf_keepsMem) h

theorem exec_canonOut (i : Instr) (s : State) (h : canon s.store) : CanonOut (exec i s) := by
  cases i with
  -- The opcodes of Table 2-9: a packet arrives.
  | nop | echo | queryState | ctxReset | portReset | drain | regionSet | regionClear | regionQuery |
      regionMarkInit | viewSet | viewClear | viewQuery | viewStats | stallLoad | stallSwap | stallQuery | prioSet |
      parkSet | starveSet | shareSet | urgencySet | latencySet | budgetSet | govAdmit | guaranteeRelease |
      powerLimitSet | shedQuery | foldMap | foldCreate | foldDestroy | foldArm | foldOp | foldQuery | foldDump |
      popSet | popClear | popQuery | popStage | popUnstage | step | popUntaint | evrouteSet | drvFill | drvCopy |
      drvConvert | drvEvacuate | drvCancel | drvQuery | windowSet | windowClear | windowQuery | chipIdSet |
      epochSet | linkReset | linkQuery | retrySet | scrubSet | patchSet | patchQuery | laneRetire | integQuery |
      bistRun | bistQuery | penBank | flipArm | pwrStateSet | idleTimerSet | oppointSet | pwrQuery | timeSet |
      timeQuery | tsyncCfg | wakeAinCfg | timerWakeSet | fwQuery | activateAt | healthOk | confirmWindowSet |
      settingsRead | settingsWrite | settingsDefault | safeHoldExit | halfReset | crookAssign | flipMaskSet |
      ledgerRead | safetyCfg | lifecycleSet =>
    exact next_canonOut (runRow_canon _ _ s h)
  -- Requests and write data at a port, and what crosses back (R102 to R124).
  | cmdRequest | nopRequest | rd | wr | wrm | acc | fence | foldRequest =>
    exact next_canonOut (State.requestOf_canon s _ _ _ h)
  | writeDataBeat | responseTransfer => exact guarded_canonOut h (by simp [h])
  -- The crossbar, where an XCK may pass first.
  | pieceQueueAccept =>
    exact guarded_canonOut (tickIf_canon _ h) (State.live_canon _ _ (fun u hu => by simp [hu]) (tickIf_canon _ h))
  | subportGrant => exact live_canonOut (tickIf_canon _ h) fun u hu => by simp [hu]
  -- The actions of a bank, in the first XCK in which its slot can be used.
  | mergeRead => exact next_canonOut (State.bankAct_canon s _ _ _ _ (fun u x hu => by simp [hu]) h)
  | bankWriteSlot => exact next_canonOut (State.bankAct_canon s _ _ _ _ State.writeSlot_canon h)
  | readBeatComplete => exact next_canonOut (State.bankAct_canon s _ _ _ _ (fun u x hu => by simp [hu]) h)
  -- Effects of the running block.
  | commandStartAfterPrev => exact live_canonOut h fun u hu => startAfterPrev_bodyOf_canon u _ hu
  | drainComplete | ringFetch | fenceComplete | stallSwapTakeEffect | scaleCacheFill | epochTimeBoundary | epochSettle |
      arrive | signal | consume | wait | read | wakeSequencerEnd | waiterTimeout | foldStateUe | foldDumpRecord |
      spike | mark | eventEgress | popStageDone | popUnstageDone | stepRow | stepComplete |
      drvJobStart | drvRow | drvJobComplete | evacRowCopy | takeover | bistTestEnd | rotationStep | analogCheck |
      scrubRead | scrubWriteBack | repairPolicyAction | linkSend | linkResend | linkRemoteLost | linkResetComplete |
      pendingSignalRelease | heldOpStale | sourceEntryReclaim =>
    exact live_canonOut h fun u hu => by simp [hu]
  -- What comes in at an event port or a link port wakes the block (R373).
  | eventIngress => exact next_canonOut (by split <;> simp [h])
  | linkResponse | linkInboundRequest => exact next_canonOut (State.linkRow_canon s _ _ h)
  -- Accesses on CTL or SP.
  | doorbell | ringEnable | ringDisable | replyRdWrite => exact next_canonOut (State.ringWrite_canon s _ _ _ h)
  | cmdwGo | timeLoRead | outputTest | ledgerAck => exact next_canonOut (State.access_canon s _ h)
  | portCtxWrite | burstWrite | mboxCfgWrite | statCfgWrite | clogPop | registerWrite =>
    exact guarded_canonOut h (State.access_canon s _ h)
  | registerRead => exact guarded_canonOut (State.access_canon s _ h) h
  -- Events of power, safety and firmware, with what follows in the control path.
  | clusterIdleExpire | retentionSwitchAck | clusterWake | clusterExitComplete | blockIdleExpire | blockWake |
      avsStatusPoll | avsVoltageAck | pwrTimeout | rckFackChange | faultReport | crookTokenCheck | watchdogExpire |
      sequencerMismatch | rckReturn | outputTestEnd | halfResetComplete | activationEdge | activationSafePoint |
      activationTimeout | imageRunning | imageStartTimeout | confirmWindowExpire | firmwareBoot | svcBadFrame |
      svcRead =>
    exact event_canonOut h fun u hu => by simp [hu]
  -- The monitor (R432).
  | help | peekR | peekM | pokeR | pokeM | folds | ledger | stats | baud =>
    exact next_canonOut (State.monitor_canon s _ h)
  -- One function of a unit is the whole effect: the governor, time, safety, firmware, the links, the boundary.
  | bellLevelChange => exact next_canonOut ((congrArg canon (bellChange_lines_store s _ _)).mpr h)
  | govWindowStart | sensorRead | timerWakeFire | wakeAinCrossing | wakeAinRearm | sckCheck | tsyncPulseOut |
      tsyncPulseIn | tsyncPulseMissing | crookClaim | watchdogWrite | rckLoss | svcStatus | imgOpen | imgBlock |
      imgBlockProgrammed | imgClose | imgCloseEnd | monCharRx | linkUpChange | pwrOkRise | hardwareReady | pwrOkFall |
      portGroupClockChange | jtagInstruction =>
    exact next_canonOut (by simp [h])

theorem step_canonOut (s : State) (h : canon s.store) : CanonOut (step s) := by
  unfold step
  split
  · exact next_canonOut (State.tick_canon s h)
  · exact exec_canonOut _ _ h

/-- Settles O56: each row keeps the form (`exec_canonOut`), and so does the XCK of an empty queue. -/
theorem memoryCanonical : Obligations.MemoryCanonical :=
  fun s t hs hstep => step_canonOut s hs t hstep

end Sys2Proof.Machine
end

section
/-!
PROOFS. What a granule write changes and what is read back (R26, R328, R350). A written symbol is read back at its
address and leaves every other one; a code word is 36 writes to 36 addresses, which differ
in their lane whatever rows the lanes are served from.
-/

namespace Sys2Proof.Machine

/-! ### One entry of the list -/

theorem Memory.find?_insert_self (m : List Host.Cell) (a : Nat) (b : Byte) :
    Memory.find? (Memory.insert m a b) a = some b := by
  induction m with
  | nil => simp [Memory.insert, Memory.find?]
  | cons x r ih =>
    obtain ⟨j, c⟩ := x
    unfold Memory.insert
    split
    · simp [Memory.find?]
    · split
      · simp [Memory.find?]
      · next hne => simp [Memory.find?, Ne.symm hne, ih]

theorem Memory.find?_insert_of_ne (m : List Host.Cell) {a c : Nat} (b : Byte) (h : c ≠ a) :
    Memory.find? (Memory.insert m a b) c = Memory.find? m c := by
  induction m with
  | nil => simp [Memory.insert, Memory.find?, h.symm]
  | cons x r ih =>
    obtain ⟨j, d⟩ := x
    unfold Memory.insert
    split
    · simp [Memory.find?, h.symm]
    · split
      · next heq => subst heq; simp [Memory.find?, h.symm]
      · simp [Memory.find?, ih]

theorem Memory.find?_erase_of_ne (m : List Host.Cell) {a c : Nat} (h : c ≠ a) :
    Memory.find? (Memory.erase m a) c = Memory.find? m c := by
  induction m with
  | nil => rfl
  | cons x r ih =>
    obtain ⟨j, d⟩ := x
    unfold Memory.erase
    split
    · next heq => subst heq; simp [Memory.find?, h.symm]
    · simp [Memory.find?, ih]

theorem Memory.find?_of_lt {m : List Host.Cell} {a : Nat} (h : ∀ c ∈ m, a < c.1) : Memory.find? m a = none := by
  induction m with
  | nil => rfl
  | cons x r ih =>
    obtain ⟨hx, hr⟩ := List.forall_mem_cons.1 h
    simp [Memory.find?, (Nat.ne_of_lt hx).symm, ih hr]

/-- Rising addresses: an address is listed once at most. -/
theorem Memory.find?_erase_self {m : List Host.Cell} (a : Nat) (h : m.Pairwise (fun x y => x.1 < y.1)) :
    Memory.find? (Memory.erase m a) a = none := by
  induction m with
  | nil => rfl
  | cons x r ih =>
    obtain ⟨j, d⟩ := x
    obtain ⟨hfirst, hrest⟩ := List.pairwise_cons.1 h
    unfold Memory.erase
    split
    · next heq =>
      subst heq
      exact Memory.find?_of_lt hfirst
    · next hne => simp [Memory.find?, hne, ih hrest]

/-! ### One symbol -/

@[simp] theorem State.unlisted_setSymbol (s : State) (a : Nat) (b : Byte) :
    (s.setSymbol a b).unlisted = s.unlisted := rfl

theorem State.symbol_setSymbol_of_ne (s : State) {a c : Nat} (b : Byte) (h : c ≠ a) :
    (s.setSymbol a b).symbol c = s.symbol c := by
  have hfind : Memory.find? (s.setSymbol a b).mem c = Memory.find? s.mem c := by
    simp only [State.setSymbol, Memory.write]
    split
    · exact Memory.find?_erase_of_ne _ h
    · exact Memory.find?_insert_of_ne _ _ h
  unfold State.symbol
  rw [hfind, State.unlisted_setSymbol]
  rfl

theorem State.symbol_setSymbol_self {s : State} (a : Nat) (b : Byte) (h : canon s.store) :
    (s.setSymbol a b).symbol a = b := by
  unfold State.symbol
  rw [State.unlisted_setSymbol]
  obtain ⟨hrising, -⟩ := (Memory.wf_iff s.mem s.unlisted).1 h
  by_cases hlisted : s.unlisted a = some b
  · simp [State.setSymbol, Memory.write, hlisted, Memory.find?_erase_self a hrising]
  · simp [State.setSymbol, Memory.write, hlisted, Memory.find?_insert_self]

/-! ### A code word -/

/-- The symbols of `ps`, each with its lane, written one after the other. -/
def State.putSymbols (s : State) (k : Nat) (prow : Nat → Nat) (g : Nat) (ps : List (Nat × Nat)) : State :=
  ps.foldl (fun s p => s.setSymbol (cellAddr k (prow p.2) g p.2) (BitVec.ofNat 8 p.1)) s

theorem State.putWord_eq_putSymbols (s : State) (k : Nat) (prow : Nat → Nat) (g : Nat) (w : List Nat) :
    s.putWord k prow g w = s.putSymbols k prow g w.zipIdx := rfl

theorem cellAddr_ne_of_lane (k g : Nat) {p q l m : Nat} (hl : l < 36) (hm : m < 36) (h : l ≠ m) :
    cellAddr k p g l ≠ cellAddr k q g m := by
  unfold cellAddr
  omega

theorem State.symbol_putSymbols_of_ne (k : Nat) (prow : Nat → Nat) (g a : Nat) (ps : List (Nat × Nat)) (s : State)
    (h : ∀ p ∈ ps, a ≠ cellAddr k (prow p.2) g p.2) : (s.putSymbols k prow g ps).symbol a = s.symbol a := by
  induction ps generalizing s with
  | nil => rfl
  | cons p ps ih =>
    obtain ⟨hp, hps⟩ := List.forall_mem_cons.1 h
    calc ((s.setSymbol _ _).putSymbols k prow g ps).symbol a
        = (s.setSymbol _ _).symbol a := ih _ hps
      _ = s.symbol a := State.symbol_setSymbol_of_ne s _ hp

/-- What is written to a lane is read back, where every lane is written once. -/
theorem State.symbol_putSymbols_of_mem (k : Nat) (prow : Nat → Nat) (g b l : Nat) (ps : List (Nat × Nat)) (s : State)
    (hs : canon s.store) (hlanes : ∀ p ∈ ps, p.2 < 36) (hnodup : (ps.map Prod.snd).Nodup) (hmem : (b, l) ∈ ps) :
    (s.putSymbols k prow g ps).symbol (cellAddr k (prow l) g l) = BitVec.ofNat 8 b := by
  induction ps generalizing s with
  | nil => cases hmem
  | cons p ps ih =>
    obtain ⟨hp, hps⟩ := List.forall_mem_cons.1 hlanes
    rw [List.map_cons, List.nodup_cons] at hnodup
    obtain ⟨hfresh, hnodup⟩ := hnodup
    rcases List.mem_cons.1 hmem with rfl | hmem
    · have hrest : ∀ q ∈ ps, cellAddr k (prow l) g l ≠ cellAddr k (prow q.2) g q.2 := fun q hq =>
        cellAddr_ne_of_lane k g hp (hps q hq) fun heq => hfresh (List.mem_map.2 ⟨q, hq, heq.symm⟩)
      calc ((s.setSymbol _ _).putSymbols k prow g ps).symbol (cellAddr k (prow l) g l)
          = (s.setSymbol _ _).symbol (cellAddr k (prow l) g l) := State.symbol_putSymbols_of_ne k prow g _ ps _ hrest
        _ = BitVec.ofNat 8 b := State.symbol_setSymbol_self _ _ hs
    · exact ih _ (State.setSymbol_canon s _ _ hs) hps hnodup hmem

theorem State.symbol_putWord_of_ne (s : State) (k : Nat) (prow : Nat → Nat) (g a : Nat) (w : List Nat)
    (hw : w.length = 36) (h : ∀ l < 36, a ≠ cellAddr k (prow l) g l) : (s.putWord k prow g w).symbol a = s.symbol a :=
  State.symbol_putSymbols_of_ne k prow g a _ s fun p hp => h p.2 (hw ▸ List.snd_lt_of_mem_zipIdx hp)

theorem State.symbolsAt_putWord (s : State) (k : Nat) (prow : Nat → Nat) (g : Nat) (w : List Nat)
    (hw : w.length = 36) (hs : canon s.store) (hbytes : ∀ b ∈ w, b < 256) :
    (s.putWord k prow g w).symbolsAt k prow g = w := by
  refine List.ext_getElem (by simp [State.symbolsAt, hw]) fun l hl hlw => ?_
  have hread : (s.putWord k prow g w).symbol (cellAddr k (prow l) g l) = BitVec.ofNat 8 w[l] :=
    State.symbol_putSymbols_of_mem k prow g w[l] l w.zipIdx s hs
      (fun p hp => hw ▸ List.snd_lt_of_mem_zipIdx hp)
      (by simpa [List.zipIdx_map_snd] using List.nodup_range')
      (List.mem_zipIdx_iff_getElem?.2 (List.getElem?_eq_getElem hlw))
  have hsmall : w[l] < 256 := hbytes _ (List.getElem_mem hlw)
  simp only [State.symbolsAt, List.getElem_map, List.getElem_range, hread, BitVec.toNat_ofNat]
  exact Nat.mod_eq_of_lt hsmall

/-! ### A granule -/

/-- Settles O24: the granule's word and the spare's are written at their own 36 addresses each. -/
theorem granuleFrame : Obligations.GranuleFrame := by
  intro bank row g a w s hw hserved hspare
  unfold State.putGranule
  dsimp only
  split
  · next k prow hmirror =>
    rw [State.symbol_putWord_of_ne _ k prow g a w hw (hspare k prow hmirror)]
    exact State.symbol_putWord_of_ne s _ _ g a w hw hserved
  · exact State.symbol_putWord_of_ne s _ _ g a w hw hserved

/-- Settles O25: without a copy the granule is one code word, read back lane by lane. -/
theorem granuleReadBack : Obligations.GranuleReadBack := by
  intro bank row g w s hw _ hmirror hwf hbytes
  unfold State.putGranule
  simp only [hmirror]
  exact State.symbolsAt_putWord s _ _ g w hw hwf hbytes

end Sys2Proof.Machine
end

section
/-!
PROOFS. The clock that the data path of a bank reads: reading, merging, encoding and writing the granules of a row, and
what these count, leave the counts of the edges as they are.
-/

namespace Sys2Proof.Machine

/-- What each step of a fold keeps, the fold keeps. -/
theorem foldl_keeps {α β : Type} (field : State → β) (g : State → α → State) (h : ∀ s a, field (g s a) = field s)
    (l : List α) (s : State) : field (l.foldl g s) = field s := by
  induction l generalizing s with
  | nil => rfl
  | cons a l ih => rw [List.foldl_cons, ih, h]

@[simp] theorem ite_clock (p : Prop) [Decidable p] (s t : State) :
    (if p then s else t).clock = if p then s.clock else t.clock := by
  split <;> rfl

/-! ### Events and reports -/

@[simp] theorem State.integEvent_clock (s : State) (i bank : Nat) : (s.integEvent i bank).clock = s.clock := rfl

@[simp] theorem State.evEvent_clock (s : State) (i pop cluster : Nat) : (s.evEvent i pop cluster).clock = s.clock := rfl

@[simp] theorem State.govFlag_clock (s : State) (i : Nat) : (s.govFlag i).clock = s.clock := rfl

@[simp] theorem State.report_clock (s : State) (f : FaultInfo) : (s.report f).clock = s.clock := rfl

@[simp] theorem State.newEntry_clock (s : State) (f : FaultInfo) (level : Nat) :
    (s.newEntry f level).clock = s.clock := by
  unfold State.newEntry State.entryDetail
  cases f.detail <;> rfl

@[simp] theorem State.record_clock (s : State) (f : FaultInfo) (level : Nat) : (s.record f level).clock = s.clock := by
  unfold State.record
  split
  · split
    · rfl
    · exact State.newEntry_clock s f level
  · exact State.newEntry_clock s f level

@[simp] theorem State.log_clock (s : State) (f : FaultInfo) : (s.log f).clock = s.clock := State.record_clock s f 0

/-! ### Tolls -/

@[simp] theorem State.climb_clock (s : State) : (s.climb).clock = s.clock := by
  simp [State.climb]

@[simp] theorem State.charge_clock (s : State) (p c tolls : Nat) : (s.charge p c tolls).clock = s.clock := by
  simp [State.charge]

@[simp] theorem State.payMirror_clock (s : State) (p bank row : Nat) : (s.payMirror p bank row).clock = s.clock := by
  simp [State.payMirror]

/-! ### A granule -/

@[simp] theorem State.clogAdd_clock (s : State) (c : Nat) (e : BitVec 32) : (s.clogAdd c e).clock = s.clock := by
  simp [State.clogAdd]

@[simp] theorem State.noted_clock (s : State) (bank row g : Nat) (scrub : Bool) (d : Decoded) :
    (s.noted bank row g scrub d).clock = s.clock := by
  unfold State.noted
  cases d.outcome <;> simp

@[simp] theorem State.readGranule_clock (s : State) (bank row g : Nat) : (s.readGranule bank row g).2.clock = s.clock :=
  State.noted_clock s bank row g false _

@[simp] theorem State.mergeData_clock (s : State) (bank row : Nat) (need gs : List Nat) :
    (s.mergeData bank row need gs).2.clock = s.clock := by
  induction gs generalizing s with
  | nil => rfl
  | cons g gs ih =>
    simp only [State.mergeData]
    rw [ih]
    split <;> simp

@[simp] theorem State.setSymbol_clock (s : State) (a : Nat) (b : Byte) : (s.setSymbol a b).clock = s.clock := rfl

@[simp] theorem State.putWord_clock (s : State) (k : Nat) (prow : Nat → Nat) (g : Nat) (w : List Nat) :
    (s.putWord k prow g w).clock = s.clock := by
  unfold State.putWord
  exact foldl_keeps State.clock _ (fun s p => State.setSymbol_clock s _ _) _ s

@[simp] theorem State.putGranule_clock (s : State) (bank row g : Nat) (w : List Nat) :
    (s.putGranule bank row g w).clock = s.clock := by
  unfold State.putGranule
  dsimp only
  split <;> simp

@[simp] theorem State.cancelWriteBack_clock (s : State) (bank row g : Nat) :
    (s.cancelWriteBack bank row g).clock = s.clock := by
  simp [State.cancelWriteBack]

@[simp] theorem State.storeGranule_clock (s : State) (bank row g : Nat) (d : BitVec 256) (bad : Bool) :
    (s.storeGranule bank row g d bad).clock = s.clock := by
  simp [State.storeGranule]

@[simp] theorem State.storeFlipped_clock (s : State) (x : Piece) (g : Nat) (d : BitVec 256) (bad : Bool) :
    (s.storeFlipped x g d bad).clock = s.clock := by
  unfold State.storeFlipped
  dsimp only
  split
  · rw [State.log_clock, State.integEvent_clock, State.onCtest_clock, State.cancelWriteBack_clock,
      State.putGranule_clock]
  · exact State.storeGranule_clock s _ _ _ _ _

/-! ### A row of a piece -/

@[simp] theorem State.writeOne_clock (s : State) (x : Piece) (old : Option (List (BitVec 256 × Bool))) (ps : List Put)
    (g : Nat) : (s.writeOne x old ps g).2.clock = s.clock := by
  unfold State.writeOne
  dsimp only
  repeat' split
  all_goals simp

@[simp] theorem State.writeAll_clock (s : State) (x : Piece) (old : Option (List (BitVec 256 × Bool))) (ps : List Put)
    (gs : List Nat) : (s.writeAll x old ps gs).2.clock = s.clock := by
  induction gs generalizing s with
  | nil => rfl
  | cons g gs ih => simp [State.writeAll, ih]

@[simp] theorem State.storeRow_clock (s : State) (x : Piece) (merge : Option (List (BitVec 256 × Bool)))
    (ps : List Put) : (s.storeRow x merge ps).2.clock = s.clock := by
  unfold State.storeRow
  split
  · rfl
  · dsimp only
    split <;> simp [State.writeThrough, State.unrecord]

@[simp] theorem State.noteQuant_clock (s : State) (x : Piece) (b : BoundView) (t : Tally) :
    (s.noteQuant x b t).clock = s.clock := by
  unfold State.noteQuant
  dsimp only
  repeat' split
  all_goals simp

@[simp] theorem State.noteAcc_clock (s : State) (x : Piece) (m : Made) : (s.noteAcc x m).clock = s.clock := by
  simp [State.noteAcc]

/-! ### Records of populations -/

@[simp] theorem State.storeMade_clock (s : State) (bank row : Nat) (m : RowMade) :
    (s.storeMade bank row m).clock = s.clock :=
  foldl_keeps State.clock _ (fun _ _ => State.storeGranule_clock _ _ _ _ _ _) _ s

@[simp] theorem State.noteAdds_clock (s : State) (pop bank : Nat) (m : RowMade) :
    (s.noteAdds pop bank m).clock = s.clock := by
  have hmarked := foldl_keeps State.clock (fun s (_ : Nat) => s.onBank bank fun b =>
    { b with mergeSpoil := satAdd 0xFFFF b.mergeSpoil 1 }) (fun _ _ => rfl) m.marked s
  simp [State.noteAdds, hmarked]

@[simp] theorem State.taint_clock (s : State) (pop : Nat) : (s.taint pop).clock = s.clock := by
  unfold State.taint
  split <;> simp

@[simp] theorem State.noteStep_clock (s : State) (pop addr bank row : Nat) (m : RowMade) :
    (s.noteStep pop addr bank row m).clock = s.clock :=
  foldl_keeps State.clock _ (fun s g => by
    rw [State.taint_clock]
    split
    · split <;> rfl
    · rfl) _ s

@[simp] theorem State.emitFrom_clock (s : State) (c : Nat) (full : List Nat) (out : List (Nat × OutEvent)) :
    (s.emitFrom c full out).2.clock = s.clock := by
  induction out generalizing s full with
  | nil => rfl
  | cons o out ih =>
    simp only [State.emitFrom]
    split
    · exact ih _ _
    · split
      · exact ih _ _
      · exact ih _ _

@[simp] theorem State.emitRows_clock (s : State) (c pop n : Nat) : (s.emitRows c pop n).clock = s.clock := by
  induction n generalizing s with
  | zero => rfl
  | succ n ih =>
    unfold State.emitRows
    repeat' split
    all_goals simp [ih, State.onStep]

@[simp] theorem State.stepWritten_clock (s : State) (pop row : Nat) (p : Pop) (spikes : List (Nat × Int)) (sats : Nat) :
    (s.stepWritten pop row p spikes sats).clock = s.clock := by
  simp [State.stepWritten, State.emitAll, State.onStep]

@[simp] theorem State.storeStep_clock (s : State) (x : Piece) (old : List (BitVec 256 × Bool)) :
    (s.storeStep x old).clock = s.clock := by
  unfold State.storeStep
  split <;> simp

@[simp] theorem State.storeAdds_clock (s : State) (x : Piece) (old : List (BitVec 256 × Bool)) :
    (s.storeAdds x old).clock = s.clock := by
  simp [State.storeAdds]

@[simp] theorem State.storePiece_clock (s : State) (x : Piece) (merge : Option (List (BitVec 256 × Bool))) :
    (s.storePiece x merge).2.clock = s.clock := by
  unfold State.storePiece
  split
  · simp [State.storeRecords]
  · dsimp only
    split <;> simp

end Sys2Proof.Machine
end

section
/-!
PROOFS. The actions of a bank (R28 to R33, R139): each in the XCK in which its slot is free for it, and the write slot
under a flip mask in the next one where it defers (R339).
-/

namespace Sys2Proof.Machine

/-! ### Rows of the running block -/

theorem State.live_of_ready {s : State} (h : s.ready = true) (f : State → State) : s.live f = (f s).settle := if_pos h

theorem clock_of_ready {s : State} (h : s.ready = true) : s.clock.running = true := by
  simp only [State.ready, Bool.and_eq_true] at h
  obtain ⟨-, hclock⟩ := h
  exact hclock

theorem State.until_of_now {s : State} {p : State → Bool} (h : p s = true) (n : Nat) : s.until p n = s := by
  cases n with
  | zero => rfl
  | succ n => simp [State.until, h]

/-- What does not hold in this XCK and holds in the next. -/
theorem State.until_of_next {s : State} {p : State → Bool} (hr : s.ready = true) (h : p s = false)
    (ht : p s.tick = true) (n : Nat) : s.until p (n + 1) = s.tick := by
  simp [State.until, hr, h, State.until_of_now ht n]

/-! ### One bank's queue -/

theorem Tbl.set_set {α : Type} (t : Tbl α) (k : Nat) (v w : α) : (t.set k v).set k w = t.set k w := by
  induction t with
  | nil => simp [Tbl.set]
  | cons e r ih =>
    obtain ⟨j, a⟩ := e
    simp only [Tbl.set]
    split
    · simp [Tbl.set]
    · next hlt =>
      split
      · simp [Tbl.set]
      · next hne => simp [Tbl.set, hlt, hne, ih]

theorem State.onBankq_onBankq (s : State) (g : Nat) (f f' : BankQueue → BankQueue) :
    (s.onBankq g f).onBankq g f' = s.onBankq g fun q => f' (f q) := by
  simp [State.onBankq, State.bankq, Tbl.get_set, Tbl.set_set]

section
variable {k b : Nat} {s : State}

/-- A bank's row in a cluster in RUN, in an XCK in which its slot can be used. -/
theorem State.bankAct_of_now {now : State → Nat → Bool} (f : State → Nat → State) (hready : s.ready = true)
    (hk : s.hasCluster k = true) (hb : b < 16) (hrun : s.inRun k = true) (hnow : now s (16 * k + b) = true) :
    s.bankAct k b now f = (f s (16 * k + b)).settle := by
  unfold State.bankAct
  rw [State.live_of_ready hready]
  simp only [hk, hb, hrun, and_self, if_true, State.until_of_now (p := (now · (16 * k + b))) hnow, hready]

theorem State.bankAct_of_next {now : State → Nat → Bool} (f : State → Nat → State) (hready : s.ready = true)
    (hk : s.hasCluster k = true) (hb : b < 16) (hrun : s.inRun k = true) (hnow : now s (16 * k + b) = false)
    (htick : s.tick.ready = true) (hnext : now s.tick (16 * k + b) = true) :
    s.bankAct k b now f = (f s.tick (16 * k + b)).settle := by
  unfold State.bankAct
  rw [State.live_of_ready hready]
  simp only [hk, hb, hrun, and_self, if_true,
    State.until_of_next (p := (now · (16 * k + b))) hready hnow hnext, htick]

end

/-! ### MERGE_READ -/

theorem State.mergeRead_of_due {s : State} {g i : Nat} {e : WEntry} (hdue : mergeDue (s.bankq g).wbuf = some i)
    (he : (s.bankq g).wbuf[i]? = some e) (hopen : s.readOpen g = true) :
    s.mergeRead g =
      (let r := s.mergeData g e.piece.row (s.mergeGranules e.piece) [0, 1, 2, 3]
       r.2.onBankq g fun q =>
         { q with wbuf := q.wbuf.set i { e with merge := some r.1, mergedAt := s.bck }, readBck := s.bck + 1 }) := by
  have hbck : (s.mergeData g e.piece.row (s.mergeGranules e.piece) [0, 1, 2, 3]).2.bck = s.bck := by
    simp [State.bck]
  simp only [State.mergeRead, hopen, hdue, he, Bool.not_true, Bool.false_eq_true, if_false, hbck]

/-! ### BANK_WRITE_SLOT -/

/-- The head of a write buffer that may be written has its merge, where it needs one. -/
theorem merged_of_mayWrite {q : BankQueue} {e : WEntry} {rest : List WEntry} {t n : Nat} (hq : q.wbuf = e :: rest)
    (h : q.mayWrite t n = true) : (e.piece.needsMerge && e.merge.isNone) = false := by
  simp only [BankQueue.mayWrite, hq, WEntry.mayWrite, Bool.and_eq_true, decide_eq_true_eq] at h
  obtain ⟨-, -, hmerge⟩ := h
  cases hn : e.piece.needsMerge with
  | false => rfl
  | true =>
    simp only [hn, if_true, Bool.and_eq_true] at hmerge
    obtain ⟨hsome, -⟩ := hmerge
    simp [Option.isNone_eq_false_iff, hsome]

theorem State.writeNow_of_mayWrite {s : State} {g : Nat} {e : WEntry} {rest : List WEntry}
    (hq : (s.bankq g).wbuf = e :: rest) (h : (s.bankq g).mayWrite s.clock.xck s.bck = true) :
    s.writeNow g = !s.flipDefers g := by
  simp [State.writeNow, hq, h, merged_of_mayWrite hq h]

/-- The port of the request that a piece belongs to. -/
def State.requestPort (s : State) (x : Piece) : Nat :=
  match s.outst? x.req with
  | some o => o.port
  | none => x.port

theorem State.finishWrite_of_head {s : State} {g : Nat} {e : WEntry} {rest : List WEntry}
    (hq : (s.bankq g).wbuf = e :: rest) :
    s.finishWrite g =
      (let r := s.storePiece e.piece e.merge
       let t := r.2.onBankq g fun q => q.wrote e s.bck
       (t.writePart e.piece.req (e.piece.kind == .entry) r.1).pump
         (t.requestPort e.piece)) := by
  have hbck : (s.storePiece e.piece e.merge).2.bck = s.bck := by simp [State.bck]
  simp only [State.finishWrite, hq, hbck]
  rfl

theorem State.writeSlot_of_ready {s : State} {g : Nat} {e : WEntry} {rest : List WEntry}
    (hq : (s.bankq g).wbuf = e :: rest) (h : (s.bankq g).mayWrite s.clock.xck s.bck = true)
    (hflip : s.flipDefers g = false) (hlines : s.linesReady e.piece = true) :
    s.writeSlot g = (s.lowerFirst g).finishWrite g := by
  simp [State.writeSlot, h, hflip, hq, hlines]

/-- The bank's cluster has no flip mask: no bank defers to it or goes first. -/
theorem State.flipDefers_of_unarmed {s : State} {g : Nat} (h : (s.ctest (g / 16)).flipMask = 0) :
    s.flipDefers g = false := by
  simp [State.flipDefers, h]

theorem State.lowerFirst_of_unarmed {s : State} {g : Nat} (h : (s.ctest (g / 16)).flipMask = 0) :
    s.lowerFirst g = s := if_pos h

theorem State.lowerFirst_of_armed {s : State} {k b : Nat} (hb : b < 16) (h : (s.ctest k).flipMask ≠ 0) :
    s.lowerFirst (16 * k + b) =
      (List.range b).foldl (fun s i => if s.writeReady (16 * k + i) then s.finishWrite (16 * k + i) else s) s := by
  have hk : (16 * k + b) / 16 = k := by omega
  have hmod : (16 * k + b) % 16 = b := by omega
  simp only [State.lowerFirst, hk, hmod, if_neg h]

/-! ### READ_BEAT_COMPLETE -/

theorem State.lookLines_of_none (s : State) {x : Piece} (h : x.lines = []) : s.lookLines x = s := by
  unfold State.lookLines State.linesMissing
  rw [h]
  cases x.view <;> simp

theorem State.readSlot_of_looked {s : State} {g : Nat} {x : Piece} (hx : s.nextRead g = some x)
    (hlooked : x.looked = true) :
    s.readSlot g = (s.onBankq g fun q => { q with reads := q.reads.erase x }).finishRead x := by
  simp [State.readSlot, hx, hlooked, State.takeRead]

theorem State.readSlot_of_noLines {s : State} {g : Nat} {x : Piece} (hx : s.nextRead g = some x)
    (hlooked : x.looked = false) (hmay : (s.bankq g).mayRead s.bck = true) (hlines : x.lines = []) :
    s.readSlot g =
      (s.onBankq g fun q => { q with readBck := s.bck + 1, reads := q.reads.erase x }).finishRead x := by
  simp only [State.readSlot, hx, hlooked, hmay, Bool.not_true, Bool.false_eq_true, if_false,
    State.lookLines_of_none _ hlines, State.linesMissing, hlines, List.filter_nil, if_true, State.takeRead,
    State.onBankq_onBankq]

/-! ### The rows -/

theorem exec_mergeRead (k b : Nat) (s : State) :
    exec (.mergeRead k b) s = .next (s.bankAct k b State.mergeNow State.mergeRead) := rfl

theorem exec_bankWriteSlot (k b : Nat) (s : State) :
    exec (.bankWriteSlot k b) s = .next (s.bankAct k b State.writeNow State.writeSlot) := rfl

theorem exec_readBeatComplete (k b : Nat) (s : State) :
    exec (.readBeatComplete k b) s = .next (s.bankAct k b State.readNow State.readSlot) := rfl

/-- Settles O23: one lemma for the slot of each row, in the XCK in which the row acts. -/
theorem bankRows : Obligations.BankRows := by
  intro k b s hready hk hb hrun
  dsimp only
  have hcluster : (16 * k + b) / 16 = k := by omega
  refine ⟨fun i e hdue he hopen => ?merge, fun e rest hq hmay hlines => ⟨fun hmask => ?unarmed,
    fun hdefers htick hnext => ?defers, fun hmask hdefers => ?armed⟩, fun x hx => ⟨fun hlooked => ?looked,
    fun hlooked hmay hlines => ?unlooked⟩⟩
  case merge =>
    have hnow : s.mergeNow (16 * k + b) = true := by simp [State.mergeNow, hopen]
    rw [exec_mergeRead, State.bankAct_of_now _ hready hk hb hrun hnow, State.mergeRead_of_due hdue he hopen]
  case unarmed =>
    have hmask' : (s.ctest ((16 * k + b) / 16)).flipMask = 0 := hcluster.symm ▸ hmask
    have hflip := State.flipDefers_of_unarmed hmask'
    have hnow : s.writeNow (16 * k + b) = true := by simp [State.writeNow_of_mayWrite hq hmay, hflip]
    rw [exec_bankWriteSlot, State.bankAct_of_now _ hready hk hb hrun hnow,
      State.writeSlot_of_ready hq hmay hflip hlines, State.lowerFirst_of_unarmed hmask']
    exact congrArg (fun t => Host.Outcome.next t.settle) (State.finishWrite_of_head hq)
  case defers =>
    have hnow : s.writeNow (16 * k + b) = false := by simp [State.writeNow_of_mayWrite hq hmay, hdefers]
    rw [exec_bankWriteSlot, State.bankAct_of_next _ hready hk hb hrun hnow htick hnext]
  case armed =>
    have hnow : s.writeNow (16 * k + b) = true := by simp [State.writeNow_of_mayWrite hq hmay, hdefers]
    rw [exec_bankWriteSlot, State.bankAct_of_now _ hready hk hb hrun hnow,
      State.writeSlot_of_ready hq hmay hdefers hlines, State.lowerFirst_of_armed hb hmask]
  case looked =>
    have hnow : s.readNow (16 * k + b) = true := by simp only [State.readNow, hx, hlooked, Bool.true_or, Bool.or_true]
    rw [exec_readBeatComplete, State.bankAct_of_now _ hready hk hb hrun hnow, State.readSlot_of_looked hx hlooked]
  case unlooked =>
    have hnow : s.readNow (16 * k + b) = true := by simp only [State.readNow, hx, hmay, Bool.or_true]
    rw [exec_readBeatComplete, State.bankAct_of_now _ hready hk hb hrun hnow,
      State.readSlot_of_noLines hx hlooked hmay hlines]

end Sys2Proof.Machine
end

section
/-!
PROOFS. A step on an empty queue (log entry 3), and what one XCK of a quiet block leaves: the parts of the state in
which work waits and the memory (`State.work`), and the counts of edges and time, which only the XCK itself and its ACK
edge move (`State.dates`).
-/

namespace Sys2Proof.Machine

/-! ### What an XCK leaves alone -/

/-- The parts of the state from which work goes on by itself, and the memory. -/
def State.work (s : State) :
    CmdIf × RegIf × Links × EventUnit × (Nat → List Resp) × List FaultInfo × List (BitVec 64) × Mon × List Host.Cell :=
  (s.cmd, s.reg, s.links, s.eng, fun p => (s.port p).resp, s.safety.reports, s.fw.toInstall, s.fw.mon, s.mem)

/-- XCK and ACK edges so far, and the time. -/
def State.dates (s : State) : Nat × Nat × Nat := (s.clock.xck, s.clock.acks, s.clock.elapsed)

/-- What no part of an XCK changes but the passing of the XCK itself and its ACK edge. -/
def State.standing (s : State) := (s.work, s.dates)

theorem work_eq_iff {s t : State} : t.work = s.work ↔
    t.cmd = s.cmd ∧ t.reg = s.reg ∧ t.links = s.links ∧ t.eng = s.eng ∧
      (fun p => (t.port p).resp) = (fun p => (s.port p).resp) ∧ t.safety.reports = s.safety.reports ∧
      t.fw.toInstall = s.fw.toInstall ∧ t.fw.mon = s.fw.mon ∧ t.mem = s.mem := by
  simp only [State.work, Prod.mk.injEq]

theorem standing_eq_iff {s t : State} : t.standing = s.standing ↔ t.work = s.work ∧ t.dates = s.dates := Prod.mk_inj

@[simp] theorem ite_standing (p : Prop) [Decidable p] (s t : State) :
    (if p then s else t).standing = if p then s.standing else t.standing := by
  split <;> rfl

@[simp] theorem State.onPower_standing (s : State) (f : Power → Power) : (s.onPower f).standing = s.standing := rfl

@[simp] theorem State.onTime_standing (s : State) (f : TimeBase → TimeBase) : (s.onTime f).standing = s.standing := rfl

@[simp] theorem State.onGov_standing (s : State) (f : Gov → Gov) : (s.onGov f).standing = s.standing := rfl

@[simp] theorem State.onConv_standing (s : State) (f : Conv → Conv) : (s.onConv f).standing = s.standing := rfl

@[simp] theorem State.onCpower_standing (s : State) (k : Nat) (f : ClusterPower → ClusterPower) :
    (s.onCpower k f).standing = s.standing := rfl

/-! ### The ports as the decisions of the XCK see them (R154) -/

theorem Tbl.find?_map {α : Type} (f : Nat → α → α) (t : Tbl α) (k : Nat) :
    Tbl.find? (t.map fun e => (e.1, f e.1 e.2)) k = (Tbl.find? t k).map (f k) := by
  induction t with
  | nil => rfl
  | cons e t ih =>
    obtain ⟨j, a⟩ := e
    by_cases hj : j = k
    · subst hj; simp [Tbl.find?]
    · simpa [Tbl.find?, hj] using ih

/-- A change of every listed port that leaves the queue of its responses. -/
theorem State.mapPorts_standing (s : State) (f : Nat → Port → Port) (hf : ∀ p q, (f p q).resp = q.resp) :
    (s.onXbar fun x => { x with ports := x.ports.map fun e => (e.1, f e.1 e.2) }).standing = s.standing := by
  have hresp : (fun p => ((s.onXbar fun x => { x with ports := x.ports.map fun e => (e.1, f e.1 e.2) }).port p).resp) =
      fun p => (s.port p).resp := by
    funext p
    simp only [State.port, State.onXbar, Tbl.get, Tbl.find?_map f s.xbar.ports p]
    cases Tbl.find? s.xbar.ports p with
    | none => rfl
    | some q => exact hf p q
  exact standing_eq_iff.2 ⟨work_eq_iff.2 ⟨rfl, rfl, rfl, rfl, hresp, rfl, rfl, rfl, rfl⟩, rfl⟩

theorem State.onPort_id_standing (s : State) (p : Nat) : (s.onPort p id).standing = s.standing := by
  have hresp : (fun q => ((s.onPort p id).port q).resp) = fun q => (s.port q).resp := by
    funext q
    rw [State.port_onPort_eq]
    split
    · next heq => rw [heq]; rfl
    · rfl
  exact standing_eq_iff.2 ⟨work_eq_iff.2 ⟨rfl, rfl, rfl, rfl, hresp, rfl, rfl, rfl, rfl⟩, rfl⟩

@[simp] theorem State.see_standing (s : State) : s.see.standing = s.standing := by
  unfold State.see
  rw [State.mapPorts_standing _
    (fun p q => { q with seen := _, ewmaRdPrev := q.ewmaRd, ewmaWrPrev := q.ewmaWr }) (fun _ _ => rfl)]
  exact foldl_keeps State.standing _ (fun s p => State.onPort_id_standing s p) _ s

theorem State.see_power (s : State) : s.see.power = s.power := by
  unfold State.see State.touchPorts
  rw [State.onXbar_power]
  exact foldl_keeps State.power _ (fun s p => State.onPort_power s p id) _ s

/-! ### The parts of an XCK -/

@[simp] theorem State.entryXck_standing (s : State) (c : Nat) : (s.entryXck c).standing = s.standing := by
  unfold State.entryXck State.stopCluster
  dsimp only
  split
  · rfl
  · repeat' split
    all_goals rfl

theorem State.indicate_standing (s : State) (c cause : Nat) : (s.indicate c cause).standing = s.standing := rfl

@[simp] theorem State.powerXck_standing (s : State) : s.powerXck.standing = s.standing := by
  have hentry := foldl_keeps State.standing State.entryXck State.entryXck_standing (List.range s.cfg.clusters) s
  unfold State.powerXck
  dsimp only
  split
  · split
    · rw [foldl_keeps State.standing _ (fun s c => State.indicate_standing s c 4), State.onPower_standing, hentry]
    · exact hentry
  · exact hentry

@[simp] theorem State.passEnds_standing (s : State) : s.passEnds.standing = s.standing := by
  simp [State.passEnds]

@[simp] theorem State.idleReset_standing (s : State) : s.idleReset.standing = s.standing := by
  unfold State.idleReset
  rw [foldl_keeps State.standing _ (fun s c => by simp)]
  simp

@[simp] theorem State.govFlag_standing (s : State) (i : Nat) : (s.govFlag i).standing = s.standing := rfl

@[simp] theorem State.climb_standing (s : State) : s.climb.standing = s.standing := by
  unfold State.climb
  dsimp only
  repeat' split
  all_goals simp

@[simp] theorem State.chargeArray_standing (s : State) (c n : Nat) : (s.chargeArray c n).standing = s.standing := by
  simp [State.chargeArray]

@[simp] theorem State.testTolls_standing (s : State) : s.testTolls.standing = s.standing := by
  unfold State.testTolls
  refine foldl_keeps State.standing _ (fun s c => ?_) _ s
  split
  · dsimp only
    split <;> simp
  · rfl

@[simp] theorem State.ackTime_standing (s : State) : s.ackTime.standing = s.standing := by
  unfold State.ackTime State.addTime
  dsimp only
  split <;> rfl

@[simp] theorem State.idleCount_standing (s : State) : s.idleCount.standing = s.standing := by
  have hclusters := foldl_keeps State.standing (fun s c =>
    if (s.cpower c).ticks ≠ 0 ∧ (s.cpower c).mode = .run ∧ (s.cpower c).count < (s.cpower c).ticks ∧
        s.clusterIdle c then
      s.onCpower c fun p => { p with count := p.count + 1 } else s) (fun s c => by simp) (List.range s.cfg.clusters) s
  simp [State.idleCount, hclusters]

@[simp] theorem State.stopEdge_standing (s : State) : s.stopEdge.standing = s.standing := by
  unfold State.stopEdge
  split <;> rfl

@[simp] theorem State.blockA1_standing (s : State) : s.blockA1.standing = s.standing := by
  unfold State.blockA1 State.enterBlock
  repeat' split
  all_goals rfl

@[simp] theorem State.startBooting_standing (s : State) : s.startBooting.standing = s.standing := by
  unfold State.startBooting
  split <;> rfl

/-- The ACK edge is counted, and what it does besides leaves work and dates. -/
theorem State.ackEdge_standing (s : State) :
    s.ackEdge.standing = (s.work, s.clock.xck, s.clock.acks + 1, s.clock.elapsed) := by
  simp only [State.ackEdge, State.idleCount_standing, State.ackTime_standing]
  rfl

/-! ### One XCK of a block in which nothing goes on -/

/-- The XCK itself, before its ACK edge (R36): the idle timers, the entries and the tolls of this XCK follow. -/
def State.passXck (s : State) : State :=
  let s := s.see
  let s := { s with clock := { s.clock with xck := s.clock.xck + 1, elapsed := s.clock.elapsed + s.xckUnits } }
  let s := s.powerXck.passEnds.idleReset
  if s.clock.xck % 2 = 0 then s.testTolls else s

/-- The ACK edge that comes with every 32nd XCK (R35). -/
def State.passAck (s : State) : State :=
  (if s.clock.xck % 32 = 0 then s.ackEdge.stopEdge.blockA1 else s).startBooting

theorem State.tickRun_eq (s : State) : s.tickRun = s.passXck.passAck.installWaiting.monService.goOn := rfl

theorem State.passXck_standing (s : State) :
    s.passXck.standing = (s.work, s.clock.xck + 1, s.clock.acks, s.clock.elapsed + if s.power.eco then 20 else 15) := by
  obtain ⟨hwork, hdates⟩ := standing_eq_iff.1 (State.see_standing s)
  obtain ⟨hxck, hacks, helapsed⟩ : s.see.clock.xck = s.clock.xck ∧ s.see.clock.acks = s.clock.acks ∧
      s.see.clock.elapsed = s.clock.elapsed := by
    simpa [State.dates] using hdates
  simp only [State.passXck, ite_standing, State.testTolls_standing, ite_self, State.idleReset_standing,
    State.passEnds_standing, State.powerXck_standing]
  refine Prod.ext hwork ?_
  simp only [State.standing, State.dates, State.xckUnits, State.see_power, hxck, hacks, helapsed]

theorem State.passAck_standing (s : State) :
    s.passAck.standing =
      (s.work, s.clock.xck, s.clock.acks + (if s.clock.xck % 32 = 0 then 1 else 0), s.clock.elapsed) := by
  unfold State.passAck
  rw [State.startBooting_standing]
  split
  · rw [State.blockA1_standing, State.stopEdge_standing, State.ackEdge_standing]
  · rfl

theorem State.installWaiting_nil {s : State} (h : s.fw.toInstall = []) : s.installWaiting = s := if_pos h

theorem State.monService_nil {s : State} (hfifo : s.fw.mon.fifo = []) (hlines : s.fw.mon.lines = []) :
    s.monService = s := by
  simp [State.monService, hfifo, hlines]

theorem State.tickReport_nil {s : State} (h : s.safety.reports = []) : s.tickReport = s := by
  simp [State.tickReport, h]

theorem State.tick_of_pwrOk {s : State} (h : s.pins.pwrOk = true) :
    s.tick = if s.clock.running then s.tickRun.tickReport else s.tickStood := by
  simp [State.tick, h]

/-- What waits in a state depends on its work alone. -/
theorem still_of_work {s t : State} (h : t.work = s.work) (hs : s.still) : t.still := by
  obtain ⟨hcmd, -, -, heng, hresp, -⟩ := work_eq_iff.1 h
  have hport : ∀ p, (t.port p).resp = (s.port p).resp := fun p => congrFun hresp p
  have hstill : t.eventsStill = s.eventsStill := by simp only [State.eventsStill, heng, hport]
  obtain ⟨-, -, -, -, -, -, hevents⟩ := id hs
  exact still_of_cmd hs (by rw [hcmd]) (by rw [hcmd]) (by rw [hcmd]) (by rw [hcmd]) (by rw [hcmd]) (by rw [hcmd])
    (hstill.trans hevents)

/-- A block in which nothing waits, nothing is reported and the monitor has nothing to serve does no more than its
edges. -/
theorem tick_of_quiet {s : State} (hquiet : s.quiet = true) (hpwr : s.pins.pwrOk = true)
    (hreports : s.safety.reports = []) (hinstall : s.fw.toInstall = []) (hfifo : s.fw.mon.fifo = [])
    (hlines : s.fw.mon.lines = []) : s.tick = s.passXck.passAck := by
  obtain ⟨hready, hstill, hctl, hsp, -, -, hlinks, -⟩ := (State.quiet_iff s).1 hquiet
  have hwork : s.passXck.passAck.work = s.work :=
    (congrArg Prod.fst (State.passAck_standing s.passXck)).trans (congrArg Prod.fst (State.passXck_standing s))
  rw [State.tick_of_pwrOk hpwr, if_pos (clock_of_ready hready), State.tickRun_eq]
  generalize s.passXck.passAck = t at hwork
  have hstill' := still_of_work hwork hstill
  obtain ⟨-, hreg, hl, -, -, hr, hi, hm, -⟩ := work_eq_iff.1 hwork
  rw [State.installWaiting_nil (hi.trans hinstall), State.monService_nil (by rw [hm, hfifo]) (by rw [hm, hlines]),
    goOn_of_quiet hstill' (by rw [hreg, hctl]) (by rw [hreg, hsp]) (by rw [hl, hlinks]),
    State.tickReport_nil (hr.trans hreports)]

/-- Settles O2: a quiet block does no more than its edges (`tick_of_quiet`), and these leave its work. -/
theorem idleStep : Obligations.IdleStep := by
  refine ⟨fun s hpending => ?_, fun s hquiet hpwr hpending hreports hinstall hfifo hlines => ?_⟩
  · simp only [step, hpending, State.tick, Bool.not_eq_true']
    cases s.pins.pwrOk <;> simp
  · obtain ⟨hwork, hdates⟩ := Prod.mk_inj.1 (State.passAck_standing s.passXck)
    obtain ⟨hwork', hdates'⟩ := Prod.mk_inj.1 (State.passXck_standing s)
    simp only [State.dates, Prod.mk.injEq] at hdates hdates'
    obtain ⟨hxck, hacks, helapsed⟩ := hdates
    obtain ⟨hxck', hacks', helapsed'⟩ := hdates'
    refine ⟨s.passXck.passAck, ?_, hxck.trans hxck', helapsed.trans helapsed', ?_, ?_⟩
    · simp only [step, hpending, tick_of_quiet hquiet hpwr hreports hinstall hfifo hlines]
    · rw [hacks, hxck', hacks']
    · obtain ⟨-, -, -, -, -, -, -, -, hmem⟩ := work_eq_iff.1 (hwork.trans hwork')
      exact hmem

end Sys2Proof.Machine
end

section
/-!
PROOFS. Staging and unstaging, the rows of a STEP, its completion and its final record (R232, R233, R245 to R252): for
each row one lemma that says which branch of its function the premises name.
-/

namespace Sys2Proof.Machine

section
variable {s : State} {pop : Nat} {p : Pop}

/-! ### Staging and unstaging -/

theorem State.stageDone_waits {g : Staging} (hp : s.pop? pop = some p) (hg : s.staging? pop false = some g)
    (hcut : s.cut g.token = none) (hrun : s.inRun (popCluster p.desc) = true)
    (hbusy : s.copyFree (popCluster p.desc) pop = false) : s.stageDone pop = s := by
  simp only [State.stageDone, hg, hp, hcut, hrun, hbusy, Bool.not_true, Bool.not_false, Bool.false_eq_true, if_false,
    if_true]

theorem State.unstageDone_waits {g : Staging} (hp : s.pop? pop = some p) (hg : s.staging? pop true = some g)
    (hcut : s.cut g.token = none) (hrun : s.inRun (popCluster p.desc) = true)
    (hbusy : s.copyFree (popCluster p.desc) pop = false) : s.unstageDone pop = s := by
  simp only [State.unstageDone, hg, hp, hcut, hrun, hbusy, Bool.not_true, Bool.not_false, Bool.false_eq_true, if_false,
    if_true]

theorem State.stageDone_copies {g : Staging} (hp : s.pop? pop = some p) (hg : s.staging? pop false = some g)
    (hcut : s.cut g.token = none) (hrun : s.inRun (popCluster p.desc) = true)
    (hfree : s.copyFree (popCluster p.desc) pop = true) :
    s.stageDone pop =
      ((((s.copyRows pop (s.bufBanks (popCluster p.desc) pop) true).stagedLaps
          (s.bufPlaces (popCluster p.desc) pop)).onEng fun e =>
        { e with abuf := e.abuf.map (fun q =>
            (q.1, q.2.map (fun b => if b.pop = pop then { b with live := true } else b))) }).onPop pop fun p =>
        { p with staged := true }).endStaging g { status := .ok } := by
  simp only [State.stageDone, hg, hp, hcut, hrun, hfree, Bool.not_true, Bool.false_eq_true, if_false]

theorem State.unstageDone_copies {g : Staging} (hp : s.pop? pop = some p) (hg : s.staging? pop true = some g)
    (hcut : s.cut g.token = none) (hrun : s.inRun (popCluster p.desc) = true)
    (hfree : s.copyFree (popCluster p.desc) pop = true) :
    s.unstageDone pop =
      ((((s.copyRows pop (s.bufBanks (popCluster p.desc) pop) false).stagedLaps
          (s.bufPlaces (popCluster p.desc) pop)).freeRows pop).onPop pop fun p =>
        { p with staged := false }).endStaging g { status := .ok } := by
  simp only [State.unstageDone, hg, hp, hcut, hrun, hfree, Bool.not_true, Bool.false_eq_true, if_false]

/-! ### The rows of a STEP -/

/-- A row of a STEP counts as issued, and waits to be written. -/
def State.stepIssued (s : State) (r : StepRun) : State :=
  s.onStep r.pop fun q => { q with rows := q.rows + 1, left := q.left + 1 }

section
variable {r : StepRun} {q : Nat × Nat × Nat} (hp : s.pop? pop = some p) (hr : s.stepRun? pop = some r)
  (hmore : r.rowsDone p = false) (hopen : r.ended = false) (hcut : s.cut r.token = none)
  (hrun : s.inRun (popCluster p.desc) = true) (hroom : s.stepRoom (popCluster p.desc) r = true)
  (hrange : s.popRange p [.r, .w, .a] (popState p.desc + 128 * r.rows) (min 128 (16 * popN p.desc - 128 * r.rows)) =
    true)
  (hplace : s.locate (popState p.desc + 128 * r.rows) = some q)
include hp hr hmore hopen hcut hrun hroom

theorem State.stepRow_next : s.stepRow pop = s.stepRowNext r p := by
  simp only [State.stepRow, hr, hp, hmore, hopen, hcut, hrun, hroom, Bool.not_true, Bool.false_eq_true, or_self,
    if_false, if_true]

include hrange hplace

theorem State.stepRow_asks (hstaged : p.staged = false) (hask : s.eventRoom (popCluster p.desc) 1 = true) :
    s.stepRow pop = State.stepIssued
      (s.askEvent (popCluster p.desc) 4 (popState p.desc + 128 * r.rows) 128 p.owner
        [s.stepPiece r (popState p.desc + 128 * r.rows) q]).2 r := by
  rw [State.stepRow_next hp hr hmore hopen hcut hrun hroom]
  simp only [State.stepRowNext, hrange, hplace, hstaged, hask, Bool.not_true, Bool.false_eq_true, if_false, if_true]
  rfl

theorem State.stepRow_works (hstaged : p.staged = true) (hheld : (s.bankq q.1).holdsRow q.2.1 = false) :
    s.stepRow pop = (s.stepIssued r).bufferWork (s.stepPiece r (popState p.desc + 128 * r.rows) q) := by
  rw [State.stepRow_next hp hr hmore hopen hcut hrun hroom]
  have hheld' : (s.bankq (s.stepPiece r (popState p.desc + 128 * r.rows) q).bank).holdsRow
      (s.stepPiece r (popState p.desc + 128 * r.rows) q).row = false := hheld
  simp only [State.stepRowNext, hrange, hplace, hstaged, hheld', Bool.not_true, Bool.false_eq_true, if_false, if_true]
  rfl

end

theorem State.stepComplete_ends {r : StepRun} (hp : s.pop? pop = some p) (hr : s.stepRun? pop = some r)
    (hdone : r.rowsDone p = true) (hleft : r.left = 0) (hflight : r.inFlight = 0) (hopen : r.ended = false) :
    s.stepComplete pop =
      (s.onPop pop fun p => { p with p := p.p + 1, spikes := r.spikes, memSat := r.memSat }).endStep r none := by
  simp only [State.stepComplete, hr, hp, hdone, hleft, hflight, hopen, Bool.false_eq_true, not_false_eq_true, and_self,
    if_true]

/-! ### The final record of a STEP -/

theorem State.finalStep_waits {r : StepRun} (hp : s.pop? r.pop = some p)
    (hheld : s.heldDone (popCluster p.desc) r.pop = false) : s.finalStep r = s := by
  simp [State.finalStep, hp, hheld]

theorem State.finalStep_finishes {r : StepRun} (hp : s.pop? r.pop = some p) (hended : r.ended = true)
    (hheld : s.heldDone (popCluster p.desc) r.pop = true) :
    s.finalStep r =
      (s.onEng fun e => { e with steps := e.steps.filter (fun q => q.token != r.token) }).finish r.token r.cmd
        { status := r.cutSt.getD (if p.tainted then .spoil else .ok), result := r.spikes } := by
  simp [State.finalStep, hp, hheld, hended]

end

/-! ### The rows of the table -/

theorem exec_popStageDone {s : State} (h : s.ready = true) (pop : Nat) :
    exec (.popStageDone pop) s = .next (s.stageDone pop).settle :=
  congrArg Host.Outcome.next (State.live_of_ready h fun s => s.stageDone pop)

theorem exec_popUnstageDone {s : State} (h : s.ready = true) (pop : Nat) :
    exec (.popUnstageDone pop) s = .next (s.unstageDone pop).settle :=
  congrArg Host.Outcome.next (State.live_of_ready h fun s => s.unstageDone pop)

theorem exec_stepRow {s : State} (h : s.ready = true) (pop : Nat) :
    exec (.stepRow pop) s = .next (s.stepRow pop).settle :=
  congrArg Host.Outcome.next (State.live_of_ready h fun s => s.stepRow pop)

theorem exec_stepComplete {s : State} (h : s.ready = true) (pop : Nat) :
    exec (.stepComplete pop) s = .next (s.stepComplete pop).settle :=
  congrArg Host.Outcome.next (State.live_of_ready h fun s => s.stepComplete pop)

/-- Settles O37: each clause is the branch of its function that the lemmas above name. -/
theorem stepRows : Obligations.StepRows := by
  intro pop p s hready hp
  refine ⟨fun g hg hcut hrun hbusy => ?_, fun g hg hcut hrun hbusy => ?_, fun g hg hcut hrun hfree => ?_,
    fun g hg hcut hrun hfree => ?_, fun r q hr hmore hopen hcut hrun hroom hrange hplace => ⟨fun hstaged hask => ?_,
    fun hstaged hheld => ?_⟩, fun r hr hdone hleft hflight hopen => ?_, fun r hpop hended => ⟨fun hheld => ?_,
    fun hheld => ?_⟩⟩
  · rw [exec_popStageDone hready, State.stageDone_waits hp hg hcut hrun hbusy]
  · rw [exec_popUnstageDone hready, State.unstageDone_waits hp hg hcut hrun hbusy]
  · rw [exec_popStageDone hready, State.stageDone_copies hp hg hcut hrun hfree]
  · rw [exec_popUnstageDone hready, State.unstageDone_copies hp hg hcut hrun hfree]
  · rw [exec_stepRow hready, State.stepRow_asks hp hr hmore hopen hcut hrun hroom hrange hplace hstaged hask]
    rfl
  · rw [exec_stepRow hready, State.stepRow_works hp hr hmore hopen hcut hrun hroom hrange hplace hstaged hheld]
    rfl
  · rw [exec_stepComplete hready, State.stepComplete_ends hp hr hdone hleft hflight hopen]
    rfl
  · subst hpop
    exact State.finalStep_waits hp hheld
  · subst hpop
    exact State.finalStep_finishes hp hended hheld

end Sys2Proof.Machine
end

section
/-!
PROOFS. The incoming side of the links (R40, R124, R297 to R308): what comes at a port of the running block acts at once
where its converter holds nothing (`linkRow_idle`), and each clause is the branch of the function of its row.
-/

namespace Sys2Proof.Machine

section
variable {s : State} {n : Nat}

/-! ### At a port (R40, R373) -/

theorem State.linkRow_ready (x : LinkIn) (hn : n < 8) (hopen : s.portOpen (56 + n) = true) (hready : s.ready = true) :
    s.linkRow n x = ((s.wakeBlock.linkResume).linkIn n x).settle := by
  simp only [State.linkRow, hn, hopen, hready, and_self, not_true_eq_false, if_false, if_true]

theorem State.linkRow_held {x : LinkIn} (hn : n < 8) (hopen : s.portOpen (56 + n) = true) (hstands : s.ready = false)
    (hroom : s.linkRoom n x = true) :
    s.linkRow n x = (s.onLinks fun l => { l with waiting := l.waiting ++ [(n, x)] }).wakeBlock := by
  simp only [State.linkRow, hn, hopen, hstands, hroom, and_self, not_true_eq_false, Bool.false_eq_true, if_false,
    if_true]

theorem State.linkResume_nil (h : s.links.waiting = []) : s.linkResume = s := if_pos h

/-- The block runs and its converters hold nothing: what comes acts on the state as it is. -/
theorem State.linkRow_idle (x : LinkIn) (hn : n < 8) (hopen : s.portOpen (56 + n) = true) (hready : s.ready = true)
    (hrunning : s.running) (hwaiting : s.links.waiting = []) : s.linkRow n x = (s.linkIn n x).settle := by
  rw [State.linkRow_ready x hn hopen hready, wakeBlock_running hrunning, State.linkResume_nil hwaiting]

theorem State.portOpen_of_live {p : Nat} (h : s.portLive p = true) : s.portOpen p = true := by
  simp only [State.portLive, State.ready, Bool.and_eq_true] at h
  obtain ⟨⟨⟨hdone, -⟩, hpresent⟩, hclock⟩ := h
  simp only [State.portOpen, hdone, hpresent, hclock, Bool.and_self]

theorem State.portPresent_of_live {p : Nat} (h : s.portLive p = true) : s.portPresent p = true := by
  simp only [State.portLive, Bool.and_eq_true] at h
  obtain ⟨⟨-, hpresent⟩, -⟩ := h
  exact hpresent

theorem State.portOpen_of_takesRequest {p : Nat} (h : s.takesRequest p = true) : s.portOpen p = true := by
  simp only [State.takesRequest, Bool.and_eq_true] at h
  obtain ⟨⟨⟨hopen, -⟩, -⟩, -⟩ := h
  exact hopen

end

/-! ### Responses (R297) -/

section
variable {s : State} {n : Nat} {r : LinkRsp} (hn : n < 8) (hready : s.ready = true)
  (hlive : s.portLive (56 + n) = true)
include hn hready hlive

theorem State.linkResponse_badParity (hbad : r.parityOk = false) :
    s.linkResponse n r = s.report { code := 0x05, port := 56 + n } := by
  simp [State.linkResponse, hn, hready, State.portPresent_of_live hlive, hbad]

theorem State.linkResponse_answers {o : OutReq} {i : Nat} {d : DestEntry} (hgood : r.parityOk = true)
    (hset : s.links.chip ≠ 0xFFF) (hchip : bitsOf r.lh.toNat 12 12 = s.links.chip) (hepoch : s.epochOk r.lh = true)
    (hflight : (s.inFlight (bitsOf r.lh.toNat 0 12)).find?
      (fun o => o.seq == some (BitVec.ofNat 16 (bitsOf r.lh.toNat 32 16))) = some o)
    (hdest : s.dest? (bitsOf r.lh.toNat 0 12) = some (i, d)) (hlast : r.last = true) :
    s.linkResponse n r =
      (let w := d.onResponse (BitVec.ofNat 16 (bitsOf r.lh.toNat 32 16)) (bitOf r.lh.toNat 27)
       let t := s.onDest (bitsOf r.lh.toNat 0 12) fun _ => w.1
       (if w.2 then t.linkEvent 6 (bitsOf r.lh.toNat 0 12) n else t).answered o r) := by
  simp only [State.linkResponse, hn, hready, State.portPresent_of_live hlive, hgood, hset, hchip, hepoch, hflight,
    hdest, hlast, and_self, not_true_eq_false, ne_eq, or_self, true_and, Bool.not_true, Bool.false_eq_true, if_false, if_true]

end

/-! ### Requests (R299 to R301) -/

section
variable {s : State} {n : Nat} {r : LinkReq} (hn : n < 8) (hready : s.ready = true)
  (htakes : s.takesRequest (56 + n) = true) (hroom : (s.port (56 + n)).wd.length + r.beats.length ≤ wdSize (56 + n))
  (hgood : r.req.good = true) (hheader : r.headerGood = true)
include hn hready htakes hroom hgood hheader

theorem State.linkInbound_misrouted (hchip : bitsOf r.lh.toNat 12 12 ≠ s.links.chip) :
    s.linkInbound n r = s.misroute n (bitsOf r.lh.toNat 0 12) := by
  simp [State.linkInbound, hn, hready, htakes, hroom, hgood, hheader, hchip]

theorem State.linkInbound_inWindow {i : Nat} {t : State} {e : SrcEntry} (hset : s.links.chip ≠ 0xFFF)
    (hchip : bitsOf r.lh.toNat 12 12 = s.links.chip) (hother : bitsOf r.lh.toNat 0 12 ≠ s.links.chip)
    (hepoch : s.epochOk r.lh = true)
    (hsource : s.sourceFor (bitsOf r.lh.toNat 0 12) (bitsOf r.lh.toNat 58 4)
      (BitVec.ofNat 16 (bitsOf r.lh.toNat 32 16) - BitVec.ofNat 16 (bitsOf r.lh.toNat 48 10)) = some (i, t))
    (hentry : t.links.srcs.find? i = some e)
    (hwindow : (BitVec.ofNat 16 (bitsOf r.lh.toNat 32 16) - e.base).toNat < 1024) :
    s.linkInbound n r =
      (let f := BitVec.ofNat 16 (bitsOf r.lh.toNat 32 16) - BitVec.ofNat 16 (bitsOf r.lh.toNat 48 10)
       let tag : LinkTag :=
         { src := i, chip := bitsOf r.lh.toNat 0 12, incarn := bitsOf r.lh.toNat 58 4
           seq := BitVec.ofNat 16 (bitsOf r.lh.toNat 32 16), span := bitsOf r.lh.toNat 48 10
           ce := bitOf r.lh.toNat 26, tclass := bitOf r.lh.toNat 24, folds := r.folds }
       let u := t.onLinks fun l => { l with srcs := l.srcs.set i { e with last := t.ns } }
       let e2 := ({ e with last := t.ns } : SrcEntry).advance f
       (u.onLinks fun l => { l with srcs := l.srcs.set i e2 }).inWindow n r tag e2) := by
  have hin : ¬ 1024 ≤ (BitVec.ofNat 16 (bitsOf r.lh.toNat 32 16) - e.base).toNat := Nat.not_le.2 hwindow
  simp only [State.linkInbound, hn, hready, htakes, hroom, hgood, hheader, hset, hchip, hother, hepoch, hsource, hentry,
    hin, and_self, not_true_eq_false, ne_eq, or_self, Bool.not_true, Bool.false_eq_true, if_false]

end

/-! ### Held operations and source entries (R300, R304, R308) -/

section
variable {s : State}

theorem State.releaseHeldOp_releases {order : Nat} {h : HeldOp}
    (hheld : s.links.held.find? (fun h => h.order == order) = some h) (hready : s.ready = true)
    (hrelease : s.releasable h = true)
    (hahead : (s.links.held.any fun k => k.link.src == h.link.src && k.link.seq != h.link.seq &&
      decide ((h.link.seq - k.link.seq).toNat < 0x8000) && s.releasable k) = false)
    (hroom : (s.folds.queues.get [] h.op.cluster).length < 64) :
    s.releaseHeldOp order =
      (s.onLinks fun l => { l with held := l.held.filter (fun k => k.order != order) }).foldPush h.op := by
  simp only [State.releaseHeldOp, hheld, hready, hrelease, hahead, hroom, Bool.false_eq_true, not_false_eq_true,
    and_self, if_true]

theorem State.heldStale_discards {order : Nat} {h : HeldOp}
    (hheld : s.links.held.find? (fun h => h.order == order) = some h) (hwaits : s.releasable h = false)
    (hlate : h.arrived + 100000000 ≤ s.ns) :
    s.heldStale order =
      ((s.discardHeld (fun k => k.order == order) fun s k =>
          (s.stale k.port).onSeq k.link fun r => { r with done := some .remoteLost }).linkEvent 5
        h.link.chip h.port).abandonPeer h.link.chip := by
  simp only [State.heldStale, hheld, hwaits, hlate, Bool.false_eq_true, not_false_eq_true, and_self, if_true]

theorem State.reclaim_erases {i : Nat} {e : SrcEntry} (hentry : s.links.srcs.find? i = some e)
    (hlate : e.last + 100000000 ≤ s.ns) (hdone : e.recs.all (fun r => r.2.done.isSome) = true) :
    s.reclaim i = s.onLinks fun l => { l with srcs := l.srcs.erase i } := by
  simp only [State.reclaim, hentry, hlate, hdone, and_self, if_true]

end

/-! ### The rows of the table -/

theorem exec_linkResponse (n : Nat) (r : LinkRsp) (s : State) :
    exec (.linkResponse n r) s = .next (s.linkRow n (.response r)) := rfl

theorem exec_linkInboundRequest (n : Nat) (r : LinkReq) (s : State) :
    exec (.linkInboundRequest n r) s = .next (s.linkRow n (.request r)) := rfl

theorem exec_pendingSignalRelease {s : State} (h : s.ready = true) (order : Nat) :
    exec (.pendingSignalRelease order) s = .next (s.releaseHeldOp order).settle :=
  congrArg Host.Outcome.next (State.live_of_ready h fun s => s.releaseHeldOp order)

theorem exec_heldOpStale {s : State} (h : s.ready = true) (order : Nat) :
    exec (.heldOpStale order) s = .next (s.heldStale order).settle :=
  congrArg Host.Outcome.next (State.live_of_ready h fun s => s.heldStale order)

theorem exec_sourceEntryReclaim {s : State} (h : s.ready = true) (i : Nat) :
    exec (.sourceEntryReclaim i) s = .next (s.reclaim i).settle :=
  congrArg Host.Outcome.next (State.live_of_ready h fun s => s.reclaim i)

/-- Settles O42: at an idle port what comes acts at once (`State.linkRow_idle`); the rest are the branches of each row's
function. -/
theorem linkInRows : Obligations.LinkInRows := by
  refine ⟨fun n s hn hopen => ⟨fun hready => ⟨fun r => ?_, fun r => ?_⟩, fun hstands => ⟨fun r => ?_,
    fun r htakes hfifo hwd => ?_⟩⟩, fun s hready hrun hattempt hwaiting => ⟨?_, ?_, ?_, ?_, ?_, ?_, ?_⟩⟩
  · rw [exec_linkResponse, State.linkRow_ready _ hn hopen hready]
    rfl
  · rw [exec_linkInboundRequest, State.linkRow_ready _ hn hopen hready]
    rfl
  · have hroom : s.linkRoom n (.response r) = true := hopen
    rw [exec_linkResponse, State.linkRow_held hn hopen hstands hroom]
  · have hroom : s.linkRoom n (.request r) = true := by
      simp only [State.linkRoom, htakes, hfifo, hwd, decide_true, Bool.and_self]
    rw [exec_linkInboundRequest, State.linkRow_held hn hopen hstands hroom]
  · intro n r o i d hn hlive hgood hset hchip hepoch hflight hdest hlast
    rw [exec_linkResponse,
      State.linkRow_idle _ hn (State.portOpen_of_live hlive) hready ⟨hrun, hattempt⟩ hwaiting, State.linkIn,
      State.linkResponse_answers hn hready hlive hgood hset hchip hepoch hflight hdest hlast]
  · intro n r hn hlive hbad
    rw [exec_linkResponse,
      State.linkRow_idle _ hn (State.portOpen_of_live hlive) hready ⟨hrun, hattempt⟩ hwaiting, State.linkIn,
      State.linkResponse_badParity hn hready hlive hbad]
    rfl
  · intro n r i t e hn htakes hwd hgood hheader hset hchip hother hepoch hsource hentry hwindow
    rw [exec_linkInboundRequest,
      State.linkRow_idle _ hn (State.portOpen_of_takesRequest htakes) hready ⟨hrun, hattempt⟩ hwaiting, State.linkIn,
      State.linkInbound_inWindow hn hready htakes hwd hgood hheader hset hchip hother hepoch hsource hentry hwindow]
  · intro n r hn htakes hwd hgood hheader hchip
    rw [exec_linkInboundRequest,
      State.linkRow_idle _ hn (State.portOpen_of_takesRequest htakes) hready ⟨hrun, hattempt⟩ hwaiting, State.linkIn,
      State.linkInbound_misrouted hn hready htakes hwd hgood hheader hchip]
  · intro order h hheld hrelease hahead hroom
    rw [exec_pendingSignalRelease hready, State.releaseHeldOp_releases hheld hready hrelease hahead hroom]
  · intro order h hheld hwaits hlate
    rw [exec_heldOpStale hready, State.heldStale_discards hheld hwaits hlate]
  · intro i e hentry hlate hdone
    rw [exec_sourceEntryReclaim hready, State.reclaim_erases hentry hlate hdone]

end Sys2Proof.Machine
end

section
/-!
PROOFS. Cluster STOP and block STOP, the rails and the clock (R364 to R377): for each row, and for the edges at which an
attempt, an entry and an exit go on, the lemma that says which branch of its function the premises name.
-/

namespace Sys2Proof.Machine

/-! ### One cluster's power state -/

theorem State.onCpower_congr {s : State} {k : Nat} {f g : ClusterPower → ClusterPower}
    (h : f (s.cpower k) = g (s.cpower k)) : s.onCpower k f = s.onCpower k g := by
  simp only [State.onCpower, h]

theorem State.onCpower_same (s : State) (k : Nat) (f : ClusterPower → ClusterPower) :
    (s.onCpower k f).cpower k = f (s.cpower k) := by
  rw [State.cpower_onCpower_eq, if_pos rfl]

section
variable {s : State} {k : Nat}

/-! ### The attempt and its refusal (R365, R370) -/

section
variable (hready : s.ready = true) (hk : s.hasCluster k = true) (hmode : (s.cpower k).mode = .run)
  (hnone : (s.cpower k).attempt = none) (hidle : s.clusterIdle k = true)
  (hasked : ((s.cpower k).ticks ≠ 0 ∧ (s.cpower k).ticks ≤ (s.cpower k).count) ∨ (s.cpower k).stopReq = true)
include hready hk hmode hnone hidle hasked

theorem State.idleExpire_tries :
    s.idleExpire k =
      if (s.refusers k).any id then s.refuseEntry k (s.refusers k)
      else s.onCpower k fun p =>
        { p with attempt := some s.clock.xck, count := 0
                 refusals := { p.refusals with attempts := p.refusals.attempts + 1 } } := by
  simp only [State.idleExpire, hready, hk, hmode, hnone, hidle, hasked, and_self, if_true]

end

/-- A refusal at the expiry of the timer is counted (R370). -/
theorem State.refuseEntry_of_timer (bs : List Bool) (hreq : (s.cpower k).stopReq = false) :
    s.refuseEntry k bs = s.onCpower k fun p =>
      { p with count := 0
               refusals := { p.refusals with mask := refuserMask bs, attempts := p.refusals.attempts + 1 }.add bs } :=
  State.onCpower_congr (by simp [hreq])

/-- Within 4096 XCK of the one counted last, a refused request is not counted again (R370). -/
theorem State.refuseEntry_of_request (bs : List Bool) {t : Nat} (hreq : (s.cpower k).stopReq = true)
    (hat : (s.cpower k).refusedAt = some t) (hsoon : s.clock.xck < t + 4096) :
    s.refuseEntry k bs = s.onCpower k fun p =>
      { p with count := 0
               refusals := { p.refusals with mask := refuserMask bs, attempts := p.refusals.attempts + 1 } } :=
  State.onCpower_congr (by simp [hreq, hat, Nat.not_le.2 hsoon])

/-! ### The XCK of an entry (R366) -/

theorem State.entryXck_begins {t : Nat} (h : (s.cpower k).attempt = some t) :
    s.entryXck k = s.onCpower k fun p =>
      { p with mode := .entering, attempt := none, entryAt := t, offAt := s.clock.xck } := by
  simp only [State.entryXck, h]

theorem State.entryXck_stops (hmode : (s.cpower k).mode = .entering) (hnone : (s.cpower k).attempt = none)
    (hacked : (s.cpower k).acked = true) (hwake : (s.cpower k).wake = none) : s.entryXck k = s.stopCluster k := by
  simp [State.entryXck, hmode, hnone, hacked, hwake]

theorem State.entryXck_turns {cause t : Nat} (hmode : (s.cpower k).mode = .entering)
    (hnone : (s.cpower k).attempt = none) (hacked : (s.cpower k).acked = true)
    (hwake : (s.cpower k).wake = some (cause, t)) :
    s.entryXck k = s.onCpower k fun p =>
      { p with mode := .exiting, since := s.clock.elapsed, wake := none, acked := false, lastWake := cause
               stopReq := false, aborts := { p.aborts with a3 := satAdd 0xFF p.aborts.a3 1 } } := by
  have hturn : s.entryXck k = s.onCpower k fun p => p.abandonA3 s.clock.elapsed := by
    simp [State.entryXck, hmode, hnone, hacked, hwake]
  rw [hturn]
  exact State.onCpower_congr (by simp [ClusterPower.abandonA3, hwake])

/-! ### Wakes (R367 to R369) -/

/-- A wake up to A1 abandons the attempt or the entry that has just begun. -/
theorem ClusterPower.indicate_upToA1 {p : ClusterPower} {t : Nat} (cause : Nat)
    (h : (p.mode = .run ∧ p.attempt.isSome = true) ∨ (p.mode = .entering ∧ t ≤ p.entryAt + 1)) :
    p.indicate t cause = p.abandonA1 cause := by
  rcases h with ⟨hmode, hattempt⟩ | ⟨hmode, hearly⟩
  · simp [ClusterPower.indicate, hmode, hattempt]
  · simp [ClusterPower.indicate, hmode, hearly]

theorem State.clusterWake_abandons {cause t : Nat} (hclock : s.clock.running = true)
    (hmode : (s.cpower k).mode = .entering) (hwake : (s.cpower k).wake = some (cause, t))
    (hearly : t ≤ (s.cpower k).entryAt + 4) (hlate : (s.cpower k).entryAt + 4 ≤ s.clock.xck) :
    s.clusterWake k = (s.onCpower k fun p =>
      { p with lastWake := cause, stopReq := false
               aborts := { p.aborts with a2 := satAdd 0xFF p.aborts.a2 1 } }).backToRun k := by
  simp only [State.clusterWake, hwake, hclock, hmode, hearly, hlate, Bool.not_true, Bool.false_eq_true, and_self,
    if_false, if_true]

theorem State.clusterWake_exits {cause t : Nat} (hclock : s.clock.running = true)
    (hmode : (s.cpower k).mode = .stop) (hwake : (s.cpower k).wake = some (cause, t)) :
    s.clusterWake k = (s.leaveStop k).onCpower k fun p =>
      { p with mode := .exiting, since := s.clock.elapsed, wake := none, lastWake := cause, stopReq := false } := by
  simp only [State.clusterWake, hwake, hclock, hmode, Bool.not_true, Bool.false_eq_true, if_false]

/-! ### The switches and their limits (R366, R369, R377) -/

theorem State.switchAck_acks (hasked : s.switchesAsked k = true)
    (hsoon : s.clock.elapsed ≤ (s.cpower k).since + 240000) :
    s.switchAck k = (s.ackRun 6).onCpower k fun p => { p with acked := true } :=
  if_pos ⟨hasked, hsoon⟩

theorem State.exitComplete_runs (hclock : s.clock.running = true) (hk : s.hasCluster k = true)
    (hmode : (s.cpower k).mode = .exiting) : s.exitComplete k = (s.ackRun 7).backToRun k :=
  if_pos ⟨hclock, hk, hmode⟩

theorem State.pwrTimeout_switches (hasked : s.switchesAsked k = true)
    (hlate : (s.cpower k).since + 240000 ≤ s.clock.elapsed) :
    s.pwrTimeout 6 k = (s.powerTimeout 6 k).onCpower k fun p => p.abandonA3 s.clock.elapsed :=
  if_pos ⟨rfl, hasked, hlate⟩

theorem State.pwrTimeout_exit (hclock : s.clock.running = true) (hk : s.hasCluster k = true)
    (hmode : (s.cpower k).mode = .exiting) (hlate : (s.cpower k).since + 720000 ≤ s.clock.elapsed) :
    s.pwrTimeout 7 k = (s.powerTimeout 7 k).onCpower k fun p =>
      { p with mode := .stop, stopAt := s.clock.elapsed, stopNsAt := s.ns, since := s.clock.elapsed
               wake := some (p.lastWake, s.clock.xck) } := by
  have hlimit : (s.cpower k).since + 30 * usec ≤ s.clock.elapsed := hlate
  simp [State.pwrTimeout, hclock, hk, hmode, hlimit]

end

section
variable {s : State}

/-! ### Block STOP (R371 to R373) -/

theorem State.blockExpire_tries (hready : s.ready = true) (hblock : s.power.block = .run)
    (hwork : s.power.work = .none) (hnone : s.power.attempt = false) (htimer : s.power.ticks ≠ 0)
    (hcount : s.power.ticks ≤ s.power.count) (hmay : s.blockMayStop = true) (hany : s.blockRefusers.any id = false) :
    s.blockExpire = s.onPower fun p =>
      { p with attempt := true, count := 0
               refusals := { p.refusals with attempts := p.refusals.attempts + 1 } } := by
  simp [State.blockExpire, hready, hblock, hwork, hnone, htimer, hcount, hmay, hany]

theorem State.blockA1_abandons (hattempt : s.power.attempt = true) (hwake : s.power.wake = true) :
    s.blockA1 = s.onPower fun p =>
      { p with attempt := false, wake := false, aborts := { p.aborts with a1 := satAdd 0xFF p.aborts.a1 1 } } := by
  simp [State.blockA1, hattempt, hwake]

theorem State.blockA1_enters (hattempt : s.power.attempt = true) (hwake : s.power.wake = false) :
    s.blockA1 = s.enterBlock := by
  simp [State.blockA1, hattempt, hwake]

/-- A stopped block begins its exit with the array rail of its operating point (R373, R375). -/
theorem State.blockWake_exits (hwake : s.power.wake = true) (hblock : s.power.block = .stop) :
    s.blockWake = s.onPower fun p =>
      { p with block := .exiting, rckIdle := false, work := .exit, steps := [.arrRaise, .logRaise, .rckFack]
               since := s.clock.elapsed, wake := false, blkStopReq := false
               arrSet := (railsAt p.eco).2 } := by
  simp only [State.blockWake, hwake, hblock, Bool.not_true, Bool.false_eq_true, if_false, if_true]
  rfl

theorem State.blockWake_abandons (hwake : s.power.wake = true) (hblock : s.power.block = .entering)
    (hbefore : s.power.beforeA2 = true) (hclock : s.clock.running = false) :
    s.blockWake =
      (s.onPower fun p => { p with aborts := { p.aborts with a2 := satAdd 0xFF p.aborts.a2 1 } }).blockRuns := by
  simp [State.blockWake, hwake, hblock, hbefore, hclock]

/-! ### The rails (R375) -/

section
variable {x : PowerStep} {rest : List PowerStep} (hsteps : s.power.steps = x :: rest) (hrail : x.rail = true)
  (hwork : s.power.work ≠ .none) (hdue : s.power.stopDue = false) (hbefore : s.power.beforeA2 = false)
include hsteps hrail hwork hdue hbefore

theorem State.avsPoll_waits (crcOk taken : Bool) :
    s.avsPoll crcOk taken =
      if !crcOk then s.onPower fun p => { p with avsCrc := satAdd 0xFF p.avsCrc 1 }
      else if !taken then s.onPower fun p => { p with avsRefused := satAdd 0xFF p.avsRefused 1 }
      else s := by
  simp only [State.avsPoll, hsteps, hrail, hwork, hdue, hbefore, ne_eq, not_false_eq_true, Bool.false_eq_true, and_self,
    not_true_eq_false, if_false]

theorem State.avsAck_records (mv : BitVec 16) (hsoon : s.clock.elapsed ≤ s.power.since + 4800000) :
    s.avsAck mv =
      ((s.ackRun x.code).onPower fun p =>
        { p with logMv := if x.isLog then mv else p.logMv
                 arrMv := if x.isLog then p.arrMv else mv }).nextStepDone := by
  have hlimit : s.clock.elapsed ≤ s.power.since + 200 * usec := hsoon
  simp only [State.avsAck, hsteps, hrail, hwork, hdue, hbefore, hlimit, ne_eq, not_false_eq_true, Bool.false_eq_true,
    and_self, if_true]

end

/-! ### The clock (R376) -/

theorem State.rckFack_rises {rest : List PowerStep} (hwork : s.power.work = .exit)
    (hsteps : s.power.steps = .rckFack :: rest) :
    s.rckFack true = { s with pins := { s.pins with rckFack := true } } := by
  simp only [State.rckFack, hwork, hsteps, if_true]

theorem State.exitEdge_counts {rest : List PowerStep} (hwork : s.power.work = .exit)
    (hsteps : s.power.steps = .rckFack :: rest) (hfack : s.pins.rckFack = true) (hlost : s.safety.rckLost = false) :
    s.exitEdge =
      if s.power.fackEdges < 3 then s.onPower fun p => { p with fackEdges := p.fackEdges + 1 }
      else (s.ackRun 5).blockRuns := by
  simp only [State.exitEdge, hwork, hsteps, hfack, hlost, Bool.not_true, Bool.or_self, Bool.false_eq_true, if_false]

theorem State.rckFack_ends {rest : List PowerStep} (hwork : s.power.work = .opPoint)
    (hsteps : s.power.steps = .rckFack :: rest) (hlow : s.power.fackLow = true) (hclock : s.clock.running = false) :
    s.rckFack true =
      (({ s with pins := { s.pins with rckFack := true } } : State).ackRun 5).endFrequency.nextStepDone := by
  simp only [State.rckFack, hwork, hsteps, hlow, hclock, Bool.false_eq_true, not_false_eq_true, and_self, if_true]

end

/-! ### The rows of the table -/

theorem exec_clusterIdleExpire (k : Nat) (s : State) :
    exec (.clusterIdleExpire k) s = .next (s.idleExpire k).goOn := rfl

theorem exec_retentionSwitchAck (k : Nat) (s : State) :
    exec (.retentionSwitchAck k) s = .next (s.switchAck k).goOn := rfl

theorem exec_clusterWake (k : Nat) (s : State) : exec (.clusterWake k) s = .next (s.clusterWake k).goOn := rfl

theorem exec_clusterExitComplete (k : Nat) (s : State) :
    exec (.clusterExitComplete k) s = .next (s.exitComplete k).goOn := rfl

theorem exec_pwrTimeout (step k : Nat) (s : State) :
    exec (.pwrTimeout step k) s = .next (s.pwrTimeout step k).goOn := rfl

theorem exec_blockIdleExpire (s : State) : exec .blockIdleExpire s = .next s.blockExpire.goOn := rfl

theorem exec_blockWake (s : State) : exec .blockWake s = .next s.blockWake.goOn := rfl

theorem exec_avsStatusPoll (crcOk taken : Bool) (s : State) :
    exec (.avsStatusPoll crcOk taken) s = .next (s.avsPoll crcOk taken).goOn := rfl

theorem exec_avsVoltageAck (mv : BitVec 16) (s : State) : exec (.avsVoltageAck mv) s = .next (s.avsAck mv).goOn := rfl

theorem exec_rckFackChange (level : Bool) (s : State) :
    exec (.rckFackChange level) s = .next (s.rckFack level).goOn := rfl

/-- Settles O48: each clause is the branch of its function that the lemmas above name. -/
theorem powerRows : Obligations.PowerRows := by
  refine ⟨fun k s hready hk => ?_, fun s => ?_⟩
  · have hclock := clock_of_ready hready
    refine ⟨fun hmode hnone hidle hasked => ⟨fun hany => ?_, fun hany hreq => ?_, fun t hany hreq hat hsoon => ?_⟩,
      fun t hattempt => State.entryXck_begins hattempt, fun cause hearly => ?_,
      fun cause t hmode hwake hearly hlate => ?_, fun hasked hsoon => ?_,
      fun hmode hnone hacked => ⟨fun hwake => State.entryXck_stops hmode hnone hacked hwake,
        fun cause t hwake => State.entryXck_turns hmode hnone hacked hwake⟩,
      fun cause t hmode hwake => ?_, fun hmode => ?_, fun hasked hlate => ?_, fun hmode hlate => ?_⟩
    · rw [exec_clusterIdleExpire, State.idleExpire_tries hready hk hmode hnone hidle hasked, if_neg (by simp [hany])]
    · rw [exec_clusterIdleExpire, State.idleExpire_tries hready hk hmode hnone hidle hasked, if_pos hany,
        State.refuseEntry_of_timer _ hreq]
    · rw [exec_clusterIdleExpire, State.idleExpire_tries hready hk hmode hnone hidle hasked, if_pos hany,
        State.refuseEntry_of_request _ hreq hat hsoon]
    · rw [State.indicate, State.onCpower_same, ClusterPower.indicate_upToA1 cause hearly]
      rfl
    · rw [exec_clusterWake, State.clusterWake_abandons hclock hmode hwake hearly hlate]
    · rw [exec_retentionSwitchAck, State.switchAck_acks hasked hsoon]
    · rw [exec_clusterWake, State.clusterWake_exits hclock hmode hwake]
    · rw [exec_clusterExitComplete, State.exitComplete_runs hclock hk hmode]
    · rw [exec_pwrTimeout, State.pwrTimeout_switches hasked hlate]
    · rw [exec_pwrTimeout, State.pwrTimeout_exit hclock hk hmode hlate]
  · refine ⟨fun hready hblock hwork hnone htimer hcount hmay hany => ?_,
      fun hattempt => ⟨State.blockA1_abandons hattempt, State.blockA1_enters hattempt⟩,
      fun hwake hblock => ?_, fun hwake hblock hbefore hclock => ?_,
      fun x rest hsteps hrail hwork hdue hbefore => ⟨?_, fun taken => ?_, ?_, fun mv hsoon => ?_⟩,
      fun rest hwork hsteps => ⟨?_, fun hfack hlost => ⟨fun hfew => ?_, fun hfour => ?_⟩⟩,
      fun rest hwork hsteps hlow hclock => ?_⟩
    · rw [exec_blockIdleExpire, State.blockExpire_tries hready hblock hwork hnone htimer hcount hmay hany]
    · rw [exec_blockWake, State.blockWake_exits hwake hblock]
    · rw [exec_blockWake, State.blockWake_abandons hwake hblock hbefore hclock]
    · rw [exec_avsStatusPoll, State.avsPoll_waits hsteps hrail hwork hdue hbefore]
      rfl
    · rw [exec_avsStatusPoll, State.avsPoll_waits hsteps hrail hwork hdue hbefore]
      rfl
    · rw [exec_avsStatusPoll, State.avsPoll_waits hsteps hrail hwork hdue hbefore]
      rfl
    · rw [exec_avsVoltageAck, State.avsAck_records hsteps hrail hwork hdue hbefore mv hsoon]
    · rw [exec_rckFackChange, State.rckFack_rises hwork hsteps]
    · rw [State.exitEdge_counts hwork hsteps hfack hlost, if_pos hfew]
    · rw [State.exitEdge_counts hwork hsteps hfack hlost, if_neg (by omega)]
    · rw [exec_rckFackChange, State.rckFack_ends hwork hsteps hlow hclock]

end Sys2Proof.Machine
end

section
/-!
PROOFS. Start-up and the boundary (R38, R346, R360, R455 to R458): each clause is the branch of the function of its row,
and the outputs of a block in reset are constants (R458).
-/

namespace Sys2Proof.Machine

/-! ### PWR_OK and hardware ready -/

theorem rckCountOk_of_bounds {count : Nat} (hlow : 498 ≤ count) (hhigh : count ≤ 502) : rckCountOk count = true := by
  simp only [rckCountOk, hlow, hhigh, decide_true, Bool.and_self]

theorem State.pwrOkRise_starts {s : State} (widths : List (Nat × Nat)) (repair : List Repair) (bad : BitVec 8)
    {count : Nat} (hdone : s.integ.postDone = false) (hclock : s.clock.running = false) (hpwr : s.pins.pwrOk = false)
    (hcount : rckCountOk count = true) :
    s.pwrOkRise widths repair bad count =
      ({ s with
          pins := { s.pins with pwrOk := true, widths := sampledStraps s.cfg widths }
          clock := { running := true }, powerUps := s.powerUps + 1, mem := [] } : State).loadRepairs
        (repair ++ s.tap.fuses) bad := by
  simp only [State.pwrOkRise, hdone, hclock, hpwr, hcount, Bool.false_eq_true, or_self, if_false, if_true]

theorem State.hardwareReady_opens {s : State} (post : Post) (hpwr : s.pins.pwrOk = true)
    (hclock : s.clock.running = true) (hdone : s.integ.postDone = false) :
    s.hardwareReady post =
      (let t := (s.consequences post).setRegionZero
       (((({ t with fresh := t.fresh + 1 } : State).onPower fun w =>
        { w with avsVersion := (Config.freeWord t.fresh).setWidth 8 }).onInteg fun n =>
          { n with postDone := true }).postFaults post).windowStart) := by
  simp only [State.hardwareReady, hpwr, hclock, hdone, Bool.not_true, Bool.or_self, Bool.false_eq_true, if_false]
  rfl

theorem State.pwrOkFall_resets {s : State} (hpwr : s.pins.pwrOk = true) : s.pwrOkFall = s.inReset := if_pos hpwr

/-! ### The outputs of a block in reset (R458) -/

theorem State.inReset_lines (s : State) :
    s.inReset.lines =
      { flashSclk := false, flashCsN := true, flashIo := none, avsClk := false, avsMdata := false, svcMiso := false
        monTx := true, tdo := false, tsyncOut := false, budgetHint := 0, safeN := false, faultN := false
        rckFsel := false, rckIdle := false, intHost := false, intAux := false, intSafe := false } := rfl

/-! ### A port group's clock (R38) -/

theorem State.groupClock_stops (s : State) {p : Nat} (hp : p < 64) :
    s.groupClock p false = { s with pins := { s.pins with
      clockStopped := (s.pins.clockStopped.set (p / 2 * 2) true).set (p / 2 * 2 + 1) true } } := by
  simp only [State.groupClock, Nat.not_le.2 hp, Bool.false_eq_true, false_and, if_false]

theorem State.groupClock_runs {s : State} {p : Nat} (hp : p < 64) (hready : s.ready = true) :
    s.groupClock p true = (({ s with pins := { s.pins with
      clockStopped := (s.pins.clockStopped.erase (p / 2 * 2)).erase (p / 2 * 2 + 1) } } : State).pump
        (p / 2 * 2)).pump (p / 2 * 2 + 1) := by
  have hready' : ({ s with pins := { s.pins with
      clockStopped := (s.pins.clockStopped.erase (p / 2 * 2)).erase (p / 2 * 2 + 1) } } : State).ready = true := hready
  simp only [State.groupClock, Nat.not_le.2 hp, hready', and_self, if_false, if_true]

/-! ### The test access port (R360) -/

theorem State.jtag_bypass {s : State} (hpwr : s.pins.pwrOk = true) (hallows : s.tapAllows .bypass = true) :
    s.jtag .bypass = { s with tap := { s.tap with ir := .bypass, dr := 0 } } := by
  simp only [State.jtag, hpwr, hallows, Bool.not_true, Bool.or_self, Bool.false_eq_true, if_false]

theorem State.jtag_idcode {s : State} (hpwr : s.pins.pwrOk = true) (hallows : s.tapAllows .idcode = true) :
    s.jtag .idcode = { s with tap := { s.tap with ir := .idcode, dr := BitVec.ofNat 1152 (s.readIdent 3) } } := by
  simp only [State.jtag, hpwr, hallows, Bool.not_true, Bool.or_self, Bool.false_eq_true, if_false]
  rfl

/-! ### The rows of the table -/

theorem exec_pwrOkRise (widths : List (Nat × Nat)) (repair : List Repair) (bad : BitVec 8) (count : Nat) (s : State) :
    exec (.pwrOkRise widths repair bad count) s = .next (s.pwrOkRise widths repair bad count) := rfl

theorem exec_hardwareReady (post : Post) (s : State) :
    exec (.hardwareReady post) s = .next (s.hardwareReady post) := rfl

theorem exec_pwrOkFall (s : State) : exec .pwrOkFall s = .next s.pwrOkFall := rfl

theorem exec_portGroupClockChange (p : Nat) (runs : Bool) (s : State) :
    exec (.portGroupClockChange p runs) s = .next (s.groupClock p runs).goOn := rfl

theorem exec_jtagInstruction (i : TapOp) (s : State) : exec (.jtagInstruction i) s = .next (s.jtag i) := rfl

/-- Settles O55: each clause is the branch of its function that the lemmas above name. -/
theorem boundaryRows : Obligations.BoundaryRows := by
  intro s
  refine ⟨fun widths repair bad count hdone hclock hpwr hlow hhigh => ?_, fun post hpwr hclock hdone => ?_,
    fun hpwr => ?_, s.inReset_lines, fun p hp => ?_, fun p hp hready => ?_, fun hpwr hallows => ?_,
    fun hpwr hallows => ?_⟩
  · rw [exec_pwrOkRise, State.pwrOkRise_starts widths repair bad hdone hclock hpwr (rckCountOk_of_bounds hlow hhigh)]
  · rw [exec_hardwareReady, State.hardwareReady_opens post hpwr hclock hdone]
  · rw [exec_pwrOkFall, State.pwrOkFall_resets hpwr]
  · rw [exec_portGroupClockChange, State.groupClock_stops s hp]
  · rw [exec_portGroupClockChange, State.groupClock_runs hp hready]
  · rw [exec_jtagInstruction, State.jtag_bypass hpwr hallows]
  · rw [exec_jtagInstruction, State.jtag_idcode hpwr hallows]

end Sys2Proof.Machine
end

section
/-!
PROOFS. The analogue check (R359), followed through its stages: what it notes, which sensors it marks, the maximum that
is taken again, and what it reports. Each stage leaves alone what the others and the commands go by.
-/

namespace Sys2Proof.Machine

/-! ### The stages -/

/-- What the check notes: its finding and its time, and a comparator that is out of use. -/
def State.noteAnalog (s : State) (f : AnalogFound) : State :=
  let s := s.onInteg fun n => { n with ana := f.word, anaAt := some s.worked }
  let s := if f.word = 0 then s else s.bistEvent 4 0 0
  s.onPower fun p => { p with ain := { p.ain with disabled := f.wakeAin } }

/-- The sensors `ks` as the check found them. -/
def State.markSensors (s : State) (f : AnalogFound) (ks : List Nat) : State :=
  ks.foldl (fun s k =>
    s.onGov fun g => { g with sensors := g.sensors.modify {} k (·.mark (bitOf f.sensors.toNat k)) }) s

/-- A unit that the check found bad is reported. -/
def State.reportUnit (s : State) (code : Nat) (bad : Bool) : State := if bad then s.report { code := code } else s

/-- The reports of the check. -/
def State.reportUnits (s : State) (f : AnalogFound) : State :=
  let s := s.reportUnit 0x45 f.wakeAin
  let s := (List.range 9).foldl (fun s k => s.reportUnit 0x45 (bitOf f.sensors.toNat k)) s
  ((s.reportUnit 0x42 f.vmonLog).reportUnit 0x42 f.vmonArr).reportUnit 0x45 f.avsRx

/-- The sensors that have failed, replaced in the maximum that is taken again. -/
def State.measure (s : State) : State := s.replaceFailed.setTmax s.replaceFailed.tmaxNow

theorem State.analogCheck_eq {s : State} {f : AnalogFound} (hready : s.ready = true) (hfw : s.fw.state = .running)
    (hblock : s.power.block = .run) (hdue : s.analogDue = true) (htrip : f.trip = false) :
    s.analogCheck f = (((s.noteAnalog f).markSensors f (List.range 9)).measure).reportUnits f := by
  have hgo : ¬ (¬ s.ready = true ∨ s.fw.state ≠ .running ∨ s.power.block ≠ .run ∨ ¬ s.analogDue = true) := by
    simp [hready, hfw, hblock, hdue]
  unfold State.analogCheck
  rw [if_neg hgo]
  dsimp only
  rw [if_neg (by simp [htrip])]
  rfl

/-! ### What the stages leave alone -/

/-- The units in which a command or an event could wait. -/
def State.shell (s : State) : CmdIf × EventUnit × Xbar := (s.cmd, s.eng, s.xbar)

theorem still_of_shell {s t : State} (h : t.shell = s.shell) (hs : s.still) : t.still := by
  obtain ⟨hcmd, heng, hxbar⟩ : t.cmd = s.cmd ∧ t.eng = s.eng ∧ t.xbar = s.xbar := by
    simpa only [State.shell, Prod.mk.injEq] using h
  simpa only [State.still, State.eventsStill, State.port, hcmd, heng, hxbar] using hs

theorem State.noteAnalog_shell (s : State) (f : AnalogFound) : (s.noteAnalog f).shell = s.shell := by
  unfold State.noteAnalog
  dsimp only
  split <;> rfl

theorem State.noteAnalog_ana (s : State) (f : AnalogFound) : (s.noteAnalog f).integ.ana = f.word := by
  unfold State.noteAnalog
  dsimp only
  split <;> rfl

theorem State.noteAnalog_disabled (s : State) (f : AnalogFound) : (s.noteAnalog f).power.ain.disabled = f.wakeAin := rfl

theorem State.noteAnalog_safety (s : State) (f : AnalogFound) : (s.noteAnalog f).safety = s.safety := by
  unfold State.noteAnalog
  dsimp only
  split <;> rfl

/-- What neither the sensors nor the reports of the check touch. -/
def State.unmeasured (s : State) : (CmdIf × EventUnit × Xbar) × Integ × Power := (s.shell, s.integ, s.power)

theorem unmeasured_eq_iff {s t : State} :
    t.unmeasured = s.unmeasured ↔ t.shell = s.shell ∧ t.integ = s.integ ∧ t.power = s.power := by
  simp only [State.unmeasured, Prod.mk.injEq]

/-- Sensors are marked in the governor alone. -/
theorem State.markSensors_keeps {β : Type} (field : State → β) (h : ∀ s g, field (State.onGov s g) = field s)
    (s : State) (f : AnalogFound) (ks : List Nat) : field (s.markSensors f ks) = field s := by
  unfold State.markSensors
  exact foldl_keeps field _ (fun s k => h s _) _ s

theorem State.replaceFailed_keeps {β : Type} (field : State → β) (h : ∀ s g, field (State.onGov s g) = field s)
    (s : State) : field s.replaceFailed = field s := by
  unfold State.replaceFailed
  dsimp only
  rw [foldl_keeps field _ (fun s k => h s _)]
  split
  · rfl
  · exact h s _

theorem State.onGov_unmeasured (s : State) (f : Gov → Gov) : (s.onGov f).unmeasured = s.unmeasured := rfl

theorem State.setTmax_unmeasured (s : State) (t : Nat) : (s.setTmax t).unmeasured = s.unmeasured := by
  unfold State.setTmax
  dsimp only
  repeat' split
  all_goals rfl

theorem State.reportUnit_unmeasured (s : State) (code : Nat) (bad : Bool) :
    (s.reportUnit code bad).unmeasured = s.unmeasured := by
  unfold State.reportUnit
  split <;> rfl

theorem State.reportUnits_unmeasured (s : State) (f : AnalogFound) : (s.reportUnits f).unmeasured = s.unmeasured := by
  have hsensors (u : State) := foldl_keeps State.unmeasured (fun s k => s.reportUnit 0x45 (bitOf f.sensors.toNat k))
    (fun s k => State.reportUnit_unmeasured s _ _) (List.range 9) u
  simp only [State.reportUnits, State.reportUnit_unmeasured, hsensors]

/-! ### The sensors after the check -/

theorem Sensor.mark_failed (x : Sensor) (bad : Bool) : (x.mark bad).failed = bad := by
  cases bad <;> rfl

theorem State.sensor_setSensor (s : State) (k j : Nat) (x : Sensor) :
    (s.onGov fun g => { g with sensors := g.sensors.set k x }).sensor j = if j = k then x else s.sensor j :=
  Tbl.get_set s.gov.sensors {} k j x

theorem State.sensor_modifySensor (s : State) (k j : Nat) (m : Sensor → Sensor) :
    (s.onGov fun g => { g with sensors := g.sensors.modify {} k m }).sensor j =
      if j = k then m (s.sensor k) else s.sensor j :=
  Tbl.get_set s.gov.sensors {} k j _

theorem State.markSensors_failed (f : AnalogFound) (j : Nat) (ks : List Nat) (s : State) :
    ((s.markSensors f ks).sensor j).failed =
      if j ∈ ks then bitOf f.sensors.toNat j else (s.sensor j).failed := by
  induction ks generalizing s with
  | nil => rfl
  | cons k ks ih =>
    have hfirst : ((s.onGov fun g => { g with
        sensors := g.sensors.modify {} k (·.mark (bitOf f.sensors.toNat k)) }).sensor j).failed =
        if j = k then bitOf f.sensors.toNat j else (s.sensor j).failed := by
      rw [State.sensor_modifySensor]
      split
      · next heq => rw [heq, Sensor.mark_failed]
      · rfl
    calc ((s.markSensors f (k :: ks)).sensor j).failed
        = if j ∈ ks then bitOf f.sensors.toNat j
          else if j = k then bitOf f.sensors.toNat j else (s.sensor j).failed := (ih _).trans (by rw [hfirst])
      _ = _ := by by_cases hk : j = k <;> simp [hk]

/-- The sensors `ks` replaced by what stands for a failed one (R173). -/
def State.replaceSensors (s : State) (ks : List Nat) : State :=
  ks.foldl (fun s k => s.onGov fun g => { g with
    sensors := g.sensors.set k { deg := s.reading k, failed := true } }) s

theorem State.replaceFailed_eq (s : State) :
    s.replaceFailed =
      (if (s.sensorsOf.filter fun k => (s.sensor k).failed).isEmpty then s else s.govFlag 10).replaceSensors
        (s.sensorsOf.filter fun k => (s.sensor k).failed) := rfl

/-- A sensor that is replaced has failed before, and counts as failed still. -/
theorem State.replaceSensors_failed (j : Nat) (ks : List Nat) (s : State) (h : ∀ k ∈ ks, (s.sensor k).failed = true) :
    ((s.replaceSensors ks).sensor j).failed = (s.sensor j).failed := by
  induction ks generalizing s with
  | nil => rfl
  | cons k ks ih =>
    obtain ⟨hk, hks⟩ := List.forall_mem_cons.1 h
    have hsame (i : Nat) : ((s.onGov fun g => { g with
        sensors := g.sensors.set k { deg := s.reading k, failed := true } }).sensor i).failed =
        (s.sensor i).failed := by
      rw [State.sensor_setSensor]
      split
      · next heq => rw [heq, hk]
      · rfl
    exact (ih _ fun i hi => (hsame i).trans (hks i hi)).trans (hsame j)

theorem State.replaceFailed_failed (s : State) (j : Nat) : (s.replaceFailed.sensor j).failed = (s.sensor j).failed := by
  have hbad : ∀ k ∈ s.sensorsOf.filter (fun k => (s.sensor k).failed), (s.sensor k).failed = true :=
    fun k hk => (List.mem_filter.1 hk).2
  rw [State.replaceFailed_eq]
  split
  · exact State.replaceSensors_failed j _ s hbad
  · exact State.replaceSensors_failed j _ (s.govFlag 10) hbad

theorem State.setTmax_sensor (s : State) (t j : Nat) : (s.setTmax t).sensor j = s.sensor j := by
  unfold State.setTmax
  dsimp only
  repeat' split
  all_goals rfl

theorem State.reportUnit_gov (s : State) (code : Nat) (bad : Bool) : (s.reportUnit code bad).gov = s.gov := by
  unfold State.reportUnit
  split <;> rfl

theorem State.reportUnits_gov (s : State) (f : AnalogFound) : (s.reportUnits f).gov = s.gov := by
  have hsensors (u : State) := foldl_keeps State.gov (fun s k => s.reportUnit 0x45 (bitOf f.sensors.toNat k))
    (fun s k => State.reportUnit_gov s _ _) (List.range 9) u
  simp only [State.reportUnits, State.reportUnit_gov, hsensors]

/-! ### What the check reports -/

theorem State.setTmax_reports (s : State) (t : Nat) : ∃ l : List FaultInfo,
    (l = [] ∨ l = [{ code := 0x40 }]) ∧ (s.setTmax t).safety.reports = s.safety.reports ++ l := by
  unfold State.setTmax
  dsimp only
  split
  · refine ⟨[{ code := 0x40 }], .inr rfl, ?_⟩
    split <;> rfl
  · refine ⟨[], .inl rfl, ?_⟩
    rw [List.append_nil]
    split <;> rfl

theorem State.reportUnit_reports (s : State) (code : Nat) (bad : Bool) :
    (s.reportUnit code bad).safety.reports = s.safety.reports ++ if bad then [{ code := code }] else [] := by
  cases bad <;> simp [State.reportUnit, State.report]

theorem State.reportSensors_reports (bad : Nat → Bool) (code : Nat) (ks : List Nat) (s : State) :
    (ks.foldl (fun s k => s.reportUnit code (bad k)) s).safety.reports =
      s.safety.reports ++ (ks.filter bad).map fun _ => { code := code } := by
  induction ks generalizing s with
  | nil => simp
  | cons k ks ih =>
    rw [List.foldl_cons, ih, State.reportUnit_reports, List.filter_cons]
    cases bad k <;> simp

theorem State.reportUnits_reports (s : State) (f : AnalogFound) :
    (s.reportUnits f).safety.reports =
      s.safety.reports ++ (if f.wakeAin then [{ code := 0x45 }] else []) ++
        ((List.range 9).filter (fun k => bitOf f.sensors.toNat k)).map (fun _ => { code := 0x45 }) ++
        (if f.vmonLog then [{ code := 0x42 }] else []) ++ (if f.vmonArr then [{ code := 0x42 }] else []) ++
        (if f.avsRx then [{ code := 0x45 }] else []) := by
  simp only [State.reportUnits, State.reportUnit_reports,
    State.reportSensors_reports (fun k => bitOf f.sensors.toNat k)]

/-- What the check leaves, once its findings have been marked and reported. -/
theorem State.analogCheck_leaves {s : State} {f : AnalogFound} (hready : s.ready = true)
    (hfw : s.fw.state = .running) (hblock : s.power.block = .run) (hdue : s.analogDue = true) (htrip : f.trip = false) :
    ∃ l : List FaultInfo, (s.analogCheck f).shell = s.shell ∧ (s.analogCheck f).integ.ana = f.word ∧
      (s.analogCheck f).power.ain.disabled = f.wakeAin ∧
      (∀ k < 9, ((s.analogCheck f).sensor k).failed = bitOf f.sensors.toNat k) ∧ (l = [] ∨ l = [{ code := 0x40 }]) ∧
      (s.analogCheck f).safety.reports = s.safety.reports ++ l ++ (if f.wakeAin then [{ code := 0x45 }] else []) ++
        ((List.range 9).filter (fun k => bitOf f.sensors.toNat k)).map (fun _ => { code := 0x45 }) ++
        (if f.vmonLog then [{ code := 0x42 }] else []) ++ (if f.vmonArr then [{ code := 0x42 }] else []) ++
        (if f.avsRx then [{ code := 0x45 }] else []) := by
  rw [State.analogCheck_eq hready hfw hblock hdue htrip]
  have hunmeasured : (((s.noteAnalog f).markSensors f (List.range 9)).measure.reportUnits f).unmeasured =
      (s.noteAnalog f).unmeasured := by
    simp only [State.measure, State.reportUnits_unmeasured, State.setTmax_unmeasured,
      State.replaceFailed_keeps State.unmeasured State.onGov_unmeasured,
      State.markSensors_keeps State.unmeasured State.onGov_unmeasured]
  obtain ⟨hshell, hinteg, hpower⟩ := unmeasured_eq_iff.1 hunmeasured
  obtain ⟨l, hl, hreports⟩ := State.setTmax_reports ((s.noteAnalog f).markSensors f (List.range 9)).replaceFailed
    ((s.noteAnalog f).markSensors f (List.range 9)).replaceFailed.tmaxNow
  refine ⟨l, hshell.trans (s.noteAnalog_shell f), by rw [hinteg, State.noteAnalog_ana],
    by rw [hpower, State.noteAnalog_disabled], fun k hk => ?_, hl, ?_⟩
  · have hgov := State.reportUnits_gov ((s.noteAnalog f).markSensors f (List.range 9)).measure f
    rw [State.sensor, hgov]
    change (((s.noteAnalog f).markSensors f (List.range 9)).measure.sensor k).failed = _
    rw [State.measure, State.setTmax_sensor, State.replaceFailed_failed, State.markSensors_failed,
      if_pos (List.mem_range.2 hk)]
  · rw [State.reportUnits_reports, State.measure, hreports,
      State.replaceFailed_keeps State.safety State.onGov_safety,
      State.markSensors_keeps State.safety State.onGov_safety, State.noteAnalog_safety]

end Sys2Proof.Machine
end

section
/-!
PROOFS. The rows of the self-test and of the integrity unit (R321, R328 to R359). The verdict of a test goes by its
lanes and spares alone; each row is the branch of its function that the premises name.
-/

namespace Sys2Proof.Machine

/-! ### The verdict of a memory test (R355, Table 12-5) -/

section
variable {test : Nat} {f : BistFound} (bad : BitVec 64)

theorem verdictOf_logicFails (htest : test = 0 ∨ test = 4) (hlogic : f.logicOk = false) : verdictOf test f bad = 3 := by
  simp [verdictOf, htest, hlogic]

theorem verdictOf_logicPasses (htest : test = 0) (hlogic : f.logicOk = true) : verdictOf test f bad = 0 := by
  simp [verdictOf, htest, hlogic]

section
variable (htest : test ≠ 0)
include htest

theorem verdictOf_memory (hlogic : test = 4 → f.logicOk = true) :
    verdictOf test f bad =
      if 2 ≤ ones 36 f.lanes.toNat ∨ 32 < ones 64 f.spares.toNat then 3
      else if ones 36 f.lanes.toNat = 1 then 1
      else if f.spares &&& ~~~bad ≠ 0 then 2
      else 0 := by
  have hsound : ¬ ((test = 0 ∨ test = 4) ∧ ¬ f.logicOk = true) := by
    rintro ⟨hzero | hfour, hfails⟩
    · exact htest hzero
    · exact hfails (hlogic hfour)
  unfold verdictOf
  dsimp only
  rw [if_neg htest, if_neg htest, if_neg hsound]
  simp only [ne_eq, htest, not_false_eq_true, true_and]

/-- Too many bad spare rows retire the slot, whatever LOGIC says. -/
theorem verdictOf_manySpares (hspares : 32 < ones 64 f.spares.toNat) : verdictOf test f bad = 3 := by
  simp [verdictOf, htest, hspares]

end

end

/-! ### BIST_TEST_END -/

section
variable {s : State}

theorem State.bistEnd_last {k : Nat} {r : TestRun} (f : BistFound) (hrun : (s.ctest k).run = some r)
    (hhold : s.safety.hold = false) (hlast : r.next = none) : s.bistEnd k f = s.endTest k r f := by
  simp only [State.bistEnd, hrun, hhold, hlast, Bool.false_eq_true, if_false]

theorem State.bistEnd_next {k t : Nat} {r : TestRun} {f : BistFound} (hrun : (s.ctest k).run = some r)
    (hhold : s.safety.hold = false) (hnext : r.next = some t) (hlogic : f.logicOk = true) :
    s.bistEnd k f = (s.noteTest k r f).onCtest k fun k =>
      { k with run := some { r with test := t, next := none, began := s.bck }, test := BitVec.ofNat 3 t } := by
  simp only [State.bistEnd, hrun, hhold, hnext, hlogic, Bool.false_eq_true, if_false, if_true]

/-! ### The scrubber (R333, R335) -/

theorem State.scrubRead_reads {k b row : Nat} (hb : b < 16) (hfree : s.scrubFree (16 * k + b) = true)
    (hnext : s.scrubNext (16 * k + b) 300 (s.bank (16 * k + b)).scrubRow.toNat = some row)
    (hheld : (s.bankq (16 * k + b)).holdsRow row = false) : s.scrubRead k b = s.scrubRead' (16 * k + b) row := by
  simp only [State.scrubRead, hb, hfree, hnext, State.scrubAt, hheld, and_self, Bool.false_eq_true, if_false, if_true]

section
variable {k b : Nat} {w : WriteBack} {rest : List WriteBack} (hin : (s.lbank (16 * k + b)).out = false)
  (hpending : (s.bank (16 * k + b)).pending = w :: rest)
include hin hpending

theorem State.scrubWriteBack_drops
    (hlate : w.deadline < s.bckOf k ∨ s.safety.hold = true ∨
      (s.stagedAt (s.slotOf (16 * k + b)) w.row).isSome = true) :
    s.scrubWriteBack k b = s.onBank (16 * k + b) fun n =>
      { n with pending := rest, dropped := satAdd 0xFFFF n.dropped 1 } := by
  simp only [State.scrubWriteBack, hpending, hin, hlate, Bool.false_eq_true, if_false, if_true]

theorem State.scrubWriteBack_writes (hready : s.ready = true) (hsoon : s.bckOf k ≤ w.deadline)
    (hhold : s.safety.hold = false) (hstaged : s.stagedAt (s.slotOf (16 * k + b)) w.row = none)
    (hrun : s.inRun k = true) (hfree : s.writeFree (16 * k + b) w.row = true) :
    s.scrubWriteBack k b =
      (let t := s.onBankq (16 * k + b) fun q => { q with writeBck := s.bck + 1 }
       let t := if (t.mirror (16 * k + b) w.row).isSome then t.chargeArray k 1 else t
       ((s.bank (16 * k + b)).pending.filter (fun v => v.row == w.row)).foldl
         (fun s v => s.putBack (16 * k + b) v)
         (t.onBank (16 * k + b) fun n => { n with pending := n.pending.filter (fun v => v.row != w.row) })) := by
  have htime : ¬ (w.deadline < s.bckOf k ∨ s.safety.hold = true ∨
      (s.stagedAt (s.slotOf (16 * k + b)) w.row).isSome = true) := by
    simp [hsoon, hhold, hstaged]
  simp only [State.scrubWriteBack, hpending, hin, htime, hready, hrun, hfree, and_self, Bool.false_eq_true, if_false,
    if_true]

end

/-! ### The repair policy (R332) -/

theorem State.repairPolicy_patches {g row lane : Nat} (hon : s.policyOn = true) (hbank : s.policyBank g = true)
    (hrow : row < 16384) (hlane : lane < 36) (hfree : s.rowFree g row true = true)
    (hpatches : s.patchesFree g lane = true)
    (hcause : s.fw.items.patchRepeat ≤ (s.bank g).streak.get 0 (64 * row + lane)) :
    s.repairPolicy (.patch g row lane) = ((s.policyPatch g row lane).dropStreak g row lane).retireFor g lane := by
  have hcause' : s.patchCause g row lane = true := decide_eq_true hcause
  simp only [State.repairPolicy, hon, hbank, hrow, hlane, hfree, hpatches, hcause', Bool.not_true, Bool.false_eq_true,
    and_self, if_false, if_true]

theorem State.policyRetire_retires {g lane : Nat} (hnew : (s.retired g).contains lane = false)
    (hroom : (s.retired g).length < 2) :
    s.policyRetire g lane =
      (let t := ((s.retireLane g lane).dropPatches g lane).logSlot 0x63 (g / 16) (s.lbank g).slot
       t.setRepairs (t.fw.items.repairs ++ [repairEntry g 0x80 0 lane 0])) := by
  simp only [State.policyRetire, hnew, Nat.not_le.2 hroom, Bool.false_eq_true, if_false]

theorem State.repairPolicy_retires {g lane : Nat} (hon : s.policyOn = true) (hbank : s.policyBank g = true)
    (hlane : lane < 36) (hpatches : s.patchesFree g lane = true) (hcause : s.retireCause g lane = true) :
    s.repairPolicy (.retire g lane) = (s.policyRetire g lane).onBank g fun b =>
      { b with laneLap := b.laneLap.erase lane, laneLast := b.laneLast.erase lane } := by
  simp only [State.repairPolicy, State.retireFor, hon, hbank, hlane, hpatches, hcause, Bool.not_true,
    Bool.false_eq_true, and_self, if_false, if_true]

/-! ### The rotation (R321, R348, R357) -/

section
variable (hacts : s.fwActs = true) (hroom : s.startTests.droverFull = false)
include hacts hroom

theorem State.rotationStep_serves {c b k : Nat} (hrequest : s.startTests.requestNow = some (c, b, k)) :
    s.rotationStep = s.startTests.serveRequest c b k := by
  simp only [State.rotationStep, hacts, hroom, hrequest, Bool.not_true, Bool.false_eq_true, if_false]

theorem State.rotationStep_rotates (hrequest : s.startTests.requestNow = none) :
    s.rotationStep = s.startTests.rotateNow := by
  simp only [State.rotationStep, hacts, hroom, hrequest, Bool.not_true, Bool.false_eq_true, if_false]

end

theorem State.rotateNow_rotates {c : Nat} (hon : s.policyOn = true) (hen : s.fw.items.rotateEn = true)
    (hwaits : s.requestWaits = false) (hscrap : s.safety.lifecycle ≠ 4) (hturn : s.turnOf = some c) :
    s.rotateNow = (s.rotate c).onInteg fun n => { n with rotateCluster := (c + 1) % s.cfg.clusters } := by
  simp only [State.rotateNow, hon, hen, hwaits, hscrap, hturn, Bool.not_true, decide_false, Bool.or_self,
    Bool.false_eq_true, if_false]

end

/-! ### The rows of the table -/

theorem exec_bistTestEnd {s : State} (h : s.ready = true) (k : Nat) (f : BistFound) :
    exec (.bistTestEnd k f) s = .next (s.bistEnd k f).settle :=
  congrArg Host.Outcome.next (State.live_of_ready h fun s => s.bistEnd k f)

theorem exec_scrubRead {s : State} (h : s.ready = true) (k b : Nat) :
    exec (.scrubRead k b) s = .next (s.scrubRead k b).settle :=
  congrArg Host.Outcome.next (State.live_of_ready h fun s => s.scrubRead k b)

theorem exec_scrubWriteBack {s : State} (h : s.ready = true) (k b : Nat) :
    exec (.scrubWriteBack k b) s = .next (s.scrubWriteBack k b).settle :=
  congrArg Host.Outcome.next (State.live_of_ready h fun s => s.scrubWriteBack k b)

theorem exec_repairPolicyAction {s : State} (h : s.ready = true) (a : RepairAct) :
    exec (.repairPolicyAction a) s = .next (s.repairPolicy a).settle :=
  congrArg Host.Outcome.next (State.live_of_ready h fun s => s.repairPolicy a)

theorem exec_rotationStep {s : State} (h : s.ready = true) : exec .rotationStep s = .next s.rotationStep.settle :=
  congrArg Host.Outcome.next (State.live_of_ready h fun s => s.rotationStep)

theorem exec_analogCheck {s : State} (h : s.ready = true) (f : AnalogFound) :
    exec (.analogCheck f) s = .next (s.analogCheck f).settle :=
  congrArg Host.Outcome.next (State.live_of_ready h fun s => s.analogCheck f)

/-- Settles O40: each clause is the branch of its function that the lemmas above name; what the analogue check leaves is
`State.analogCheck_leaves`. -/
theorem testAndScrubRows : Obligations.TestAndScrubRows := by
  refine ⟨fun test f bad => ⟨verdictOf_logicFails bad, verdictOf_logicPasses bad, fun htest hlogic hlanes => ?_,
    fun htest hspares => verdictOf_manySpares bad htest hspares, fun htest hlogic hlane hspares => ?_,
    fun htest hlogic hlanes hspares => ?_⟩,
    fun s hready => ⟨fun k f r hrun hhold hlast => ?_, fun k f r t hrun hhold hnext hlogic => ?_,
      fun k b row hb hfree hnext hheld => ?_, fun k b w rest hin hpending hsoon hhold hstaged hrun hfree => ?_,
      fun k b w rest hin hpending hlate => ?_, fun g row lane hon hbank hrow hlane hfree hpatches hcause => ?_,
      fun g lane hon hbank hlane hpatches hcause hnew hroom => ?_, fun hacts => ?_,
      fun f hquiet hfw hblock hdue htrip => ?_⟩⟩
  · rw [verdictOf_memory bad htest hlogic, if_pos (.inl hlanes)]
  · rw [verdictOf_memory bad htest hlogic, if_neg (by omega), if_pos hlane]
  · have hnone : ones 36 f.lanes.toNat = 0 := by rw [hlanes]; rfl
    rw [verdictOf_memory bad htest hlogic, if_neg (by omega), if_neg (by omega)]
    simp only [ne_eq, ite_not]
  · rw [exec_bistTestEnd hready, State.bistEnd_last f hrun hhold hlast]
  · rw [exec_bistTestEnd hready, State.bistEnd_next hrun hhold hnext hlogic]
  · rw [exec_scrubRead hready, State.scrubRead_reads hb hfree hnext hheld]
  · rw [exec_scrubWriteBack hready,
      State.scrubWriteBack_writes hin hpending hready hsoon hhold hstaged hrun hfree]
    rfl
  · rw [exec_scrubWriteBack hready, State.scrubWriteBack_drops hin hpending hlate]
  · rw [exec_repairPolicyAction hready,
      State.repairPolicy_patches hon hbank hrow hlane hfree hpatches hcause]
    rfl
  · rw [exec_repairPolicyAction hready, State.repairPolicy_retires hon hbank hlane hpatches hcause,
      State.policyRetire_retires hnew hroom]
  · refine fun hroom => ⟨fun c hrequest hon hen hwaits hscrap hturn => ?_, fun c b k hrequest => ?_⟩
    · rw [exec_rotationStep hready, State.rotationStep_rotates hacts hroom hrequest,
        State.rotateNow_rotates hon hen hwaits hscrap hturn]
    · rw [exec_rotationStep hready, State.rotationStep_serves hacts hroom hrequest]
  · obtain ⟨l, hshell, hana, hain, hsensors, hl, hreports⟩ := State.analogCheck_leaves hready hfw hblock hdue htrip
    obtain ⟨-, hstill, -⟩ := (State.quiet_iff s).1 hquiet
    refine ⟨s.analogCheck f, l, ?_, hana, hain, hsensors, hl, hreports⟩
    rw [exec_analogCheck hready, settle_of_still (still_of_shell hshell hstill)]

end Sys2Proof.Machine
end

section
/-!
PROOFS. The front of the queue, and the index: an opcode finds the body that carries it, and an opcode that no body
carries finds none (R69).
-/

namespace Sys2Proof.Machine

/-! ### The index (R69) -/

theorem bodies_ascend : (bodies.map Body.code).Pairwise (· < ·) :=
  List.isChain_iff_pairwise.1 (by decide +kernel)

theorem bodies_code_inj {a b : Body} (ha : a ∈ bodies) (hb : b ∈ bodies) (h : a.code = b.code) : a = b :=
  List.inj_on_of_nodup_map (bodies_ascend.imp Nat.ne_of_lt) ha hb h

theorem bodyOf_code {b : Body} (hb : b ∈ bodies) : bodyOf b.code = some b := by
  obtain ⟨a, ha⟩ : ∃ a, bodyOf b.code = some a :=
    Option.isSome_iff_exists.1 (List.find?_isSome.2 ⟨b, hb, beq_self_eq_true _⟩)
  rw [ha, bodies_code_inj (List.mem_of_find?_eq_some ha) hb (by simpa using List.find?_some ha)]

theorem bodyOf_none {op : Nat} (h : ∀ b ∈ bodies, b.code ≠ op) : bodyOf op = none :=
  List.find?_eq_none.2 fun b hb => by simpa using h b hb

/-- Settles O1: the step function takes the front of the queue apart from its rest. -/
theorem stepTakesFront : Obligations.StepTakesFront := by
  intro i rest s h
  simp only [step, h]

end Sys2Proof.Machine
end

section
/-!
PROOFS. How a window command comes out (R47, R50, R364): the clusters that it accesses change nothing but the power
controller, and by the way in which its body acts it is answered, gives a record in its buffer, ends with an effect or
is deferred.
-/

namespace Sys2Proof.Machine

/-! ### The clusters that a command accesses (R364) -/

theorem State.wakeCluster_power (s : State) (k cause : Nat) :
    { s.wakeCluster k cause with power := s.power } = s := by
  unfold State.wakeCluster
  split <;> rfl

theorem State.accessed_power (s : State) (ks : List Nat) : { s.accessed ks with power := s.power } = s := by
  unfold State.accessed
  induction ks generalizing s with
  | nil => rfl
  | cons k ks ih =>
    exact (congrArg (fun t : State => { t with power := s.power }) (ih (s.wakeCluster k 2))).trans
      (State.wakeCluster_power s k 2)

/-- What does not read the power controller is the same in a state that a command has reached. -/
theorem State.reached_eq {α : Type} {f : State → α} (hf : ∀ (t : State) p, f { t with power := p } = f t)
    (s : State) (b : Body) (c : Cmd) : f (s.reached b c) = f s :=
  (hf _ s.power).symm.trans (congrArg f (s.accessed_power _))

theorem State.reached_none {s : State} {b : Body} {c : Cmd} (h : b.touches c (s.given c) = []) : s.reached b c = s := by
  unfold State.reached
  rw [h]
  rfl

theorem State.reached_still {s : State} (b : Body) (c : Cmd) (h : s.still) : (s.reached b c).still :=
  (State.reached_eq (f := State.still) (fun _ _ => rfl) s b c).mpr h

/-! ### The end of a window command (R46, R47) -/

section
variable {s t : State} {b : Body} {c : Cmd} {r : Result} {n : Nat}

theorem finish_of_window (hw : c.src.window = true) (hs : c.signal = false) :
    t.finish n c r = t.onCmd fun k =>
      { k.window c.src.isSp (fun w => { w with reply := withPhase (c.record r), busy := false, done := true }) with
        deferred := k.deferred.filter (fun d => d.token != n)
        waiting := k.waiting.filter (fun w => w.token != n) } := by
  unfold State.finish State.signalFor State.final
  simp only [hs, Bool.not_false, if_true]
  cases hc : c.src with
  | sp => rfl
  | ctl => rfl
  | ring n => simp [hc, Source.window] at hw
  | mbox p x y => simp [hc, Source.window] at hw

/-! ### How a window command comes out (R47, R50) -/

/-- Table 2-9: the opcode is not deferred when a window gives it. -/
def Body.prompt (b : Body) : Prop :=
  [0x005, 0x306, 0x403, 0x404, 0x410, 0x500, 0x501, 0x502, 0x503, 0x612, 0x710, 0x712, 0x802, 0x901].contains b.code =
    false

theorem takes_prompt (h : s.takes b c = true) (hp : b.prompt) : c.defers = false := (takes_defers h).trans hp

theorem takes_signal (h : s.takes b c = true) : c.signal = false := (takes_gives h).2.1

/-- The command answers, and its effect is nothing beside the clusters that it accesses. -/
theorem runRow_replied (hb : bodyOf b.code = some b) (h : s.takes b c = true) (hp : b.prompt)
    (hf : b.fetch c (s.touched b c) = none) (ha : b.act s.cmd.accepted c (s.touched b c) = .done r (s.touched b c)) :
    runRow b c s = (s.reached b c).replied c r := by
  have hcmd : (s.touched b c).cmd = (s.given c).cmd :=
    State.reached_eq (f := fun u => (u.given c).cmd) (fun _ _ => rfl) s b c
  have hreply : ((s.reached b c).replied c r).cmd = (s.replied c r).cmd :=
    State.reached_eq (f := fun u => (u.replied c r).cmd) (fun _ _ => rfl) s b c
  obtain ⟨_, _, _, _, _, _, hstill⟩ := State.reached_still b c (takes_still h)
  rw [runRow_done hb h (takes_prompt h hp) hf ha hcmd hstill, ← hreply]
  rfl

/-- The command touches no cluster, and answers without an effect. -/
theorem runRow_replied_given (hb : bodyOf b.code = some b) (h : s.takes b c = true) (hp : b.prompt)
    (htouch : b.touches c (s.given c) = []) (hf : b.fetch c (s.given c) = none)
    (ha : b.act s.cmd.accepted c (s.given c) = .done r (s.given c)) : runRow b c s = s.replied c r := by
  rw [← touched_none htouch] at hf ha
  rw [runRow_replied hb h hp hf ha, State.reached_none htouch]

/-- The command touches no cluster and ends. -/
theorem runRow_ends_given (hb : bodyOf b.code = some b) (h : s.takes b c = true) (hp : b.prompt)
    (htouch : b.touches c (s.given c) = []) (hf : b.fetch c (s.given c) = none)
    (ha : b.act s.cmd.accepted c (s.given c) = .done r t) : runRow b c s = t.ends s.cmd.accepted c r := by
  rw [← touched_none htouch] at hf ha
  exact runRow_ends hb h (takes_prompt h hp) hf ha

/-- The command touches no cluster and goes on by itself. -/
theorem runRow_running_given (hb : bodyOf b.code = some b) (h : s.takes b c = true) (hp : b.prompt)
    (htouch : b.touches c (s.given c) = []) (hf : b.fetch c (s.given c) = none)
    (ha : b.act s.cmd.accepted c (s.given c) = .running t) : runRow b c s = t.carryOn := by
  rw [← touched_none htouch] at hf ha
  rw [runRow_act hb h (takes_prompt h hp) hf, ha]

/-- A reply to the window stands at the start of its packet buffer. -/
theorem reply_to_buffer {bs : List Byte} {a : Nat} (hw : c.src.window = true) :
    t.reply c false a bs = t.onCmd fun k => k.window c.src.isSp fun w => { w with buf := putBuffer w.buf bs } := by
  unfold State.reply
  cases hc : c.src with
  | sp => rfl
  | ctl => rfl
  | ring n => simp [hc, Source.window] at hw
  | mbox p x y => simp [hc, Source.window] at hw

theorem State.still.events (h : s.still) : s.eventsStill = true := by
  obtain ⟨-, -, -, -, -, -, hevents⟩ := h
  exact hevents

/-- A window in which no packet stands leaves a still command interface still. -/
theorem onWindow_still {sp : Bool} {f : CmdWindow → CmdWindow} (h : s.still)
    (hf : ∀ w, w.given = none → (f w).given = none) : (s.onWindow sp f).still := by
  obtain ⟨harrived, hwait, hrecords, hsp, hctl, hfetched, hevents⟩ := h
  cases sp with
  | false => exact ⟨harrived, hwait, hrecords, hsp, hf _ hctl, hfetched, hevents⟩
  | true => exact ⟨harrived, hwait, hrecords, hf _ hsp, hctl, hfetched, hevents⟩

theorem queryReplyWith_still {bs : List Byte} (h : s.still) : (s.queryReplyWith c bs r).still := by
  have hreplied : (s.replied c r).still := replied_still h rfl h.events
  exact onWindow_still (f := fun w => { w with buf := putBuffer c.pkt bs }) hreplied fun _ hgiven => hgiven

theorem reply_ends {bs : List Byte} {a : Nat} (hw : c.src.window = true) (hs : c.signal = false) (hstill : s.still) :
    ((s.given c).reply c false a bs).ends s.cmd.accepted c r = s.queryReplyWith c bs r := by
  have hwait : s.cmd.waiting = [] := hstill.2.1
  have hfinish : ((s.given c).reply c false a bs).finish s.cmd.accepted c r = s.queryReplyWith c bs r := by
    rw [reply_to_buffer hw, finish_of_window hw hs]
    unfold State.queryReplyWith State.replied State.given State.onCmd CmdIf.window
    split <;> simp [hwait]
  unfold State.ends
  rw [hfinish, carryOn_of_still (queryReplyWith_still hstill)]

/-- The command gives a record in the buffer of its window. -/
theorem runRow_queryReply {bs : List Byte} {a : Nat} (hb : bodyOf b.code = some b) (h : s.takes b c = true)
    (hp : b.prompt) (hf : b.fetch c (s.touched b c) = none)
    (ha : b.act s.cmd.accepted c (s.touched b c) = .done r ((s.touched b c).reply c false a bs)) :
    runRow b c s = (s.reached b c).queryReplyWith c bs r := by
  rw [runRow_ends hb h (takes_prompt h hp) hf ha]
  have hn : (s.reached b c).cmd.accepted = s.cmd.accepted :=
    State.reached_eq (f := fun u => u.cmd.accepted) (fun _ _ => rfl) s b c
  rw [← hn]
  exact reply_ends (takes_window h) (takes_signal h) (State.reached_still b c (takes_still h))

end

/-- Settles O6: each row ends with its write, since none touches a cluster or reads memory (`runRow_ends_given`). -/
theorem addressTableCommands : Obligations.AddressTableCommands := by
  refine ⟨fun c s => ⟨fun h => ?_, fun h => ?_, fun h => ?_⟩,
    fun c s => ⟨fun h => ?_, fun h => ?_, fun h => ?_, fun h => ?_⟩⟩
  all_goals exact congrArg Host.Outcome.next (runRow_ends_given rfl h rfl rfl rfl rfl)

end Sys2Proof.Machine
end

section
/-!
PROOFS. Commands that a window gives and that are deferred (R47), and the commands of the first table of chapter 2: NOP,
ECHO, QUERY_STATE, the resets and DRAIN (R52, R132, R133, R274, R282).
-/

namespace Sys2Proof.Machine

section
variable {s t : State} {b : Body} {c : Cmd}

theorem deferred_still (h : s.still) : (s.deferred b c).still := by
  have hwindow : (s.onWindow c.src.isSp fun w => { w with
      buf := c.pkt, busy := true, done := false, given := none
      reply := withPhase (c.record { status := .defer, result := b.job c (s.given c) }) }).still :=
    onWindow_still h fun _ _ => rfl
  exact hwindow

/-- No deferred command came after the last that was accepted. -/
theorem takes_deferred_lt (h : s.takes b c = true) : ∀ d ∈ s.cmd.deferred, d.token < s.cmd.accepted :=
  ((State.quiet_iff s).1 (gives_quiet (takes_gives h).1)).2.2.2.2.1

/-- A deferred command is the last of its list. -/
theorem deferred_find (h : ∀ d ∈ s.cmd.deferred, d.token < s.cmd.accepted) :
    ((s.deferred b c).cmd.deferred.find? fun d => d.token == s.cmd.accepted).map (fun d => d.since) =
      some s.clock.xck := by
  have hnone : s.cmd.deferred.find? (fun d => d.token == s.cmd.accepted) = none :=
    List.find?_eq_none.2 fun d hd => by simpa using Nat.ne_of_lt (h d hd)
  have hlist : (s.deferred b c).cmd.deferred = s.cmd.deferred ++
      [{ token := s.cmd.accepted, cmd := c, holds := b.holds c (s.given c)
         half := (s.given c).shepherd (b.path c (s.given c)), since := s.clock.xck }] := by
    unfold State.deferred State.onCmd CmdIf.window
    split <;> rfl
  rw [hlist, List.find?_append, hnone]
  simp

/-- A deferred command that ends at once leaves its final record alone. -/
theorem deferred_ends {r : Result} (hw : c.src.window = true) (hs : c.signal = false) (hstill : s.still) :
    (s.deferred b c).finish s.cmd.accepted c r = s.replied c r := by
  have hwait : s.cmd.waiting = [] := hstill.2.1
  rw [finish_of_window hw hs]
  unfold State.deferred State.replied State.onCmd CmdIf.window
  split <;> simp [hwait]

theorem replied_carryOn {r : Result} (hstill : s.still) : (s.replied c r).carryOn = s.replied c r :=
  carryOn_of_still (replied_still hstill rfl hstill.events)

theorem drain_row (h : s.takes bodyDrain c = true) :
    runRow bodyDrain c s =
      if s.drained c s.clock.xck then s.replied c { status := .ok } else s.deferred bodyDrain c := by
  have hstill := takes_still h
  obtain ⟨d, hfind, hsince⟩ := Option.map_eq_some_iff.1
    (deferred_find (b := bodyDrain) (c := c) (takes_deferred_lt h))
  have hact : bodyDrain.act s.cmd.accepted c (s.deferred bodyDrain c) =
      if s.drained c s.clock.xck then Act.ok (s.deferred bodyDrain c) else .running (s.deferred bodyDrain c) := by
    simp only [bodyDrain] at hfind ⊢
    rw [hfind]
    simp only [hsince]
    rfl
  rw [runRow_deferred rfl h (takes_defers h) rfl, State.reached_none rfl, hact]
  by_cases hdone : s.drained c s.clock.xck = true
  · rw [if_pos hdone, if_pos hdone]
    change ((s.deferred bodyDrain c).finish s.cmd.accepted c { status := .ok }).carryOn = _
    rw [deferred_ends (takes_window h) (takes_signal h) hstill, replied_carryOn hstill]
  · rw [if_neg hdone, if_neg hdone]
    exact carryOn_of_still (deferred_still hstill)

end

/-! ### CTX_RESET (R274, R282) -/

@[simp] theorem State.abandon_clock (s : State) (k : Nat) (st : Status) : (s.abandon k st).clock = s.clock := by
  unfold State.abandon
  split <;> rfl

@[simp] theorem State.abandonAll_clock (s : State) (p : Fold → Bool) (st : Status) :
    (s.abandonAll p st).clock = s.clock :=
  foldl_keeps State.clock _ (fun t e => by split <;> simp) _ s

theorem State.late_of_clock {s t : State} (h : t.clock = s.clock) : t.late = s.late := by
  funext w
  unfold State.late
  rw [h]

/-- Which waits of the context are late is not changed by the folds that are abandoned before. -/
theorem State.ctxReset_eq (s : State) (ctx : Nat) :
    s.ctxReset ctx = (s.abandonAll (fun f => f.owner == ctx) .abandoned).onFolds fun u =>
      { u with waiters := u.waiters.map fun w =>
          if w.ctx = ctx ∧ w.ended = none then
            { w with ended := some (if s.late w then .timeout else .abandoned) } else w } := by
  unfold State.ctxReset State.endWaitsOf
  rw [State.late_of_clock (s.abandonAll_clock _ _)]

/-- Settles O5: NOP, ECHO and QUERY_STATE answer without an effect; CTX_RESET finds the late waits by the clock, which
abandoning folds leaves alone; PORT_RESET goes on where a granted piece is out, and a DRAIN where a request is. -/
theorem controlAndResetCommands : Obligations.ControlAndResetCommands := by
  refine ⟨fun c s => ⟨fun h => ?_, fun h => ?_, fun h => ?_⟩,
    fun c s => ⟨fun h => ?_, fun h hout => ?_, fun h hout => ?_, fun h => ?_⟩⟩
  · exact congrArg Host.Outcome.next (runRow_replied_given rfl h rfl rfl rfl rfl)
  · exact congrArg Host.Outcome.next (runRow_replied_given rfl h rfl rfl rfl rfl)
  · exact congrArg Host.Outcome.next (runRow_replied_given rfl h rfl rfl rfl rfl)
  · refine (congrArg Host.Outcome.next (runRow_ends_given rfl h rfl rfl rfl rfl)).trans ?_
    rw [State.ctxReset_eq]
    rfl
  · exact congrArg Host.Outcome.next (runRow_ends_given rfl h rfl rfl rfl (if_neg (by simp [hout])))
  · exact congrArg Host.Outcome.next (runRow_running_given rfl h rfl rfl rfl (if_pos hout))
  · exact congrArg Host.Outcome.next (drain_row h)

end Sys2Proof.Machine
end

section
/-!
PROOFS. The queries (R46, R48, R69): a record in the buffer of the window, or in memory through initiator 64. What a
query shows is read neither from the command interface nor from the power controller, so that it is what stood before
the packet came.
-/

namespace Sys2Proof.Machine

/-! ### What a command reads (R364) -/

section
variable {s : State} {b : Body} {c : Cmd}

theorem State.touched_reads {α : Type} {f : State → α}
    (hf : ∀ (t : State) k p, f { t with cmd := k, power := p } = f t) (s : State) (b : Body) (c : Cmd) :
    f (s.touched b c) = f s :=
  (State.reached_eq (f := fun u => f (u.given c)) (fun t p => (hf t _ p).trans (hf t _ t.power).symm) s b c).trans
    (hf s _ s.power)

/-- A window command that ends, by what it reads and what it then does. -/
theorem runRow_reads {α : Type} {f : State → α} {e : α → State → State} {g : α → Result}
    (hb : bodyOf b.code = some b) (h : s.takes b c = true) (hp : b.prompt) (hfetch : b.fetch c (s.touched b c) = none)
    (hact : ∀ u, b.act s.cmd.accepted c u = .done (g (f u)) (e (f u) u))
    (hf : ∀ (t : State) k p, f { t with cmd := k, power := p } = f t) :
    runRow b c s = (e (f s) ((s.reached b c).given c)).ends s.cmd.accepted c (g (f s)) := by
  rw [runRow_ends hb h (takes_prompt h hp) hfetch (hact _), State.touched_reads hf]
  rfl

/-! ### Where the record goes (Table 3-6) -/

variable {f : State → List Byte} {g : State → Result} {a : Nat}

theorem reply_toWindow {r : Result} {m : Bool} {bs : List Byte} (h : m = false) :
    Act.done r (s.reply c m a bs) = Act.done r (s.reply c false a bs) := by
  rw [h]

theorem reply_toMemory {r : Result} {m : Bool} {bs : List Byte} (h : m = true) :
    Act.done r (s.reply c m a bs) = Act.done r (s.initWrite a bs) := by
  rw [h]
  rfl

theorem replyTouches_window {m : Bool} {n : Nat} (h : m = false) : replyTouches s m a n = [] := by
  rw [h]
  rfl

section
variable (hb : bodyOf b.code = some b) (h : s.takes b c = true) (hp : b.prompt)
  (hfetch : b.fetch c (s.touched b c) = none)
  (hf : ∀ (t : State) k p, f { t with cmd := k, power := p } = f t)
  (hg : ∀ (t : State) k p, g { t with cmd := k, power := p } = g t)
include hb h hp hfetch hf hg

theorem runRow_record (hact : ∀ u, b.act s.cmd.accepted c u = .done (g u) (u.reply c false a (f u))) :
    runRow b c s = (s.reached b c).queryReplyWith c (f s) (g s) := by
  rw [runRow_queryReply hb h hp hfetch (hact _), State.touched_reads hf, State.touched_reads hg]

/-- The same where no cluster is accessed. -/
theorem runRow_record_given (htouch : b.touches c (s.given c) = [])
    (hact : ∀ u, b.act s.cmd.accepted c u = .done (g u) (u.reply c false a (f u))) :
    runRow b c s = s.queryReplyWith c (f s) (g s) := by
  rw [runRow_record hb h hp hfetch hf hg hact, State.reached_none htouch]

theorem runRow_writes (hact : ∀ u, b.act s.cmd.accepted c u = .done (g u) (u.initWrite a (f u))) :
    runRow b c s = (((s.reached b c).given c).initWrite a (f s)).ends s.cmd.accepted c (g s) :=
  runRow_reads (f := fun u => (f u, g u)) (e := fun x u => u.initWrite a x.1) (g := Prod.snd) hb h hp hfetch hact
    fun t k p => Prod.ext (hf t k p) (hg t k p)

end

end

/-- Settles O7: a query shows what stood before its packet came, and its record goes to the buffer of the window
(`runRow_record`) or to memory (`runRow_writes`). -/
theorem queryCommands : Obligations.QueryCommands := by
  refine ⟨fun c s => ⟨fun h hto => ?_, fun h hto => ?_, fun h hto => ?_, fun h hto => ?_, fun h hto => ?_,
      fun h hto => ?_, fun h hto => ?_, fun h => ?_⟩,
    fun c s => ⟨fun h hto => ?_, fun h hto => ?_, fun h hto => ?_, fun h hto => ?_, fun h => ?_, fun h => ?_,
      fun h => ?_⟩⟩
  · have hrow := runRow_record_given (b := bodyRegionQuery) rfl h rfl rfl (fun _ _ _ => rfl) (fun _ _ _ => rfl)
      (replyTouches_window hto) fun _ => reply_toWindow hto
    exact congrArg Host.Outcome.next hrow
  · have hrow := runRow_record_given (b := bodyViewQuery) rfl h rfl rfl (fun _ _ _ => rfl) (fun _ _ _ => rfl)
      (replyTouches_window hto) fun _ => reply_toWindow hto
    exact congrArg Host.Outcome.next hrow
  · have hrow := runRow_record_given (b := bodyWindowQuery) rfl h rfl rfl (fun _ _ _ => rfl) (fun _ _ _ => rfl)
      (replyTouches_window hto) fun _ => reply_toWindow hto
    exact congrArg Host.Outcome.next hrow
  · have hrow := runRow_record_given (b := bodyPopQuery) rfl h rfl rfl (fun _ _ _ => rfl) (fun _ _ _ => rfl)
      (replyTouches_window hto) fun _ => reply_toWindow hto
    exact congrArg Host.Outcome.next hrow
  · have hrow := runRow_record_given (b := bodyLinkQuery) rfl h rfl rfl (fun _ _ _ => rfl) (fun _ _ _ => rfl)
      (replyTouches_window hto) fun _ => reply_toWindow hto
    exact congrArg Host.Outcome.next hrow
  · have hrow := runRow_record (b := bodyPatchQuery) rfl h rfl rfl (fun _ _ _ => rfl) (fun _ _ _ => rfl)
      fun _ => reply_toWindow hto
    exact congrArg Host.Outcome.next hrow
  · have hrow := runRow_record (b := bodyBistQuery) rfl h rfl rfl (fun _ _ _ => rfl) (fun _ _ _ => rfl)
      fun _ => reply_toWindow hto
    exact congrArg Host.Outcome.next hrow
  · have hrow := runRow_record_given (b := bodyLedgerRead) rfl h rfl rfl (fun _ _ _ => rfl) (fun _ _ _ => rfl) rfl
      fun _ => rfl
    exact congrArg Host.Outcome.next hrow
  · have hrow := runRow_writes (b := bodyRegionQuery) rfl h rfl rfl (fun _ _ _ => rfl) (fun _ _ _ => rfl)
      fun _ => reply_toMemory hto
    exact congrArg Host.Outcome.next hrow
  · have hrow := runRow_writes (b := bodyViewQuery) rfl h rfl rfl (fun _ _ _ => rfl) (fun _ _ _ => rfl)
      fun _ => reply_toMemory hto
    exact congrArg Host.Outcome.next hrow
  · have hrow := runRow_writes (b := bodyWindowQuery) rfl h rfl rfl (fun _ _ _ => rfl) (fun _ _ _ => rfl)
      fun _ => reply_toMemory hto
    exact congrArg Host.Outcome.next hrow
  · have hrow := runRow_writes (b := bodyPopQuery) rfl h rfl rfl (fun _ _ _ => rfl) (fun _ _ _ => rfl)
      fun _ => reply_toMemory hto
    exact congrArg Host.Outcome.next hrow
  · have hrow := runRow_reads (b := bodyStallQuery) (f := fun u => u.sub (c.par 0 1))
      (e := fun q u => if c.par 4 2 = 0 then u
        else u.initWrite (c.par 8 5) ((if c.flag 1 0 then q.shd else q.act).bytes (c.par 2 2) (c.par 4 2)))
      (g := fun q => { status := .ok, result := q.act.len + q.shd.len * 2 ^ 16 })
      rfl h rfl rfl (fun _ => rfl) (fun _ _ _ => rfl)
    exact congrArg Host.Outcome.next hrow
  · have hrow := runRow_reads (b := bodyIntegQuery) (f := fun u => u.integRecord (c.par 0 1))
      (e := fun q u =>
        if c.flag 1 0 then (u.initWrite (c.par 8 5) (q.flatMap (toBytes 4))).onBank (c.par 0 1) BankInteg.cleared
        else u.initWrite (c.par 8 5) (q.flatMap (toBytes 4)))
      (g := fun _ => { status := .ok }) rfl h rfl rfl (fun _ => rfl) (fun _ _ _ => rfl)
    exact congrArg Host.Outcome.next hrow
  · have hrow := runRow_writes (b := bodySettingsRead) rfl h rfl rfl (fun _ _ _ => rfl) (fun _ _ _ => rfl) fun _ => rfl
    exact congrArg Host.Outcome.next hrow

end Sys2Proof.Machine
end

section
/-!
PROOFS. Refusals (R48 to R50, R57, R114): the opcodes and their lengths, and what a packet that a check refuses leaves.
-/

namespace Sys2Proof.Machine

/-! ### Checks 1 to 5 (R45, R50) -/

section
variable {s : State} {b : Body} {c : Cmd}

theorem checkHeader_unlisted (h : c.headerBad = none) : s.checkHeader none c = some { status := .badOpcode } := by
  simp only [State.checkHeader, h]

theorem checkHeader_length (hbad : c.headerBad = none) (hsafety : 0xA00 ≤ c.op → c.src = .sp)
    (hsys : b.sys = true → s.systemSource c.src = true) (hctx : s.contextOk c = true) (hunits : c.units ≠ b.units) :
    s.checkHeader (some b) c = some { status := .badParam, detail := 1 } := by
  have hnotSafety : ¬ (0xA00 ≤ c.op ∧ c.src ≠ .sp) := fun h => h.2 (hsafety h.1)
  have hnotSys : ¬ (b.sys = true ∧ ¬ s.systemSource c.src = true) := fun h => h.2 (hsys h.1)
  simp only [State.checkHeader, hbad, hnotSafety, hnotSys, hctx, hunits, Bool.not_true, Bool.false_eq_true, if_false,
    ne_eq, not_false_eq_true, if_true]
  rfl

end

/-- Settles O4: the index is read off, and the checks before the length pass. -/
theorem opcodeIndex : Obligations.OpcodeIndex := by
  refine ⟨rfl, fun b hb => bodyOf_code hb, fun c s hop hbad => ?_, fun b hb c s hop hbad hsafety hsys hctx hunits => ?_⟩
  · have hnone := bodyOf_none hop
    exact ⟨hnone, hnone ▸ checkHeader_unlisted hbad⟩
  · rw [hop, bodyOf_code hb]
    exact checkHeader_length hbad hsafety hsys hctx hunits

/-! ### The end of a refused command (R48, R57) -/

section
variable {s t : State} {b : Body} {c : Cmd} {r : Result} {n : Nat}

theorem signalFor_unasked (h : c.signal = false) : t.signalFor n c = t := by
  simp only [State.signalFor, h, Bool.not_false, if_true]

/-- A fold that does not translate takes no SIGNAL (R57). -/
theorem signalFor_untranslated (hhold : t.safety.hold = false) (h : t.translate c.ctx c.fold = none) :
    t.signalFor n c = t := by
  unfold State.signalFor State.signalOne
  simp only [hhold, h, Bool.false_eq_true, if_false, ite_self]

/-- A window command that signals nothing ends with its final record. -/
theorem given_finish (hw : c.src.window = true) (hstill : s.still)
    (hsig : ∀ k, State.signalFor { s with cmd := k } s.cmd.accepted c = { s with cmd := k }) :
    (s.given c).finish s.cmd.accepted c r = s.replied c r := by
  have hwait : s.cmd.waiting = [] := hstill.2.1
  unfold State.finish
  dsimp only
  unfold State.given State.replied State.onCmd
  dsimp only
  rw [hsig]
  unfold State.final State.onWindow State.onCmd CmdIf.window
  cases hc : c.src with
  | sp => simp [Source.isSp, hwait]
  | ctl => simp [Source.isSp, hwait]
  | ring n => simp [hc, Source.window] at hw
  | mbox p x y => simp [hc, Source.window] at hw

theorem given_ends (hw : c.src.window = true) (hstill : s.still)
    (hsig : ∀ k, State.signalFor { s with cmd := k } s.cmd.accepted c = { s with cmd := k }) :
    (s.given c).ends s.cmd.accepted c r = s.replied c r := by
  unfold State.ends
  rw [given_finish hw hstill hsig, replied_carryOn hstill]

/-! ### A packet of an opcode that the index does not list (R50) -/

/-- A packet is counted as it is accepted. -/
def State.counted (s : State) : State :=
  s.onCmd fun k => { k with accepted := k.accepted + 1, acceptMck := s.mck + 1 }

theorem accept_refused {o : Option Body} (h : s.counted.checkHeader o c = some r) :
    s.accept o c = s.counted.finish s.cmd.accepted c r := by
  unfold State.accept
  dsimp only
  unfold State.counted at *
  rw [h]

theorem State.window_onWindow (s : State) (sp : Bool) (f : CmdWindow → CmdWindow) :
    (s.onWindow sp f).window sp = f (s.window sp) := by
  cases sp <;> rfl

/-- A packet that is put in a window which is not busy is the next to be accepted. -/
theorem window_arrives {sp : Bool} (hs : c.src = windowSource sp) (hq : s.quiet = true)
    (hbusy : (s.window c.src.isSp).busy = false) :
    (s.arrive c).acceptOne = some (State.accept
      (s.onWindow sp fun w => { w with buf := c.pkt, busy := true, done := false, given := none })
      (bodyOf c.op) c) := by
  obtain ⟨-, ⟨-, hwait, -, hsp, -⟩, hctl, hspWait, -, hmck, -⟩ := (State.quiet_iff s).1 hq
  have hisSp : c.src.isSp = sp := by rw [hs]; cases sp <;> rfl
  have hpacket : s.arrive c = s.windowPacket sp c := by unfold State.arrive; rw [hs]; cases sp <;> rfl
  have hcmd : ({ src := windowSource sp, pkt := c.pkt } : Cmd) = c := by rw [← hs]
  have hempty : (if sp = true then s.reg.waitSp else s.reg.waitCtl).isEmpty = true := by
    cases sp
    · simp [hctl]
    · simp [hspWait]
  have hfree : ¬ ((s.onWindow sp fun w => { w with buf := c.pkt }).window sp).busy = true := by
    rw [hisSp] at hbusy
    rw [State.window_onWindow]
    simp [hbusy]
  rw [hpacket, State.windowPacket, if_pos hempty, State.windowGo, if_neg hfree,
    window_accepted sp c.pkt (by cases sp <;> exact hmck) (by cases sp <;> exact hwait) (by cases sp <;> rfl)
      (by intro h; subst h; exact hsp), hcmd]
  cases sp <;> rfl

theorem State.windowGo_ready (s : State) (sp : Bool) : (s.windowGo sp).ready = s.ready := by
  unfold State.windowGo
  split <;> rfl

theorem arrive_ready {sp : Bool} (hs : c.src = windowSource sp) : (s.arrive c).ready = s.ready := by
  have hpacket : s.arrive c = s.windowPacket sp c := by unfold State.arrive; rw [hs]; cases sp <;> rfl
  rw [hpacket, State.windowPacket, apply_ite State.ready, State.windowGo_ready]
  exact ite_self _

theorem unlisted_settles (hq : s.quiet = true) (hw : c.src.window = true) (hbusy : (s.window c.src.isSp).busy = false)
    (hop : bodyOf c.op = none) (hr : s.checkHeader none c = some r) :
    (s.arrive c).settle = (s.given c).ends s.cmd.accepted c r := by
  obtain ⟨sp, hs⟩ : ∃ sp, c.src = windowSource sp := by
    cases hc : c.src with
    | sp => exact ⟨true, rfl⟩
    | ctl => exact ⟨false, rfl⟩
    | ring n => simp [hc, Source.window] at hw
    | mbox p x y => simp [hc, Source.window] at hw
  obtain ⟨hready, -⟩ := (State.quiet_iff s).1 hq
  have hcounted : State.counted (s.onWindow sp fun w =>
      { w with buf := c.pkt, busy := true, done := false, given := none }) = s.given c := by
    unfold State.given
    rw [hs]
    cases sp <;> rfl
  have hrefused := accept_refused (s := s.onWindow sp fun w =>
    { w with buf := c.pkt, busy := true, done := false, given := none }) (o := none) (c := c) (r := r) hr
  rw [hcounted] at hrefused
  unfold State.settle State.ends
  rw [if_pos ((arrive_ready hs).trans hready), window_arrives hs hq hbusy, hop, Option.getD_some, hrefused]
  cases sp <;> rfl

/-! ### A SIGNAL whose fold does not translate, and an access that is barred (R57, R114) -/

theorem refusal_untranslated (hsignal : c.signal = true) (hfold : s.translate c.ctx c.fold = none)
    (hheader : (s.given c).checkHeader (some b) c = none) (hr : s.refusal b c = some r) :
    r = { status := .badParam, detail := 12 } := by
  have hfold' : ((s.given c).translate c.ctx c.fold).isNone = true := by
    rw [show (s.given c).translate c.ctx c.fold = none from hfold]
    rfl
  unfold State.refusal at hr
  rw [hheader, checkState_of_header hheader, State.checkParams, if_pos ⟨hsignal, hfold'⟩] at hr
  exact (Option.some.inj hr).symm

theorem barredBy_result (h : s.barredBy b c = some r) : r.status = .perm ∧ r.detail = 3 := by
  unfold State.barredBy at h
  split at h
  · obtain rfl := Option.some.inj h
    exact ⟨rfl, rfl⟩
  · cases h

end

/-- Settles O3: a refused packet only ends. Without SIGNAL, or where the fold of its SIGNAL does not translate, the end
is its final record; a packet of an unlisted opcode is refused by check 3. -/
theorem refusedCommandChangesNothing : Obligations.RefusedCommandChangesNothing := by
  refine ⟨fun b c s r hb hg hsignal hr => ?_, fun b c s r hb hg hsignal hr => ?_, fun c s r hq hw hbusy hop hr => ?_,
    fun b c s r hb hg hr hbar => ?_⟩
  · have hrow := runRow_refused (bodyOf_code hb) hg hsignal hr
    exact ⟨hrow, fun hrange => hrow.trans (noteRange_none hrange)⟩
  · have hrow := runRow_refusal (bodyOf_code hb) hg hr
    refine ⟨hrow, fun hfold hheader hhold => ?_⟩
    have hstill := ((State.quiet_iff s).1 (gives_quiet hg)).2.1
    have hresult := refusal_untranslated hsignal hfold hheader hr
    refine ⟨hresult, ?_⟩
    rw [hrow, noteRange_none (by rw [hresult]),
      given_ends (gives_window hg) hstill fun k => signalFor_untranslated hhold hfold]
  · have hstill := ((State.quiet_iff s).1 hq).2.1
    have hsettle := unlisted_settles hq hw hbusy hop hr
    exact ⟨hsettle, fun hsignal => hsettle.trans (given_ends hw hstill fun k => signalFor_unasked hsignal)⟩
  · have hrow := runRow_barred (bodyOf_code hb) hg hr hbar
    obtain ⟨hstatus, hdetail⟩ := barredBy_result hbar
    exact ⟨hstatus, hdetail, hrow⟩

end Sys2Proof.Machine
end

section
/-!
PROOFS. The commands of the Drover and the self-test (R53, R70, R71, R74, R349, R353, R358): each is entered as a
deferred command, and queues its job or begins its test.
-/

namespace Sys2Proof.Machine

section
variable {s t : State} {b : Body} {c : Cmd}

/-- A deferred command that a window gives goes on by itself, and nothing else does. -/
theorem runRow_goesOn (hb : bodyOf b.code = some b) (h : s.takes b c = true) (hd : c.defers = true)
    (hf : b.fetch c (s.touched b c) = none)
    (ha : b.act s.cmd.accepted c ((s.reached b c).deferred b c) = .running t) (ht : t.still) : runRow b c s = t := by
  rw [runRow_deferred hb h hd hf, ha]
  exact carryOn_of_still ht

theorem runRow_deferred_ends {r : Result} (hb : bodyOf b.code = some b) (h : s.takes b c = true) (hd : c.defers = true)
    (hf : b.fetch c (s.touched b c) = none)
    (ha : b.act s.cmd.accepted c ((s.reached b c).deferred b c) = .done r t) :
    runRow b c s = t.ends s.cmd.accepted c r := by
  rw [runRow_deferred hb h hd hf, ha]
  rfl

theorem takes_deferred_still (h : s.takes b c = true) : ((s.reached b c).deferred b c).still :=
  deferred_still (State.reached_still b c (takes_still h))

/-- What does not read the command interface or the power controller is the same once a command has been entered. -/
theorem State.deferred_reads {α : Type} {f : State → α}
    (hf : ∀ (t : State) k p, f { t with cmd := k, power := p } = f t) (s : State) (b : Body) (c : Cmd) :
    f ((s.reached b c).deferred b c) = f s :=
  (hf (s.reached b c) _ (s.reached b c).power).trans
    (State.reached_eq (fun t p => hf t t.cmd p) s b c)

/-! ### Jobs (R70, R71, R74) -/

theorem queueJob_still {j : Job} (h : t.still) : (t.queueJob j).still := h

theorem given_allJobs (s : State) (c : Cmd) : (s.given c).allJobs = s.allJobs := by
  unfold State.given State.onCmd CmdIf.window
  split <;> rfl

theorem given_evacuates (s : State) (c : Cmd) (j : Job) : (s.given c).evacuates j = s.evacuates j := by
  unfold State.given State.onCmd CmdIf.window
  split <;> rfl

theorem given_job? (s : State) (c : Cmd) (i : Nat) : (s.given c).job? i = s.job? i := by
  unfold State.job?
  rw [given_allJobs]

theorem given_jobDone (s : State) (c : Cmd) (j : Job) : (s.given c).jobDone j = s.jobDone j := by
  unfold State.jobDone
  rw [given_evacuates]
  rfl

theorem drvCancel_act {j : Job} (n : Nat) (hj : s.job? (c.par 0 2) = some j) :
    bodyDrvCancel.act n c (s.given c) = Act.ok ((s.given c).stopJob j .abandoned) := by
  simp only [bodyDrvCancel, given_job?, hj]

theorem drvQuery_act {j : Job} (n : Nat) (hj : s.job? (c.par 0 2) = some j) :
    bodyDrvQuery.act n c (s.given c) = .done { status := .ok, result := s.jobDone j } (s.given c) := by
  simp only [bodyDrvQuery, given_job?, hj, given_jobDone]

/-! ### Tests (R353, R356, R358) -/

theorem startTest_still {k slot test : Nat} {next : Option Nat} {who : Option (Nat × Cmd)} (h : t.still) :
    (t.startTest k slot test next who).still := h

theorem penBank_evacuates (n : Nat) (hagain : penAgain c = false) (hspare : (s.spareOf (c.par 0 1)).isSome = true) :
    bodyPenBank.act n c s = .running (s.queueJob
      { id := 0, kind := .evacuate, who := some (n, c), ctx := c.ctx, cluster := c.par 0 1
        bank := c.par 1 1, test := some (c.par 2 1) }) := by
  simp only [bodyPenBank, hagain, hspare, Bool.false_eq_true, if_false, if_true]

theorem penBank_retires (n : Nat) (hagain : penAgain c = false) (hspare : s.spareOf (c.par 0 1) = none) :
    bodyPenBank.act n c s = .done (bistResult 3 (s.lbank (16 * c.par 0 1 + c.par 1 1)).slot none)
      (s.bankOut (16 * c.par 0 1 + c.par 1 1)) := by
  simp only [bodyPenBank, hagain, hspare, Option.isSome_none, Bool.false_eq_true, if_false]

theorem penBank_tests {slot : Nat} (n : Nat) (hagain : penAgain c = true) (hslot : s.pennedOf (c.par 0 1) = some slot) :
    bodyPenBank.act n c s = .running
      (s.startTest (c.par 0 1) slot (firstTest (c.par 2 1)).1 (firstTest (c.par 2 1)).2 (some (n, c))) := by
  simp only [bodyPenBank, hagain, hslot, if_true]

end

/-- Settles O14: a job's number and a test's first row are given to the command that was entered as deferred; what they
ask of the block (the spare, the penned slot, BCK) its entry does not change (`State.deferred_reads`). -/
theorem droverAndTestCommands : Obligations.DroverAndTestCommands := by
  refine ⟨fun c s => ⟨fun h => ?_, fun h => ?_, fun h => ?_, fun h => ?_, fun j h hj => ?_, fun j h hj => ?_⟩,
    fun c s => ⟨fun h => ?_, fun h hagain hspare => ?_, fun h hagain hspare => ?_, fun slot h hagain hslot => ?_⟩⟩
  · exact congrArg Host.Outcome.next
      (runRow_goesOn rfl h (takes_defers h) rfl rfl (queueJob_still (takes_deferred_still h)))
  · exact congrArg Host.Outcome.next
      (runRow_goesOn rfl h (takes_defers h) rfl rfl (queueJob_still (takes_deferred_still h)))
  · exact congrArg Host.Outcome.next
      (runRow_goesOn rfl h (takes_defers h) rfl rfl (queueJob_still (takes_deferred_still h)))
  · exact congrArg Host.Outcome.next
      (runRow_goesOn rfl h (takes_defers h) rfl rfl (queueJob_still (takes_deferred_still h)))
  · exact congrArg Host.Outcome.next (runRow_ends_given rfl h rfl rfl rfl (drvCancel_act _ hj))
  · exact congrArg Host.Outcome.next (runRow_replied_given rfl h rfl rfl rfl (drvQuery_act _ hj))
  · have hrow := runRow_goesOn rfl h (takes_defers h) rfl rfl (startTest_still (takes_deferred_still h))
    have hbck := State.deferred_reads (f := State.bck) (fun _ _ _ => rfl) s bodyBistRun c
    refine (congrArg Host.Outcome.next hrow).trans ?_
    rw [State.startTest, hbck]
  · have hread := State.deferred_reads (f := fun u => u.spareOf (c.par 0 1)) (fun _ _ _ => rfl) s bodyPenBank c
    have hact := penBank_evacuates s.cmd.accepted hagain (hread ▸ hspare)
    exact congrArg Host.Outcome.next
      (runRow_goesOn rfl h (takes_defers h) rfl hact (queueJob_still (takes_deferred_still h)))
  · have hread := State.deferred_reads (f := fun u => u.spareOf (c.par 0 1)) (fun _ _ _ => rfl) s bodyPenBank c
    have hslot := State.deferred_reads (f := fun u => (u.lbank (16 * c.par 0 1 + c.par 1 1)).slot)
      (fun _ _ _ => rfl) s bodyPenBank c
    have hact := penBank_retires s.cmd.accepted hagain (hread.trans hspare)
    have hrow := runRow_deferred_ends rfl h (takes_defers h) rfl hact
    exact congrArg Host.Outcome.next (hslot ▸ hrow)
  · have hread := State.deferred_reads (f := fun u => u.pennedOf (c.par 0 1)) (fun _ _ _ => rfl) s bodyPenBank c
    have hact := penBank_tests s.cmd.accepted hagain (hread.trans hslot)
    exact congrArg Host.Outcome.next
      (runRow_goesOn rfl h (takes_defers h) rfl hact (startTest_still (takes_deferred_still h)))

end Sys2Proof.Machine
end

section
/-!
PROOFS. Commands that initiator 64 reads the parameters of (R49, R61, R146, R164), and STALL_SWAP, which waits for its
swap (R147).
-/

namespace Sys2Proof.Machine

section
variable {s t : State} {b : Body} {c : Cmd} {w : Waiting} {id : Nat}

/-! ### The parameters have been read (R49, R61) -/

/-- The answers have been taken, and the command waits no longer. -/
def State.readDone (s : State) (id token : Nat) : State :=
  (s.takeAnswers id).onCmd fun k => { k with waiting := k.waiting.filter (fun x => x.token != token) }

section
variable {rs : List Resp} {a n : Nat} (hb : bodyOf w.cmd.op = some b) (hwhy : w.why = .reading id)
  (hfetch : b.fetch w.cmd s = some (a, n)) (hasked : s.asked id = some rs)
include hb hwhy hfetch hasked

theorem readOver_refused {st : Status} (hfault : answerFault rs = some st) :
    s.readOver bodyOf w = some ((s.readDone id w.token).refuse w.token w.cmd { status := st, refused := some a }) := by
  simp only [State.readOver, hwhy, hb, hasked, hfetch, hfault]
  rfl

theorem readOver_done {r : Result} (hfault : answerFault rs = none)
    (hjudge : (s.readDone id w.token).judgment b w.token w.half.isSome (some w.why) w.cmd = none)
    (hact : b.actGot (gotOf rs a n) w.token w.cmd (s.readDone id w.token) = .done r t) :
    s.readOver bodyOf w = some (t.finish w.token w.cmd r) := by
  rw [hwhy] at hjudge
  unfold State.readDone at hjudge hact
  simp only [State.readOver, hwhy, hb, hasked, hfetch, hfault, hjudge, hact]

end

/-- What the command in front has read is settled where no packet is accepted. -/
theorem settleOne_reads {rest : List Waiting} (hacc : s.acceptOne = none) (hwait : s.cmd.waiting = w :: rest)
    (hread : s.readOver bodyOf w = some t) : s.settleOne = some t := by
  unfold State.settleOne
  rw [hacc, hwait, List.findSome?_cons, hread]

/-! ### STALL_LOAD (R146, R168) and ADMIT (R164 to R166) -/

/-- The book of the admission checks with another shadow copy of a sub-port (R168). -/
def Book.withShadow (b : Book) (n : Nat) (k : StallCopy) : Book :=
  { b with copy := fun m sh => if m = n ∧ sh then k else b.copy m sh }

/-- The shadow copy of the sub-port that a STALL_LOAD names, with the entries that it has read. -/
def State.loadedShadow (s : State) (c : Cmd) (got : Got) : StallCopy :=
  (s.sub (c.par 0 1)).shd.load (c.par 2 2) (c.par 4 2) (c.par 6 2) got.bytes

theorem stallLoad_actGot {got : Got} {n : Nat} (hmarked : got.marked = [])
    (hlegal : (List.range (c.par 4 2)).all (fun i => stallEntryOk s.cfg (entryAt got.bytes i)) = true)
    (hstalls : (s.book.withShadow (c.par 0 1) (s.loadedShadow c got)).checkStalls = none)
    (htolls : (s.book.withShadow (c.par 0 1) (s.loadedShadow c got)).checkTolls = none) :
    bodyStallLoad.actGot got n c s =
      Act.ok (s.onSub (c.par 0 1) fun u => { u with shd := s.loadedShadow c got }).reckon := by
  unfold Book.withShadow State.loadedShadow at *
  simp only [bodyStallLoad, hmarked, hlegal, hstalls, htolls, ne_eq, not_true_eq_false, if_false, Bool.not_true,
    Bool.false_eq_true, Option.none_or]

theorem admissionSet_actGot {got : Got} {n : Nat} (hmarked : got.marked = [])
    (hsound : setBad s.cfg s.gov.guarantees ((List.range (c.par 8 2)).map (recordAt got.bytes)) = none)
    (hcheck : Book.check { s.book with
      admitted := s.gov.guarantees, set := (List.range (c.par 8 2)).map (recordAt got.bytes) } = none) :
    bodyAdmit.actGot got n c s = Act.ok (s.admitRecords ((List.range (c.par 8 2)).map (recordAt got.bytes))) := by
  simp only [bodyAdmit, hmarked, hsound, hcheck]

/-! ### STALL_SWAP (R147) -/

/-- A command that waits for its own swap is started by nothing that the command interface does. -/
theorem settleOne_swaps (hacc : s.acceptOne = none) (hwait : s.cmd.waiting = [w]) (hwhy : w.why = .ownSwap) :
    s.settleOne = none := by
  have hread : s.readOver bodyOf w = none := by simp only [State.readOver, hwhy]
  have hreset : s.resetOver w = false := by simp only [State.resetOver, hwhy]
  have hripe : s.ripe bodyOf w = false := by simp [State.ripe, WaitFor.ownEvent, WaitFor.started, hwhy]
  unfold State.settleOne
  simp [hacc, hwait, hread, hreset, hripe]

/-- A command joins those that wait in a still command interface, and nothing moves. -/
theorem await_ownSwap_carryOn (h : s.still) (n : Nat) :
    (s.await n c none .ownSwap).carryOn = s.await n c none .ownSwap := by
  obtain ⟨harrived, hwait, hrecords, hsp, hctl, hfetched, hevents⟩ := h
  have hone : (s.await n c none .ownSwap).settleOne = none :=
    settleOne_swaps (w := { token := n, cmd := c, why := .ownSwap, half := none })
      (acceptOne_none harrived hsp hctl hfetched)
      (show s.cmd.waiting ++ _ = _ by rw [hwait]; rfl) rfl
  unfold State.carryOn
  rw [settleN_of_none hone]
  unfold State.moveRuns
  rw [if_pos (show (s.await n c none .ownSwap).eventsStill = true from hevents),
    flushRecords_nil (show (s.await n c none .ownSwap).cmd.records = [] from hrecords)]

theorem onSubs_still {f : State → SubPort → SubPort} (l : List Nat) (h : s.still) :
    (l.foldl (fun u n => u.onSub n (f u)) s).still := by
  induction l generalizing s with
  | nil => exact h
  | cons n l ih => exact ih (s := s.onSub n (f s)) h

/-- The swap times of a STALL_SWAP go by the XCK in which it starts. -/
theorem onSubs_xck (f : Nat → SubPort → SubPort) (l : List Nat) (s : State) :
    l.foldl (fun u n => u.onSub n (f u.clock.xck)) s = l.foldl (fun u n => u.onSub n (f s.clock.xck)) s := by
  induction l generalizing s with
  | nil => rfl
  | cons n l ih => exact ih (s.onSub n (f s.clock.xck))

/-- What a STALL_SWAP of number `n` that comes in XCK `x` leaves in a sub-port of its mask. -/
def swapMarked (c : Cmd) (n x : Nat) (u : SubPort) : SubPort :=
  { u with swapAt := some (u.swapTime x (c.par 8 1 == 1), n), swapping := some n }

theorem stallSwap_row (h : s.takes bodyStallSwap c = true) :
    runRow bodyStallSwap c s =
      ((swapMask c).foldl (fun t n => t.onSub n (swapMarked c s.cmd.accepted s.clock.xck)) (s.given c)).await
        s.cmd.accepted c none .ownSwap := by
  have hrow := runRow_running_given (b := bodyStallSwap) rfl h rfl rfl rfl rfl
  have hxck := onSubs_xck (swapMarked c s.cmd.accepted) (swapMask c) (s.given c)
  have hstill := onSubs_still (f := fun u => swapMarked c s.cmd.accepted u.clock.xck) (swapMask c)
    (given_quiet c (gives_quiet (takes_gives h).1))
  rw [hrow]
  refine (await_ownSwap_carryOn hstill _).trans ?_
  rw [hxck]
  rfl

end

/-- Settles O9: a STALL_LOAD that has been read ends by what it read, in the settling of the block, and a STALL_SWAP
joins those that wait, where nothing starts it but its swap. -/
theorem stallCommands : Obligations.StallCommands := by
  refine fun c s => ⟨fun h => ?_, fun w id rest rs hop hw hwhy hwait hacc hasked => ?_, fun h => ?_⟩
  · exact congrArg Host.Outcome.next (runRow_fetch rfl h rfl)
  · subst hw
    have hb : bodyOf w.cmd.op = some bodyStallLoad := by rw [hop]; rfl
    refine ⟨fun st hfault => ?_, fun hfault hjudge hmarked hlegal hstalls htolls => ?_⟩
    · exact settleOne_reads hacc hwait (readOver_refused hb hwhy rfl hasked hfault)
    · exact settleOne_reads hacc hwait
        (readOver_done hb hwhy rfl hasked hfault hjudge (stallLoad_actGot hmarked hlegal hstalls htolls))
  · exact congrArg Host.Outcome.next (stallSwap_row h)

/-- Settles O10: as for STALL_LOAD, with the records of a set; GUARANTEE_RELEASE ends with its removal. -/
theorem admissionCommands : Obligations.AdmissionCommands := by
  refine fun c s => ⟨fun h => ?_, fun w id rest rs hop hw hwhy hwait hacc hasked => ?_, fun h => ?_⟩
  · exact congrArg Host.Outcome.next (runRow_fetch rfl h rfl)
  · subst hw
    have hb : bodyOf w.cmd.op = some bodyAdmit := by rw [hop]; rfl
    refine ⟨fun st hfault => ?_, fun hfault hjudge hmarked hsound hcheck => ?_⟩
    · exact settleOne_reads hacc hwait (readOver_refused hb hwhy rfl hasked hfault)
    · exact settleOne_reads hacc hwait
        (readOver_done hb hwhy rfl hasked hfault hjudge (admissionSet_actGot hmarked hsound hcheck))
  · exact congrArg Host.Outcome.next (runRow_ends_given rfl h rfl rfl rfl rfl)

end Sys2Proof.Machine
end

section
/-!
PROOFS. The rows of the command shell (R56 to R64, R133): the fetch of a ring by what it waits for, the packet of a ring
that is accepted, and the deferred commands that go on.
-/

namespace Sys2Proof.Machine

/-! ### The rows of the table -/

theorem exec_ringFetch {s : State} {n : Nat} (h : s.ready = true) (hn : n < 16) :
    exec (.ringFetch n) s = .next (s.ringFetch n).settle := by
  refine congrArg Host.Outcome.next ((State.live_of_ready h _).trans ?_)
  rw [if_pos hn]

theorem exec_commandStartAfterPrev {s : State} (h : s.ready = true) (token : Nat) :
    exec (.commandStartAfterPrev token) s = .next (s.startAfterPrev bodyOf token).settle :=
  congrArg Host.Outcome.next (State.live_of_ready h fun s => s.startAfterPrev bodyOf token)

theorem exec_drainComplete {s : State} (h : s.ready = true) (token : Nat) :
    exec (.drainComplete token) s = .next (s.drainComplete token).settle :=
  congrArg Host.Outcome.next (State.live_of_ready h fun s => s.drainComplete token)

section
variable {s : State} {n : Nat}

/-! ### What a fetch brings (R61, R326) -/

section
variable {req units : Nat} {rs : List Resp} {go : State → List Byte → State} (hasked : s.asked req = some rs)
include hasked

theorem State.fetched_refused {st : Status} (hfault : answerFault rs = some st) :
    s.fetched n units req go =
      ((s.takeAnswers req).safetyRefusal 64 (((s.ring n).spans units).headD (0, 0)).1 st).haltRing n .fetchDecerr := by
  simp only [State.fetched, hasked, hfault]
  rfl

theorem State.fetched_marked (hfault : answerFault rs = none)
    (hmark : (spanBytes rs ((s.ring n).spans units)).any Prod.snd = true) :
    s.fetched n units req go =
      (s.takeAnswers req).fetchMarked n ((s.ring n).spans units) (spanBytes rs ((s.ring n).spans units)) := by
  simp only [State.fetched, hasked, hfault, hmark, if_true]

theorem State.fetched_good (hfault : answerFault rs = none)
    (hclean : (spanBytes rs ((s.ring n).spans units)).any Prod.snd = false) :
    s.fetched n units req go = go s ((spanBytes rs ((s.ring n).spans units)).map Prod.fst) := by
  simp only [State.fetched, hasked, hfault, hclean, Bool.false_eq_true, if_false]

end

/-! ### The steps of a fetch (R51, R60, R64, R68) -/

theorem State.fetchHeld_false (hhold : s.safety.hold = false) (hheld : s.sourceHeld (.ring n) = false) :
    s.fetchHeld n = false := by
  simp only [State.fetchHeld, hhold, hheld, Bool.or_self]

theorem State.fetchHeld_true (h : s.safety.hold = true ∨ s.sourceHeld (.ring n) = true) : s.fetchHeld n = true := by
  simpa only [State.fetchHeld, Bool.or_eq_true] using h

section
variable (hrun : (s.ring n).halted = false)
include hrun

theorem State.ringFetch_head {req : Nat} (hfetch : (s.ring n).fetch = .head req) :
    s.ringFetch n = s.fetched n 1 req fun s bs => s.headRead n req bs := by
  simp only [State.ringFetch, hrun, hfetch, Bool.false_eq_true, if_false]

theorem State.ringFetch_body {req units : Nat} (hfetch : (s.ring n).fetch = .body req units) :
    s.ringFetch n = s.fetched n units req fun s bs =>
      (s.takeAnswers req).onRing n fun r => { r with fetch := .ready (packetOf n bs) } := by
  simp only [State.ringFetch, hrun, hfetch, Bool.false_eq_true, if_false]

section
variable (hfetch : (s.ring n).fetch = .none)
include hfetch

theorem State.ringFetch_idle (h : s.safety.hold = true ∨ (s.ring n).en = false ∨ (s.ring n).present = 0 ∨
      s.sourceHeld (.ring n) = true ∨ s.turnTaken (.ring n) s.cmd.accepted = true) : s.ringFetch n = s := by
  have hstays : s.fetchHeld n = true ∨ ¬ (s.ring n).en = true ∨ (s.ring n).present = 0 ∨
      s.turnTaken (.ring n) s.cmd.accepted = true := by
    rw [State.fetchHeld, Bool.or_eq_true, Bool.not_eq_true]
    tauto
  simp only [State.ringFetch, hrun, hfetch, hstays, Bool.false_eq_true, if_false, if_true]

section
variable (hhold : s.safety.hold = false) (hen : (s.ring n).en = true) (hpresent : (s.ring n).present ≠ 0)
  (hheld : s.sourceHeld (.ring n) = false) (hturn : s.turnTaken (.ring n) s.cmd.accepted = false)
include hhold hen hpresent hheld hturn

theorem State.ringFetch_overfull (hover : 2 ^ (s.ring n).sizeLog2.toNat < (s.ring n).present) :
    s.ringFetch n = s.haltRing n .doorbell := by
  simp only [State.ringFetch, hrun, hfetch, State.fetchHeld_false hhold hheld, hen, hpresent, hturn, hover,
    Bool.false_eq_true, not_true_eq_false, or_self, if_false, if_true]

theorem State.ringFetch_asks (hfits : (s.ring n).present ≤ 2 ^ (s.ring n).sizeLog2.toNat) :
    s.ringFetch n = s.askFetch n 1 .head := by
  simp only [State.ringFetch, hrun, hfetch, State.fetchHeld_false hhold hheld, hen, hpresent, hturn,
    Nat.not_lt.2 hfits, Bool.false_eq_true, not_true_eq_false, or_self, if_false]

end

end

end

section
variable {req : Nat} {bs : List Byte} (hfits : headUnits bs ≤ (s.ring n).present)
include hfits

theorem State.headRead_one (hone : headUnits bs = 1) :
    s.headRead n req bs = (s.takeAnswers req).onRing n fun r => { r with fetch := .ready (packetOf n bs) } := by
  unfold State.headRead
  rw [if_neg (Nat.not_lt.2 hfits), if_pos hone]

theorem State.headRead_held (hmore : headUnits bs ≠ 1) (hheld : s.fetchHeld n = true) : s.headRead n req bs = s := by
  unfold State.headRead
  rw [if_neg (Nat.not_lt.2 hfits), if_neg hmore, if_pos hheld]

theorem State.headRead_asks (hmore : headUnits bs ≠ 1) (hfree : s.fetchHeld n = false) :
    s.headRead n req bs = (s.takeAnswers req).askFetch n (headUnits bs) fun id => .body id (headUnits bs) := by
  unfold State.headRead
  rw [if_neg (Nat.not_lt.2 hfits), if_neg hmore, if_neg (by simp [hfree])]

end

/-! ### Packets and commands that go on (R42, R56, R59, R63, R133) -/

theorem State.acceptOne_first {g : Given} {rest : List Given} (hfirst : s.givens = g :: rest)
    (hfree : s.cmd.acceptMck ≠ s.mck + 1) : s.acceptOne = some (s.acceptGiven g) := by
  simp only [State.acceptOne, hfree, hfirst, if_false]

theorem State.startAfterPrev_resumes {find : Nat → Option Body} {token : Nat} {w : Waiting} {b : Body}
    (hw : s.cmd.waiting.find? (fun w => w.token == token) = some w) (hwhy : w.why = .prev)
    (hprev : s.prevRuns w.cmd.src token = false) (hb : find w.cmd.op = some b) :
    s.startAfterPrev find token = s.resume b w := by
  simp [State.startAfterPrev, hw, hwhy, hprev, hb]

theorem State.drainComplete_ends {token : Nat} {d : Deferred}
    (hd : s.cmd.deferred.find? (fun d => d.token == token) = some d) (hop : d.cmd.op = 0x005)
    (hdrained : s.drained d.cmd d.since = true) : s.drainComplete token = s.finish token d.cmd { status := .ok } := by
  simp only [State.drainComplete, hd, hop, hdrained, and_self, if_true]

end

/-- Settles O27: each clause is one branch of the step of a ring's fetch, or of the row that lets a command go on; what
then settles is the same on both sides. -/
theorem shellRows : Obligations.ShellRows := by
  refine ⟨fun n s hready hn hrun =>
      ⟨fun hfetch => ⟨fun hidle => ?_, fun hhold hen hpresent hheld hturn => ⟨fun hover => ?_, fun hfits => ?_⟩⟩,
        fun req rs st hfetch hasked hfault => ?_,
        fun req rs hfetch hasked hfault => ⟨fun hmark => ?_, fun hclean hfits hone => ?_,
          fun hclean hfits hmore hheld => ?_, fun hclean hfits hmore hhold hheld => ?_⟩,
        fun req rs units st hfetch hasked hfault => ?_, fun req rs units hfetch hasked hfault hmark => ?_,
        fun req rs units hfetch hasked hfault hclean => ?_⟩,
    fun n c rest s hfirst hfree => State.acceptOne_first hfirst hfree,
    fun s hready => ⟨fun token w b hw hwhy hprev hb => ?_, fun token d hd hop hdrained => ?_⟩⟩
  · rw [exec_ringFetch hready hn, State.ringFetch_idle hrun hfetch hidle]
  · rw [exec_ringFetch hready hn, State.ringFetch_overfull hrun hfetch hhold hen hpresent hheld hturn hover]
  · rw [exec_ringFetch hready hn, State.ringFetch_asks hrun hfetch hhold hen hpresent hheld hturn hfits]
  · rw [exec_ringFetch hready hn, State.ringFetch_head hrun hfetch, State.fetched_refused hasked hfault]
  · rw [exec_ringFetch hready hn, State.ringFetch_head hrun hfetch, State.fetched_marked hasked hfault hmark]
  · rw [exec_ringFetch hready hn, State.ringFetch_head hrun hfetch, State.fetched_good hasked hfault hclean,
      State.headRead_one hfits hone]
  · rw [exec_ringFetch hready hn, State.ringFetch_head hrun hfetch, State.fetched_good hasked hfault hclean,
      State.headRead_held hfits hmore (State.fetchHeld_true hheld)]
  · rw [exec_ringFetch hready hn, State.ringFetch_head hrun hfetch, State.fetched_good hasked hfault hclean,
      State.headRead_asks hfits hmore (State.fetchHeld_false hhold hheld)]
  · rw [exec_ringFetch hready hn, State.ringFetch_body hrun hfetch, State.fetched_refused hasked hfault]
  · rw [exec_ringFetch hready hn, State.ringFetch_body hrun hfetch, State.fetched_marked hasked hfault hmark]
  · rw [exec_ringFetch hready hn, State.ringFetch_body hrun hfetch, State.fetched_good hasked hfault hclean]
  · rw [exec_commandStartAfterPrev hready, State.startAfterPrev_resumes hw hwhy hprev hb]
  · rw [exec_drainComplete hready, State.drainComplete_ends hd hop hdrained]

end Sys2Proof.Machine
end

section
/-!
PROOFS. An operation at its fold unit (R48, R267 to R271): the fold is written when the operation is counted and when it
is put in ERROR; flags, waiters and the answer leave every fold alone.
-/

namespace Sys2Proof.Machine

/-! ### What the flags, the waiters and the answer leave alone -/

/-- The folds, the memory and the safety partition. -/
def State.foldsKept (s : State) : Tbl Fold × List Host.Cell × Safety := (s.folds.folds, s.mem, s.safety)

theorem fold_of_foldsKept {s t : State} (h : t.foldsKept = s.foldsKept) (j : Nat) : t.fold j = s.fold j := by
  have htable : t.folds.folds = s.folds.folds := congrArg Prod.fst h
  simp only [State.fold, htable]

theorem State.portWait_foldsKept (s : State) (k p ctx : Nat) (v : BitVec 32) :
    (s.portWait k p ctx v).2.2.foldsKept = s.foldsKept := by
  unfold State.portWait
  split <;> rfl

/-! ### The stages of an operation -/

section
variable (s : State) (o : FoldOp) (r : FoldOut)

/-- The fold of an operation. -/
def FoldOp.place (o : FoldOp) : Nat := o.cluster * 2048 + o.index

/-- What the operation gives its fold, and the counts; nothing for a FOLD_OP that is refused (R48). -/
def State.foldTakes : State :=
  if o.origin.errs || !(r.status = .underflow ∨ r.status = .badParam) then
    (s.onFold o.place fun _ => { r.fold with ops := r.fold.ops + 1 }).onFolds fun u =>
      { u with cops := u.cops.modify 0 o.cluster (· + 1) }
  else s

/-- The flags and the waiters; `f` is the fold before (R269, R273). -/
def State.foldTells (f : Fold) : State :=
  let s := if r.status = .saturated ∧ ¬ bitOf s.folds.irq.toNat 1 then s.foldEvent 1 o.place else s
  let s := if r.fold.deficitSat && !f.deficitSat then s.foldEvent 2 o.place else s
  if r.fold.value = f.value then s else s.satisfy o.place

/-- The refusal by UNDERFLOW of an operation that is no command puts its fold in ERROR (R270). -/
def State.foldErrs (f : Fold) : State :=
  if r.status = .underflow ∧ f.state = .active ∧ o.origin.errs then
    ((s.onFold o.place fun g => { g with state := .error }).foldEvent 0 o.place).onFolds fun u =>
      { u with refusedUnderflow := satAdd 0xFFFF u.refusedUnderflow 1 }
  else s

/-- The answer: an unsatisfied WAIT of a port takes a wake slot (R272). -/
def State.foldAnswers : Status × BitVec 32 × State :=
  match o.origin with
  | .port req =>
    if r.status = .defer then
      match s.outst? req with
      | some q => s.portWait o.place q.port o.ctx (BitVec.ofNat 32 o.value)
      | none => (.ok, r.token, s)
    else (r.status, r.token, s)
  | _ => (r.status, r.token, s)

theorem State.foldApply_eq :
    s.foldApply o =
      (let f := s.fold o.place
       let r := f.apply s.cfg o.op o.value
       (((s.foldTakes o r).foldTells o r f).foldErrs o r f).foldAnswers o r) := rfl

theorem State.foldTells_foldsKept (f : Fold) : (s.foldTells o r f).foldsKept = s.foldsKept := by
  unfold State.foldTells
  dsimp only
  split <;> split <;> split <;> rfl

theorem State.foldAnswers_foldsKept : (s.foldAnswers o r).2.2.foldsKept = s.foldsKept := by
  unfold State.foldAnswers
  split
  · split
    · split
      · exact State.portWait_foldsKept s _ _ _ _
      · rfl
    · rfl
  · rfl

theorem State.foldAnswers_status (h : r.status ≠ .defer) :
    (s.foldAnswers o r).1 = r.status ∧ (s.foldAnswers o r).2.1 = r.token := by
  unfold State.foldAnswers
  split
  · rw [if_neg h]
    exact ⟨rfl, rfl⟩
  · exact ⟨rfl, rfl⟩

/-! ### The folds after each stage -/

/-- The operation counts at its fold: it is not a FOLD_OP command that is refused (R48). -/
def FoldOp.counts (o : FoldOp) (r : FoldOut) : Prop :=
  o.origin.errs = true ∨ ¬ (r.status = .underflow ∨ r.status = .badParam)

theorem State.foldTakes_counted (h : o.counts r) (j : Nat) :
    (s.foldTakes o r).fold j = if j = o.place then { r.fold with ops := r.fold.ops + 1 } else s.fold j := by
  have hcond : (o.origin.errs || !decide (r.status = .underflow ∨ r.status = .badParam)) = true := by
    simpa [FoldOp.counts] using h
  rw [State.foldTakes, if_pos hcond]
  exact (fold_of_foldsKept (s := s.onFold o.place fun _ => { r.fold with ops := r.fold.ops + 1 }) rfl j).trans
    (State.fold_onFold_eq s o.place j _)

theorem State.foldTakes_refused (h : ¬ o.counts r) : s.foldTakes o r = s := by
  have hcond : ¬ (o.origin.errs || !decide (r.status = .underflow ∨ r.status = .badParam)) = true := by
    simpa [FoldOp.counts] using h
  rw [State.foldTakes, if_neg hcond]

theorem State.foldErrs_fold (f : Fold) (j : Nat) :
    (s.foldErrs o r f).fold j =
      if (r.status = .underflow ∧ f.state = .active ∧ o.origin.errs = true) ∧ j = o.place then
        { s.fold j with state := .error }
      else s.fold j := by
  unfold State.foldErrs
  split
  · next herrs =>
    refine (fold_of_foldsKept (s := s.onFold o.place fun g => { g with state := .error }) rfl j).trans ?_
    rw [State.fold_onFold_eq]
    by_cases hj : j = o.place <;> simp [hj, herrs]
  · next herrs => simp [herrs]

theorem State.foldTakes_frame : (s.foldTakes o r).mem = s.mem ∧ (s.foldTakes o r).safety = s.safety := by
  unfold State.foldTakes
  split <;> exact ⟨rfl, rfl⟩

theorem State.foldErrs_frame (f : Fold) : (s.foldErrs o r f).mem = s.mem ∧ (s.foldErrs o r f).safety = s.safety := by
  unfold State.foldErrs
  split <;> exact ⟨rfl, rfl⟩

end

/-! ### The folds after an operation -/

section
variable {s : State} {o : FoldOp} {r : FoldOut} (hr : r = (s.fold o.place).apply s.cfg o.op o.value)
include hr

/-- A fold after an operation is what the two stages leave that write folds. -/
theorem State.foldApply_fold (j : Nat) :
    (s.foldApply o).2.2.fold j =
      if (r.status = .underflow ∧ (s.fold o.place).state = .active ∧ o.origin.errs = true) ∧ j = o.place then
        { (s.foldTakes o r).fold j with state := .error }
      else (s.foldTakes o r).fold j := by
  subst hr
  rw [State.foldApply_eq, fold_of_foldsKept (State.foldAnswers_foldsKept _ _ _), State.foldErrs_fold,
    fold_of_foldsKept (State.foldTells_foldsKept _ _ _ _)]

theorem State.foldApply_counted (h : o.counts r) :
    (s.foldApply o).2.2.fold o.place = { r.fold with
      ops := r.fold.ops + 1
      state := if r.status = .underflow ∧ (s.fold o.place).state = .active ∧ o.origin.errs = true then .error
        else r.fold.state } := by
  rw [State.foldApply_fold hr, State.foldTakes_counted s o r h, if_pos rfl]
  split <;> simp_all

theorem State.foldApply_refused (hcmd : o.origin.errs = false) (h : r.status = .underflow ∨ r.status = .badParam) :
    (s.foldApply o).2.2.fold o.place = s.fold o.place := by
  have hrefused : ¬ o.counts r := by simp [FoldOp.counts, hcmd, h]
  rw [State.foldApply_fold hr, State.foldTakes_refused s o r hrefused, if_neg (by simp [hcmd])]

theorem State.foldApply_other {j : Nat} (h : j ≠ o.place) : (s.foldApply o).2.2.fold j = s.fold j := by
  rw [State.foldApply_fold hr, if_neg fun hboth => h hboth.2]
  by_cases hcounts : o.counts r
  · rw [State.foldTakes_counted s o r hcounts, if_neg h]
  · rw [State.foldTakes_refused s o r hcounts]

theorem State.foldApply_answers (h : r.status ≠ .defer) :
    (s.foldApply o).1 = r.status ∧ (s.foldApply o).2.1 = r.token := by
  subst hr
  exact State.foldAnswers_status _ o _ h

end

theorem State.foldApply_frame (s : State) (o : FoldOp) :
    (s.foldApply o).2.2.mem = s.mem ∧ (s.foldApply o).2.2.safety = s.safety := by
  have hstages (t : State) (r : FoldOut) (f : Fold) :
      (((t.foldTells o r f).foldErrs o r f).foldAnswers o r).2.2.mem = t.mem ∧
        (((t.foldTells o r f).foldErrs o r f).foldAnswers o r).2.2.safety = t.safety := by
    have hanswers := congrArg Prod.snd (State.foldAnswers_foldsKept ((t.foldTells o r f).foldErrs o r f) o r)
    have htells := congrArg Prod.snd (State.foldTells_foldsKept t o r f)
    obtain ⟨hmem, hsafety⟩ := State.foldErrs_frame (t.foldTells o r f) o r f
    exact ⟨(congrArg Prod.fst hanswers).trans (hmem.trans (congrArg Prod.fst htells)),
      (congrArg Prod.snd hanswers).trans (hsafety.trans (congrArg Prod.snd htells))⟩
  obtain ⟨hmem, hsafety⟩ := hstages (s.foldTakes o ((s.fold o.place).apply s.cfg o.op o.value))
    ((s.fold o.place).apply s.cfg o.op o.value) (s.fold o.place)
  obtain ⟨htakesMem, htakesSafety⟩ := State.foldTakes_frame s o ((s.fold o.place).apply s.cfg o.op o.value)
  exact ⟨hmem.trans htakesMem, hsafety.trans htakesSafety⟩

/-- Settles O30: of the stages of an operation only what the fold takes and the ERROR write a fold, both the one that
the operation names (`State.foldApply_fold`). -/
theorem foldApplied : Obligations.FoldApplied := by
  intro o s
  obtain ⟨hmem, hsafety⟩ := State.foldApply_frame s o
  exact ⟨State.foldApply_counted rfl, State.foldApply_refused rfl, fun j => State.foldApply_other rfl,
    State.foldApply_answers rfl, hmem, hsafety⟩

end Sys2Proof.Machine
end

section
/-!
PROOFS. One access on CTL or SP (R131, R436): where nothing waits it is performed at once, a whole word replaces what
its register held, and what its effect leaves still goes on by nothing.
-/

namespace Sys2Proof.Machine

/-! ### A whole word (R131) -/

section
variable (sp : Bool) (addr : Nat) (v : BitVec 32)

theorem wordWrite_mask : (wordWrite sp addr v).mask = 2 ^ 32 - 1 := by
  change ((List.range 4).map fun i => if bitOf (0xF : BitVec 4).toNat i then 0xFF * 2 ^ (8 * i) else 0).sum = _
  decide

theorem wordWrite_sets : (wordWrite sp addr v).sets = v.toNat := by
  rw [RegAccess.sets, wordWrite_mask, Nat.and_two_pow_sub_one_eq_mod]
  exact Nat.mod_eq_of_lt v.isLt

theorem wordWrite_over (old : Nat) : (wordWrite sp addr v).over old = v.toNat := by
  rw [RegAccess.over, wordWrite_sets, wordWrite_mask, show (0xFFFFFFFF : Nat) ^^^ (2 ^ 32 - 1) = 0 from rfl,
    Nat.and_zero, Nat.zero_or]
  exact Nat.mod_eq_of_lt v.isLt

end

/-! ### The place of an address (Table 16-1) -/

section
variable {m : Model} {blk off : Nat}

/-- A word address falls in its block at its offset. -/
theorem regPlace_parts (hblk : blk < 2 ^ 8) (hoff : off < 2 ^ 16) (hword : off % 4 = 0) :
    (BitVec.ofNat 24 (blk * 2 ^ 16 + off)).toNat / 4 * 4 / 2 ^ 16 = blk ∧
      (BitVec.ofNat 24 (blk * 2 ^ 16 + off)).toNat / 4 * 4 % 2 ^ 16 = off := by
  rw [BitVec.toNat_ofNat]
  omega

section
variable (hoff : off < 2 ^ 16) (hword : off % 4 = 0)
include hoff hword

theorem regPlace_xbar : regPlace m (BitVec.ofNat 24 (0x010000 + off)) = .xbar off := by
  obtain ⟨hblk, hrest⟩ := regPlace_parts (blk := 1) (by decide) hoff hword
  rw [one_mul] at hblk hrest
  unfold regPlace
  dsimp only
  rw [show (0x010000 : Nat) = 2 ^ 16 from rfl, hblk, hrest]
  rfl

theorem regPlace_cmd : regPlace m (BitVec.ofNat 24 (0x030000 + off)) = .cmd off := by
  obtain ⟨hblk, hrest⟩ := regPlace_parts (blk := 3) (by decide) hoff hword
  unfold regPlace
  dsimp only
  rw [show (0x030000 : Nat) = 3 * 2 ^ 16 from rfl, hblk, hrest]
  rfl

theorem regPlace_cluster {k : Nat} (hk : k < m.clusters) (hlow : off < 0x8000) :
    regPlace m (BitVec.ofNat 24 (0x080000 + k * 0x10000 + off)) = .cluster k off := by
  have hmax : m.clusters ≤ 8 := by cases m <;> decide
  obtain ⟨hblk, hrest⟩ := regPlace_parts (blk := 8 + k) (by omega) hoff hword
  unfold regPlace
  dsimp only
  rw [show 0x080000 + k * 0x10000 + off = (8 + k) * 2 ^ 16 + off by omega, hblk, hrest, if_neg (by omega),
    if_neg (by omega), if_neg (by omega), if_neg (by omega), if_neg (by omega), if_neg (by omega),
    if_pos (by omega), if_pos hlow, Nat.add_sub_cancel_left]

theorem regPlace_safety : regPlace m (BitVec.ofNat 24 (0x800000 + off)) = .safety off := by
  have hmax : m.clusters ≤ 8 := by cases m <;> decide
  obtain ⟨hblk, hrest⟩ := regPlace_parts (blk := 0x80) (by omega) hoff hword
  unfold regPlace
  dsimp only
  rw [show 0x800000 + off = 0x80 * 2 ^ 16 + off by omega, hblk, hrest]
  simp only [OfNat.ofNat_ne_zero, if_false]
  rw [if_neg (by omega), if_neg (by omega), if_neg (by omega), if_neg (by omega), if_neg (by omega),
    if_neg (by omega), if_pos trivial]

end

end

/-! ### An access of a quiet block (R436) -/

section
variable {s t : State} {a : RegAccess}

theorem regCluster?_none (h : (regPlace s.cfg a.addr).cluster? = none) : s.regCluster? a = none := by
  unfold State.regCluster?
  rw [h]
  exact ite_self _

theorem regCluster?_run {k : Nat} (h : (regPlace s.cfg a.addr).cluster? = some k) (hrun : s.inRun k = true) :
    s.regCluster? a = none := by
  unfold State.regCluster?
  simp only [h, hrun, if_true, ite_self]

/-- What does not read the queues of CTL and SP is the same with others. -/
theorem setRegQueue_reads {α : Type} {f : State → α} (hf : ∀ (t : State) r, f { t with reg := r } = f t)
    (s : State) (sp : Bool) (q : List RegAccess) : f (s.setRegQueue sp q) = f s := by
  unfold State.setRegQueue
  split <;> exact hf s _

/-- One access that waits alone on its interface is the one that is performed. -/
theorem drainRegs_one {sp : Bool} (hqueue : s.regQueue sp = [a]) (hgo : s.regCluster? a = none) :
    s.drainRegs sp 1 = (s.setRegQueue sp []).regPerform a := by
  unfold State.drainRegs
  simp only [hqueue, hgo]
  rfl

theorem drainBoth_one (hctl : s.reg.waitCtl = []) (hsp : s.reg.waitSp = []) (hgo : s.regCluster? a = none) :
    (s.setRegQueue a.sp [a]).drainBoth = s.regPerform a := by
  have hgo' : (s.setRegQueue a.sp [a]).regCluster? a = none :=
    (setRegQueue_reads (f := fun u => u.regCluster? a) (fun _ _ => rfl) s _ _).trans hgo
  have hback : (s.setRegQueue a.sp [a]).setRegQueue a.sp [] = s := by
    unfold State.setRegQueue
    split
    · rw [← hsp]
    · rw [← hctl]
  have hperform := drainRegs_one (s := s.setRegQueue a.sp [a]) (a := a) (sp := a.sp)
    (by unfold State.setRegQueue State.regQueue; split <;> rfl) hgo'
  rw [hback] at hperform
  rw [← hperform]
  unfold State.drainBoth State.setRegQueue
  cases a.sp with
  | false =>
    simp only [Bool.false_eq_true, if_false, List.length_singleton, hsp]
    rfl
  | true =>
    simp only [if_true, List.length_singleton, hctl]
    rfl

/-- An access that finds nothing waiting is performed at once. -/
theorem access_quiet (hq : s.quiet = true) (hpwr : s.pins.pwrOk = true) (hgo : s.regCluster? a = none) :
    s.access a = (s.regPerform a).settle := by
  obtain ⟨hready, hstill, hctl, hsp, -, -, hlinks, hrunning⟩ := (State.quiet_iff s).1 hq
  have hempty : s.regQueue a.sp = [] := by
    unfold State.regQueue
    split
    · exact hsp
    · exact hctl
  have hready' := (setRegQueue_reads (f := State.ready) (fun _ _ => rfl) s a.sp [a]).trans hready
  have hlinks' := (setRegQueue_reads (f := fun u => u.links.waiting) (fun _ _ => rfl) s a.sp [a]).trans hlinks
  have hstill' := (setRegQueue_reads (f := State.still) (fun _ _ => rfl) s a.sp [a]).mpr hstill
  have hrunning' := (setRegQueue_reads (f := State.running) (fun _ _ => rfl) s a.sp [a]).mpr hrunning
  unfold State.access
  simp only [hpwr, Bool.not_true, Bool.false_eq_true, if_false, hempty, List.nil_append,
    clock_of_ready hready', if_true]
  rw [wakeBlock_running hrunning', State.goOn, if_pos hready', State.linkResume_nil hlinks', settle_of_still hstill',
    drainBoth_one hctl hsp hgo]

end
end Sys2Proof.Machine
end

section
/-!
PROOFS. What the registers that a row names leave still (R42, R59, R60, R64): a ring without its packet, a port with its
answers, the safety partition, the time base and a cluster start nothing by themselves.
-/

namespace Sys2Proof.Machine

/-! ### Rings (R59, R64) -/

/-- The packet of a ring has been read and waits to be accepted. -/
def Ring.gives (r : Ring) : Bool :=
  match r.fetch with
  | .ready _ => true
  | _ => false

theorem fetched_iff (k : CmdIf) : k.fetched = true ↔ ∃ e ∈ k.rings, e.2.gives = true := List.any_eq_true

theorem Tbl.mem_set {α : Type} {t : Tbl α} {k : Nat} {v : α} {e : Nat × α} (h : e ∈ t.set k v) :
    e = (k, v) ∨ e ∈ t := by
  induction t with
  | nil => exact .inl (List.mem_singleton.1 h)
  | cons p r ih =>
    unfold Tbl.set at h
    split_ifs at h with hlt heq
    · exact List.mem_cons.1 h
    · exact (List.mem_cons.1 h).imp_right (List.mem_cons_of_mem _)
    · rcases List.mem_cons.1 h with rfl | h
      · exact .inr List.mem_cons_self
      · exact (ih h).imp_right (List.mem_cons_of_mem _)

section
variable {s : State} {n : Nat}

theorem ring_gives (h : s.cmd.fetched = false) (n : Nat) : (s.ring n).gives = false := by
  unfold State.ring Tbl.get
  cases hfind : s.cmd.rings.find? n with
  | none => rfl
  | some r =>
    by_contra hgives
    have hfetched := (fetched_iff s.cmd).2 ⟨_, Tbl.find?_mem hfind, by simpa using hgives⟩
    rw [h] at hfetched
    cases hfetched

theorem onRing_still {f : Ring → Ring} (h : s.still) (hf : (s.ring n).gives = false → (f (s.ring n)).gives = false) :
    (s.onRing n f).still := by
  obtain ⟨harrived, hwait, hrecords, hsp, hctl, hfetched, hevents⟩ := h
  refine ⟨harrived, hwait, hrecords, hsp, hctl, ?_, hevents⟩
  by_contra hgives
  obtain ⟨e, he, hgives⟩ := (fetched_iff _).1 (eq_true_of_ne_false hgives)
  rcases Tbl.mem_set he with rfl | he
  · rw [hf (ring_gives hfetched n)] at hgives
    cases hgives
  · rw [(fetched_iff s.cmd).2 ⟨e, he, hgives⟩] at hfetched
    cases hfetched

/-! ### Ports -/

/-- A port that keeps its answers leaves the dispatchers alone, and so does one of no dispatcher. -/
theorem onPort_still {p : Nat} {f : Port → Port} (h : s.still)
    (hf : ∀ c, eventPort c = p → (f (s.port p)).resp = (s.port p).resp) : (s.onPort p f).still := by
  have hresp : ∀ c, ((s.onPort p f).port (eventPort c)).resp = (s.port (eventPort c)).resp := by
    intro c
    rw [State.port_onPort_eq]
    by_cases hc : eventPort c = p
    · rw [if_pos hc, hf c hc, hc]
    · rw [if_neg hc]
  obtain ⟨harrived, hwait, hrecords, hsp, hctl, hfetched, hevents⟩ := h
  refine ⟨harrived, hwait, hrecords, hsp, hctl, hfetched, ?_⟩
  rw [← hevents]
  unfold State.eventsStill
  simp only [hresp]
  rfl

/-! ### A ring that halts (R60, R64) -/

theorem takeAnswers_still {req : Nat} (h : s.still) : (s.takeAnswers req).still :=
  onPort_still h fun c hc => absurd hc (by unfold eventPort; omega)

theorem endFetch_still (h : s.still) : (s.endFetch n).still := by
  unfold State.endFetch
  dsimp only
  split
  · exact onRing_still (takeAnswers_still h) fun _ => rfl
  · exact onRing_still (takeAnswers_still h) fun _ => rfl
  · exact onRing_still h fun _ => rfl

theorem haltRing_still {cause : HaltCause} (h : s.still) : (s.haltRing n cause).still :=
  onRing_still (n := n) (f := fun r => { r with halted := true, haltCause := cause }) (endFetch_still h) id

end

end Sys2Proof.Machine
end

section
/-!
PROOFS. Whole-word writes (R131, R446): the write reaches its block and is answered, and where its effect leaves the block
still nothing follows. The ring registers and CMDW_GO (R60, R64, R65), whose packet is what follows.
-/

namespace Sys2Proof.Machine

/-! ### A write reaches its block (R446) -/

section
variable {off : Nat}

theorem irqPlace_cmd (h : 0x100 ≤ off) : irqPlace (.cmd off) = none := by
  unfold irqPlace
  split <;> simp_all

theorem irqPlace_xbar (hstatus : off ≠ 0x1400) (henable : off ≠ 0x1404) : irqPlace (.xbar off) = none := by
  unfold irqPlace
  split <;> simp_all

theorem irqPlace_safety (hstatus : off ≠ 0x18) (henable : off ≠ 0x1C) : irqPlace (.safety off) = none := by
  unfold irqPlace
  split <;> simp_all

theorem irqPlace_cluster (k : Nat) : irqPlace (.cluster k off) = none := rfl

end

section
variable {s t : State} {a : RegAccess}

theorem regWrite_cmd {off : Nat} (hplace : regPlace s.cfg a.addr = .cmd off) (h : 0x100 ≤ off) :
    s.regWrite a = s.writeCmd off a := by
  unfold State.regWrite
  simp only [hplace, irqPlace_cmd h]

theorem regWrite_xbar {off : Nat} (hplace : regPlace s.cfg a.addr = .xbar off) (hstatus : off ≠ 0x1400)
    (henable : off ≠ 0x1404) : s.regWrite a = s.writeXbar off a := by
  unfold State.regWrite
  simp only [hplace, irqPlace_xbar hstatus henable]

theorem regWrite_safety {off : Nat} (hplace : regPlace s.cfg a.addr = .safety off) (hstatus : off ≠ 0x18)
    (henable : off ≠ 0x1C) : s.regWrite a = s.writeSafety off a := by
  unfold State.regWrite
  simp only [hplace, irqPlace_safety hstatus henable]

theorem regWrite_cluster {k off : Nat} (hplace : regPlace s.cfg a.addr = .cluster k off) :
    s.regWrite a = s.writeCluster k off a := by
  unfold State.regWrite
  simp only [hplace, irqPlace_cluster]

theorem regReaches_none (h : (regPlace s.cfg a.addr).cluster? = none) : s.regReaches a = s := by
  simp only [State.regReaches, h]

theorem regReaches_cluster {k : Nat} (h : (regPlace s.cfg a.addr).cluster? = some k) :
    s.regReaches a = s.wakeCluster k 5 := by
  simp only [State.regReaches, h]

theorem State.wakeCluster_eq {α : Type} {f : State → α} (hf : ∀ (t : State) p, f { t with power := p } = f t)
    (s : State) (k cause : Nat) : f (s.wakeCluster k cause) = f s :=
  (hf _ s.power).symm.trans (congrArg f (s.wakeCluster_power k cause))

theorem regReaches_postDone : (s.regReaches a).integ.postDone = s.integ.postDone := by
  unfold State.regReaches
  split
  · exact State.wakeCluster_eq (f := fun u => u.integ.postDone) (fun _ _ => rfl) s _ _
  · rfl

theorem answerReg_still {data : Nat} {st : RegStatus} (h : t.still) : (t.answerReg a data st).still := by
  unfold State.answerReg
  dsimp only
  split <;> exact h

/-- A write that is not barred from the safety partition takes effect and is answered OK (R398, R436). -/
theorem regPerform_write (hready : s.ready = true) (hpar : a.parityOk = true) (hwrite : a.write = true)
    (hopen : a.safety = true → a.sp = true) :
    s.regPerform a = ((s.regReaches a).regWrite a).answerReg a 0 .ok := by
  have hpost : s.integ.postDone = true := (Bool.and_eq_true_iff.1 hready).1
  have hbarred : (a.safety && !a.sp) = false := by
    cases hsafety : a.safety with
    | false => rfl
    | true => rw [hopen hsafety]; rfl
  unfold State.regPerform
  simp only [hpar, hpost, hwrite, hbarred, regReaches_postDone, and_self, Bool.not_true, Bool.false_eq_true, if_true,
    if_false]

end

/-- Only the safety partition is barred from CTL, and it stands above the other blocks (R12). -/
theorem wordWrite_open {sp : Bool} {addr : Nat} (v : BitVec 32) (h : sp = true ∨ addr < 0x800000) :
    (wordWrite sp addr v).safety = true → (wordWrite sp addr v).sp = true := by
  intro hsafety
  have hle : 0x800000 ≤ (BitVec.ofNat 24 addr).toNat := of_decide_eq_true hsafety
  rw [BitVec.toNat_ofNat] at hle
  exact h.resolve_right fun hlow => by omega

/-! ### A write of a quiet block -/

section
variable {s t : State} {sp : Bool} {addr : Nat} {v : BitVec 32} (hq : s.quiet = true) (hpwr : s.pins.pwrOk = true)
  (hopen : sp = true ∨ addr < 0x800000)
include hq hpwr hopen

theorem access_write (hcluster : (regPlace s.cfg (wordWrite sp addr v).addr).cluster? = none)
    (heffect : s.regWrite (wordWrite sp addr v) = t) :
    s.access (wordWrite sp addr v) = (t.answerReg (wordWrite sp addr v) 0 .ok).settle := by
  obtain ⟨hready, -⟩ := (State.quiet_iff s).1 hq
  rw [access_quiet hq hpwr (regCluster?_none hcluster), regPerform_write hready rfl rfl (wordWrite_open v hopen),
    regReaches_none hcluster, heffect]

/-- The same where the block stands still after the write. -/
theorem access_write_still (hcluster : (regPlace s.cfg (wordWrite sp addr v).addr).cluster? = none)
    (heffect : s.regWrite (wordWrite sp addr v) = t) (ht : t.still) :
    s.access (wordWrite sp addr v) = t.answerReg (wordWrite sp addr v) 0 .ok := by
  rw [access_write hq hpwr hopen hcluster heffect, settle_of_still (answerReg_still ht)]

end

/-! ### A word of each block -/

section
variable {s t : State} {off addr : Nat} {v : BitVec 32} (hq : s.quiet = true) (hpwr : s.pins.pwrOk = true)
  (hoff : off < 2 ^ 16) (hword : off % 4 = 0)
include hq hpwr hoff hword

theorem xbarWrite_still (haddr : addr = 0x010000 + off) (hstatus : off ≠ 0x1400) (henable : off ≠ 0x1404)
    (heffect : s.writeXbar off (wordWrite false addr v) = t) (ht : t.still) :
    s.access (wordWrite false addr v) = t.answerReg (wordWrite false addr v) 0 .ok := by
  have hplace : regPlace s.cfg (wordWrite false addr v).addr = .xbar off := haddr ▸ regPlace_xbar hoff hword
  exact access_write_still hq hpwr (.inr (by omega)) (by rw [hplace]; rfl)
    ((regWrite_xbar hplace hstatus henable).trans heffect) ht

theorem cmdWrite_still (haddr : addr = 0x030000 + off) (hlow : 0x100 ≤ off)
    (heffect : s.writeCmd off (wordWrite false addr v) = t) (ht : t.still) :
    s.access (wordWrite false addr v) = t.answerReg (wordWrite false addr v) 0 .ok := by
  have hplace : regPlace s.cfg (wordWrite false addr v).addr = .cmd off := haddr ▸ regPlace_cmd hoff hword
  exact access_write_still hq hpwr (.inr (by omega)) (by rw [hplace]; rfl)
    ((regWrite_cmd hplace hlow).trans heffect) ht

theorem safetyWrite_still (haddr : addr = 0x800000 + off) (hstatus : off ≠ 0x18) (henable : off ≠ 0x1C)
    (heffect : s.writeSafety off (wordWrite true addr v) = t) (ht : t.still) :
    s.access (wordWrite true addr v) = t.answerReg (wordWrite true addr v) 0 .ok := by
  have hplace : regPlace s.cfg (wordWrite true addr v).addr = .safety off := haddr ▸ regPlace_safety hoff hword
  exact access_write_still hq hpwr (.inl rfl) (by rw [hplace]; rfl)
    ((regWrite_safety hplace hstatus henable).trans heffect) ht

theorem clusterWrite_still {k : Nat} (haddr : addr = 0x080000 + k * 0x10000 + off) (hlow : off < 0x8000)
    (hk : s.hasCluster k = true) (hrun : s.inRun k = true)
    (heffect : (s.wakeCluster k 5).writeCluster k off (wordWrite false addr v) = t) (ht : t.still) :
    s.access (wordWrite false addr v) = t.answerReg (wordWrite false addr v) 0 .ok := by
  obtain ⟨hready, -⟩ := (State.quiet_iff s).1 hq
  have hmax : s.cfg.clusters ≤ 8 := by cases s.cfg <;> decide
  have hk' : k < s.cfg.clusters := of_decide_eq_true hk
  have hplace : regPlace s.cfg (wordWrite false addr v).addr = .cluster k off :=
    haddr ▸ regPlace_cluster hoff hword hk' hlow
  have hcluster : (regPlace s.cfg (wordWrite false addr v).addr).cluster? = some k := by rw [hplace]; rfl
  have hplace' : regPlace (s.wakeCluster k 5).cfg (wordWrite false addr v).addr = .cluster k off := by
    rw [State.wakeCluster_eq (f := State.cfg) (fun _ _ => rfl), hplace]
  rw [access_quiet hq hpwr (regCluster?_run hcluster hrun),
    regPerform_write hready rfl rfl (wordWrite_open v (.inr (by omega))), regReaches_cluster hcluster,
    regWrite_cluster hplace', heffect, settle_of_still (answerReg_still ht)]

end

/-! ### Ring registers (R60, R64) -/

section
variable {s t : State} {n i : Nat} {v : BitVec 32} (hq : s.quiet = true) (hpwr : s.pins.pwrOk = true) (hn : n < 16)
  (hi : i < 16)
include hq hpwr hn hi

theorem ringWrite_still {addr : Nat} (haddr : addr = 0x030100 + n * 0x40 + 4 * i)
    (heffect : s.writeRing n i (wordWrite false addr v) = t) (ht : t.still) :
    s.ringWrite n (4 * i) v = t.answerReg (wordWrite false addr v) 0 .ok := by
  have hring : s.writeCmd (0x100 + n * 0x40 + 4 * i) (wordWrite false addr v) = t := by
    rw [State.writeCmd, if_pos (by omega), ← heffect]
    congr 1 <;> omega
  rw [State.ringWrite, if_pos hn, ← haddr]
  exact cmdWrite_still hq hpwr (by omega) (by omega) (by omega) (by omega) hring ht

end

section
variable {s : State} {n i : Nat} {v : BitVec 32} {a : RegAccess}

theorem writeProd_word (hrun : (s.ring n).halted = false) (hover : ∀ old, a.over old = v.toNat) :
    s.writeProd n a =
      (let t := s.onRing n fun r => { r with prod := BitVec.ofNat 17 v.toNat }
       if (t.ring n).en ∧ 2 ^ (t.ring n).sizeLog2.toNat < (t.ring n).present then t.haltRing n .doorbell else t) := by
  unfold State.writeProd
  simp only [hrun, hover, Bool.false_eq_true, if_false]

theorem or_one_div_two (x : Nat) : (x ||| 1) / 2 = x / 2 := by
  rw [Nat.or_div_two]
  exact Nat.or_zero _

theorem bitOf_or_one (x : Nat) (h : i ≠ 0) : bitOf (x ||| 1) i = bitOf x i := by
  have hone : Nat.testBit 1 i = false := eq_false_of_ne_true (Nat.testBit_one_eq_true_iff_self_eq_zero.not.2 h)
  rw [bitOf, Nat.testBit_or, hone, Bool.or_false, bitOf]

theorem writeRingCfg_enables (hoff : (s.ring n).en = false) (hover : ∀ old, a.over old = v.toNat ||| 1) :
    s.writeRingCfg n a =
      (let t := (s.endFetch n).onRing n fun r =>
        { r with en := true, sizeLog2 := BitVec.ofNat 5 (v.toNat / 2), system := bitOf v.toNat 6, prod := 0, cons := 0
                 replyWr := 0, replyRd := 0, halted := false, haltCause := .none }
       if (t.ring n).sizeOk && (t.ring n).replyOk then t else t.haltRing n .config) := by
  have hen : bitOf (v.toNat ||| 1) 0 = true := by simp [bitOf]
  unfold State.writeRingCfg State.enableRing
  simp only [hoff, hover, hen, or_one_div_two, bitOf_or_one _ (show 6 ≠ 0 by decide), Bool.false_eq_true, if_false,
    if_true]

theorem writeRingCfg_disables (hon : (s.ring n).en = true) (hover : ∀ old, bitOf (a.over old) 0 = false) :
    s.writeRingCfg n a = s.onRing n fun r => { r with en := false } := by
  unfold State.writeRingCfg
  simp only [hon, hover, Bool.false_eq_true, if_false, if_true]

theorem writeReplyRd_fits (hover : ∀ old, a.over old = v.toNat)
    (hfits : (s.ring n).unread (v.toNat % 2 ^ 17) ≤ 2 ^ (s.ring n).replyLog2.toNat) :
    s.writeReplyRd n a = s.onRing n fun r => { r with replyRd := BitVec.ofNat 17 v.toNat } := by
  have hmod : BitVec.ofNat 17 (v.toNat % 2 ^ 17) = BitVec.ofNat 17 v.toNat := by
    apply BitVec.eq_of_toNat_eq
    simp only [BitVec.toNat_ofNat, Nat.mod_mod]
  unfold State.writeReplyRd
  simp only [hover, Nat.not_lt.2 hfits, if_false, hmod]

theorem writeReplyRd_halts (hover : ∀ old, a.over old = v.toNat)
    (hover' : 2 ^ (s.ring n).replyLog2.toNat < (s.ring n).unread (v.toNat % 2 ^ 17)) :
    s.writeReplyRd n a = s.haltRing n .config := by
  unfold State.writeReplyRd
  simp only [hover, hover', if_true]

end

/-! ### CMDW_GO (R65) -/

section
variable {s : State} {sp : Bool} (hq : s.quiet = true) (hpwr : s.pins.pwrOk = true)
include hq hpwr

theorem windowGo_access {addr : Nat} (haddr : (if sp then 0x800D00 else 0x030D00) = addr) :
    s.access (wordWrite sp addr 1) = ((s.windowGo sp).answerReg (wordWrite sp addr 1) 0 .ok).settle := by
  have hwindow : s.writeWindow sp 64 (wordWrite sp addr 1) = s.windowGo sp := by
    have hgo : bitOf (wordWrite sp addr 1).sets 0 = true := by rw [wordWrite_sets]; rfl
    rw [State.writeWindow, if_neg (by decide), if_pos rfl, if_pos hgo]
  cases sp with
  | false =>
    obtain rfl : 0x030D00 = addr := haddr
    have hplace : regPlace s.cfg (wordWrite false 0x030D00 1).addr = .cmd 0xD00 :=
      regPlace_cmd (off := 0xD00) (by decide) (by decide)
    exact access_write hq hpwr (.inr (by decide)) (by rw [hplace]; rfl)
      ((regWrite_cmd hplace (by decide)).trans hwindow)
  | true =>
    obtain rfl : 0x800D00 = addr := haddr
    have hplace : regPlace s.cfg (wordWrite true 0x800D00 1).addr = .safety 0xD00 :=
      regPlace_safety (off := 0xD00) (by decide) (by decide)
    exact access_write hq hpwr (.inl rfl) (by rw [hplace]; rfl)
      ((regWrite_safety hplace (by decide) (by decide)).trans hwindow)

end

/-- Settles O45: a whole word replaces what its register held, the register's row writes the ring, and a ring that is
written so gives no packet; CMDW_GO of a busy window starts nothing. -/
theorem ringAndWindowRows : Obligations.RingAndWindowRows := by
  refine ⟨fun n v s hq hpwr hn => ?_, fun sp s hq hpwr => ⟨fun hbusy => ?_, fun hbusy => ?_⟩⟩
  · have hstill := ((State.quiet_iff s).1 hq).2.1
    refine ⟨fun hrun => ?_, fun hoff => ?_, fun hon => ?_, fun hfits => ?_, fun hover => ?_⟩
    · refine congrArg Host.Outcome.next (ringWrite_still hq hpwr hn (i := 4) (by decide) (by omega)
        (writeProd_word hrun (wordWrite_over _ _ v)) ?_)
      split
      · exact haltRing_still (onRing_still hstill id)
      · exact onRing_still hstill id
    · refine congrArg Host.Outcome.next (ringWrite_still hq hpwr hn (i := 1) (by decide) (by omega)
        (writeRingCfg_enables hoff (wordWrite_over _ _ (v ||| 1))) ?_)
      split
      · exact onRing_still (endFetch_still hstill) id
      · exact haltRing_still (onRing_still (endFetch_still hstill) id)
    · refine congrArg Host.Outcome.next (ringWrite_still hq hpwr hn (i := 1) (by decide) (by omega)
        (writeRingCfg_disables hon fun old => ?_) (onRing_still hstill id))
      rw [wordWrite_over, BitVec.toNat_ofNat]
      simp [bitOf]
    · exact congrArg Host.Outcome.next (ringWrite_still hq hpwr hn (i := 9) (by decide) (by omega)
        (writeReplyRd_fits (wordWrite_over _ _ v) hfits) (onRing_still hstill id))
    · exact congrArg Host.Outcome.next (ringWrite_still hq hpwr hn (i := 9) (by decide) (by omega)
        (writeReplyRd_halts (wordWrite_over _ _ v) hover) (haltRing_still hstill))
  · refine congrArg Host.Outcome.next ((windowGo_access hq hpwr rfl).trans ?_)
    rw [State.windowGo, if_neg (by simp [hbusy])]
  · have hstill := ((State.quiet_iff s).1 hq).2.1
    refine congrArg Host.Outcome.next ((windowGo_access hq hpwr rfl).trans ?_)
    rw [State.windowGo, if_pos hbusy]
    exact settle_of_still
      (answerReg_still (onWindow_still (f := fun w => { w with overrun := true }) hstill fun _ hgiven => hgiven))

end Sys2Proof.Machine
end

section
/-!
PROOFS. The other registers that a row names (R67, R114, R141, R217, R331, R380, R411, R413): what a word does to the
crossbar, the command interface, a cluster in RUN and the safety partition, and the read of TIME_LO.
-/

namespace Sys2Proof.Machine

/-! ### TIME_LO (R380) -/

section
variable {s : State}

theorem regPerform_read {a : RegAccess} {x : Nat} {t : State} (hready : s.ready = true) (hpar : a.parityOk = true)
    (hread : a.write = false) (hcluster : (regPlace s.cfg a.addr).cluster? = none)
    (hvalue : s.regRead a.addr = (x, t)) :
    s.regPerform a = t.answerReg a x .ok := by
  have hpost : s.integ.postDone = true := (Bool.and_eq_true_iff.1 hready).1
  unfold State.regPerform
  simp only [hpar, hpost, hread, regReaches_none hcluster, hvalue, and_self, Bool.not_true, Bool.false_eq_true, if_true,
    if_false]

theorem timeLo_place : regPlace s.cfg 0x050400 = .power 0x400 := rfl

theorem timeLo_access (hq : s.quiet = true) (hpwr : s.pins.pwrOk = true) (sp : Bool) :
    s.access { sp := sp, write := false, addr := 0x050400 } =
      s.latchTime.answerReg { sp := sp, write := false, addr := 0x050400 } (half64 s.now 0) .ok := by
  obtain ⟨hready, hstill, -⟩ := (State.quiet_iff s).1 hq
  have hread : s.regRead 0x050400 = (half64 s.now 0, s.latchTime) := by
    unfold State.regRead
    simp only [timeLo_place]
  have hcluster : (regPlace s.cfg 0x050400).cluster? = none := by rw [timeLo_place]; rfl
  rw [access_quiet hq hpwr (regCluster?_none hcluster), regPerform_read hready rfl rfl hcluster hread]
  have hstill' : s.latchTime.still := hstill
  exact settle_of_still (answerReg_still hstill')

theorem wakeCluster_still (h : s.still) (k cause : Nat) : (s.wakeCluster k cause).still :=
  (State.wakeCluster_eq (f := State.still) (fun _ _ => rfl) s k cause).mpr h

end

/-! ### What each write does to its block -/

section
variable {s : State} {a : RegAccess} {v : BitVec 32} (hover : ∀ old, a.over old = v.toNat)
include hover

theorem writeXbar_portCtx {p : Nat} (hp : p < 65) (hhas : s.cfg.hasInitiator p = true) :
    s.writeXbar (p * 0x20) a = s.onPort p fun q =>
      { q with ctxBase := BitVec.ofNat 10 v.toNat, ctxCount := BitVec.ofNat 11 (v.toNat / 2 ^ 16) } := by
  rw [State.writeXbar, if_pos (by omega), Nat.mul_div_cancel p (by decide), State.writePortCtx, if_pos hhas]
  simp only [hover]

theorem writeXbar_burst {p : Nat} (hp : p < 65) (hhas : s.cfg.hasInitiator p = true) :
    s.writeXbar (0x2400 + p * 4) a = s.onPort p fun q =>
      { q with burstM1 := BitVec.ofNat 6 v.toNat, burstOld := q.burst s.clock.xck, burstAt := s.clock.xck + 1 } := by
  rw [State.writeXbar, if_neg (by omega), if_pos (by omega), Nat.add_sub_cancel_left, Nat.mul_div_cancel p (by decide),
    State.writeBurst, if_pos hhas]
  simp only [hover]

theorem writeCmd_mbox {p : Nat} (hp : p < 64) (hhas : s.cfg.hasInitiator p = true) :
    s.writeCmd (0x800 + p * 4) a = s.onPort p fun q =>
      { q with mboxEn := bitOf v.toNat 0, mboxSystem := bitOf v.toNat 1, mboxReplyEn := bitOf v.toNat 2
               mboxReplyRing := BitVec.ofNat 4 (v.toNat / 2 ^ 4) } := by
  rw [State.writeCmd, if_neg (by omega), if_pos (by omega), Nat.add_sub_cancel_left, Nat.mul_div_cancel p (by decide),
    State.writeMbox, if_pos hhas]
  simp only [hover]

/-- The sampling of a cluster, in the state in which the access has reached its register block. -/
theorem writeCluster_sampling (k cause : Nat) :
    (s.wakeCluster k cause).writeCluster k 0x408 a = (s.wakeCluster k cause).onCache k fun c =>
      { c with sampleLog2 := BitVec.ofNat 4 v.toNat, sampleOld := c.sample s.clock.xck
               sampleAt := s.clock.xck + 1 } := by
  have hclock := State.wakeCluster_eq (f := State.clock) (fun _ _ => rfl) s k cause
  simp only [State.writeCluster, hover, hclock]

theorem writeSafety_ack (hready : s.ready = true) :
    s.writeSafety 0x24 a = s.onSafety fun y => { y with ack := v } := by
  have hpost : s.integ.postDone = true := (Bool.and_eq_true_iff.1 hready).1
  simp only [State.writeSafety, State.ledgerAck, hover, hpost, if_true, BitVec.ofNat_toNat, BitVec.setWidth_eq]

end

section
variable {s : State} {a : RegAccess} (hgo : bitOf a.sets 0 = true)
include hgo

theorem writeCluster_clogPop (k : Nat) :
    s.writeCluster k 0xB08 a = s.onCtest k fun t => { t with clog := t.clog.tail } :=
  if_pos hgo

theorem writeSafety_outputTest (hready : s.ready = true) (htest : s.safety.test = none) :
    s.writeSafety 0x30 a = s.onSafety fun y => { y with test := some s.clock.elapsed } := by
  have hpost : s.integ.postDone = true := (Bool.and_eq_true_iff.1 hready).1
  rw [State.writeSafety, if_neg (by decide), if_pos rfl, if_pos hgo, State.outputTest, if_pos ⟨hpost, htest⟩]

end

theorem wordWrite_one_sets (sp : Bool) (addr : Nat) : bitOf (wordWrite sp addr 1).sets 0 = true := by
  rw [wordWrite_sets]
  rfl

/-- Settles O46: a whole word replaces what its register held; the effect and the answer are all that changes, since the
fields that are written start nothing by themselves. -/
theorem namedRegisterRows : Obligations.NamedRegisterRows := by
  intro v s hq hpwr
  obtain ⟨hready, hstill, -⟩ := (State.quiet_iff s).1 hq
  refine ⟨fun p hp hhas => ?_, fun p hp hhas => ?_, fun p hp hhas => ?_, fun k hk hrun => ?_, fun k hk hrun => ?_, ?_,
    fun htest => ?_, fun sp => congrArg Host.Outcome.next (timeLo_access hq hpwr sp)⟩
  · have hrow := xbarWrite_still (off := p * 0x20) hq hpwr (by omega) (by omega) rfl (by omega) (by omega)
      (writeXbar_portCtx (wordWrite_over _ _ v) hp hhas) (onPort_still hstill fun _ _ => rfl)
    exact congrArg Host.Outcome.next ((if_pos hp).trans hrow)
  · have hrow := xbarWrite_still (addr := 0x012400 + p * 4) (off := 0x2400 + p * 4) hq hpwr (by omega) (by omega)
      (by omega) (by omega) (by omega) (writeXbar_burst (wordWrite_over _ _ v) hp hhas)
      (onPort_still hstill fun _ _ => rfl)
    exact congrArg Host.Outcome.next ((if_pos hp).trans hrow)
  · have hrow := cmdWrite_still (addr := 0x030800 + p * 4) (off := 0x800 + p * 4) hq hpwr (by omega) (by omega)
      (by omega) (by omega) (writeCmd_mbox (wordWrite_over _ _ v) hp hhas) (onPort_still hstill fun _ _ => rfl)
    exact congrArg Host.Outcome.next ((if_pos hp).trans hrow)
  · have hrow := clusterWrite_still (off := 0x408) hq hpwr (by decide) (by decide) rfl (by decide) hk hrun
      (writeCluster_sampling (wordWrite_over _ _ v) k 5) (wakeCluster_still hstill k 5)
    exact congrArg Host.Outcome.next ((if_pos hk).trans hrow)
  · have hrow := clusterWrite_still (off := 0xB08) hq hpwr (by decide) (by decide) rfl (by decide) hk hrun
      (writeCluster_clogPop (wordWrite_one_sets _ _) k) (wakeCluster_still hstill k 5)
    exact congrArg Host.Outcome.next ((if_pos hk).trans hrow)
  · exact congrArg Host.Outcome.next (safetyWrite_still (off := 0x24) hq hpwr (by decide) (by decide) rfl (by decide)
      (by decide) (writeSafety_ack (wordWrite_over _ _ v) hready) hstill)
  · exact congrArg Host.Outcome.next (safetyWrite_still (off := 0x30) hq hpwr (by decide) (by decide) rfl (by decide)
      (by decide) (writeSafety_outputTest (wordWrite_one_sets _ _) hready htest) hstill)

end Sys2Proof.Machine
end

section
/-!
PROOFS. The Drover's rows (R70 to R73, R175, R349): the start of a job in either unit, the row of a fill, of a crossbar
job and of an evacuation by what the job waits for, and the end of a job.
-/

namespace Sys2Proof.Machine

/-! ### The rows of the table -/

section
variable {s : State} (h : s.ready = true) (inBank : Bool)
include h

theorem exec_drvJobStart : exec (.drvJobStart inBank) s = .next (s.jobStart inBank).settle :=
  congrArg Host.Outcome.next (State.live_of_ready h fun s => s.jobStart inBank)

theorem exec_drvRow : exec (.drvRow inBank) s = .next (s.drvRow inBank).settle :=
  congrArg Host.Outcome.next (State.live_of_ready h fun s => s.drvRow inBank)

theorem exec_drvJobComplete : exec (.drvJobComplete inBank) s = .next (s.jobComplete inBank).settle :=
  congrArg Host.Outcome.next (State.live_of_ready h fun s => s.jobComplete inBank)

theorem exec_evacRowCopy (k : Nat) : exec (.evacRowCopy k) s = .next (s.evacRowCopy k).settle :=
  congrArg Host.Outcome.next (State.live_of_ready h fun s => s.evacRowCopy k)

end

section
variable {s : State} {j : Job}

/-! ### The start of a job (R71, R175) -/

section
variable (hready : s.ready = true) (hhold : s.safety.hold = false) (htoll : s.jobToll j + s.gov.spent ≤ s.gov.tb)
include hready hhold htoll

theorem State.jobStart_bank (hfree : s.cmd.bankJob = none) (hnext : s.nextJob true = some j) :
    s.jobStart true =
      (s.onCmd fun c => { c with jobs := c.jobs.filter (fun k => k.id != j.id), bankJob := some j }).takeSpare j := by
  simp only [State.jobStart, hready, hhold, hfree, hnext, htoll, if_true, Option.isSome_none, Bool.false_eq_true,
    not_true_eq_false, or_self, if_false]

theorem State.jobStart_crossbar (hfree : s.cmd.xbarJob = none) (hnext : s.nextJob false = some j) :
    s.jobStart false =
      (s.onCmd fun c => { c with jobs := c.jobs.filter (fun k => k.id != j.id), xbarJob := some j }).takeSpare j := by
  simp only [State.jobStart, hready, hhold, hfree, hnext, htoll, if_true, Option.isSome_none, Bool.false_eq_true,
    not_true_eq_false, or_self, if_false]

end

/-! ### Rows of a fill (R70, R156) -/

theorem State.rowWritten_good {req n m : Nat} {rs : List Resp} {next : State → Job → State}
    (hfault : answerFault rs = none) :
    s.rowWritten j req n m rs next = ((s.takeAnswers req).wroteRow j n m rs).jobGoes j.id next := by
  simp only [State.rowWritten, hfault]

section
variable (hjob : s.cmd.bankJob = some j) (hfill : j.kind = .fill)
include hjob hfill

theorem State.drvRow_fill : s.drvRow true = s.fillStep j := by
  simp only [State.drvRow, hjob, hfill, if_true, reduceCtorEq, if_false]

/-- A row of a fill on this chip is asked for as one request of write pieces. -/
theorem State.drvRow_fillAsks (hwait : j.wait = .none) (hleft : j.done < j.len)
    (hreach : s.reachFails j.ctx .wr (j.dst + j.done) (min (j.len - j.done) (128 - (j.dst + j.done) % 128)) = none)
    (hask : s.mayAsk false = true) (hhere : s.windowAt (j.dst + j.done) = none) :
    s.drvRow true =
      (let a := j.dst + j.done
       let n := min (j.len - j.done) (128 - a % 128)
       let r := s.ask (s.pieceRequest (reqWord 2 2 a n j.ctx 0xFFFE 0)
         (s.plainPieces .fill 2 a n (patternBytes j.pattern n)))
       r.2.onJob j.id fun k => { k with wait := .writing r.1 n n }) := by
  have hsome : min (j.len - j.done) (128 - (j.dst + j.done) % 128) ≠ 0 := by omega
  rw [State.drvRow_fill hjob hfill]
  simp only [State.fillStep, State.fillNext, hwait, hsome, hreach, hask, hhere, Bool.not_true, Bool.false_eq_true,
    if_false]

theorem State.drvRow_fillWritten {req n m : Nat} {rs : List Resp} (hwait : j.wait = .writing req n m)
    (hasked : s.asked req = some rs) (hfault : answerFault rs = none) :
    s.drvRow true = ((s.takeAnswers req).wroteRow j n m rs).jobGoes j.id State.fillNext := by
  rw [State.drvRow_fill hjob hfill]
  simp only [State.fillStep, hwait, hasked, State.rowWritten_good hfault]

end

/-! ### Rows of a crossbar job (R70, R73) -/

section
variable (hjob : s.cmd.xbarJob = some j)
include hjob

theorem State.drvRow_crossbar : s.drvRow false = s.crossRow j := by
  simp only [State.drvRow, hjob, Bool.false_eq_true, if_false]

theorem State.drvRow_crossAsks (hwait : j.wait = .none) : s.drvRow false = s.crossNext j := by
  rw [State.drvRow_crossbar hjob]
  simp only [State.crossRow, hwait]

theorem State.drvRow_crossWritten {req n m : Nat} {rs : List Resp} (hwait : j.wait = .writing req n m)
    (hasked : s.asked req = some rs) (hfault : answerFault rs = none) :
    s.drvRow false = ((s.takeAnswers req).wroteRow j n m rs).jobGoes j.id State.crossNext := by
  rw [State.drvRow_crossbar hjob]
  simp only [State.crossRow, hwait, hasked, State.rowWritten_good hfault]

theorem State.drvRow_crossRead {req n : Nat} {rs : List Resp} (hwait : j.wait = .reading req n)
    (hasked : s.asked req = some rs) : s.drvRow false = s.rowRead j req n rs := by
  rw [State.drvRow_crossbar hjob]
  simp only [State.crossRow, hwait, hasked]

end

/-! ### Rows of an evacuation (R349) -/

section
variable {e : EvacRun} {row : Nat} {buf : Option Nat} (hjob : s.cmd.bankJob = some j) (hkind : j.kind = .evacuate)
  (hevac : (s.ctest j.cluster).evac = some e)
include hjob hkind hevac

theorem State.evacRowCopy_asks (hcopy : (s.bankq (16 * j.cluster + e.bank)).copy = none) :
    s.evacRowCopy j.cluster = s.askEvac j.cluster := by
  simp only [State.evacRowCopy, State.evacRow, hjob, hkind, hevac, hcopy, and_self, if_true]

theorem State.evacRowCopy_copies {x : Piece}
    (hplace : s.evacPlace (16 * j.cluster + e.bank) e = some (row, buf))
    (hcopy : (s.bankq (16 * j.cluster + e.bank)).copy = some x)
    (hslot : s.evacReady (16 * j.cluster + e.bank) x = true) :
    s.evacRowCopy j.cluster = (s.copyRow j.cluster e row buf).askEvac j.cluster := by
  simp only [State.evacRowCopy, State.evacRow, hjob, hkind, hevac, hcopy, hplace, hslot, and_self, if_true]

end

/-! ### The end of a job (R73) -/

theorem State.jobComplete_fill (hjob : s.cmd.bankJob = some j) (hover : j.over = true) (hfill : j.kind = .fill) :
    s.jobComplete true = ((s.covered' j.dst j.len).foldl State.markInit s).endJob j j.result := by
  simp only [State.jobComplete, hjob, hover, hfill, if_true]

theorem State.jobComplete_crossbar (hjob : s.cmd.xbarJob = some j) (hover : j.over = true) (hkind : j.kind ≠ .fill) :
    s.jobComplete false = s.endJob j j.result := by
  simp only [State.jobComplete, hjob, hover, hkind, Bool.false_eq_true, if_true, if_false]

end

/-- Settles O38: each clause is one branch of the start of a job, of a row by what the job waits for, or of its end;
what then settles is the same on both sides. -/
theorem droverRows : Obligations.DroverRows := by
  intro s hready hhold
  refine ⟨fun j hfree hnext htoll => ?_, fun j hfree hnext htoll => ?_,
    fun j hjob hfill hwait hleft hreach hask hhere => ?_, fun j req n m rs hjob hfill hwait hasked hfault => ?_,
    fun j hjob => ⟨fun hwait => ?_, fun req n m rs hwait hasked hfault => ?_, fun req n rs hwait hasked => ?_⟩,
    fun j e row buf hjob hkind hevac hplace => ⟨fun hcopy => ?_, fun x hcopy hslot => ?_⟩,
    fun j hjob hover hfill => ?_, fun j hjob hover hkind => ?_⟩
  · rw [exec_drvJobStart hready, State.jobStart_bank hready hhold htoll hfree hnext]
  · rw [exec_drvJobStart hready, State.jobStart_crossbar hready hhold htoll hfree hnext]
  · rw [exec_drvRow hready, State.drvRow_fillAsks hjob hfill hwait hleft hreach hask hhere]
  · rw [exec_drvRow hready, State.drvRow_fillWritten hjob hfill hwait hasked hfault, State.wroteRow]
  · rw [exec_drvRow hready, State.drvRow_crossAsks hjob hwait]
  · rw [exec_drvRow hready, State.drvRow_crossWritten hjob hwait hasked hfault]
  · rw [exec_drvRow hready, State.drvRow_crossRead hjob hwait hasked]
  · rw [exec_evacRowCopy hready, State.evacRowCopy_asks hjob hkind hevac hcopy]
  · rw [exec_evacRowCopy hready, State.evacRowCopy_copies hjob hkind hevac hplace hcopy hslot, State.copyRow]
  · rw [exec_drvJobComplete hready, State.jobComplete_fill hjob hover hfill]
  · rw [exec_drvJobComplete hready, State.jobComplete_crossbar hjob hover hkind]

end Sys2Proof.Machine
end

section
/-!
PROOFS. Where the rows of a region lie (R79 to R81). A bank has one place in a stripe line (`linePlace`), the even banks
in its first half and the odd banks in its second.
-/

namespace Sys2Proof.Machine

/-! ### The banks of one cluster -/

/-- The position in a stripe at which a bank of a cluster is visited (R79): the even banks come first. -/
def stripePos (b : Nat) : Nat := b / 2 + 8 * (b % 2)

theorem stripeBank_lt {k : Nat} (hk : k < 16) : stripeBank k < 16 := by
  unfold stripeBank
  omega

theorem stripeBank_eq_iff {k b : Nat} (hk : k < 16) (hb : b < 16) : stripeBank k = b ↔ k = stripePos b := by
  unfold stripeBank stripePos
  omega

theorem stripePos_even (sub : Nat) : stripePos (2 * sub % 16) = sub % 8 := by
  unfold stripePos
  omega

theorem stripePos_odd (sub : Nat) : stripePos ((2 * sub + 1) % 16) = 8 + sub % 8 := by
  unfold stripePos
  omega

/-! ### A stripe line over `C` clusters -/

/-- The row of a stripe line that lies in a global bank. -/
def linePlace (C bank : Nat) : Nat := C * stripePos (bank % 16) + bank / 16

section
variable {C i : Nat}

theorem globalBank_eq_iff {c b bank : Nat} (hb : b < 16) : 16 * c + b = bank ↔ c = bank / 16 ∧ b = bank % 16 := by
  omega

/-- The inverse of the visiting order: a row of a line lies in a bank if it is that bank's row. -/
theorem lineBank_eq_iff {bank : Nat} (hi : i < 16 * C) (hbank : bank < 16 * C) :
    16 * (i % C) + stripeBank (i / C) = bank ↔ i = linePlace C bank := by
  have hk : i / C < 16 := Nat.div_lt_of_lt_mul (by rwa [Nat.mul_comm])
  have hc : bank / 16 < C := Nat.div_lt_of_lt_mul hbank
  calc 16 * (i % C) + stripeBank (i / C) = bank
      ↔ i % C = bank / 16 ∧ stripeBank (i / C) = bank % 16 := globalBank_eq_iff (stripeBank_lt hk)
    _ ↔ i / C = stripePos (bank % 16) ∧ i % C = bank / 16 := by
      rw [stripeBank_eq_iff hk (Nat.mod_lt bank (by decide)), and_comm]
    _ ↔ bank / 16 + C * stripePos (bank % 16) = i ∧ bank / 16 < C := Nat.div_mod_unique (by omega)
    _ ↔ i = linePlace C bank := by
      unfold linePlace
      omega

theorem linePlace_lt {bank : Nat} (hbank : bank < 16 * C) : linePlace C bank < 16 * C := by
  have hc : bank / 16 < C := Nat.div_lt_of_lt_mul hbank
  have hpos : stripePos (bank % 16) ≤ 15 := by
    unfold stripePos
    omega
  have := Nat.mul_le_mul_left C hpos
  unfold linePlace
  omega

theorem linePlace_even_lt {sub : Nat} (hsub : sub < 8 * C) : linePlace C (2 * sub) < 8 * C := by
  have := Nat.mul_le_mul_left C (show sub % 8 ≤ 7 by omega)
  rw [linePlace, stripePos_even]
  omega

theorem le_linePlace_odd (sub : Nat) : 8 * C ≤ linePlace C (2 * sub + 1) := by
  rw [linePlace, stripePos_odd, Nat.mul_add]
  omega

end

/-! ### The rows of a region -/

theorem clusters_pos (m : Model) : 0 < m.clusters := by cases m <;> decide

section
variable {r : Region} {m : Model}

theorem Region.place_stripe (h : r.mode = 0) (n : Nat) :
    r.place m n =
      (16 * (n % m.clusters) + stripeBank (n / m.clusters % 16), r.rowBase + n / (16 * m.clusters)) := if_pos h

theorem Region.place_cluster (h : r.mode = 1) (n : Nat) :
    r.place m n = (16 * r.cluster + stripeBank (n % 16), r.rowBase + n / 16) := by
  simp [Region.place, h]

theorem Region.place_bank (h : r.mode = 2) (n : Nat) : r.place m n = (16 * r.cluster + r.bank, r.rowBase + n) := by
  simp [Region.place, h]

section
variable (h : r.mode = 0) (line : Nat) {i : Nat} (hi : i < 16 * m.clusters)
include h hi

theorem Region.place_line :
    r.place m (16 * m.clusters * line + i) =
      (16 * (i % m.clusters) + stripeBank (i / m.clusters), r.rowBase + line) := by
  have hk : i / m.clusters < 16 := Nat.div_lt_of_lt_mul (by rwa [Nat.mul_comm])
  have hsplit : 16 * m.clusters * line + i = i + m.clusters * (16 * line) := by ring
  have hcluster : (16 * m.clusters * line + i) % m.clusters = i % m.clusters := by
    rw [hsplit, Nat.add_mul_mod_self_left]
  have hpos : (16 * m.clusters * line + i) / m.clusters % 16 = i / m.clusters := by
    rw [hsplit, Nat.add_mul_div_left _ _ (clusters_pos m), Nat.add_mul_mod_self_left, Nat.mod_eq_of_lt hk]
  have hline : (16 * m.clusters * line + i) / (16 * m.clusters) = line := by
    rw [Nat.mul_add_div (by omega), Nat.div_eq_of_lt hi, Nat.add_zero]
  rw [Region.place_stripe h, hcluster, hpos, hline]

theorem Region.place_line_bank_iff {bank : Nat} (hbank : bank < 16 * m.clusters) :
    (r.place m (16 * m.clusters * line + i)).1 = bank ↔ i = linePlace m.clusters bank := by
  rw [Region.place_line h line hi]
  exact lineBank_eq_iff hi hbank

end

end

/-- Settles O59: the row of a stripe line that lies in a bank is the one at the bank's place, in the first half of the
line for an even bank and in the second for an odd one. -/
theorem interleave : Obligations.Interleave := by
  intro r m
  refine ⟨fun h => ⟨fun n => Region.place_stripe h n, fun line bank hbank => ?_, fun line sub hsub => ⟨?_, ?_⟩⟩,
    fun h n => Region.place_cluster h n, fun h n => Region.place_bank h n⟩
  · have hplace := linePlace_lt hbank
    exact ⟨linePlace m.clusters bank,
      ⟨hplace, (Region.place_line_bank_iff h line hplace hbank).2 rfl,
        congrArg Prod.snd (Region.place_line h line hplace)⟩,
      fun i ⟨hi, hin, _⟩ => (Region.place_line_bank_iff h line hi hbank).1 hin⟩
  · have hbank : 2 * sub < 16 * m.clusters := by omega
    exact ⟨linePlace m.clusters (2 * sub),
      ⟨linePlace_even_lt hsub, (Region.place_line_bank_iff h line (linePlace_lt hbank) hbank).2 rfl⟩,
      fun i ⟨hi, hin⟩ => (Region.place_line_bank_iff h line (by omega) hbank).1 hin⟩
  · have hbank : 2 * sub + 1 < 16 * m.clusters := by omega
    have hplace := linePlace_lt hbank
    exact ⟨linePlace m.clusters (2 * sub + 1),
      ⟨le_linePlace_odd sub, hplace, (Region.place_line_bank_iff h line hplace hbank).2 rfl⟩,
      fun i ⟨_, hi, hin⟩ => (Region.place_line_bank_iff h line hi hbank).1 hin⟩

end Sys2Proof.Machine
end

section
/-!
PROOFS. A scale line's fill (R196 to R198), the end of an epoch by the time base and its settlement (R212, R215, R384),
and the effect of a stall swap (R147, R152): for each row the branch of its function that the premises name.
-/

namespace Sys2Proof.Machine

/-! ### The rows of the table -/

section
variable {s : State} (h : s.ready = true)
include h

theorem exec_scaleCacheFill {k : Nat} (hk : s.hasCluster k = true) (a : Nat) :
    exec (.scaleCacheFill k a) s = .next (s.fill k a).settle :=
  congrArg Host.Outcome.next
    ((State.live_of_ready h fun s => if s.hasCluster k then s.fill k a else s).trans (by rw [if_pos hk]))

theorem exec_epochTimeBoundary (id : Nat) : exec (.epochTimeBoundary id) s = .next (s.epochTime id).settle :=
  congrArg Host.Outcome.next (State.live_of_ready h fun s => s.epochTime id)

theorem exec_epochSettle (id : Nat) : exec (.epochSettle id) s = .next (s.epochSettle id).settle :=
  congrArg Host.Outcome.next (State.live_of_ready h fun s => s.epochSettle id)

theorem exec_stallSwapTakeEffect (n : Nat) :
    exec (.stallSwapTakeEffect n) s = .next (s.swapTakeEffect n).settle :=
  congrArg Host.Outcome.next (State.live_of_ready h fun s => s.swapTakeEffect n)

end

/-! ### What the answer to a fill does (R87, R197) -/

section
variable {s : State} {k a : Nat} {rs : List Resp}

theorem State.fillEnds_good {r : Resp} (hgood : answerFault rs = none) (hhead : rs.head? = some r)
    (hclean : r.spoil = 0) :
    s.fillEnds k a rs = s.onCache k (·.install a (BitVec.ofNat 256 (bytesAt r.data (a % 128) 32))) := by
  simp only [State.fillEnds, hgood, hhead, hclean, if_true]

theorem State.fillEnds_marked {r : Resp} (hgood : answerFault rs = none) (hhead : rs.head? = some r)
    (hmark : r.spoil ≠ 0) : s.fillEnds k a rs = (s.fillMark k a).fillFails k a := by
  simp only [State.fillEnds, hgood, hhead, hmark, if_false]

theorem State.fillEnds_refused {st : Status} (hfault : answerFault rs = some st) :
    s.fillEnds k a rs = (s.safetyRefusal 64 a st).fillFails k a := by
  simp only [State.fillEnds, hfault]

end

/-! ### The fill of a line (R123, R136, R196, R198) -/

section
variable {s : State} {k a : Nat} {f : CacheFill} (hf : (s.cache k).fills.find? (fun f => f.addr == a) = some f)
include hf

theorem fill_addr : f.addr = a := by simpa using List.find?_some hf

theorem State.fill_unasked (hreq : f.req = none) : s.fill k a = s.beginFill k f := by
  simp only [State.fill, hf, hreq]

section
variable {id : Nat} {rs : List Resp} (hreq : f.req = some id) (hasked : s.asked id = some rs)
include hreq hasked

theorem State.fill_fresh (hfresh : f.stale = false) :
    s.fill k a = ((s.takeAnswers id).dropFill k a).fillEnds k a rs := by
  simp only [State.fill, hf, hreq, hasked, hfresh, Bool.false_eq_true, if_false]

theorem State.fill_stale (hstale : f.stale = true) : s.fill k a = s.fillAgain k a id f := by
  simp only [State.fill, hf, hreq, hasked, hstale, if_true]

end

end

theorem State.beginFill_asks {s : State} {f : CacheFill} (k : Nat) (hreq : f.req = none)
    (howns : s.owns64 f.owner = true) (hrange : s.rangeFails f.owner [.r] false f.addr 32 = none)
    (hmay : s.mayAsk true = true) :
    s.beginFill k f =
      (s.askRead 0 f.owner f.addr 32).2.onCache k fun c =>
        { c with fills := c.fills.map fun g =>
            if g.addr = f.addr then { g with req := some (s.askRead 0 f.owner f.addr 32).1 } else g } := by
  simp only [State.beginFill, State.askFill, howns, hrange, hreq, hmay, Bool.not_true, Bool.false_eq_true, if_false,
    Option.isNone_none, and_self, if_true]

/-! ### Epochs (R212, R215, R384) -/

section
variable {s : State} {id : Nat} {v : View} (hv : s.view? id = some v)
include hv

theorem State.epochTime_reached (hmode : epochMode v.desc = 2) (hdue : serialGe64 s.now v.boundary = true) :
    s.epochTime id = s.onView id fun v =>
      { v.reachEnd s.clock.xck with boundary := nextBoundary (epochN v.desc * 1000) s.now } := by
  simp only [State.epochTime, hv, hmode, hdue, and_self, if_true]

theorem State.epochTime_early (hearly : serialGe64 s.now v.boundary = false) : s.epochTime id = s := by
  simp only [State.epochTime, hv, hearly, Bool.false_eq_true, and_false, if_false]

section
variable {r : EpochRec} (hr : v.settles = some r)
include hr

theorem State.epochSettle_alone (hnone : s.statsWaiting id r.count = none) :
    s.epochSettle id = s.settleEpoch id r := by
  simp only [State.epochSettle, hv, hr, hnone]

theorem State.epochSettle_answers {w : Waiting} (hw : s.statsWaiting id r.count = some w)
    (hawake : s.sleeping (replyTouches s (w.cmd.flag 2 0) (w.cmd.par 8 5) 96) = [])
    (hfree : w.cmd.flag 2 0 = true → s.spanFree (w.cmd.par 8 5) 96 true = true) :
    s.epochSettle id = ((s.settleEpoch id r).viewStats w.cmd).finish w.token w.cmd { status := .ok } := by
  have hspans : (replySpans (w.cmd.flag 2 0) (w.cmd.par 8 5) 96).all (fun x => s.spanFree x.1 x.2.1 x.2.2) = true := by
    cases hmem : w.cmd.flag 2 0 with
    | false => rfl
    | true => simpa [replySpans] using hfree hmem
  simp only [State.epochSettle, hv, hr, hw, hawake, hspans, if_true]

end

end

/-! ### The effect of a stall swap (R147, R152) -/

/-- The copies of a sub-port are exchanged, and its lap begins at `t`. -/
def SubPort.swapped (t : Nat) (u : SubPort) : SubPort := { u with act := u.shd, shd := u.act, t0 := t, swapAt := none }

/-- The STALL_SWAP of a number ends, and SWAP_PEND falls with it, unless a sub-port of its mask is still to swap. -/
def State.swapEnds (s : State) (token : Nat) : State :=
  if s.xbar.subs.any (fun e => match e.2.swapAt with | some (_, k) => k == token | none => false) then s
  else
    let t := s.onXbar fun x => { x with subs := x.subs.map fun e =>
      (e.1, if e.2.swapping = some token then { e.2 with swapping := none } else e.2) }
    match s.cmd.waiting.find? (fun w => w.token == token) with
    | some w => t.finish token w.cmd { status := .ok }
    | none => t

theorem State.swapTakeEffect_due {s : State} {n t token : Nat} (hswap : (s.sub n).swapAt = some (t, token))
    (hdue : t ≤ s.clock.xck) : s.swapTakeEffect n = (s.onSub n (SubPort.swapped t)).swapEnds token := by
  unfold State.swapTakeEffect
  simp only [hswap, Nat.not_lt.2 hdue, if_false]
  rfl

/-- Settles O26: each clause is the branch of its function that the lemmas above name; what then settles is the same on
both sides. -/
theorem conversionRows : Obligations.ConversionRows := by
  intro s hready
  refine ⟨fun k a f id rs hk hf hreq hasked hfresh =>
      ⟨fun r hgood hhead hclean => ?_, fun r hgood hhead hmark => ?_, fun st hfault => ?_⟩,
    fun k a f hk hf hreq howns hrange hmay => ?_, fun k a f id rs hk hf hreq hasked hstale => ?_,
    fun id v hv hmode => ⟨fun hdue => ?_, fun hearly => ?_⟩, fun id v r hv hr hnone => ?_,
    fun id v r w hv hr hw hawake hfree => ?_, fun n t token hswap hdue => ?_⟩
  · rw [exec_scaleCacheFill hready hk, State.fill_fresh hf hreq hasked hfresh, State.fillEnds_good hgood hhead hclean]
    rfl
  · rw [exec_scaleCacheFill hready hk, State.fill_fresh hf hreq hasked hfresh, State.fillEnds_marked hgood hhead hmark]
    rfl
  · rw [exec_scaleCacheFill hready hk, State.fill_fresh hf hreq hasked hfresh, State.fillEnds_refused hfault]
    rfl
  · obtain rfl := fill_addr hf
    rw [exec_scaleCacheFill hready hk, State.fill_unasked hf hreq, State.beginFill_asks k hreq howns hrange hmay]
  · rw [exec_scaleCacheFill hready hk, State.fill_stale hf hreq hasked hstale]
    rfl
  · rw [exec_epochTimeBoundary hready, State.epochTime_reached hv hmode hdue]
    rfl
  · rw [exec_epochTimeBoundary hready, State.epochTime_early hv hearly]
  · rw [exec_epochSettle hready, State.epochSettle_alone hv hr hnone]
  · rw [exec_epochSettle hready, State.epochSettle_answers hv hr hw hawake hfree]
  · rw [exec_stallSwapTakeEffect hready, State.swapTakeEffect_due hswap hdue]
    rfl

end Sys2Proof.Machine
end

section
/-!
PROOFS. The commands of the arbiter and the regulator (R125, R126, R142, R153, R158, R163, R172): each ends at once with
a write of one unit that has no part in the command interface, or with no write at all.
-/

namespace Sys2Proof.Machine

section
variable {s t : State} {b : Body} {c : Cmd} {r : Result}

theorem takes_given_still (h : s.takes b c = true) : (s.given c).still := given_quiet c (gives_quiet (takes_gives h).1)

/-- A command that ends at once leaves what it did and its final record, where that starts nothing by itself. -/
theorem runRow_leaves (hb : bodyOf b.code = some b) (h : s.takes b c = true) (hp : b.prompt)
    (htouch : b.touches c (s.given c) = []) (hf : b.fetch c (s.given c) = none)
    (ha : b.act s.cmd.accepted c (s.given c) = .done r t) (hcmd : t.cmd = (s.given c).cmd) (ht : t.still) :
    runRow b c s = { t with cmd := (s.replied c r).cmd } := by
  rw [← touched_none htouch] at hf ha
  exact runRow_done hb h (takes_prompt h hp) hf ha hcmd ht.events

end

/-- Settles O8: each row writes its port, its sub-port or the governor, none of which starts anything (`runRow_leaves`);
SHED_QUERY writes nothing. -/
theorem arbitrationCommands : Obligations.ArbitrationCommands := by
  refine ⟨fun c s => ⟨fun h => ?_, fun h => ?_, fun h => ?_⟩,
    fun c s => ⟨fun h => ?_, fun h => ?_, fun h => ?_, fun h => ?_, fun h => ?_, fun h => ?_⟩⟩
  · exact congrArg Host.Outcome.next (runRow_leaves (b := bodyPrioSet) rfl h rfl rfl rfl rfl rfl
      (onPort_still (takes_given_still h) fun _ _ => rfl) :)
  · exact congrArg Host.Outcome.next (runRow_leaves (b := bodyParkSet) rfl h rfl rfl rfl rfl rfl
      (takes_given_still h) :)
  · exact congrArg Host.Outcome.next (runRow_leaves (b := bodyStarveSet) rfl h rfl rfl rfl rfl rfl
      (takes_given_still h) :)
  · exact congrArg Host.Outcome.next (runRow_leaves (b := bodyShareSet) rfl h rfl rfl rfl rfl rfl
      (onPort_still (takes_given_still h) fun _ _ => rfl) :)
  · exact congrArg Host.Outcome.next (runRow_leaves (b := bodyUrgencySet) rfl h rfl rfl rfl rfl rfl
      (takes_given_still h) :)
  · exact congrArg Host.Outcome.next (runRow_leaves (b := bodyLatencySet) rfl h rfl rfl rfl rfl rfl
      (onPort_still (takes_given_still h) fun _ _ => rfl) :)
  · exact congrArg Host.Outcome.next (runRow_leaves (b := bodyBudgetSet) rfl h rfl rfl rfl rfl rfl
      (onPort_still (takes_given_still h) fun _ _ => rfl) :)
  · exact congrArg Host.Outcome.next (runRow_leaves (b := bodyPowerLimitSet) rfl h rfl rfl rfl rfl rfl
      (takes_given_still h) :)
  · exact congrArg Host.Outcome.next (runRow_replied_given rfl h rfl rfl rfl rfl)

end Sys2Proof.Machine
end

section
/-!
PROOFS. The ports (R102 to R124): requests and beats enter a converter that is open to them, responses and WAKE messages
cross to the integrator, and a FENCE is answered once what it covers has gone.
-/

namespace Sys2Proof.Machine

section
variable {s : State} {p : Nat}

/-! ### Requests (R115, R123, R124, R132) -/

theorem State.takesRequest_of_open (hopen : s.portOpen p = true) (hroom : s.fifoRoom p = true)
    (hheld : s.reqHeld p = false) (hreset : (s.port p).resetting = none) : s.takesRequest p = true := by
  simp [State.takesRequest, hopen, hroom, hheld, hreset]

theorem State.requestOf_takes {op : Nat} {r : ReqWord} (hp : p < 56) (htakes : s.takesRequest p = true)
    (hop : rqOp r.word = op) : s.requestOf op p r = (s.offer p { req := r }).converted := by
  rw [State.requestOf, if_pos hop, State.requestRow, if_pos ⟨hp, htakes⟩]

/-- The row of each value of OP lets a request of its own OP cross. -/
theorem requestRows_next {r : ReqWord} {t : State} (h : ∀ op, rqOp r.word = op → s.requestOf op p r = t) :
    (rqOp r.word = 0 → exec (.nopRequest p r) s = .next t) ∧
      (rqOp r.word = 1 → exec (.rd p r) s = .next t) ∧
      (rqOp r.word = 2 → exec (.wr p r) s = .next t) ∧
      (rqOp r.word = 3 → exec (.wrm p r) s = .next t) ∧
      (rqOp r.word = 4 → exec (.acc p r) s = .next t) ∧
      (rqOp r.word = 5 → exec (.foldRequest p r) s = .next t) ∧
      (rqOp r.word = 6 → exec (.fence p r) s = .next t) ∧
      (rqOp r.word = 7 → exec (.cmdRequest p r) s = .next t) :=
  ⟨fun hop => congrArg Host.Outcome.next (h _ hop), fun hop => congrArg Host.Outcome.next (h _ hop),
    fun hop => congrArg Host.Outcome.next (h _ hop), fun hop => congrArg Host.Outcome.next (h _ hop),
    fun hop => congrArg Host.Outcome.next (h _ hop), fun hop => congrArg Host.Outcome.next (h _ hop),
    fun hop => congrArg Host.Outcome.next (h _ hop), fun hop => congrArg Host.Outcome.next (h _ hop)⟩

/-! ### Write-data beats (R106, R128) -/

theorem exec_writeDataBeat {b : WBeat} (hp : p < 56) (hopen : s.portOpen p = true)
    (hroom : (s.port p).wd.length < wdSize p) (hreset : (s.port p).resetting = none) :
    exec (.writeDataBeat p b) s = .next ((s.takeBeat p b).pump p).converted :=
  congrArg Host.Outcome.next (if_pos ⟨hp, hopen, hroom, hreset⟩)

theorem State.takeBeat_good {b : WBeat} (hctl : b.badCtl = false) (hbytes : b.badBytes = 0) :
    s.takeBeat p b = s.onPort p fun q => { q with wd := q.wd ++ [b] } := by
  simp [State.takeBeat, WBeat.fails, hctl, hbytes]

theorem State.takeBeat_bad {b : WBeat} (hbad : b.badCtl = true ∨ b.badBytes ≠ 0) :
    s.takeBeat p b = (((s.onPort p fun q => { q with wd := q.wd ++ [b] }).onPort p fun q =>
      { q with wdPar := satAdd 0xFF q.wdPar 1 }).onXbar fun x =>
        { x with irq := setBit x.irq 1, parSource := BitVec.ofNat 7 p, parKind := 1 }).report
          { code := 0x02, port := p } := by
  have hfails : b.fails = true := by simpa [WBeat.fails] using hbad
  rw [State.takeBeat, if_pos hfails]

/-! ### Responses (R111, R122) -/

theorem exec_responseTransfer (hlive : s.portLive p = true) (hp : p < 64) :
    exec (.responseTransfer p) s = .next ((s.transfer p).pump p).settle :=
  congrArg Host.Outcome.next (if_pos ⟨hlive, hp⟩)

theorem State.transfer_wake {w : Resp} (hw : (s.port p).wakeReady = some w) :
    s.transfer p = (s.onPort p fun q => { q with wakes := q.wakes.erase w, out := some w, wire := some w.bits }).onFolds
      fun u => { u with slots := u.slots.modify [] p (·.erase (w.token.toNat % 128)) } := by
  simp only [State.transfer, hw]

theorem State.transfer_resp {r : Resp} {rest : List Resp} (hw : (s.port p).wakeReady = none)
    (hr : (s.port p).resp = r :: rest) :
    s.transfer p = s.onPort p fun q => { q with resp := rest, out := some r, wire := some r.bits } := by
  simp only [State.transfer, hw, hr]

/-! ### Fences (R119) -/

theorem State.fenceComplete_over {o : Outst} (ho : s.outst? o.id = some o) (hplan : o.plan = .fence)
    (hsent : o.sent = true) (hcovers : ∀ k ∈ o.covers, s.outst? k = none) :
    s.fenceComplete o.id = (s.answer o (if o.lost then .remoteLost else .ok) 0).pump o.port := by
  have hall : o.covers.all (fun k => (s.outst? k).isNone) = true :=
    List.all_eq_true.2 fun k hk => by rw [hcovers k hk]; rfl
  unfold State.fenceComplete
  simp only [ho]
  rw [if_pos ⟨hplan, hsent, hall⟩]

theorem exec_fenceComplete (h : s.ready = true) (id : Nat) :
    exec (.fenceComplete id) s = .next (s.fenceComplete id).settle :=
  congrArg Host.Outcome.next (State.live_of_ready h fun s => s.fenceComplete id)

end

/-- Settles O18: a port that is open takes what its row presents; what crosses or is answered is the branch of its
function that the lemmas above name. -/
theorem portRows : Obligations.PortRows := by
  refine ⟨fun p r s hp hopen hroom hheld hreset => requestRows_next fun op hop =>
      State.requestOf_takes hp (State.takesRequest_of_open hopen hroom hheld hreset) hop,
    fun p s => ⟨fun b hp hopen hroom hreset hctl hbytes => ?_, fun b hp hopen hroom hreset hbad => ?_,
      fun w hlive hp hw => ?_, fun r rest hlive hp hw hr => ?_, fun o hready ho hplan hsent hcovers => ?_⟩⟩
  · rw [exec_writeDataBeat hp hopen hroom hreset, State.takeBeat_good hctl hbytes]
  · rw [exec_writeDataBeat hp hopen hroom hreset, State.takeBeat_bad hbad]
    rfl
  · rw [exec_responseTransfer hlive hp, State.transfer_wake hw]
  · rw [exec_responseTransfer hlive hp, State.transfer_resp hw hr]
  · rw [exec_fenceComplete hready, State.fenceComplete_over ho hplan hsent hcovers]

end Sys2Proof.Machine
end

section
/-!
PROOFS. A request at an idle port (R110, R127): the head of a converter whose FIFO holds nothing else goes as far as it
can in one step, and the port is idle again.
-/

namespace Sys2Proof.Machine

/-! ### Ports written twice -/

theorem State.onPort_onPort (s : State) (p : Nat) (f g : Port → Port) :
    (s.onPort p f).onPort p g = s.onPort p fun q => g (f q) := by
  simp [State.onPort, State.port, Tbl.get_set, Tbl.set_set]

/-- What is written to a port goes by that port alone. -/
theorem State.onPort_congr {s : State} {p : Nat} {f g : Port → Port} (h : f (s.port p) = g (s.port p)) :
    s.onPort p f = s.onPort p g := by
  unfold State.onPort
  rw [h]

theorem State.port_onPort_self (s : State) (p : Nat) (f : Port → Port) : (s.onPort p f).port p = f (s.port p) := by
  rw [State.port_onPort_eq, if_pos rfl]

section
variable {s t : State} {p : Nat} {r : ReqWord}

/-! ### An idle port (R115, R120) -/

theorem State.release_nil (h : s.outstOf p = []) : s.release p = s := by
  rw [State.release, h]
  rfl

theorem State.release_one {o : Outst} (h : s.outstOf p = [o]) (ho : s.outst? o.id = some o) (hsent : o.sent = false)
    (hsend : s.sendable o = true) : s.release p = s.send o := by
  rw [State.release, h]
  simp only [List.map_cons, List.map_nil, State.releaseFrom, ho, hsent, hsend, Bool.not_false, Bool.and_self, if_true]

theorem State.acceptHead_nil (h : (s.port p).fifo = []) : s.acceptHead p = none := by
  simp only [State.acceptHead, h]

theorem State.pumpN_idle (h : (s.port p).fifo = []) (n : Nat) : s.pumpN p n = s := by
  cases n with
  | zero => rfl
  | succ n => simp only [State.pumpN, State.acceptHead_nil h]

/-- A head that leaves nothing behind it is all that moves. -/
theorem State.pump_one (hready : s.ready = true) (hout : s.outstOf p = []) (hhead : s.acceptHead p = some t)
    (hidle : (t.port p).fifo = []) : s.pump p = t := by
  rw [State.pump, if_pos hready, State.release_nil hout]
  simp only [State.pumpN, hhead]
  exact State.pumpN_idle hidle 32

theorem State.fifoRoom_idle (hfifo : (s.port p).fifo = []) (hout : s.outstOf p = []) : s.fifoRoom p = true := by
  have hpos : 0 < fifoSize p := by
    unfold fifoSize
    split <;> decide
  simpa [State.fifoRoom, hfifo, hout] using hpos

theorem State.reqHeld_idle (hfifo : (s.port p).fifo = []) : s.reqHeld p = false := by
  simp only [State.reqHeld, hfifo]

theorem outstOf_nil (h : s.xbar.outst = []) (p : Nat) : s.outstOf p = [] := by
  rw [State.outstOf, h]
  rfl

/-- A port with one request in its FIFO. -/
def State.presented (s : State) (p : Nat) (r : ReqWord) : State :=
  s.onPort p fun x => { x with fifo := x.fifo ++ [{ req := r }] }

theorem State.presented_port (hfifo : (s.port p).fifo = []) :
    (s.presented p r).port p = { s.port p with fifo := [{ req := r }] } := by
  rw [State.presented, State.port_onPort_self, hfifo]
  rfl

theorem converted_quiet (hready : s.ready = true) (hrun : s.running) (hstill : s.still) : s.converted = s := by
  rw [State.converted, if_pos hready, wakeBlock_running hrun, settle_of_still hstill]

/-- A request that its idle port serves in one step, in a block that is still after it. -/
theorem requestOf_idle {op : Nat} (hq : s.quiet = true) (hp : p < 56) (hopen : s.portOpen p = true)
    (hreset : (s.port p).resetting = none) (hfifo : (s.port p).fifo = []) (hout : s.xbar.outst = [])
    (hhead : (s.presented p r).acceptHead p = some t) (hidle : (t.port p).fifo = [])
    (hready : t.ready = true) (hrun : t.running) (hstill : t.still) (hop : rqOp r.word = op) :
    s.requestOf op p r = t := by
  obtain ⟨hready', -⟩ := (State.quiet_iff s).1 hq
  have hout' := outstOf_nil hout p
  have htakes := State.takesRequest_of_open hopen (State.fifoRoom_idle hfifo hout') (State.reqHeld_idle hfifo) hreset
  have hpump : s.offer p { req := r } = t := State.pump_one hready' hout' hhead hidle
  rw [State.requestOf_takes hp htakes hop, hpump, converted_quiet hready hrun hstill]

/-! ### Bad parity (R127) -/

/-- A port in PARITY_HOLD, with one more error counted. -/
def Port.parityHeld (q : Port) : Port := { q with parityHold := true, reqPar := satAdd 0xFF q.reqPar 1 }

/-- A request whose parity fails leaves its port in PARITY_HOLD, counted and reported. -/
def State.parityHeld (s : State) (p : Nat) : State :=
  ((s.onPort p Port.parityHeld).onXbar fun x =>
    { x with irq := setBit x.irq 0, parSource := BitVec.ofNat 7 p, parKind := 0 }).onSafety fun y =>
      { y with reports := y.reports ++ [{ code := 0x01, port := p }] }

theorem acceptHead_bad (hfifo : (s.port p).fifo = []) (hbad : r.good = false) :
    (s.presented p r).acceptHead p = some (s.parityHeld p) := by
  have hdone : ((s.presented p r).onPort p fun q => { q with fifo := [] }).parityFault p = s.parityHeld p := by
    change State.parityHeld _ p = _
    rw [State.parityHeld, State.presented, State.onPort_onPort, State.onPort_onPort,
      State.onPort_congr (g := Port.parityHeld) (by rw [← hfifo])]
    rfl
  unfold State.acceptHead
  simp only [State.presented_port hfifo, hbad, Bool.not_false, if_true]
  exact congrArg some hdone

theorem parityHeld_idle (hfifo : (s.port p).fifo = []) : ((s.parityHeld p).port p).fifo = [] :=
  (congrArg Port.fifo (State.port_onPort_self s p Port.parityHeld)).trans hfifo

theorem parityHeld_still (h : s.still) : (s.parityHeld p).still :=
  onPort_still (p := p) (f := Port.parityHeld) h fun _ _ => rfl

end

/-- Settles O20: the head of the FIFO is discarded whatever it asks, and nothing of it is left to go on. -/
theorem requestParityFault : Obligations.RequestParityFault := by
  intro p r s hq hp hopen hreset hbad hfifo hout
  obtain ⟨hready, hstill, -, -, -, -, -, hrun⟩ := (State.quiet_iff s).1 hq
  exact requestRows_next (t := s.parityHeld p) fun op hop =>
    requestOf_idle hq hp hopen hreset hfifo hout (acceptHead_bad hfifo hbad) (parityHeld_idle hfifo) hready hrun
      (parityHeld_still hstill) hop

/-! ### A NOP (R110) -/

section
variable {s : State} {p : Nat} {r : ReqWord}

/-- A NOP as the ingress accepts it. -/
def State.nopOf (s : State) (p : Nat) (r : ReqWord) : Outst :=
  { id := s.xbar.nextReq, port := p, word := r.word, since := s.clock.xck, plan := .answer .ok, dest := .ingress }

/-- With the NOP accepted, before it leaves the ingress. -/
def State.nopAccepted (s : State) (p : Nat) (r : ReqWord) : State :=
  s.onXbar fun x => { x with outst := x.outst ++ [s.nopOf p r], nextReq := x.nextReq + 1 }

/-- A port at which a response waits. -/
def Port.given (a : Resp) (q : Port) : Port := { q with resp := q.resp ++ [a] }

/-- The answer to a NOP. -/
def State.nopAnswer (s : State) (r : ReqWord) : Resp :=
  { tag := rqTag r.word, status := .ok, token := 0, req := s.xbar.nextReq }

/-- A NOP has been answered. -/
def State.nopDone (s : State) (p : Nat) (r : ReqWord) : State :=
  (s.onPort p (Port.given (s.nopAnswer r))).onXbar fun x => { x with nextReq := x.nextReq + 1 }

/-- A NOP orders nothing and waits for nothing. -/
theorem sendable_nop {o : Outst} (hop : o.op = 0) (hplan : o.plan = .answer .ok) : s.sendable o = true := by
  simp [State.sendable, hop, hplan]

theorem plan_nop {o : Outst} (hp : o.port < 56) (hop : o.op = 0) (hhold : (s.port o.port).parityHold = false)
    (hctx : (s.port o.port).allows o.ctx = true) : s.plan o = ({ o with plan := .answer .ok }, s) := by
  have hlink : isLink o.port = false := by simp [isLink, hp]
  simp [State.plan, State.planOther, hop, hctx, hhold, hlink]

/-- The only request of a block, a NOP, is answered as it leaves the ingress. -/
theorem nopAccepted_release (hop : rqOp r.word = 0) (hout : s.xbar.outst = []) :
    (s.nopAccepted p r).release p = s.nopDone p r := by
  have houtst : (s.nopAccepted p r).xbar.outst = [s.nopOf p r] := by
    simp [State.nopAccepted, hout]
  have hof : (s.nopAccepted p r).outstOf p = [s.nopOf p r] := by
    simp [State.outstOf, houtst, State.nopOf]
  have hfind : (s.nopAccepted p r).outst? (s.nopOf p r).id = some (s.nopOf p r) := by
    simp [State.outst?, houtst]
  have hnop : (s.nopOf p r).op = 0 := hop
  rw [State.release_one hof hfind rfl (sendable_nop hnop rfl)]
  have hsend : (s.nopAccepted p r).send (s.nopOf p r) = (s.nopAccepted p r).answer (s.nopOf p r) .ok 0 := by
    simp [State.send, State.nopOf, State.refuseReq, Outst.op, hop]
  rw [hsend]
  simp [State.answer, State.present, State.ended, State.dropOutst, State.nopOf, State.nopAccepted, State.nopDone,
    State.nopAnswer, Port.given, State.onPort, State.onXbar, State.port, hout, Outst.tag]

theorem headReady_nop {w : BitVec 128} (hop : rqOp w = 0) (hout : s.outstOf p = []) : s.headReady p w = true := by
  have hpos : 0 < readLimit p := by
    unfold readLimit
    split <;> decide
  simp [State.headReady, State.readsOut, hop, hout, countsRead, hasData, hpos]

/-- A request without data, once the checks of R98 have been made on it. -/
theorem acceptHead_dataless {h : Queued} {rest : List Queued} {x : Outst × State} (hfifo : (s.port p).fifo = h :: rest)
    (hgood : h.req.good = true) (hready : s.headReady p h.req.word = true) (hdata : hasData (rqOp h.req.word) = false)
    (hplan : ((s.onPort p fun q => { q with fifo := rest }).onPort p fun q => { q with wd := (s.port p).wd }).plan
      { id := s.xbar.nextReq, port := p, word := h.req.word, link := h.link
        beats := if rqOp h.req.word = 1 then s.beatsOf h.req.word else 1
        since := s.clock.xck, plan := .fence, dest := .ingress } = x) :
    s.acceptHead p =
      some ((x.2.onXbar fun y => { y with outst := y.outst ++ [x.1], nextReq := y.nextReq + 1 }).release p) := by
  subst hplan
  unfold State.acceptHead
  simp only [hfifo, hgood, hready, hdata, Bool.not_true, Bool.false_eq_true, if_false]
  rfl

theorem acceptHead_nop (hp : p < 56) (hop : rqOp r.word = 0) (hgood : r.good = true)
    (hfifo : (s.port p).fifo = []) (hout : s.xbar.outst = []) (hhold : (s.port p).parityHold = false)
    (hctx : (s.port p).allows (rqCtx r.word) = true) :
    (s.presented p r).acceptHead p = some (s.nopDone p r) := by
  have hfifo' : ((s.presented p r).port p).fifo = [{ req := r }] := by rw [State.presented_port hfifo]
  have hpop : ((s.presented p r).onPort p fun q => { q with fifo := [] }).onPort p (fun q =>
      { q with wd := ((s.presented p r).port p).wd }) = s.onPort p id := by
    rw [State.presented_port hfifo, State.presented, State.onPort_onPort, State.onPort_onPort]
    exact State.onPort_congr (by rw [← hfifo]; rfl)
  have hport : (s.onPort p id).port p = s.port p := State.port_onPort_self s p id
  have hplan : (s.onPort p id).plan { s.nopOf p r with plan := .fence } = (s.nopOf p r, s.onPort p id) :=
    plan_nop hp hop (hport ▸ hhold) (hport ▸ hctx)
  have hhead := acceptHead_dataless (x := (s.nopOf p r, s.onPort p id)) hfifo' hgood
    (headReady_nop hop (outstOf_nil hout p)) (by rw [hop]; rfl) (by rw [hpop, if_neg (by simp [hop])]; exact hplan)
  have hnop : (s.onPort p id).nopDone p r = s.nopDone p r := by
    simp only [State.nopDone, State.onPort_onPort]
    rfl
  exact hhead.trans (congrArg some ((nopAccepted_release (s := s.onPort p id) hop hout).trans hnop))

theorem nopDone_idle (hfifo : (s.port p).fifo = []) : ((s.nopDone p r).port p).fifo = [] :=
  (congrArg Port.fifo (State.port_onPort_self s p (Port.given (s.nopAnswer r)))).trans hfifo

/-- The answer waits at a data port, where no dispatcher looks for one. -/
theorem nopDone_still (hp : p < 56) (h : s.still) : (s.nopDone p r).still :=
  onPort_still (p := p) (f := Port.given (s.nopAnswer r)) h
    fun c hc => absurd hc (by unfold eventPort; omega)

end

/-- Settles O19: the NOP is accepted and, since it waits for nothing, answered in the same step. -/
theorem nopAnswered : Obligations.NopAnswered := by
  intro p r s hq hp hopen hreset hop hgood hfifo hout hhold hctx
  obtain ⟨hready, hstill, -, -, -, -, -, hrun⟩ := (State.quiet_iff s).1 hq
  exact congrArg Host.Outcome.next (requestOf_idle hq hp hopen hreset hfifo hout
    (acceptHead_nop hp hop hgood hfifo hout hhold hctx) (nopDone_idle hfifo) hready hrun (nopDone_still hp hstill) hop)

end Sys2Proof.Machine
end

section
/-!
PROOFS. The sub-ports (R115, R126, R136, R154, R155): a piece enters its queue, and both sides of a sub-port decide in
one XCK, each from what stood before it.
-/

namespace Sys2Proof.Machine

section
variable {s : State} {n : Nat}

/-! ### A piece enters the queue (R155) -/

/-- A queue that takes a piece in this XCK, with its place in the order of acceptance. -/
def SubPort.entered (xck : Nat) (x : Piece) (u : SubPort) : SubPort :=
  { (if u.queue.isEmpty then u.parked else u) with
    queue := u.queue ++ [x]
    acceptXck := xck
    acceptNum := if u.acceptXck = xck then u.acceptNum + 1 else 1 }

/-- The same, with the park pointer set first. -/
def SubPort.parkedEntered (xck : Nat) (x : Piece) (u : SubPort) : SubPort :=
  let v := if u.queue.isEmpty then u.parked else u
  { v with
    queue := v.queue ++ [x]
    acceptXck := xck
    acceptNum := if v.acceptXck = xck then v.acceptNum + 1 else 1 }

/-- The park pointer takes no part in the acceptance. -/
theorem SubPort.entered_eq : SubPort.entered = SubPort.parkedEntered := by
  funext xck x u
  unfold SubPort.entered SubPort.parkedEntered
  cases u.queue.isEmpty <;> rfl

/-- The piece `x` of initiator `q` stands in the queue of sub-port `n`, and no longer at the port. -/
def State.queued (s : State) (q n : Nat) (x : Piece) : State :=
  let t := ((s.onPort q fun r => { r with pieces := r.pieces.erase x }).onSub n
    (SubPort.entered s.clock.xck { x with queuedAt := s.clock.xck, seq := s.xbar.nextSeq })).onXbar fun r =>
      { r with nextSeq := r.nextSeq + 1 }
  if x.kind = .entry then t else t.noteAccepted x.req

/-- The request of the piece goes on at its port. -/
def State.pumpRequest (s : State) (id : Nat) : State :=
  match s.outst? id with
  | some o => s.pump o.port
  | none => s

theorem State.enterQueue_takes {q : Nat} {x : Piece} (hat : s.atQueue q n = some x) (hrun : s.inRun (n / 8) = true)
    (husable : (s.sub n).unusable = false) (htakes : s.queueTakes n x.port = true) (hfirst : s.firstIn n x = true)
    (hfew : (s.sub n).acceptXck ≠ s.clock.xck ∨ (s.sub n).acceptNum < 4) :
    s.enterQueue q n = (s.queued q n x).pumpRequest x.req := by
  have hgo : s.inRun (n / 8) = true ∧ ¬ (s.sub n).unusable = true ∧ s.queueTakes n x.port = true ∧
      s.firstIn n x = true ∧ ((s.sub n).acceptXck ≠ s.clock.xck ∨ (s.sub n).acceptNum < 4) :=
    ⟨hrun, by simp [husable], htakes, hfirst, hfew⟩
  unfold State.enterQueue
  simp only [hat]
  rw [if_pos hgo, State.queued, SubPort.entered_eq]
  rfl

/-- Initiator 64 stands also for the dispatcher of the cluster (R245). -/
theorem State.acceptAt_of {p q : Nat}
    (h : q = p ∧ (p ≠ 64 ∨ (s.atQueue 64 n).isSome = true) ∨ p = 64 ∧ s.atQueue 64 n = none ∧ q = 65 + n / 8) :
    s.acceptAt p n = s.enterQueue q n := by
  unfold State.acceptAt
  obtain ⟨rfl, hown⟩ | ⟨rfl, hnone, rfl⟩ := h
  · rw [if_neg]
    rintro ⟨rfl, hnone⟩
    simp_all
  · rw [if_pos ⟨rfl, by rw [hnone]; rfl⟩]

theorem exec_pieceQueueAccept {p : Nat} (hready : s.ready = true) (hn : s.cfg.hasSubport n = true) (hp : p < 65)
    (hfew : (s.sub n).acceptXck ≠ s.clock.xck ∨ (s.sub n).acceptNum < 4) :
    exec (.pieceQueueAccept p n) s = .next (s.acceptAt p n).settle := by
  have hnow : ¬ ((s.sub n).acceptXck = s.clock.xck ∧ 4 ≤ (s.sub n).acceptNum ∧ s.ready = true) := by
    rintro ⟨hxck, hfour, -⟩
    exact hfew.elim (· hxck) (Nat.not_lt.2 hfour)
  have hrow : exec (.pieceQueueAccept p n) s =
      .next (if s.cfg.hasSubport n ∧ p < 65 then s.live (·.acceptAt p n) else s) := by
    change execPieceQueueAccept p n s = _
    unfold execPieceQueueAccept
    rw [if_neg hnow]
  rw [hrow, if_pos ⟨hn, hp⟩, State.live_of_ready hready]

/-! ### A decision (R136, R140, R154, R394) -/

theorem exec_subportGrant (hready : s.ready = true) (hnew : (s.sub n).rd.decided ≠ s.clock.xck + 1) :
    exec (.subportGrant n) s = .next (s.grant n).settle := by
  have hnow : ¬ ((s.sub n).rd.decided = s.clock.xck + 1 ∧ s.ready = true) := fun h => hnew h.1
  have hrow : exec (.subportGrant n) s = .next (s.live (·.grant n)) := by
    change execSubportGrant n s = _
    unfold execSubportGrant
    rw [if_neg hnow]
  rw [hrow, State.live_of_ready hready]

/-! ### What the grant of a piece leaves of a sub-port: its counts go to the governor, the port and the bank -/

@[simp] theorem State.sub_onGov (s : State) (f : Gov → Gov) (k : Nat) : (s.onGov f).sub k = s.sub k := rfl

@[simp] theorem State.sub_onPort (s : State) (p : Nat) (f : Port → Port) (k : Nat) :
    (s.onPort p f).sub k = s.sub k := rfl

@[simp] theorem State.sub_onBankq (s : State) (b : Nat) (f : BankQueue → BankQueue) (k : Nat) :
    (s.onBankq b f).sub k = s.sub k := rfl

@[simp] theorem State.sub_govFlag (s : State) (i k : Nat) : (s.govFlag i).sub k = s.sub k := rfl

@[simp] theorem State.sub_climb (s : State) (k : Nat) : s.climb.sub k = s.sub k := by
  unfold State.climb
  dsimp only
  repeat' split
  all_goals simp

@[simp] theorem State.sub_charge (s : State) (p c tolls k : Nat) : (s.charge p c tolls).sub k = s.sub k := by
  simp [State.charge]

@[simp] theorem State.sub_countBytes (s : State) (p k : Nat) : (s.countBytes p).sub k = s.sub k := rfl

/-- The read side's grant leaves the write side of its sub-port (R154). -/
theorem State.grantSide_read_wr (t : Nat) (d : Option (GrantStep × Piece)) :
    ((s.grantSide n true t d).sub n).wr = (s.sub n).wr := by
  cases d with
  | none => simp [State.grantSide, State.sub_onSub_eq, SubPort.onSide]
  | some d => simp [State.grantSide, State.sub_onSub_eq, SubPort.onSide]

/-- The read side's decision in XCK `t`. -/
def State.readDecided (s : State) (n t : Nat) : State :=
  if (s.sub n).rd.muted then s.onSub n fun u => { u with rd := { u.rd with muted := false, decided := t + 1 } }
  else s.grantSide n true t (s.choice n true t)

theorem State.decideSide_read (t : Nat) : s.decideSide n true t (s.choice n true t) = s.readDecided n t := rfl

theorem State.readDecided_wr (t : Nat) : ((s.readDecided n t).sub n).wr = (s.sub n).wr := by
  unfold State.readDecided
  split
  · simp [State.sub_onSub_eq]
  · exact State.grantSide_read_wr t _

theorem State.decideSide_write_grants {t : Nat} {d : Option (GrantStep × Piece)} (h : (s.sub n).wr.muted = false) :
    s.decideSide n false t d = s.grantSide n false t d :=
  if_neg (show ¬ (s.sub n).wr.muted = true by simp [h])

theorem State.decideSide_write_muted {t : Nat} {d : Option (GrantStep × Piece)} (h : (s.sub n).wr.muted = true) :
    s.decideSide n false t d =
      s.onSub n fun u => { u with wr := { u.wr with muted := false, decided := t + 1 } } :=
  if_pos h

theorem State.grant_decides (hready : s.ready = true) (hn : s.cfg.hasSubport n = true) (hrun : s.inRun (n / 8) = true)
    (husable : (s.sub n).unusable = false) :
    s.grant n =
      (s.readDecided n s.clock.xck).decideSide n false s.clock.xck (s.choice n false s.clock.xck) :=
  if_pos ⟨hready, hn, hrun, by simp [husable]⟩

end

/-- Settles O21: the piece passes every guard of its queue; the write side decides by what stood before the XCK, and the
read side's decision leaves it unmuted or muted as it was. -/
theorem subportRows : Obligations.SubportRows := by
  refine ⟨fun p q n x s hready hn hp hq hat hrun husable htakes hfirst hfew => ?_,
    fun n s hready hn hrun husable hnew => ⟨fun hwr => ?_, fun hwr => ?_⟩⟩
  · have hrow := exec_pieceQueueAccept hready hn hp hfew
    rw [State.acceptAt_of hq, State.enterQueue_takes hat hrun husable htakes hfirst hfew] at hrow
    exact hrow
  · have hwr' : ((s.readDecided n s.clock.xck).sub n).wr.muted = false := by rw [State.readDecided_wr, hwr]
    rw [exec_subportGrant hready hnew, State.grant_decides hready hn hrun husable, State.decideSide_write_grants hwr']
    rfl
  · have hwr' : ((s.readDecided n s.clock.xck).sub n).wr.muted = true := by rw [State.readDecided_wr, hwr]
    rw [exec_subportGrant hready hnew, State.grant_decides hready hn hrun husable, State.decideSide_write_muted hwr']
    rfl

end Sys2Proof.Machine
end

section
/-!
PROOFS. Accesses on CTL and SP (R131, R364, R367, R368, R398, R436, R437): what a register write or read does in a quiet
block, and what an access does to the cluster whose register block it reaches.
-/

namespace Sys2Proof.Machine

section
variable {s : State} {a : RegAccess}

/-! ### What is performed (R131, R398) -/

/-- The safety partition belongs to no cluster (R12). -/
theorem regPlace_safety_cluster (m : Model) (h : a.safety = true) : (regPlace m a.addr).cluster? = none := by
  have hmax : m.clusters ≤ 8 := by cases m <;> decide
  have hlow : 0x800000 ≤ a.addr.toNat := of_decide_eq_true h
  have hblk : 0x80 ≤ a.addr.toNat / 4 * 4 / 2 ^ 16 := by omega
  unfold regPlace
  dsimp only
  rw [if_neg (by omega), if_neg (by omega), if_neg (by omega), if_neg (by omega), if_neg (by omega), if_neg (by omega),
    if_neg (by omega)]
  split <;> rfl

theorem regPerform_perm (hpar : a.parityOk = true) (hwrite : a.write = true) (hsafety : a.safety = true)
    (hsp : a.sp = false) : s.regPerform a = s.answerReg a 0 .perm := by
  unfold State.regPerform
  simp only [hpar, hwrite, hsafety, hsp, regReaches_none (regPlace_safety_cluster s.cfg hsafety), ite_self,
    Bool.not_true, Bool.not_false, Bool.and_self, Bool.false_eq_true, if_true, if_false]

theorem regPerform_parity (hpar : a.parityOk = false) : s.regPerform a = s.regParity a := by
  unfold State.regPerform
  simp only [hpar, Bool.false_eq_true, false_and, if_false, Bool.not_false, if_true]

theorem regParity_still (h : s.still) : (s.regParity a).still := answerReg_still h

/-- A read of any register is answered with what it reads, after its cluster has been reached. -/
theorem regPerform_reads (hready : s.ready = true) (hpar : a.parityOk = true) (hread : a.write = false) :
    s.regPerform a = ((s.regReaches a).regRead a.addr).2.answerReg a ((s.regReaches a).regRead a.addr).1 .ok := by
  have hpost : s.integ.postDone = true := (Bool.and_eq_true_iff.1 hready).1
  unfold State.regPerform
  simp only [hpar, hpost, hread, regReaches_postDone, and_self, Bool.not_true, Bool.false_eq_true, if_true, if_false]

theorem regReaches_still (h : s.still) : (s.regReaches a).still := by
  unfold State.regReaches
  split
  · exact wakeCluster_still h _ 5
  · exact h

/-- A read changes at most what it latches or draws. -/
theorem regRead_still (h : s.still) (addr : BitVec 24) : (s.regRead addr).2.still := by
  unfold State.regRead
  split
  · exact h
  · unfold State.scacheState
    dsimp only
    split <;> exact h
  · exact h

/-! ### The cluster that is reached (R364, R367, R368) -/

/-- A cluster's power control with its idle timer started again (R364). -/
def ClusterPower.restarted (q : ClusterPower) : ClusterPower := { q with count := 0 }

/-- A cluster that is reached starts its idle timer again, and has the indication then. -/
theorem State.wakeCluster_cpower (s : State) (c d cause : Nat) :
    (s.wakeCluster c cause).cpower d =
      if d = c then (s.cpower c).restarted.indicate s.clock.xck cause else s.cpower d := by
  unfold State.wakeCluster State.indicate
  by_cases hcount : (s.cpower c).count = 0
  · have hzero : (s.cpower c).restarted = s.cpower c := by rw [ClusterPower.restarted, ← hcount]
    rw [if_pos hcount, State.cpower_onCpower_eq, hzero]
  · rw [if_neg hcount, State.cpower_onCpower_eq]
    by_cases hd : d = c
    · rw [if_pos hd, if_pos hd, State.cpower_onCpower_eq, if_pos rfl]
      rfl
    · rw [if_neg hd, if_neg hd, State.cpower_onCpower_eq, if_neg hd]

theorem ClusterPower.indicate_run {q : ClusterPower} {t cause : Nat} (hrun : q.mode = .run) :
    q.indicate t cause = if q.attempt.isSome then q.abandonA1 cause else q := by
  simp only [ClusterPower.indicate, hrun]

section
variable {c : Nat} (hcluster : (regPlace s.cfg a.addr).cluster? = some c)
include hcluster

theorem regReaches_idle (hrun : s.inRun c = true) (hnone : (s.cpower c).attempt = none) :
    (s.regReaches a).cpower c = { s.cpower c with count := 0 } := by
  have hmode : (s.cpower c).restarted.mode = .run := of_decide_eq_true hrun
  rw [regReaches_cluster hcluster, State.wakeCluster_cpower, if_pos rfl, ClusterPower.indicate_run hmode, if_neg]
  · rfl
  · simp [ClusterPower.restarted, hnone]

theorem regReaches_abandons (hrun : s.inRun c = true) (hsome : (s.cpower c).attempt.isSome = true) :
    (s.regReaches a).cpower c = { s.cpower c with
      attempt := none, wake := none, lastWake := 5, stopReq := false, count := 0
      aborts := { (s.cpower c).aborts with a1 := satAdd 0xFF (s.cpower c).aborts.a1 1 } } := by
  have hmode : (s.cpower c).restarted.mode = .run := of_decide_eq_true hrun
  rw [regReaches_cluster hcluster, State.wakeCluster_cpower, if_pos rfl, ClusterPower.indicate_run hmode,
    if_pos (show (s.cpower c).restarted.attempt.isSome = true from hsome)]
  simp only [ClusterPower.abandonA1, ← hmode]
  rfl

theorem regReaches_other {d : Nat} (hd : d ≠ c) : (s.regReaches a).cpower d = s.cpower d := by
  rw [regReaches_cluster hcluster, State.wakeCluster_cpower, if_neg hd]

theorem regReaches_power : { s.regReaches a with power := s.power } = s := by
  rw [regReaches_cluster hcluster, State.wakeCluster_power]

end

end

/-- Settles O43: an access of a quiet block is performed at once (`access_quiet`), by its parity, its direction and its
interface; what it does to its cluster is the indication that the cluster has. -/
theorem registerRows : Obligations.RegisterRows := by
  intro a s hq hpwr hgo
  obtain ⟨hready, hstill, -⟩ := (State.quiet_iff s).1 hq
  have haccess := access_quiet hq hpwr hgo
  refine ⟨fun hwrite hpar hopen => ?_, fun hwrite hpar hsafety hsp => ?_, fun hwrite hpar => ?_,
    fun hread hpar => ?_, fun hread hpar => ?_, fun c hcluster hrun => ⟨fun hnone => ?_, fun hsome => ?_,
      fun d hd => ?_, ?_⟩, fun hcluster => regReaches_none hcluster⟩
  · rw [regPerform_write hready hpar hwrite hopen] at haccess
    exact congrArg Host.Outcome.next ((if_pos hwrite).trans haccess)
  · rw [regPerform_perm hpar hwrite hsafety hsp, settle_of_still (answerReg_still hstill)] at haccess
    exact congrArg Host.Outcome.next ((if_pos hwrite).trans haccess)
  · rw [regPerform_parity hpar, settle_of_still (regParity_still hstill)] at haccess
    exact congrArg Host.Outcome.next ((if_pos hwrite).trans haccess)
  · rw [regPerform_parity hpar, settle_of_still (regParity_still hstill)] at haccess
    exact congrArg Host.Outcome.next ((if_neg (by simp [hread])).trans haccess)
  · rw [regPerform_reads hready hpar hread,
      settle_of_still (answerReg_still (regRead_still (regReaches_still hstill) _))] at haccess
    exact congrArg Host.Outcome.next ((if_neg (by simp [hread])).trans haccess)
  · exact regReaches_idle hcluster hrun hnone
  · exact regReaches_abandons hcluster hrun hsome
  · exact regReaches_other hcluster hd
  · exact regReaches_power hcluster

end Sys2Proof.Machine
end

section
/-!
PROOFS. Byte strobes (R131), and the status and enable registers of the interrupt groups (R438, R443).
-/

namespace Sys2Proof.Machine

/-! ### Strobes (R131) -/

section
variable (a : RegAccess)

/-- A bit is selected by the strobe of its byte. -/
theorem RegAccess.testBit_mask (i : Nat) : a.mask.testBit i = (decide (i < 32) && bitOf a.strb.toNat (i / 8)) := by
  have hbits : ∀ strb : BitVec 4, ∀ i < 32,
      ((List.range 4).map fun j => if bitOf strb.toNat j then 0xFF * 2 ^ (8 * j) else 0).sum.testBit i =
        bitOf strb.toNat (i / 8) := by decide
  have hword : ∀ strb : BitVec 4,
      ((List.range 4).map fun j => if bitOf strb.toNat j then 0xFF * 2 ^ (8 * j) else 0).sum < 2 ^ 32 := by decide
  by_cases hi : i < 32
  · rw [decide_eq_true hi, Bool.true_and]
    exact hbits a.strb i hi
  · rw [decide_eq_false hi, Bool.false_and]
    exact Nat.testBit_lt_two_pow
      (lt_of_lt_of_le (hword a.strb) (Nat.pow_le_pow_right (by decide) (Nat.le_of_not_lt hi)))

theorem RegAccess.testBit_over (old i : Nat) (hi : i < 32) :
    (a.over old).testBit i = if a.mask.testBit i then a.data.toNat.testBit i else old.testBit i := by
  have hones : (0xFFFFFFFF : Nat).testBit i = true := by
    rw [show (0xFFFFFFFF : Nat) = 2 ^ 32 - 1 from rfl, Nat.testBit_two_pow_sub_one, decide_eq_true hi]
  rw [RegAccess.over, Nat.testBit_mod_two_pow, decide_eq_true hi, RegAccess.sets]
  simp only [Nat.testBit_or, Nat.testBit_and, Nat.testBit_xor, hones]
  cases a.mask.testBit i <;> simp

theorem testBit_bitsOf (w lo n i : Nat) : (bitsOf w lo n).testBit i = (decide (i < n) && w.testBit (lo + i)) := by
  rw [bitsOf, Nat.testBit_mod_two_pow, Nat.testBit_shiftRight]

theorem RegAccess.over_byte (old : Nat) {i : Nat} (hi : i < 4) :
    bitsOf (a.over old) (8 * i) 8 =
      if bitOf a.strb.toNat i then bitsOf a.data.toNat (8 * i) 8 else bitsOf old (8 * i) 8 := by
  refine Nat.eq_of_testBit_eq fun j => ?_
  by_cases hj : j < 8
  · have hbyte : (8 * i + j) / 8 = i := by omega
    have hbit : 8 * i + j < 32 := by omega
    rw [testBit_bitsOf, RegAccess.testBit_over a old _ hbit, RegAccess.testBit_mask, hbyte]
    by_cases hstrb : bitOf a.strb.toNat i = true
    · simp [hstrb, hbit, testBit_bitsOf]
    · simp [hstrb, testBit_bitsOf]
  · split <;> simp [testBit_bitsOf, hj]

end

/-! ### Write-1-to-clear (R438) -/

theorem testBit_cleared {n : Nat} (x : BitVec n) (w i : Nat) :
    (x &&& ~~~(BitVec.ofNat n w)).toNat.testBit i = (x.toNat.testBit i && !w.testBit i) := by
  rw [← BitVec.getLsbD, ← BitVec.getLsbD, BitVec.getLsbD_and, BitVec.getLsbD_not, BitVec.getLsbD_ofNat]
  by_cases hi : i < n
  · simp [hi]
  · simp [BitVec.getLsbD_of_ge x i (Nat.le_of_not_lt hi)]

theorem testBit_halves (x y : BitVec 16) (i : Nat) :
    (x.toNat + y.toNat * 2 ^ 16).testBit i = if i < 16 then x.toNat.testBit i else y.toNat.testBit (i - 16) := by
  rw [Nat.add_comm, Nat.mul_comm, Nat.testBit_two_pow_mul_add _ x.isLt]

section
variable {g : Nat} (hg : g < 12) (s : State)
include hg

/-- The command interface has two status fields, the other groups one each. -/
theorem irqStatus_clear (w i : Nat) :
    bitOf ((s.irqClear g w).irqStatus g) i = (bitOf (s.irqStatus g) i && !bitOf w i) := by
  match g, hg with
  | 0, _ =>
    change Nat.testBit (_ + _ * 2 ^ 16) i = (Nat.testBit (_ + _ * 2 ^ 16) i && !Nat.testBit w i)
    rw [testBit_halves, testBit_halves]
    by_cases hi : i < 16
    · rw [if_pos hi, if_pos hi]
      exact testBit_cleared _ w i
    · have hhalt := testBit_cleared s.cmd.irqHalt (w / 2 ^ 16) (i - 16)
      rw [Nat.testBit_div_two_pow, Nat.sub_add_cancel (Nat.le_of_not_lt hi)] at hhalt
      rw [if_neg hi, if_neg hi]
      exact hhalt
  | 1, _ | 2, _ | 3, _ | 4, _ | 5, _ | 6, _ | 7, _ | 8, _ | 9, _ | 10, _ | 11, _ => exact testBit_cleared _ w i

theorem irqEnable_clear (w : Nat) : (s.irqClear g w).irqEnable g = s.irqEnable g := by
  match g, hg with
  | 0, _ | 1, _ | 2, _ | 3, _ | 4, _ | 5, _ | 6, _ | 7, _ | 8, _ | 9, _ | 10, _ | 11, _ => rfl

theorem irqStatus_setEnable (w : Nat) : (s.irqSetEnable g w).irqStatus g = s.irqStatus g := by
  match g, hg with
  | 0, _ | 1, _ | 2, _ | 3, _ | 4, _ | 5, _ | 6, _ | 7, _ | 8, _ | 9, _ | 10, _ | 11, _ => rfl

/-- An enable register has the bits of its group (Table 16-5). -/
theorem irqEnable_setEnable (w : Nat) :
    (s.irqSetEnable g w).irqEnable g = w % 2 ^ [32, 4, 11, 4, 8, 8, 9, 5, 4, 7, 9, 5].getD g 0 := by
  match g, hg with
  | 0, _ | 1, _ | 2, _ | 3, _ | 4, _ | 5, _ | 6, _ | 7, _ | 8, _ | 9, _ | 10, _ | 11, _ => exact BitVec.toNat_ofNat ..

end

/-- Settles O44: a strobed byte comes from the write and another from the register (`RegAccess.over_byte`); each group's
status is cleared bit by bit (`irqStatus_clear`), and its enable register cut to its bits (`irqEnable_setEnable`). -/
theorem strobesAndInterruptRegisters : Obligations.StrobesAndInterruptRegisters :=
  ⟨fun a old _ hi => a.over_byte old hi, fun _ a s hg =>
    ⟨fun i _ => irqStatus_clear hg s a.sets i, irqEnable_clear hg s a.sets, irqStatus_setEnable hg s _,
      irqEnable_setEnable hg s _⟩⟩

end Sys2Proof.Machine
end

section
/-!
PROOFS. Events at the V ports (R130, R236, R237). The row clears away what a dispatcher finds at its port once the
dispatcher is listed, so the statement fails for a state in which an answer waits there while the dispatcher of that
cluster holds nothing and is not listed: a quiet block as the statement has it, whose first event makes the answer go.
-/

namespace Sys2Proof.Machine

/-- A quiet block with population 5 in cluster 0, and at the port of that cluster's dispatcher an answer that no SPIKE
waits for; the dispatcher has held nothing yet. -/
def strayed : State :=
  { State.reset with
    pins := { pwrOk := true }
    clock := { running := true }
    integ := { postDone := true }
    eng := { pops := [(5, { desc := 0, owner := 0, p := 0 })] }
    xbar := { ports := [(eventPort 0, { resp := [{ tag := 0, status := .ok }] })] } }

/-- A MARK for population 5, with good parity. -/
def strayMark : BitVec 132 := evWithParity (BitVec.ofNat 128 (5 + 2 ^ 12))

/-- The answers that wait for a dispatcher after a step. -/
def answersAfter (c : Nat) : Host.Outcome State Fault Refusal → List Resp
  | .next t => (t.port (eventPort c)).resp
  | .fault _ => []
  | .refused _ => []

/-- The router takes the MARK, and the answer that nothing waits for is gone (`State.tidyEvents`). -/
theorem strayed_answers_gone : answersAfter 0 (exec (.eventIngress 0 strayMark) strayed) = [] := by decide +kernel

/-- Refutes O34: the second clause says that an event the router takes changes nothing but its path FIFO, its count and
the idle timer of its cluster. From `strayed`, the step that takes `strayMark` lists the dispatcher of cluster 0 and so
also discards the answer that waits at its port, which the clause has stay. The hypotheses ask nothing of that port; that
a run from reset comes to such a state is not claimed. -/
theorem not_eventIngress : ¬ Obligations.EventIngress := by
  unfold Obligations.EventIngress
  intro h
  obtain ⟨-, htakes, -, -⟩ := h 0 strayMark strayed (by decide +kernel) (by decide) (by decide)
  have hnext := htakes { desc := 0, owner := 0, p := 0 } (by decide +kernel) (by decide +kernel) rfl (by decide +kernel)
    (by decide +kernel) (by decide +kernel)
  have hgone := strayed_answers_gone
  rw [hnext] at hgone
  exact absurd hgone (by decide +kernel)

end Sys2Proof.Machine
end

section
/-!
PROOFS. The dispatchers and the egress channels (R130, R235 to R239, R245, R247, R248): an event that is taken is
applied, held, refused, signalled or discarded, and one that leaves carries good parity.
-/

namespace Sys2Proof.Machine

/-! ### Rows -/

section
variable {s : State} {k : Nat} {e : Event}

theorem exec_spike (h : s.ready = true) (k : Nat) : exec (.spike k) s = .next (s.dispatch k 0).settle :=
  congrArg Host.Outcome.next (State.live_of_ready h fun s => s.dispatch k 0)

theorem exec_mark (h : s.ready = true) (k : Nat) : exec (.mark k) s = .next (s.dispatch k 1).settle :=
  congrArg Host.Outcome.next (State.live_of_ready h fun s => s.dispatch k 1)

theorem exec_eventEgress (h : s.ready = true) (v : Nat) : exec (.eventEgress v) s = .next (s.eventOut v).settle :=
  congrArg Host.Outcome.next (State.live_of_ready h fun s => s.eventOut v)

/-! ### What the dispatcher takes (R236, R245) -/

/-- What becomes of an event of kind `kind` that has been taken. -/
def State.handled (s : State) (k kind : Nat) (e : Event) : State :=
  if s.evStale k e.word then s.evBad e.port (evPop e.word) k
  else if kind = 0 then s.judgeSpike k e
  else if (s.disp k).hold.any (fun h => h.port == e.port) then s.onDisp k fun d => { d with hold := d.hold ++ [e] }
  else s.performMark k e

/-- Taking an event changes no population. -/
theorem State.takeEvent_evStale (s : State) (k : Nat) (e : Event) (c : Nat) (w : BitVec 128) :
    (s.takeEvent k e).evStale c w = s.evStale c w := rfl

theorem State.takeEvent_hold (s : State) (k : Nat) (e : Event) : ((s.takeEvent k e).disp k).hold = (s.disp k).hold := by
  rw [State.takeEvent, State.disp_onDisp_eq, if_pos rfl]

/-- An event of a population whose held ones are being applied is not taken (R248). -/
theorem nextEvent_releasing {p : Pop} (hnext : s.nextEvent k = some e) (hp : s.pop? (evPop e.word) = some p) :
    s.releasing (evPop e.word) = false := by
  have htake : s.takeable k e = true := List.find?_some hnext
  by_contra hrel
  have hrel' : s.releasing (evPop e.word) = true := eq_true_of_ne_false hrel
  simp [State.takeable, hp, hrel'] at htake

section
variable (hready : s.ready = true) (hk : s.hasCluster k = true) (hrun : s.inRun k = true)
  (hfree : (s.disp k).blocked = false) (hnext : s.nextEvent k = some e)
include hready hk hrun hfree hnext

theorem State.dispatch_takes {kind : Nat} (hkind : evKind e.word = kind) :
    s.dispatch k kind = (s.takeEvent k e).handled k kind e := by
  unfold State.dispatch
  rw [if_pos ⟨hready, hk, hrun⟩]
  simp only [hfree, hnext, Bool.false_eq_true, if_false]
  rw [if_neg (not_not.2 hkind)]
  rfl

theorem State.dispatch_stale {kind : Nat} (hkind : evKind e.word = kind) (hstale : s.evStale k e.word = true) :
    s.dispatch k kind = (s.takeEvent k e).evBad e.port (evPop e.word) k := by
  rw [State.dispatch_takes hready hk hrun hfree hnext hkind, State.handled, State.takeEvent_evStale, if_pos hstale]

section
variable (hfresh : s.evStale k e.word = false)
include hfresh

/-- A SPIKE is judged by its window (R247). -/
theorem State.dispatch_spike (hkind : evKind e.word = 0) : s.dispatch k 0 = (s.takeEvent k e).judgeSpike k e := by
  rw [State.dispatch_takes hready hk hrun hfree hnext hkind, State.handled, State.takeEvent_evStale, hfresh,
    if_neg (by simp), if_pos rfl]

/-- A MARK waits behind the held events of its path (R239). -/
theorem State.dispatch_mark (hkind : evKind e.word = 1) :
    s.dispatch k 1 =
      if (s.disp k).hold.any (fun h => h.port == e.port) then
        (s.takeEvent k e).onDisp k fun d => { d with hold := d.hold ++ [e] }
      else (s.takeEvent k e).performMark k e := by
  rw [State.dispatch_takes hready hk hrun hfree hnext hkind, State.handled, State.takeEvent_evStale, hfresh,
    if_neg (by simp), if_neg (by decide), State.takeEvent_hold]

end

end

/-! ### A SPIKE by its window (R245, R247, R248) -/

section
variable {p : Pop} (hp : s.pop? (evPop e.word) = some p)
include hp

theorem State.judgeSpike_applies (hwindow : p.window (evStep e.word) = .apply)
    (hrel : s.releasing (evPop e.word) = false) :
    s.judgeSpike k e = (if evTaint e.word then s.taint (evPop e.word) else s).onDisp k fun d =>
      { d with runs := d.runs ++ [{ ev := e, pop := evPop e.word }] } := by
  unfold State.judgeSpike
  simp only [hp, hwindow, hrel]

theorem State.judgeSpike_holds (hwindow : p.window (evStep e.word) = .hold) :
    s.judgeSpike k e = s.onDisp k fun d => { d with hold := d.hold ++ [e] } := by
  unfold State.judgeSpike
  simp only [hp, hwindow]

theorem State.judgeSpike_refuses (hwindow : p.window (evStep e.word) = .refuse) :
    s.judgeSpike k e = s.refuseSpike k (evPop e.word) := by
  unfold State.judgeSpike
  simp only [hp, hwindow]

theorem State.performMark_signals :
    s.performMark k e =
      let r := s.signalOne p.owner (evFold e.word) (.mark k (evPop e.word)) false
      if r.1 then r.2 else r.2.markBad k (evPop e.word) := by
  unfold State.performMark
  simp only [hp]

end

/-! ### Egress (R238) -/

/-- The egress channel has presented the event `o` and its FIFO holds the rest. -/
def State.egressed (s : State) (k v : Nat) (o : OutEvent) (rest : List OutEvent) : State :=
  ({ s.onDisp k fun d => { d with egress := d.egress.set v rest } with
      pins := { s.pins with eventsOut := (v, evWithParity o.word) :: s.pins.eventsOut } } : State).onEng fun e =>
    { e with evOut := e.evOut.modify 0 v (· + 1), outRr := e.outRr.set v ((k + 1) % s.cfg.clusters)
             steps := e.steps.map (fun r => if r.token = o.token then { r with inFlight := r.inFlight - 1 } else r) }

theorem State.eventOut_presents {v : Nat} {o : OutEvent} {rest : List OutEvent} (hready : s.ready = true) (hv : v < 4)
    (hnext : s.egressNext v = some k) (hfifo : (s.disp k).egress.get [] v = o :: rest) :
    s.eventOut v = (s.egressed k v o rest).emitAll k := by
  unfold State.eventOut
  rw [if_pos ⟨hready, hv⟩]
  simp only [hnext, hfifo]
  rfl

end

/-! ### Parity (R130, R235) -/

/-- Four binary digits from bit `n` up, as one number. -/
theorem add_digits (x n : Nat) (f : Nat → Nat) :
    x + ((List.range 4).map fun i => f i * 2 ^ (n + i)).sum = 2 ^ n * (f 0 + 2 * f 1 + 4 * f 2 + 8 * f 3) + x := by
  rw [show List.range 4 = [0, 1, 2, 3] from rfl]
  simp only [List.map_cons, List.map_nil, List.sum_cons, List.sum_nil, pow_add]
  ring

section
variable (w : BitVec 128)

/-- The parity bit of a word of 32 bits. -/
def evParityBit (i : Nat) : Nat := if ones 32 (bitsOf w.toNat (32 * i) 32) % 2 = 0 then 1 else 0

theorem evParityBit_le (i : Nat) : evParityBit w i ≤ 1 := by
  unfold evParityBit
  split <;> decide

/-- The four parity bits as a number. -/
def evParityBits : Nat := evParityBit w 0 + 2 * evParityBit w 1 + 4 * evParityBit w 2 + 8 * evParityBit w 3

theorem evWithParity_toNat : (evWithParity w).toNat = 2 ^ 128 * evParityBits w + w.toNat := by
  have hsum : (evWithParity w).toNat =
      (w.toNat + ((List.range 4).map fun i => evParityBit w i * 2 ^ (128 + i)).sum) % 2 ^ 132 := BitVec.toNat_ofNat ..
  have h0 := evParityBit_le w 0
  have h1 := evParityBit_le w 1
  have h2 := evParityBit_le w 2
  have h3 := evParityBit_le w 3
  have hw := w.isLt
  rw [hsum, add_digits, evParityBits]
  exact Nat.mod_eq_of_lt (by omega)

theorem evParityBits_testBit {i : Nat} (hi : i < 4) : (evParityBits w).testBit i = decide (evParityBit w i = 1) := by
  have hbits : ∀ a ≤ 1, ∀ b ≤ 1, ∀ c ≤ 1, ∀ d ≤ 1,
      (a + 2 * b + 4 * c + 8 * d).testBit 0 = decide (a = 1) ∧ (a + 2 * b + 4 * c + 8 * d).testBit 1 = decide (b = 1) ∧
        (a + 2 * b + 4 * c + 8 * d).testBit 2 = decide (c = 1) ∧
        (a + 2 * b + 4 * c + 8 * d).testBit 3 = decide (d = 1) := by decide
  obtain ⟨h0, h1, h2, h3⟩ := hbits _ (evParityBit_le w 0) _ (evParityBit_le w 1) _ (evParityBit_le w 2) _
    (evParityBit_le w 3)
  match i, hi with
  | 0, _ => exact h0
  | 1, _ => exact h1
  | 2, _ => exact h2
  | 3, _ => exact h3

/-- The words of the event stand as they were below the parity bits. -/
theorem evWithParity_word {i : Nat} (hi : i < 4) :
    bitsOf (evWithParity w).toNat (32 * i) 32 = bitsOf w.toNat (32 * i) 32 := by
  refine Nat.eq_of_testBit_eq fun j => ?_
  rw [testBit_bitsOf, testBit_bitsOf, evWithParity_toNat, Nat.testBit_two_pow_mul_add _ w.isLt]
  by_cases hj : j < 32
  · rw [if_pos (by omega)]
  · simp [hj]

theorem evWithParity_bit {i : Nat} (hi : i < 4) :
    bitOf (evWithParity w).toNat (128 + i) = decide (evParityBit w i = 1) := by
  rw [bitOf, evWithParity_toNat, Nat.testBit_two_pow_mul_add _ w.isLt, if_neg (by omega), Nat.add_sub_cancel_left,
    evParityBits_testBit w hi]

theorem evWithParity_ok : evParityOk (evWithParity w) = true := by
  refine List.all_eq_true.2 fun i hi => ?_
  have hi' : i < 4 := List.mem_range.1 hi
  rw [evWithParity_word w hi', evWithParity_bit w hi', oddParity, evParityBit]
  split
  · next heven => simp [bit, Nat.add_mod, heven]
  · next hodd => simpa [bit] using hodd

theorem evWithParity_setWidth : (evWithParity w).setWidth 128 = w := by
  apply BitVec.eq_of_toNat_eq
  rw [BitVec.toNat_setWidth, evWithParity_toNat, Nat.mul_add_mod, Nat.mod_eq_of_lt w.isLt]

end

/-- Settles O35: the dispatcher's next event is judged by its window, signalled or made to wait, and what is presented
is the head of its FIFO; the parity bits stand above the 128 bits of the event. -/
theorem dispatchRows : Obligations.DispatchRows := by
  refine ⟨fun k e s hready hk hrun hfree hnext =>
      ⟨fun p hp hfresh => ?_, fun hstale => ⟨fun hkind => ?_, fun hkind => ?_⟩⟩,
    fun k v o rest s hready hv hnext hfifo => ?_, fun w => ⟨evWithParity_ok w, evWithParity_setWidth w⟩⟩
  · have hspike := State.dispatch_spike hready hk hrun hfree hnext hfresh
    have hmark := State.dispatch_mark hready hk hrun hfree hnext hfresh
    have hp' : (s.takeEvent k e).pop? (evPop e.word) = some p := hp
    have hrel : (s.takeEvent k e).releasing (evPop e.word) = false := nextEvent_releasing (s := s) hnext hp
    refine ⟨fun hkind hwindow => ?_, fun hkind hwindow => ?_, fun hkind hwindow => ?_, fun hkind hnone => ?_,
      fun hkind hheld => ?_⟩
    · rw [exec_spike hready, hspike hkind, State.judgeSpike_applies hp' hwindow hrel]
    · rw [exec_spike hready, hspike hkind, State.judgeSpike_holds hp' hwindow]
    · rw [exec_spike hready, hspike hkind, State.judgeSpike_refuses hp' hwindow]
    · rw [exec_mark hready, hmark hkind, hnone, if_neg (by simp), State.performMark_signals hp']
    · rw [exec_mark hready, hmark hkind, if_pos hheld]
  · rw [exec_spike hready, State.dispatch_stale hready hk hrun hfree hnext hkind hstale]
  · rw [exec_mark hready, State.dispatch_stale hready hk hrun hfree hnext hkind hstale]
  · rw [exec_eventEgress hready, State.eventOut_presents hready hv hnext hfifo]
    rfl

end Sys2Proof.Machine
end

section
/-!
PROOFS. The grant decision of a sub-port (R138, R140 to R143, R153): the piece that each of its four steps finds, what
that piece is, and which step ends the decision.
-/

namespace Sys2Proof.Machine

/-! ### The first piece under an order -/

/-- The two facts that make an order of pieces strict, with ties: a reversed pair is out of order, and "does not come
before" composes. -/
structure StrictOrder (lt : Piece → Piece → Bool) : Prop where
  asymm : ∀ {x y : Piece}, lt x y = true → lt y x = false
  notBefore : ∀ {x y z : Piece}, lt x y = false → lt y z = false → lt x z = false

theorem StrictOrder.irrefl {lt : Piece → Piece → Bool} (h : StrictOrder lt) (x : Piece) : lt x x = false := by
  cases hx : lt x x with
  | false => rfl
  | true => exact hx ▸ h.asymm hx

theorem earlier_eq_false_iff (x y : Piece) :
    earlier x y = false ↔ y.queuedAt < x.queuedAt ∨ y.queuedAt = x.queuedAt ∧ y.cls ≤ x.cls := by
  rw [← Bool.not_eq_true, earlier]
  simp only [Bool.or_eq_true, Bool.and_eq_true, decide_eq_true_eq, beq_iff_eq]
  omega

theorem waitsLonger_eq_false_iff (x y : Piece) :
    waitsLonger x y = false ↔ y.queuedAt < x.queuedAt ∨
      y.queuedAt = x.queuedAt ∧ (y.port < x.port ∨ y.port = x.port ∧ y.cls ≤ x.cls) := by
  rw [← Bool.not_eq_true, waitsLonger]
  simp only [Bool.or_eq_true, Bool.and_eq_true, decide_eq_true_eq, beq_iff_eq]
  omega

theorem earlier_strictOrder : StrictOrder earlier where
  asymm {x y} h := by
    rw [earlier_eq_false_iff]
    rw [← Bool.not_eq_false, earlier_eq_false_iff] at h
    omega
  notBefore {x y z} hxy hyz := by
    rw [earlier_eq_false_iff] at *
    omega

theorem waitsLonger_strictOrder : StrictOrder waitsLonger where
  asymm {x y} h := by
    rw [waitsLonger_eq_false_iff]
    rw [← Bool.not_eq_false, waitsLonger_eq_false_iff] at h
    omega
  notBefore {x y z} hxy hyz := by
    rw [waitsLonger_eq_false_iff] at *
    omega

theorem firstBy_eq_none_iff (lt : Piece → Piece → Bool) (xs : List Piece) : firstBy lt xs = none ↔ xs = [] := by
  cases xs with
  | nil => simp [firstBy]
  | cons x r => cases h : firstBy lt r <;> simp [firstBy, h]

/-- The first piece is in the list, and none in it comes before. -/
theorem firstBy_eq_some {lt : Piece → Piece → Bool} (hlt : StrictOrder lt) {xs : List Piece} {x : Piece}
    (h : firstBy lt xs = some x) : x ∈ xs ∧ ∀ y ∈ xs, lt y x = false := by
  induction xs generalizing x with
  | nil => cases h
  | cons z r ih =>
    cases hr : firstBy lt r with
    | none =>
      obtain rfl := (firstBy_eq_none_iff lt r).1 hr
      obtain rfl : z = x := Option.some.inj h
      simp [hlt.irrefl]
    | some w =>
      obtain ⟨hw, hmin⟩ := ih hr
      simp only [firstBy, hr, Option.some.injEq] at h
      cases hwz : lt w z with
      | true =>
        obtain rfl : w = x := by simpa [hwz] using h
        exact ⟨List.mem_cons_of_mem z hw, List.forall_mem_cons.2 ⟨hlt.asymm hwz, hmin⟩⟩
      | false =>
        obtain rfl : z = x := by simpa [hwz] using h
        exact ⟨List.mem_cons_self, List.forall_mem_cons.2
          ⟨hlt.irrefl z, fun y hy => hlt.notBefore (hmin y hy) hwz⟩⟩

section
variable {s : State} {n t : Nat} {read : Bool} {x : Piece}

/-! ### The initiator of the highest effective priority (R140 step 4, R143, R153) -/

theorem State.ranked_eq_none_iff (s : State) (c : Nat) (read : Bool) (rr : Nat) (ps : List Nat) :
    s.ranked c read rr ps = none ↔ ps = [] := by
  cases ps with
  | nil => simp [State.ranked]
  | cons p r => cases h : s.ranked c read rr r <;> simp [State.ranked, h]

/-- The decision goes no worse with `p` than with `q`: its priority is not below, and on a tie it is not further from the
round-robin pointer. -/
def State.ranksAbove (s : State) (c : Nat) (read : Bool) (rr p q : Nat) : Prop :=
  s.priority q c read ≤ s.priority p c read ∧
    (s.priority q c read = s.priority p c read → rrDistance rr p ≤ rrDistance rr q)

theorem State.ranksAbove_refl (s : State) (c : Nat) (read : Bool) (rr p : Nat) : s.ranksAbove c read rr p p :=
  ⟨le_refl _, fun _ => le_refl _⟩

theorem State.ranksAbove_trans {c rr p q k : Nat} (h : s.ranksAbove c read rr p q) (h' : s.ranksAbove c read rr q k) :
    s.ranksAbove c read rr p k := by
  unfold State.ranksAbove at *
  omega

/-- The ranked initiator is one of the list, and ranks above all of it. -/
theorem State.ranked_eq_some {c rr p : Nat} {ps : List Nat} (h : s.ranked c read rr ps = some p) :
    p ∈ ps ∧ ∀ q ∈ ps, s.ranksAbove c read rr p q := by
  induction ps generalizing p with
  | nil => cases h
  | cons k r ih =>
    cases hr : s.ranked c read rr r with
    | none =>
      obtain rfl := (s.ranked_eq_none_iff c read rr r).1 hr
      obtain rfl : k = p := Option.some.inj h
      simp [State.ranksAbove_refl]
    | some q =>
      obtain ⟨hq, hmax⟩ := ih hr
      simp only [State.ranked, hr, Option.some.injEq] at h
      split at h
      · next hover =>
        obtain rfl : k = p := h
        have hkq : s.ranksAbove c read rr k q := by unfold State.ranksAbove; omega
        exact ⟨List.mem_cons_self, List.forall_mem_cons.2
          ⟨s.ranksAbove_refl c read rr k, fun y hy => State.ranksAbove_trans hkq (hmax y hy)⟩⟩
      · next hunder =>
        obtain rfl : q = p := h
        have hqk : s.ranksAbove c read rr q k := by unfold State.ranksAbove; omega
        exact ⟨List.mem_cons_of_mem k hq, List.forall_mem_cons.2 ⟨hqk, hmax⟩⟩

/-! ### What each step finds (R140) -/

/-- The candidates of a side that steps 2 to 4 may grant. -/
def State.freePieces (s : State) (n : Nat) (read : Bool) (t : Nat) : List Piece :=
  (candidates ((s.sub n).onThis read t)).filter fun x => s.eligible (s.sub n) read false t x && s.freeEligible x.port

/-- A candidate that the stall entry of the XCK grants. -/
def State.ownedPiece (s : State) (n : Nat) (read : Bool) (t : Nat) (x : Piece) : Prop :=
  entryOwner ((s.sub n).entry t) read = some x.port ∧ issueSlot t x = t + 1 ∧ s.eligible (s.sub n) read true t x = true

/-- What step 1 finds. -/
def State.stallStep (s : State) (n : Nat) (read : Bool) (t : Nat) : Option Piece :=
  if s.gov.sheds .stalls then none
  else
    match entryOwner ((s.sub n).entry t) read with
    | some p => firstBy earlier ((candidates ((s.sub n).onThis read t)).filter
        fun x => x.port == p && issueSlot t x == t + 1 && s.eligible (s.sub n) read true t x)
    | none => none

/-- What step 2 finds. -/
def State.waiterStep (s : State) (n : Nat) (read : Bool) (t : Nat) : Option Piece :=
  if ((s.sub n).side read).starve + 1 = (s.sub n).starveN then firstBy waitsLonger (s.freePieces n read t) else none

/-- The piece of initiator `p` that steps 3 and 4 take (R138). -/
def State.firstFree (s : State) (n : Nat) (read : Bool) (t p : Nat) : Option Piece :=
  firstBy earlier ((s.freePieces n read t).filter fun x => x.port == p)

/-- What step 3 finds. -/
def State.tenureStep (s : State) (n : Nat) (read : Bool) (t : Nat) : Option Piece :=
  match (s.sub n).openTenure read t with
  | some h => s.firstFree n read t h.holder
  | none => none

/-- The initiator that step 4 finds. -/
def State.rankedPort (s : State) (n : Nat) (read : Bool) (t : Nat) : Option Nat :=
  s.ranked (n / 8) read ((s.sub n).side read).rr ((s.freePieces n read t).map (·.port)).eraseDups

/-- What step 4 finds. -/
def State.rankingStep (s : State) (n : Nat) (read : Bool) (t : Nat) : Option Piece :=
  (s.rankedPort n read t).bind (s.firstFree n read t)

/-- The first step that finds a piece ends the decision. -/
theorem State.choice_eq (s : State) (n : Nat) (read : Bool) (t : Nat) :
    s.choice n read t =
      ((s.stallStep n read t).map (GrantStep.stall, ·)).or
        (((s.waiterStep n read t).map (GrantStep.waiter, ·)).or
          (((s.tenureStep n read t).map (GrantStep.tenure, ·)).or
            ((s.rankingStep n read t).map (GrantStep.ranking ((s.sub n).openTenure read t).isNone, ·)))) := by
  have hchoice : s.choice n read t =
      match s.stallStep n read t with
      | some x => some (.stall, x)
      | none =>
        match s.waiterStep n read t with
        | some x => some (.waiter, x)
        | none =>
          match s.tenureStep n read t with
          | some x => some (.tenure, x)
          | none =>
            match s.rankedPort n read t with
            | some p =>
              match s.firstFree n read t p with
              | some x => some (.ranking ((s.sub n).openTenure read t).isNone, x)
              | none => none
            | none => none := rfl
  rw [hchoice]
  cases s.stallStep n read t with
  | some x => rfl
  | none =>
    cases s.waiterStep n read t with
    | some x => rfl
    | none =>
      cases s.tenureStep n read t with
      | some x => rfl
      | none =>
        unfold State.rankingStep
        cases s.rankedPort n read t with
        | none => rfl
        | some p => cases hfirst : s.firstFree n read t p <;> simp [hfirst]

theorem State.choice_stall_iff : s.choice n read t = some (.stall, x) ↔ s.stallStep n read t = some x := by
  simp [State.choice_eq]

theorem State.choice_waiter_iff : s.choice n read t = some (.waiter, x) ↔
    s.stallStep n read t = none ∧ s.waiterStep n read t = some x := by
  simp [State.choice_eq]

theorem State.choice_tenure_iff : s.choice n read t = some (.tenure, x) ↔
    s.stallStep n read t = none ∧ s.waiterStep n read t = none ∧ s.tenureStep n read t = some x := by
  simp [State.choice_eq]

theorem State.choice_ranking_iff {o : Bool} : s.choice n read t = some (.ranking o, x) ↔
    s.stallStep n read t = none ∧ s.waiterStep n read t = none ∧ s.tenureStep n read t = none ∧
      s.rankingStep n read t = some x ∧ o = ((s.sub n).openTenure read t).isNone := by
  simp [State.choice_eq, eq_comm (a := o)]

theorem State.choice_none_iff : s.choice n read t = none ↔
    s.stallStep n read t = none ∧ s.waiterStep n read t = none ∧ s.tenureStep n read t = none ∧
      s.rankingStep n read t = none := by
  simp [State.choice_eq]

/-! ### What the pieces are -/

theorem State.stallStep_eq_some (h : s.stallStep n read t = some x) :
    s.gov.sheds .stalls = false ∧ x ∈ candidates ((s.sub n).onThis read t) ∧ s.ownedPiece n read t x := by
  unfold State.stallStep at h
  split at h
  · cases h
  · next hkept =>
    split at h
    · next p howner =>
      obtain ⟨hmem, -⟩ := firstBy_eq_some earlier_strictOrder h
      simp only [List.mem_filter, Bool.and_eq_true, beq_iff_eq] at hmem
      obtain ⟨hcand, ⟨rfl, hslot⟩, helig⟩ := hmem
      exact ⟨Bool.eq_false_iff.2 hkept, hcand, howner, hslot, helig⟩
    · cases h

/-- Step 1 finds a piece where the owner has one to grant. -/
theorem State.stallStep_ne_none (hkept : s.gov.sheds .stalls = false)
    (hcand : x ∈ candidates ((s.sub n).onThis read t)) (howned : s.ownedPiece n read t x) :
    s.stallStep n read t ≠ none := by
  obtain ⟨howner, hslot, helig⟩ := howned
  simp only [State.stallStep, hkept, howner, Bool.false_eq_true, if_false, ne_eq, firstBy_eq_none_iff]
  exact List.ne_nil_of_mem (List.mem_filter.2 ⟨hcand, by simp [hslot, helig]⟩)

theorem State.stallStep_eq_none (h : ¬ (s.gov.sheds .stalls = false ∧
    ∃ x ∈ candidates ((s.sub n).onThis read t), s.ownedPiece n read t x)) : s.stallStep n read t = none := by
  rw [Option.eq_none_iff_forall_ne_some]
  intro x hx
  obtain ⟨hkept, hcand, howned⟩ := State.stallStep_eq_some hx
  exact h ⟨hkept, x, hcand, howned⟩

theorem State.waiterStep_eq_some (h : s.waiterStep n read t = some x) :
    ((s.sub n).side read).starve + 1 = (s.sub n).starveN ∧ x ∈ s.freePieces n read t ∧
      ∀ y ∈ s.freePieces n read t, x.queuedAt ≤ y.queuedAt ∧ waitsLonger y x = false := by
  unfold State.waiterStep at h
  split at h
  · next hdue =>
    obtain ⟨hmem, hfirst⟩ := firstBy_eq_some waitsLonger_strictOrder h
    refine ⟨hdue, hmem, fun y hy => ⟨?_, hfirst y hy⟩⟩
    have hle := (waitsLonger_eq_false_iff y x).1 (hfirst y hy)
    omega
  · cases h

theorem State.waiterStep_eq_none_iff : s.waiterStep n read t = none ↔
    (((s.sub n).side read).starve + 1 = (s.sub n).starveN → s.freePieces n read t = []) := by
  unfold State.waiterStep
  split <;> simp [firstBy_eq_none_iff, *]

theorem State.waiterStep_eq_none (h : ((s.sub n).side read).starve + 1 ≠ (s.sub n).starveN) :
    s.waiterStep n read t = none :=
  if_neg h

/-- Of one initiator the earlier piece goes, ties by class (R138). -/
theorem State.firstFree_eq_some {p : Nat} (h : s.firstFree n read t p = some x) :
    x ∈ s.freePieces n read t ∧ x.port = p ∧
      ∀ y ∈ s.freePieces n read t, y.port = x.port → earlier y x = false := by
  obtain ⟨hmem, hfirst⟩ := firstBy_eq_some earlier_strictOrder h
  simp only [List.mem_filter, beq_iff_eq] at hmem hfirst
  obtain ⟨hfree, rfl⟩ := hmem
  exact ⟨hfree, rfl, fun y hy hport => hfirst y ⟨hy, hport⟩⟩

theorem State.firstFree_eq_none_iff {p : Nat} :
    s.firstFree n read t p = none ↔ ∀ x ∈ s.freePieces n read t, x.port ≠ p := by
  simp [State.firstFree, firstBy_eq_none_iff]

theorem State.tenureStep_eq_bind (s : State) (n : Nat) (read : Bool) (t : Nat) :
    s.tenureStep n read t = ((s.sub n).openTenure read t).bind fun h => s.firstFree n read t h.holder := by
  unfold State.tenureStep
  cases (s.sub n).openTenure read t <;> rfl

theorem State.tenureStep_eq_some (h : s.tenureStep n read t = some x) :
    ∃ h, (s.sub n).openTenure read t = some h ∧ s.firstFree n read t h.holder = some x :=
  Option.bind_eq_some_iff.1 (s.tenureStep_eq_bind n read t ▸ h)

theorem State.tenureStep_eq_none_iff : s.tenureStep n read t = none ↔
    ∀ h, (s.sub n).openTenure read t = some h → ∀ x ∈ s.freePieces n read t, x.port ≠ h.holder := by
  simp only [State.tenureStep_eq_bind, Option.bind_eq_none_iff, State.firstFree_eq_none_iff]

theorem State.rankedPort_eq_some {p : Nat} (h : s.rankedPort n read t = some p) :
    (∃ x ∈ s.freePieces n read t, x.port = p) ∧
      ∀ y ∈ s.freePieces n read t, s.ranksAbove (n / 8) read ((s.sub n).side read).rr p y.port := by
  obtain ⟨hmem, habove⟩ := State.ranked_eq_some h
  simp only [List.mem_eraseDups, List.mem_map] at hmem habove
  exact ⟨hmem, fun y hy => habove _ ⟨y, hy, rfl⟩⟩

/-- The ranked initiator has a piece to grant, so step 4 finds one wherever there is one. -/
theorem State.rankingStep_eq_none_iff : s.rankingStep n read t = none ↔ s.freePieces n read t = [] := by
  rw [State.rankingStep, Option.bind_eq_none_iff]
  constructor
  · intro hnone
    by_contra hfree
    cases hp : s.rankedPort n read t with
    | none =>
      obtain ⟨x, hx⟩ := List.exists_mem_of_ne_nil _ hfree
      have hport := List.mem_eraseDups.2 (List.mem_map_of_mem (f := (·.port)) hx)
      rw [(s.ranked_eq_none_iff _ _ _ _).1 hp] at hport
      cases hport
    | some p =>
      obtain ⟨⟨x, hx, hport⟩, -⟩ := State.rankedPort_eq_some hp
      exact State.firstFree_eq_none_iff.1 (hnone p hp) x hx hport
  · intro hfree p _
    simp [State.firstFree_eq_none_iff, hfree]

end

/-- Settles O22: `choice_eq` names what each step finds and the order of the steps, and each step's lemmas say what it
finds and when it finds a piece. -/
theorem grantOrder : Obligations.GrantOrder := by
  intro n t read s
  refine ⟨fun x h => ?_, fun x h => ?_, fun x h => ?_, fun o x h => ?_, fun h => ?_, ?_, ?_, ?_, ?_⟩
  · obtain ⟨hkept, hcand, howner, hslot, helig⟩ := State.stallStep_eq_some (State.choice_stall_iff.1 h)
    exact ⟨hkept, howner, hcand, hslot, helig⟩
  · obtain ⟨-, hwaiter⟩ := State.choice_waiter_iff.1 h
    exact State.waiterStep_eq_some hwaiter
  · obtain ⟨-, -, htenure⟩ := State.choice_tenure_iff.1 h
    obtain ⟨hold, hopen, hfirst⟩ := State.tenureStep_eq_some htenure
    obtain ⟨hfree, hport, hearliest⟩ := State.firstFree_eq_some hfirst
    exact ⟨hfree, ⟨hold, hopen, hport.symm⟩, hearliest⟩
  · obtain ⟨-, -, -, hranking, ho⟩ := State.choice_ranking_iff.1 h
    obtain ⟨p, hp, hfirst⟩ := Option.bind_eq_some_iff.1 hranking
    obtain ⟨hfree, rfl, hearliest⟩ := State.firstFree_eq_some hfirst
    obtain ⟨-, habove⟩ := State.rankedPort_eq_some hp
    exact ⟨hfree, ho, fun y hy => (habove y hy).1, fun y hy => (habove y hy).2, hearliest⟩
  · obtain ⟨-, -, -, hranking⟩ := State.choice_none_iff.1 h
    exact State.rankingStep_eq_none_iff.1 hranking
  · rintro ⟨hkept, x, hcand, howned⟩
    obtain ⟨z, hz⟩ := Option.ne_none_iff_exists'.1 (State.stallStep_ne_none hkept hcand howned)
    exact ⟨z, State.choice_stall_iff.2 hz⟩
  · intro howned hdue hfree
    have hwaiter : s.waiterStep n read t ≠ none := fun h => hfree (State.waiterStep_eq_none_iff.1 h hdue)
    obtain ⟨z, hz⟩ := Option.ne_none_iff_exists'.1 hwaiter
    exact ⟨z, State.choice_waiter_iff.2 ⟨State.stallStep_eq_none howned, hz⟩⟩
  · rintro howned hdue ⟨hold, hopen, x, hx, hport⟩
    have htenure : s.tenureStep n read t ≠ none := fun h => State.tenureStep_eq_none_iff.1 h hold hopen x hx hport
    obtain ⟨z, hz⟩ := Option.ne_none_iff_exists'.1 htenure
    exact ⟨z, State.choice_tenure_iff.2 ⟨State.stallStep_eq_none howned, State.waiterStep_eq_none hdue, hz⟩⟩
  · intro howned hdue hheld hfree
    have htenure : s.tenureStep n read t = none :=
      State.tenureStep_eq_none_iff.2 fun h hopen x hx hport => hheld ⟨h, hopen, x, hx, hport⟩
    obtain ⟨z, hz⟩ := Option.ne_none_iff_exists'.1 (mt State.rankingStep_eq_none_iff.1 hfree)
    exact ⟨_, z, State.choice_ranking_iff.2
      ⟨State.stallStep_eq_none howned, State.waiterStep_eq_none hdue, htenure, hz, rfl⟩⟩

end Sys2Proof.Machine
end

section
/-!
PROOFS. The governor's events: a window that starts, a reading of sound sensors, a bellwether line, and P_eff (R158,
R163, R172, R173).
-/

namespace Sys2Proof.Machine

/-! ### What shedding, restoring and the level leave of a window (R174 to R178) -/

/-- The governor without the guarantees' demand, the level, the steps shed, the hint and the flags. -/
def Gov.account (g : Gov) : Gov :=
  { g with qStall := 0, qShare := 0, level := .normal, shed := [], qual := 0, hint := 0, irq := 0 }

/-- What a port spent in the last window and in this one, and its bytes (R163, R170). -/
def Port.account (q : Port) : Nat × Nat × Nat := (q.spend, q.tollSpent, q.bytes)

/-- The spends and the budget, with the clock and the operating point that a window goes by. -/
def State.account (s : State) : Gov × (Nat → Nat × Nat × Nat) × Clock × Power :=
  (s.gov.account, fun p => (s.port p).account, s.clock, s.power)

theorem State.account_eq_iff {s t : State} : t.account = s.account ↔
    t.gov.account = s.gov.account ∧ (∀ p, (t.port p).account = (s.port p).account) ∧ t.clock = s.clock ∧
      t.power = s.power := by
  simp only [State.account, Prod.mk.injEq, funext_iff]

@[simp] theorem ite_account (p : Prop) [Decidable p] (s t : State) :
    (if p then s else t).account = if p then s.account else t.account := by
  split <;> rfl

theorem State.onGov_account {f : Gov → Gov} (s : State) (hf : (f s.gov).account = s.gov.account) :
    (s.onGov f).account = s.account :=
  State.account_eq_iff.2 ⟨hf, fun _ => rfl, rfl, rfl⟩

@[simp] theorem State.govFlag_account (s : State) (i : Nat) : (s.govFlag i).account = s.account := rfl

@[simp] theorem State.log_account (s : State) (f : FaultInfo) : (s.log f).account = s.account := by
  have hentry : (s.newEntry f 0).account = s.account := by
    unfold State.newEntry State.entryDetail
    cases f.detail <;> rfl
  unfold State.log State.record
  repeat' split
  · rfl
  · exact hentry
  · exact hentry

theorem State.onPort_id_account (s : State) (p : Nat) : (s.onPort p id).account = s.account := by
  refine State.account_eq_iff.2 ⟨rfl, fun q => ?_, rfl, rfl⟩
  rw [State.port_onPort_eq]
  split
  · next heq => rw [heq]; rfl
  · rfl

/-- A port after a change of every listed one, seen through a field that the change leaves of an unlisted one. -/
theorem State.mapPorts_port {β : Type} (field : Port → β) (f : Nat → Port → Port) (s : State) (p : Nat)
    (hreset : field (f p (Machine.portReset p)) = field (Machine.portReset p)) :
    field ((s.onXbar fun x => { x with ports := x.ports.map fun e => (e.1, f e.1 e.2) }).port p) =
      field (f p (s.port p)) := by
  simp only [State.port, State.onXbar, Tbl.get, Tbl.find?_map f s.xbar.ports p]
  cases Tbl.find? s.xbar.ports p with
  | none => exact hreset.symm
  | some q => rfl

@[simp] theorem State.setLevel_account (s : State) (l : GovLevel) :
    (s.onGov fun g => { g with level := l }).account = s.account := s.onGov_account rfl

@[simp] theorem State.climb_account (s : State) : s.climb.account = s.account := by
  simp [State.climb]

@[simp] theorem State.touchPorts_account (s : State) : s.touchPorts.account = s.account :=
  foldl_keeps State.account _ State.onPort_id_account _ s

@[simp] theorem State.seeWindow_account (s : State) : s.seeWindow.account = s.account := by
  refine Eq.trans ?_ s.touchPorts_account
  exact State.account_eq_iff.2 ⟨rfl, fun p => State.mapPorts_port Port.account
    (fun p q => { q with seen := { q.seen with
      boostRd := if s.gov.sheds .latency then 0 else q.seen.boostRd
      boostWr := if s.gov.sheds .latency then 0 else q.seen.boostWr
      floor := s.atFloor p, free := decide (s.gov.level ≠ .idle) || s.idleExempt p } }) s.touchPorts p rfl, rfl, rfl⟩

@[simp] theorem State.reckon_account (s : State) : s.reckon.account = s.account := rfl

@[simp] theorem State.ageJobs_account (s : State) : s.ageJobs.account = s.account := rfl

@[simp] theorem State.shedOne_account (s : State) (x : ShedStep) : (s.shedOne x).account = s.account := by
  simp only [State.shedOne, State.log_account, State.govFlag_account]
  rfl

@[simp] theorem State.shedMore_account (s : State) (n : Nat) : (s.shedMore n).account = s.account := by
  induction n generalizing s with
  | zero => rfl
  | succ n ih =>
    unfold State.shedMore
    split
    · split
      · rw [ih, State.shedOne_account]
      · rfl
    · rfl

@[simp] theorem State.shedStart_account (s : State) (over_ : Bool) : (s.shedStart over_).account = s.account := by
  unfold State.shedStart
  split
  · split
    · rw [State.shedMore_account, State.shedOne_account]
    · rfl
  · exact s.shedMore_account 3

@[simp] theorem State.restoreStart_account (s : State) : s.restoreStart.account = s.account := by
  unfold State.restoreStart
  generalize (if s.gov.qualifies then s.gov.qual + 1 else 0) = qualified
  dsimp only
  split
  · rfl
  · split
    · exact State.log_account _ _
    · rfl

/-! ### A window that starts (R163, R172) -/

/-- The governor of the window that starts at `xck`: the spends closed, the limits in force, and their budget. -/
def Gov.nextWindow (g : Gov) (eco : Bool) (xck : Nat) : Gov :=
  { g with
    spent := g.spend, spend := 0, clusterSpent := g.clusterSpend, clusterSpend := []
    limit := g.limits.1, tHi := g.limits.2.1, guarTemp := g.limits.2.2, limitNext := none, level := .normal
    windows := g.windows + 1, windowAt := xck, windowDue := false
    tb := g.budgetFor eco g.limits.1 g.limits.2.1 g.tmax }

/-- The window that starts goes by the account alone: what is shed has no part in its budget. -/
theorem Gov.nextWindow_account (g : Gov) (eco : Bool) (xck : Nat) :
    (g.nextWindow eco xck).account = (g.account.nextWindow eco xck).account := rfl

/-- The spends closed and the next window opened. -/
def State.turnWindow (s : State) : State := s.closeWindow.onGov fun _ => s.gov.nextWindow s.power.eco s.clock.xck

theorem State.turnWindow_port (s : State) (p : Nat) : (s.turnWindow.port p).account = ((s.port p).tollSpent, 0, 0) :=
  State.mapPorts_port Port.account
    (fun _ q => { q with spend := q.tollSpent, tollSpent := 0, bytes := 0, budget := q.budgetNext }) s p rfl

theorem State.turnWindow_account {s t : State} (h : t.account = s.account) :
    t.turnWindow.account = s.turnWindow.account := by
  obtain ⟨hgov, hport, hclock, hpower⟩ := State.account_eq_iff.1 h
  refine State.account_eq_iff.2 ⟨?_, fun p => ?_, hclock, hpower⟩
  · calc t.turnWindow.gov.account = (t.gov.account.nextWindow t.power.eco t.clock.xck).account := rfl
      _ = (s.gov.account.nextWindow s.power.eco s.clock.xck).account := by rw [hgov, hclock, hpower]
      _ = s.turnWindow.gov.account := rfl
  · have htoll : (t.port p).tollSpent = (s.port p).tollSpent := congrArg (·.2.1) (hport p)
    rw [State.turnWindow_port, State.turnWindow_port, htoll]

/-- Restoring comes before the turn of the window, and shedding, ageing, hints and the level after it: neither changes its
account. -/
theorem State.windowStart_account {s : State} (h : s.windowReady = true) :
    s.windowStart.account = s.turnWindow.account := by
  have hrestored : (if s.gov.windows = 0 then s else s.restoreStart).account = s.account := by simp
  refine Eq.trans ?_ (State.turnWindow_account hrestored)
  unfold State.windowStart
  rw [if_neg (by simp [h])]
  simp only [State.seeWindow_account, State.climb_account]
  rw [State.onGov_account _ rfl]
  simp only [State.ageJobs_account, State.shedStart_account, State.reckon_account]
  rfl

theorem State.windowStart_of_not_ready {s : State} (h : s.windowReady = false) : s.windowStart = s := by
  unfold State.windowStart
  rw [if_pos (by simp [h])]

/-! ### A reading of sound sensors (R173) -/

theorem State.replaceFailed_of_sound {s : State} (h : ∀ j ∈ s.sensorsOf, (s.sensor j).failed = false) :
    s.replaceFailed = s := by
  have hnone : s.sensorsOf.filter (fun k => (s.sensor k).failed) = [] :=
    List.filter_eq_nil_iff.2 fun j hj => by simp [h j hj]
  rw [State.replaceFailed_eq, hnone]
  rfl

/-- A sensor that takes a reading is sound. -/
theorem State.setSensor_sound {s : State} {k : Nat} {x : Sensor} (hx : x.failed = false)
    (h : ∀ j ∈ s.sensorsOf, (s.sensor j).failed = false) (j : Nat) (hj : j ∈ s.sensorsOf) :
    ((s.onGov fun g => { g with sensors := g.sensors.set k x }).sensor j).failed = false := by
  rw [State.sensor_setSensor]
  split
  · exact hx
  · exact h j hj

theorem State.sensorRead_single {s : State} {k : Nat} {d : Int} (hready : s.ready = true) (hdue : s.sensorsDue = true)
    (hk : k ∈ s.sensorsOf) (hsound : ∀ j ∈ s.sensorsOf, (s.sensor j).failed = false) :
    s.sensorRead [(k, d)] =
      (let t := (s.onGov fun g => { g with sensorWin := g.windows + 1 }).onGov fun g =>
        { g with sensors := g.sensors.set k { deg := d.toNat, valid := true } }
       t.setTmax t.tmaxNow) := by
  have htakes : (s.onGov fun g => { g with sensorWin := g.windows + 1 }).sensorsOf.contains k ∧
      ¬ ((s.onGov fun g => { g with sensorWin := g.windows + 1 }).sensor k).failed = true :=
    ⟨List.contains_iff_mem.2 hk, Bool.eq_false_iff.1 (hsound k hk)⟩
  unfold State.sensorRead
  rw [if_neg (by simp [hready, hdue])]
  dsimp only [List.foldl_cons, List.foldl_nil]
  rw [if_pos htakes, State.replaceFailed_of_sound]
  exact State.setSensor_sound (s := s.onGov fun g => { g with sensorWin := g.windows + 1 }) rfl hsound

/-! ### P_eff (R172) -/

section
variable {limit tHi t : Nat}

theorem effective_of_le (h : t ≤ tHi) : effective limit tHi t = limit := if_pos h

theorem effective_of_crit (h : tHi < t) (hcrit : 110 ≤ t) : effective limit tHi t = 0 := by
  rw [effective, tCrit, if_neg (Nat.not_le.2 h), if_pos hcrit]

theorem effective_between (h : tHi < t) (hcrit : t < 110) :
    effective limit tHi t = limit * (110 - t) / (110 - tHi) := by
  rw [effective, tCrit, if_neg (Nat.not_le.2 h), if_neg (Nat.not_le.2 hcrit)]

end

/-! ### The rows -/

theorem exec_govWindowStart {s : State} (h : s.windowReady = true) :
    ∃ t, exec .govWindowStart s = .next t ∧ t.gov.account = (s.gov.nextWindow s.power.eco s.clock.xck).account ∧
      (∀ p, (t.port p).account = ((s.port p).tollSpent, 0, 0)) ∧ t.mem = s.mem := by
  obtain ⟨hgov, hport, -, -⟩ := State.account_eq_iff.1 (State.windowStart_account h)
  exact ⟨s.windowStart, rfl, hgov, fun p => (hport p).trans (s.turnWindow_port p),
    congrArg Prod.fst s.windowStart_store⟩

theorem exec_bellLevelChange {s : State} {n : Nat} (lines : BitVec 2) (hready : s.ready = true) (hn : n < 8)
    (hport : s.portPresent (48 + n) = true) (hclock : s.pins.clockStopped.get false (48 + n) = false) :
    exec (.bellLevelChange n lines) s = .next
      (let level := bellLevel lines
       let t := s.onGov fun g => { g with
          bells := g.bells.set n { s.bell n with
            critCount := (if level = 3 ∧ (s.bell n).level ≠ 3 then (s.bell n).critCount + 1 else (s.bell n).critCount)
            level := level } }
       if (level = 3 ∧ (s.bell n).level ≠ 3) ∧ (s.bell n).critIrq = true then t.govFlag 9 else t) := by
  have hsampled : ¬ (¬ s.ready = true ∨ 8 ≤ n ∨ ¬ s.portPresent (48 + n) = true ∨
      s.pins.clockStopped.get false (48 + n) = true) := by
    simp [hready, hn, hport, hclock]
  change Host.Outcome.next (s.bellChange n lines) = _
  rw [State.bellChange, if_neg hsampled]

/-- Settles O47: the account of the window that starts is what closing the spends and opening the next leaves; a reading
of sound sensors replaces no other; the line's level is stored where the line is sampled. -/
theorem governorRows : Obligations.GovernorRows := by
  refine ⟨fun s hready => ⟨fun hdue => ?_, fun hnot => ?_, fun k d hdue hk hsound => ?_,
      fun n lines hn hport hclock => exec_bellLevelChange lines hready hn hport hclock⟩,
    by decide, by decide, by decide, by decide,
    fun limit tHi t => ⟨effective_of_le, effective_of_crit, effective_between⟩⟩
  · obtain ⟨t, hexec, hgov, hport, hmem⟩ := exec_govWindowStart hdue
    have hfield {β : Type} (field : Gov → β) :
        field t.gov.account = field (s.gov.nextWindow s.power.eco s.clock.xck).account :=
      congrArg field hgov
    refine ⟨t, hexec, hfield Gov.windows, hfield Gov.windowAt, hfield Gov.limit, hfield Gov.tHi, hfield Gov.guarTemp,
      hfield Gov.limitNext, hfield Gov.spent, hfield Gov.spend, hfield Gov.tb, fun p => ?_, hmem⟩
    simpa only [Port.account, Prod.mk.injEq] using hport p
  · exact congrArg Host.Outcome.next (State.windowStart_of_not_ready hnot)
  · exact congrArg Host.Outcome.next (State.sensorRead_single hready hdue hk hsound)

end Sys2Proof.Machine
end

section
/-!
PROOFS. VIEW_STATS (R220): the record of a view and the actions that come after it, or the epoch that it ends and then
waits for.
-/

namespace Sys2Proof.Machine

section
variable {s : State} {c : Cmd} {w : Waiting} {v : View}

/-! ### The record and the actions (Table 7-8) -/

/-- What the flags of a VIEW_STATS ask for once the record has been given: CLEAR, RESEED, INVAL. -/
def State.statsActions (s : State) (c : Cmd) : State :=
  let u := if c.flag 2 2 then s.onView (c.par 0 2) fun v =>
    { v with samples := 0, sse := 0, sigsq := 0, rdSat := 0, actions := 0 } else s
  let w := if c.flag 2 4 then u.onView (c.par 0 2) fun v =>
    { v with dscale := seedScale v.desc, dzp := 0 } else u
  if c.flag 2 3 then w.invalidateView (c.par 0 2) else w

theorem State.statsActions_none (hclear : c.flag 2 2 = false) (hinval : c.flag 2 3 = false)
    (hreseed : c.flag 2 4 = false) : s.statsActions c = s := by
  simp only [State.statsActions, hclear, hinval, hreseed, Bool.false_eq_true, if_false]

theorem State.viewStats_of_view (hv : s.view? (c.par 0 2) = some v) :
    s.viewStats c = (s.reply c (c.flag 2 0) (c.par 8 5)
      ((v.stats (c.par 0 2)).flatMap (toBytes 4))).statsActions c := by
  simp only [State.viewStats, hv]
  rfl

theorem viewStats_act (n : Nat) (hv : s.view? (c.par 0 2) = some v) (hadvance : c.flag 2 1 = false) :
    bodyViewStats.act n c s = .done { status := .ok } ((s.reply c (c.flag 2 0) (c.par 8 5)
      ((v.stats (c.par 0 2)).flatMap (toBytes 4))).statsActions c) := by
  rw [← State.viewStats_of_view hv]
  exact if_neg (by simp [hadvance])

/-! ### The wait for an epoch (R212, R220) -/

/-- The command interface does nothing with a command that has started, unless it waits for its parameters or for the
pieces of a port. -/
theorem settleOne_started (hacc : s.acceptOne = none) (hwait : s.cmd.waiting = [w]) (hstarted : w.why.started = true)
    (hreading : ∀ id, w.why ≠ .reading id) (hpieces : ∀ p, w.why ≠ .portPieces p) : s.settleOne = none := by
  have hread : s.readOver bodyOf w = none := by
    unfold State.readOver
    split
    next hwhy _ => exact absurd hwhy (hreading _)
    next => rfl
  have hreset : s.resetOver w = false := by
    unfold State.resetOver
    split
    next hwhy => exact absurd hwhy (hpieces _)
    next => rfl
  have hripe : s.ripe bodyOf w = false := by simp [State.ripe, WaitFor.ownEvent, hstarted]
  unfold State.settleOne
  simp [hacc, hwait, hread, hreset, hripe]

/-- Such a command joins those that wait in a still command interface, and nothing moves. -/
theorem await_started_carryOn {why : WaitFor} (h : s.still) (token : Nat) (half : Option Bool)
    (hstarted : why.started = true) (hreading : ∀ id, why ≠ .reading id) (hpieces : ∀ p, why ≠ .portPieces p) :
    (s.await token c half why).carryOn = s.await token c half why := by
  obtain ⟨harrived, hwait, hrecords, hsp, hctl, hfetched, hevents⟩ := h
  have hone : (s.await token c half why).settleOne = none :=
    settleOne_started (w := { token := token, cmd := c, why := why, half := half })
      (acceptOne_none harrived hsp hctl hfetched) (show s.cmd.waiting ++ _ = _ by rw [hwait]; rfl) hstarted hreading
      hpieces
  have hmoved : (s.await token c half why).moveRuns = s.await token c half why := if_pos hevents
  rw [State.carryOn, settleN_of_none hone, hmoved]
  exact flushRecords_nil hrecords

theorem onView_still {i : Nat} {f : View → View} (h : s.still) : (s.onView i f).still := by
  unfold State.onView
  split <;> exact h

/-- The count of a view's epoch in force. -/
def State.epochCount (s : State) (i : Nat) : Nat :=
  match s.view? i with
  | some v => v.cur.count.toNat
  | none => 0

theorem viewStats_act_advance (n : Nat) (hadvance : c.flag 2 1 = true) :
    bodyViewStats.act n c s = .running ((s.onView (c.par 0 2) (·.reachEnd s.clock.xck)).await n c s.holder
      (.settle (c.par 0 2) (s.epochCount (c.par 0 2)))) := if_pos hadvance

/-! ### How the command comes out -/

section
variable (h : s.takes bodyViewStats c = true)
include h

theorem viewStats_record_row (hv : s.view? (c.par 0 2) = some v) (hadvance : c.flag 2 1 = false) :
    runRow bodyViewStats c s = ((((s.reached bodyViewStats c).given c).reply c (c.flag 2 0) (c.par 8 5)
      ((v.stats (c.par 0 2)).flatMap (toBytes 4))).statsActions c).ends s.cmd.accepted c { status := .ok } := by
  have hread := State.touched_reads (f := fun u => u.view? (c.par 0 2)) (fun _ _ _ => rfl) s bodyViewStats c
  exact runRow_ends rfl h (takes_prompt h rfl) rfl (viewStats_act _ (hread.trans hv) hadvance)

/-- A VIEW_STATS for the record alone is a query. -/
theorem viewStats_query_row (hv : s.view? (c.par 0 2) = some v) (hmem : c.flag 2 0 = false)
    (hadvance : c.flag 2 1 = false) (hclear : c.flag 2 2 = false) (hinval : c.flag 2 3 = false)
    (hreseed : c.flag 2 4 = false) :
    runRow bodyViewStats c s = s.queryReply c ((v.stats (c.par 0 2)).flatMap (toBytes 4)) := by
  rw [viewStats_record_row h hv hadvance, State.statsActions_none hclear hinval hreseed,
    State.reached_none (replyTouches_window hmem), hmem]
  exact reply_ends (takes_window h) (takes_signal h) (takes_still h)

theorem viewStats_advance_row (hadvance : c.flag 2 1 = true) :
    runRow bodyViewStats c s =
      (((s.reached bodyViewStats c).given c).onView (c.par 0 2) (·.reachEnd s.clock.xck)).await s.cmd.accepted c
        s.holder (.settle (c.par 0 2) (s.epochCount (c.par 0 2))) := by
  have hread := State.touched_reads (f := fun u => (u.clock.xck, u.holder, u.epochCount (c.par 0 2)))
    (fun _ _ _ => rfl) s bodyViewStats c
  simp only [Prod.mk.injEq] at hread
  obtain ⟨hxck, hholder, hcount⟩ := hread
  have hstill : (s.touched bodyViewStats c).still :=
    (State.reached_eq (f := fun u => (u.given c).still) (fun _ _ => rfl) s bodyViewStats c).mpr (takes_given_still h)
  rw [runRow_act rfl h (takes_prompt h rfl) rfl, viewStats_act_advance _ hadvance, hxck, hholder, hcount]
  exact await_started_carryOn (onView_still hstill) _ _ rfl (fun _ => nofun) fun _ => nofun

end

end

/-- Settles O11: without ADVANCE the command ends with the record and the actions of its flags, and where there are none
it is a query; with ADVANCE it joins those that wait, where nothing starts it but its epoch. -/
theorem viewStatsCommand : Obligations.ViewStatsCommand := by
  refine fun c s h => ⟨fun v hv hadvance => ?_, fun v hv hmem hadvance hclear hinval hreseed => ?_, fun hadvance => ?_⟩
  · exact congrArg Host.Outcome.next (viewStats_record_row h hv hadvance)
  · exact congrArg Host.Outcome.next (viewStats_query_row h hv hmem hadvance hclear hinval hreseed)
  · exact congrArg Host.Outcome.next (viewStats_advance_row h hadvance)

end Sys2Proof.Machine
end

section
/-!
PROOFS. The commands of the event engine (R232, R233, R241, R249, R250, R252): the writes of its tables, the stagings and
STEP.
-/

namespace Sys2Proof.Machine

section
variable {s : State} {b : Body} {c : Cmd} {p : Pop} {r : Result}

/-! ### What leaves a dispatcher still (R245, R251) -/

/-- The event engine starts nothing by itself where its dispatchers stay as they are and no STEP that is over joins. -/
theorem onEng_still {f : EventUnit → EventUnit} (h : s.still) (hdisp : (f s.eng).disp = s.eng.disp)
    (hsteps : (f s.eng).steps.any (·.ended) = s.eng.steps.any (·.ended)) : (s.onEng f).still := by
  obtain ⟨harrived, hwait, hrecords, hsp, hctl, hfetched, hevents⟩ := h
  refine ⟨harrived, hwait, hrecords, hsp, hctl, hfetched, ?_⟩
  simpa only [State.eventsStill, State.onEng_eng, State.port, State.onEng_xbar, hdisp, hsteps] using hevents

theorem onPop_still {i : Nat} {f : Pop → Pop} (h : s.still) : (s.onPop i f).still := by
  unfold State.onPop
  split <;> exact h

/-- A population is written without a look at the command interface. -/
theorem given_onPop (s : State) (c : Cmd) (i : Nat) (f : Pop → Pop) : (s.given c).onPop i f = (s.onPop i f).given c := by
  unfold State.onPop
  rw [show (s.given c).pop? i = s.pop? i from rfl]
  split <;> rfl

/-! ### Commands that are deferred (R47) -/

/-- A deferred command that ends at once without an effect. -/
theorem runRow_deferred_replied (hb : bodyOf b.code = some b) (h : s.takes b c = true) (hd : c.defers = true)
    (hf : b.fetch c (s.touched b c) = none)
    (ha : b.act s.cmd.accepted c ((s.reached b c).deferred b c) = .done r ((s.reached b c).deferred b c)) :
    runRow b c s = (s.reached b c).replied c r := by
  have hstill := State.reached_still b c (takes_still h)
  have hn : (s.reached b c).cmd.accepted = s.cmd.accepted :=
    State.reached_eq (f := fun u => u.cmd.accepted) (fun _ _ => rfl) s b c
  have hends := deferred_ends (b := b) (r := r) (takes_window h) (takes_signal h) hstill
  rw [hn] at hends
  rw [runRow_deferred_ends hb h hd hf ha, State.ends, hends, replied_carryOn hstill]

/-! ### Stagings (R232, R233) -/

/-- The rows of a bank among some places have buffer rows, for a population. -/
def State.allocate (s : State) (pop : Nat) (places : List (Nat × Nat)) (b : Nat) : State :=
  s.onEng fun e => { e with abuf := e.abuf.modify [] (s.slotOf b) (allocRows pop (rowsIn places b)) }

/-- Buffer rows move no row of the array, so that the places stay those of the state before. -/
theorem foldl_allocate_places (d : BitVec 512) (pop : Nat) (banks : List Nat) :
    banks.foldl (fun u b => u.allocate pop (u.popPlaces d) b) s =
      banks.foldl (fun u b => u.allocate pop (s.popPlaces d) b) s := by
  induction banks generalizing s with
  | nil => rfl
  | cons b bs ih => exact ih

theorem foldl_allocate_still (places : List (Nat × Nat)) (pop : Nat) (banks : List Nat) (h : s.still) :
    (banks.foldl (fun u b => u.allocate pop places b) s).still := by
  induction banks generalizing s with
  | nil => exact h
  | cons b bs ih => exact ih (onEng_still h rfl rfl)

theorem beginStaging_still {n : Nat} {unstage : Bool} (h : s.still) : (s.beginStaging n c unstage).still :=
  onEng_still h rfl rfl

section
variable (hp : s.pop? c.pop = some p) (n : Nat)
include hp

theorem popStage_act : bodyPopStage.act n c s =
    if p.staged then Act.ok s
    else .running (((banksIn (s.popPlaces p.desc)).foldl (fun u b => u.allocate c.pop (s.popPlaces p.desc) b)
      s).beginStaging n c false) := by
  simp only [bodyPopStage, hp]
  rfl

theorem popUnstage_act : bodyPopUnstage.act n c s =
    if p.staged then .running (s.beginStaging n c true) else Act.ok s := by
  simp only [bodyPopUnstage, hp]

/-! ### STEP (R250) -/

theorem step_act_outOfRange (htag : p.p ≠ BitVec.ofNat 32 (c.par 4 4)) :
    bodyStep.act n c s = .done { status := .stepRange, result := p.p.toNat } s := by
  simp [bodyStep, hp, Option.filter, htag]

/-- The STEP of a command, with the route of the moment in which it begins (R252). -/
def State.newStep (s : State) (n : Nat) (c : Cmd) : StepRun :=
  { pop := c.pop, token := n, cmd := c, tag := BitVec.ofNat 32 (c.par 4 4), route := s.eng.routes.get {} c.pop }

/-- A STEP is under way. -/
def State.stepping (s : State) (c : Cmd) (r : StepRun) : State :=
  (s.onPop c.pop fun p => { p with running := true }).onEng fun e => { e with steps := e.steps ++ [r] }

theorem step_act_begins (htag : p.p = BitVec.ofNat 32 (c.par 4 4)) :
    bodyStep.act n c s = .running (s.stepping c (s.newStep n c)) := by
  simp [bodyStep, hp, Option.filter, htag, State.stepping, State.newStep]

end

theorem stepping_still {r : StepRun} (h : s.still) (hr : r.ended = false) : (s.stepping c r).still :=
  onEng_still (onPop_still h) rfl (by simp [hr])

/-! ### How the commands come out -/

theorem popStage_row (h : s.takes bodyPopStage c = true) (hp : s.pop? c.pop = some p) :
    runRow bodyPopStage c s = if p.staged then (s.reached bodyPopStage c).replied c { status := .ok }
      else ((banksIn (s.popPlaces p.desc)).foldl (fun u b => u.allocate c.pop (u.popPlaces p.desc) b)
        ((s.reached bodyPopStage c).deferred bodyPopStage c)).beginStaging s.cmd.accepted c false := by
  have hpop := (State.deferred_reads (f := fun u => u.pop? c.pop) (fun _ _ _ => rfl) s bodyPopStage c).trans hp
  have hplaces := State.deferred_reads (f := fun u => u.popPlaces p.desc) (fun _ _ _ => rfl) s bodyPopStage c
  have hact := popStage_act hpop s.cmd.accepted
  rw [hplaces] at hact
  rw [foldl_allocate_places, hplaces]
  by_cases hstaged : p.staged = true
  · rw [if_pos hstaged] at hact ⊢
    exact runRow_deferred_replied rfl h (takes_defers h) rfl hact
  · rw [if_neg hstaged] at hact ⊢
    exact runRow_goesOn rfl h (takes_defers h) rfl hact
      (beginStaging_still (foldl_allocate_still _ _ _ (takes_deferred_still h)))

theorem popUnstage_row (h : s.takes bodyPopUnstage c = true) (hp : s.pop? c.pop = some p) :
    runRow bodyPopUnstage c s =
      if p.staged then
        ((s.reached bodyPopUnstage c).deferred bodyPopUnstage c).beginStaging s.cmd.accepted c true
      else (s.reached bodyPopUnstage c).replied c { status := .ok } := by
  have hpop := (State.deferred_reads (f := fun u => u.pop? c.pop) (fun _ _ _ => rfl) s bodyPopUnstage c).trans hp
  have hact := popUnstage_act hpop s.cmd.accepted
  by_cases hstaged : p.staged = true
  · rw [if_pos hstaged] at hact ⊢
    exact runRow_goesOn rfl h (takes_defers h) rfl hact (beginStaging_still (takes_deferred_still h))
  · rw [if_neg hstaged] at hact ⊢
    exact runRow_deferred_replied rfl h (takes_defers h) rfl hact

theorem step_row_outOfRange (h : s.takes bodyStep c = true) (hp : s.pop? c.pop = some p)
    (htag : p.p ≠ BitVec.ofNat 32 (c.par 4 4)) :
    runRow bodyStep c s = (s.reached bodyStep c).replied c { status := .stepRange, result := p.p.toNat } := by
  have hpop := (State.deferred_reads (f := fun u => u.pop? c.pop) (fun _ _ _ => rfl) s bodyStep c).trans hp
  exact runRow_deferred_replied rfl h (takes_defers h) rfl (step_act_outOfRange hpop _ htag)

theorem step_row_begins (h : s.takes bodyStep c = true) (hp : s.pop? c.pop = some p)
    (htag : p.p = BitVec.ofNat 32 (c.par 4 4)) :
    runRow bodyStep c s =
      ((s.reached bodyStep c).deferred bodyStep c).stepping c (s.newStep s.cmd.accepted c) := by
  have hpop := (State.deferred_reads (f := fun u => u.pop? c.pop) (fun _ _ _ => rfl) s bodyStep c).trans hp
  have hroute := State.deferred_reads (f := fun u => u.newStep s.cmd.accepted c) (fun _ _ _ => rfl) s bodyStep c
  have hact := step_act_begins hpop s.cmd.accepted htag
  rw [hroute] at hact
  exact runRow_goesOn rfl h (takes_defers h) rfl hact (stepping_still (takes_deferred_still h) rfl)

/-- POP_UNTAINT writes its population and ends. -/
theorem popUntaint_row (h : s.takes bodyPopUntaint c = true) :
    runRow bodyPopUntaint c s = (s.onPop c.pop fun p => { p with tainted := false }).replied c { status := .ok } := by
  have hrow := runRow_leaves (b := bodyPopUntaint) rfl h rfl rfl rfl rfl (by simp) (onPop_still (takes_given_still h))
  refine hrow.trans ?_
  rw [given_onPop]
  unfold State.onPop
  split <;> rfl

end

/-- Settles O13: the writes of the tables end at once and start nothing (`runRow_leaves`); a staging and a STEP are given
to the command that was entered as deferred, or it ends at once (`runRow_deferred_replied`). -/
theorem engineCommands : Obligations.EngineCommands := by
  refine ⟨fun c s => ⟨fun h => ?_, fun h => ?_, fun h => ?_, fun h => ?_⟩,
    fun c s p hp => ⟨fun h => ?_, fun h => ?_, fun h htag => ?_, fun h htag => ?_⟩⟩
  · exact congrArg Host.Outcome.next (runRow_leaves (b := bodyPopSet) rfl h rfl rfl rfl rfl rfl
      (onEng_still (takes_given_still h) rfl rfl) :)
  · exact congrArg Host.Outcome.next (runRow_leaves (b := bodyPopClear) rfl h rfl rfl rfl rfl rfl
      (onEng_still (takes_given_still h) rfl rfl) :)
  · exact congrArg Host.Outcome.next (popUntaint_row h)
  · exact congrArg Host.Outcome.next (runRow_leaves (b := bodyEvrouteSet) rfl h rfl rfl rfl rfl rfl
      (onEng_still (takes_given_still h) rfl rfl) :)
  · exact congrArg Host.Outcome.next (popStage_row h hp)
  · exact congrArg Host.Outcome.next (popUnstage_row h hp)
  · exact congrArg Host.Outcome.next (step_row_outOfRange h hp htag)
  · exact congrArg Host.Outcome.next (step_row_begins h hp htag)

end Sys2Proof.Machine
end

section
/-!
PROOFS. What becomes of a SPIKE by its distance from the population's step (R247).
-/

namespace Sys2Proof.Machine

/-! ### The step window (R247) -/

section
variable (p : Pop) (t : BitVec 32)

theorem Pop.window_running (h : p.running = true) :
    p.window t = if t - p.p = 1 then .apply else if t - p.p = 2 then .hold else .refuse := by
  simp only [Pop.window, h, if_true, and_true]
  by_cases hzero : t - p.p = 0
  · simp [hzero]
  · rw [if_neg hzero]

theorem Pop.window_idle (h : p.running = false) :
    p.window t = if t - p.p = 1 ∨ t - p.p = 0 then .apply else .refuse := by
  simp only [Pop.window, h, Bool.false_eq_true, if_false, and_false, ite_or]

end

/-- Settles O33: a distance of the window from P names one step, so that the tests of the table exclude each other. -/
theorem stepWindow : Obligations.StepWindow := by
  intro p t
  have hdist : ∀ n, t - p.p = n ↔ t = p.p + n := fun _ => sub_eq_iff_eq_add'
  have hthis : t - p.p = 0 ↔ t = p.p := sub_eq_zero
  cases hrun : p.running with
  | true =>
    rw [Pop.window_running p t hrun, if_pos rfl]
    simp only [hdist]
    by_cases hsame : t = p.p
    · subst hsame
      simp
    · rw [if_neg hsame]
  | false =>
    rw [Pop.window_idle p t hrun, if_neg Bool.false_ne_true]
    simp only [hdist 1, hthis, or_comm]

end Sys2Proof.Machine
end

section
/-!
PROOFS. The update of a neuron's record in STEP (R251, Table 8-4).
-/

namespace Sys2Proof.Machine

/-! ### A field that is written (R131) -/

section
variable (w : Nat) {lo n v a m : Nat}

theorem bitsOf_lt (lo n : Nat) : bitsOf w lo n < 2 ^ n := Nat.mod_lt _ (Nat.two_pow_pos n)

/-- What stands above a field, the field, and what stands below it. -/
theorem eq_above_field_below (lo n : Nat) :
    w = 2 ^ lo * (2 ^ n * (w >>> lo >>> n) + bitsOf w lo n) + w % 2 ^ lo := by
  rw [bitsOf, Nat.shiftRight_eq_div_pow, Nat.shiftRight_eq_div_pow, Nat.div_add_mod, Nat.div_add_mod]

theorem putBits_eq (lo n v : Nat) :
    putBits w lo n v = 2 ^ lo * (2 ^ n * (w >>> lo >>> n) + v % 2 ^ n) + w % 2 ^ lo := by
  have hw := eq_above_field_below w lo n
  have hrest : 2 ^ lo * (2 ^ n * (w >>> lo >>> n)) + w % 2 ^ lo + bitsOf w lo n * 2 ^ lo = w :=
    Eq.trans (by ring) hw.symm
  unfold putBits
  rw [← Nat.eq_sub_of_add_eq hrest]
  ring

theorem testBit_putBits (lo n v i : Nat) :
    (putBits w lo n v).testBit i = if lo ≤ i ∧ i < lo + n then v.testBit (i - lo) else w.testBit i := by
  have hbelow : w % 2 ^ lo < 2 ^ lo := Nat.mod_lt _ (Nat.two_pow_pos lo)
  have hfield : v % 2 ^ n < 2 ^ n := Nat.mod_lt _ (Nat.two_pow_pos n)
  rw [putBits_eq, Nat.testBit_two_pow_mul_add _ hbelow, Nat.testBit_two_pow_mul_add _ hfield]
  rcases lt_or_ge i lo with hi | hi
  · rw [if_pos hi, if_neg (by omega), Nat.testBit_mod_two_pow, decide_eq_true hi, Bool.true_and]
  · rcases lt_or_ge i (lo + n) with hin | hin
    · rw [if_neg (by omega), if_pos (by omega), if_pos ⟨hi, hin⟩, Nat.testBit_mod_two_pow, decide_eq_true (by omega),
        Bool.true_and]
    · rw [if_neg (by omega), if_neg (by omega), if_neg (by omega), Nat.testBit_shiftRight, Nat.testBit_shiftRight]
      congr 1
      omega

/-- A field reads as it was written. -/
theorem bitsOf_putBits_same (hv : v < 2 ^ n) : bitsOf (putBits w lo n v) lo n = v := by
  rw [bitsOf, putBits_eq, Nat.shiftRight_eq_div_pow, Nat.mul_add_div (Nat.two_pow_pos lo),
    Nat.div_eq_of_lt (Nat.mod_lt _ (Nat.two_pow_pos lo)), Nat.add_zero, Nat.mul_add_mod, Nat.mod_mod,
    Nat.mod_eq_of_lt hv]

/-- A write leaves the fields alone that it does not meet. -/
theorem bitsOf_putBits_of_disjoint (h : a + m ≤ lo ∨ lo + n ≤ a) : bitsOf (putBits w lo n v) a m = bitsOf w a m := by
  refine Nat.eq_of_testBit_eq fun i => ?_
  rw [testBit_bitsOf, testBit_bitsOf, testBit_putBits]
  rcases lt_or_ge i m with hi | hi
  · rw [if_neg (by omega)]
  · rw [decide_eq_false (by omega), Bool.false_and, Bool.false_and]

/-- Writing what a field holds changes nothing. -/
theorem putBits_of_eq (h : bitsOf w lo n = v) : putBits w lo n v = w := by
  rw [putBits_eq, ← h, Nat.mod_eq_of_lt (bitsOf_lt w lo n), ← eq_above_field_below]

end

/-! ### The fields of a record that a step writes (Table 8-4) -/

/-- A record with `input[k]` cleared and its four other fields written: SATURATED, the membrane, the count of the
refractory steps and FIRED. -/
def neuronWritten (r k saturated membrane refract fired : Nat) : Nat :=
  putBits (putBits (putBits (putBits (putBits r (32 + 32 * k) 32 0) 113 1 saturated) 0 32 membrane) 96 16 refract)
    112 1 fired

section
variable (r : Nat) {k : Nat} (saturated membrane refract fired : Nat)

theorem neuronWritten_fired (h : fired < 2) :
    bitsOf (neuronWritten r k saturated membrane refract fired) 112 1 = fired := bitsOf_putBits_same _ h

theorem neuronWritten_refract (h : refract < 2 ^ 16) :
    bitsOf (neuronWritten r k saturated membrane refract fired) 96 16 = refract := by
  unfold neuronWritten
  rw [bitsOf_putBits_of_disjoint _ (by omega), bitsOf_putBits_same _ h]

theorem neuronWritten_membrane (h : membrane < 2 ^ 32) :
    bitsOf (neuronWritten r k saturated membrane refract fired) 0 32 = membrane := by
  unfold neuronWritten
  rw [bitsOf_putBits_of_disjoint _ (by omega), bitsOf_putBits_of_disjoint _ (by omega), bitsOf_putBits_same _ h]

theorem neuronWritten_saturated (h : saturated < 2) :
    bitsOf (neuronWritten r k saturated membrane refract fired) 113 1 = saturated := by
  unfold neuronWritten
  simp (disch := omega) only [bitsOf_putBits_of_disjoint, bitsOf_putBits_same]

section
variable (hk : k < 2)
include hk

theorem neuronWritten_input : bitsOf (neuronWritten r k saturated membrane refract fired) (32 + 32 * k) 32 = 0 := by
  unfold neuronWritten
  simp (disch := omega) only [bitsOf_putBits_of_disjoint, bitsOf_putBits_same]

/-- The fields that no step writes. -/
theorem neuronWritten_of_disjoint {a n : Nat} (hlow : 32 ≤ a) (hhigh : a + n ≤ 96 ∨ 114 ≤ a)
    (hinput : a + n ≤ 32 + 32 * k ∨ 32 + 32 * k + 32 ≤ a) :
    bitsOf (neuronWritten r k saturated membrane refract fired) a n = bitsOf r a n := by
  unfold neuronWritten
  simp (disch := omega) only [bitsOf_putBits_of_disjoint]

end
end

/-! ### The four cases of a step (R251) -/

/-- The membrane after a step's decay. -/
def decayedMembrane (d : BitVec 512) (r : Nat) : Int := (int32 (bitsOf r 0 32) * popDecay d + 0x8000) / 65536

/-- The decayed membrane with the input of the step, before it saturates. -/
def summedMembrane (d : BitVec 512) (t : BitVec 32) (r : Nat) : Int :=
  decayedMembrane d r + int32 (bitsOf r (32 + 32 * (t.toNat % 2)) 32)

/-- SATURATED after a sum: it is set, and no step clears it. -/
def saturatedBit (v : Int) (r : Nat) : Nat := if clamp32 v ≠ v then 1 else bitsOf r 113 1

section
variable (r : Nat) {k : Nat} (hk : k < 2)
include hk

/-- Clearing an input leaves the fields beside the two inputs alone. -/
theorem bitsOf_cleared {a n : Nat} (h : a + n ≤ 32 ∨ 96 ≤ a) :
    bitsOf (putBits r (32 + 32 * k) 32 0) a n = bitsOf r a n := bitsOf_putBits_of_disjoint r (by omega)

/-- SATURATED is written only where the sum saturates. -/
theorem putBits_saturated (v : Int) :
    (if clamp32 v ≠ v then putBits (putBits r (32 + 32 * k) 32 0) 113 1 1 else putBits r (32 + 32 * k) 32 0) =
      putBits (putBits r (32 + 32 * k) 32 0) 113 1 (saturatedBit v r) := by
  unfold saturatedBit
  split
  · rfl
  · rw [putBits_of_eq _ (bitsOf_cleared r hk (.inr (by decide)))]

end

section
variable {d : BitVec 512} {t : BitVec 32} {r : Nat}

theorem stepNeuron_disabled (hdisable : bitOf r 114 = true) :
    stepNeuron d t r =
      { record := neuronWritten r (t.toNat % 2) (bitsOf r 113 1) (bitsOf r 0 32) (bitsOf r 96 16) 0 } := by
  have hflag : bitOf (bitsOf r 112 16) 2 = true := by rwa [bitOf, testBit_bitsOf]
  have hk : t.toNat % 2 < 2 := Nat.mod_lt _ (by decide)
  unfold stepNeuron neuronWritten
  rw [if_pos hflag, putBits_of_eq _ (bitsOf_cleared r hk (.inr (by decide))),
    putBits_of_eq _ (bitsOf_cleared r hk (.inl (by decide))), putBits_of_eq _ (bitsOf_cleared r hk (.inr (by decide)))]

section
variable (hable : bitOf r 114 = false)
include hable

theorem stepNeuron_refractory (hrefract : 0 < bitsOf r 96 16) :
    stepNeuron d t r =
      { record := neuronWritten r (t.toNat % 2) (bitsOf r 113 1) (code32 (decayedMembrane d r)) (bitsOf r 96 16 - 1)
          0 } := by
  have hflag : bitOf (bitsOf r 112 16) 2 = false := by rwa [bitOf, testBit_bitsOf]
  have hk : t.toNat % 2 < 2 := Nat.mod_lt _ (by decide)
  unfold stepNeuron neuronWritten
  rw [putBits_of_eq _ (bitsOf_cleared r hk (.inr (by decide)))]
  simp only [hflag, Bool.false_eq_true, if_false, hrefract, if_true]
  rfl

section
variable (hready : bitsOf r 96 16 = 0)
include hready

theorem stepNeuron_ready :
    stepNeuron d t r =
      let v := summedMembrane d t r
      if popThreshold d ≤ clamp32 v then
        { record := neuronWritten r (t.toNat % 2) (saturatedBit v r)
            (code32 (if popSubtract d then clamp32 (clamp32 v - popThreshold d) else 0)) (popRefractory d) 1
          spike := some (clamp32 v), sat := decide (clamp32 v ≠ v) }
      else
        { record := neuronWritten r (t.toNat % 2) (saturatedBit v r) (code32 (clamp32 v)) 0 0
          sat := decide (clamp32 v ≠ v) } := by
  have hflag : bitOf (bitsOf r 112 16) 2 = false := by rwa [bitOf, testBit_bitsOf]
  have hk : t.toNat % 2 < 2 := Nat.mod_lt _ (by decide)
  have hsum : (int32 (bitsOf r 0 32) * popDecay d + 0x8000) / 65536 + int32 (bitsOf r (32 + 32 * (t.toNat % 2)) 32) =
    summedMembrane d t r := rfl
  have hidle : ∀ saturated membrane : Nat, bitsOf (putBits (putBits (putBits r (32 + 32 * (t.toNat % 2)) 32 0) 113 1
      saturated) 0 32 membrane) 96 16 = 0 := fun saturated membrane => by
    simp (disch := omega) only [bitsOf_putBits_of_disjoint, hready]
  unfold stepNeuron neuronWritten
  simp only [hflag, Bool.false_eq_true, if_false, hready, Nat.lt_irrefl, hsum, decide_eq_true_eq,
    putBits_saturated r hk, putBits_of_eq _ (hidle _ _)]

end
end

/-- Every case writes the same fields. -/
theorem stepNeuron_writes (d : BitVec 512) (t : BitVec 32) (r : Nat) : ∃ saturated membrane refract fired,
    (stepNeuron d t r).record = neuronWritten r (t.toNat % 2) saturated membrane refract fired := by
  cases hdisable : bitOf r 114 with
  | true => exact ⟨_, _, _, _, congrArg Stepped.record (stepNeuron_disabled hdisable)⟩
  | false =>
    rcases Nat.eq_zero_or_pos (bitsOf r 96 16) with hready | hrefract
    · rw [stepNeuron_ready hdisable hready]
      dsimp only
      split <;> exact ⟨_, _, _, _, rfl⟩
    · exact ⟨_, _, _, _, congrArg Stepped.record (stepNeuron_refractory hdisable hrefract)⟩

end

theorem code32_lt (i : Int) : code32 i < 2 ^ 32 := (BitVec.ofInt 32 i).isLt

theorem saturatedBit_lt (v : Int) (r : Nat) : saturatedBit v r < 2 := by
  unfold saturatedBit
  split
  · decide
  · exact bitsOf_lt r 113 1

/-- Settles O36: every case of R251 writes the same five fields (`stepNeuron_writes`), each with what its case gives. -/
theorem stepNeuron_spec : Obligations.StepNeuron := by
  intro d t r k q m v
  have hk : k < 2 := Nat.mod_lt _ (by decide)
  obtain ⟨saturated, membrane, refract, fired, hwrites⟩ := stepNeuron_writes d t r
  refine ⟨?_, ?_, ?_, fun hdisable => ?_, fun hable hrefract => ?_, fun hable hready => ?_⟩
  · rw [hwrites]
    exact neuronWritten_input r _ _ _ _ hk
  · rw [hwrites]
    exact neuronWritten_of_disjoint r _ _ _ _ hk (by omega) (by omega) (by omega)
  · rw [hwrites]
    exact neuronWritten_of_disjoint r _ _ _ _ hk (by omega) (by omega) (by omega)
  · have hq : q = _ := stepNeuron_disabled hdisable
    rw [hq]
    exact ⟨rfl, rfl, neuronWritten_membrane r _ _ _ _ (bitsOf_lt r 0 32),
      neuronWritten_refract r _ _ _ _ (bitsOf_lt r 96 16), neuronWritten_fired r _ _ _ _ (by decide),
      neuronWritten_saturated r _ _ _ _ (bitsOf_lt r 113 1)⟩
  · have hq : q = _ := stepNeuron_refractory hable hrefract
    have hcount : bitsOf r 96 16 - 1 < 2 ^ 16 := lt_of_le_of_lt (Nat.sub_le ..) (bitsOf_lt r 96 16)
    rw [hq]
    exact ⟨rfl, rfl, neuronWritten_membrane r _ _ _ _ (code32_lt _),
      neuronWritten_refract r _ _ _ _ hcount, neuronWritten_fired r _ _ _ _ (by decide),
      neuronWritten_saturated r _ _ _ _ (bitsOf_lt r 113 1)⟩
  · have hq : q = _ := stepNeuron_ready hable hready
    refine ⟨?_, ?_, fun hfires => ?_, fun hrests => ?_⟩
    · rw [hq]
      dsimp only
      split <;> rfl
    · rw [hq]
      dsimp only
      split <;> exact neuronWritten_saturated r _ _ _ _ (saturatedBit_lt ..)
    · rw [hq.trans (if_pos hfires)]
      exact ⟨rfl, neuronWritten_fired r _ _ _ _ (by decide), neuronWritten_refract r _ _ _ _ (bitsOf_lt _ _ 16),
        neuronWritten_membrane r _ _ _ _ (code32_lt _)⟩
    · rw [hq.trans (if_neg (not_le.2 hrests))]
      exact ⟨rfl, neuronWritten_fired r _ _ _ _ (by decide), neuronWritten_refract r _ _ _ _ (by decide),
        neuronWritten_membrane r _ _ _ _ (code32_lt _)⟩

end Sys2Proof.Machine
end

section
/-!
PROOFS. The operations of a fold (R257, R258, R267 to R271, Tables 9-2 to 9-5): which are valid, what each gives an ACTIVE
fold, and what one that is not ACTIVE answers.
-/

namespace Sys2Proof.Machine

section
variable {m : Model} {f : Fold} {op v n : Nat}

/-! ### Validity (Table 9-2) -/

theorem foldValid_iff (f : Fold) (op v : Nat) : foldValid f op v = true ↔
    (op = 0 ∧ f.tally = false ∨ op = 1 ∧ 1 ≤ v ∧ v ≤ tallyMax ∨ op = 2 ∧ f.tally = true ∧ 1 ≤ v ∧ v ≤ tallyMax ∨
      op = 3 ∧ (f.tally = true → v ≤ tallyMax) ∨ op = 4) := by
  match op with
  | 0 => simp [foldValid]
  | 1 => simp [foldValid]
  | 2 => simp [foldValid, and_assoc]
  | 3 => simp [foldValid, ← imp_iff_not_or, ← Bool.not_eq_true]
  | 4 => simp [foldValid]
  | n + 5 => simp [foldValid]

theorem Fold.apply_invalid (h : foldValid f op v = false) :
    f.apply m op v = { fold := f, status := .badParam, token := 0 } := by
  simp [Fold.apply, h]

theorem Fold.apply_active (hactive : f.state = .active) (h : foldValid f op v = true) :
    f.apply m op v = f.active m op v := by
  simp [Fold.apply, h, hactive]

/-! ### A fold that is not ACTIVE (R271, Table 9-5) -/

theorem Fold.apply_error (herror : f.state = .error) (h : foldValid f op v = true) :
    f.apply m op v = { fold := f, status := if op = 4 then .ok else .underflow, token := f.value } := by
  simp [Fold.apply, h, herror]

theorem Fold.apply_abandoned (habandoned : f.state = .abandoned) (h : foldValid f op v = true) :
    f.apply m op v = { fold := f, status := if op = 4 then .ok else .abandoned, token := f.value } := by
  simp [Fold.apply, h, habandoned]

theorem Fold.apply_dying (hdying : f.state = .dying) (h : foldValid f op v = true) :
    f.apply m op v = { fold := f, status := .abandoned, token := 0 } := by
  simp [Fold.apply, h, hdying]

/-! ### Arrivals at a barrier (R257, R267) -/

theorem Fold.arrive_below (h : f.arrived + n < f.count) : f.arrive n = { f with arrived := f.arrived + n } := by
  simp [Fold.arrive, Nat.div_eq_of_lt h, Nat.mod_eq_of_lt h]

theorem Fold.arrive_completes (hcount : 0 < f.count) (h : f.arrived + n = f.count) :
    f.arrive n = { f with arrived := 0, value := f.value + 1 } := by
  simp [Fold.arrive, h, Nat.div_self hcount]

/-- Whole phases are completed: `f.arrived + n` holds COUNT that many times. -/
theorem Fold.arrive_phases (hcount : 0 < f.count) (n : Nat) : ∃ phases,
    f.count * phases ≤ f.arrived + n ∧ f.arrived + n < f.count * (phases + 1) ∧
      f.arrive n = { f with arrived := f.arrived + n - f.count * phases, value := f.value + BitVec.ofNat 32 phases } :=
  ⟨(f.arrived + n) / f.count, Nat.mul_div_le _ _, Nat.lt_mul_div_succ _ hcount, by rw [Fold.arrive, Nat.mod_def]⟩

/-! ### The operations on an ACTIVE fold, by the kind of fold (Tables 9-3 and 9-4) -/

theorem Fold.active_signal_barrier (hbarrier : f.tally = false) :
    f.active m 1 v = { fold := f.arrive v, status := .ok, token := (f.arrive v).value } := by
  simp [Fold.active, hbarrier]

theorem Fold.active_signal256 (htally : f.tally = true) :
    f.active .tm256 1 v = { fold := (f.signal256 v).1, status := (f.signal256 v).2, token := (f.signal256 v).1.value } := by
  simp [Fold.active, htally]

theorem Fold.active_signal_fits (htally : f.tally = true) (hm : m ≠ .tm256) (h : f.value.toNat + v ≤ tallyMax) :
    f.active m 1 v = { fold := { f with value := f.value + BitVec.ofNat 32 v }, status := .ok
                       token := f.value + BitVec.ofNat 32 v } := by
  simp [Fold.active, htally, hm, h]

theorem Fold.active_signal_passes (htally : f.tally = true) (hm : m ≠ .tm256) (h : ¬ f.value.toNat + v ≤ tallyMax) :
    f.active m 1 v = { fold := f, status := .underflow, token := f.value } := by
  simp [Fold.active, htally, hm, h]

theorem Fold.active_consume256 :
    f.active .tm256 2 v =
      { fold := (f.consume256 v).1, status := (f.consume256 v).2, token := (f.consume256 v).1.value } := by
  simp [Fold.active]

theorem Fold.active_consume_holds (hm : m ≠ .tm256) (h : v ≤ f.value.toNat) :
    f.active m 2 v = { fold := { f with value := f.value - BitVec.ofNat 32 v }, status := .ok
                       token := f.value - BitVec.ofNat 32 v } := by
  simp [Fold.active, hm, h]

theorem Fold.active_consume_lacks (hm : m ≠ .tm256) (h : ¬ v ≤ f.value.toNat) :
    f.active m 2 v = { fold := f, status := .underflow, token := f.value } := by
  simp [Fold.active, hm, h]

theorem Fold.meets_tally (htally : f.tally = true) (hv : v ≤ tallyMax) :
    f.meets (BitVec.ofNat 32 v) = decide (v ≤ f.value.toNat) := by
  have hwide : (BitVec.ofNat 32 v).toNat = v :=
    Nat.mod_eq_of_lt (hv.trans_lt (by decide))
  simp only [Fold.meets, htally, if_true, hwide]

theorem Fold.meets_barrier (hbarrier : f.tally = false) (w : BitVec 32) : f.meets w = serialGe32 f.value w := by
  simp only [Fold.meets, hbarrier, Bool.false_eq_true, if_false]

/-! ### VALUE and the deficit in TM-256 (R269) -/

theorem Fold.signal256_fits (h : f.value.toNat + (n - min n f.deficit) ≤ tallyMax) :
    f.signal256 n = ({ f with deficit := f.deficit - min n f.deficit
                              value := BitVec.ofNat 32 (f.value.toNat + (n - min n f.deficit)) }, .ok) :=
  if_neg (not_lt.2 h)

theorem Fold.signal256_saturates (h : tallyMax < f.value.toNat + (n - min n f.deficit)) :
    f.signal256 n = ({ f with deficit := f.deficit - min n f.deficit, value := BitVec.ofNat 32 tallyMax
                              satHi := true }, .saturated) :=
  if_pos h

theorem Fold.consume256_holds (h : n ≤ f.value.toNat) :
    f.consume256 n = ({ f with value := f.value - BitVec.ofNat 32 n }, .ok) :=
  if_pos h

theorem Fold.consume256_lacks (h : f.value.toNat < n) :
    f.consume256 n =
      ({ f with value := 0, satLo := true, deficit := min (f.deficit + (n - f.value.toNat)) 65535
                deficitSat := f.deficitSat || decide (65535 < f.deficit + (n - f.value.toNat)) }, .saturated) :=
  if_neg (not_le.2 h)

/-! ### Sums of a VALUE that stay in its range -/

theorem value_add_toNat {a : BitVec 32} (h : a.toNat + v ≤ tallyMax) : (a + BitVec.ofNat 32 v).toNat = a.toNat + v := by
  simp only [tallyMax] at h
  bv_omega

theorem value_sub_toNat {a : BitVec 32} (h : v ≤ a.toNat) : (a - BitVec.ofNat 32 v).toNat = a.toNat - v := by
  have := a.isLt
  bv_omega

end

/-- Settles O28: an operation is refused, answered by the state of a fold that is not ACTIVE, or acts on an ACTIVE one
(`Fold.apply_active`) by what its kind of fold gives it. -/
theorem foldOperations : Obligations.FoldOperations := by
  refine ⟨foldValid_iff, fun m f v hactive => ⟨fun htally hv => ?_, fun hbarrier => ?_⟩,
    fun f v hactive htally hpos hv => ?_,
    fun m f v hactive => ⟨fun op => Fold.apply_invalid, fun hbarrier hbelow => ?_, fun hbarrier hlast => ?_,
      fun hbarrier hpos hv hcount => ?_, fun htally hm hpos hv hvalue => ?_, fun htally hm hpos hv => ?_, ?_⟩,
    fun m f op v hvalid => ⟨fun h => Fold.apply_error h hvalid, fun h => Fold.apply_abandoned h hvalid,
      fun h => Fold.apply_dying h hvalid⟩⟩
  · rw [Fold.apply_active hactive ((foldValid_iff f 3 v).2 (by simp [hv])), Fold.active, Fold.meets_tally htally hv]
    simp only [decide_eq_true_eq]
  · rw [Fold.apply_active hactive ((foldValid_iff f 3 v).2 (by simp [hbarrier])), Fold.active, Fold.meets_barrier hbarrier]
  · have hsignal := Fold.apply_active (m := .tm256) hactive ((foldValid_iff f 1 v).2 (by simp [hpos, hv]))
    have hconsume := Fold.apply_active (m := .tm256) hactive ((foldValid_iff f 2 v).2 (by simp [htally, hpos, hv]))
    rw [Fold.active_signal256 htally] at hsignal
    rw [Fold.active_consume256] at hconsume
    refine ⟨fun h => ?_, fun h => ?_, fun h => ?_, fun h => ?_⟩
    · rw [hsignal, Fold.signal256_fits h]
    · rw [hsignal, Fold.signal256_saturates h]
    · rw [hconsume, Fold.consume256_holds h]
    · rw [hconsume, Fold.consume256_lacks h]
  · rw [Fold.apply_active hactive ((foldValid_iff f 0 v).2 (by simp [hbarrier])), Fold.active, Fold.arrive_below hbelow]
  · rw [Fold.apply_active hactive ((foldValid_iff f 0 v).2 (by simp [hbarrier])), Fold.active,
      Fold.arrive_completes (by omega) hlast]
  · obtain ⟨phases, hlow, hhigh, harrive⟩ := Fold.arrive_phases hcount v
    refine ⟨phases, hlow, hhigh, ?_⟩
    rw [Fold.apply_active hactive ((foldValid_iff f 1 v).2 (by simp [hpos, hv])), Fold.active_signal_barrier hbarrier,
      harrive]
  · have happly := Fold.apply_active (m := m) hactive ((foldValid_iff f 1 v).2 (by simp [hpos, hv]))
    refine ⟨{ f with value := f.value + BitVec.ofNat 32 v }, ?_⟩
    split
    · next hfits =>
      rw [happly, Fold.active_signal_fits htally hm hfits]
      exact ⟨rfl, rfl, value_add_toNat hfits⟩
    · next hpasses => rw [happly, Fold.active_signal_passes htally hm hpasses]
  · have happly := Fold.apply_active (m := m) hactive ((foldValid_iff f 2 v).2 (by simp [htally, hpos, hv]))
    refine ⟨{ f with value := f.value - BitVec.ofNat 32 v }, ?_⟩
    split
    · next hholds =>
      rw [happly, Fold.active_consume_holds hm hholds]
      exact ⟨rfl, rfl, value_sub_toNat hholds⟩
    · next hlacks => rw [happly, Fold.active_consume_lacks hm hlacks]
  · rw [Fold.apply_active hactive ((foldValid_iff f 4 v).2 (by simp))]
    rfl

end Sys2Proof.Machine
end

section
/-!
PROOFS. The order of the SIGNALs and CONSUMEs of a tally in TM-256 (R269).
-/

namespace Sys2Proof.Machine

/-- A SIGNAL of its number where the mark is set, else a CONSUME, in TM-256 (R269). -/
def Fold.move256 (f : Fold) (o : Bool × Nat) : Fold := if o.1 then (f.signal256 o.2).1 else (f.consume256 o.2).1

/-- VALUE less the deficit: what the operations have brought the tally, which neither loses while nothing saturates. -/
def Fold.balance (f : Fold) : Int := f.value.toNat - f.deficit

/-- What an operation adds to the balance. -/
def balanceMove (o : Bool × Nat) : Int := if o.1 then o.2 else -o.2

/-- A tally owes nothing while it has a VALUE. -/
def Fold.clear (f : Fold) : Prop := f.value = 0 ∨ f.deficit = 0

section
variable {f g : Fold} {o : Bool × Nat} {n : Nat}

theorem Fold.clear_iff : f.clear ↔ f.value.toNat = 0 ∨ f.deficit = 0 := by
  rw [Fold.clear, ← BitVec.toNat_inj]
  rfl

/-- Of VALUE and the deficit one is 0, so that their difference gives both. -/
theorem Fold.clear.eq_of_balance (hf : f.clear) (hg : g.clear) (h : f.balance = g.balance) :
    f.value = g.value ∧ f.deficit = g.deficit := by
  rw [Fold.clear_iff] at hf hg
  simp only [Fold.balance] at h
  rw [← BitVec.toNat_inj]
  omega

theorem Fold.signal256_balance (hf : f.clear) (hroom : (f.signal256 n).1.value.toNat < tallyMax) :
    (f.signal256 n).1.clear ∧ (f.signal256 n).1.balance = f.balance + n := by
  have hfits : f.value.toNat + (n - min n f.deficit) ≤ tallyMax := by
    by_contra hover
    rw [Fold.signal256_saturates (not_le.1 hover)] at hroom
    exact lt_irrefl tallyMax hroom
  have hvalue : (BitVec.ofNat 32 (f.value.toNat + (n - min n f.deficit))).toNat =
      f.value.toNat + (n - min n f.deficit) := Nat.mod_eq_of_lt (hfits.trans_lt (by decide))
  rw [Fold.clear_iff] at hf
  rw [Fold.signal256_fits hfits]
  simp only [Fold.clear_iff, Fold.balance, hvalue]
  omega

theorem Fold.consume256_balance (hf : f.clear) (hsat : (f.consume256 n).1.deficitSat = false) :
    (f.consume256 n).1.clear ∧ (f.consume256 n).1.balance = f.balance - n := by
  rw [Fold.clear_iff] at hf
  by_cases hholds : n ≤ f.value.toNat
  · rw [Fold.consume256_holds hholds]
    simp only [Fold.clear_iff, Fold.balance, value_sub_toNat hholds]
    omega
  · rw [Fold.consume256_lacks (not_le.1 hholds)] at hsat ⊢
    have hfits : ¬ 65535 < f.deficit + (n - f.value.toNat) := by simpa using (Bool.or_eq_false_iff.1 hsat).2
    refine ⟨.inl rfl, ?_⟩
    have hzero : ((0 : BitVec 32).toNat : Int) = 0 := rfl
    simp only [Fold.balance, hzero, min_eq_left (not_lt.1 hfits)]
    omega

theorem Fold.move256_balance (hf : f.clear) (hroom : (f.move256 o).value.toNat < tallyMax)
    (hsat : (f.move256 o).deficitSat = false) :
    (f.move256 o).clear ∧ (f.move256 o).balance = f.balance + balanceMove o := by
  obtain ⟨signal, n⟩ := o
  cases signal with
  | true => exact Fold.signal256_balance hf hroom
  | false => exact Fold.consume256_balance hf hsat

/-- As long as nothing saturates on the way, the balance moves by the sum of what the operations bring. -/
theorem foldl_move256_balance (l : List (Bool × Nat)) (hf : f.clear)
    (hway : ∀ p, p <+: l → (p.foldl Fold.move256 f).value.toNat < tallyMax ∧
      (p.foldl Fold.move256 f).deficitSat = false) :
    (l.foldl Fold.move256 f).clear ∧ (l.foldl Fold.move256 f).balance = f.balance + (l.map balanceMove).sum := by
  induction l generalizing f with
  | nil => exact ⟨hf, by simp⟩
  | cons o l ih =>
    obtain ⟨hroom, hsat⟩ := hway [o] ⟨l, rfl⟩
    obtain ⟨hclear, hbalance⟩ := Fold.move256_balance hf hroom hsat
    obtain ⟨hlast, hsum⟩ := ih hclear fun p hp => hway (o :: p) (List.cons_prefix_cons.2 ⟨rfl, hp⟩)
    exact ⟨hlast, hsum.trans (by simp [hbalance, add_assoc])⟩

end

/-- Settles O29: the balance after a list of operations is a sum, which no order changes, and it gives VALUE. -/
theorem tallyOrderFree : Obligations.TallyOrderFree := by
  intro f xs ys run hclear _ hperm hway
  obtain ⟨hx, hxsum⟩ := foldl_move256_balance xs hclear fun p hp => hway p (.inl hp)
  obtain ⟨hy, hysum⟩ := foldl_move256_balance ys hclear fun p hp => hway p (.inr hp)
  have hsum : (xs.map balanceMove).sum = (ys.map balanceMove).sum := (hperm.map balanceMove).sum_eq
  exact hx.eq_of_balance hy (hxsum.trans (hsum ▸ hysum.symm))

end Sys2Proof.Machine
end

section
/-!
PROOFS. The rows of the fold units (R265, R266, R273, R274, R276, R281, R283, R286, R421): the queues, the waiters, the
error in a fold's state and the dump.
-/

namespace Sys2Proof.Machine

section
variable {s : State}

theorem next_live {f : State → State} {t : State} (hready : s.ready = true) (h : f s = t) :
    (Host.Outcome.next (s.live f) : Host.Outcome State Fault Refusal) = .next t.settle := by
  rw [State.live_of_ready hready, h]

/-! ### The head of a queue (R265, R266, R283) -/

/-- The origin of an operation that has been applied is answered: a port's request ends, and a MARK that was refused is
counted. A command, a flag and a link go by the fold alone. -/
def State.answerOrigin (s : State) (o : FoldOp) (st : Status) (token : BitVec 32) : State :=
  match o.origin with
  | .port req =>
    match s.outst? req with
    | some q => (s.answer q st token).pump q.port
    | none => s
  | .mark cl pop => if st = Status.ok ∨ st = Status.saturated then s else s.markBad cl pop
  | _ => s

/-- The head of a queue is applied and answered; its fold is freed where nothing is left to answer, and ports go on. -/
def State.takeHead (s : State) (k : Nat) (o : FoldOp) (rest : List FoldOp) : State :=
  let r := (s.onFolds fun u => { u with queues := u.queues.set k rest }).foldApply o
  ((r.2.2.answerOrigin o r.1 r.2.1).freeDying (k * 2048 + o.index)).pumpAll

section
variable {k : Nat} {o : FoldOp} {rest : List FoldOp} (hqueue : s.folds.queues.get [] k = o :: rest)
include hqueue

theorem State.foldHead_takes : s.foldHead k = s.takeHead k o rest := by
  unfold State.foldHead
  rw [hqueue]
  rfl

/-- The row of an operation's own kind takes it from the head of its queue. -/
theorem State.foldStep_takes {op : Nat} (hready : s.ready = true) (hrun : s.inRun k = true) (hop : o.op = op) :
    s.foldStep k op = s.takeHead k o rest := by
  unfold State.foldStep
  rw [hqueue]
  exact (if_pos ⟨hop, hready, hrun⟩).trans (State.foldHead_takes hqueue)

end

/-! ### The wake sequencer (R273, R276) -/

theorem State.endWaiter_cmd (s : State) (w : Waiter) (st : Status) : (s.endWaiter w st).cmd = s.cmd := by
  unfold State.endWaiter
  dsimp only
  split <;> rfl

section
variable {k : Nat} {w : Waiter} (hrun : s.inRun k = true) (hwake : s.nextWake k = some w)
include hrun hwake

theorem State.wakeEnd_port {p : Nat} {token : BitVec 32} (hwho : w.who = .port p token) :
    s.wakeEnd k = (s.endWaiter w (w.ended.getD .wake)).oweWake p token (w.ended.getD .wake) := by
  simp only [State.wakeEnd, hrun, hwake, hwho, Bool.not_true, Bool.false_eq_true, if_false]

theorem State.wakeEnd_ring {n slot token : Nat} {d : Deferred} (hwho : w.who = .ring n slot token)
    (hfind : s.cmd.deferred.find? (fun d => d.token == token) = some d) :
    s.wakeEnd k =
      ((s.endWaiter w (w.ended.getD .wake)).onFolds fun u =>
        { u with ringSlots := u.ringSlots.modify [] n (·.erase slot) }).finish token d.cmd
          (w.result (w.ended.getD .wake)) := by
  simp only [State.wakeEnd, hrun, hwake, hwho, Bool.not_true, Bool.false_eq_true, if_false, State.onFolds_cmd,
    State.endWaiter_cmd, hfind]

end

/-! ### An uncorrectable error in a fold (R281) -/

theorem State.abandon_live {k : Nat} (st : Status) (h : (s.fold k).state = .active ∨ (s.fold k).state = .error) :
    s.abandon k st =
      ((s.onFold k fun f => { f with state := .abandoned }).endWaiters k st).foldEvent
        (if st = .remoteLost then 5 else 3) k :=
  if_pos h

theorem State.foldStateUe_live {c i : Nat} (hc : s.hasCluster c = true) (hi : i < 2048) (hrun : s.inRun c = true)
    (h : (s.fold (2048 * c + i)).state = .active ∨ (s.fold (2048 * c + i)).state = .error) :
    s.foldStateUe c i =
      ((((s.onFold (2048 * c + i) fun f => { f with state := .abandoned }).endWaiters (2048 * c + i) .abandoned).foldEvent
        3 (2048 * c + i)).foldEvent 7 (2048 * c + i)).report
          { code := 0x1A, cluster := c, detail := some (BitVec.ofNat 32 (2048 * c + i)) } := by
  unfold State.foldStateUe
  rw [if_pos ⟨hc, hi, hrun, h⟩, State.abandon_live .abandoned h]
  rfl

/-! ### The next record of a dump (R286, R421) -/

section
variable {d : Dump}

/-- The record finds a free value in its fold, and nothing else of the block is touched (log entry 50). -/
theorem State.foldCorrects_reads {α : Type} {f : State → α}
    (hf : ∀ (t : State) l n, f { t with folds := { t.folds with folds := l }, fresh := n } = f t) (s : State) (k : Nat) :
    f (s.foldCorrects k) = f s := by
  unfold State.foldCorrects
  split
  · rfl
  · exact hf s _ _

theorem State.foldDumpRecord_of_find (hfind : s.folds.dumps.find? (fun d => !s.dumpPaused d) = some d) :
    s.foldDumpRecord = s.dumpStep d := by
  simp only [State.foldDumpRecord, hfind]

section
variable (hnext : d.next ≠ s.foldCount) (hrun : s.inRun (d.next / 2048) = true)
include hnext hrun

theorem State.dumpStep_toMemory (hmem : d.cmd.dumpSvc = false) :
    s.dumpStep d = (s.foldCorrects d.next).dumpToMemory d := by
  simp [State.dumpStep, hnext, hrun, hmem]

theorem State.dumpStep_toSvc (hsvc : d.cmd.dumpSvc = true) :
    s.dumpStep d = (s.foldCorrects d.next).dumpToSvc d := by
  simp [State.dumpStep, hnext, hrun, hsvc]

end

/-- The address of the next record of a dump to memory (Table 9-11). -/
def Dump.place (d : Dump) : Nat := d.cmd.par 8 5 + 64 + 32 * d.next

/-- The record that is due can be written: the clusters of the ranges are in RUN, and no piece orders an access to their
rows. -/
def State.dumpOpen (s : State) (spans : List (Nat × Nat)) : Prop :=
  s.sleeping (spans.flatMap fun x => s.clustersOf x.1 x.2) = [] ∧ ∀ x ∈ spans, s.spanFree x.1 x.2 true = true

theorem State.dumpOpen_one {x : Nat × Nat} :
    s.dumpOpen [x] ↔ s.sleeping (s.clustersOf x.1 x.2) = [] ∧ s.spanFree x.1 x.2 true = true := by
  simp [State.dumpOpen]

theorem State.dumpOpen_two {x y : Nat × Nat} :
    s.dumpOpen [x, y] ↔ s.sleeping (s.clustersOf x.1 x.2 ++ s.clustersOf y.1 y.2) = [] ∧
      s.spanFree x.1 x.2 true = true ∧ s.spanFree y.1 y.2 true = true := by
  simp [State.dumpOpen]

theorem State.foldCorrects_dumpOpen (s : State) (k : Nat) (spans : List (Nat × Nat)) :
    (s.foldCorrects k).dumpOpen spans ↔ s.dumpOpen spans :=
  iff_of_eq (State.foldCorrects_reads (f := fun t => t.dumpOpen spans) (fun _ _ _ => rfl) s k)

section
variable (hcut : s.cut d.token = none)
include hcut

theorem State.dumpToMemory_middle (hfirst : d.next ≠ 0) (hlast : d.next + 1 ≠ s.foldCount)
    (hopen : s.dumpOpen [(d.place, 32)]) :
    s.dumpToMemory d = (s.initWrite d.place (s.dumpRecord d.next)).onDump d.token fun e =>
      { e with next := e.next + 1 } := by
  obtain ⟨hawake, hfree⟩ := State.dumpOpen_one.1 hopen
  rw [Dump.place] at hawake hfree
  simp [State.dumpToMemory, Dump.place, hcut, hfirst, hlast, hawake, hfree]

theorem State.dumpToMemory_first (hfirst : d.next = 0) (hlast : s.foldCount ≠ 1)
    (hopen : s.dumpOpen [(d.place, 32), (d.cmd.par 8 5, 64)]) :
    s.dumpToMemory d =
      let u := s.initWrite (d.cmd.par 8 5) s.dumpHeader
      (u.initWrite d.place (u.dumpRecord 0)).onDump d.token fun e => { e with next := e.next + 1 } := by
  obtain ⟨hawake, hrecord, hheader⟩ := State.dumpOpen_two.1 hopen
  rw [Dump.place, hfirst] at hawake hrecord
  simp [State.dumpToMemory, Dump.place, hcut, hfirst, hlast.symm, hawake, hrecord, hheader]

theorem State.dumpToMemory_last (hfirst : d.next ≠ 0) (hlast : d.next + 1 = s.foldCount)
    (hopen : s.dumpOpen [(d.place, 32), (d.cmd.par 8 5, 64)]) :
    s.dumpToMemory d =
      let u := s.initWrite d.place (s.dumpRecord d.next)
      (u.initWrite (d.cmd.par 8 5 + 16) (toBytes 8 u.now.toNat)).endDump d { status := .ok } := by
  obtain ⟨hawake, hrecord, hheader⟩ := State.dumpOpen_two.1 hopen
  rw [Dump.place] at hawake hrecord
  simp [State.dumpToMemory, Dump.place, hcut, hfirst, hlast, hawake, hrecord, hheader]

end

/-- What the next record adds to the outbound queue of SVC, the trailer with the last one (R421). -/
def State.svcOut (s : State) (d : Dump) : List Byte :=
  (s.svcPart d).1 ++ if d.next + 1 = s.foldCount then s.svcTrailer (s.svcPart d).2 else []

theorem State.dumpToSvc_room (hcut : s.cut d.token = none) (hroom : (s.svcOut d).length ≤ s.svcRoom) :
    s.dumpToSvc d = (s.svcPush (s.svcOut d)).onDump d.token fun e =>
      { e with next := e.next + 1, crc := (s.svcPart d).2 } := by
  unfold State.svcOut at hroom ⊢
  by_cases hlast : d.next + 1 = s.foldCount
  · rw [if_pos hlast] at hroom ⊢
    simp only [State.dumpToSvc, hcut, hlast, decide_true, if_true, hroom]
  · rw [if_neg hlast, List.append_nil] at hroom ⊢
    simp only [State.dumpToSvc, hcut, hlast, decide_false, Bool.false_eq_true, if_false, hroom, if_true]

/-! ### How the row of the dump comes out -/

section
variable (hready : s.ready = true) (hfind : s.folds.dumps.find? (fun d => !s.dumpPaused d) = some d)
  (hnext : d.next ≠ s.foldCount) (hrun : s.inRun (d.next / 2048) = true)
include hready hfind hnext hrun

theorem exec_foldDumpRecord_toMemory (hmem : d.cmd.dumpSvc = false) :
    exec .foldDumpRecord s = .next ((s.foldCorrects d.next).dumpToMemory d).settle :=
  next_live hready ((State.foldDumpRecord_of_find hfind).trans (State.dumpStep_toMemory hnext hrun hmem))

theorem exec_foldDumpRecord_toSvc (hsvc : d.cmd.dumpSvc = true) :
    exec .foldDumpRecord s = .next ((s.foldCorrects d.next).dumpToSvc d).settle :=
  next_live hready ((State.foldDumpRecord_of_find hfind).trans (State.dumpStep_toSvc hnext hrun hsvc))

end

end

end

/-- Settles O31: the row of the head's own kind takes it (`State.foldStep_takes`). -/
theorem foldRows : Obligations.FoldRows := fun _ _ _ _ hready hrun hqueue =>
  ⟨fun hop => next_live hready (State.foldStep_takes hqueue hready hrun hop),
    fun hop => next_live hready (State.foldStep_takes hqueue hready hrun hop),
    fun hop => next_live hready (State.foldStep_takes hqueue hready hrun hop),
    fun hop => next_live hready (State.foldStep_takes hqueue hready hrun hop),
    fun hop => next_live hready (State.foldStep_takes hqueue hready hrun hop)⟩

/-- Settles O32: each clause is the branch of its function that the lemmas above name; whether a record can be written
is asked before and after the free value alike (`State.foldCorrects_reads`). -/
theorem waiterRows : Obligations.WaiterRows := by
  intro s hready
  have hcount (k : Nat) : (s.foldCorrects k).foldCount = s.foldCount :=
    State.foldCorrects_reads (f := State.foldCount) (fun _ _ _ => rfl) s k
  have hcuts (k token : Nat) : (s.foldCorrects k).cut token = s.cut token :=
    State.foldCorrects_reads (f := fun t => t.cut token) (fun _ _ _ => rfl) s k
  refine ⟨fun k w p token hrun hwake hwho => ?_, fun k w n slot token d hrun hwake hwho hfind => ?_, fun order => ?_,
    fun c i hc hi hrun hlive => ?_, fun d hfind hnext hrun hmem hcut hlast hfirst hawake hfree => ?_,
    fun d hfind hfirst hsome hmany hrun hmem hcut hawake hrecord hheader => ?_,
    fun d hfind hfirst hlast hrun hmem hcut hawake hrecord hheader => ?_, fun d hfind hnext hrun hsvc hcut => ?_⟩
  · exact next_live hready (State.wakeEnd_port hrun hwake hwho)
  · exact next_live hready (State.wakeEnd_ring hrun hwake hwho hfind)
  · exact next_live hready rfl
  · exact next_live hready (State.foldStateUe_live hc hi hrun hlive)
  · rw [exec_foldDumpRecord_toMemory hready hfind hnext hrun hmem,
      State.dumpToMemory_middle ((hcuts _ _).trans hcut) hfirst.ne' (fun h => hlast (h.trans (hcount _)))
        ((State.foldCorrects_dumpOpen _ _ _).2 (State.dumpOpen_one.2 ⟨hawake, hfree⟩))]
    rfl
  · obtain ⟨token, c, next, crc⟩ := d
    obtain rfl : next = 0 := hfirst
    rw [exec_foldDumpRecord_toMemory hready hfind hsome.symm (by rwa [Nat.zero_div]) hmem,
      State.dumpToMemory_first ((hcuts _ _).trans hcut) rfl (fun h => hmany ((hcount _).symm.trans h))
        ((State.foldCorrects_dumpOpen _ _ _).2 (State.dumpOpen_two.2 ⟨hawake, hrecord, hheader⟩))]
    rfl
  · rw [exec_foldDumpRecord_toMemory hready hfind (by omega) hrun hmem,
      State.dumpToMemory_last ((hcuts _ _).trans hcut) hfirst.ne' (hlast.trans (hcount d.next).symm)
        ((State.foldCorrects_dumpOpen _ _ _).2 (State.dumpOpen_two.2 ⟨hawake, hrecord, hheader⟩))]
    rfl
  · intro t bs crc out hroom
    have hout : t.svcOut d = out := by
      unfold State.svcOut State.svcPart State.dumpBytes
      rw [hcount]
    rw [exec_foldDumpRecord_toSvc hready hfind hnext hrun hsvc,
      State.dumpToSvc_room ((hcuts _ _).trans hcut) (hout ▸ hroom), hout]
    rfl

end Sys2Proof.Machine
end

section
/-!
PROOFS. The fold commands (R259, R260, R262, R263, R266, R276, R283, R284): each acts on the fold that the context's map
names, which neither the acceptance of its packet nor the clusters that it accesses change.
-/

namespace Sys2Proof.Machine

section
variable {s : State} {b : Body} {c : Cmd} {r : Result} {k : Nat}

/-- The fold units start nothing in the command interface. -/
theorem onFolds_still {f : FoldUnit → FoldUnit} (h : s.still) : (s.onFolds f).still := h

/-- A command that ends at once with an effect on the fold units alone. -/
theorem runRow_folds {f : State → FoldUnit} (hb : bodyOf b.code = some b) (h : s.takes b c = true) (hp : b.prompt)
    (hf : b.fetch c (s.touched b c) = none) (hreads : ∀ (t : State) k p, f { t with cmd := k, power := p } = f t)
    (ha : b.act s.cmd.accepted c (s.touched b c) =
      .done r ((s.touched b c).onFolds fun _ => f (s.touched b c))) :
    runRow b c s = ((s.reached b c).onFolds fun _ => f (s.reached b c)).replied c r := by
  have hcmd : (s.touched b c).cmd = (s.given c).cmd :=
    State.reached_eq (f := fun u => (u.given c).cmd) (fun _ _ => rfl) s b c
  have hreply : ((s.reached b c).replied c r).cmd = (s.replied c r).cmd :=
    State.reached_eq (f := fun u => (u.replied c r).cmd) (fun _ _ => rfl) s b c
  have hevents := (onFolds_still (f := fun _ => f (s.touched b c)) (State.reached_still b c (takes_still h))).events
  rw [runRow_done hb h (takes_prompt h hp) hf ha hcmd hevents, ← hreply,
    show f (s.touched b c) = f (s.reached b c) from hreads (s.reached b c) _ (s.reached b c).power]
  rfl

theorem foldOf_touched (s : State) (b : Body) (c : Cmd) : (s.touched b c).foldOf c = s.foldOf c :=
  State.touched_reads (f := fun u => u.foldOf c) (fun _ _ _ => rfl) s b c

theorem fold_touched (s : State) (b : Body) (c : Cmd) (k : Nat) : (s.touched b c).fold k = s.fold k :=
  State.touched_reads (f := fun u => u.fold k) (fun _ _ _ => rfl) s b c

/-! ### FOLD_CREATE (R262) -/

theorem foldCreate_act {e i : Nat} (n : Nat) (he : s.foldEntry c.ctx (c.par 0 2) = some e)
    (hi : s.freeIndex (s.foldHome c) = some i) :
    bodyFoldCreate.act n c s = Act.ok ((s.onFold (s.foldHome c * 2048 + i) fun _ => newFold c e).onFolds fun u =>
      { u with entries := u.entries.set e (s.foldHome c * 2048 + i) }) := by
  simp only [bodyFoldCreate, he, hi]

theorem foldCreate_row {e i : Nat} (h : s.takes bodyFoldCreate c = true)
    (he : s.foldEntry c.ctx (c.par 0 2) = some e) (hi : s.freeIndex (s.foldHome c) = some i) :
    runRow bodyFoldCreate c s =
      (((s.reached bodyFoldCreate c).onFold (s.foldHome c * 2048 + i) fun _ => newFold c e).onFolds fun u =>
        { u with entries := u.entries.set e (s.foldHome c * 2048 + i) }).replied c { status := .ok } := by
  have hreads := State.touched_reads (f := fun u => (u.foldEntry c.ctx (c.par 0 2), u.foldHome c,
    u.freeIndex (u.foldHome c))) (fun _ _ _ => rfl) s bodyFoldCreate c
  simp only [Prod.mk.injEq] at hreads
  obtain ⟨hentry, hhome, hindex⟩ := hreads
  have hact := foldCreate_act s.cmd.accepted (hentry.trans he) (hindex.trans hi)
  rw [hhome] at hact
  exact runRow_folds (f := fun u =>
    { (u.onFold (s.foldHome c * 2048 + i) fun _ => newFold c e).folds with
      entries := u.folds.entries.set e (s.foldHome c * 2048 + i) }) rfl h rfl rfl (fun _ _ _ => rfl) hact

/-! ### The fold that the context's map names (R259, R263, R283 to R285) -/

section
variable (n : Nat) (hk : s.foldOf c = some k)
include hk

theorem foldDestroy_act : bodyFoldDestroy.act n c s = Act.ok (s.foldDestroy k) := by
  simp only [bodyFoldDestroy, hk]

theorem foldArm_act : bodyFoldArm.act n c s =
    Act.ok ((s.onFold k fun f => f.arm (c.par 4 4) (c.par 8 4)).satisfy k) := by
  simp only [bodyFoldArm, hk]

/-- What FOLD_QUERY answers (R285). -/
def Fold.queryResult (f : Fold) : Result :=
  { status := .ok, result := f.value.toNat
    detail := f.state.code + bit f.tally * 8 + bit f.satHi * 16 + bit f.satLo * 32 + bit f.deficitSat * 64 }

theorem foldQuery_act : bodyFoldQuery.act n c s = .done (s.fold k).queryResult s := by
  simp only [bodyFoldQuery, hk]
  rfl

/-- The operation of a FOLD_OP command of number `n` on fold `k` (R263, R266). -/
def Cmd.foldOp (c : Cmd) (n k : Nat) : FoldOp :=
  { origin := .cmd n, op := c.par 2 1, value := c.par 4 4, cluster := k / 2048, index := k % 2048, ctx := c.ctx
    rank := 2 ^ 64 + n }

theorem foldOp_act (hw : c.src.window = true) :
    bodyFoldOp.act n c s =
      let x := (s.foldTurn (c.foldOp n k) n).foldApply (c.foldOp n k)
      .done { status := x.1, result := x.2.1.toNat } x.2.2 := by
  cases hc : c.src with
  | sp =>
    simp only [bodyFoldOp, hk, hc]
    rfl
  | ctl =>
    simp only [bodyFoldOp, hk, hc]
    rfl
  | ring n => simp [hc, Source.window] at hw
  | mbox p x t => simp [hc, Source.window] at hw

end

end

/-- Settles O12: FOLD_MAP, FOLD_CREATE and FOLD_ARM write the fold units and end at once (`runRow_leaves`,
`runRow_folds`), FOLD_QUERY answers, FOLD_DESTROY and FOLD_OP end with what they did at their fold unit, and FOLD_DUMP is
entered as a deferred command. -/
theorem foldCommands : Obligations.FoldCommands := by
  refine fun c s => ⟨fun h => ?_, fun e i h he hi => ?_, fun k h hk => ?_, fun k h hk => ?_, fun k h hk => ?_,
    fun k h hk => ?_, fun h => ?_⟩
  · exact congrArg Host.Outcome.next (runRow_leaves (b := bodyFoldMap) rfl h rfl rfl rfl rfl rfl
      (onFolds_still (takes_given_still h)) :)
  · exact congrArg Host.Outcome.next (foldCreate_row h he hi)
  · exact congrArg Host.Outcome.next (runRow_ends rfl h (takes_prompt h rfl) rfl
      (foldDestroy_act _ ((foldOf_touched s _ c).trans hk)))
  · exact congrArg Host.Outcome.next (runRow_folds (f := fun u =>
      ((u.onFold k fun f => f.arm (c.par 4 4) (c.par 8 4)).satisfy k).folds) rfl h rfl rfl (fun _ _ _ => rfl)
      (foldArm_act _ ((foldOf_touched s _ c).trans hk)))
  · have hact := foldQuery_act s.cmd.accepted ((foldOf_touched s bodyFoldQuery c).trans hk)
    rw [fold_touched] at hact
    exact congrArg Host.Outcome.next (runRow_replied rfl h rfl rfl hact)
  · exact congrArg Host.Outcome.next (runRow_ends rfl h (takes_prompt h rfl) rfl
      (foldOp_act _ ((foldOf_touched s _ c).trans hk) (takes_window h)))
  · have hrow := runRow_goesOn (b := bodyFoldDump) rfl h (takes_defers h) rfl rfl
      (onFolds_still (takes_deferred_still h))
    exact congrArg Host.Outcome.next hrow

end Sys2Proof.Machine
end

section
/-!
PROOFS. The outgoing side of the links (R293 to R296, R306, R307, R309): sending, sending again, the loss of a request, the
end of a port's reset and the level of LINK_UP.
-/

namespace Sys2Proof.Machine

section
variable {s : State} {o : OutReq} {n : Nat}

/-! ### Sending (R293, R296) and sending again (R306) -/

section
variable (hready : s.ready = true) (hport : s.portFor o = some n) (hroom : s.portRoom n o = true)
include hready hport hroom

theorem State.linkSend_sends {chip i : Nat} {d : DestEntry}
    (holdest : s.links.out.find? (fun o => o.chip == chip && o.seq.isNone) = some o) (hdest : s.dest? chip = some (i, d))
    (hset : s.links.chip ≠ 0xFFF) (hinjects : (s.inFlight chip).length < d.inj)
    (hwindow : (d.nextSeq - d.floor).toNat < 1024) :
    s.linkSend chip =
      (s.onDest chip fun e => { e with nextSeq := e.nextSeq + 1 }).sendOut o n d.nextSeq d.floor false := by
  simp only [State.linkSend, hready, holdest, hdest, hset, hport, hinjects, hwindow, hroom, and_self, Bool.not_true,
    Bool.false_eq_true, if_false, if_true]

theorem State.linkResend_sends {req i : Nat} {q : BitVec 16} {d : DestEntry} (hout : s.out? req = some o)
    (hseq : o.seq = some q) (hdest : s.dest? o.chip = some (i, d)) (hdue : o.sentAt + o.interval * 1000 ≤ s.ns)
    (hleft : o.resends < o.limit) : s.linkResend req = s.sendOut o n q d.floor true := by
  simp only [State.linkResend, hready, hout, hseq, hdest, hdue, hleft, hport, hroom, and_self, Bool.not_true,
    Bool.false_eq_true, if_false, if_true]

end

/-! ### Loss (R307), the end of a reset (R309), LINK_UP (R294) -/

theorem State.linkRemoteLost_loses {req : Nat} (hready : s.ready = true) (hout : s.out? req = some o)
    (hlost : s.outLost o = true) : s.linkRemoteLost req = s.remoteLost o := by
  simp only [State.linkRemoteLost, hout, hready, hlost, and_self, if_true]

theorem State.linkResetComplete_ends {token : Nat} {c : Cmd} (hresets : (s.link n).resetting = some (token, c))
    (hgoes : s.cut token = none) (hout : s.sentOn n = []) :
    s.linkResetComplete n = (s.onLink n fun l => { l with resetting := none }).finish token c { status := .ok } := by
  simp only [State.linkResetComplete, hresets, hgoes, hout, if_true]

theorem State.linkUpChange_present {up : Bool} (hn : n < s.cfg.links) :
    s.linkUpChange n up = s.onLink n fun l => { l with up := up } := if_pos hn

end

/-- Settles O41: each row of the running block is the branch of its function that the lemmas above name. -/
theorem linkOutRows : Obligations.LinkOutRows := by
  refine fun s hready => ⟨fun chip o i d n holdest hdest hset hport hinjects hwindow hroom => ?_,
    fun req o q i d n hout hseq hdest hdue hleft hport hroom => ?_, fun req o hout hlost => ?_,
    fun n token c hresets hgoes hout => ?_, fun n up hn => ?_⟩
  · exact next_live hready (State.linkSend_sends hready hport hroom holdest hdest hset hinjects hwindow)
  · exact next_live hready (State.linkResend_sends hready hport hroom hout hseq hdest hdue hleft)
  · exact next_live hready (State.linkRemoteLost_loses hready hout hlost)
  · exact next_live hready (State.linkResetComplete_ends hresets hgoes hout)
  · exact congrArg Host.Outcome.next (State.linkUpChange_present hn)

end Sys2Proof.Machine
end

section
/-!
PROOFS. The commands of the links and of integrity (R291, R292, R306, R309, R320 to R322, R329, R330, R334, R340): the writes of
the link registers, the reset of a link port, and what becomes of scrubbers, patches, lanes and flip masks.
-/

namespace Sys2Proof.Machine

section
variable {s : State} {b : Body} {c : Cmd} {r : Result}

/-! ### The links (R291, R292, R306, R309) -/

/-- The link ports start nothing in the command interface. -/
theorem onLinks_still {f : Links → Links} (h : s.still) : (s.onLinks f).still := h

theorem onLink_still {n : Nat} {f : LinkPort → LinkPort} (h : s.still) : (s.onLink n f).still := h

/-- LINK_RESET is entered as a deferred command, and its port's reset begins. -/
theorem linkReset_row (h : s.takes bodyLinkReset c = true) :
    runRow bodyLinkReset c s =
      ((s.deferred bodyLinkReset c).beginLinkReset (c.par 0 1) s.cmd.accepted c).carryOn :=
  runRow_deferred rfl h (takes_defers h) rfl

/-! ### Lanes (R320 to R322) -/

/-- What LANE_RETIRE does to a lane: it returns to service, or is retired if it is not yet. -/
def State.setLane (s : State) (g lane : Nat) (back : Bool) : State :=
  if back then s.returnLane g lane
  else if (s.retired g).contains lane then s
  else s.retireLane g lane

theorem State.given_retireLane (s : State) (c : Cmd) (g lane : Nat) :
    (s.given c).retireLane g lane = (s.retireLane g lane).given c := by
  unfold State.retireLane
  rw [show (s.given c).bank g = s.bank g from rfl]
  dsimp only
  split <;> rfl

theorem State.retireLane_integ (s : State) (g lane : Nat) : { s.retireLane g lane with integ := s.integ } = s := by
  unfold State.retireLane
  dsimp only
  split <;> rfl

theorem State.given_setLane (s : State) (c : Cmd) (g lane : Nat) (back : Bool) :
    (s.given c).setLane g lane back = (s.setLane g lane back).given c := by
  unfold State.setLane
  rw [State.given_retireLane, show (s.given c).retired g = s.retired g from rfl]
  split
  · rfl
  · split <;> rfl

theorem State.setLane_integ (s : State) (g lane : Nat) (back : Bool) :
    { s.setLane g lane back with integ := s.integ } = s := by
  unfold State.setLane
  split
  · rfl
  · split
    · rfl
    · exact s.retireLane_integ g lane

/-! ### How the commands of integrity come out -/

/-- A command that ends at once, with an effect on the integrity registers alone. -/
theorem runRow_integ {e : State → State} (hb : bodyOf b.code = some b) (h : s.takes b c = true) (hp : b.prompt)
    (hf : b.fetch c (s.touched b c) = none)
    (ha : b.act s.cmd.accepted c (s.touched b c) = .done r (e (s.touched b c)))
    (hgiven : ∀ u : State, e (u.given c) = (e u).given c) (hframe : ∀ u : State, { e u with integ := u.integ } = u) :
    runRow b c s = (e (s.reached b c)).replied c r := by
  have hreads {α : Type} (f : State → α) (hinteg : ∀ (t : State) i, f { t with integ := i } = f t) (u : State) :
      f (e u) = f u := (hinteg (e u) u.integ).symm.trans (congrArg f (hframe u))
  have hcmd : (e (s.touched b c)).cmd = (s.given c).cmd :=
    (hreads State.cmd (fun _ _ => rfl) _).trans (State.reached_eq (f := fun u => (u.given c).cmd) (fun _ _ => rfl) s b c)
  have hreply : ((e (s.reached b c)).replied c r).cmd = (s.replied c r).cmd :=
    (hreads (fun u => (u.replied c r).cmd) (fun _ _ => rfl) _).trans
      (State.reached_eq (f := fun u => (u.replied c r).cmd) (fun _ _ => rfl) s b c)
  have hevents : (e (s.touched b c)).eventsStill = true :=
    (hreads State.eventsStill (fun _ _ => rfl) _).trans (State.reached_still b c (takes_still h)).events
  rw [runRow_done hb h (takes_prompt h hp) hf ha hcmd hevents, ← hreply, State.touched, hgiven]
  rfl

theorem laneRetire_row (h : s.takes bodyLaneRetire c = true) :
    runRow bodyLaneRetire c s =
      ((s.reached bodyLaneRetire c).setLane (c.par 0 1) (c.par 1 1) (c.flag 2 0)).replied c { status := .ok } :=
  runRow_integ (e := fun u => u.setLane (c.par 0 1) (c.par 1 1) (c.flag 2 0)) rfl h rfl rfl rfl
    (fun u => u.given_setLane c _ _ _) fun u => u.setLane_integ _ _ _

theorem retired_reached (s : State) (b : Body) (c : Cmd) (g : Nat) : (s.reached b c).retired g = s.retired g :=
  State.reached_eq (f := fun u => u.retired g) (fun _ _ => rfl) s b c

/-- The banks that SCRUB_SET names, of some clusters (R334). -/
def scrubBanks (c : Cmd) (ks : List Nat) : List Nat :=
  ks.flatMap fun k => ((List.range 16).filter (fun b => bitOf (c.par 2 2) b)).map (fun b => 16 * k + b)

theorem scrubSet_row (h : s.takes bodyScrubSet c = true) :
    runRow bodyScrubSet c s =
      ((scrubBanks c (clusterField c s)).foldl
        (fun t g => t.scrubSet (c.flag 4 0) (BitVec.ofNat 24 (c.par 8 4)) g)
        ((s.reached bodyScrubSet c).given c)).ends s.cmd.accepted c { status := .ok } :=
  runRow_reads (f := clusterField c)
    (e := fun ks u => (scrubBanks c ks).foldl
      (fun t g => t.scrubSet (c.flag 4 0) (BitVec.ofNat 24 (c.par 8 4)) g) u)
    (g := fun _ => { status := .ok }) rfl h rfl rfl (fun _ => rfl) (fun _ _ _ => rfl)

end

/-- Settles O15: EPOCH_SET and RETRY_SET write the links, LANE_RETIRE, FLIP_ARM and FLIP_MASK_SET the integrity registers,
and all five end at once (`runRow_leaves`, `runRow_integ`); CHIP_ID_SET, SCRUB_SET and PATCH_SET end with what they
did, and LINK_RESET goes on. -/
theorem linkAndIntegrityCommands : Obligations.LinkAndIntegrityCommands := by
  refine ⟨fun c s => ⟨fun h => ?_, fun h => ?_, fun h => ?_, fun h => ?_⟩,
    fun c s => ⟨fun h => ?_, fun h => ?_, fun h => ?_, fun h => ?_, fun h => ?_⟩⟩
  · exact congrArg Host.Outcome.next (runRow_ends_given (b := bodyChipIdSet) rfl h rfl rfl rfl rfl)
  · exact congrArg Host.Outcome.next (runRow_leaves (b := bodyEpochSet) rfl h rfl rfl rfl rfl rfl
      (onLinks_still (takes_given_still h)) :)
  · exact congrArg Host.Outcome.next (runRow_leaves (b := bodyRetrySet) rfl h rfl rfl rfl rfl rfl
      (onLink_still (takes_given_still h)) :)
  · exact congrArg Host.Outcome.next (linkReset_row h)
  · exact congrArg Host.Outcome.next (scrubSet_row h)
  · exact congrArg Host.Outcome.next (runRow_ends (b := bodyPatchSet) rfl h (takes_prompt h rfl) rfl rfl)
  · have hrow := laneRetire_row h
    unfold State.setLane at hrow
    rw [retired_reached] at hrow
    exact congrArg Host.Outcome.next hrow
  · exact congrArg Host.Outcome.next (runRow_integ (b := bodyFlipArm)
      (e := fun u => u.armFlip (c.par 0 1) (BitVec.ofNat 288 (c.par 4 36))) rfl h rfl rfl rfl (fun _ => rfl) fun _ => rfl)
  · exact congrArg Host.Outcome.next (runRow_integ (b := bodyFlipMaskSet)
      (e := fun u => u.armFlip (c.par 0 1) (BitVec.ofNat 288 (c.par 4 36))) rfl h rfl rfl rfl (fun _ => rfl) fun _ => rfl)

end Sys2Proof.Machine
end

section
/-!
PROOFS. What reset leaves (R458): the registers of the ports, the sub-ports and the urgency lines, each over the numbers that
TM-256 has, and those of which there is one.
-/

namespace Sys2Proof.Machine

/-- The register at an address reads a value after reset. -/
def ResetReads (addr v : Nat) : Prop := (State.reset.regRead (BitVec.ofNat 24 addr)).1 = v

theorem reset_ports_read (p : Nat) (hp : p < 65) :
    ResetReads (0x011000 + 4 * p) 0x88888888 ∧ ResetReads (0x012400 + 4 * p) 15 ∧
      ResetReads (0x020000 + 0x20 * p) 0x040408 := by
  unfold ResetReads
  revert p
  decide

theorem reset_subs_read (n : Nat) (hn : n < 64) :
    ResetReads (0x012000 + 0x10 * n) 0x00020002 ∧ ResetReads (0x012008 + 0x10 * n) 8 := by
  unfold ResetReads
  revert n
  decide

theorem reset_urgency_reads (n : Nat) (hn : n < 8) : ResetReads (0x021000 + 4 * n) 0x8420 := by
  unfold ResetReads
  revert n
  decide

/-- The registers of the block of which there is one. -/
theorem reset_block_reads :
    ResetReads 0x022000 62000 ∧ ResetReads 0x022004 0x5F6E5F ∧ ResetReads 0x040000 0xFFF ∧ ResetReads 0x05040C 0x10 ∧
      ResetReads 0x050418 1000 ∧ ResetReads 0x05041C 0x6403E8 := by
  unfold ResetReads
  decide

theorem reset_safety_reads :
    ResetReads 0x800000 0x03000000 ∧ ResetReads 0x800004 0x55 ∧ ResetReads 0x800008 0xFFFFFFFF ∧
      ResetReads 0x80001C 0x1F :=
  ⟨rfl, rfl, rfl, rfl⟩

/-- Settles O57: the arrays are unwritten, the fields and the lines are constants of the reset state, and the registers
read what the lemmas above say. -/
theorem resetState : Obligations.ResetState := by
  obtain ⟨hlimit, htherm, hchip, htime, htiming, hlimits⟩ := reset_block_reads
  exact ⟨rfl, rfl, rfl, rfl, rfl, rfl, rfl, rfl, rfl, rfl, rfl, reset_ports_read, reset_subs_read,
    reset_urgency_reads, hlimit, htherm, hchip, htime, htiming, hlimits, reset_safety_reads⟩

end Sys2Proof.Machine
end

section
/-!
PROOFS. The commands of power and time (R364, R370, R371, R378 to R383, R385): those that end at once write the time base and
the power controller alone; OPPOINT_SET to the other point goes on.
-/

namespace Sys2Proof.Machine

/-! ### A flag that is set -/

theorem bitOf_setBit {n : Nat} (w : BitVec n) (i j : Nat) (hi : i < n) :
    bitOf (setBit w i).toNat j = (bitOf w.toNat j || decide (i = j)) := by
  have hpow : 2 ^ i < 2 ^ n := Nat.pow_lt_pow_right (by decide) hi
  simp only [bitOf, setBit, BitVec.toNat_or, BitVec.toNat_ofNat, Nat.mod_eq_of_lt hpow, Nat.testBit_or,
    Nat.testBit_two_pow]

theorem State.powerEvent_flag (s : State) {i : Nat} (cluster step : Nat) (hi : i < 9) :
    bitOf (s.powerEvent i cluster step).power.irq.toNat i = true := by
  simp only [State.powerEvent, State.onPower_power]
  rw [bitOf_setBit _ _ _ hi, decide_eq_true rfl, Bool.or_true]

/-! ### How the commands come out -/

section
variable {s : State} {b : Body} {c : Cmd} {r : Result}

/-- A command that ends at once, with a write of the time base and of the power controller. -/
theorem runRow_timePower {f : TimeBase → TimeBase} {g : Power → Power} (hb : bodyOf b.code = some b)
    (h : s.takes b c = true) (hp : b.prompt) (htouch : b.touches c (s.given c) = []) (hf : b.fetch c (s.given c) = none)
    (ha : b.act s.cmd.accepted c (s.given c) = .done r (((s.given c).onTime f).onPower g)) :
    runRow b c s = ((s.onTime f).onPower g).replied c r :=
  (runRow_leaves hb h hp htouch hf ha rfl (takes_given_still h :) :)

@[simp] theorem State.onTimer_cmd (s : State) (who : Nat) (f : TimerWake → TimerWake) : (s.onTimer who f).cmd = s.cmd := by
  unfold State.onTimer
  split <;> rfl

theorem onTimer_still {who : Nat} {f : TimerWake → TimerWake} (h : s.still) : (s.onTimer who f).still := by
  unfold State.onTimer
  split <;> exact h

/-- The window that gave a command has no part in the timers. -/
theorem State.onTimer_replied (s : State) (c : Cmd) (r : Result) (who : Nat) (f : TimerWake → TimerWake) :
    { (s.given c).onTimer who f with cmd := (s.replied c r).cmd } = (s.onTimer who f).replied c r := by
  unfold State.onTimer
  split <;> rfl

theorem timerWakeSet_row (h : s.takes bodyTimerWakeSet c = true) :
    runRow bodyTimerWakeSet c s =
      (s.onTimer (c.par 0 1) fun _ =>
        { target := BitVec.ofNat 64 (c.par 8 8), en := c.flag 1 0, setAt := s.clock.acks }).replied c
        { status := .ok } :=
  (runRow_leaves rfl h rfl rfl rfl rfl (State.onTimer_cmd ..) (onTimer_still (takes_given_still h))).trans
    (s.onTimer_replied c ..)

/-- OPPOINT_SET ends at once where the point is in force, and else goes on as a deferred command (R378). -/
theorem oppointSet_row (h : s.takes bodyOppointSet c = true) :
    runRow bodyOppointSet c s =
      if (c.par 0 1 == 1) = s.power.eco then s.replied c { status := .ok }
      else ((s.deferred bodyOppointSet c).beginOpp s.cmd.accepted c (c.par 0 1 == 1)).carryOn := by
  have hnone : s.reached bodyOppointSet c = s := State.reached_none rfl
  by_cases hpoint : (c.par 0 1 == 1) = s.power.eco
  · rw [if_pos hpoint, runRow_deferred_replied rfl h (takes_defers h) rfl (if_pos (by rw [hnone]; exact hpoint)), hnone]
  · have hact : bodyOppointSet.act s.cmd.accepted c (s.deferred bodyOppointSet c) =
        .running ((s.deferred bodyOppointSet c).beginOpp s.cmd.accepted c (c.par 0 1 == 1)) := if_neg hpoint
    rw [if_neg hpoint, runRow_deferred rfl h (takes_defers h) rfl, hnone, hact]

/-! ### TIME_SET (R383) -/

/-- What TIME_SET writes of the time base. -/
def TimeBase.setBy (c : Cmd) (t : TimeBase) : TimeBase :=
  { t with now := BitVec.ofNat 96 (c.par 0 8 * 2 ^ 32), unset := false, lost := false, extrapolated := false
           unc := if c.flag 8 0 then 0 else t.unc }

/-- TIME takes the parameter, whose 8 bytes fill its whole units. -/
theorem TimeBase.setBy_now (c : Cmd) (t : TimeBase) : (t.setBy c).now.toNat = c.par 0 8 * 2 ^ 32 := by
  have hpar : c.par 0 8 < 2 ^ 64 := bitsOf_lt _ _ _
  have hunits : c.par 0 8 * 2 ^ 32 < 2 ^ 96 := by omega
  exact (BitVec.toNat_ofNat _ _).trans (Nat.mod_eq_of_lt hunits)

theorem timeSet_row (h : s.takes bodyTimeSet c = true) :
    runRow bodyTimeSet c s = ((s.onTime (TimeBase.setBy c)).powerEvent 8 0xF 0).replied c { status := .ok } :=
  runRow_timePower rfl h rfl rfl rfl rfl

end

/-- Settles O60: the state that TIME_SET leaves shows what it wrote, and the rest is the window's answer. -/
theorem timeSet : Obligations.TimeSet := fun c s h =>
  ⟨((s.onTime (TimeBase.setBy c)).powerEvent 8 0xF 0).replied c { status := .ok },
    congrArg Host.Outcome.next (timeSet_row h), s.time.setBy_now c, rfl, rfl, rfl, rfl,
    State.powerEvent_flag _ 0xF 0 (by decide), rfl⟩

/-- Settles O16: PWR_STATE_SET and IDLE_TIMER_SET end with what they did; TSYNC_CFG, WAKE_AIN_CFG and TIMER_WAKE_SET write
what starts nothing in the command interface (`runRow_leaves`); the queries write nothing; OPPOINT_SET asks for the point
in force. -/
theorem powerAndTimeCommands : Obligations.PowerAndTimeCommands := by
  refine ⟨fun c s => ⟨fun h => ?_, fun h => ?_, fun h => ?_, fun h => ?_⟩,
    fun c s => ⟨fun h => ?_, fun h => ?_, fun h => ?_, fun h => ?_⟩⟩
  · exact congrArg Host.Outcome.next (runRow_ends_given (b := bodyPwrStateSet) rfl h rfl rfl rfl rfl)
  · exact congrArg Host.Outcome.next (runRow_ends_given (b := bodyIdleTimerSet) rfl h rfl rfl rfl rfl)
  · exact congrArg Host.Outcome.next (oppointSet_row h)
  · exact congrArg Host.Outcome.next (runRow_replied_given (b := bodyPwrQuery) rfl h rfl rfl rfl rfl)
  · exact congrArg Host.Outcome.next (runRow_replied_given (b := bodyTimeQuery) rfl h rfl rfl rfl rfl)
  · exact congrArg Host.Outcome.next (runRow_leaves (b := bodyTsyncCfg) rfl h rfl rfl rfl rfl rfl
      (takes_given_still h) :)
  · exact congrArg Host.Outcome.next (runRow_leaves (b := bodyWakeAinCfg) rfl h rfl rfl rfl rfl rfl
      (takes_given_still h) :)
  · exact congrArg Host.Outcome.next (timerWakeSet_row h)

end Sys2Proof.Machine
end

section
/-!
PROOFS. The ledger (R412, R413): a new entry and the one that it overwrites, and an occurrence that the newest entry counts.
-/

namespace Sys2Proof.Machine

/-! ### A new entry (R412) -/

/-- The place of the next entry holds one of NOTIFY or above that is not acknowledged. -/
def Safety.overwrites (y : Safety) : Bool :=
  (y.ledger.find? ((y.head + 1).toNat % 1024)).any fun e => decide (1 ≤ e.reaction) && !y.acked e

/-- What a report is as an entry of the ledger. -/
def State.entryOf (s : State) (f : FaultInfo) (level : Nat) : LedgerEntry :=
  { seq := s.safety.head + 1, time := s.now, code := f.code, reaction := level, inHold := s.safety.hold
    cluster := f.cluster, bank := f.bank, port := f.port, detail := (s.entryDetail f).1
    lastTime := s.now.setWidth 32 }

/-- SAFE_IRQ_STATUS after an occurrence of a level: NOTIFY, and OVERRUN where it overwrites an entry. -/
def noticed (irq : BitVec 5) (lost : Bool) (level : Nat) : BitVec 5 :=
  (if lost then irq ||| 8 else irq) ||| (if 1 ≤ level then 1 else 0)

theorem noticed_notify (irq : BitVec 5) (lost : Bool) {level : Nat} (h : 1 ≤ level) :
    bitOf (noticed irq lost level).toNat 0 = true := by
  simp [noticed, bitOf, h]

theorem noticed_overrun (irq : BitVec 5) (lost : Bool) (level : Nat) :
    bitOf (noticed irq lost level).toNat 3 = (bitOf irq.toNat 3 || lost) := by
  have hnotify : (if 1 ≤ level then (1 : BitVec 5) else 0).toNat.testBit 3 = false := by split <;> decide
  unfold noticed bitOf
  rw [BitVec.toNat_or, Nat.testBit_or, hnotify, Bool.or_false]
  cases lost with
  | false => exact (Bool.or_false _).symm
  | true => exact (congrArg (Nat.testBit · 3) (BitVec.toNat_or irq 8)).trans (Nat.testBit_or ..)

theorem State.newEntry_safety (s : State) (f : FaultInfo) (level : Nat) :
    (s.newEntry f level).safety = { s.safety with
      head := s.safety.head + 1
      ledger := s.safety.ledger.set ((s.safety.head + 1).toNat % 1024) (s.entryOf f level)
      overrun := if s.safety.overwrites then satAdd 0xFFFF s.safety.overrun 1 else s.safety.overrun
      irq := noticed s.safety.irq s.safety.overwrites level } := by
  have hlost : s.safety.overwrites =
      (match s.safety.ledger.find? ((s.safety.head + 1).toNat % 1024) with
        | some e => decide (1 ≤ e.reaction) && !s.safety.acked e
        | none => false) := by
    unfold Safety.overwrites
    cases s.safety.ledger.find? ((s.safety.head + 1).toNat % 1024) <;> rfl
  unfold State.newEntry State.entryOf State.entryDetail
  rw [hlost]
  cases f.detail <;> rfl

theorem State.newEntry_mem (s : State) (f : FaultInfo) (level : Nat) : (s.newEntry f level).mem = s.mem := by
  unfold State.newEntry State.entryDetail
  cases f.detail <;> rfl

theorem State.entryOf_detail (s : State) {f : FaultInfo} (level : Nat) {d : BitVec 32} (h : f.detail = some d) :
    (s.entryOf f level).detail = d := by
  simp only [State.entryOf, State.entryDetail, h]

theorem Safety.overwrites_of_unacked {y : Safety} {e : LedgerEntry}
    (he : y.ledger.find? ((y.head + 1).toNat % 1024) = some e) (hlevel : 1 ≤ e.reaction) (hack : y.acked e = false) :
    y.overwrites = true := by
  unfold Safety.overwrites
  rw [he]
  simp [hlevel, hack]

theorem Safety.overwrites_not {y : Safety}
    (h : ∀ e, y.ledger.find? ((y.head + 1).toNat % 1024) = some e → e.reaction = 0 ∨ y.acked e = true) :
    y.overwrites = false := by
  unfold Safety.overwrites
  rw [Option.any_eq_false]
  intro e he
  rcases h e he with hlog | hack
  · simp [hlog]
  · simp [hack]

/-! ### An occurrence that is recorded (R413) -/

theorem State.record_new {s : State} {f : FaultInfo} (level : Nat)
    (h : ∀ e, s.safety.newest = some e → s.safety.coalesces s.now f e = false) :
    s.record f level = s.newEntry f level := by
  unfold State.record
  cases hnewest : s.safety.newest with
  | none => rfl
  | some e => exact if_neg (by simp [h e hnewest])

theorem State.record_coalesces {s : State} {f : FaultInfo} {e : LedgerEntry} (level : Nat)
    (hnewest : s.safety.newest = some e) (h : s.safety.coalesces s.now f e = true) :
    s.record f level = s.coalesce e level := by
  simp only [State.record, hnewest, h, if_true]

/-- Settles O51: what is no occurrence of the newest entry becomes the entry that `State.newEntry_safety` says, and one
that is like it changes that entry. -/
theorem ledgerEntry : Obligations.LedgerEntry := by
  intro f level s
  dsimp only
  refine ⟨fun hnew => ?_, fun e hnewest hcode hcluster hbank hport hstep hbad hack hsoon => ?_⟩
  · rw [State.record_new level hnew, State.newEntry_safety, State.newEntry_mem]
    refine ⟨rfl, ⟨s.entryOf f level, by rw [Tbl.find?_set, if_pos rfl], rfl, rfl, rfl, rfl, rfl, rfl, rfl, rfl,
      fun d hd => s.entryOf_detail level hd⟩, fun j hj => by rw [Tbl.find?_set, if_neg hj],
      fun hlevel => noticed_notify _ _ hlevel, rfl, fun e he hlevel hack => ?_, fun hkeeps => ?_⟩
    · have hlost := Safety.overwrites_of_unacked he hlevel hack
      exact ⟨if_pos hlost, by rw [noticed_overrun, hlost, Bool.or_true]⟩
    · have hlost := Safety.overwrites_not hkeeps
      exact ⟨if_neg (by simp [hlost]), by rw [noticed_overrun, hlost, Bool.or_false]⟩
  · have hlike : s.safety.coalesces s.now f e = true := by
      unfold Safety.coalesces
      rw [decide_eq_true ⟨hcode, hcluster, hbank, hport⟩, hstep, hbad, decide_eq_true hsoon, hack]
      rfl
    rw [State.record_coalesces level hnewest hlike]
    exact ⟨rfl, rfl, by rw [State.coalesce, State.onSafety_safety, Tbl.find?_set, if_pos rfl],
      fun j hj => by rw [State.coalesce, State.onSafety_safety, Tbl.find?_set, if_neg hj],
      fun hlevel => noticed_notify s.safety.irq false hlevel, rfl⟩

end Sys2Proof.Machine
end

section
/-!
PROOFS. A takeover (R351, R353): the reads that are under way, the lanes of the spare, the self-test's flags and the ledger
have no part in which slot serves a bank (`State.serving`), so that what it leaves is the three writes of the tables.
-/

namespace Sys2Proof.Machine

/-! ### What leaves the tables of banks and slots alone -/

/-- The slot that serves each logical bank, and what each slot is (R24, R348). -/
def State.serving (s : State) : Tbl LBank × Tbl Slot := (s.integ.lbanks, s.integ.slots)

theorem lbank_of_serving {s t : State} (h : t.serving = s.serving) (g : Nat) : t.lbank g = s.lbank g :=
  congrArg (fun x : Tbl LBank × Tbl Slot => x.1.get { slot := g % 16 } g) h

theorem slot_of_serving {s t : State} (h : t.serving = s.serving) (k : Nat) : t.slot k = s.slot k :=
  congrArg (fun x : Tbl LBank × Tbl Slot => x.2.get (slotReset k) k) h

@[simp] theorem ite_serving (p : Prop) [Decidable p] (s t : State) :
    (if p then s else t).serving = if p then s.serving else t.serving := by
  split <;> rfl

@[simp] theorem State.onBank_serving (s : State) (g : Nat) (f : BankInteg → BankInteg) :
    (s.onBank g f).serving = s.serving := rfl

@[simp] theorem State.onBankq_serving (s : State) (g : Nat) (f : BankQueue → BankQueue) :
    (s.onBankq g f).serving = s.serving := rfl

@[simp] theorem State.onCtest_serving (s : State) (k : Nat) (f : ClusterTest → ClusterTest) :
    (s.onCtest k f).serving = s.serving := rfl

@[simp] theorem State.onEng_serving (s : State) (f : EventUnit → EventUnit) : (s.onEng f).serving = s.serving := rfl

@[simp] theorem State.integEvent_serving (s : State) (i bank : Nat) : (s.integEvent i bank).serving = s.serving := rfl

@[simp] theorem State.bistEvent_serving (s : State) (i c slot : Nat) : (s.bistEvent i c slot).serving = s.serving := rfl

@[simp] theorem State.report_serving (s : State) (f : FaultInfo) : (s.report f).serving = s.serving := rfl

@[simp] theorem State.newEntry_integ (s : State) (f : FaultInfo) (level : Nat) : (s.newEntry f level).integ = s.integ := by
  unfold State.newEntry State.entryDetail
  cases f.detail <;> rfl

@[simp] theorem State.record_integ (s : State) (f : FaultInfo) (level : Nat) : (s.record f level).integ = s.integ := by
  unfold State.record
  split
  · split
    · rfl
    · exact s.newEntry_integ f level
  · exact s.newEntry_integ f level

@[simp] theorem State.logSlot_integ (s : State) (code c slot : Nat) : (s.logSlot code c slot).integ = s.integ :=
  s.record_integ _ 0

theorem State.logSlot_ctest (s : State) (code c slot k : Nat) : (s.logSlot code c slot).ctest k = s.ctest k :=
  congrArg (fun i : Integ => i.clusters.get {} k) (s.logSlot_integ code c slot)

theorem State.bistEvent_ctest (s : State) (i c slot k : Nat) : (s.bistEvent i c slot).ctest k = s.ctest k := rfl

@[simp] theorem State.logSlot_serving (s : State) (code c slot : Nat) :
    (s.logSlot code c slot).serving = s.serving :=
  congrArg (fun i : Integ => (i.lbanks, i.slots)) (s.logSlot_integ code c slot)

@[simp] theorem State.clogAdd_serving (s : State) (c : Nat) (e : BitVec 32) : (s.clogAdd c e).serving = s.serving := by
  simp only [State.clogAdd, ite_serving, State.onBank_serving, State.onCtest_serving, State.integEvent_serving, ite_self]

/-! ### The reads under way and the lanes of the spare (R351) -/

@[simp] theorem State.noted_serving (s : State) (bank row g : Nat) (scrub : Bool) (d : Decoded) :
    (s.noted bank row g scrub d).serving = s.serving := by
  unfold State.noted
  cases d.outcome <;> simp

@[simp] theorem State.readGranules_serving (s : State) (bank row : Nat) (gs : List Nat) :
    (s.readGranules bank row gs).2.serving = s.serving := by
  induction gs generalizing s with
  | nil => rfl
  | cons g gs ih => exact (ih _).trans (s.noted_serving bank row g false _)

@[simp] theorem State.openRow_serving (s : State) (x : Piece) : (s.openRow x).2.2.serving = s.serving := by
  unfold State.openRow
  split
  · rfl
  · exact s.readGranules_serving x.bank x.row _

@[simp] theorem State.openReads_serving (s : State) (g : Nat) : (s.openReads g).serving = s.serving := by
  unfold State.openReads
  refine foldl_keeps State.serving _ (fun t x => ?_) _ s
  exact t.openRow_serving x

@[simp] theorem State.takeoverLanes_serving (s : State) (g slot : Nat) :
    (s.takeoverLanes g slot).serving = s.serving := by
  unfold State.takeoverLanes
  dsimp only
  split
  · rfl
  · have hlogs (l : List Nat) : (l.foldl (fun t _ => t.logSlot 0x63 (g / 16) slot) s).serving = s.serving :=
      foldl_keeps State.serving _ (fun t _ => t.logSlot_serving 0x63 (g / 16) slot) l s
    split <;> simp [hlogs]

/-! ### A bank that moves (R351) -/

/-- The writes of the tables: the spare serves the bank, and its old slot is penned. -/
def State.switchSlots (s : State) (g old spare : Nat) : State :=
  ((s.onLbank g fun b => { b with slot := spare }).onSlot (17 * (g / 16) + spare) fun l =>
    { l with state := .inService, logical := g % 16 }).onSlot (17 * (g / 16) + old) fun l =>
      { l with state := .penned, rotations := satAdd 0xFFFF l.rotations 1 }

theorem State.switchSlots_serving {s t : State} (h : t.serving = s.serving) (g old spare : Nat) :
    (t.switchSlots g old spare).serving = (s.switchSlots g old spare).serving :=
  congrArg (fun x : Tbl LBank × Tbl Slot =>
    (({ s with integ := { s.integ with lbanks := x.1, slots := x.2 } } : State).switchSlots g old spare).serving) h

theorem State.moveBank_serving (s : State) (g spare : Nat) :
    (s.moveBank g spare).serving = (s.switchSlots g (s.lbank g).slot spare).serving := by
  rw [← State.switchSlots_serving (s.openReads_serving g)]
  unfold State.moveBank
  simp only [State.logSlot_serving, State.bistEvent_serving, State.onCtest_serving, ite_serving, State.onBank_serving,
    ite_self, State.takeoverLanes_serving]
  rfl

theorem State.moveBank_evac (s : State) (g spare : Nat) : ((s.moveBank g spare).ctest (g / 16)).evac = none := by
  unfold State.moveBank
  dsimp only
  rw [State.logSlot_ctest, State.bistEvent_ctest, State.ctest_onCtest_eq, if_pos rfl]

theorem mem_of_store {s t : State} (h : t.store = s.store) : t.mem = s.mem := congrArg Prod.fst h

theorem State.moveBank_lbank (s : State) (g spare h : Nat) :
    (s.moveBank g spare).lbank h = if h = g then { s.lbank g with slot := spare } else s.lbank h :=
  (lbank_of_serving (s.moveBank_serving g spare) h).trans (s.lbank_onLbank_eq g h fun b => { b with slot := spare })

theorem State.moveBank_slot (s : State) (g spare k : Nat) :
    (s.moveBank g spare).slot k = (s.switchSlots g (s.lbank g).slot spare).slot k :=
  slot_of_serving (s.moveBank_serving g spare) k

/-- The old slot is penned, whatever it held. -/
theorem State.moveBank_penned (s : State) (g spare : Nat) :
    ((s.moveBank g spare).slot (17 * (g / 16) + (s.lbank g).slot)).state = .penned := by
  rw [State.moveBank_slot, State.switchSlots, State.slot_onSlot, if_pos rfl]

theorem State.moveBank_spare {s : State} {g spare : Nat} (hmoves : spare ≠ (s.lbank g).slot) :
    ((s.moveBank g spare).slot (17 * (g / 16) + spare)).state = .inService ∧
      ((s.moveBank g spare).slot (17 * (g / 16) + spare)).logical = g % 16 := by
  rw [State.moveBank_slot, State.switchSlots, State.slot_onSlot, if_neg (by omega), State.slot_onSlot, if_pos rfl]
  exact ⟨rfl, rfl⟩

/-! ### The row of the table -/

theorem State.takeover_moves {s : State} {k : Nat} {e : EvacRun} {j : Job} (hready : s.ready = true)
    (hhold : s.safety.hold = false) (hevac : (s.ctest k).evac = some e) (hjob : s.cmd.bankJob = some j)
    (hkind : j.kind = .evacuate) (hcluster : j.cluster = k) (hclosing : s.closing (16 * k + e.bank) = true)
    (hdrained : (s.bankq (16 * k + e.bank)).wbuf = []) (hearlier : (s.bankq (16 * k + e.bank)).writeBck ≤ s.bck) :
    s.takeover k =
      (let t := ((s.moveBank (16 * k + e.bank) e.spare).dropJob j.id).freeBank (16 * k + e.bank)
       match j.test, j.who with
       | some n, who => t.startTest k (s.lbank (16 * k + e.bank)).slot (firstTest n).1 (firstTest n).2 who
       | none, some (token, cmd) => t.finish token cmd { status := .ok }
       | none, none => t) := by
  simp only [State.takeover, hevac, hjob]
  exact if_pos ⟨hkind, hcluster, hclosing, hdrained, hearlier, hready, by simp [hhold]⟩

/-- Settles O39: the row is the branch that its premises name (`State.takeover_moves`), and what it leaves of banks and
slots is its three writes (`State.moveBank_serving`). -/
theorem takeover : Obligations.Takeover := by
  refine ⟨fun k e j s hready hhold hevac hjob hkind hcluster hclosing hdrained hearlier => ?_,
    fun g spare s _ _ hmoves => ?_⟩
  · exact next_live hready (State.takeover_moves hready hhold hevac hjob hkind hcluster hclosing hdrained hearlier)
  · obtain ⟨hstate, hlogical⟩ := State.moveBank_spare hmoves
    exact ⟨by rw [State.moveBank_lbank, if_pos rfl], hstate, hlogical, s.moveBank_penned g spare, mem_of_store (s.moveBank_store g spare),
      fun h hother => by rw [State.moveBank_lbank, if_neg hother], s.moveBank_evac g spare⟩

end Sys2Proof.Machine
end

section
/-!
PROOFS. Fault reports (R390 to R399): the reaction by the level of an occurrence, and what its checker does to the piece,
the response, the request, the decision or the entry that it strikes.
-/

namespace Sys2Proof.Machine

/-! ### The reaction (R399) -/

section
variable {s : State} {f : FaultInfo}

/-! Every code but that of arbiter lockstep is recorded without a run of mismatches (R394). -/

theorem State.fault_low (hcode : f.code ≠ 0x21) (hlevel : s.levelOf f < 2) :
    s.fault f = s.record f (s.levelOf f) := by
  have hcases : s.levelOf f = 0 ∨ s.levelOf f = 1 := by omega
  unfold State.fault
  rw [if_neg hcode]
  dsimp only
  rcases hcases with h | h <;> rw [h] <;> rfl

theorem State.fault_half {h : Bool} (hcode : f.code ≠ 0x21) (hlevel : s.levelOf f = 2) (hport : f.shepherd = some h) :
    s.fault f = (s.record f (s.levelOf f)).halfReaction h := by
  unfold State.fault
  rw [if_neg hcode]
  dsimp only
  rw [hlevel, hport]
  rfl

theorem State.fault_hold (hcode : f.code ≠ 0x21) (hlevel : s.levelOf f = 3) :
    s.fault f = (s.record f (s.levelOf f)).beginHold f.code true := by
  unfold State.fault
  rw [if_neg hcode]
  dsimp only
  rw [hlevel]
  rfl

theorem State.faultReport_collects (hpwr : s.pins.pwrOk = true) (hlisted : listedCode f.code = true) :
    s.faultReport f = ((s.strike f).onSafety fun y => { y with reports := y.reports.erase f }).fault f := by
  simp only [State.faultReport, State.collect, hpwr, hlisted, Bool.not_true, Bool.false_eq_true, if_false]

end

/-! ### What a fault strikes (R390 to R395) -/

theorem Tbl.find?_erase_self {α : Type} (t : Tbl α) (k : Nat) : Tbl.find? (Tbl.erase t k) k = none := by
  induction t with
  | nil => rfl
  | cons e t ih =>
    obtain ⟨j, a⟩ := e
    unfold Tbl.erase at ih ⊢
    by_cases hj : j = k
    · simpa [hj] using ih
    · simpa [hj, Tbl.find?] using ih

theorem State.onBankq_congr {s : State} {g : Nat} {f f' : BankQueue → BankQueue}
    (h : f (s.bankq g) = f' (s.bankq g)) : s.onBankq g f = s.onBankq g f' := by
  simp only [State.onBankq, h]

section
variable {s : State} {f : FaultInfo}

theorem State.strike_fits {h : FaultHit} (hhit : f.hit = some h) (hfits : h.fits f.code = true) :
    s.strike f = s.strikes h := by
  simp only [State.strike, hhit, hfits, if_true]

theorem State.onHead_writes {bank : Nat} {e : WEntry} {rest : List WEntry} (g : Piece → Piece)
    (hq : (s.bankq bank).wbuf = e :: rest) :
    s.onHead bank g = s.onBankq bank fun q => { q with wbuf := { e with piece := g e.piece } :: rest } :=
  State.onBankq_congr (by simp only [hq])

theorem State.onFirstRead_reads {bank : Nat} {x : Piece} {rest : List Piece} (g : Piece → Piece)
    (hq : (s.bankq bank).reads = x :: rest) :
    s.onFirstRead bank g = s.onBankq bank fun q => { q with reads := g x :: rest } :=
  State.onBankq_congr (by simp only [hq])

theorem State.dropResponse_discards {p : Nat} {r : Resp} {rest : List Resp} (hq : (s.port p).resp = r :: rest) :
    s.dropResponse p = s.onPort p fun q => { q with resp := rest } :=
  State.onPort_congr (by simp only [hq])

end

/-- Settles O50: the report is collected and takes the branch of its level; what it strikes is the branch of its kind. -/
theorem faultReaction : Obligations.FaultReaction := by
  refine ⟨fun f s hpwr hlisted hcode => ?_, fun f s => ?_⟩
  · have hrow : exec (.faultReport f) s =
        .next (((s.strike f).onSafety fun y => { y with reports := y.reports.erase f }).fault f).goOn :=
      congrArg (fun t : State => Host.Outcome.next t.goOn) (State.faultReport_collects hpwr hlisted)
    rw [hrow]
    exact ⟨fun hlevel => by rw [State.fault_low hcode hlevel],
      fun h hlevel hport => by rw [State.fault_half hcode hlevel hport], fun hlevel => by rw [State.fault_hold hcode hlevel]⟩
  · refine ⟨fun hhit => by simp only [State.strike, hhit],
      fun h hhit hfits => by simp [State.strike, hhit, hfits],
      fun bank e rest hhit hcode hq => ?_, fun bank g e rest hhit hcode hq => ?_, fun bank g x rest hhit hcode hq => ?_,
      fun p r rest hhit hcode hq => ?_, fun p hhit hcode => ?_, fun n read hhit hcode => ?_, fun e hhit hcode => ?_,
      fun i hhit hcode => ?_, fun i hhit hcode => ?_, fun i hhit hcode => ?_⟩
    · rw [State.strike_fits hhit (by simp [FaultHit.fits, hcode])]
      exact State.onHead_writes (fun x => { x with strayed := true }) hq
    · rw [State.strike_fits hhit (by rcases hcode with h | h <;> simp [FaultHit.fits, h])]
      exact State.onHead_writes (fun x => { x with forced := setBit x.forced g }) hq
    · rw [State.strike_fits hhit (by simp [FaultHit.fits, hcode])]
      exact State.onFirstRead_reads (fun x => { x with forced := setBit x.forced g }) hq
    · rw [State.strike_fits hhit (by simp [FaultHit.fits, hcode])]
      exact State.dropResponse_discards hq
    · rw [State.strike_fits hhit (by simp [FaultHit.fits, hcode])]
      rfl
    · rw [State.strike_fits hhit (by simp [FaultHit.fits, hcode])]
      rfl
    · rw [State.strike_fits hhit (by simp [FaultHit.fits, hcode])]
      rfl
    · rw [State.strike_fits hhit (by simp [FaultHit.fits, hcode])]
      exact Tbl.find?_erase_self _ i
    · rw [State.strike_fits hhit (by simp [FaultHit.fits, hcode])]
      exact Tbl.find?_erase_self _ i
    · rw [State.strike_fits hhit (by simp [FaultHit.fits, hcode])]
      exact Tbl.find?_erase_self _ i

end Sys2Proof.Machine
end

section
/-!
PROOFS. The time base's own events (R368, R379 to R386, R442): each row is the branch of its function that its premises
name, and a crossing of WAKE_AIN reaches the clusters that it names, each by itself.
-/

namespace Sys2Proof.Machine

theorem postDone_of_ready {s : State} (h : s.ready = true) : s.integ.postDone = true := by
  unfold State.ready at h
  exact (Bool.and_eq_true_iff.1 h).1

section
variable {s : State}

/-! ### Timer wakes (R382) -/

theorem State.timerEdge_running {t : TimerWake} (hclock : s.clock.running = true) (hedge : s.clock.xck % 32 = 0)
    (hset : t.setAt < s.clock.acks) : s.timerEdge t = true := by
  simp [State.timerEdge, hclock, hedge, hset]

theorem State.timerEdge_between {t : TimerWake} (hclock : s.clock.running = true) (hedge : s.clock.xck % 32 ≠ 0) :
    s.timerEdge t = false := by
  simp [State.timerEdge, hclock, hedge]

theorem State.timerNow_running (hclock : s.clock.running = true) : s.timerNow = s.now := if_pos hclock

theorem State.timerFire_fires {who : Nat} (hready : s.ready = true) (hwho : who = 0xFE ∨ s.hasCluster who = true)
    (hen : (s.timerOf who).en = true) (hedge : s.clock.xck % 32 = 0) (hset : (s.timerOf who).setAt < s.clock.acks)
    (hreached : serialGe64 s.now (s.timerOf who).target = true) :
    s.timerFire who =
      if who = 0xFE then (s.onTimer who fun t => { t with en := false }).wakeBlock
      else (s.onTimer who fun t => { t with en := false }).indicateAt who 3 := by
  have hclock := clock_of_ready hready
  exact if_pos ⟨postDone_of_ready hready, hwho, hen, State.timerEdge_running hclock hedge hset,
    (State.timerNow_running hclock).symm ▸ hreached⟩

theorem State.timerFire_waits (who : Nat) (hready : s.ready = true) (hedge : s.clock.xck % 32 ≠ 0) :
    s.timerFire who = s :=
  if_neg fun h => by
    obtain ⟨-, -, -, hnow, -⟩ := h
    simp [State.timerEdge_between (clock_of_ready hready) hedge] at hnow

theorem State.timerFire_cluster {k : Nat} (hready : s.ready = true) (hk : s.hasCluster k = true) (hblock : k ≠ 0xFE)
    (hen : (s.cpower k).timer.en = true) (hedge : s.clock.xck % 32 = 0) (hset : (s.cpower k).timer.setAt < s.clock.acks)
    (hreached : serialGe64 s.now (s.cpower k).timer.target = true) :
    s.timerFire k = (s.onCpower k fun p => { p with timer := { p.timer with en := false } }).indicateAt k 3 := by
  have hof : s.timerOf k = (s.cpower k).timer := if_neg hblock
  rw [← hof] at hen hset hreached
  rw [State.timerFire_fires hready (.inr hk) hen hedge hset hreached, if_neg hblock, State.onTimer, if_neg hblock]

theorem State.timerFire_block (hready : s.ready = true) (hen : s.power.timer.en = true) (hedge : s.clock.xck % 32 = 0)
    (hset : s.power.timer.setAt < s.clock.acks) (hreached : serialGe64 s.now s.power.timer.target = true) :
    s.timerFire 0xFE = (s.onPower fun p => { p with timer := { p.timer with en := false } }).wakeBlock :=
  State.timerFire_fires hready (.inl rfl) hen hedge hset hreached

/-! ### WAKE_AIN (R368, R379, R442) -/

section
variable (hdone : s.integ.postDone = true) (hen : s.power.ain.en = true) (harmed : s.power.ain.armed = true)
  (hable : s.power.ain.disabled = false) (hirq : s.power.ain.irq = true)
include hdone hen harmed hable hirq

theorem State.ainCrossing_inRun (hblock : s.power.block = .run) :
    s.ainCrossing =
      ((s.onPower fun p =>
        { p with ain := { p.ain with armed := false, crossings := p.ain.crossings + 1, due := some (s.clock.xck + 2)
                                     flagDue := false } }).powerEvent 1 0xF 0).wakeBlock := by
  simp [State.ainCrossing, State.onPower, hdone, hen, harmed, hable, hirq, hblock]

theorem State.ainCrossing_stopped (hblock : s.power.block ≠ .run) :
    s.ainCrossing =
      (s.onPower fun p =>
        { p with ain := { p.ain with armed := false, crossings := p.ain.crossings + 1, due := some (s.clock.xck + 2)
                                     flagDue := true } }).wakeBlock := by
  simp [State.ainCrossing, State.onPower, hdone, hen, harmed, hable, hirq, hblock]

end

theorem State.ainRearm_arms (hdone : s.integ.postDone = true) :
    s.ainRearm = s.onPower fun p => { p with ain := { p.ain with armed := true } } := if_pos hdone

/-- An indication at some clusters reaches each of them once. -/
theorem State.foldl_indicate_cpower (cause c : Nat) (l : List Nat) (hl : l.Nodup) (s : State) :
    (l.foldl (fun t k => t.indicate k cause) s).cpower c =
      if c ∈ l then (s.cpower c).indicate s.clock.xck cause else s.cpower c := by
  induction l generalizing s with
  | nil => rfl
  | cons k l ih =>
    obtain ⟨hk, hl⟩ := List.nodup_cons.1 hl
    rw [List.foldl_cons, ih hl, State.indicate, State.onCpower_clock, State.cpower_onCpower_eq]
    by_cases hc : c = k
    · subst hc
      simp [hk]
    · simp [hc]

/-- A cluster that does not enter STOP is left alone by a new XCK. -/
theorem State.entryXck_rests {c : Nat} (hmode : (s.cpower c).mode ≠ .entering) (hnone : (s.cpower c).attempt = none) :
    s.entryXck c = s := by
  simp only [State.entryXck, hnone]
  exact if_pos hmode

theorem State.foldl_entryXck_rests (l : List Nat)
    (h : ∀ c ∈ l, (s.cpower c).mode ≠ .entering ∧ (s.cpower c).attempt = none) : l.foldl State.entryXck s = s := by
  induction l with
  | nil => rfl
  | cons c l ih =>
    obtain ⟨hmode, hnone⟩ := h c List.mem_cons_self
    rw [List.foldl_cons, State.entryXck_rests hmode hnone]
    exact ih fun k hk => h k (List.mem_cons_of_mem c hk)

theorem ClusterPower.indicate_stopped {p : ClusterPower} (t cause : Nat) (hmode : p.mode = .stop) (hwake : p.wake = none) :
    (p.indicate t cause).wake = some (cause, t) := by
  simp [ClusterPower.indicate, hmode, hwake]

/-- Two XCK behind a crossing the stopped clusters that it names have its indication (R368, Table 13-3). -/
theorem State.powerXck_wakes {t c : Nat} (hdue : s.power.ain.due = some t) (hnow : t ≤ s.clock.xck)
    (hstopped : ∀ k, s.hasCluster k = true →
      (s.cpower k).mode = .stop ∧ (s.cpower k).attempt = none ∧ (s.cpower k).wake = none)
    (hc : s.hasCluster c = true) (hnamed : bitOf s.power.ain.clusters.toNat c = true) :
    (s.powerXck.cpower c).wake = some (4, s.clock.xck) := by
  have hrest : (List.range s.cfg.clusters).foldl State.entryXck s = s :=
    State.foldl_entryXck_rests _ fun k hk => by
      obtain ⟨hmode, hnone, -⟩ := hstopped k (decide_eq_true (List.mem_range.1 hk))
      exact ⟨by simp [hmode], hnone⟩
  obtain ⟨hmode, -, hwake⟩ := hstopped c hc
  have hmem : c ∈ (List.range s.cfg.clusters).filter (fun k => bitOf s.power.ain.clusters.toNat k) :=
    List.mem_filter.2 ⟨List.mem_range.2 (of_decide_eq_true hc), hnamed⟩
  unfold State.powerXck
  dsimp only
  rw [hrest, hdue]
  dsimp only
  rw [if_pos hnow, State.foldl_indicate_cpower _ _ _ (List.nodup_range.filter _), if_pos hmem]
  exact ClusterPower.indicate_stopped _ _ hmode hwake

/-! ### SCK (R381) -/

theorem State.sckCheck_good {hz : BitVec 25} (hready : s.ready = true) (hblock : s.power.block = .run)
    (hdue : s.sckDue = true) (hlow : 24875000 ≤ hz.toNat) (hhigh : hz.toNat ≤ 25125000) :
    s.sckCheck hz = s.onPower fun p => { p with sckHz := hz, sckBad := false, sckAt := some s.worked } := by
  have hgood : ¬ (hz.toNat < 24875000 ∨ 25125000 < hz.toNat) := by omega
  unfold State.sckCheck
  rw [if_neg (by simp [hready, hblock, hdue])]
  dsimp only
  rw [if_neg hgood, decide_eq_false hgood]

theorem State.sckCheck_bad {hz : BitVec 25} (hready : s.ready = true) (hblock : s.power.block = .run)
    (hdue : s.sckDue = true) (hbad : hz.toNat < 24875000 ∨ 25125000 < hz.toNat) :
    s.sckCheck hz =
      ((s.onPower fun p => { p with sckHz := hz, sckBad := true, sckAt := some s.worked }).powerEvent 7 0xF 0).report
        { code := 0x43 } := by
  unfold State.sckCheck
  rw [if_neg (by simp [hready, hblock, hdue])]
  dsimp only
  rw [if_pos hbad, decide_eq_true hbad]

/-! ### TSYNC (R385, R386) -/

theorem State.tsyncOut_rises (hready : s.ready = true) (hmode : s.time.mode = 1) (hset : s.time.unset = false)
    (hperiod : s.time.periodUnits ≠ 0) (hout : s.time.outHigh = 0) (hedge : s.clock.xck % 32 = 0)
    (hpassed : s.time.passed s.time.periodUnits = true) : s.tsyncOut = s.onTime fun t => { t with outHigh := 8 } :=
  if_pos ⟨hready, hmode, by simp [hset], hperiod, hout, hedge, hpassed⟩

theorem TimeBase.passed_of_edges {t : TimeBase} {p : Nat} (hmoved : t.edge ≠ t.edgeBefore)
    (hforward : (t.edge - t.edgeBefore).toNat < 2 ^ 95) (hmultiple : t.edge.toNat / p ≠ t.edgeBefore.toNat / p) :
    t.passed p = true := by
  unfold TimeBase.passed
  rw [bne_iff_ne.2 hmoved, decide_eq_true hforward, bne_iff_ne.2 hmultiple]
  rfl

theorem State.tsyncIn_corrects (hready : s.ready = true) (hmode : s.time.mode = 2) (hset : s.time.unset = false)
    (hlost : s.time.lost = false) (hblock : s.power.block = .run) :
    s.tsyncIn =
      (let t := s.onTime fun t => { t with pulses := t.pulses + 1, lastPulse := t.advance }
       let e := t.tsyncOffset
       ((t.onTime fun b =>
          { b with offset := max (-(2 ^ 31)) (min (2 ^ 31 - 1) (Int.tdiv e (2 ^ 32))) }).tsyncCorrect e).tsyncLock e) := by
  have hclock := clock_of_ready hready
  unfold State.tsyncIn
  rw [if_neg (by simp [hmode, postDone_of_ready hready])]
  dsimp only
  rw [if_neg (by simp [hset, hlost, hclock, hblock]), if_pos hclock]
  simp only [add_zero]

theorem State.tsyncMissing_clears (hready : s.ready = true) (hmode : s.time.mode = 2) (hblock : s.power.block = .run)
    (hlost : s.time.tsLost = false) (hlate : s.time.lastPulse + 2 * (s.time.periodUnits : Int) ≤ s.time.advance) :
    s.tsyncMissing =
      (s.onTime fun t => { t with locked := false, good := 0, tsLost := true }).powerEvent 5 0xF 0 :=
  if_pos ⟨hready, hblock, hmode, by simp [hlost], hlate⟩

end

/-! ### The rows of the table -/

theorem exec_timerWakeFire (who : Nat) (s : State) : exec (.timerWakeFire who) s = .next (s.timerFire who) := rfl

theorem exec_wakeAinCrossing (s : State) : exec .wakeAinCrossing s = .next s.ainCrossing := rfl

theorem exec_wakeAinRearm (s : State) : exec .wakeAinRearm s = .next s.ainRearm := rfl

theorem exec_sckCheck (hz : BitVec 25) (s : State) : exec (.sckCheck hz) s = .next (s.sckCheck hz) := rfl

theorem exec_tsyncPulseOut (s : State) : exec .tsyncPulseOut s = .next s.tsyncOut := rfl

theorem exec_tsyncPulseIn (s : State) : exec .tsyncPulseIn s = .next s.tsyncIn := rfl

theorem exec_tsyncPulseMissing (s : State) : exec .tsyncPulseMissing s = .next s.tsyncMissing := rfl

/-- Settles O49: each clause is the branch of its function that the lemmas above name. -/
theorem timeRows : Obligations.TimeRows := by
  intro s hready
  have hdone := postDone_of_ready hready
  refine ⟨fun k hk hblock hen hedge hset hreached => ?_, fun hen hedge hset hreached => ?_, fun k hedge => ?_,
    fun hen harmed hable hirq => ⟨fun hblock => ?_, fun hblock => ?_⟩,
    fun t hdue hnow hstopped c hc hnamed => State.powerXck_wakes hdue hnow hstopped hc hnamed, ?_,
    fun hz hblock hdue hlow hhigh => ?_, fun hz hblock hdue hbad => ?_,
    fun hmode hset hperiod hout hedge hmoved hforward hmultiple => ?_, fun hmode hset hlost hblock => ?_,
    fun hmode hblock hlost hlate => ?_⟩
  · rw [exec_timerWakeFire, State.timerFire_cluster hready hk hblock hen hedge hset hreached]
  · rw [exec_timerWakeFire, State.timerFire_block hready hen hedge hset hreached]
  · rw [exec_timerWakeFire, State.timerFire_waits k hready hedge]
  · rw [exec_wakeAinCrossing, State.ainCrossing_inRun hdone hen harmed hable hirq hblock]
  · rw [exec_wakeAinCrossing, State.ainCrossing_stopped hdone hen harmed hable hirq hblock]
  · rw [exec_wakeAinRearm, State.ainRearm_arms hdone]
  · rw [exec_sckCheck, State.sckCheck_good hready hblock hdue hlow hhigh]
  · rw [exec_sckCheck, State.sckCheck_bad hready hblock hdue hbad]
    rfl
  · rw [exec_tsyncPulseOut, State.tsyncOut_rises hready hmode hset hperiod hout hedge
      (TimeBase.passed_of_edges hmoved hforward hmultiple)]
  · rw [exec_tsyncPulseIn, State.tsyncIn_corrects hready hmode hset hlost hblock]
  · rw [exec_tsyncPulseMissing, State.tsyncMissing_clears hready hmode hblock hlost hlate]

end Sys2Proof.Machine
end

section
/-!
PROOFS. The boot record (R417; its bytes are the model's, log entry 68): numbers and their bytes, CRC-32C as a number of four
bytes, and what a record that is written says when it is read.
-/

namespace Sys2Proof.Machine

/-! ### Numbers and their bytes (R9) -/

theorem length_toBytes (n w : Nat) : (toBytes n w).length = n := by
  induction n generalizing w with
  | zero => rfl
  | succ n ih => exact congrArg Nat.succ (ih _)

theorem ofBytes_toBytes (n w : Nat) : ofBytes (toBytes n w) = w % 256 ^ n := by
  induction n generalizing w with
  | zero => exact (Nat.mod_one w).symm
  | succ n ih =>
    rw [toBytes, ofBytes, ih, BitVec.toNat_ofNat, pow_succ' 256 n]
    exact Nat.mod_mul.symm

theorem ofBytes_toBytes_of_lt {n w : Nat} (h : w < 256 ^ n) : ofBytes (toBytes n w) = w := by
  rw [ofBytes_toBytes, Nat.mod_eq_of_lt h]

/-! ### CRC-32C -/

theorem crcBit_lt {c : Nat} (h : c < 2 ^ 32) : crcBit c < 2 ^ 32 := by
  have hhalf : c / 2 < 2 ^ 32 := lt_of_le_of_lt (Nat.div_le_self c 2) h
  unfold crcBit
  split
  · exact Nat.xor_lt_two_pow hhalf (by decide)
  · exact hhalf

theorem crcByte_lt {c : Nat} (b : Byte) (h : c < 2 ^ 32) : crcByte c b < 2 ^ 32 := by
  have hbyte : b.toNat < 2 ^ 32 := lt_of_lt_of_le b.isLt (by decide)
  exact crcBit_lt (crcBit_lt (crcBit_lt (crcBit_lt (crcBit_lt (crcBit_lt (crcBit_lt (crcBit_lt
    (Nat.xor_lt_two_pow h hbyte))))))))

theorem crcFold_lt {c : Nat} (bs : List Byte) (h : c < 2 ^ 32) : crcFold c bs < 2 ^ 32 := by
  unfold crcFold
  induction bs generalizing c with
  | nil => exact h
  | cons b bs ih => exact ih (crcByte_lt b h)

theorem crc32c_lt (bs : List Byte) : crc32c bs < 2 ^ 32 :=
  Nat.xor_lt_two_pow (crcFold_lt bs (by decide)) (by decide)

/-! ### A record as it is read (R417) -/

section
variable (r : BootRecord) (seq : BitVec 32)

/-- The bytes of a record before its CRC. -/
def BootRecord.front : List Byte :=
  toBytes 4 seq.toNat ++ toBytes 1 r.active ++ toBytes 1 (bit r.confA + 2 * bit r.confB) ++
    toBytes 1 ((r.trial.map (· + 1)).getD 0) ++ toBytes 1 0

theorem BootRecord.bytes_eq : r.bytes seq = r.front seq ++ toBytes 4 (crc32c (r.front seq)) := by
  obtain ⟨active, trial, confA, confB⟩ := r
  cases trial <;> rfl

theorem BootRecord.length_front : (r.front seq).length = 8 := rfl

theorem BootRecord.bootOk_bytes : bootOk (r.bytes seq) = true := by
  have hcrc : fieldAt (r.bytes seq) 8 4 = crc32c (r.front seq) := by
    rw [BootRecord.bytes_eq, fieldAt, ← r.length_front seq, List.drop_left,
      List.take_of_length_le (length_toBytes 4 _).le]
    exact ofBytes_toBytes_of_lt (crc32c_lt _)
  have hfront : (r.bytes seq).take 8 = r.front seq := by
    rw [BootRecord.bytes_eq, ← r.length_front seq, List.take_left]
  have hlength : (r.bytes seq).length = 12 := by
    rw [BootRecord.bytes_eq, List.length_append, r.length_front, length_toBytes]
  rw [bootOk, hcrc, hfront, hlength]
  simp

/-- A field before the CRC. -/
theorem BootRecord.fieldAt_bytes {i n : Nat} (h : i + n ≤ 8) :
    fieldAt (r.bytes seq) i n = fieldAt (r.front seq) i n := by
  have hfront : n ≤ ((r.front seq).drop i).length := by
    rw [List.length_drop, r.length_front]
    omega
  rw [fieldAt, fieldAt, BootRecord.bytes_eq, List.drop_append_of_le_length (by rw [r.length_front]; omega),
    List.take_append_of_le_length hfront]

theorem BootRecord.bootSeq_bytes : bootSeq (r.bytes seq) = seq := by
  have hfield : fieldAt (r.front seq) 0 4 = ofBytes (toBytes 4 seq.toNat) := rfl
  rw [bootSeq, r.fieldAt_bytes seq (by decide), hfield, ofBytes_toBytes_of_lt seq.isLt, BitVec.ofNat_toNat,
    BitVec.setWidth_eq]

theorem BootRecord.field_active (h : r.active < 2) : fieldAt (r.bytes seq) 4 1 = r.active := by
  have hfield : fieldAt (r.front seq) 4 1 = ofBytes (toBytes 1 r.active) := rfl
  rw [r.fieldAt_bytes seq (by decide), hfield, ofBytes_toBytes_of_lt (by omega)]

theorem BootRecord.field_confirmed : fieldAt (r.bytes seq) 5 1 = bit r.confA + 2 * bit r.confB := by
  have hfield : fieldAt (r.front seq) 5 1 = ofBytes (toBytes 1 (bit r.confA + 2 * bit r.confB)) := rfl
  have hsmall : bit r.confA + 2 * bit r.confB < 256 ^ 1 := by cases r.confA <;> cases r.confB <;> decide
  rw [r.fieldAt_bytes seq (by decide), hfield, ofBytes_toBytes_of_lt hsmall]

theorem BootRecord.field_trial (h : ∀ k, r.trial = some k → k < 2) :
    fieldAt (r.bytes seq) 6 1 = (r.trial.map (· + 1)).getD 0 := by
  have hfield : fieldAt (r.front seq) 6 1 = ofBytes (toBytes 1 ((r.trial.map (· + 1)).getD 0)) := rfl
  have hsmall : (r.trial.map (· + 1)).getD 0 < 256 ^ 1 := by
    cases htrial : r.trial with
    | none => decide
    | some k =>
      have hk := h k htrial
      simp only [Option.map_some, Option.getD_some]
      omega
  rw [r.fieldAt_bytes seq (by decide), hfield, ofBytes_toBytes_of_lt hsmall]

theorem BootRecord.bootOf_bytes (hactive : r.active < 2) (htrial : ∀ k, r.trial = some k → k < 2) :
    bootOf (r.bytes seq) = r := by
  have hfirst (a b : Bool) : bitOf (bit a + 2 * bit b) 0 = a := by cases a <;> cases b <;> decide
  have hsecond (a b : Bool) : bitOf (bit a + 2 * bit b) 1 = b := by cases a <;> cases b <;> decide
  rw [bootOf, r.field_active seq hactive, r.field_confirmed, r.field_trial seq htrial, hfirst, hsecond]
  obtain ⟨active, trial, confA, confB⟩ := r
  cases trial <;> simp

end

/-! ### The copy in force -/

section
variable {ok : List Byte → Bool} {seq : List Byte → BitVec 32} {a b : Option (List Byte)} {bs new : List Byte}

/-- A copy that is valid and bears the number after the other's is the later one. -/
theorem serialGe32_next (q : BitVec 32) : serialGe32 (q + 1) q = true ∧ serialGe32 q (q + 1) = false := by
  have hback : q - (q + 1) = -1 := by simp
  have hon : q + 1 - q = 1 := by simp
  unfold serialGe32
  rw [hback, hon]
  decide

theorem laterCopy_zero (h : laterCopy ok seq a b = some (0, bs)) : a.filter ok = some bs := by
  unfold laterCopy at h
  cases ha : a.filter ok <;> cases hb : b.filter ok <;> simp only [ha, hb] at h
  · cases h
  · cases h
  · cases h
    rfl
  · split at h <;> cases h
    rfl

theorem laterCopy_succ {n : Nat} (h : laterCopy ok seq a b = some (n + 1, bs)) : b.filter ok = some bs := by
  unfold laterCopy at h
  cases ha : a.filter ok <;> cases hb : b.filter ok <;> simp only [ha, hb] at h
  · cases h
  · cases h
    rfl
  · cases h
  · split at h <;> cases h
    rfl

theorem laterCopy_none (h : laterCopy ok seq a b = none) : b.filter ok = none := by
  unfold laterCopy at h
  cases ha : a.filter ok <;> cases hb : b.filter ok <;> simp only [ha, hb] at h
  · rfl
  · cases h
  · rfl
  · split at h <;> cases h

/-- The copy that is not in force, written with the next number, comes into force. -/
theorem laterCopy_writes_second (h : laterCopy ok seq a b = some (0, bs)) (hok : ok new = true)
    (hseq : seq new = seq bs + 1) : laterCopy ok seq a (some new) = some (1, new) := by
  obtain ⟨hlater, -⟩ := serialGe32_next (seq bs)
  unfold laterCopy
  rw [laterCopy_zero h, Option.filter_some_pos hok]
  simp only [hseq, hlater, if_true]

theorem laterCopy_writes_first {n : Nat} (h : laterCopy ok seq a b = some (n + 1, bs)) (hok : ok new = true)
    (hseq : seq new = seq bs + 1) : laterCopy ok seq (some new) b = some (0, new) := by
  obtain ⟨-, hearlier⟩ := serialGe32_next (seq bs)
  unfold laterCopy
  rw [laterCopy_succ h, Option.filter_some_pos hok]
  simp only [hseq, hearlier, Bool.false_eq_true, if_false]

theorem laterCopy_writes_blank (h : laterCopy ok seq a b = none) (hok : ok new = true) :
    laterCopy ok seq (some new) b = some (0, new) := by
  unfold laterCopy
  rw [laterCopy_none h, Option.filter_some_pos hok]

end

/-- What is written to the boot record is what the record in force then says (R417). -/
theorem Firmware.setBoot_boot (w : Firmware) (r : BootRecord) (hactive : r.active < 2)
    (htrial : ∀ k, r.trial = some k → k < 2) : (w.setBoot r).boot = r := by
  have hreads (u : Firmware) (n : Nat) (q : BitVec 32) (h : u.bootCopy = some (n, r.bytes q)) : u.boot = r := by
    rw [Firmware.boot, h]
    exact r.bootOf_bytes q hactive htrial
  unfold Firmware.setBoot
  split
  · assumption
  · unfold Firmware.writeBoot
    split
    · next bs hcopy =>
      exact hreads _ 1 _ (laterCopy_writes_second hcopy (r.bootOk_bytes _) (r.bootSeq_bytes _))
    · next n bs hfirst hcopy =>
      obtain ⟨m, rfl⟩ := Nat.exists_eq_succ_of_ne_zero hfirst
      exact hreads _ 0 _ (laterCopy_writes_first hcopy (r.bootOk_bytes _) (r.bootSeq_bytes _))
    · next hcopy =>
      exact hreads _ 0 _ (laterCopy_writes_blank hcopy (r.bootOk_bytes _))

end Sys2Proof.Machine
end
section
/-!
PROOFS. Activation, trial and fallback, and the choice at boot (R423 to R427): each row is the branch of its function that
its premises name.
-/

namespace Sys2Proof.Machine

section
variable {s : State} {a : Activation}

/-! ### The steps of an activation (R423) -/

theorem State.activationEdge_stops (hready : s.ready = true) (hact : s.fw.pendingAct = some a) (hedge : a.edge = none)
    (hrun : s.fw.state = .running) (htime : serialGe64 s.now a.target = true) :
    s.activationEdge = s.stopFirmware.onFw fun w => { w with pendingAct := some { a with edge := some s.worked } } := by
  unfold State.activationEdge
  rw [hact]
  exact if_pos ⟨hedge, hrun, hready, htime⟩

theorem Firmware.setBoot_fallback (w : Firmware) (r : BootRecord) : (w.setBoot r).fallback = w.fallback := by
  unfold Firmware.setBoot Firmware.writeBoot
  split
  · rfl
  · split <;> rfl

theorem State.activationSafePoint_switches (hready : s.ready = true) (hact : s.fw.pendingAct = some a)
    (hedge : a.edge.isSome = true) (hsafe : a.safe = none) (hpoint : s.safePoint a = true) (hback : s.fw.fallback = none) :
    s.activationSafePoint = s.onFw fun w =>
      { w.setBoot { w.boot with active := a.slot, trial := some s.fw.active } with
          pendingAct := some { a with safe := some s.worked }, active := a.slot, trialAt := none } := by
  unfold State.activationSafePoint
  rw [hact]
  dsimp only
  rw [if_pos ⟨hedge, hsafe, hready, hpoint⟩]
  simp only [State.onFw, Firmware.setBoot_fallback, hback, Option.isSome_none, Bool.false_eq_true, if_false]

theorem State.activationTimeout_drops {t : Nat} (hact : s.fw.pendingAct = some a) (hedge : a.edge = some t)
    (hcmd : a.cmd.isSome = true) (hsafe : a.safe = none) (hlate : t + 1000 * msec ≤ s.worked) :
    s.activationTimeout = s.dropActivation a .timeout := by
  unfold State.activationTimeout
  rw [hact]
  dsimp only
  rw [hedge]
  exact if_pos ⟨hcmd, hsafe, hlate⟩

theorem State.imageRunning_runs (hact : s.fw.pendingAct = some a) (hswitching : s.fw.state = .switching)
    (hsoon : a.safe.any (fun t => decide (s.worked ≤ t + 30 * msec)) = true) (hvalid : s.verify a.slot = 0) :
    s.imageRunning =
      (((((s.runImage a.slot).onFw fun w =>
        { w with pendingAct := none, fallback := none
                 trialAt := if s.fw.fallback.isSome then none else some s.time.advance }).armToken
        false).applySettings.startTests).fwFlag 2).endActivation a .ok := by
  unfold State.imageRunning
  rw [hact]
  exact if_pos ⟨hswitching, hsoon, hvalid⟩

theorem State.imageStartTimeout_fallsBack {t old : Nat} (hact : s.fw.pendingAct = some a) (hsafe : a.safe = some t)
    (hswitching : s.fw.state = .switching) (hlate : t + 30 * msec ≤ s.worked) (hback : s.fw.fallback = none)
    (htrial : s.fw.boot.trial = some old) :
    s.imageStartTimeout =
      (s.onFw fun w =>
        { w with fallback := some a.slot
                 pendingAct := some { slot := old, target := s.now, edge := some s.worked } }).endActivation a
        .timeout := by
  unfold State.imageStartTimeout
  rw [hact]
  dsimp only
  rw [hsafe]
  dsimp only
  rw [if_pos ⟨hswitching, hlate⟩, hback, htrial]

/-! ### The trial (R424, R426) -/

theorem State.beginFallback_begins {old : Nat} (htrial : s.fw.boot.trial = some old) (hat : s.fw.trialAt.isSome = true)
    (hback : s.fw.fallback = none) :
    s.beginFallback = s.stopFirmware.onFw fun w =>
      { w with fallback := some w.active
               pendingAct := some { slot := old, target := s.now, edge := some s.worked } } := by
  unfold State.beginFallback
  rw [htrial]
  exact if_pos ⟨hat, hback⟩

theorem State.windowExpire_fallsBack {t : Int} (hat : s.fw.trialAt = some t) (hrun : s.fw.state = .running)
    (hlate : t + s.fw.windowNs * 2 ^ 32 ≤ s.time.advance) : s.windowExpire = s.beginFallback := by
  unfold State.windowExpire
  rw [hat]
  exact if_pos ⟨hrun, hlate⟩

/-! ### The boot (R427) -/

section
variable (hdone : s.integ.postDone = true) (hstarts : s.fw.state = .off ∨ s.fw.state = .booting)
include hdone hstarts

theorem State.firmwareBoot_goes :
    ¬ (¬ s.integ.postDone = true ∨ (s.fw.state ≠ .off ∧ s.fw.state ≠ .booting)) := by
  rintro (hnot | ⟨hoff, hbooting⟩)
  · exact hnot hdone
  · exact hstarts.elim hoff hbooting

theorem State.firmwareBoot_noDevice : s.firmwareBoot false = s.onFw fun w => { w with state := .failed } :=
  if_neg (State.firmwareBoot_goes hdone hstarts)

theorem State.firmwareBoot_reads :
    s.firmwareBoot true =
      match s.readBoot.bootChoice with
      | none => s.readBoot.onFw fun w => { w with state := .failed }
      | some (k, trial, back) =>
        let t := s.readBoot.onFw fun w =>
          { w.setBoot { w.boot with active := k, trial := trial } with
              trialAt := if trial.isSome then some s.time.advance else none }
        let t := if back then t.fallbackNoted else t
        (((t.runImage k).armToken ((t.runImage k).half false)).applySettings).startTests :=
  if_neg (State.firmwareBoot_goes hdone hstarts)

end

/-! ### The slot that boots (R427) -/

/-- A slot that is marked confirmed and whose image is valid. -/
def State.bootable (s : State) (k : Nat) : Bool := s.fw.boot.confirmed k && s.verify k == 0

theorem State.bootable_iff (k : Nat) : s.bootable k = true ↔ s.fw.boot.confirmed k = true ∧ s.verify k = 0 := by
  simp [State.bootable]

/-- The slots that boot where none is marked confirmed: one that is verified, the active one first. -/
def State.freshChoice (s : State) : Option (Nat × Option Nat × Bool) :=
  let fresh (k : Nat) : Bool :=
    !s.fw.boot.confA && !s.fw.boot.confB && decide ((s.image k).state = .verified) && s.verify k == 0
  if fresh s.fw.boot.active then some (s.fw.boot.active, some (1 - s.fw.boot.active), false)
  else if fresh (1 - s.fw.boot.active) then some (1 - s.fw.boot.active, some s.fw.boot.active, false)
  else none

theorem State.freshChoice_none (h : s.fw.boot.confA = true ∨ s.fw.boot.confB = true) : s.freshChoice = none := by
  have hmarked : (!s.fw.boot.confA && !s.fw.boot.confB) = false := by rcases h with h | h <;> simp [h]
  simp only [State.freshChoice, hmarked, Bool.false_and, Bool.false_eq_true, if_false]

theorem State.bootChoice_trial {old : Nat} (htrial : s.fw.boot.trial = some old) (hgood : s.bootable old = true) :
    s.bootChoice = some (old, none, true) := by
  have hfilter : s.fw.boot.trial.filter (fun k => s.fw.boot.confirmed k && s.verify k == 0) = some old := by
    rw [htrial]
    exact Option.filter_some_pos hgood
  unfold State.bootChoice
  dsimp only
  rw [hfilter]

theorem State.bootChoice_untried (h : ∀ old, s.fw.boot.trial = some old → s.bootable old = false) :
    s.bootChoice =
      if s.bootable s.fw.boot.active then some (s.fw.boot.active, none, false)
      else if s.bootable (1 - s.fw.boot.active) then some (1 - s.fw.boot.active, none, true)
      else s.freshChoice := by
  have hfilter : s.fw.boot.trial.filter (fun k => s.fw.boot.confirmed k && s.verify k == 0) = none := by
    cases htrial : s.fw.boot.trial with
    | none => rfl
    | some old => exact Option.filter_some_neg (by simpa [State.bootable] using h old htrial)
  unfold State.bootChoice
  dsimp only
  rw [hfilter]
  rfl

/-! ### The HALF reaction during a boot (R402) -/

theorem State.record_half (s : State) (f : FaultInfo) (level : Nat) (half : Bool) :
    (s.record f level).half half = s.half half := by
  have hnew : (s.newEntry f level).half half = s.half half := by
    rw [State.half, State.newEntry_safety]
    rfl
  unfold State.record
  split
  · split
    · rfl
    · exact hnew
  · exact hnew

theorem State.fallbackNoted_half (s : State) (half : Bool) : s.fallbackNoted.half half = s.half half :=
  s.record_half { code := 0x66 } 0 half

/-- The image that a boot starts leaves the reactions in force. -/
theorem State.runImage_half (s : State) (k : Nat) (half : Bool) : (s.runImage k).half half = s.half half := rfl

end

/-! ### The rows of the table -/

theorem exec_activationEdge (s : State) : exec .activationEdge s = .next s.activationEdge.goOn := rfl

theorem exec_activationSafePoint (s : State) : exec .activationSafePoint s = .next s.activationSafePoint.goOn := rfl

theorem exec_activationTimeout (s : State) : exec .activationTimeout s = .next s.activationTimeout.goOn := rfl

theorem exec_imageRunning (s : State) : exec .imageRunning s = .next s.imageRunning.goOn := rfl

theorem exec_imageStartTimeout (s : State) : exec .imageStartTimeout s = .next s.imageStartTimeout.goOn := rfl

theorem exec_confirmWindowExpire (s : State) : exec .confirmWindowExpire s = .next s.windowExpire.goOn := rfl

theorem exec_firmwareBoot (flashOk : Bool) (s : State) :
    exec (.firmwareBoot flashOk) s = .next (s.firmwareBoot flashOk).goOn := rfl

/-- Settles O53: a record that is written is the one in force (`Firmware.setBoot_boot`), and each row is the branch of its
function that the lemmas above name. -/
theorem activationRows : Obligations.ActivationRows := by
  refine ⟨Firmware.setBoot_boot, fun s => ⟨fun a hready hact hedge hrun htime => ?_,
    fun a hready hact hedge hsafe hpoint hback => ?_, fun a t hact hedge hcmd hsafe hlate => ?_,
    fun a hact hswitching hsoon hvalid => ?_, fun a t old hact hsafe hswitching hlate hback htrial => ?_,
    fun t old hat hrun hlate htrial hback => ?_,
    fun hdone hstarts => ⟨fun k trial back hchoice => ?_, fun hchoice => ?_, ?_⟩, ?_⟩⟩
  · rw [exec_activationEdge, State.activationEdge_stops hready hact hedge hrun htime]
    rfl
  · rw [exec_activationSafePoint, State.activationSafePoint_switches hready hact hedge hsafe hpoint hback]
  · rw [exec_activationTimeout, State.activationTimeout_drops hact hedge hcmd hsafe hlate]
  · rw [exec_imageRunning, State.imageRunning_runs hact hswitching hsoon hvalid]
  · rw [exec_imageStartTimeout, State.imageStartTimeout_fallsBack hact hsafe hswitching hlate hback htrial]
  · rw [exec_confirmWindowExpire, State.windowExpire_fallsBack hat hrun hlate,
      State.beginFallback_begins htrial (by simp [hat]) hback]
    rfl
  · rw [exec_firmwareBoot, State.firmwareBoot_reads hdone hstarts, hchoice]
    dsimp only
    rw [State.runImage_half, apply_ite (fun t : State => t.half false), State.fallbackNoted_half, ite_self]
    rfl
  · rw [exec_firmwareBoot, State.firmwareBoot_reads hdone hstarts, hchoice]
  · rw [exec_firmwareBoot, State.firmwareBoot_noDevice hdone hstarts]
  · dsimp only
    simp only [← State.bootable_iff]
    refine ⟨fun old htrial hgood => State.bootChoice_trial htrial hgood, fun hbad => ?_⟩
    have hchoice := State.bootChoice_untried fun old htrial => Bool.eq_false_iff.2 (hbad old htrial)
    refine ⟨fun hgood => ?_, fun hactive hgood => ?_, fun hactive hother hmarked => ?_⟩
    · rw [hchoice, if_pos hgood]
    · rw [hchoice, if_neg hactive, if_pos hgood]
    · rw [hchoice, if_neg hactive, if_neg hother, State.freshChoice_none hmarked]

end Sys2Proof.Machine
end

section
/-!
PROOFS. The rows of the safety partition (R396, R402 to R411, R454): the claims and the rows of Table 14-3, which exclude
each other, the watchdogs, the outputs, RCK, and the end of a half's reset.
-/

namespace Sys2Proof.Machine

section
variable {s : State} {h : Bool}

/-! ### Claims and watchdogs (R402, R403) -/

theorem State.claimNow_holder (s : State) (h : Bool) : (s.claimNow h).holder = s.holder := by
  cases h <;> rfl

theorem State.crookClaim_claims (hready : s.ready = true) (hruns : s.runs h = true) :
    s.crookClaim h = s.onSafety fun y =>
      if h then
        { y with claimB := some s.worked, claimedB := true, heldClaim := y.heldClaim || s.holder == some h }
      else
        { y with claimA := some s.worked, claimedA := true, heldClaim := y.heldClaim || s.holder == some h } := by
  unfold State.crookClaim
  rw [if_pos ⟨hready, hruns⟩]
  dsimp only
  rw [State.claimNow_holder]
  cases h <;> rfl

theorem State.watchdogWrite_writes (hready : s.ready = true) (hruns : s.runs h = true) :
    s.watchdogWrite h = s.onSafety fun y => if h then { y with wdogB := s.worked } else { y with wdogA := s.worked } :=
  if_pos ⟨hready, hruns⟩

theorem State.watchdogExpire_expires (hready : s.ready = true) (hruns : s.runs h = true) (hen : s.safety.wdogEn = true)
    (hstate : s.fw.state ≠ .switching)
    (hlate : (if h then s.safety.wdogB else s.safety.wdogA) + s.safety.wdogMs * msec ≤ s.worked) :
    s.watchdogExpire h = s.fault { code := 0x35, port := shepherdPort h } :=
  if_pos ⟨hready, hruns, hen, hstate, hlate⟩

/-! ### The copies of the token (R403) -/

/-- The copies of the token as they are read in an MCK. -/
def State.readCopies (s : State) (c0 c1 c2 : BitVec 2) : State :=
  s.onSafety fun y => { y with copy0 := c0, copy1 := c1, copy2 := c2 }

/-- The claims are judged: the next check finds none. -/
def State.claimsJudged (s : State) : State := s.onSafety fun y => { y with claimedA := false, claimedB := false }

theorem State.readCopies_named (s : State) (c0 c1 c2 : BitVec 2) :
    (s.readCopies c0 c1 c2).named = majority c0 c1 c2 := rfl

theorem majority_agree (h : Bool) : majority (tokenCode h) (tokenCode h) (tokenCode h) = some h := by
  cases h <;> rfl

theorem State.tokenCheck_judges {t : Nat} (c0 c1 c2 : BitVec 2) (hready : s.ready = true)
    (hfrom : s.safety.crookFrom = some t) (hdue : t ≤ s.worked) :
    s.tokenCheck c0 c1 c2 = (s.readCopies c0 c1 c2).tokenRow.claimsJudged := by
  unfold State.tokenCheck
  rw [if_pos hready]
  dsimp only [State.onSafety_safety]
  rw [hfrom]
  exact if_pos ⟨hready, hdue⟩

theorem State.tokenCheck_unarmed (c0 c1 c2 : BitVec 2) (hready : s.ready = true) (hfrom : s.safety.crookFrom = none) :
    s.tokenCheck c0 c1 c2 = s.readCopies c0 c1 c2 := by
  unfold State.tokenCheck
  rw [if_pos hready]
  dsimp only [State.onSafety_safety]
  rw [hfrom]
  rfl

/-! ### The rows of Table 14-3 (R404, R405) -/

/-- The three copies are equal and name a Shepherd. -/
def State.agreesOn (s : State) (h : Bool) : Prop :=
  s.safety.copy0 = tokenCode h ∧ s.safety.copy1 = tokenCode h ∧ s.safety.copy2 = tokenCode h

theorem State.agreesOn.named (hagree : s.agreesOn h) : s.named = some h := by
  obtain ⟨h0, h1, h2⟩ := hagree
  rw [State.named, h0, h1, h2, majority_agree]

theorem State.agreesOn.same (hagree : s.agreesOn h) :
    s.safety.copy0 = s.safety.copy1 ∧ s.safety.copy1 = s.safety.copy2 := by
  obtain ⟨h0, h1, h2⟩ := hagree
  exact ⟨h0.trans h1.symm, h1.trans h2.symm⟩

theorem State.tokenRow_disagree (hnamed : s.named = some h)
    (hdiffer : ¬ (s.safety.copy0 = s.safety.copy1 ∧ s.safety.copy1 = s.safety.copy2)) :
    s.tokenRow = (s.readCopies (tokenCode h) (tokenCode h) (tokenCode h)).fault { code := 0x32 } := by
  unfold State.tokenRow
  dsimp only
  rw [hnamed]
  exact if_pos hdiffer

theorem State.tokenRow_none (hnamed : s.named = none) : s.tokenRow = (s.readCopies 0 0 0).loseToken := by
  unfold State.tokenRow
  dsimp only
  rw [hnamed]
  rfl

section
variable (hagree : s.agreesOn h)
include hagree

/-- Copies that agree are judged by the claims and by who is in service. -/
theorem State.tokenRow_agree :
    s.tokenRow =
      if s.safety.claimed (!h) = true ∧ s.inService h = true ∧ s.claimAge h < claimLimit then
        s.fault { code := 0x30, port := shepherdPort (!h) }
      else if s.inService h = true ∧ claimLimit ≤ s.claimAge h then s.fault { code := 0x31, port := shepherdPort h }
      else s.transferToken := by
  unfold State.tokenRow
  dsimp only
  rw [hagree.named]
  exact if_neg (not_not.2 hagree.same)

theorem State.transferToken_agree :
    s.transferToken = if s.inService h then s else if s.inService (!h) then s.nameHolder (!h) else s.loseToken := by
  unfold State.transferToken
  rw [hagree.named]

theorem State.tokenRow_passes (hin : s.inService h = true) (hclaimed : s.safety.claimed (!h) = false)
    (hsoon : s.claimAge h < claimLimit) : s.tokenRow = s := by
  rw [State.tokenRow_agree hagree, if_neg (by simp [hclaimed]), if_neg fun hlate => absurd hsoon (Nat.not_lt.2 hlate.2),
    State.transferToken_agree hagree, if_pos hin]

theorem State.tokenRow_disputed (hclaimed : s.safety.claimed (!h) = true) (hin : s.inService h = true)
    (hsoon : s.claimAge h < claimLimit) : s.tokenRow = s.fault { code := 0x30, port := shepherdPort (!h) } := by
  rw [State.tokenRow_agree hagree, if_pos ⟨hclaimed, hin, hsoon⟩]

theorem State.tokenRow_late (hin : s.inService h = true) (hlate : claimLimit ≤ s.claimAge h) :
    s.tokenRow = s.fault { code := 0x31, port := shepherdPort h } := by
  rw [State.tokenRow_agree hagree, if_neg fun hsoon => absurd hsoon.2.2 (Nat.not_lt.2 hlate), if_pos ⟨hin, hlate⟩]

/-- A holder that is not in service is judged by the other Shepherd alone. -/
theorem State.tokenRow_vacant (hout : s.inService h = false) :
    s.tokenRow = if s.inService (!h) then s.nameHolder (!h) else s.loseToken := by
  rw [State.tokenRow_agree hagree, if_neg (by simp [hout]), if_neg (by simp [hout]), State.transferToken_agree hagree,
    if_neg (by simp [hout])]

end

theorem State.loseToken_holds (hlost : s.safety.tokenLost = false) :
    s.loseToken =
      ((s.onSafety fun y => { y with tokenLost := true }).record { code := 0x33 } (s.reaction 0x33)).beginHold 0x33 true :=
  if_neg (by simp [hlost])

/-- What recording an occurrence changes of the safety partition. -/
theorem State.record_safety (s : State) (f : FaultInfo) (level : Nat) :
    ∃ head ledger overrun irq, (s.record f level).safety =
      { s.safety with head := head, ledger := ledger, overrun := overrun, irq := irq } := by
  have hnew : ∃ head ledger overrun irq, (s.newEntry f level).safety =
      { s.safety with head := head, ledger := ledger, overrun := overrun, irq := irq } :=
    ⟨_, _, _, _, s.newEntry_safety f level⟩
  unfold State.record
  split
  · split
    · exact ⟨_, _, _, _, rfl⟩
    · exact hnew
  · exact hnew

/-! ### The sequencers, RCK and the outputs (R396, R411, R454) -/

theorem State.sequencerMismatch_holds (hready : s.ready = true) :
    s.sequencerMismatch = (s.onSafety fun y => { y with seqBad := true }).beginHold 0 false :=
  if_pos (postDone_of_ready hready)

theorem State.rckLoss_stops (hready : s.ready = true) (hpwr : s.pins.pwrOk = true) (hidle : s.power.rckIdle = false)
    (hlost : s.safety.rckLost = false) :
    s.rckLoss = s.stopClocks.onSafety fun y => { y with rckLost := true, rckStood := true } := by
  have hclock := clock_of_ready hready
  have hneeds : s.rckMayStop = false := by simp [State.rckMayStop, hidle, hclock]
  unfold State.rckLoss
  rw [hpwr, hneeds, hlost, hclock]
  rfl

theorem State.rckReturn_restarts (hlost : s.safety.rckLost = true) (hstood : s.safety.rckStood = true) :
    s.rckReturn =
      (let t := s.onSafety fun y => { y with rckLost := false, rckStood := false }
       (({ t with clock := { t.clock with running := true, sck := 0 } } : State).fault { code := 0x46 }).pumpAll) := by
  unfold State.rckReturn
  rw [hlost, hstood]
  rfl

theorem State.rckReturn_stands (hlost : s.safety.rckLost = true) (hstood : s.safety.rckStood = false)
    (hclock : s.clock.running = false) :
    s.rckReturn =
      (s.onSafety fun y => { y with rckLost := false, rckStood := false }).onSafety fun y =>
        { y with reports := y.reports ++ [{ code := 0x46 }] } := by
  unfold State.rckReturn
  rw [hlost, hstood]
  dsimp only
  rw [State.onSafety_clock, hclock]
  rfl

theorem State.outputTestEnd_judges {t : Nat} (htest : s.safety.test = some t) (hdue : t + 240000 ≤ s.clock.elapsed)
    (padsOk : Bool) :
    s.outputTestEnd padsOk =
      (let u := s.onSafety fun y => { y with test := none, pass := padsOk }
       if padsOk then u.log { code := 0x6D }
       else (u.onSafety fun y => { y with irq := setBit y.irq 4 }).fault { code := 0x25 }) := by
  unfold State.outputTestEnd
  rw [htest]
  exact if_pos hdue

/-! ### The end of a half's reset (R409) -/

/-- A Shepherd is back in service after its reset, its ages restarted; the holder has yet to claim (R409, R416). -/
def State.halfBack (s : State) (h : Bool) : State :=
  (s.onFw fun w => if h then { w with runB := true } else { w with runA := true }).onSafety fun y =>
    let y := if majority y.copy0 y.copy1 y.copy2 = some h then { y with heldClaim := false, tokenLost := false } else y
    if h then { y with halfB := false, resetB := none, wdogB := s.worked, claimB := some s.worked }
    else { y with halfA := false, resetA := none, wdogA := s.worked, claimA := some s.worked }

/-- The writes of the model, one after the other. -/
theorem State.halfBack_eq (s : State) (h : Bool) :
    (let t := (s.onFw fun w => if h then { w with runB := true } else { w with runA := true }).onSafety fun y =>
       if h then { y with halfB := false, resetB := none, wdogB := s.worked }
       else { y with halfA := false, resetA := none, wdogA := s.worked }
     (if t.named = some h then t.onSafety fun y => { y with heldClaim := false, tokenLost := false } else t).claimNow h) =
      s.halfBack h := by
  unfold State.halfBack State.named
  by_cases hnamed : majority s.safety.copy0 s.safety.copy1 s.safety.copy2 = some h <;> cases h <;>
    simp [State.onSafety, State.onFw, State.claimNow, hnamed] <;> rfl

theorem State.halfResetComplete_ends {r : HalfReset} (hready : s.ready = true) (hreset : s.resetOf h = some r)
    (hrun : s.fw.state = .running) (himage : (s.image s.fw.active).state ≠ .empty) :
    s.halfResetComplete h =
      (let t := (s.onFw fun w => if h then { w with runB := true } else { w with runA := true }).onSafety fun y =>
         let y := if majority y.copy0 y.copy1 y.copy2 = some h then { y with heldClaim := false, tokenLost := false } else y
         if h then { y with halfB := false, resetB := none, wdogB := s.worked, claimB := some s.worked }
         else { y with halfA := false, resetA := none, wdogA := s.worked, claimA := some s.worked }
       ((t.log { code := 0x6A, port := shepherdPort h }).onSafety fun y =>
          { y with resetDone := y.resetDone || y.hold }).finish r.token r.cmd { status := .ok }) := by
  unfold State.halfResetComplete
  rw [hreset]
  dsimp only
  rw [if_pos ⟨hready, hrun, himage⟩]
  exact congrArg (fun t : State => (((t.log { code := 0x6A, port := shepherdPort h }).onSafety fun y =>
    { y with resetDone := y.resetDone || y.hold }).finish r.token r.cmd { status := .ok })) (s.halfBack_eq h)

end

/-! ### The rows of the table -/

theorem exec_crookClaim (half : Bool) (s : State) : exec (.crookClaim half) s = .next (s.crookClaim half) := rfl

theorem exec_watchdogWrite (half : Bool) (s : State) : exec (.watchdogWrite half) s = .next (s.watchdogWrite half) := rfl

theorem exec_crookTokenCheck (c0 c1 c2 : BitVec 2) (s : State) :
    exec (.crookTokenCheck c0 c1 c2) s = .next (s.tokenCheck c0 c1 c2).goOn := rfl

theorem exec_watchdogExpire (half : Bool) (s : State) :
    exec (.watchdogExpire half) s = .next (s.watchdogExpire half).goOn := rfl

theorem exec_sequencerMismatch (s : State) : exec .sequencerMismatch s = .next s.sequencerMismatch.goOn := rfl

theorem exec_rckLoss (s : State) : exec .rckLoss s = .next s.rckLoss := rfl

theorem exec_rckReturn (s : State) : exec .rckReturn s = .next s.rckReturn.goOn := rfl

theorem exec_outputTestEnd (padsOk : Bool) (s : State) :
    exec (.outputTestEnd padsOk) s = .next (s.outputTestEnd padsOk).goOn := rfl

theorem exec_halfResetComplete (half : Bool) (s : State) :
    exec (.halfResetComplete half) s = .next (s.halfResetComplete half).goOn := rfl

/-- All copies name a Shepherd whose claim age has just begun (R404, R405). -/
theorem State.nameHolder_names (s : State) (half : Bool) :
    (s.nameHolder half).safety.copy0 = tokenCode half ∧ (s.nameHolder half).safety.copy1 = tokenCode half ∧
      (s.nameHolder half).safety.copy2 = tokenCode half ∧ (s.nameHolder half).safety.heldClaim = false ∧
      (s.nameHolder half).safety.tokenLost = false ∧ (s.nameHolder half).safety.claim half = some s.worked := by
  obtain ⟨head, ledger, overrun, irq, hsafety⟩ := State.record_safety
    ((s.claimNow half).onSafety fun y =>
      { y with copy0 := tokenCode half, copy1 := tokenCode half, copy2 := tokenCode half, heldClaim := false
               tokenLost := false })
    { code := 0x6B, port := shepherdPort half } 0
  have hclaim : (s.claimNow half).safety.claim half = some s.worked := by cases half <;> rfl
  unfold State.nameHolder State.log
  rw [hsafety]
  exact ⟨rfl, rfl, rfl, rfl, rfl, hclaim⟩

/-- The rows of a check that applies, each by the copies as they are read. -/
theorem tokenCheck_row {s u : State} {t : Nat} {c0 c1 c2 : BitVec 2} (hready : s.ready = true)
    (hfrom : s.safety.crookFrom = some t) (hdue : t ≤ s.worked) (hrow : (s.readCopies c0 c1 c2).tokenRow = u) :
    exec (.crookTokenCheck c0 c1 c2) s = .next u.claimsJudged.goOn := by
  rw [exec_crookTokenCheck, State.tokenCheck_judges c0 c1 c2 hready hfrom hdue, hrow]

theorem readCopies_agreesOn (s : State) (half : Bool) {c0 c1 c2 : BitVec 2} (h0 : c0 = tokenCode half)
    (h1 : c1 = tokenCode half) (h2 : c2 = tokenCode half) : (s.readCopies c0 c1 c2).agreesOn half := ⟨h0, h1, h2⟩

/-- Settles O52: each clause is the branch of its function, or the row of Table 14-3, that the lemmas above name. -/
theorem safetyRows : Obligations.SafetyRows := by
  refine ⟨fun s half hready => ⟨fun hruns => ?_, fun hruns => ?_, fun t hfrom hdue hin hclaimed hsoon => ?_,
    fun t c0 c1 c2 hfrom hdue => ⟨fun hmajority hdiffer => ?_, fun h0 h1 h2 hclaimed hin hsoon => ?_,
      fun h0 h1 h2 hin hlate => ?_, fun h0 h1 h2 hout hother => ?_, fun h0 h1 h2 hout hother hlost => ?_,
      fun hmajority hlost => ?_⟩,
    s.nameHolder_names half, fun hruns hen hstate hlate => ?_, ?_, fun hpwr hidle hlost => ?_,
    fun t htest hdue => ⟨?_, ?_⟩, fun c0 c1 c2 hfrom => ?_, fun r hreset hrun himage => ?_⟩,
    fun s hlost => ⟨fun hstood => ?_, fun hstood hclock => ?_⟩⟩
  · rw [exec_crookClaim, State.crookClaim_claims hready hruns]
  · rw [exec_watchdogWrite, State.watchdogWrite_writes hready hruns]
  · exact tokenCheck_row hready hfrom hdue
      (State.tokenRow_passes (readCopies_agreesOn s half rfl rfl rfl) hin hclaimed hsoon)
  · exact tokenCheck_row hready hfrom hdue (State.tokenRow_disagree hmajority hdiffer)
  · exact tokenCheck_row hready hfrom hdue
      (State.tokenRow_disputed (readCopies_agreesOn s half h0 h1 h2) hclaimed hin hsoon)
  · exact tokenCheck_row hready hfrom hdue (State.tokenRow_late (readCopies_agreesOn s half h0 h1 h2) hin hlate)
  · exact tokenCheck_row hready hfrom hdue
      ((State.tokenRow_vacant (readCopies_agreesOn s half h0 h1 h2) hout).trans (if_pos hother))
  · have hother' : ¬ (s.readCopies c0 c1 c2).inService (!half) = true := Bool.eq_false_iff.1 hother
    exact tokenCheck_row hready hfrom hdue
      ((State.tokenRow_vacant (readCopies_agreesOn s half h0 h1 h2) hout).trans
        ((if_neg hother').trans (State.loseToken_holds hlost)))
  · exact tokenCheck_row hready hfrom hdue
      ((State.tokenRow_none (s := s.readCopies c0 c1 c2) hmajority).trans (State.loseToken_holds hlost))
  · rw [exec_watchdogExpire, State.watchdogExpire_expires hready hruns hen hstate hlate]
  · rw [exec_sequencerMismatch, State.sequencerMismatch_holds hready]
  · rw [exec_rckLoss, State.rckLoss_stops hready hpwr hidle hlost]
  · rw [exec_outputTestEnd, State.outputTestEnd_judges htest hdue]
    rfl
  · rw [exec_outputTestEnd, State.outputTestEnd_judges htest hdue]
    rfl
  · rw [exec_crookTokenCheck, State.tokenCheck_unarmed c0 c1 c2 hready hfrom]
    rfl
  · rw [exec_halfResetComplete, State.halfResetComplete_ends hready hreset hrun himage]
  · rw [exec_rckReturn, State.rckReturn_restarts hlost hstood]
  · rw [exec_rckReturn, State.rckReturn_stands hlost hstood hclock]

end Sys2Proof.Machine
end

section
/-!
PROOFS. The service port (R373, R418 to R421): what its frame leaves, one lemma for each frame that is served, and the ends of
the image operations.
-/

namespace Sys2Proof.Machine

section
variable {s : State}

/-! ### A frame arrives (R373, R420) -/

/-- The status word is the answer of a frame, whose edge wakes the block. -/
def State.svcEdge (s : State) : State := (s.onSvc fun v => { v with lastAnswer := s.svcStatus }).wakeBlock

/-- A wake of the block writes the power controller alone. -/
theorem State.wakeBlock_reads {α : Type} {f : State → α} (hf : ∀ (t : State) p, f { t with power := p } = f t)
    (s : State) : f s.wakeBlock = f s := by
  unfold State.wakeBlock
  split
  · exact hf s _
  · rfl

theorem State.wakeBlock_block (s : State) : s.wakeBlock.power.block = s.power.block := by
  unfold State.wakeBlock
  split <;> rfl

@[simp] theorem State.svcEdge_fw (s : State) :
    s.svcEdge.fw = { s.fw with svc := { s.fw.svc with lastAnswer := s.svcStatus } } :=
  State.wakeBlock_reads (f := State.fw) (fun _ _ => rfl) _

@[simp] theorem State.svcEdge_lifecycle (s : State) : s.svcEdge.safety.lifecycle = s.safety.lifecycle :=
  State.wakeBlock_reads (f := fun u => u.safety.lifecycle) (fun _ _ => rfl) _

@[simp] theorem State.svcEdge_ready (s : State) : s.svcEdge.svcReady = s.svcReady := by
  have hpost : s.svcEdge.integ.postDone = s.integ.postDone :=
    State.wakeBlock_reads (f := fun u => u.integ.postDone) (fun _ _ => rfl) _
  have hblock : s.svcEdge.power.block = s.power.block := State.wakeBlock_block _
  unfold State.svcReady
  rw [hpost, hblock]

/-- What a slot's lock reads is no part of the service port. -/
theorem State.svcEdge_locked (s : State) (k : Nat) : s.svcEdge.slotLocked k = s.slotLocked k :=
  State.wakeBlock_reads (f := fun u => u.slotLocked k) (fun _ _ => rfl) _

section
variable {f : State → State} (hpwr : s.pins.pwrOk = true)
include hpwr

theorem State.svcFrame_served (hready : s.svcReady = true) : s.svcFrame f = f s.svcEdge := by
  have hon : ¬ (!s.pins.pwrOk) = true := by rw [hpwr]; decide
  unfold State.svcFrame
  rw [if_neg hon]
  exact if_pos (s.svcEdge_ready.trans hready)

theorem State.svcFrame_notReady (hnot : s.svcReady = false) : s.svcFrame f = s.svcEdge.svcResult 6 := by
  have hon : ¬ (!s.pins.pwrOk) = true := by rw [hpwr]; decide
  have hoff : ¬ s.svcEdge.svcReady = true := by rw [s.svcEdge_ready, hnot]; decide
  unfold State.svcFrame
  rw [if_neg hon]
  exact if_neg hoff

theorem State.imageFrame_served (hready : s.svcReady = true) (hlife : s.safety.lifecycle ≠ 4)
    (hidle : s.fw.svc.busy = false) : s.imageFrame f = f s.svcEdge := by
  have hlife' : ¬ s.svcEdge.safety.lifecycle = 4 := by rw [s.svcEdge_lifecycle]; exact hlife
  have hidle' : ¬ s.svcEdge.fw.svc.busy = true := by rw [s.svcEdge_fw]; exact ne_true_of_eq_false hidle
  unfold State.imageFrame
  rw [State.svcFrame_served hpwr hready, if_neg hlife', if_neg hidle']

end

/-! ### The frames that are served (Table 15-4) -/

theorem State.svcBytes_runs {f : SvcFrame} {b : Byte} {rest : List Byte} {op : SvcOp} (hmosi : f.mosi = b :: rest)
    (hop : svcOp b.toNat = some op) (hform : frameOk op f.mosi = true) :
    s.svcBytes f = s.svcRun op f.mosi f.flashOk := by
  unfold State.svcBytes
  rw [hmosi] at hform ⊢
  dsimp only [List.head?_cons]
  rw [hop]
  dsimp only
  rw [if_pos hform]

section
variable (hpwr : s.pins.pwrOk = true) (hready : s.svcReady = true)
include hpwr hready

theorem State.svcBytes_empty {f : SvcFrame} (hmosi : f.mosi = []) : s.svcBytes f = s.svcEdge.svcResult 1 := by
  unfold State.svcBytes
  rw [hmosi]
  exact State.svcFrame_served hpwr hready

theorem State.svcBytes_badOp {f : SvcFrame} {b : Byte} {rest : List Byte} (hmosi : f.mosi = b :: rest)
    (hop : svcOp b.toNat = none) : s.svcBytes f = s.svcEdge.svcResult 8 := by
  unfold State.svcBytes
  rw [hmosi]
  dsimp only [List.head?_cons]
  rw [hop]
  exact State.svcFrame_served hpwr hready

theorem State.svcBytes_badForm {f : SvcFrame} {b : Byte} {rest : List Byte} {op : SvcOp} (hmosi : f.mosi = b :: rest)
    (hop : svcOp b.toNat = some op) (hform : frameOk op f.mosi = false) : s.svcBytes f = s.svcEdge.svcResult 1 := by
  have hnot : ¬ frameOk op (b :: rest) = true := by rw [← hmosi, hform]; decide
  unfold State.svcBytes
  rw [hmosi]
  dsimp only [List.head?_cons]
  rw [hop]
  dsimp only
  rw [if_neg hnot, State.svcFrame_served hpwr hready]

theorem State.imgOpen_opens {arg : BitVec 32} (hlife : s.safety.lifecycle ≠ 4) (hidle : s.fw.svc.busy = false)
    (hslot : arg.toNat ≤ 1) (hfree : s.slotLocked arg.toNat = false) :
    s.imgOpen arg true =
      ((((s.svcEdge.onImage arg.toNat fun l => { state := .empty, blocks := l.blocks.erase 0 }).onFw fun w =>
        w.setBoot (w.boot.mark arg.toNat false)).svcResult 0).onSvc fun v =>
        { v with open_ := some arg.toNat, blocks := 0, done := [] }) := by
  have hopen : ¬ (1 < arg.toNat ∨ s.svcEdge.slotLocked arg.toNat = true) := by
    rw [s.svcEdge_locked, hfree]
    rintro (h | h)
    · omega
    · exact Bool.noConfusion h
  unfold State.imgOpen
  rw [State.imageFrame_served hpwr hready hlife hidle]
  exact (if_neg hopen).trans (if_pos rfl)

theorem State.imgBlock_takes {arg : BitVec 32} {data : BitVec 32768} {k : Nat} (hlife : s.safety.lifecycle ≠ 4)
    (hidle : s.fw.svc.busy = false) (hopen : s.fw.svc.open_ = some k) (harg : arg.toNat < 256) :
    s.imgBlock arg data =
      (s.svcEdge.svcResult 0).onSvc fun v => { v with busy := true, staging := v.staging ++ [(arg.toNat, data)] } := by
  have htaken : ¬ (s.svcEdge.fw.svc.open_ = none ∨ 256 ≤ arg.toNat) := by
    rw [s.svcEdge_fw]
    dsimp only
    rw [hopen]
    simpa using harg
  unfold State.imgBlock
  rw [State.imageFrame_served hpwr hready hlife hidle]
  exact if_neg htaken

/-- IMG_CLOSE takes the blocks 0 to N − 1 and no other (Table 15-4). -/
theorem State.imgClose_begins {arg : BitVec 32} {k : Nat} (hlife : s.safety.lifecycle ≠ 4) (hidle : s.fw.svc.busy = false)
    (hopen : s.fw.svc.open_ = some k) (hsome : arg.toNat ≠ 0) (hmost : arg.toNat ≤ 256)
    (hwhole : ∀ i, i < arg.toNat ↔ i ∈ s.fw.svc.done) :
    s.imgClose arg = (s.svcEdge.svcResult 0).onSvc fun v => { v with busy := true, closing := some (k, arg.toNat) } := by
  have hwhole' : ¬ (arg.toNat = 0 ∨ 256 < arg.toNat ∨
      (!(List.range arg.toNat).all s.svcEdge.fw.svc.done.contains) = true ∨
      s.svcEdge.fw.svc.done.any (fun i => decide (arg.toNat ≤ i)) = true) := by
    rw [s.svcEdge_fw]
    have hall : (List.range arg.toNat).all s.fw.svc.done.contains = true :=
      List.all_eq_true.2 fun i hi => List.contains_iff_mem.2 ((hwhole i).1 (List.mem_range.1 hi))
    have hno : ¬ s.fw.svc.done.any (fun i => decide (arg.toNat ≤ i)) = true := fun hany => by
      obtain ⟨i, hi, hle⟩ := List.any_eq_true.1 hany
      exact absurd ((hwhole i).2 hi) (Nat.not_lt.2 (of_decide_eq_true hle))
    dsimp only
    rw [hall]
    rintro (h | h | h | h)
    · exact hsome h
    · omega
    · exact Bool.noConfusion h
    · exact hno h
  have hopen' : s.svcEdge.fw.svc.open_ = some k := by rw [s.svcEdge_fw]; exact hopen
  unfold State.imgClose
  rw [State.imageFrame_served hpwr hready hlife hidle]
  dsimp only
  rw [hopen']
  exact if_neg hwhole'

theorem State.svcRead_takes {len : Nat} (hlen : len ≤ 4096) :
    s.svcRead len =
      ((s.svcEdge.svcResult 0).onSvc fun v =>
        { v with out := v.out.drop len
                 lastAnswer := v.lastAnswer ++
                   (v.out.take len ++ List.replicate (len - (v.out.take len).length) 0) ++
                   toBytes 4 (crc32c (v.out.take len ++ List.replicate (len - (v.out.take len).length) 0)) }).endReadDump := by
  unfold State.svcRead
  rw [if_neg (Nat.not_lt.2 hlen), State.svcFrame_served hpwr hready]
  rfl

end

/-! ### The ends of the image operations (R419, R421) -/

theorem State.imgProgrammed_good {i k : Nat} {data : BitVec 32768} {rest : List (Nat × BitVec 32768)}
    (hstaged : s.fw.svc.staging = (i, data) :: rest) (hopen : s.fw.svc.open_ = some k) :
    s.imgProgrammed true =
      (((s.onImage k fun l => { l with blocks := l.blocks.set i data }).svcResult 0).onSvc fun v =>
        { v with staging := rest, busy := !rest.isEmpty, done := s.fw.svc.done.filter (fun j => j != i) ++ [i]
                 blocks := (s.fw.svc.done.filter (fun j => j != i) ++ [i]).length }) := by
  unfold State.imgProgrammed
  rw [hstaged, hopen]
  rfl

/-- The end of a check: the image operation is over, with its result and the number of the check that failed. -/
def State.imgEnds (u : State) (r check : Nat) : State :=
  (u.onSvc fun v =>
    { v with busy := false, closing := none, open_ := none, done := [], result := r, vcheck := check }).fwFlag 3

/-- The number of the first check that a closed image fails, 0 where it passes them all (R419). -/
def State.closeCheck (s : State) (k n : Nat) : Nat :=
  if (s.image k).formOk && (s.image k).length != 4096 * n then 1 else s.verify k

section
variable {k n : Nat} (hclosing : s.fw.svc.closing = some (k, n))
include hclosing

theorem State.imgCloseEnd_verified (hcheck : s.closeCheck k n = 0) :
    s.imgCloseEnd = (s.onImage k fun l => { l with state := .verified }).imgEnds 0 0 := by
  unfold State.closeCheck at hcheck
  unfold State.imgCloseEnd
  rw [hclosing]
  dsimp only
  rw [hcheck]
  rfl

theorem State.imgCloseEnd_failed {check : Nat} (hcheck : s.closeCheck k n = check) (hbad : check ≠ 0) :
    s.imgCloseEnd = s.imgEnds 5 check := by
  unfold State.closeCheck at hcheck
  unfold State.imgCloseEnd
  rw [hclosing]
  dsimp only
  rw [hcheck, if_neg hbad, if_neg hbad]
  rfl

end

theorem State.closeCheck_whole {k n : Nat} (hlength : (s.image k).length = 4096 * n) : s.closeCheck k n = s.verify k := by
  unfold State.closeCheck
  rw [hlength, bne_self_eq_false, Bool.and_false]
  rfl

theorem State.closeCheck_short {k n : Nat} (hform : (s.image k).formOk = true) (hlength : (s.image k).length ≠ 4096 * n) :
    s.closeCheck k n = 1 := by
  unfold State.closeCheck
  rw [hform, bne_iff_ne.2 hlength]
  rfl

/-! ### The receiver of the monitor (R431) -/

theorem State.monChar_enters {ch : Byte} (hpwr : s.pins.pwrOk = true) (hroom : s.fw.mon.fifo.length < 64)
    (hrun : s.running) : s.monChar ch = s.onMon fun m => { m with fifo := m.fifo ++ [ch] } := by
  have hon : ¬ (!s.pins.pwrOk) = true := by rw [hpwr]; decide
  unfold State.monChar
  rw [if_neg hon]
  exact (congrArg (fun m => (s.onFw fun w => { w with mon := m }).wakeBlock) (if_pos hroom)).trans (wakeBlock_running hrun)

theorem Mon.take_ends (m : Mon) {b : Byte} (h : b = 0x0D ∨ b = 0x0A) :
    m.take b = { m with line := [], lines := m.lines ++ monParse m.line } := if_pos h

theorem Mon.take_char {m : Mon} {b : Byte} (hcr : b ≠ 0x0D) (hlf : b ≠ 0x0A) (hroom : m.line.length < 128) :
    m.take b = { m with line := m.line ++ [b] } := by
  unfold Mon.take
  rw [if_neg (not_or.2 ⟨hcr, hlf⟩), if_pos hroom]

theorem Mon.take_drops {m : Mon} {b : Byte} (hcr : b ≠ 0x0D) (hlf : b ≠ 0x0A) (hfull : 128 ≤ m.line.length) :
    m.take b = m := by
  unfold Mon.take
  rw [if_neg (not_or.2 ⟨hcr, hlf⟩), if_neg (Nat.not_lt.2 hfull)]

end

end Sys2Proof.Machine
end

section
/-!
PROOFS. The monitor (R431, R432): a line that its state allows is acted on, and each command with good operands is answered with
what it shows.
-/

namespace Sys2Proof.Machine

section
variable {s : State}

/-! ### The line (R431) -/

/-- The line of a command is the oldest, and the only one. -/
def State.monGiven (s : State) (c : MonCmd) : State := s.onMon fun m => { m with lines := [c] }

/-- The monitor has no part in what a range meets. -/
theorem State.onMon_checkRange (s : State) (f : Mon → Mon) (ctx : Nat) (needs : List Need) (remote : Bool)
    (fuel a len : Nat) : (s.onMon f).checkRange ctx needs remote fuel a len = s.checkRange ctx needs remote fuel a len := by
  induction fuel generalizing a len with
  | zero => rfl
  | succ fuel ih =>
    unfold State.checkRange
    simp only [ih]
    rfl

theorem State.monGiven_rangeFails (s : State) (c : MonCmd) (ctx : Nat) (needs : List Need) (remote : Bool) (a len : Nat) :
    (s.monGiven c).rangeFails ctx needs remote a len = s.rangeFails ctx needs remote a len :=
  congrArg (Option.map Prod.fst) (s.onMon_checkRange _ ctx needs remote 400 a len)

theorem State.monServe_line {c : MonCmd} {rest : List MonCmd} (hlines : s.fw.mon.lines = c :: rest)
    (hgood : ∀ st, c ≠ .wrong st) (hruns : s.monRuns = true) :
    s.monServe =
      if (monAllowed s.safety.lifecycle).contains c.name = true then (s.monAct c).settle
      else s.monAnswer [] .lifecycle := by
  unfold State.monServe
  rw [hlines, hruns]
  cases c with
  | wrong st => exact absurd rfl (hgood st)
  | _ =>
    dsimp only
    cases (monAllowed s.safety.lifecycle).contains _ <;> rfl

section
variable {c : MonCmd} (hruns : s.monRuns = true) (hlines : s.fw.mon.lines = []) (hgood : ∀ st, c ≠ .wrong st)
include hruns hlines hgood

theorem State.monitor_line :
    s.monitor c =
      if (monAllowed s.safety.lifecycle).contains c.name = true then ((s.monGiven c).monAct c).settle
      else (s.monGiven c).monAnswer [] .lifecycle := by
  have hon : ¬ (!s.monRuns) = true := by rw [hruns]; decide
  have hgiven : (s.onMon fun m => { m with lines := m.lines ++ [c] }) = s.monGiven c :=
    congrArg (fun ls => s.onMon fun m => { m with lines := ls ++ [c] }) hlines
  unfold State.monitor
  rw [if_neg hon, hgiven]
  exact State.monServe_line rfl hgood hruns

theorem State.monitor_acts {t : State} (hok : (monAllowed s.safety.lifecycle).contains c.name = true)
    (hact : (s.monGiven c).monAct c = t) : s.monitor c = t.settle := by
  rw [State.monitor_line hruns hlines hgood, if_pos hok, hact]

theorem State.monitor_refuses (hnot : (monAllowed s.safety.lifecycle).contains c.name = false) :
    s.monitor c = (s.monGiven c).monAnswer [] .lifecycle := by
  rw [State.monitor_line hruns hlines hgood, hnot, if_neg Bool.false_ne_true]

end

/-! ### The commands with good operands (Table 15-7) -/

/-- The clusters that a command needs run: it goes on at once. -/
theorem State.monNeeds_awake {cs : List Nat} {cause : Nat} {f : State → State} (hawake : s.sleeping cs = []) :
    s.monNeeds cs cause f = f (cs.foldl (fun t c => t.wakeCluster c cause) s) := by
  unfold State.monNeeds
  rw [hawake]

theorem State.monPeekR_shows {addr : BitVec 24} {n : Nat} (hsome : 1 ≤ n) (hmost : n ≤ 64)
    (hawake : s.sleeping (s.regClusters addr n) = []) :
    s.monPeekR addr n =
      let u := (s.regClusters addr n).foldl (fun t c => t.wakeCluster c 5) s
      (u.monRegs addr n).2.monAnswer (u.monRegs addr n).1 .ok := by
  unfold State.monPeekR
  rw [if_neg (by omega), State.monNeeds_awake hawake]

/-- Initiator 64 has the context 0 in its range. -/
theorem State.owns64_notNot {ctx : Nat} (howns : s.owns64 ctx = true) : ¬ (!s.owns64 ctx) = true := by
  rw [howns]
  decide

theorem State.monPeekM_shows {a n : Nat} (hsome : 1 ≤ n) (hmost : n ≤ 4096) (howns : s.owns64 0 = true)
    (hrange : s.rangeFails 0 [.r] false a n = none) (hawake : s.sleeping (s.clustersOf a n) = []) :
    let u := (s.clustersOf a n).foldl (fun t c => t.wakeCluster c 1) s
    u.spanFree a n false = true →
    s.monPeekM a n = (u.initRead a n).2.monAnswer (monBytes a (u.initRead a n).1) .ok := by
  intro u hfree
  have hgo : ¬ (!u.spanFree a n false) = true := by rw [hfree]; decide
  unfold State.monPeekM
  rw [if_neg (by omega), if_neg (State.owns64_notNot howns), hrange]
  exact (State.monNeeds_awake hawake).trans (if_neg hgo)

theorem State.monPokeR_writes {addr : BitVec 24} {v : BitVec 32} (hplace : addr.toNat < 0x800000)
    (hawake : s.sleeping (s.regClusters addr 1) = []) :
    s.monPokeR addr v =
      (((s.regClusters addr 1).foldl (fun t c => t.wakeCluster c 5) s).regWrite
        { sp := false, write := true, addr := addr, data := v }).monAnswer [] .ok := by
  have hopen : ¬ decide (0x800000 ≤ addr.toNat) = true := fun h => Nat.not_lt.2 (of_decide_eq_true h) hplace
  unfold State.monPokeR
  exact (if_neg hopen).trans (State.monNeeds_awake hawake)

section
variable {a : Nat} {v : BitVec 32} (halign : a % 4 = 0) (hhold : s.safety.hold = false)
include halign hhold

theorem State.monPokeM_writes (howns : s.owns64 0 = true) (hrange : s.rangeFails 0 [.w] false a 4 = none)
    (hawake : s.sleeping (s.clustersOf a 4) = []) :
    let u := (s.clustersOf a 4).foldl (fun t c => t.wakeCluster c 1) s
    u.spanFree a 4 true = true → s.monPokeM a v = (u.initWrite a (toBytes 4 v.toNat)).monAnswer [] .ok := by
  intro u hfree
  unfold State.monPokeM
  rw [if_neg (not_not.2 halign), if_neg (ne_true_of_eq_false hhold), if_neg (State.owns64_notNot howns), hrange]
  exact (State.monNeeds_awake hawake).trans (if_pos hfree)

theorem State.monPokeM_notOwn (hnot : s.owns64 0 = false) : s.monPokeM a v = s.count64.monAnswer [] .perm := by
  have hforeign : (!s.owns64 0) = true := congrArg not hnot
  unfold State.monPokeM
  rw [if_neg (not_not.2 halign), if_neg (ne_true_of_eq_false hhold), if_pos hforeign]

end

/-- The clusters that folds names. -/
def State.foldClusters (s : State) : Option Nat → List Nat
  | some c => [c]
  | none => List.range s.cfg.clusters

theorem State.monFolds_shows {who : Option Nat}
    (hruns : ∀ c ∈ s.foldClusters who, s.hasCluster c = true ∧ s.inRun c = true) :
    s.monFolds who =
      let u := (s.foldClusters who).foldl (fun t c => t.wakeCluster c 1) s
      u.monAnswer (((u.folds.folds.filter fun e =>
        decide (e.2.state ≠ .free) && (s.foldClusters who).contains (e.1 / 2048)).map Prod.fst).map fun i =>
          .fold (BitVec.ofNat 256 (ofBytes (u.dumpRecord i)))) .ok := by
  have hthere : ¬ (s.foldClusters who).any (fun c => !s.hasCluster c) = true := fun hany => by
    obtain ⟨c, hc, hno⟩ := List.any_eq_true.1 hany
    rw [(hruns c hc).1] at hno
    exact Bool.noConfusion hno
  have hawake : s.sleeping (s.foldClusters who) = [] :=
    List.filter_eq_nil_iff.2 fun c hc => by rw [(hruns c hc).2]; decide
  exact (if_neg hthere).trans (State.monNeeds_awake hawake)

/-- The registers of a group of stats are read and shown. -/
def State.showStats (s : State) (m : Model) (group : Nat) : State :=
  (s.monRuns' (statsRuns m group)).2.monAnswer (s.monRuns' (statsRuns m group)).1 .ok

/-- The clusters that a group of stats has registers in. -/
def State.statsClusters (s : State) (group : Nat) : List Nat :=
  if group ∈ [2, 3, 4, 6, 7] then List.range s.cfg.clusters else []

theorem State.monStats_shows {group : Nat} (hgroup : group ≤ 8) (hawake : s.sleeping (s.statsClusters group) = []) :
    s.monStats group =
      ((s.statsClusters group).foldl (fun t c => t.wakeCluster c 5) s).showStats s.cfg group := by
  have hcfg : ((s.statsClusters group).foldl (fun t c => t.wakeCluster c 5) s).cfg = s.cfg :=
    congrArg Prod.fst (foldl_fixed _ (fun t c => t.wakeCluster_fixed c 5) _ s)
  unfold State.monStats
  rw [if_neg (Nat.not_lt.2 hgroup)]
  exact (State.monNeeds_awake hawake).trans (congrArg (fun m => State.showStats _ m group) hcfg)

end

/-- Settles O54: a frame that is served runs on the state that its edge left (`State.svcFrame_served`), and a monitor command is
acted on in its turn (`State.monitor_acts`); each clause cites the lemma of its frame or command. -/
theorem serviceAndMonitorRows : Obligations.ServiceAndMonitorRows := by
  refine ⟨fun s hready => ?_, fun s => ⟨fun hpwr hnot => ?_, fun i data rest k hstaged hopen => ?_,
    fun k n hclosing => ⟨fun hlength hpass => ?_, fun hlength hfail => ?_, fun hform hlength => ?_⟩,
    fun ch hpwr hroom hblock hattempt => ?_,
    fun m => ⟨m.take_ends (.inl rfl), m.take_ends (.inr rfl), fun b hcr hlf =>
      ⟨fun hroom => Mon.take_char hcr hlf hroom, fun hfull => Mon.take_drops hcr hlf hfull⟩⟩,
    fun hruns hlines => ?_⟩⟩
  · intro t hpwr
    refine ⟨?_, fun f hmosi => ?_,
      fun f b rest hmosi => ⟨fun hop => ?_, fun op hop => ⟨fun hform => ?_, fun hform => ?_⟩⟩,
      fun arg hlife hidle hslot hfree => ?_, fun arg data k hlife hidle hopen harg => ?_,
      fun arg k hlife hidle hopen hsome hmost hwhole => ?_, fun len hlen => ?_⟩
    · exact congrArg Host.Outcome.next (State.svcFrame_served hpwr hready)
    · exact congrArg (fun u => Host.Outcome.next u.goOn) (State.svcBytes_empty hpwr hready hmosi)
    · exact congrArg (fun u => Host.Outcome.next u.goOn) (State.svcBytes_badOp hpwr hready hmosi hop)
    · exact congrArg (fun u => Host.Outcome.next u.goOn) (State.svcBytes_badForm hpwr hready hmosi hop hform)
    · exact congrArg (fun u => Host.Outcome.next u.goOn) (State.svcBytes_runs hmosi hop hform)
    · exact congrArg Host.Outcome.next (State.imgOpen_opens hpwr hready hlife hidle hslot hfree)
    · exact congrArg Host.Outcome.next (State.imgBlock_takes hpwr hready hlife hidle hopen harg)
    · exact congrArg Host.Outcome.next (State.imgClose_begins hpwr hready hlife hidle hopen hsome hmost hwhole)
    · exact congrArg (fun u => Host.Outcome.next u.goOn) (State.svcRead_takes hpwr hready hlen)
  · exact congrArg Host.Outcome.next (State.svcFrame_notReady hpwr hnot)
  · exact congrArg Host.Outcome.next (State.imgProgrammed_good hstaged hopen)
  · exact congrArg Host.Outcome.next (State.imgCloseEnd_verified hclosing ((State.closeCheck_whole hlength).trans hpass))
  · exact congrArg Host.Outcome.next (State.imgCloseEnd_failed hclosing (State.closeCheck_whole hlength) hfail)
  · exact congrArg Host.Outcome.next (State.imgCloseEnd_failed hclosing (State.closeCheck_short hform hlength) (by decide))
  · exact congrArg Host.Outcome.next (State.monChar_enters hpwr hroom ⟨hblock, hattempt⟩)
  · intro ok given
    refine ⟨fun hok => ?_, fun addr n hok hsome hmost hawake => ?_, fun a n hok hsome hmost howns hrange hawake hfree => ?_,
      fun addr v hok hplace hawake => ?_, fun a v hok halign hhold howns hrange hawake hfree => ?_,
      fun a v hok halign hhold hnot => ?_, fun who hok hthere => ?_, fun n hok hsome hmost => ?_,
      fun group hok hgroup hawake => ?_, fun rate hok hleast hmost => ?_, fun hnot a v => ?_⟩
    · exact congrArg Host.Outcome.next (State.monitor_acts (c := .help) hruns hlines nofun hok rfl)
    · exact congrArg Host.Outcome.next (State.monitor_acts (c := .peekR addr n) hruns hlines nofun hok
        (State.monPeekR_shows hsome hmost hawake))
    · exact congrArg Host.Outcome.next (State.monitor_acts (c := .peekM a n) hruns hlines nofun hok
        (State.monPeekM_shows hsome hmost howns ((s.monGiven_rangeFails ..).trans hrange) hawake hfree))
    · exact congrArg Host.Outcome.next (State.monitor_acts (c := .pokeR addr v) hruns hlines nofun hok
        (State.monPokeR_writes hplace hawake))
    · exact congrArg Host.Outcome.next (State.monitor_acts (c := .pokeM a v) hruns hlines nofun hok
        (State.monPokeM_writes halign hhold howns ((s.monGiven_rangeFails ..).trans hrange) hawake hfree))
    · exact congrArg Host.Outcome.next (State.monitor_acts (c := .pokeM a v) hruns hlines nofun hok
        (State.monPokeM_notOwn halign hhold hnot))
    · exact congrArg Host.Outcome.next (State.monitor_acts (c := .folds who) hruns hlines nofun hok
        (State.monFolds_shows hthere))
    · have hgood : ¬ (n = 0 ∨ 1024 < n) := by omega
      exact congrArg Host.Outcome.next (State.monitor_acts (c := .ledger n) hruns hlines nofun hok (if_neg hgood))
    · exact congrArg Host.Outcome.next (State.monitor_acts (c := .stats group) hruns hlines nofun hok
        (State.monStats_shows hgroup hawake))
    · have hgood : ¬ (rate < 9600 ∨ 3000000 < rate) := by omega
      exact congrArg Host.Outcome.next (State.monitor_acts (c := .baud rate) hruns hlines nofun hok (if_neg hgood))
    · exact congrArg Host.Outcome.next (State.monitor_refuses (c := .pokeM a v) hruns hlines nofun hnot)

end Sys2Proof.Machine
end

section
/-!
PROOFS. The commands of firmware and settings, and those of the safety sequencer (R401 to R414, R422 to R430): FW_QUERY writes
nothing, CONFIRM_WINDOW_SET and the watchdogs of SAFETY_CFG write what starts nothing in the command interface, ACTIVATE_AT and
HALF_RESET go on, and the others end with what they did.
-/

namespace Sys2Proof.Machine

section
variable {s : State} {c : Cmd}

/-! ### Settings (R430) -/

/-- What SETTINGS_WRITE leaves of a good record: FLASH fails, or the record is in force and its repairs are installed. -/
def State.takeSettings (t : State) (bs : List Byte) : Act :=
  if bitOf t.draw.1.toNat 0 then .done { status := .internal } t.draw.2.failSettings
  else
    let u := (t.draw.2.writeSettings (bs.drop 32)).onFw fun w =>
      { w with items := { w.items with repairs := (itemsOf (bs.drop 32)).repairs } }
    Act.ok (u.fw.items.repairs.foldl State.installRepair u)

theorem settingsWrite_act (token : Nat) (hclean : (s.initRead (c.par 8 5) (c.par 0 4)).1.marked = [])
    (hgood : (s.initRead (c.par 8 5) (c.par 0 4)).2.settingsGood (s.initRead (c.par 8 5) (c.par 0 4)).1.bytes = true) :
    bodySettingsWrite.act token c s =
      (s.initRead (c.par 8 5) (c.par 0 4)).2.takeSettings (s.initRead (c.par 8 5) (c.par 0 4)).1.bytes := by
  have hnotBad : ¬ (!(s.initRead (c.par 8 5) (c.par 0 4)).2.settingsGood
      (s.initRead (c.par 8 5) (c.par 0 4)).1.bytes) = true := by rw [hgood]; decide
  exact (if_neg fun h => h hclean).trans (if_neg hnotBad)

theorem settingsWrite_row (h : s.takes bodySettingsWrite c = true)
    (hclean : (((s.reached bodySettingsWrite c).given c).initRead (c.par 8 5) (c.par 0 4)).1.marked = [])
    (hgood : (((s.reached bodySettingsWrite c).given c).initRead (c.par 8 5) (c.par 0 4)).2.settingsGood
      (((s.reached bodySettingsWrite c).given c).initRead (c.par 8 5) (c.par 0 4)).1.bytes = true) :
    let got := (((s.reached bodySettingsWrite c).given c).initRead (c.par 8 5) (c.par 0 4)).1
    let t := (((s.reached bodySettingsWrite c).given c).initRead (c.par 8 5) (c.par 0 4)).2
    runRow bodySettingsWrite c s =
      if bitOf t.draw.1.toNat 0 then t.draw.2.failSettings.ends s.cmd.accepted c { status := .internal }
      else
        let u := (t.draw.2.writeSettings (got.bytes.drop 32)).onFw fun w =>
          { w with items := { w.items with repairs := (itemsOf (got.bytes.drop 32)).repairs } }
        (u.fw.items.repairs.foldl State.installRepair u).ends s.cmd.accepted c { status := .ok } := by
  intro got t
  have hact : bodySettingsWrite.act s.cmd.accepted c (s.touched bodySettingsWrite c) = t.takeSettings got.bytes :=
    settingsWrite_act _ hclean hgood
  by_cases hfail : bitOf t.draw.1.toNat 0 = true
  · rw [if_pos hfail]
    exact runRow_ends rfl h (takes_prompt h rfl) rfl (hact.trans (if_pos hfail))
  · rw [if_neg hfail]
    exact runRow_ends rfl h (takes_prompt h rfl) rfl (hact.trans (if_neg hfail))

/-! ### The activation asked for (R422) -/

theorem activateAt_row (h : s.takes bodyActivateAt c = true) :
    runRow bodyActivateAt c s =
      (s.deferred bodyActivateAt c).onFw fun w => { w with
        pendingAct := some { slot := c.par 0 1, target := BitVec.ofNat 64 (c.par 8 8), cmd := some (s.cmd.accepted, c) } } := by
  have hnone : s.reached bodyActivateAt c = s := State.reached_none rfl
  have hstill : (s.deferred bodyActivateAt c).still := hnone ▸ takes_deferred_still h
  refine runRow_goesOn rfl h (takes_defers h) rfl ?_ hstill
  rw [hnone]
  rfl

/-! ### The safety sequencer (R401, R402, R406, R408, R414) -/

theorem safeHoldExit_row (h : s.takes bodySafeHoldExit c = true) :
    runRow bodySafeHoldExit c s =
      if s.safety.hold = false then s.replied c { status := .ok }
      else if (s.given c).holdReasons ≠ 0 then
        s.replied c { status := .notReady, detail := s.fw.state.code, result := (s.given c).holdReasons }
      else (s.given c).leaveHold.ends s.cmd.accepted c { status := .ok } := by
  by_cases hout : s.safety.hold = false
  · have hnot : (!(s.given c).safety.hold) = true := congrArg not hout
    rw [if_pos hout]
    exact runRow_replied_given rfl h rfl rfl rfl (if_pos hnot)
  · have hin : ¬ (!(s.given c).safety.hold) = true := by rw [Bool.not_eq_true']; exact hout
    rw [if_neg hout]
    by_cases hreason : (s.given c).holdReasons ≠ 0
    · rw [if_pos hreason]
      exact runRow_replied_given rfl h rfl rfl rfl ((if_neg hin).trans (if_pos hreason))
    · rw [if_neg hreason]
      exact runRow_ends_given rfl h rfl rfl rfl ((if_neg hin).trans (if_neg hreason))

theorem safetyCfg_reaction (hfunc : c.par 0 1 = 0) (token : Nat) :
    bodySafetyCfg.act token c s = Act.ok (s.setReaction (c.par 1 1) (c.par 2 1)) := by
  unfold bodySafetyCfg
  dsimp only
  rw [hfunc]
  rfl

/-- What SAFETY_CFG writes of the watchdogs. -/
def State.setWatchdogs (s : State) (c : Cmd) : State :=
  s.onSafety fun y => { y with wdogMs := c.par 2 2, wdogEn := c.flag 4 0, wdogA := s.worked, wdogB := s.worked }

theorem safetyCfg_watchdogs (hfunc : c.par 0 1 = 1) (token : Nat) :
    bodySafetyCfg.act token c s = Act.ok (s.setWatchdogs c) := by
  unfold bodySafetyCfg
  dsimp only
  rw [hfunc]
  rfl

theorem safetyCfg_hold (h0 : c.par 0 1 ≠ 0) (h1 : c.par 0 1 ≠ 1) (token : Nat) :
    bodySafetyCfg.act token c s = Act.ok (s.enterHold 0) := by
  unfold bodySafetyCfg
  dsimp only
  split
  · exact absurd ‹_› h0
  · exact absurd ‹_› h1
  · rfl

/-- A command that ends at once, with a write of the safety partition alone. -/
theorem runRow_safety {b : Body} {r : Result} {f : Safety → Safety} (hb : bodyOf b.code = some b) (h : s.takes b c = true)
    (hp : b.prompt) (htouch : b.touches c (s.given c) = []) (hf : b.fetch c (s.given c) = none)
    (ha : b.act s.cmd.accepted c (s.given c) = .done r ((s.given c).onSafety f)) :
    runRow b c s = (s.onSafety f).replied c r :=
  (runRow_leaves hb h hp htouch hf ha rfl (takes_given_still h :) :)

theorem safetyCfg_row (h : s.takes bodySafetyCfg c = true) :
    runRow bodySafetyCfg c s =
      if c.par 0 1 = 0 then ((s.given c).setReaction (c.par 1 1) (c.par 2 1)).ends s.cmd.accepted c { status := .ok }
      else if c.par 0 1 = 1 then
        (s.onSafety fun y =>
          { y with wdogMs := c.par 2 2, wdogEn := c.flag 4 0, wdogA := s.worked, wdogB := s.worked }).replied c
          { status := .ok }
      else ((s.given c).enterHold 0).ends s.cmd.accepted c { status := .ok } := by
  by_cases h0 : c.par 0 1 = 0
  · rw [if_pos h0]
    exact runRow_ends_given rfl h rfl rfl rfl (safetyCfg_reaction h0 _)
  · rw [if_neg h0]
    by_cases h1 : c.par 0 1 = 1
    · rw [if_pos h1]
      exact runRow_safety rfl h rfl rfl rfl (safetyCfg_watchdogs h1 _)
    · rw [if_neg h1]
      exact runRow_ends_given rfl h rfl rfl rfl (safetyCfg_hold h0 h1 _)

/-- LIFECYCLE_SET counts a wrong code of RMA, and else moves the lifecycle (R414). -/
theorem lifecycleSet_row (h : s.takes bodyLifecycleSet c = true) :
    runRow bodyLifecycleSet c s =
      if s.safety.lifecycle = 2 ∧ c.par 0 1 = 3 ∧ BitVec.ofNat 32 (c.par 4 4) ≠ s.fw.otp.rmaCode then
        (s.onSafety fun y => { y with fails := y.fails + 1 }).replied c { status := .perm }
      else ((s.given c).lifecycleSet (c.par 0 1)).ends s.cmd.accepted c { status := .ok } := by
  by_cases hwrong : s.safety.lifecycle = 2 ∧ c.par 0 1 = 3 ∧ BitVec.ofNat 32 (c.par 4 4) ≠ s.fw.otp.rmaCode
  · rw [if_pos hwrong]
    exact runRow_safety rfl h rfl rfl rfl (if_pos hwrong)
  · rw [if_neg hwrong]
    exact runRow_ends_given rfl h rfl rfl rfl (if_neg hwrong)

end

/-- Settles O17: the commands that choose have a lemma above that goes through their choice; the others end with the one thing
that they do. -/
theorem firmwareAndSafetyCommands : Obligations.FirmwareAndSafetyCommands := by
  refine ⟨fun c s => ⟨fun h => ?_, fun h => ?_, fun h => ?_, fun h => ?_, fun h => ?_, fun h => ?_⟩,
    fun c s => ⟨fun h => ?_, fun h => ?_, fun h => ?_, fun h => ?_, fun h => ?_⟩⟩
  · exact congrArg Host.Outcome.next (runRow_replied_given (b := bodyFwQuery) rfl h rfl rfl rfl rfl)
  · exact congrArg Host.Outcome.next (activateAt_row h)
  · exact congrArg Host.Outcome.next (runRow_ends_given (b := bodyHealthOk) rfl h rfl rfl rfl rfl)
  · exact congrArg Host.Outcome.next (runRow_leaves (b := bodyConfirmWindowSet) rfl h rfl rfl rfl rfl rfl
      (takes_given_still h) :)
  · exact congrArg Host.Outcome.next (runRow_ends_given (b := bodySettingsDefault) rfl h rfl rfl rfl rfl)
  · exact fun hclean hgood => congrArg Host.Outcome.next (settingsWrite_row h hclean hgood)
  · exact congrArg Host.Outcome.next (safeHoldExit_row h)
  · exact congrArg Host.Outcome.next (runRow_running_given (b := bodyHalfReset) rfl h rfl rfl rfl rfl)
  · exact congrArg Host.Outcome.next (runRow_ends_given (b := bodyCrookAssign) rfl h rfl rfl rfl rfl)
  · exact congrArg Host.Outcome.next (safetyCfg_row h)
  · exact congrArg Host.Outcome.next (lifecycleSet_row h)

end Sys2Proof.Machine
end
